-- ==== Sys2Proof/Word.lean ====
section
/-!
DEFINITION. The word types of the RV8Q40 model and the sorted key and value list that its stores are made of.
Every store of the machine (the object dictionary, DRAM, SRAM, the tag and group tables) is an `SMap`: an association
list in one canonical form, keys strictly rising and no entry equal to what an unlisted key reads as, so that equal
stores are equal data.
-/

namespace Sys2Proof

/-- A byte as a frame, the memory or a packet carries it. -/
abbrev Byte := BitVec 8

/-- A store: pairs of a key and a value, keys strictly rising in the canonical form. -/
abbrev SMap (α : Type) := List (Nat × α)

end Sys2Proof
end

