-- ==== Sys2Proof/Syntax.lean ====
section
/-!
DEFINITION. The commands of the RV8Q40: one constructor of `Instr` per row of spec/opcode_table.json, with the
operands of its row. The first operand `t` of every command is the local time in ns at which it reaches the block.
What an analog part, a far end of a link or a self-test found stands in the operands of the command that reports it.
-/

namespace Sys2Proof

/-- The management ports (R350). -/
inductive Port where
  | can | spi
deriving DecidableEq, Repr

/-- The fields of a Wenip request header that name its sender (R353). -/
structure Hdr where
  port : Port
  tag  : BitVec 12
  gen  : BitVec 4
deriving DecidableEq, Repr

/-- A Wenip request frame, its opcode apart (R353, R354). -/
structure Frame where
  hdr   : Hdr
  index : BitVec 16
  sub   : BitVec 8
  data  : List Byte
deriving DecidableEq, Repr

/-- What the fuse read of a start finds (R4, R371, R456). -/
structure FuseRead where
  factoryOk  : Bool                  -- the factory field passes its CRC
  customerOk : Bool                  -- the customer field passes its CRC
  blank      : Bool                  -- the customer field is blank
  bands      : Fin 3                 -- band count 1, 2 or 4, as a power of two
  key        : Option (List Byte)    -- the Factory key of the customer field
  pmbAddr    : BitVec 7              -- PMBus address of the VCORE regulator (R446)
  pmbClk     : Fin 3                 -- PMBus clock rate code
  pmbPec     : Bool                  -- PMBus packet error checking is on
  pmbVexp    : Fin 9                 -- LINEAR16 exponent, from -16
deriving DecidableEq, Repr

/-- What BOOT finds (R25, R372, R457, R472, R488). -/
structure BootReport where
  selfTest : Bool                    -- the self-test passes
  patchOk  : Bool                    -- the image of the patch to run passes its check
  jrnDev   : Nat                     -- size of the journal device in MiB; 0 for none or one without a needed feature
  jrnBlank : Bool                    -- the journal device is blank
  jrnDtr   : Bool                    -- quad DTR reads are available
  jrnFault : Fin 3                   -- 0 the newest generation is valid, 1 the older one is used, 2 none is valid
  torn     : Bool                    -- a record other than the last failed its CRC
  retCorr  : Nat                     -- words of the retention area corrected (R445)
  retLost  : Bool                    -- a word of the settings image is uncorrectable (R445)
deriving DecidableEq, Repr

/-- Bits in the order of the line: the first is the most significant of the `len` bits of `bits` (R55). -/
structure LineBits where
  len  : Nat
  bits : Nat
deriving DecidableEq, Repr

/-- A training message as received (R64). -/
structure TrainIn where
  ttype  : BitVec 4
  lane   : BitVec 4
  frate  : BitVec 4
  brate  : BitVec 4
  mask   : BitVec 16
  bmask  : BitVec 4
  lcn    : BitVec 4
  tseq   : BitVec 16
  crc    : BitVec 8
  copies : Nat                       -- consecutive identical copies of the message
deriving DecidableEq, Repr

/-- What the scrub, or any read, finds in an ECC word (R161, R170). -/
inductive WordState where
  | clean | correctable | uncorrectable
deriving DecidableEq, Repr

/-- Which supply has entered its window (R457). -/
inductive Supply where
  | vdram | vlane | viocd
deriving DecidableEq, Repr

/-- What triggers the PFAIL path (R315). -/
inductive PfailSrc where
  | vcore | vdram | vlane | vioAb | vaon | vioCd | pgood
deriving DecidableEq, Repr

/-- The clocked domains, in the order of their subindices (R459): lanes 16 and 17 are the back lanes. -/
inductive Domain where
  | lane (n : Fin 18) | band (n : Fin 4) | raster | can | spi | pmbus | qspi | aon
deriving DecidableEq, Repr

/-- Why a handshake answer is a refusal (R432, R433). -/
inductive SleepAnswer where
  | accept | refuse (cause : BitVec 8)
deriving DecidableEq, Repr

/-- How a driver lane or chain acceptance test ended (R254). -/
inductive StepResult where
  | passed | failed
deriving DecidableEq, Repr

/-- A frame of GYL_D as received, after its start delimiter (R403). -/
structure GylIn where
  header : BitVec 32
  data   : List (BitVec 8)
  crc    : BitVec 16
deriving DecidableEq, Repr

/-- The commands. -/
inductive Instr where
  -- power-on, resets and the operating state
  | powerOnReset (t : Nat) (retentionLost : Bool) (straps : List (BitVec 12))
  | fuseLoad (t : Nat)
  | pgoodRise (t : Nat)
  | supplyInWindow (t : Nat) (which : Supply)
  | supplyStartTimeout (t : Nat)
  | supplyRetryTimer (t : Nat)
  | dieLeavesReset (t : Nat) (fuses : FuseRead) (testMode : Bool)
  | bootEnd (t : Nat) (report : BootReport)
  | pinReset (t : Nat) (lowUs : Nat)
  | rstSoft (t : Nat) (hdr : Hdr) (value : BitVec 8)
  | lockstepReset (t : Nat)
  | resetStretchEnd (t : Nat) (fuses : FuseRead) (extLowUs : Nat) (testMode : Bool)
  | devStateRun (t : Nat) (hdr : Hdr)
  | devStateSetup (t : Nat) (hdr : Hdr)
  | safClear (t : Nat) (hdr : Hdr) (value : BitVec 8)
  | safBandclr (t : Nat) (hdr : Hdr) (value : BitVec 8)
  | sealCfg (t : Nat) (hdr : Hdr)
  | unsealCfg (t : Nat) (hdr : Hdr)
  | safInjGo (t : Nat) (hdr : Hdr) (value : BitVec 8)
  | configCrcCheck (t : Nat) (corrupt : Bool)
  | configReloadTimeout (t : Nat)
  | lockstepMismatch (t : Nat)
  | coreWatchdogExpiry (t : Nat)
  -- pixel link
  | laneBlockReceived (t : Nat) (lane : Fin 16) (line : LineBits) (skew : Int)
  | trainMessageReceived (t : Nat) (lane : Fin 16) (msg : TrainIn)
  | detectLockWaitEnd (t : Nat)
  | capTimeout (t : Nat)
  | stepIdleEnd (t : Nat)
  | acceptanceTestDone (t : Nat) (eyes : List (List Nat))
  | resultTimeout (t : Nat)
  | goTimeout (t : Nat)
  | cdrLossOfLock (t : Nat) (lane : Fin 16)
  | reconfigTimeout (t : Nat)
  | pxlRetrain (t : Nat) (hdr : Hdr) (value : BitVec 8)
  | backgroundRetrainDone (t : Nat) (lane : Fin 16) (eyes : List Nat)
  | backgroundRetryTimer (t : Nat) (lane : Fin 16)
  | forwardLaneActivity (t : Nat) (active : Bool)
  | laneRelockDone (t : Nat) (locked : BitVec 16)
  | pxlPrbsStart (t : Nat) (hdr : Hdr) (value : BitVec 8)
  | prbsTestEnd (t : Nat) (received : List LineBits)
  -- tile transactions
  | tile (t : Nat) (hdr : BitVec 128) (payload : List (BitVec 32)) (crc : BitVec 32)
  | token (t : Nat) (hdr : BitVec 128)
  | groupBegin (t : Nat) (hdr : BitVec 128)
  | groupEnd (t : Nat) (hdr : BitVec 128)
  | srcframe (t : Nat) (hdr : BitVec 128)
  | linkctlSwitch (t : Nat)
  | linkctlSleep (t : Nat)
  | linkctlBackloss (t : Nat) (hdr : BitVec 128)
  | linkctlDigestReq (t : Nat)
  | linkctlBadop (t : Nat) (hdr : BitVec 128)
  | headerLost (t : Nat)
  | lakeTileDecoded (t : Nat) (tag : BitVec 13)
  | groupTimeout (t : Nat) (group : BitVec 6)
  | sourceSilent (t : Nat)
  | commitEnginePop (t : Nat)
  | commitCopyDone (t : Nat)
  | backPacketSend (t : Nat)
  -- scan, pipeline and blink
  | frameStart (t : Nat) (period : Nat) (slotCounts : List Nat) (slot0Late : List Nat)
  | rowSlotStart (t : Nat)
  | rowPrepareStart (t : Nat) (band : Fin 4) (row : Nat)
  | lineComplete (t : Nat) (band : Fin 4) (half : Bool) (row : Nat) (slack : Int)
  | tableCopySynced (t : Nat) (index : BitVec 16) (sub : BitVec 8)
  | scanShowReq (t : Nat) (hdr : Hdr) (value : BitVec 8)
  -- driver link
  | rowrepReceived (t : Nat) (band : Fin 4) (header : BitVec 64) (records : List (BitVec 192))
  | statusFrameReceived (t : Nat) (band : Fin 4) (header : BitVec 64) (records : List (BitVec 64))
  | dlkLockTimeout (t : Nat) (band : Fin 4)
  | dlkStepTestDone (t : Nat) (band : Fin 4) (result : StepResult)
  | dlkRetrain (t : Nat) (hdr : Hdr) (value : BitVec 8)
  | dlkFailedRetry (t : Nat) (band : Fin 4)
  | dlkDrvregWrite (t : Nat) (hdr : Hdr) (band : Fin 4) (value : BitVec 32)
  | recoveryDelivery (t : Nat) (band : Fin 4) (row : Nat) (pass : BitVec 48)
  -- ledger, shadow checker, regions
  | ledgerRowUpdate (t : Nat) (band : Fin 4) (row : Nat)
  | shadowRowChecked (t : Nat) (band : Fin 4) (row : Nat) (codes : List (Fin 7680 × Fin 6 × BitVec 10)) (lag : Nat)
  | regionCommitReq (t : Nat) (hdr : Hdr) (value : BitVec 8)
  -- lake memory jobs
  | lakeStart (t : Nat) (hdr : Hdr)
  | lakeResume (t : Nat) (hdr : Hdr)
  | lakeRawblk (t : Nat) (hdr : Hdr)
  | lakeSuspend (t : Nat) (hdr : Hdr)
  | lakeCancel (t : Nat) (hdr : Hdr)
  | lakeCtxWrite (t : Nat) (hdr : Hdr) (ctx : BitVec 512)
  | lakeBlockDone (t : Nat)
  | lakeQuantumExpiry (t : Nat)
  -- memory and banks
  | scrubStep (t : Nat) (found : WordState) (overwritten : Bool)
  | dramTempRead (t : Nat) (die0 : Option Int) (die1 : Option Int)
  | rowCopyDone (t : Nat)
  | bnkOwnerWrite (t : Nat) (hdr : Hdr) (bank : Fin 16) (value : BitVec 8)
  | bankRelease (t : Nat) (bank : Fin 16)
  | bankReleaseTimeout (t : Nat) (bank : Fin 16)
  | bankClearDone (t : Nat) (bank : Fin 16)
  | bnkPeekData (t : Nat) (hdr : Hdr) (write : Option (BitVec 64)) (collided : Bool)
  | sramScrubStep (t : Nat) (found other : WordState) (lost : Bool)
  -- panel power, crack loops
  | railPowerUpReq (t : Nat) (hdr : Hdr) (bands : BitVec 4)
  | railDownReq (t : Nat) (hdr : Hdr) (bands : BitVec 4)
  | autorailRequest (t : Nat)
  | bandStaggerTimer (t : Nat) (band : Fin 4)
  | tpdoffExpiry (t : Nat) (band : Fin 4)
  | triseExpiry (t : Nat) (band : Fin 4)
  | dischargeDelayExpiry (t : Nat) (band : Fin 4)
  | pfailTrigger (t : Nat) (source : PfailSrc)
  | lampblackPdisTimer (t : Nat) (band : Fin 4)
  | lampblackComplete (t : Nat)
  | vresSupplySwitch (t : Nat)
  | vresSupplyEnd (t : Nat)
  | pnlVrestest (t : Nat) (hdr : Hdr) (value : BitVec 8)
  | vresTestDone (t : Nat) (dropMv : Nat)
  | crackCheckTimer (t : Nat)
  | crackStepDone (t : Nat) (v1 : BitVec 12) (v2 : BitVec 12)
  | crackCheckLate (t : Nat)
  | pnlCrklearn (t : Nat) (hdr : Hdr) (value : BitVec 8)
  -- ADC and calibration
  | adcScheduled (t : Nat) (input : Fin 16)
  | calAdctrig (t : Nat) (hdr : Hdr) (input : BitVec 8)
  | supplyConversionDone (t : Nat) (code : BitVec 12)
  | calrepReceived (t : Nat) (band : Fin 4) (header : BitVec 64) (words : List (BitVec 32))
  | calStart (t : Nat) (hdr : Hdr)
  | calResume (t : Nat) (hdr : Hdr)
  | calAbort (t : Nat) (hdr : Hdr)
  | calCommit (t : Nat) (hdr : Hdr)
  | calDiscard (t : Nat) (hdr : Hdr)
  | calCommitDone (t : Nat)
  -- Wenip
  | openReq (t : Nat) (frame : Frame)
  | close (t : Nat) (frame : Frame)
  | read (t : Nat) (frame : Frame)
  | write (t : Nat) (frame : Frame)
  | segInit (t : Nat) (frame : Frame)
  | segData (t : Nat) (frame : Frame)
  | segRead (t : Nat) (frame : Frame)
  | segEnd (t : Nat) (frame : Frame)
  | segAbort (t : Nat) (frame : Frame)
  | challenge (t : Nat) (frame : Frame)
  | elevate (t : Nat) (frame : Frame)
  | drop (t : Nat) (frame : Frame)
  | undefinedOpcode (t : Nat) (opcode : BitVec 8) (frame : Frame)
  | spiTransactionEnd (t : Nat) (bytes : List Byte)
  | canResponseDrop (t : Nat)
  | canBusOffRecovery (t : Nat)
  | canConfigApply (t : Nat)
  | cacheEntryExpiry (t : Nat) (port : Port) (tag : BitVec 12)
  | segTimeout (t : Nat) (port : Port)
  | lockoutExpiry (t : Nat) (port : Port)
  | sessionIdleTimeout (t : Nat) (port : Port)
  | wnpEvtpendWrite (t : Nat) (hdr : Hdr) (value : BitVec 16)
  | devEvclr (t : Nat) (hdr : Hdr) (value : BitVec 8)
  | patchActivate (t : Nat) (hdr : Hdr)
  | patchDiscard (t : Nat) (hdr : Hdr)
  -- Gylor
  | syncWord (t : Nat) (word : BitVec 96)
  | syncWaitTimeout (t : Nat)
  | rollTimer (t : Nat)
  | roll (t : Nat) (frame : GylIn)
  | status (t : Nat) (frame : GylIn)
  | prepare (t : Nat) (frame : GylIn)
  | ready (t : Nat) (frame : GylIn)
  | refuse (t : Nat) (frame : GylIn)
  | commit (t : Nat) (frame : GylIn)
  | abort (t : Nat) (frame : GylIn)
  | resendReq (t : Nat) (frame : GylIn)
  | vector (t : Nat) (frame : GylIn)
  | snap (t : Nat) (frame : GylIn)
  | gylCmtReq (t : Nat) (hdr : Hdr) (value : BitVec 8)
  | gylRealign (t : Nat) (hdr : Hdr) (value : BitVec 8)
  | gylSnapnow (t : Nat) (hdr : Hdr) (value : BitVec 8)
  | snapPeriodTimer (t : Nat)
  | gylWakenow (t : Nat) (hdr : Hdr) (value : BitVec 8)
  | wakeRepeatTimer (t : Nat)
  | wakePhrase (t : Nat) (phrase : BitVec 32) (firstBitAt : Nat)
  | wakeSlotExpiry (t : Nat)
  -- power states
  | pwrReqP0 (t : Nat) (hdr : Hdr)
  | pwrReqP1 (t : Nat) (hdr : Hdr)
  | pwrReqP2 (t : Nat) (hdr : Hdr)
  | pwrReqP3 (t : Nat) (hdr : Hdr)
  | handshakeAnswer (t : Nat) (answer : SleepAnswer)
  | handshakeTimeout (t : Nat)
  | sleepRetryTimer (t : Nat)
  | p3PenOffTimer (t : Nat)
  | wakeN (t : Nat) (low : Bool)
  | p3TimerExpiry (t : Nat)
  | p2WakeDone (t : Nat)
  | vioAbWaitTimeout (t : Nat)
  | pmbusAttemptDone (t : Nat) (acked : Bool) (statusWord : BitVec 16) (pgood : Bool)
  | pmbusAttemptTimeout (t : Nat)
  | pmbAlert (t : Nat) (statusWord : BitVec 16)
  | pmbHoldoffExpiry (t : Nat)
  | pwrPadrel (t : Nat) (hdr : Hdr) (value : BitVec 8)
  -- crossings
  | clockMonitorTimeout (t : Nat) (domain : Domain)
  | interfaceResetTimer (t : Nat) (domain : Domain)
  | bandPllResetTimer (t : Nat) (band : Fin 4) (relocked : Bool)
  | peerResetClear (t : Nat) (domain : Domain)
  | spiSckStall (t : Nat) (bytes : List Byte)
  -- journal, telemetry, counters
  | journalRecordWrite (t : Nat) (ok : Bool)
  | ringHoldDrop (t : Nat)
  | compactionDone (t : Nat) (ok : Bool)
  | jrnCmdCompact (t : Nat) (hdr : Hdr)
  | jrnCmdFormat (t : Nat) (hdr : Hdr)
  | jrnCmdLock (t : Nat) (hdr : Hdr)
  | jrnCmdAsbuilt (t : Nat) (hdr : Hdr)
  | ledgerPieceTimer (t : Nat)
  | doseHourlyTimer (t : Nat)
  | mapRestoreDone (t : Nat) (badBands : BitVec 4) (badPieces : List Nat)
  | tlmSnapcmd (t : Nat) (hdr : Hdr) (value : BitVec 8)
  | evcSelWrite (t : Nat) (hdr : Hdr) (counter : Fin 32) (value : BitVec 8)
  | evcClear (t : Nat) (hdr : Hdr) (value : BitVec 32)
  -- rows of the additional part of the table
  | markerMissing (t : Nat) (lane : Fin 16)
  | vaonOutOfWindow (t : Nat)
  | canResponseTransmitted (t : Nat)
  | canBusOff (t : Nat)
  | canFrameIgnored (t : Nat)
  | gylorFrameDiscarded (t : Nat) (slot : Option (Fin 64)) (own : Bool)
  | replyWindowClose (t : Nat)
  | vioAbPresent (t : Nat)
  | padClassDecision (t : Nat) (ab : Bool) (mv : Nat)
  | dramRefresh (t : Nat) (die : Fin 2) (completed parityErr : Bool)
  | mapWordRewrite (t : Nat) (word : Nat) (value : BitVec 64)
deriving DecidableEq, Repr

end Sys2Proof
end

