-- ==== Sys2Proof/Decode.lean ====
section
/-!
DEFINITION. The command that a word spells. No row of the opcode table gives its command any bits, so no word spells
one.
-/

namespace Sys2Proof

/-- The command of a word numbered as the opcode table numbers bits: the table gives no row bits. -/
def decodeTableWord (_nbits _w : Nat) : Option Instr := none

end Sys2Proof
end

