-- ==== Sys2Proof/Machine/Bits.lean ====
section
/-!
DEFINITION. Bit fields, byte order, signed readings, saturation, the checksums of the spec and the operations of the
sorted stores.
-/

namespace Sys2Proof.Machine

/-! ## Sorted stores -/

/-- The value listed at a key, if any. -/
def look {α : Type} : SMap α → Nat → Option α
  | [], _ => none
  | (k, v) :: r, j => if k = j then some v else look r j

/-- List `v` at key `j`, keeping the keys rising. -/
def ins {α : Type} : SMap α → Nat → α → SMap α
  | [], j, v => [(j, v)]
  | (k, u) :: r, j, v =>
    if j < k then (j, v) :: (k, u) :: r
    else if j = k then (j, v) :: r
    else (k, u) :: ins r j v

/-- Remove every entry of key `j`. -/
def del {α : Type} : SMap α → Nat → SMap α
  | [], _ => []
  | (k, u) :: r, j => if k = j then del r j else (k, u) :: del r j

/-- Read a store whose unlisted keys read as `d`. -/
def get {α : Type} (d : Nat → α) (m : SMap α) (k : Nat) : α := (look m k).getD (d k)

/-- Write a store: the value an unlisted key reads as is never listed. -/
def put {α : Type} [DecidableEq α] (d : Nat → α) (m : SMap α) (k : Nat) (v : α) : SMap α :=
  if v = d k then del m k else ins m k v

/-- Apply a function to the value at a key. -/
def upd {α : Type} [DecidableEq α] (d : Nat → α) (m : SMap α) (k : Nat) (f : α → α) : SMap α :=
  put d m k (f (get d m k))

/-- The entries whose keys are at least `lo` come first to hand. -/
def fromKey {α : Type} (m : SMap α) (lo : Nat) : SMap α := m.dropWhile (fun e => e.1 < lo)

/-- The entries with keys in `[lo, hi)`. -/
def within {α : Type} (m : SMap α) (lo hi : Nat) : SMap α := (fromKey m lo).takeWhile (fun e => e.1 < hi)

/-- Replace the entries with keys in `[lo, hi)` by `mid`, whose keys lie there. -/
def splice {α : Type} (m : SMap α) (lo hi : Nat) (mid : SMap α) : SMap α :=
  m.takeWhile (fun e => e.1 < lo) ++ mid ++ fromKey m hi

/-- Keys strictly rise, all above `lo` when one is given. -/
def risingFrom {α : Type} : Option Nat → SMap α → Bool
  | _, [] => true
  | none, (k, _) :: r => risingFrom (some k) r
  | some p, (k, _) :: r => decide (p < k) && risingFrom (some k) r

/-- The canonical form: keys strictly rise and no entry equals what an unlisted key reads as. -/
def canon {α : Type} [DecidableEq α] (d : Nat → α) (m : SMap α) : Bool :=
  risingFrom none m && m.all (fun e => decide (e.2 ≠ d e.1))

/-! ## Bit fields and bytes -/

/-- The field of `w` bits at bit `lo`. -/
def field (n lo w : Nat) : Nat := n / 2 ^ lo % 2 ^ w

/-- Bit `i`. -/
def bit (n i : Nat) : Bool := n / 2 ^ i % 2 = 1

/-- 1 for true, 0 for false, as a status bit or a BOOL travels. -/
def b2n (b : Bool) : Nat := if b then 1 else 0

/-- Set bit `i`. -/
def setBit (n i : Nat) : Nat := if bit n i then n else n + 2 ^ i

/-- Clear bit `i`. -/
def clearBit (n i : Nat) : Nat := if bit n i then n - 2 ^ i else n

/-- Set or clear bit `i`. -/
def putBit (n i : Nat) (b : Bool) : Nat := if b then setBit n i else clearBit n i

/-- Pack bits, least significant first. -/
def ofBits : List Bool → Nat
  | [] => 0
  | b :: r => b2n b + 2 * ofBits r

/-- The low `w` bits, least significant first. -/
def toBits (n : Nat) : Nat → List Bool
  | 0 => []
  | w + 1 => (n % 2 = 1 : Bool) :: toBits (n / 2) w

/-- A saturating increment of a counter whose largest value is `top` (R382). -/
def satInc (top n : Nat) : Nat := if n < top then n + 1 else n

/-- A saturating addition. -/
def satAdd (top n k : Nat) : Nat := min top (n + k)

/-- Clamp an integer to `[lo, hi]`. -/
def clampI (lo hi x : Int) : Int := max lo (min hi x)

/-- Read `w` bits as a two's complement number. -/
def toSigned (w n : Nat) : Int := if n % 2 ^ w < 2 ^ (w - 1) then (n % 2 ^ w : Nat) else (n % 2 ^ w : Nat) - (2 ^ w : Nat)

/-- The `w` bits of a two's complement number. -/
def ofSigned (w : Nat) (x : Int) : Nat := (x % (2 ^ w : Nat)).toNat

/-- The number a byte list spells, most significant byte first (R353). -/
def ofBE (bs : List Byte) : Nat := bs.foldl (fun a b => 256 * a + b.toNat) 0

/-- The `k` bytes of a number, most significant first. -/
def toBE : Nat → Nat → List Byte
  | 0, _ => []
  | k + 1, n => BitVec.ofNat 8 (n / 256 ^ k) :: toBE k n

/-- The number a byte list spells, least significant byte first. -/
def ofLE : List Byte → Nat
  | [] => 0
  | b :: r => b.toNat + 256 * ofLE r

/-- The `k` bytes of a number, least significant first. -/
def toLE : Nat → Nat → List Byte
  | 0, _ => []
  | k + 1, n => BitVec.ofNat 8 n :: toLE k (n / 256)

/-- Ceiling division. -/
def ceilDiv (a b : Nat) : Nat := (a + b - 1) / b

/-- Insert into an ascending list. -/
def insertAsc (x : Nat) : List Nat → List Nat
  | [] => [x]
  | y :: r => if x ≤ y then x :: y :: r else y :: insertAsc x r

/-- Sort ascending. -/
def sortAsc : List Nat → List Nat
  | [] => []
  | x :: r => insertAsc x (sortAsc r)

/-- The median, with the lower middle value where the middle pair differs (R46). -/
def lowerMedian (xs : List Nat) : Nat := (sortAsc xs).getD ((xs.length - 1) / 2) 0

/-- Highest minus lowest. -/
def span (xs : List Nat) : Nat := xs.foldl max 0 - xs.foldl min (xs.foldl max 0)

/-- Apply a function `n` times. -/
def iter {α : Type} (f : α → α) : Nat → α → α
  | 0, x => x
  | n + 1, x => iter f n (f x)

/-! ## Checksums -/

/-- One bit of a CRC whose register shifts left. -/
def crcStepL (w poly : Nat) (r : Nat) : Nat :=
  let s := 2 * r % 2 ^ w
  if r / 2 ^ (w - 1) % 2 = 1 then s ^^^ poly else s

/-- One byte, most significant bit first. -/
def crcByteL (w poly : Nat) (r : Nat) (b : Byte) : Nat :=
  iter (crcStepL w poly) 8 (r ^^^ (b.toNat * 2 ^ (w - 8)))

/-- CRC over bytes, most significant bit first, from an initial value. -/
def crcL (w poly start : Nat) (bs : List Byte) : Nat := bs.foldl (crcByteL w poly) start

/-- One bit of a CRC whose register shifts right. -/
def crcStepR (poly : Nat) (r : Nat) : Nat := if r % 2 = 1 then (r / 2) ^^^ poly else r / 2

/-- One byte of a reflected CRC. -/
def crcByteR (poly : Nat) (r : Nat) (b : Byte) : Nat := iter (crcStepR poly) 8 (r ^^^ b.toNat)

/-- The CRC-16 of R88 and R358. -/
def crc16 (bs : List Byte) : Nat := crcL 16 0x1021 0xFFFF bs

/-- The running register of the CRC-32 of R90, before its final XOR. -/
def crc32Run (r : Nat) (bs : List Byte) : Nat := bs.foldl (crcByteR 0xEDB88320) r

/-- The CRC-32 of R90. -/
def crc32 (bs : List Byte) : Nat := crc32Run 0xFFFFFFFF bs ^^^ 0xFFFFFFFF

/-- The CRC-8 of a lane marker (R57): polynomial 0x07, initial value 0. -/
def crc8 (bs : List Byte) : Nat := crcL 8 0x07 0 bs

end Sys2Proof.Machine
end

