-- ==== Sys2Proof/Machine/StateLine.lean ====
section
/-!
DEFINITION. State of one lane's line code (R55 to R58, R64), shared by the pixel link and the driver link.
-/

namespace Sys2Proof.Machine

/-- The run of equal bits that a lane has carried last (R57). -/
structure BitRun where
  last : Bool
  len  : Nat                -- 0 before the first bit, and after a violation
deriving DecidableEq, Repr

/-- The transmitter of a lane. -/
structure LaneTx where
  hist : BitVec 23          -- scrambler history, bit 0 the bit sent last (R56)
  run  : BitRun             -- stuffing (R57)
deriving DecidableEq, Repr

/-- A marker as received (R58). -/
structure MarkerIn where
  sync   : Nat
  lane   : Nat
  lcn    : Nat
  seq    : Nat
  type   : Nat
  hdrPtr : Nat
  crcOk  : Bool
deriving DecidableEq, Repr

/-- A training message (R64). -/
structure TrainMsg where
  ttype : Nat
  frate : Nat
  brate : Nat
  mask  : Nat
  bmask : Nat
  lcn   : Nat
deriving DecidableEq, Repr

/-- A run before the first bit. -/
def BitRun.start : BitRun := ⟨false, 0⟩

/-- A transmitter that has sent nothing. -/
def LaneTx.start : LaneTx := ⟨0, .start⟩

end Sys2Proof.Machine
end

