-- ==== Sys2Proof/Machine/LineCode.lean ====
section
/-!
DEFINITION. The line code of the pixel link and of the driver link (R55 to R59, R61, R64, R80, R233): scrambler, stuffing,
markers, blocks, training messages and the PRBS patterns.
-/

namespace Sys2Proof.Machine

/-! ## Bits in the order of the line -/

/-- Apply a function to the low `n` bits of a number, the most significant first (R55). -/
def eachBit {α : Type} (f : Bool → α → α) : Nat → Nat → α → α
  | 0, _, a => a
  | n + 1, v, a => eachBit f n v (f (bit v n) a)

/-- Append a bit. -/
def linePush (x : LineBits) (b : Bool) : LineBits := ⟨x.len + 1, 2 * x.bits + b2n b⟩

/-- The field of `w` bits that starts `p` bits after the first; bits that did not come read 0. -/
def lineTake (x : LineBits) (p w : Nat) : Nat :=
  if p + w ≤ x.len then field x.bits (x.len - p - w) w else x.bits * 2 ^ (p + w - x.len) % 2 ^ w

/-- The value of consecutive 32-bit words, most significant first. -/
def wordsVal (ws : List (BitVec 32)) : Nat := ws.foldl (fun a w => a * 2 ^ 32 + w.toNat) 0

/-- The `n` words of a slot's bits. -/
def slotWords : Nat → Nat → List (BitVec 32)
  | 0, _ => []
  | n + 1, v => BitVec.ofNat 32 (v / 2 ^ (32 * n)) :: slotWords n v

/-! ## Stuffing (R57) -/

/-- The run of equal bits after one more. -/
def BitRun.next (r : BitRun) (b : Bool) : BitRun := ⟨b, if r.len ≠ 0 ∧ r.last = b then r.len + 1 else 1⟩

/-- One bit goes onto the line: after 31 equal bits follows their complement, which starts a new run of length 1. -/
def stuffBit (b : Bool) (a : BitRun × LineBits) : BitRun × LineBits :=
  let r := a.1.next b
  if r.len = 31 then (⟨!b, 1⟩, linePush (linePush a.2 b) (!b)) else (r, linePush a.2 b)

/-- What a receiver has of a stretch of the line: its run, the bits without stuffing, and the violations. -/
structure Destuffed where
  run : BitRun
  out : LineBits
  bad : Nat
deriving DecidableEq, Repr

/-- One bit comes off the line: the bit after 31 equal ones is removed, and is a violation when it equals them. -/
def destuffBit (b : Bool) (d : Destuffed) : Destuffed :=
  if d.run.len = 31 then
    if b = d.run.last then { d with run := ⟨b, 0⟩, bad := d.bad + 1 } else { d with run := ⟨b, 1⟩ }
  else { d with run := d.run.next b, out := linePush d.out b }

/-- Remove the stuffing of a stretch of the line. -/
def destuff (r : BitRun) (x : LineBits) : Destuffed := eachBit destuffBit x.len x.bits ⟨r, ⟨0, 0⟩, 0⟩

/-! ## Scrambling (R56) -/

/-- One payload bit is scrambled; bit 0 of the history is the bit sent last. -/
def scrambleBit (d : Bool) (a : BitVec 23 × LineBits) : BitVec 23 × LineBits :=
  let h := a.1.toNat
  let t := d ^^ bit h 17 ^^ bit h 22
  (BitVec.ofNat 23 (2 * h + b2n t), linePush a.2 t)

/-- Undo the scrambler of R56 for one word, `h` the last 23 bits received. -/
def descramble (h : Nat) (w : Nat) : Nat × Nat :=
  let t := h * 2 ^ 32 + w
  ((w ^^^ (t / 2 ^ 18) ^^^ (t / 2 ^ 23)) % 2 ^ 32, t % 2 ^ 23)

/-- Descramble a payload: its words and the history after it. -/
def descrambleAll : Nat → List (BitVec 32) → List (BitVec 32) × Nat
  | h, [] => ([], h)
  | h, w :: r =>
    let (d, h1) := descramble h w.toNat
    let (ds, h2) := descrambleAll h1 r
    (BitVec.ofNat 32 d :: ds, h2)

/-! ## Markers and blocks (R55, R58, R61, R233) -/

/-- A marker: `who` is LANE and LCN on the pixel link, DRV on the driver link. -/
def markerWord (sync who seq type ptr : Nat) : Nat :=
  let body := sync * 2 ^ 32 + who % 256 * 2 ^ 24 + seq % 256 * 2 ^ 16 + type * 2 ^ 14 + ptr % 4096
  body * 2 ^ 8 + crc8 (toBE 7 body)

/-- The marker that 64 bits spell (R58). -/
def MarkerIn.ofBits (n : Nat) : MarkerIn where
  sync := field n 40 24
  lane := field n 36 4
  lcn := field n 32 4
  seq := field n 24 8
  type := field n 22 2
  hdrPtr := field n 8 12
  crcOk := decide (crc8 (toBE 7 (n / 2 ^ 8)) = n % 2 ^ 8)

/-- The whole words of a block's payload, behind its 64 marker bits. -/
def payloadWords (x : LineBits) : List (BitVec 32) :=
  (List.range ((x.len - 64) / 32)).map (fun i => BitVec.ofNat 32 (lineTake x (64 + 32 * i) 32))

/-- A block goes onto a lane: its marker, its payload scrambled, and both stuffed (R55). -/
def LaneTx.send (marker : Nat) (payload : List (BitVec 32)) (a : LaneTx × LineBits) : LaneTx × LineBits :=
  let (h, p) := eachBit scrambleBit (32 * payload.length) (wordsVal payload) (a.1.hist, ⟨0, 0⟩)
  let (r, x) := eachBit stuffBit p.len p.bits (eachBit stuffBit 64 marker (a.1.run, a.2))
  (⟨h, r⟩, x)

/-- The words of a packet stream in blocks of `w` words, the last one filled with fill words (R61). -/
def fillBlocks : Nat → Nat → List (BitVec 32) → List (List (BitVec 32))
  | 0, _, _ => []
  | n + 1, w, ws =>
    if ws.isEmpty then []
    else (ws.take w ++ List.replicate (w - ws.length) 0) :: fillBlocks n w (ws.drop w)

/-- HDRPTR of each block of a stream whose packets start at the offsets `starts`: 0xFFF where none starts in it. -/
def blockPtr (starts : List Nat) (w i : Nat) : Nat :=
  match starts.find? (fun p => decide (w * i ≤ p ∧ p < w * i + w)) with
  | some p => p - w * i
  | none => 0xFFF

/-- The word offsets at which consecutive packets start. -/
def packetStarts : Nat → List (List (BitVec 32)) → List Nat
  | _, [] => []
  | p, ws :: r => p :: packetStarts (p + ws.length) r

/-! ## Training messages (R64) -/

/-- A training message with its TCRC over bits [63:8]. -/
def trainWord (m : TrainMsg) (lane tseq : Nat) : Nat :=
  let body := m.ttype * 2 ^ 52 + lane * 2 ^ 48 + m.frate * 2 ^ 44 + m.brate * 2 ^ 40 + m.mask * 2 ^ 24 + m.bmask * 2 ^ 20 +
    m.lcn * 2 ^ 16 + tseq
  body * 2 ^ 8 + crc8 (toBE 7 body)

/-- The payload of a TRAIN block: 64 copies of the message. -/
def trainPayload (m : TrainMsg) (lane tseq : Nat) : List (BitVec 32) :=
  (List.replicate 64 (slotWords 2 (trainWord m lane tseq))).flatten

/-! ## The CTLE search (R63) -/

/-- The step with the widest of the eye openings, steps in order; the lower step where two are equal. -/
def widestEye (eyes : List Nat) : Nat :=
  (eyes.zipIdx.foldl (fun (a : Nat × Nat) e => if a.1 < e.1 then e else a) (eyes.getD 0 0, 0)).2

/-! ## PRBS patterns (R79, R80) -/

/-- Bits of the register of a pattern: 31 for PRBS31 (0), 15 for PRBS15 (1). -/
def prbsLen (pat : Nat) : Nat := if pat = 0 then 31 else 15

/-- The next bit of a pattern whose last bits stand in `r`, bit 0 the most recent: x^31 + x^28 + 1 or x^15 + x^14 + 1. -/
def prbsBit (pat r : Nat) : Bool := if pat = 0 then bit r 30 ^^ bit r 27 else bit r 14 ^^ bit r 13

/-- The register with one more bit. -/
def prbsShift (pat r : Nat) (b : Bool) : Nat := (2 * r + b2n b) % 2 ^ prbsLen pat

/-- A forward checker. -/
structure Checker where
  reg     : Nat          -- the pattern generator
  seed    : Nat          -- bits still to take as its seed
  errors  : Nat
  resyncs : Nat
  bits    : Nat          -- bits compared in the present stretch of 65,536
  wrong   : Nat          -- mismatches in that stretch
deriving DecidableEq, Repr

/-- A checker at the start of a test. -/
def Checker.start (pat : Nat) : Checker := ⟨0, prbsLen pat, 0, 0, 0, 0⟩

/-- One received bit (R80): it seeds the checker, or is compared; more than 1,024 errors within 65,536 bits reseed it. -/
def checkBit (pat : Nat) (b : Bool) (c : Checker) : Checker :=
  if c.seed ≠ 0 then { c with reg := prbsShift pat c.reg b, seed := c.seed - 1 }
  else
    let p := prbsBit pat c.reg
    let e := b2n (p ^^ b)
    let c1 : Checker := { c with reg := prbsShift pat c.reg p, errors := c.errors + e, bits := c.bits + 1, wrong := c.wrong + e }
    if 1024 < c1.wrong then { c1 with seed := prbsLen pat, resyncs := c1.resyncs + 1, bits := 0, wrong := 0 }
    else if c1.bits = 65536 then { c1 with bits := 0, wrong := 0 }
    else c1

/-- What a checker makes of the bits a lane received in a test. -/
def checkBits (pat : Nat) (x : LineBits) : Checker := eachBit (checkBit pat) x.len x.bits (Checker.start pat)

end Sys2Proof.Machine
end

