-- ==== Sys2Proof/Machine/Lake.lean ====
section
/-!
DEFINITION. The lake coder's arithmetic (chapter 05): prediction, the block bitstream, encoding and decoding of one
block, and the decoding of a whole lake TILE.
A block is its 32 elements in line-major order, each element the list of its components.
-/

namespace Sys2Proof.Machine

/-- An element format (R125). -/
structure ElemFmt where
  comps : Nat
  width : Nat
  wb    : Nat
  bytes : Nat
deriving DecidableEq, Repr

/-- The element formats (R125). -/
def elemFmt : Nat → ElemFmt
  | 0 => ⟨3, 10, 4, 4⟩
  | 1 => ⟨2, 8, 4, 2⟩
  | _ => ⟨2, 16, 5, 4⟩

/-- The slot size S in bits (R126). -/
def slotBits (f : ElemFmt) (ratio : Nat) : Nat :=
  let raw := 32 * f.comps * f.width
  if ratio = 0 then raw / 2 else 32 * (raw / 96)

/-- The history a stream carries from block to block (R130). -/
structure Hist where
  left   : List (List Nat)
  lvalid : Bool
deriving DecidableEq, Repr

/-- The history at the first block of a stream. -/
def Hist.start : Hist := ⟨[], false⟩

/-- Component `k` of element `i` of a block. -/
def comp (blk : List (List Nat)) (i k : Nat) : Nat := (blk.getD i []).getD k 0

/-- LEFT(r, k). -/
def Hist.at (h : Hist) (r k : Nat) : Nat := (h.left.getD r []).getD k 0

/-- The prediction of component `k` of the element at line `r`, column `c` (R130). -/
def predict (h : Hist) (done : List (List Nat)) (r c k : Nat) : Int :=
  let a : Int := if c > 0 then comp done (8 * r + c - 1) k else h.at r k
  if r = 0 then a
  else
    let b : Int := comp done (8 * (r - 1) + c) k
    if c = 0 ∧ h.lvalid = false then b
    else
      let u : Int := if c > 0 then comp done (8 * (r - 1) + c - 1) k else h.at (r - 1) k
      if u ≥ max a b then min a b
      else if u ≤ min a b then max a b
      else a + b - u

/-- The history after a block (R137): its reconstructed column 7. -/
def Hist.after (blk : List (List Nat)) : Hist := ⟨[blk.getD 7 [], blk.getD 15 [], blk.getD 23 [], blk.getD 31 []], true⟩

/-- The field of `w` bits at bit `p` of a slot of `S` bits, bit 0 the first bit (R127). -/
def slotField (S slot p w : Nat) : Nat := slot / 2 ^ (S - p - w) % 2 ^ w

/-- What decoding a block gives. -/
inductive BlockRes where
  | block (elems : List (List Nat))
  | escape
  | fail (cause : Nat)
deriving DecidableEq, Repr

/-- The components of one decoded element, and the bit position after them. -/
def decodeComps (f : ElemFmt) (S slot q : Nat) (exact : Bool) (h : Hist) (ws : List Nat) (done : List (List Nat))
    (i : Nat) : Nat → Nat → List Nat → Except Nat (List Nat × Nat)
  | 0, pos, acc => .ok (acc.reverse, pos)
  | n + 1, pos, acc =>
    let k := f.comps - (n + 1)
    if h.lvalid = false ∧ i = 0 then
      decodeComps f S slot q exact h ws done i n (pos + f.width) (slotField S slot pos f.width :: acc)
    else
      let w := ws.getD k 0
      let e : Int := if w = 0 then 0 else toSigned w (slotField S slot pos w)
      let v := predict h done (i / 8) (i % 8) k + e * (2 ^ q : Nat)
      if exact = true ∧ (v < 0 ∨ v > (2 ^ f.width : Nat) - 1) then .error 6
      else decodeComps f S slot q exact h ws done i n (pos + w) ((clampI 0 ((2 ^ f.width : Nat) - 1) v).toNat :: acc)

/-- The elements of a block from element `i` on. -/
def decodeElems (f : ElemFmt) (S slot q : Nat) (exact : Bool) (h : Hist) (ws : List Nat) :
    Nat → Nat → List (List Nat) → Except Nat (List (List Nat) × Nat)
  | 0, pos, done => .ok (done, pos)
  | n + 1, pos, done =>
    match decodeComps f S slot q exact h ws done (32 - (n + 1)) f.comps pos [] with
    | .error c => .error c
    | .ok (el, pos') => decodeElems f S slot q exact h ws n pos' (done ++ [el])

/-- Decode one block, with the causes of R138 in the order of the decoding procedure (R137). -/
def decodeBlock (f : ElemFmt) (S : Nat) (exact tile : Bool) (h : Hist) (slot : Nat) : BlockRes :=
  let q := slotField S slot 0 2
  let ws := (List.range f.comps).map (fun k => slotField S slot (2 + k * f.wb) f.wb)
  let a := if h.lvalid then 0 else f.comps * f.width
  let n := if h.lvalid then 32 else 31
  let used := 2 + f.comps * f.wb + a + n * ws.foldl (· + ·) 0
  if q = 3 then
    if tile then .fail 1
    else if slotField S slot 2 (S - 2) = 0 then .escape else .fail 7
  else if exact = true ∧ q ≠ 0 then .fail 2
  else if ws.any (fun w => w > f.width + 1) then .fail 3
  else if used > S then .fail 4
  else
    match decodeElems f S slot q exact h ws 32 (2 + f.comps * f.wb) [] with
    | .error c => .fail c
    | .ok (blk, pos) => if slotField S slot pos (S - pos) = 0 then .block blk else .fail 5

/-- The smallest width that holds a residual (R134). -/
def widthOf (e : Int) : Nat :=
  if e = 0 then 0
  else if e > 0 then Nat.log2 e.toNat + 2
  else if e = -1 then 1
  else Nat.log2 (-e - 1).toNat + 2

/-- The residuals and the reconstruction of one element at shift `q` (R135). -/
def encodeElem (f : ElemFmt) (q : Nat) (h : Hist) (x : List Nat) (done : List (List Nat)) (i : Nat) :
    List Int × List Nat :=
  if h.lvalid = false ∧ i = 0 then ([], x)
  else
    let es := (List.range f.comps).map (fun k => ((x.getD k 0 : Int) - predict h done (i / 8) (i % 8) k) / (2 ^ q : Nat))
    (es, (List.range f.comps).map (fun k =>
      (clampI 0 ((2 ^ f.width : Nat) - 1) (predict h done (i / 8) (i % 8) k + es.getD k 0 * (2 ^ q : Nat))).toNat))

/-- Residuals and reconstruction of a whole block at shift `q`. -/
def encodeElems (f : ElemFmt) (q : Nat) (h : Hist) :
    List (List Nat) → Nat → List (List Int) → List (List Nat) → List (List Int) × List (List Nat)
  | [], _, es, done => (es, done)
  | x :: r, i, es, done =>
    let (e, y) := encodeElem f q h x done i
    encodeElems f q h r (i + 1) (es ++ [e]) (done ++ [y])

/-- Append a field to a bit string held as its value. -/
def pushBits (acc w n : Nat) : Nat := acc * 2 ^ w + n % 2 ^ w

/-- Encode one block: the slot's bits and the reconstruction, or no-fit (R134 to R137). -/
def encodeAt (f : ElemFmt) (S q : Nat) (h : Hist) (x : List (List Nat)) : Option (Nat × List (List Nat)) :=
  let (es, rec_) := encodeElems f q h x 0 [] []
  let ws := (List.range f.comps).map (fun k => (es.map (fun e => widthOf (e.getD k 0))).foldl max 0)
  let a := if h.lvalid then 0 else f.comps * f.width
  let n := if h.lvalid then 32 else 31
  let used := 2 + f.comps * f.wb + a + n * ws.foldl (· + ·) 0
  if used > S then none
  else
    let head := ws.foldl (fun acc w => pushBits acc f.wb w) q
    let anch := if h.lvalid then head else (x.getD 0 []).foldl (fun acc v => pushBits acc f.width v) head
    let body := es.foldl (fun acc e => (List.range e.length).foldl
      (fun acc k => pushBits acc (ws.getD k 0) (ofSigned (ws.getD k 0) (e.getD k 0))) acc) anch
    some (body * 2 ^ (S - used), rec_)

/-- Encode with the shifts the mode allows, smallest first (R136). -/
def encodeBlock (f : ElemFmt) (S : Nat) (exact : Bool) (qmax : Nat) (h : Hist) (x : List (List Nat)) :
    Option (Nat × List (List Nat)) :=
  (List.range (if exact then 1 else qmax + 1)).findSome? (fun q => encodeAt f S q h x)

/-- The escape block of R140. -/
def escapeBlock (S : Nat) : Nat := 3 * 2 ^ (S - 2)

/-- Decode one stream (block row) of a lake TILE: the blocks decoded before the first failing one, and its cause. -/
def decodeStream (S : Nat) (exact : Bool) : Nat → Hist → List (BitVec 32) → List (List (List Nat)) →
    List (List (List Nat)) × Nat
  | 0, _, _, acc => (acc, 0)
  | n + 1, h, ws, acc =>
    match decodeBlock (elemFmt 0) S exact true h (wordsVal (ws.take (S / 32))) with
    | .block b => decodeStream S exact n (Hist.after b) (ws.drop (S / 32)) (acc ++ [b])
    | .escape => (acc, 1)
    | .fail c => (acc, c)

/-- The decoding of a lake TILE (R128, R138): its 2,048 pixels, or the lowest failing block with its cause. -/
def decodeTile (code : Nat) (payload : List (BitVec 32)) : Except (Nat × Nat) (List (List Nat)) :=
  let S := slotBits (elemFmt 0) (code % 2)
  let exact := code < 2
  let rows := (List.range 8).map (fun i => decodeStream S exact 8 Hist.start (payload.drop (8 * i * (S / 32))) [])
  match (List.range 8).findSome? (fun i =>
      let r := rows.getD i ([], 0)
      if r.2 = 0 then none else some (8 * i + r.1.length, r.2)) with
  | some bc => .error bc
  | none => .ok ((List.range 2048).map (fun p =>
      let y := p / 64
      let x := p % 64
      ((((rows.getD (y / 4) ([], 0)).1).getD (x / 8) []).getD (8 * (y % 4) + x % 8) [])))

end Sys2Proof.Machine
end

