-- ==== Sys2Proof/Machine/Pixel.lean ====
section
/-!
DEFINITION. The integer arithmetic of the ten pipeline stages (chapter 07) and of the blink schedules (chapter 08).
Tables enter as functions from an index to an entry, so that one definition serves every copy and every source.
-/

namespace Sys2Proof.Machine

/-- The largest U16, to which the stages clamp. -/
def top16 : Int := 65535

/-- A component code of an FMT 2 word (R83, R182): 0 red, 1 green, 2 blue. -/
def wordComp (w k : Nat) : Nat := field w (20 - 10 * k) 10

/-- The blink group of a word. -/
def wordBlink (w : Nat) : Nat := field w 30 2

/-- The default input curve (R183), and the linear light of a bypassed stage 2 (R184). -/
def straight (c : Nat) : Nat := c * 64 + c / 16

/-- Stage 2 for output component `i`, from the three linear lights and the matrix coefficients M_ij at 3i + j (R184). -/
def colourMap (m : Nat → Int) (l : Nat → Nat) (i : Nat) : Nat :=
  let acc := m (3 * i) * l 0 + m (3 * i + 1) * l 1 + m (3 * i + 2) * l 2 + 8192
  (clampI 0 top16 (acc / 16384)).toNat

/-- Interpolation in a table of 1,025 entries (R185, R190), before any clamp. -/
def interp (t : Nat → Nat) (l : Nat) : Int :=
  let i := l / 64
  let f := l % 64
  (t i : Int) + (((t (i + 1) : Int) - t i) * f + 32) / 64

/-- Stage 3 (R185). -/
def linearise (t : Nat → Nat) (l : Nat) : Nat := (clampI 0 top16 (interp t l)).toNat

/-- A corner gain blended from the two sets (R188). -/
def cornerGain (w g g' : Nat) : Nat := (g * (256 - w) + g' * w + 128) / 256

/-- Stage 4 from the four blended corners, top left, top right, bottom left, bottom right (R188). -/
def gridGain (gx gy p00 p10 p01 p11 : Nat) : Nat :=
  let top := p00 * (64 - gx) + p10 * gx
  let bot := p01 * (64 - gx) + p11 * gx
  (top * (32 - gy) + bot * gy + 1024) / 2048

/-- Stage 4 applies the gain (R188). -/
def gridCorrect (g d : Nat) : Nat := min ((d * g + 8192) / 16384) 65535

/-- Stage 5 with the demura word of the subpixel (R189). -/
def demura (word y4 : Nat) : Nat :=
  if y4 = 0 then 0
  else (clampI 0 top16 (((y4 : Int) * (512 + toSigned 8 (field word 8 8)) + 256) / 512 + 4 * toSigned 8 (field word 0 8))).toNat

/-- The age that marks a dead subpixel (R158). -/
def deadAge : Nat := 0xFFFF

/-- The value of stage 6 before its limit (R190). -/
def ageValue (ga : Int) (y5 : Nat) : Int := ((y5 : Int) * ga + 8192) / 16384

/-- Stage 6 (R190): the value, and whether the subpixel is marked saturated. -/
def ageGain (bypass : Bool) (a : Nat → Nat) (age y5 : Nat) : Nat × Bool :=
  if age = deadAge then (0, false)
  else
    let v := ageValue (if bypass then 16384 else interp a age) y5
    ((min v top16).toNat, decide (v > top16))

/-- Concealment adds half the stage 5 value of a dead neighbour (R191). -/
def conceal (y6 y5dead : Nat) : Nat := min (y6 + y5dead / 2) 65535

/-- Stage 7 (R192). -/
def brightness (gb y6 : Nat) : Nat := (y6 * gb + 16384) / 32768

/-- The overlay that FRS reports for a pixel (R182). -/
inductive Overlay where
  | none | stripe | ground
deriving DecidableEq, Repr

/-- Stage 8 (R193). -/
def overlayMix (dead : Bool) (ov : Overlay) (hatch : Nat) (dimOn : Bool) (dim y7 : Nat) : Nat :=
  if dead then 0
  else match ov with
    | .stripe => hatch
    | .ground => 0
    | .none => if dimOn then (y7 * dim + 32) / 64 else y7

/-- Stage 9 (R195) from the previous code, the next code and the anchors PT[u][v] at 65u + v. -/
def precharge (pt : Nat → Nat) (p n : Nat) : Nat :=
  let u := p / 16
  let fu := p % 16
  let v := n / 16
  let fv := n % 16
  let acc := pt (65 * u + v) * (16 - fu) * (16 - fv) + pt (65 * (u + 1) + v) * fu * (16 - fv)
    + pt (65 * u + v + 1) * (16 - fu) * fv + pt (65 * (u + 1) + v + 1) * fu * fv
  min ((acc + 2048) / 4096) 15

/-- The dither base matrix T0 (R196), row by row. -/
def ditherBase : List Nat :=
  [0, 32, 8, 40, 2, 34, 10, 42, 48, 16, 56, 24, 50, 18, 58, 26, 12, 44, 4, 36, 14, 46, 6, 38, 60, 28, 52, 20, 62, 30, 54, 22,
   3, 35, 11, 43, 1, 33, 9, 41, 51, 19, 59, 27, 49, 17, 57, 25, 15, 47, 7, 39, 13, 45, 5, 37, 63, 31, 55, 23, 61, 29, 53, 21]

/-- The dither phase m of a frame (R197). -/
def ditherPhase (epoch : Nat) : Nat := epoch % 64

/-- The row shift of a phase (R197). -/
def ditherRa (m : Nat) : Nat := m % 8

/-- The column shift of a phase (R197). -/
def ditherCb (m : Nat) : Nat := (m / 8 + 3 * (m % 8)) % 8

/-- The dither threshold of subpixel `s` in panel row `y` (R197). -/
def ditherT (m y s : Nat) : Nat := ditherBase.getD (8 * ((y + ditherRa m) % 8) + (s + ditherCb m) % 8) 0

/-- Stage 10 (R197). -/
def ditherCode (t y8 : Nat) : Nat := min ((y8 + t) / 64) 1023

/-! ## Blink schedules -/

/-- Frames per period (R229). -/
def blinkNp (f tp : Nat) : Nat := max 2 ((tp * f + 500000) / 1000000)

/-- Phase offset in frames (R229). -/
def blinkNph (f tph np : Nat) : Nat := (tph * f + 500000) / 1000000 % np

/-- Frames in the first phase (R229). -/
def blinkNon (np u : Nat) : Nat := max 1 (min (np - 1) ((np * u + 128) / 256))

/-- The position q in the period (R229). -/
def blinkQ (epoch nph np : Nat) : Nat := (epoch + nph) % np

/-! ## Staging formats -/

/-- Expansion of a 5-bit, a 6-bit and an 8-bit component to 10 bits (R84). -/
def expand5 (v : Nat) : Nat := v * 32 + v
/-- As above for 6 bits. -/
def expand6 (v : Nat) : Nat := v * 16 + v / 4
/-- As above for 8 bits. -/
def expand8 (v : Nat) : Nat := v * 4 + v / 64

/-- Pack three 10-bit components and a blink group into an FMT 2 word. -/
def packPixel (g r gr b : Nat) : Nat := g * 2 ^ 30 + r * 2 ^ 20 + gr * 2 ^ 10 + b

/-- Byte `i` of a payload taken most significant byte first (R83, R90). -/
def payloadByte (ws : List (BitVec 32)) (i : Nat) : Nat := field ((ws.getD (i / 4) 0).toNat) (24 - 8 * (i % 4)) 8

/-- Pixel `i` of an FMT 0 to 2 payload as an FMT 2 word (R83, R84). -/
def unpackPixel (fmt : Nat) (ws : List (BitVec 32)) (i : Nat) : Nat :=
  if fmt = 0 then
    let h := field ((ws.getD (i / 2) 0).toNat) (if i % 2 = 0 then 16 else 0) 16
    packPixel 0 (expand5 (field h 11 5)) (expand6 (field h 5 6)) (expand5 (field h 0 5))
  else if fmt = 1 then
    packPixel 0 (expand8 (payloadByte ws (3 * i))) (expand8 (payloadByte ws (3 * i + 1))) (expand8 (payloadByte ws (3 * i + 2)))
  else (ws.getD i 0).toNat

/-- The bytes of words, each most significant byte first (R90). -/
def wordBytes (ws : List (BitVec 32)) : List Byte := ws.flatMap (fun w => toBE 4 w.toNat)

end Sys2Proof.Machine
end

