-- ==== Sys2Proof/Machine/DrvLink.lean ====
section
/-!
DEFINITION. The arithmetic and the packet layouts of the driver link (chapter 09): line payloads, headers, records and
the line time of R251.
-/

namespace Sys2Proof.Machine

/-- Words of a LINE payload for `n` channels (R235). -/
def lineWords (n : Nat) : Nat := ceilDiv (14 * n) 32

/-- Pack fields of `w` bits from the first payload bit into 32-bit words, the last word padded with 0 (R238). -/
def packFields (w : Nat) (xs : List Nat) : List Byte :=
  let n := ceilDiv (w * xs.length) 32
  toBE (4 * n) ((xs.foldl (fun a x => a * 2 ^ w + x % 2 ^ w) 0) * 2 ^ (32 * n - w * xs.length))

/-- The 14-bit field of a channel: the code above the precharge index (R238). -/
def lineField (code pidx : Nat) : Nat := code * 16 + pidx

/-- The CRC-32 that the drivers return for a line (R248): over the payload words alone. -/
def lineSig (fields : List Nat) : Nat := crc32 (packFields 14 fields)

/-- The signature of recovery codes (R248). -/
def recSig (codes : List Nat) : Nat := crc32 (packFields 4 codes)

/-- A packet header (R235, R236) with its HCRC over the six bytes of bits [63:16]. -/
def dlkHeader (type mid : Nat) : Nat :=
  let body := type * 2 ^ 60 + mid % 2 ^ 44 * 2 ^ 16
  body + crc16 (toBE 6 (body / 2 ^ 16))

/-- A received header is one of the type: its TYPE and its HCRC hold (R235). -/
def headOk (type h : Nat) : Bool := decide (field h 60 4 = type) && decide (field h 0 16 = crc16 (toBE 6 (h / 2 ^ 16)))

/-- The fields [59:16] of a LINE or SLOTHDR (R236). -/
def slotFields (slot epoch rec_ recRow : Nat) : Nat :=
  slot % 2 ^ 14 * 2 ^ 30 + epoch % 2 ^ 16 * 2 ^ 14 + rec_ * 2 ^ 13 + recRow % 2 ^ 13

/-- The fields [59:16] of a STROBE (R236). -/
def strobeFields (kind slot epoch : Nat) : Nat :=
  kind * 2 ^ 40 + slot % 2 ^ 14 * 2 ^ 26 + epoch % 2 ^ 13 * 2

/-- A driver's record of a slot (R248). -/
structure Rec where
  drv     : Nat
  recMade : Bool
  kind    : Nat
  linkErr : Bool
  recMiss : Bool
  rets    : Bool
  retb    : Bool
  slot    : Nat
  fecho   : Nat
  miscnt  : Nat
  worst   : Nat
  worstCh : Nat
  shorts  : Nat
  shortCh : Nat
  lcrc    : Nat
  recCrc  : Nat
  recTag  : Nat
  rcrcOk  : Bool
deriving DecidableEq, Repr

/-- The fields of a 192-bit record (R248); RCRC is checked over bits [191:16]. -/
def Rec.ofBits (b : BitVec 192) : Rec :=
  let n := b.toNat
  { drv := field n 184 8, recMade := bit n 183, kind := field n 180 3
    linkErr := bit n 179, recMiss := bit n 178, rets := bit n 177, retb := bit n 176
    slot := field n 162 14, fecho := field n 146 16, miscnt := field n 134 12
    worst := field n 126 8, worstCh := field n 116 10, shorts := field n 108 8, shortCh := field n 98 10
    lcrc := field n 64 32, recCrc := field n 32 32, recTag := field n 16 16
    rcrcOk := field n 0 16 = crc16 (toBE 22 (n / 2 ^ 16)) }

/-- A driver's STATUS record (R254). -/
structure StatusRec where
  drv      : Nat
  lstate   : Nat
  maxRate  : Nat
  chainMax : Nat
  nchMax   : Nat
  rstore   : Nat
  crcOk    : Bool
deriving DecidableEq, Repr

/-- The fields of a 64-bit STATUS record (R254); SCRC is checked over bits [63:16]. -/
def StatusRec.ofBits (b : BitVec 64) : StatusRec :=
  let n := b.toNat
  { drv := field n 56 8, lstate := field n 52 4, maxRate := field n 50 2, chainMax := field n 48 2
    nchMax := field n 38 10, rstore := field n 25 13, crcOk := field n 0 16 = crc16 (toBE 6 (n / 2 ^ 16)) }

/-- A lane rate code in Mbit/s (R234). -/
def dlkRate : Nat → Nat
  | 0 => 1250
  | 1 => 2500
  | _ => 4000

/-- Bits at a rate in Mbit/s with the worst marker and stuffing overhead, in ps rounded up (R251). -/
def wireTime (bits rate : Nat) : Nat := ceilDiv (bits * 4299 * 1000000) (4096 * rate)

/-- t_line in ps (R251). -/
def tLine (n rate : Nat) : Nat := 42000 + wireTime (32 * (3 + lineWords n) + 64) rate

/-- t_chain in ps (R251). -/
def tChain (m rs : Nat) : Nat := 102000 + wireTime (64 + 192 * m) rs + 20000 * (m - 1)

/-- t_ctl in ps (R251). -/
def tCtl (trec tpre tsamp tgoff : Nat) : Nat := (trec + tpre + tsamp + tgoff + 282) * 1000

/-- DLK_TMIN: the largest of the three times, in ps (R251). -/
def tMin (n m rate rs trec tpre tsamp tgoff : Nat) : Nat :=
  max (tLine n rate) (max (tChain m rs) (tCtl trec tpre tsamp tgoff))

/-- The exact row time 10^15 / `rows` ps is at least `fixed` ps and the wire time of `bits` at `rate` together (R251, R339). -/
def rowFits (rows fixed bits rate : Nat) : Bool :=
  decide (rows * (fixed * (4096 * rate) + bits * (4299 * 1000000)) ≤ 10 ^ 15 * (4096 * rate))

/-- RECOVERY packets that fit beside `used` bits in a slot: ⌊(C - used) / R⌋ with the exact C of R251, `rows` row slots a second
times 1,000. -/
def recFit (rows rate n used : Nat) : Nat :=
  let unit := rows * (4299 * 1000000)
  (10 ^ 15 * (4096 * rate) - 42000 * (4096 * rate) * rows - used * unit) / (32 * (3 + ceilDiv n 8) * unit)

/-- DLK_RECCAP: recovery rows deliverable in 6 frames (R251). -/
def recCapacity (rows rate n hb vtotal : Nat) : Nat :=
  6 * (recFit rows rate n (32 * (3 + lineWords n) + 64) * hb + recFit rows rate n 128 * (vtotal - hb))

/-- Driver register TSMP in ns (R243), the nominal row time in ps. -/
def tsmp (t tgoff tsamp tpre : Nat) : Nat := (t - (tgoff + tsamp + tpre) * 1000) / 1000

end Sys2Proof.Machine
end

