-- ==== Sys2Proof/Config.lean ====
section
/-!
DEFINITION. What an implementation fixes, and the values the spec leaves open: opaque constants without a body, so
that nothing in the model and no proof can depend on what they are.
-/

namespace Sys2Proof.Config

/-- The n-th free value: a value the spec leaves open at the moment it is taken (log entry 3). -/
opaque freeValue : Nat → Nat

/-- The device's unique id, ACC_UID 0x1202:01, whose value the spec does not state (log entry 4). -/
opaque uid : BitVec 64

/-- The identifier of the mask ROM, SAF_ROMID 0x5221:05, whose value the spec does not state (log entry 4). -/
opaque romId : BitVec 32

/-- The silicon stepping, DEV_STEP 0x1000:03, whose value the spec states for the first production stepping only (log
entry 4). -/
opaque stepping : BitVec 8

/-- Whether a patch image's signature verifies (R372): the scheme's keys are not in the spec (log entry 5). -/
opaque patchSigned : List Byte → Bool

/-- The controller die temperature that a code of ADC input 14 stands for, an I16 in 0.125 °C: the internal sensor's
scaling is not in the spec (log entry 6). -/
opaque dieTemp : Nat → BitVec 16

end Sys2Proof.Config
end

