-- ==== Sys2Proof/Machine/Dictionary.lean ====
section
/-!
DEFINITION. The object dictionary (chapter 15 and the object tables of every chapter): index, subindices, type,
access, default and stated range of every object. One row stands for a run of subindices of one type.
-/

namespace Sys2Proof.Machine

/-- Object types. -/
inductive Ty where
  | bool | u8 | i8 | u16 | i16 | u32 | i32 | u48 | u64 | str | dom
deriving DecidableEq, Repr

/-- Access kinds: RW, RO, WO, RWS (SETUP only, R361) and RWL (not while sealed, R303). -/
inductive Acc where
  | ro | rw | wo | rws | rwl
deriving DecidableEq, Repr

/-- The default of each subindex of a row. -/
inductive Dflt where
  /-- The same value at every subindex. -/
  | const (v : Nat)
  /-- `a + b i` at the i-th subindex. -/
  | lin (a b : Nat)
  /-- `−b i` as an I16 at the i-th subindex. -/
  | negLin (b : Nat)
  /-- The values listed. -/
  | vals (vs : List Nat)
  /-- The identity matrix in Q2.14 (PPL_MATRIX). -/
  | ident
deriving DecidableEq, Repr

/-- The range an object's table states for it. -/
inductive Rng where
  | any
  | between (lo hi : Nat)
  | step (lo hi by_ : Nat)
  /-- Only the bits of the mask may be set (R383). -/
  | mask (m : Nat)
  | oneOf (vs : List Nat)
  /-- A counter: only 0, which clears it (R382). -/
  | counter
  | canBase
  | evtPulse
  | evcSel
  /-- An element of CRM_RECT (R228). -/
  | rect
deriving DecidableEq, Repr

/-- One row of the dictionary. -/
structure Row where
  index : Nat
  lo    : Nat
  hi    : Nat
  ty    : Ty
  acc   : Acc
  dflt  : Dflt
  rng   : Rng
deriving DecidableEq, Repr

/-- Rows of the indices from 0x1000 to 0x1201. -/
def rows1a : List Row := [
  ⟨0x1000, 0x01, 0x01, .u32, .ro, .const 0x4548524C, .any⟩,  -- DEV_VENDOR
  ⟨0x1000, 0x02, 0x02, .str, .ro, .const 0x525638513430, .any⟩,  -- DEV_PART
  ⟨0x1000, 0x03, 0x03, .u8, .ro, .const 0, .any⟩,  -- DEV_STEP
  ⟨0x1000, 0x04, 0x04, .u16, .ro, .const 0x100, .any⟩,  -- DEV_DICTVER
  ⟨0x1000, 0x05, 0x05, .u32, .ro, .const 0, .any⟩,  -- DEV_BOOTCNT
  ⟨0x1000, 0x06, 0x06, .u32, .ro, .const 0, .any⟩,  -- DEV_UPTIME
  ⟨0x1001, 0x00, 0x00, .u8, .rw, .const 0, .between 0 3⟩,  -- DEV_STATE
  ⟨0x1002, 0x00, 0x00, .u16, .ro, .const 0, .any⟩,  -- DEV_ERRREG
  ⟨0x1003, 0x01, 0x40, .u64, .ro, .const 0, .any⟩,  -- DEV_EVLOG
  ⟨0x1004, 0x01, 0x40, .u48, .ro, .const 0, .any⟩,  -- DEV_EVEPOCH
  ⟨0x1005, 0x01, 0x01, .u8, .ro, .const 1, .any⟩,  -- DEV_EVNEXT
  ⟨0x1005, 0x02, 0x02, .u32, .ro, .const 0, .any⟩,  -- DEV_EVTOTAL
  ⟨0x1005, 0x03, 0x03, .bool, .wo, .const 0, .any⟩,  -- DEV_EVCLR
  ⟨0x1006, 0x00, 0x00, .u8, .ro, .const 0, .any⟩,  -- DEV_RUNERR
  ⟨0x1100, 0x01, 0x01, .bool, .rws, .const 1, .any⟩,  -- WNP_CANEN
  ⟨0x1100, 0x02, 0x02, .u32, .rws, .const 0x1E40000, .canBase⟩,  -- WNP_CANBASE
  ⟨0x1100, 0x03, 0x03, .u8, .rws, .const 0, .between 0 3⟩,  -- WNP_NODEHI
  ⟨0x1100, 0x04, 0x04, .u8, .ro, .const 0, .any⟩,  -- WNP_NODE
  ⟨0x1100, 0x05, 0x05, .u8, .rws, .const 2, .between 0 3⟩,  -- WNP_NBR
  ⟨0x1100, 0x06, 0x06, .u8, .rws, .const 1, .between 0 4⟩,  -- WNP_DBR
  ⟨0x1100, 0x07, 0x07, .u8, .rws, .const 0x50, .between 60 90⟩,  -- WNP_NSP
  ⟨0x1100, 0x08, 0x08, .u8, .rws, .const 0x4B, .between 60 90⟩,  -- WNP_DSP
  ⟨0x1100, 0x09, 0x09, .u32, .rw, .const 0, .counter⟩,  -- WNP_BUSOFF
  ⟨0x1100, 0x0A, 0x0A, .u32, .rw, .const 0, .counter⟩,  -- WNP_CANIGN
  ⟨0x1101, 0x01, 0x02, .u32, .ro, .const 0, .any⟩,  -- WNP_SESS
  ⟨0x1102, 0x01, 0x02, .u32, .rw, .const 0, .counter⟩,  -- WNP_STALE
  ⟨0x1102, 0x03, 0x03, .u32, .rw, .const 0, .counter⟩,  -- WNP_SPIERR
  ⟨0x1102, 0x04, 0x04, .u32, .rw, .const 0, .counter⟩,  -- WNP_TAGCONF
  ⟨0x1102, 0x05, 0x05, .u32, .rw, .const 0, .counter⟩,  -- WNP_QFULL
  ⟨0x1102, 0x06, 0x06, .u32, .rw, .const 0, .counter⟩,  -- WNP_CACHEHIT
  ⟨0x1102, 0x07, 0x07, .u32, .rw, .const 0, .counter⟩,  -- WNP_SEGABORT
  ⟨0x1102, 0x08, 0x08, .u32, .rw, .const 0, .counter⟩,  -- WNP_RSPDROP
  ⟨0x1103, 0x01, 0x01, .bool, .rws, .const 1, .any⟩,  -- WNP_SPIEN
  ⟨0x1120, 0x01, 0x01, .u8, .rw, .const 0, .between 0 1⟩,  -- WNP_EVTMODE
  ⟨0x1120, 0x02, 0x02, .u16, .rw, .const 6, .mask 0x3FF⟩,  -- WNP_EVTMASK
  ⟨0x1120, 0x03, 0x03, .u16, .rw, .const 0, .mask 0x3FF⟩,  -- WNP_EVTPEND
  ⟨0x1120, 0x04, 0x04, .u8, .rw, .const 0, .evtPulse⟩,  -- WNP_EVTPULSE
  ⟨0x1120, 0x05, 0x05, .bool, .rw, .const 1, .any⟩,  -- WNP_EVTCAN
  ⟨0x1200, 0x01, 0x03, .dom, .wo, .const 0, .any⟩,  -- ACC_KEY
  ⟨0x1201, 0x01, 0x01, .u8, .ro, .const 0, .any⟩  -- ACC_KEYSET
]

/-- Rows of the indices from 0x1201 to 0x1202. -/
def rows1b : List Row := [
  ⟨0x1201, 0x02, 0x02, .u32, .rw, .const 0, .counter⟩,  -- ACC_FAILS
  ⟨0x1201, 0x03, 0x03, .u32, .rw, .const 0, .counter⟩,  -- ACC_LOCKOUTS
  ⟨0x1201, 0x04, 0x04, .u16, .rwl, .const 0x384, .any⟩,  -- ACC_IDLE
  ⟨0x1202, 0x01, 0x01, .u64, .ro, .const 0, .any⟩  -- ACC_UID
]

/-- Rows of the indices from 0x2000 to 0x2101. -/
def rows2a : List Row := [
  ⟨0x2000, 0x01, 0x01, .bool, .rw, .const 1, .any⟩,  -- PXL_ENABLE
  ⟨0x2000, 0x02, 0x02, .u8, .rws, .const 0x10, .oneOf [1, 2, 4, 8, 16]⟩,  -- PXL_LANES
  ⟨0x2000, 0x03, 0x03, .u8, .rws, .const 5, .between 0 5⟩,  -- PXL_FWD_MAXRATE
  ⟨0x2000, 0x04, 0x04, .u8, .rws, .const 2, .between 0 2⟩,  -- PXL_BACK_MAXRATE
  ⟨0x2000, 0x05, 0x05, .u8, .rws, .const 2, .between 1 2⟩,  -- PXL_BACK_LANES
  ⟨0x2000, 0x06, 0x06, .bool, .wo, .const 0, .any⟩,  -- PXL_RETRAIN
  ⟨0x2001, 0x01, 0x01, .u8, .ro, .const 0, .any⟩,  -- PXL_LINK
  ⟨0x2001, 0x02, 0x02, .u8, .ro, .const 0, .any⟩,  -- PXL_FRATE
  ⟨0x2001, 0x03, 0x03, .u8, .ro, .const 0, .any⟩,  -- PXL_BRATE
  ⟨0x2001, 0x04, 0x04, .u16, .ro, .const 0, .any⟩,  -- PXL_FMASK
  ⟨0x2001, 0x05, 0x05, .u8, .ro, .const 0, .any⟩,  -- PXL_BMASK
  ⟨0x2001, 0x06, 0x06, .u8, .ro, .const 0, .any⟩,  -- PXL_LCN
  ⟨0x2001, 0x07, 0x07, .u32, .ro, .const 0, .any⟩,  -- PXL_SESSION
  ⟨0x2001, 0x08, 0x08, .u16, .ro, .const 0, .any⟩,  -- PXL_PENDMASK
  ⟨0x2001, 0x09, 0x09, .u8, .ro, .const 0, .any⟩,  -- PXL_DOWNCAUSE
  ⟨0x2010, 0x01, 0x10, .u32, .ro, .const 0, .any⟩,  -- PXL_LANESTAT
  ⟨0x2020, 0x01, 0x10, .u8, .ro, .const 0, .any⟩,  -- PXL_CTLE
  ⟨0x2021, 0x01, 0x10, .u8, .rws, .const 0xFF, .oneOf [0, 1, 2, 3, 4, 5, 6, 7, 8, 9, 10, 11, 12, 13, 14, 15, 255]⟩,  -- PXL_CTLE_FORCE
  ⟨0x2030, 0x01, 0x10, .u32, .rw, .const 0, .counter⟩,  -- PXL_ERR_MARKER
  ⟨0x2031, 0x01, 0x10, .u32, .rw, .const 0, .counter⟩,  -- PXL_ERR_STUFF
  ⟨0x2032, 0x01, 0x10, .u32, .rw, .const 0, .counter⟩,  -- PXL_ERR_LOSS
  ⟨0x2040, 0x01, 0x01, .bool, .wo, .const 0, .any⟩,  -- PXL_PRBS_START
  ⟨0x2040, 0x02, 0x02, .u8, .rw, .const 0, .between 0 1⟩,  -- PXL_PRBS_PATTERN
  ⟨0x2040, 0x03, 0x03, .u8, .rw, .const 0, .between 0 2⟩,  -- PXL_PRBS_DIR
  ⟨0x2040, 0x04, 0x04, .u16, .rw, .const 0x3E8, .between 1 60000⟩,  -- PXL_PRBS_TIME
  ⟨0x2040, 0x05, 0x05, .u64, .ro, .const 0, .any⟩,  -- PXL_PRBS_BITS
  ⟨0x2041, 0x01, 0x10, .u32, .ro, .const 0, .any⟩,  -- PXL_PRBS_ERR
  ⟨0x2042, 0x01, 0x10, .u16, .ro, .const 0, .any⟩,  -- PXL_PRBS_RESYNC
  ⟨0x2100, 0x01, 0x01, .u16, .rws, .const 0x64, .between 5 10000⟩,  -- TRX_GRP_TIMEOUT
  ⟨0x2100, 0x02, 0x02, .u16, .rws, .const 0x4000, .between 2 65535⟩,  -- TRX_EPOCH_AHEAD
  ⟨0x2100, 0x03, 0x03, .u8, .rws, .const 8, .between 2 32⟩,  -- TRX_SEEN_WINDOW
  ⟨0x2101, 0x01, 0x01, .u16, .ro, .const 0, .any⟩,  -- TRX_BUSYTAGS
  ⟨0x2101, 0x02, 0x02, .u8, .ro, .const 0, .any⟩,  -- TRX_GROUPS
  ⟨0x2101, 0x03, 0x03, .u16, .ro, .const 0, .any⟩,  -- TRX_QDEPTH
  ⟨0x2101, 0x04, 0x04, .u32, .ro, .const 0, .any⟩,  -- TRX_SRCF_LAST
  ⟨0x2101, 0x05, 0x05, .u32, .ro, .const 0xFFFFFFFF, .any⟩,  -- TRX_SRCF_AGE
  ⟨0x2101, 0x06, 0x06, .u32, .ro, .const 0, .any⟩,  -- TRX_ACCEPTED
  ⟨0x2101, 0x07, 0x07, .u16, .ro, .const 0, .any⟩,  -- TRX_BSEQ
  ⟨0x2101, 0x08, 0x08, .u32, .rw, .const 0, .counter⟩,  -- TRX_HDRLOST
  ⟨0x2101, 0x09, 0x09, .u32, .rw, .const 0, .counter⟩  -- TRX_SRCF_REJECT
]

/-- Rows of the indices from 0x2101 to 0x2210. -/
def rows2b : List Row := [
  ⟨0x2101, 0x0A, 0x0A, .u32, .rw, .const 0, .counter⟩,  -- TRX_QFULL
  ⟨0x2101, 0x0B, 0x0B, .u32, .rw, .const 0, .counter⟩,  -- TRX_BADOP
  ⟨0x2101, 0x0C, 0x0C, .u32, .rw, .const 0, .counter⟩,  -- TRX_STRAYEND
  ⟨0x2101, 0x0D, 0x0D, .u32, .rw, .const 0, .counter⟩,  -- TRX_HELDLATE
  ⟨0x2110, 0x01, 0x26, .u32, .rw, .const 0, .counter⟩,  -- TRX_NAKCNT
  ⟨0x2120, 0x01, 0x40, .u32, .ro, .const 0, .any⟩,  -- TRX_GROUP
  ⟨0x2200, 0x01, 0x80, .u64, .rw, .const 0, .mask 0xFFFFFFFFFFFE0000⟩,  -- FRS_REGION_LO
  ⟨0x2201, 0x01, 0x80, .u64, .rw, .const 0, .mask 0xFFFFFFFFFFFE0000⟩,  -- FRS_REGION_HI
  ⟨0x2202, 0x01, 0x80, .u64, .ro, .const 0, .any⟩,  -- FRS_REGACT_LO
  ⟨0x2203, 0x01, 0x80, .u64, .ro, .const 0, .any⟩,  -- FRS_REGACT_HI
  ⟨0x2210, 0x01, 0x01, .u48, .rw, .const 0, .any⟩,  -- FRS_REG_EPOCH
  ⟨0x2210, 0x02, 0x02, .u8, .wo, .const 0, .mask 0x81⟩,  -- FRS_REG_REQ
  ⟨0x2210, 0x03, 0x03, .u8, .ro, .const 0, .any⟩,  -- FRS_REG_STAT
  ⟨0x2210, 0x04, 0x04, .u16, .ro, .const 0xFFFF, .any⟩,  -- FRS_REG_ERRIDX
  ⟨0x2210, 0x05, 0x05, .u16, .ro, .const 0, .any⟩  -- FRS_REG_GEN
]

/-- Rows of the indices from 0x3000 to 0x3120. -/
def rows3a : List Row := [
  ⟨0x3000, 0x01, 0x01, .u8, .rwl, .const 0, .mask 0x7F⟩,  -- PPL_BYPASS
  ⟨0x3000, 0x02, 0x02, .bool, .rwl, .const 0, .any⟩,  -- PPL_CONCEAL
  ⟨0x3000, 0x03, 0x03, .u32, .rw, .const 0, .counter⟩,  -- PPL_SATCNT
  ⟨0x3001, 0x01, 0x08, .i16, .ro, .const 0x7FFF, .any⟩,  -- PPL_SLACK
  ⟨0x3001, 0x09, 0x09, .i16, .ro, .const 0x7FFF, .any⟩,  -- PPL_SLACK_WORST
  ⟨0x3010, 0x01, 0x03, .dom, .rwl, .const 0, .any⟩,  -- PPL_ICURVE
  ⟨0x3011, 0x01, 0x09, .i16, .rwl, .ident, .any⟩,  -- PPL_MATRIX
  ⟨0x3012, 0x01, 0x03, .dom, .rwl, .const 0, .any⟩,  -- PPL_LIN
  ⟨0x3020, 0x01, 0x04, .u16, .rw, .const 0x8000, .between 0 32768⟩,  -- PPL_BRIGHT
  ⟨0x3030, 0x01, 0x03, .u16, .rwl, .vals [0x0000, 0x1800, 0x9000], .any⟩,  -- PPL_HATCH
  ⟨0x3100, 0x01, 0x01, .u16, .rw, .const 0x100, .between 16 4096⟩,  -- LAKE_QUANTUM
  ⟨0x3101, 0x01, 0x01, .u32, .rw, .const 0, .counter⟩,  -- LAKE_TILES0
  ⟨0x3101, 0x02, 0x02, .u32, .rw, .const 0, .counter⟩,  -- LAKE_TILES1
  ⟨0x3101, 0x03, 0x03, .u32, .rw, .const 0, .counter⟩,  -- LAKE_DECERR
  ⟨0x3101, 0x04, 0x04, .u8, .ro, .const 0, .any⟩,  -- LAKE_DECERR_CAUSE
  ⟨0x3101, 0x05, 0x05, .u16, .ro, .const 0, .any⟩,  -- LAKE_DECERR_TAG
  ⟨0x3101, 0x06, 0x06, .u8, .ro, .const 0, .any⟩,  -- LAKE_DECERR_BLOCK
  ⟨0x3101, 0x07, 0x07, .u32, .rw, .const 0, .counter⟩,  -- LAKE_SWITCHES
  ⟨0x3110, 0x01, 0x01, .u8, .rw, .const 0, .between 0 1⟩,  -- LAKE_JOB_DIR
  ⟨0x3110, 0x02, 0x02, .u8, .rw, .const 0, .between 0 2⟩,  -- LAKE_JOB_ELEM
  ⟨0x3110, 0x03, 0x03, .u8, .rw, .const 0, .between 0 1⟩,  -- LAKE_JOB_RATIO
  ⟨0x3110, 0x04, 0x04, .u8, .rw, .const 0, .between 0 1⟩,  -- LAKE_JOB_MODE
  ⟨0x3110, 0x05, 0x05, .u8, .rw, .const 1, .between 1 2⟩,  -- LAKE_JOB_QMAX
  ⟨0x3110, 0x06, 0x06, .u8, .rw, .const 0, .between 0 3⟩,  -- LAKE_JOB_FLIP
  ⟨0x3110, 0x07, 0x07, .u16, .rw, .const 0x40, .any⟩,  -- LAKE_JOB_W
  ⟨0x3110, 0x08, 0x08, .u32, .rw, .const 0x20, .any⟩,  -- LAKE_JOB_H
  ⟨0x3110, 0x09, 0x09, .u32, .rw, .const 0, .any⟩,  -- LAKE_JOB_RASTADDR
  ⟨0x3110, 0x0A, 0x0A, .u32, .rw, .const 0x100, .any⟩,  -- LAKE_JOB_STRIDE
  ⟨0x3110, 0x0B, 0x0B, .u32, .rw, .const 0, .any⟩,  -- LAKE_JOB_CODEADDR
  ⟨0x3110, 0x0C, 0x0C, .u32, .rw, .const 0, .any⟩,  -- LAKE_JOB_CODELEN
  ⟨0x3110, 0x0D, 0x0D, .u32, .rw, .const 0, .any⟩,  -- LAKE_JOB_RAWADDR
  ⟨0x3110, 0x0E, 0x0E, .u8, .wo, .const 0, .any⟩,  -- LAKE_JOB_CMD
  ⟨0x3111, 0x01, 0x04, .u32, .ro, .const 0, .any⟩,  -- LAKE_SLOT
  ⟨0x3112, 0x01, 0x01, .u32, .ro, .const 0, .any⟩,  -- LAKE_RES_IN
  ⟨0x3112, 0x02, 0x02, .u32, .ro, .const 0, .any⟩,  -- LAKE_RES_OUT
  ⟨0x3112, 0x03, 0x03, .u32, .ro, .const 0, .any⟩,  -- LAKE_RES_CRCA
  ⟨0x3112, 0x04, 0x04, .u32, .ro, .const 0, .any⟩,  -- LAKE_RES_CRCB
  ⟨0x3112, 0x05, 0x05, .u16, .ro, .const 0, .any⟩,  -- LAKE_RES_ESC
  ⟨0x3120, 0x01, 0x03, .dom, .ro, .const 0, .any⟩,  -- LAKE_CTX
  ⟨0x3120, 0x04, 0x04, .dom, .rw, .const 0, .any⟩  -- LAKE_CTX
]

/-- Rows of the indices from 0x3200 to 0x3400. -/
def rows3b : List Row := [
  ⟨0x3200, 0x01, 0x01, .u8, .rws, .const 1, .between 1 8⟩,  -- CMP_NSETS
  ⟨0x3200, 0x02, 0x09, .i16, .rws, .const 0xC8, .any⟩,  -- CMP_SETTEMP
  ⟨0x3200, 0x0A, 0x0D, .u8, .rws, .vals [0, 1, 2, 3], .between 0 3⟩,  -- CMP_THMSEL
  ⟨0x3201, 0x01, 0x04, .u32, .ro, .const 0, .any⟩,  -- CMP_TEMPW
  ⟨0x3201, 0x05, 0x08, .i16, .ro, .const 0, .any⟩,  -- CMP_BANDTEMP
  ⟨0x3210, 0x01, 0x08, .dom, .rws, .const 0, .any⟩,  -- CMP_GRID
  ⟨0x3220, 0x01, 0x01, .dom, .rws, .const 0, .any⟩,  -- CMP_DEMURA
  ⟨0x3230, 0x01, 0x03, .dom, .rwl, .const 0, .any⟩,  -- CMP_AGEGAIN
  ⟨0x3300, 0x01, 0x01, .bool, .rwl, .const 1, .any⟩,  -- PRC_ENABLE
  ⟨0x3300, 0x02, 0x02, .u8, .rwl, .const 0, .between 0 15⟩,  -- PRC_FIXED
  ⟨0x3300, 0x03, 0x03, .u16, .rwl, .const 0, .between 0 1023⟩,  -- PRC_TOPCODE
  ⟨0x3310, 0x01, 0x03, .dom, .rwl, .const 0, .any⟩,  -- PRC_TABLE
  ⟨0x3400, 0x01, 0x01, .bool, .rwl, .const 1, .any⟩,  -- DTH_ENABLE
  ⟨0x3400, 0x02, 0x02, .u8, .ro, .const 0, .any⟩,  -- DTH_PHASE
  ⟨0x3400, 0x03, 0x03, .u8, .ro, .const 0, .any⟩,  -- DTH_RA
  ⟨0x3400, 0x04, 0x04, .u8, .ro, .const 0, .any⟩  -- DTH_CB
]

/-- Rows of the indices from 0x4000 to 0x4100. -/
def rows4a : List Row := [
  ⟨0x4000, 0x01, 0x01, .u8, .ro, .const 0, .any⟩,  -- SCAN_BANDS
  ⟨0x4000, 0x02, 0x02, .u16, .rws, .const 0x1E00, .between 640 7680⟩,  -- SCAN_WIDTH
  ⟨0x4000, 0x03, 0x03, .u16, .rws, .const 0x10E0, .between 360 4320⟩,  -- SCAN_HEIGHT
  ⟨0x4000, 0x04, 0x04, .u32, .rws, .const 0xEA60, .between 60000 240000⟩,  -- SCAN_RATE
  ⟨0x4000, 0x05, 0x05, .u16, .rws, .const 0x1200, .any⟩,  -- SCAN_VTOTAL
  ⟨0x4000, 0x06, 0x06, .u8, .rws, .const 0, .between 0 1⟩,  -- SCAN_MODE
  ⟨0x4000, 0x07, 0x07, .u8, .rws, .const 0x80, .any⟩,  -- SCAN_RECLEAD
  ⟨0x4001, 0x01, 0x01, .u48, .ro, .const 0, .any⟩,  -- SCAN_EPOCH
  ⟨0x4001, 0x02, 0x02, .u32, .ro, .const 0, .any⟩,  -- SCAN_ROWTIME
  ⟨0x4001, 0x03, 0x03, .u32, .ro, .const 0, .any⟩,  -- SCAN_FRAMEP
  ⟨0x4001, 0x04, 0x04, .u16, .ro, .const 0, .any⟩,  -- SCAN_SLOT
  ⟨0x4001, 0x05, 0x05, .u32, .ro, .const 0, .any⟩,  -- SCAN_RECPASS
  ⟨0x4001, 0x06, 0x06, .u32, .rw, .const 0, .counter⟩,  -- SCAN_RECSKIP
  ⟨0x4001, 0x07, 0x07, .u32, .rw, .const 0, .counter⟩,  -- SCAN_SM11
  ⟨0x4001, 0x08, 0x08, .u8, .ro, .const 0, .any⟩,  -- SCAN_CFGERR
  ⟨0x4010, 0x01, 0x04, .u8, .rw, .const 0x40, .between 1 64⟩,  -- SCAN_DUTY
  ⟨0x4011, 0x01, 0x04, .u16, .rw, .const 0xFFFF, .any⟩,  -- SCAN_LINEMATCH
  ⟨0x4012, 0x01, 0x04, .u32, .rw, .const 0, .counter⟩,  -- SCAN_UNDERRUN
  ⟨0x4012, 0x05, 0x05, .u8, .ro, .const 0, .any⟩,  -- SCAN_UR_WINDOW
  ⟨0x4012, 0x06, 0x06, .u32, .rw, .const 0, .counter⟩,  -- SCAN_UR_VERM
  ⟨0x4013, 0x01, 0x04, .u8, .ro, .const 4, .any⟩,  -- SCAN_BANDSTATE
  ⟨0x4020, 0x01, 0x01, .dom, .ro, .const 0, .any⟩,  -- SCAN_TILESEL
  ⟨0x4021, 0x01, 0x01, .dom, .ro, .const 0, .any⟩,  -- SCAN_PENDROWS
  ⟨0x4030, 0x01, 0x01, .u8, .ro, .const 0, .any⟩,  -- SCAN_SHOW_SEL
  ⟨0x4030, 0x02, 0x02, .u48, .rw, .const 0, .any⟩,  -- SCAN_SHOW_EPOCH
  ⟨0x4030, 0x03, 0x03, .u8, .wo, .const 0, .mask 0x8F⟩,  -- SCAN_SHOW_REQ
  ⟨0x4030, 0x04, 0x04, .u8, .ro, .const 0, .any⟩,  -- SCAN_SHOW_STAT
  ⟨0x4030, 0x05, 0x05, .u8, .ro, .const 0xFF, .any⟩,  -- SCAN_SHOW_PEND
  ⟨0x4031, 0x01, 0x06, .u32, .ro, .const 0, .any⟩,  -- SCAN_PLATE
  ⟨0x4032, 0x01, 0x06, .u32, .ro, .const 0, .any⟩,  -- SCAN_PLATECRC
  ⟨0x4040, 0x01, 0x06, .dom, .wo, .const 0, .any⟩,  -- SCAN_PLATEDATA
  ⟨0x4100, 0x01, 0x01, .u8, .rws, .const 0x18, .between 1 24⟩,  -- DLK_NDRV
  ⟨0x4100, 0x02, 0x02, .u16, .rws, .const 0x3C0, .step 384 960 8⟩,  -- DLK_NCH
  ⟨0x4100, 0x03, 0x03, .u8, .rws, .const 2, .between 0 2⟩,  -- DLK_RATE
  ⟨0x4100, 0x04, 0x04, .u8, .rws, .const 1, .between 1 2⟩,  -- DLK_CHAINRATE
  ⟨0x4100, 0x05, 0x05, .u8, .rws, .const 0x10, .any⟩,  -- DLK_MTHR
  ⟨0x4100, 0x06, 0x06, .u8, .rws, .const 0, .between 0 23⟩,  -- DLK_RETDRV
  ⟨0x4100, 0x07, 0x07, .u8, .wo, .const 0, .mask 0x0F⟩,  -- DLK_RETRAIN
  ⟨0x4100, 0x08, 0x08, .u32, .ro, .const 0, .any⟩,  -- DLK_TMIN
  ⟨0x4100, 0x09, 0x09, .u16, .ro, .const 0, .any⟩  -- DLK_RECCAP
]

/-- Rows of the indices from 0x4101 to 0x4401. -/
def rows4b : List Row := [
  ⟨0x4101, 0x01, 0x04, .u32, .ro, .const 0, .any⟩,  -- DLK_STATE
  ⟨0x4110, 0x01, 0x60, .u64, .ro, .const 0, .any⟩,  -- DLK_CAP
  ⟨0x4120, 0x01, 0x04, .u32, .rw, .const 0, .counter⟩,  -- DLK_MISSREC
  ⟨0x4121, 0x01, 0x04, .u32, .rw, .const 0, .counter⟩,  -- DLK_RCRCERR
  ⟨0x4122, 0x01, 0x04, .u32, .rw, .const 0, .counter⟩,  -- DLK_LINKERR
  ⟨0x4123, 0x01, 0x04, .u32, .rw, .const 0, .counter⟩,  -- DLK_RECMISS
  ⟨0x4124, 0x01, 0x04, .u32, .rw, .const 0, .counter⟩,  -- DLK_RECLATE
  ⟨0x4130, 0x01, 0x10, .u16, .rwl, .lin 200 200, .any⟩,  -- DLK_PREV
  ⟨0x4130, 0x11, 0x20, .i16, .rwl, .negLin 250, .any⟩,  -- DLK_RECV
  ⟨0x4130, 0x21, 0x21, .u16, .rwl, .const 0, .any⟩,  -- DLK_VSEL0
  ⟨0x4130, 0x22, 0x22, .u16, .rwl, .const 0xBB8, .any⟩,  -- DLK_VSEL1
  ⟨0x4140, 0x01, 0x01, .u16, .rw, .const 0x8000, .between 0x8000 0xFFFF⟩,  -- DLK_DRVREG_ADDR
  ⟨0x4140, 0x02, 0x02, .u16, .rw, .const 0, .any⟩,  -- DLK_DRVREG_DATA
  ⟨0x4140, 0x03, 0x06, .u32, .wo, .const 0, .mask 0xFFFFFF⟩,  -- DLK_DRVREG_WRITE
  ⟨0x4200, 0x01, 0x01, .u16, .rws, .const 0x12C, .between 100 2000⟩,  -- ROW_TREC
  ⟨0x4200, 0x02, 0x02, .u16, .rws, .const 0x190, .between 50 2000⟩,  -- ROW_TPRE
  ⟨0x4200, 0x03, 0x03, .u16, .rws, .const 0x96, .between 150 1000⟩,  -- ROW_TGOFF
  ⟨0x4200, 0x04, 0x04, .u16, .rws, .const 0x64, .between 20 500⟩,  -- ROW_TSAMP
  ⟨0x4200, 0x05, 0x05, .u8, .rws, .const 0, .any⟩,  -- ROW_TSKEW
  ⟨0x4200, 0x06, 0x06, .u8, .ro, .const 0, .any⟩,  -- ROW_PHASE
  ⟨0x4300, 0x01, 0x04, .u8, .rw, .const 0, .between 0 3⟩,  -- CRM_MODE
  ⟨0x4301, 0x01, 0x04, .u16, .rw, .const 0x3E8, .between 125 4000⟩,  -- CRM_PERIOD
  ⟨0x4302, 0x01, 0x04, .u8, .rw, .const 0x80, .between 1 255⟩,  -- CRM_DUTY
  ⟨0x4303, 0x01, 0x04, .u16, .rw, .const 0, .between 0 3999⟩,  -- CRM_PHASE
  ⟨0x4304, 0x01, 0x04, .u32, .rw, .const 0x3FF00000, .mask 0x3FFFFFFF⟩,  -- CRM_COLOUR1
  ⟨0x4305, 0x01, 0x04, .u32, .rw, .const 0, .mask 0x3FFFFFFF⟩,  -- CRM_COLOUR2
  ⟨0x4306, 0x01, 0x04, .u8, .rw, .const 0x10, .between 0 64⟩,  -- CRM_DIM
  ⟨0x4307, 0x01, 0x04, .u32, .ro, .const 0, .any⟩,  -- CRM_STATE
  ⟨0x4310, 0x01, 0x40, .u64, .rw, .const 0, .rect⟩,  -- CRM_RECT
  ⟨0x4400, 0x01, 0x01, .u8, .rw, .const 0, .mask 0x0F⟩,  -- PNL_RAILREQ
  ⟨0x4400, 0x02, 0x02, .bool, .rws, .const 1, .any⟩,  -- PNL_AUTORAIL
  ⟨0x4400, 0x03, 0x03, .u16, .rws, .const 5, .between 0 100⟩,  -- PNL_SLOT
  ⟨0x4400, 0x04, 0x04, .u16, .rws, .const 0x64, .between 20 5000⟩,  -- PNL_TPDOFF
  ⟨0x4400, 0x05, 0x05, .u16, .rws, .const 0x7D0, .between 100 50000⟩,  -- PNL_TRISE
  ⟨0x4400, 0x06, 0x06, .u8, .ro, .const 0, .any⟩,  -- PNL_RAILERR
  ⟨0x4400, 0x07, 0x07, .u16, .rwl, .const 0x40, .between 1 4095⟩,  -- PNL_SHORTBAND
  ⟨0x4401, 0x01, 0x01, .u8, .rwl, .const 0, .between 0 1⟩,  -- PNL_DISMODE
  ⟨0x4401, 0x02, 0x02, .u16, .rwl, .const 0xC8, .between 0 1000⟩,  -- PNL_TPV
  ⟨0x4401, 0x03, 0x03, .u16, .rwl, .const 0x1F4, .between 12 2000⟩,  -- PNL_TPD
  ⟨0x4401, 0x04, 0x04, .u16, .rwl, .const 0xFA, .between 0 1000⟩  -- PNL_TSTAG
]

/-- Rows of the indices from 0x4402 to 0x4431. -/
def rows4c : List Row := [
  ⟨0x4402, 0x01, 0x01, .u16, .ro, .const 0, .any⟩,  -- PNL_VRES_MV
  ⟨0x4402, 0x02, 0x02, .u16, .rwl, .const 0x1F40, .between 5500 16000⟩,  -- PNL_VRESMIN
  ⟨0x4402, 0x03, 0x03, .bool, .wo, .const 0, .any⟩,  -- PNL_VRESTEST
  ⟨0x4402, 0x04, 0x04, .u16, .ro, .const 0xFFFF, .any⟩,  -- PNL_VRESCAP
  ⟨0x4402, 0x05, 0x05, .u16, .ro, .const 0xFFFF, .any⟩,  -- PNL_VRESNEED
  ⟨0x4402, 0x06, 0x06, .u8, .ro, .const 0, .any⟩,  -- PNL_VRESSTAT
  ⟨0x4410, 0x01, 0x02, .u32, .ro, .const 0xFFFFFFFF, .any⟩,  -- PNL_CRKR
  ⟨0x4410, 0x03, 0x04, .u32, .rwl, .const 0, .any⟩,  -- PNL_CRKBASE
  ⟨0x4410, 0x05, 0x05, .u8, .rwl, .const 0x14, .between 5 50⟩,  -- PNL_CRKREL
  ⟨0x4410, 0x06, 0x06, .i16, .rwl, .const 0xF3C, .any⟩,  -- PNL_CRKTC
  ⟨0x4410, 0x07, 0x07, .u8, .wo, .const 0, .mask 0x03⟩,  -- PNL_CRKLEARN
  ⟨0x4410, 0x08, 0x08, .u8, .ro, .const 0x44, .any⟩,  -- PNL_CRKSTAT
  ⟨0x4420, 0x01, 0x04, .u16, .rwl, .const 0xFFFF, .between 100 65535⟩,  -- PNL_ILIM
  ⟨0x4421, 0x01, 0x04, .u16, .rwl, .const 0x32, .any⟩,  -- PNL_ISHORT
  ⟨0x4422, 0x01, 0x04, .u32, .ro, .const 0, .any⟩,  -- PNL_IFULL
  ⟨0x4423, 0x01, 0x04, .u8, .ro, .const 0x40, .any⟩,  -- PNL_DUTYNOW
  ⟨0x4424, 0x01, 0x04, .u32, .rw, .const 0, .counter⟩,  -- PNL_LIMCNT
  ⟨0x4425, 0x01, 0x04, .u16, .ro, .const 0, .any⟩,  -- PNL_SHORTOPEN
  ⟨0x4428, 0x01, 0x03, .dom, .rwl, .const 0, .any⟩,  -- PNL_IPIX
  ⟨0x4430, 0x01, 0x04, .u32, .ro, .const 0, .any⟩,  -- PNL_RAIL
  ⟨0x4431, 0x01, 0x01, .u32, .ro, .const 0, .any⟩,  -- PNL_LB_RESET
  ⟨0x4431, 0x02, 0x02, .u32, .ro, .const 0, .any⟩,  -- PNL_LB_PFAIL
  ⟨0x4431, 0x03, 0x03, .u32, .ro, .const 0, .any⟩,  -- PNL_LB_CRACK
  ⟨0x4431, 0x04, 0x04, .u32, .ro, .const 0, .any⟩,  -- PNL_LB_CUT
  ⟨0x4431, 0x05, 0x05, .u8, .ro, .const 0, .any⟩,  -- PNL_LB_LAST
  ⟨0x4431, 0x06, 0x06, .u16, .ro, .const 0, .any⟩  -- PNL_LB_DUR
]

/-- Rows of the indices from 0x5000 to 0x5210. -/
def rows5a : List Row := [
  ⟨0x5000, 0x01, 0x01, .u8, .rwl, .const 0, .between 0 7⟩,  -- FRS_HATCHORG_X
  ⟨0x5000, 0x02, 0x02, .u8, .rwl, .const 0, .between 0 7⟩,  -- FRS_HATCHORG_Y
  ⟨0x5000, 0x03, 0x03, .bool, .rwl, .const 1, .any⟩,  -- FRS_DEADVERM
  ⟨0x5001, 0x01, 0x01, .u16, .ro, .const 0, .any⟩,  -- FRS_HATCHED
  ⟨0x5001, 0x02, 0x02, .u16, .ro, .const 0, .any⟩,  -- FRS_HATCHVERM
  ⟨0x5001, 0x03, 0x03, .u32, .rw, .const 0, .counter⟩,  -- FRS_EXPIRE_O
  ⟨0x5001, 0x04, 0x04, .u32, .rw, .const 0, .counter⟩,  -- FRS_EXPIRE_V
  ⟨0x5001, 0x05, 0x05, .bool, .ro, .const 0, .any⟩,  -- FRS_SUSPENDED
  ⟨0x5001, 0x06, 0x06, .u32, .ro, .const 0, .any⟩,  -- FRS_VERMPIX
  ⟨0x5001, 0x07, 0x07, .u32, .ro, .const 0, .any⟩,  -- FRS_VERMCAP
  ⟨0x5010, 0x01, 0x01, .u8, .rwl, .const 0, .between 0 2⟩,  -- FRS_DEFCLASS
  ⟨0x5010, 0x02, 0x02, .u8, .rwl, .const 0, .between 0 1⟩,  -- FRS_UNVOUCHED
  ⟨0x5010, 0x03, 0x03, .u16, .rwl, .const 0x3E8, .between 20 10000⟩,  -- FRS_MAXAGE
  ⟨0x5100, 0x01, 0x01, .u8, .rwl, .const 8, .between 1 64⟩,  -- IND_BURST
  ⟨0x5100, 0x02, 0x02, .u16, .rwl, .const 0x40, .between 1 4095⟩,  -- IND_M6BAND
  ⟨0x5100, 0x03, 0x03, .u8, .rwl, .const 8, .between 2 255⟩,  -- IND_M6CLEAR
  ⟨0x5101, 0x01, 0x04, .u32, .rw, .const 0, .counter⟩,  -- IND_SM04
  ⟨0x5102, 0x01, 0x04, .u32, .rw, .const 0, .counter⟩,  -- IND_SM05
  ⟨0x5103, 0x01, 0x04, .u32, .rw, .const 0, .counter⟩,  -- IND_SM06
  ⟨0x5104, 0x01, 0x04, .u32, .rw, .const 0, .counter⟩,  -- IND_SM07
  ⟨0x5105, 0x01, 0x04, .u32, .rw, .const 0, .counter⟩,  -- IND_SM14
  ⟨0x5110, 0x01, 0x01, .u32, .ro, .const 0, .any⟩,  -- IND_SHADOW_PIX
  ⟨0x5110, 0x02, 0x02, .u16, .ro, .const 0, .any⟩,  -- IND_SHADOW_LAG
  ⟨0x5110, 0x03, 0x03, .u32, .ro, .const 0, .any⟩,  -- IND_SHADOW_FIRST
  ⟨0x5200, 0x01, 0x11, .u32, .ro, .const 0, .any⟩,  -- SAF_TABLE
  ⟨0x5201, 0x01, 0x01, .bool, .ro, .const 1, .any⟩,  -- SAF_FAULT
  ⟨0x5201, 0x02, 0x02, .u8, .ro, .const 0, .any⟩,  -- SAF_DARKBANDS
  ⟨0x5201, 0x03, 0x03, .u8, .ro, .const 0, .any⟩,  -- SAF_CUTBANDS
  ⟨0x5201, 0x04, 0x04, .u8, .ro, .const 0, .any⟩,  -- SAF_LAST_SM
  ⟨0x5201, 0x05, 0x05, .u48, .ro, .const 0, .any⟩,  -- SAF_LAST_EPOCH
  ⟨0x5201, 0x06, 0x06, .u8, .wo, .const 0, .mask 0x0F⟩,  -- SAF_BANDCLR
  ⟨0x5201, 0x07, 0x07, .bool, .wo, .const 0, .any⟩,  -- SAF_CLEAR
  ⟨0x5201, 0x08, 0x08, .u8, .ro, .const 0, .any⟩,  -- SAF_CLRSTAT
  ⟨0x5202, 0x01, 0x01, .bool, .ro, .const 0, .any⟩,  -- SAF_SEALED
  ⟨0x5202, 0x02, 0x02, .u8, .wo, .const 0, .between 1 2⟩,  -- SAF_SEALCMD
  ⟨0x5202, 0x03, 0x03, .u32, .ro, .const 0, .any⟩,  -- SAF_SEALCRC
  ⟨0x5202, 0x04, 0x04, .u32, .ro, .const 0, .any⟩,  -- SAF_SEALCNT
  ⟨0x5202, 0x05, 0x05, .u32, .ro, .const 0, .any⟩,  -- SAF_LIVECRC
  ⟨0x5210, 0x01, 0x01, .u8, .rw, .const 0, .between 1 17⟩,  -- SAF_INJ_SM
  ⟨0x5210, 0x02, 0x02, .u8, .rw, .const 0, .between 0 3⟩  -- SAF_INJ_BAND
]

/-- Rows of the indices from 0x5210 to 0x5350. -/
def rows5b : List Row := [
  ⟨0x5210, 0x03, 0x03, .bool, .wo, .const 0, .any⟩,  -- SAF_INJ_GO
  ⟨0x5220, 0x01, 0x01, .dom, .wo, .const 0, .any⟩,  -- SAF_PATCH
  ⟨0x5221, 0x01, 0x01, .u32, .ro, .const 0, .any⟩,  -- SAF_PATCH_ACTVER
  ⟨0x5221, 0x02, 0x02, .u32, .ro, .const 0xFFFFFFFF, .any⟩,  -- SAF_PATCH_LDVER
  ⟨0x5221, 0x03, 0x03, .u8, .ro, .const 0, .any⟩,  -- SAF_PATCH_STAT
  ⟨0x5221, 0x04, 0x04, .u8, .wo, .const 0, .between 1 2⟩,  -- SAF_PATCH_CMD
  ⟨0x5221, 0x05, 0x05, .u32, .ro, .const 0, .any⟩,  -- SAF_ROMID
  ⟨0x5300, 0x01, 0x01, .bool, .rwl, .const 1, .any⟩,  -- MDL_ENABLE
  ⟨0x5300, 0x02, 0x04, .u8, .rws, .const 0xF, .between 0 15⟩,  -- MDL_RECMAX
  ⟨0x5301, 0x01, 0x01, .u32, .ro, .const 0, .any⟩,  -- MDL_ROWS
  ⟨0x5301, 0x02, 0x02, .u32, .rw, .const 0, .counter⟩,  -- MDL_BSAT
  ⟨0x5301, 0x03, 0x03, .u32, .rw, .const 0, .counter⟩,  -- MDL_ASAT
  ⟨0x5301, 0x04, 0x04, .u32, .rw, .const 0, .counter⟩,  -- MDL_UNCONF
  ⟨0x5301, 0x05, 0x05, .u32, .ro, .const 0, .any⟩,  -- MDL_TUPD
  ⟨0x5301, 0x06, 0x06, .u32, .ro, .const 0, .any⟩,  -- MDL_TWIN
  ⟨0x5301, 0x07, 0x07, .u16, .ro, .const 0, .any⟩,  -- MDL_BMAX
  ⟨0x5301, 0x08, 0x08, .u32, .ro, .const 0, .any⟩,  -- MDL_BEXCESS
  ⟨0x5310, 0x01, 0x03, .dom, .rws, .const 0, .any⟩,  -- MDL_STRESS
  ⟨0x5311, 0x01, 0x03, .dom, .rws, .const 0, .any⟩,  -- MDL_EMIT
  ⟨0x5312, 0x01, 0x10, .u16, .rws, .lin 0 1100, .any⟩,  -- MDL_RELIEF
  ⟨0x5320, 0x01, 0x01, .dom, .rws, .const 0, .any⟩,  -- MDL_LEDGER
  ⟨0x5321, 0x01, 0x01, .u16, .rw, .const 0, .between 0 4319⟩,  -- MDL_LEDCUR_YCAN
  ⟨0x5321, 0x02, 0x02, .u16, .rw, .const 0, .between 0 23039⟩,  -- MDL_LEDCUR_SCAN
  ⟨0x5321, 0x03, 0x03, .u16, .rw, .const 0, .between 0 4319⟩,  -- MDL_LEDCUR_YSPI
  ⟨0x5321, 0x04, 0x04, .u16, .rw, .const 0, .between 0 23039⟩,  -- MDL_LEDCUR_SSPI
  ⟨0x5330, 0x01, 0x01, .bool, .rws, .const 1, .any⟩,  -- WEAR_SPARES
  ⟨0x5330, 0x02, 0x04, .u16, .rwl, .const 0xF000, .any⟩,  -- WEAR_AGELIMIT
  ⟨0x5330, 0x05, 0x05, .bool, .wo, .const 0, .any⟩,  -- WEAR_SATCLR
  ⟨0x5331, 0x01, 0x01, .u32, .ro, .const 0, .any⟩,  -- WEAR_SWITCHES
  ⟨0x5331, 0x02, 0x02, .u32, .ro, .const 0, .any⟩,  -- WEAR_SINCECAL
  ⟨0x5331, 0x03, 0x03, .u32, .ro, .const 0, .any⟩,  -- WEAR_DEAD
  ⟨0x5331, 0x04, 0x04, .u32, .ro, .const 0, .any⟩,  -- WEAR_DEADVERM
  ⟨0x5331, 0x05, 0x05, .u32, .rw, .const 0, .counter⟩,  -- WEAR_SHORTS
  ⟨0x5331, 0x06, 0x06, .u16, .ro, .const 0, .any⟩,  -- WEAR_QUEUED
  ⟨0x5331, 0x07, 0x07, .u32, .rw, .const 0, .counter⟩,  -- WEAR_MASKFAIL
  ⟨0x5331, 0x08, 0x08, .u32, .ro, .const 0, .any⟩,  -- WEAR_MASKOK
  ⟨0x5331, 0x09, 0x09, .u8, .ro, .const 0, .any⟩,  -- WEAR_LOGIDX
  ⟨0x5332, 0x01, 0x40, .u64, .ro, .const 0, .any⟩,  -- WEAR_LOG
  ⟨0x5340, 0x01, 0x01, .dom, .rws, .const 0, .any⟩,  -- WEAR_DEFMAP
  ⟨0x5350, 0x01, 0x01, .dom, .ro, .const 0, .any⟩  -- WEAR_HEADSAT
]

/-- Rows of the indices from 0x5F00 to 0x5F12. -/
def rows5c : List Row := [
  ⟨0x5F00, 0x01, 0x01, .u32, .rw, .const 0, .counter⟩,  -- DIAG_VIOLCNT
  ⟨0x5F00, 0x02, 0x02, .u32, .ro, .const 0, .any⟩,  -- DIAG_VIOLLAST
  ⟨0x5F00, 0x03, 0x03, .u32, .rw, .const 0, .counter⟩,  -- DIAG_VIOLRD
  ⟨0x5F00, 0x04, 0x04, .u32, .rw, .const 0, .counter⟩,  -- DIAG_VIOLWR
  ⟨0x5F10, 0x01, 0x1C, .u32, .ro, .const 0, .any⟩,  -- CDC_XSTAT
  ⟨0x5F11, 0x01, 0x1C, .u32, .rw, .const 0, .counter⟩,  -- CDC_TIMEOUT
  ⟨0x5F12, 0x01, 0x1C, .u32, .rw, .const 0, .counter⟩  -- CDC_MERGE
]

/-- Rows of the indices from 0x6000 to 0x6210. -/
def rows6a : List Row := [
  ⟨0x6000, 0x01, 0x01, .u8, .wo, .const 0, .between 0 3⟩,  -- PWR_REQ
  ⟨0x6000, 0x02, 0x02, .u16, .rw, .const 0x258, .between 550 720⟩,  -- PWR_VP2
  ⟨0x6000, 0x03, 0x03, .u32, .rw, .const 0, .between 0 604800⟩,  -- PWR_P3TIMER
  ⟨0x6001, 0x01, 0x01, .u8, .ro, .const 0, .any⟩,  -- PWR_STATE
  ⟨0x6001, 0x02, 0x02, .u8, .ro, .const 0, .any⟩,  -- PWR_ENTRY
  ⟨0x6001, 0x03, 0x03, .u8, .ro, .const 0, .any⟩,  -- PWR_TARGET
  ⟨0x6001, 0x04, 0x04, .u16, .ro, .const 0, .any⟩,  -- PWR_ABORT
  ⟨0x6001, 0x05, 0x05, .u8, .ro, .const 0, .any⟩,  -- PWR_RETRIES
  ⟨0x6001, 0x06, 0x06, .u32, .rw, .const 0, .counter⟩,  -- PWR_ABORTS
  ⟨0x6001, 0x07, 0x07, .u8, .ro, .const 0, .any⟩,  -- PWR_BOOTFAIL
  ⟨0x6002, 0x00, 0x00, .u8, .ro, .const 0, .any⟩,  -- PWR_LASTWAKE
  ⟨0x6003, 0x01, 0x01, .u8, .rw, .const 7, .mask 0x07⟩,  -- PWR_WAKEEN
  ⟨0x6003, 0x02, 0x02, .u8, .rw, .const 0, .between 0 1⟩,  -- PWR_WAKEMODE
  ⟨0x6003, 0x03, 0x03, .u32, .ro, .const 0, .any⟩,  -- PWR_WAKECNT
  ⟨0x6004, 0x01, 0x01, .dom, .ro, .const 0, .any⟩,  -- PWR_RETIMG
  ⟨0x6004, 0x02, 0x02, .u32, .rw, .const 0, .counter⟩,  -- PWR_RETCORR
  ⟨0x6004, 0x03, 0x03, .u8, .ro, .const 0, .any⟩,  -- PWR_RETLOSS
  ⟨0x6010, 0x01, 0x01, .bool, .rw, .const 1, .any⟩,  -- PWR_PADREL_MGT
  ⟨0x6010, 0x02, 0x02, .bool, .rw, .const 1, .any⟩,  -- PWR_PADREL_PANEL
  ⟨0x6010, 0x03, 0x03, .bool, .rw, .const 1, .any⟩,  -- PWR_PADREL_AON
  ⟨0x6100, 0x01, 0x01, .u8, .ro, .const 0x20, .any⟩,  -- PMB_ADDR
  ⟨0x6100, 0x02, 0x02, .u8, .ro, .const 2, .any⟩,  -- PMB_CLK
  ⟨0x6100, 0x03, 0x03, .bool, .ro, .const 1, .any⟩,  -- PMB_PEC
  ⟨0x6100, 0x04, 0x04, .i16, .ro, .const 0xFFF4, .any⟩,  -- PMB_VEXP
  ⟨0x6100, 0x05, 0x05, .u16, .rws, .const 0xEBFE, .any⟩,  -- PMB_STATMASK
  ⟨0x6101, 0x01, 0x01, .u16, .ro, .const 0, .any⟩,  -- PMB_VREQ
  ⟨0x6101, 0x02, 0x02, .u16, .ro, .const 0, .any⟩,  -- PMB_VACK
  ⟨0x6101, 0x03, 0x03, .u16, .ro, .const 0, .any⟩,  -- PMB_STATUS
  ⟨0x6101, 0x04, 0x04, .u32, .ro, .const 0, .any⟩,  -- PMB_STEPS
  ⟨0x6101, 0x05, 0x05, .u32, .rw, .const 0, .counter⟩,  -- PMB_RETRY
  ⟨0x6101, 0x06, 0x06, .u32, .rw, .const 0, .counter⟩,  -- PMB_FAIL
  ⟨0x6101, 0x07, 0x07, .u32, .rw, .const 0, .counter⟩,  -- PMB_ALERTS
  ⟨0x6101, 0x08, 0x08, .u16, .ro, .const 0, .any⟩,  -- PMB_HOLDOFF
  ⟨0x6200, 0x01, 0x01, .u8, .wo, .const 0, .oneOf [0x5A]⟩,  -- RST_SOFT
  ⟨0x6200, 0x02, 0x02, .u16, .rws, .const 0xC8, .between 200 10000⟩,  -- RST_STRETCH
  ⟨0x6201, 0x01, 0x01, .u8, .ro, .const 1, .any⟩,  -- RST_LAST
  ⟨0x6201, 0x02, 0x02, .u32, .ro, .const 0, .any⟩,  -- RST_CNT_POR
  ⟨0x6201, 0x03, 0x06, .u32, .ro, .const 0, .any⟩,  -- RST_CNT
  ⟨0x6201, 0x07, 0x07, .u32, .ro, .const 0, .any⟩,  -- RST_EXTLOW
  ⟨0x6210, 0x01, 0x01, .u16, .ro, .const 0, .any⟩  -- RST_STRAP_CODE
]

/-- Rows of the indices from 0x6210 to 0x6304. -/
def rows6b : List Row := [
  ⟨0x6210, 0x02, 0x02, .u8, .ro, .const 0, .any⟩,  -- RST_STRAP_SITE
  ⟨0x6210, 0x03, 0x03, .bool, .ro, .const 0, .any⟩,  -- RST_STRAP_MARGIN
  ⟨0x6210, 0x04, 0x04, .u16, .ro, .const 0, .any⟩,  -- RST_STRAP_SPREAD
  ⟨0x6300, 0x01, 0x01, .u8, .rws, .const 0, .between 0 2⟩,  -- GYL_ROLE
  ⟨0x6300, 0x02, 0x02, .u8, .rws, .const 0, .any⟩,  -- GYL_WALLID
  ⟨0x6300, 0x03, 0x03, .u8, .rws, .const 8, .between 6 64⟩,  -- GYL_LEAD
  ⟨0x6300, 0x04, 0x04, .u8, .rws, .const 8, .between 1 64⟩,  -- GYL_SLEWMAX
  ⟨0x6300, 0x05, 0x05, .bool, .rws, .const 1, .any⟩,  -- GYL_AUTOALIGN
  ⟨0x6300, 0x06, 0x06, .bool, .wo, .const 0, .any⟩,  -- GYL_REALIGN
  ⟨0x6300, 0x07, 0x07, .bool, .wo, .const 0, .any⟩,  -- GYL_SNAPNOW
  ⟨0x6300, 0x08, 0x08, .u16, .rw, .const 0, .any⟩,  -- GYL_SNAPPER
  ⟨0x6301, 0x01, 0x01, .u8, .ro, .const 0, .any⟩,  -- GYL_STATE
  ⟨0x6301, 0x02, 0x02, .u16, .ro, .const 0, .any⟩,  -- GYL_GEN
  ⟨0x6301, 0x03, 0x03, .u16, .ro, .const 0, .any⟩,  -- GYL_GENBUS
  ⟨0x6301, 0x04, 0x04, .u8, .ro, .const 0xFF, .any⟩,  -- GYL_MASTER
  ⟨0x6301, 0x05, 0x05, .u32, .rw, .const 0, .counter⟩,  -- GYL_CRCERR
  ⟨0x6301, 0x06, 0x06, .u32, .rw, .const 0, .counter⟩,  -- GYL_RESENDS
  ⟨0x6301, 0x07, 0x07, .u48, .ro, .const 0, .any⟩,  -- GYL_SNAPEPOCH
  ⟨0x6301, 0x08, 0x08, .u32, .rw, .const 0, .counter⟩,  -- GYL_SNAPLATE
  ⟨0x6302, 0x01, 0x01, .u8, .rw, .const 0, .between 1 4⟩,  -- GYL_CMT_KIND
  ⟨0x6302, 0x02, 0x02, .u32, .rw, .const 0, .any⟩,  -- GYL_CMT_ARG
  ⟨0x6302, 0x03, 0x03, .u48, .rw, .const 0, .any⟩,  -- GYL_CMT_EPOCH
  ⟨0x6302, 0x04, 0x04, .u8, .wo, .const 0, .mask 0x81⟩,  -- GYL_CMT_REQ
  ⟨0x6302, 0x05, 0x05, .u8, .ro, .const 0, .any⟩,  -- GYL_CMT_STAT
  ⟨0x6302, 0x06, 0x06, .u8, .ro, .const 0, .any⟩,  -- GYL_CMT_REASON
  ⟨0x6302, 0x07, 0x07, .u8, .ro, .const 0xFF, .any⟩,  -- GYL_CMT_NODE
  ⟨0x6302, 0x08, 0x08, .u16, .ro, .const 0, .any⟩,  -- GYL_CMT_GEN
  ⟨0x6302, 0x09, 0x09, .u32, .rw, .const 0, .any⟩,  -- GYL_LAYOUTTAG
  ⟨0x6303, 0x01, 0x01, .u8, .rws, .const 7, .oneOf [4, 5, 6, 7]⟩,  -- GYL_REFEN
  ⟨0x6303, 0x02, 0x02, .u8, .ro, .const 3, .any⟩,  -- GYL_REFNOW
  ⟨0x6303, 0x03, 0x03, .bool, .ro, .const 0, .any⟩,  -- GYL_REFSW
  ⟨0x6303, 0x04, 0x04, .i32, .ro, .const 0, .any⟩,  -- GYL_PHASE
  ⟨0x6303, 0x05, 0x05, .u16, .rws, .const 0, .between 0 1000⟩,  -- GYL_FSDELAY
  ⟨0x6303, 0x06, 0x06, .u32, .rws, .const 0, .any⟩,  -- GYL_SRCOFFS
  ⟨0x6303, 0x07, 0x07, .u32, .rw, .const 0, .counter⟩,  -- GYL_REFCNT
  ⟨0x6303, 0x08, 0x08, .u8, .ro, .const 0, .any⟩,  -- GYL_SRCDIV
  ⟨0x6304, 0x01, 0x01, .u16, .rws, .const 0x14, .between 0 1000⟩,  -- GYL_WAKESLOT
  ⟨0x6304, 0x02, 0x02, .bool, .rws, .const 0, .any⟩,  -- GYL_WAKEAUTO
  ⟨0x6304, 0x03, 0x03, .bool, .wo, .const 0, .any⟩,  -- GYL_WAKENOW
  ⟨0x6304, 0x04, 0x04, .u16, .rws, .const 0xBB8, .between 10 10000⟩  -- GYL_WAKEREP
]

/-- Rows of the indices from 0x6304 to 0x6501. -/
def rows6c : List Row := [
  ⟨0x6304, 0x05, 0x05, .u32, .ro, .const 0, .any⟩,  -- GYL_WAKESENT
  ⟨0x6304, 0x06, 0x06, .u32, .ro, .const 0, .any⟩,  -- GYL_WAKEHEARD
  ⟨0x6310, 0x01, 0x40, .u32, .ro, .const 0, .any⟩,  -- GYL_NODES
  ⟨0x6400, 0x01, 0x01, .u8, .rws, .const 0x18, .between 1 168⟩,  -- JRN_LEDPER
  ⟨0x6400, 0x02, 0x02, .u8, .rws, .const 8, .between 1 12⟩,  -- JRN_COMPACT
  ⟨0x6400, 0x03, 0x03, .u8, .wo, .const 0, .between 1 4⟩,  -- JRN_CMD
  ⟨0x6401, 0x01, 0x01, .u8, .ro, .const 0, .any⟩,  -- JRN_STATE
  ⟨0x6401, 0x02, 0x02, .u8, .ro, .const 0, .any⟩,  -- JRN_FAULT
  ⟨0x6401, 0x03, 0x03, .u32, .ro, .const 0, .any⟩,  -- JRN_GEN
  ⟨0x6401, 0x04, 0x04, .u8, .ro, .const 0, .any⟩,  -- JRN_DEMPTR
  ⟨0x6401, 0x05, 0x05, .u32, .ro, .const 0, .any⟩,  -- JRN_SEQ
  ⟨0x6401, 0x06, 0x06, .u8, .ro, .const 0, .any⟩,  -- JRN_RINGUSE
  ⟨0x6401, 0x07, 0x07, .u16, .ro, .const 0, .any⟩,  -- JRN_LEDPIECE
  ⟨0x6401, 0x08, 0x08, .u32, .ro, .const 0, .any⟩,  -- JRN_ERASEMAX
  ⟨0x6401, 0x09, 0x09, .u32, .rw, .const 0, .counter⟩,  -- JRN_DROPPED
  ⟨0x6402, 0x01, 0x01, .u16, .ro, .const 0, .any⟩,  -- JRN_NORSIZE
  ⟨0x6402, 0x02, 0x02, .u16, .ro, .const 0, .any⟩,  -- JRN_PSIZE
  ⟨0x6402, 0x03, 0x03, .u16, .ro, .const 0, .any⟩,  -- JRN_RSIZE
  ⟨0x6402, 0x04, 0x04, .u32, .ro, .const 0, .any⟩,  -- JRN_MAXPIX
  ⟨0x6402, 0x05, 0x05, .bool, .ro, .const 0, .any⟩,  -- JRN_FACTLOCK
  ⟨0x6402, 0x06, 0x06, .bool, .ro, .const 0, .any⟩,  -- JRN_DTR
  ⟨0x6500, 0x01, 0x01, .u48, .ro, .const 0, .any⟩,  -- TLM_EPOCH
  ⟨0x6500, 0x02, 0x02, .i16, .ro, .const 0, .any⟩,  -- TLM_TDIE
  ⟨0x6500, 0x03, 0x03, .i16, .ro, .const 0, .any⟩,  -- TLM_TDRAM
  ⟨0x6500, 0x04, 0x04, .i16, .ro, .const 0x8000, .any⟩,  -- TLM_TPANEL
  ⟨0x6500, 0x05, 0x05, .u16, .ro, .const 0, .any⟩,  -- TLM_VCORE
  ⟨0x6500, 0x06, 0x06, .i16, .ro, .const 0x7FFF, .any⟩,  -- TLM_SLACK
  ⟨0x6500, 0x07, 0x07, .u16, .ro, .const 0, .any⟩,  -- TLM_DRAMBW
  ⟨0x6500, 0x08, 0x08, .u16, .ro, .const 0, .any⟩,  -- TLM_LINKUSE
  ⟨0x6500, 0x09, 0x09, .u16, .ro, .const 0, .any⟩,  -- TLM_COMMITS
  ⟨0x6500, 0x0A, 0x0A, .u32, .ro, .const 0, .any⟩,  -- TLM_UPTIME
  ⟨0x6501, 0x01, 0x01, .bool, .wo, .const 0, .any⟩,  -- TLM_SNAPCMD
  ⟨0x6501, 0x02, 0x02, .u48, .ro, .const 0, .any⟩,  -- TLM_SNAPEPOCH
  ⟨0x6501, 0x03, 0x03, .u32, .ro, .const 0, .any⟩,  -- TLM_SNAPCNT
  ⟨0x6501, 0x04, 0x04, .i16, .ro, .const 0, .any⟩,  -- TLM_SNAP_TDIE
  ⟨0x6501, 0x05, 0x05, .i16, .ro, .const 0, .any⟩,  -- TLM_SNAP_TDRAM
  ⟨0x6501, 0x06, 0x06, .i16, .ro, .const 0, .any⟩,  -- TLM_SNAP_TPANEL
  ⟨0x6501, 0x07, 0x07, .u16, .ro, .const 0, .any⟩,  -- TLM_SNAP_VCORE
  ⟨0x6501, 0x08, 0x08, .i16, .ro, .const 0, .any⟩,  -- TLM_SNAP_SLACK
  ⟨0x6501, 0x09, 0x09, .u16, .ro, .const 0, .any⟩  -- TLM_SNAP_DRAMBW
]

/-- Rows of the indices from 0x6501 to 0x6800. -/
def rows6d : List Row := [
  ⟨0x6501, 0x0A, 0x0A, .u16, .ro, .const 0, .any⟩,  -- TLM_SNAP_LINKUSE
  ⟨0x6501, 0x0B, 0x0B, .u16, .ro, .const 0, .any⟩,  -- TLM_SNAP_COMMITS
  ⟨0x6501, 0x0C, 0x0C, .u32, .ro, .const 0, .any⟩,  -- TLM_SNAP_UPTIME
  ⟨0x6501, 0x10, 0x2F, .u48, .ro, .const 0, .any⟩,  -- TLM_SNAPEVC
  ⟨0x6600, 0x01, 0x01, .u32, .rw, .const 0xFFFFFFFF, .any⟩,  -- EVC_ENABLE
  ⟨0x6600, 0x02, 0x02, .u32, .wo, .const 0, .any⟩,  -- EVC_CLEAR
  ⟨0x6601, 0x01, 0x20, .u8, .rw, .const 0xFF, .evcSel⟩,  -- EVC_SEL
  ⟨0x6602, 0x01, 0x20, .u48, .rw, .const 0, .counter⟩,  -- EVC_VAL
  ⟨0x6700, 0x01, 0x01, .u8, .wo, .const 0, .between 0 15⟩,  -- CAL_ADCTRIG
  ⟨0x6700, 0x02, 0x02, .u32, .rw, .const 0, .counter⟩,  -- CAL_ADCMERGE
  ⟨0x6700, 0x03, 0x03, .u32, .ro, .const 0, .any⟩,  -- CAL_ADCCONV
  ⟨0x6701, 0x01, 0x10, .u32, .ro, .const 0, .any⟩,  -- CAL_ADCVAL
  ⟨0x6702, 0x01, 0x04, .i16, .ro, .const 0x8000, .any⟩,  -- CAL_THMTEMP
  ⟨0x6702, 0x05, 0x05, .u16, .rwl, .const 0x14, .any⟩,  -- CAL_THMLO
  ⟨0x6702, 0x06, 0x06, .u16, .rwl, .const 0xFA0, .any⟩,  -- CAL_THMHI
  ⟨0x6703, 0x01, 0x01, .dom, .rwl, .const 0, .any⟩,  -- CAL_THMTAB
  ⟨0x6710, 0x01, 0x03, .u16, .rw, .vals [128, 512, 896], .any⟩,  -- CAL_LEVEL
  ⟨0x6710, 0x04, 0x06, .u8, .rw, .vals [8, 4, 2], .between 0 15⟩,  -- CAL_PIDX
  ⟨0x6710, 0x07, 0x07, .u8, .rw, .const 4, .between 1 16⟩,  -- CAL_AVG
  ⟨0x6710, 0x08, 0x08, .u8, .rw, .const 1, .between 1 16⟩,  -- CAL_GAPS
  ⟨0x6710, 0x09, 0x09, .u16, .rw, .const 0x10, .any⟩,  -- CAL_TSPAN
  ⟨0x6710, 0x0A, 0x0A, .u8, .rw, .const 0xF, .mask 0x0F⟩,  -- CAL_BANDS
  ⟨0x6711, 0x01, 0x09, .u16, .rw, .const 0, .any⟩,  -- CAL_REF
  ⟨0x6712, 0x01, 0x03, .dom, .rwl, .const 0, .any⟩,  -- CAL_EXPECT
  ⟨0x6713, 0x01, 0x01, .u8, .wo, .const 0, .between 1 5⟩,  -- CAL_CMD
  ⟨0x6713, 0x02, 0x02, .u8, .ro, .const 0, .any⟩,  -- CAL_STATE
  ⟨0x6713, 0x03, 0x03, .u8, .ro, .const 0, .any⟩,  -- CAL_RESULT
  ⟨0x6713, 0x04, 0x04, .u32, .ro, .const 0, .any⟩,  -- CAL_ESTTIME
  ⟨0x6713, 0x05, 0x05, .u8, .ro, .const 0, .any⟩,  -- CAL_CAUSE
  ⟨0x6713, 0x06, 0x06, .u32, .ro, .const 0, .any⟩,  -- CAL_GEN
  ⟨0x6713, 0x07, 0x07, .u32, .ro, .const 0, .any⟩,  -- CAL_CLAMP
  ⟨0x6713, 0x08, 0x08, .u32, .ro, .const 0, .any⟩,  -- CAL_TREMEAS
  ⟨0x6713, 0x09, 0x09, .u32, .ro, .const 0, .any⟩,  -- CAL_RUNID
  ⟨0x6713, 0x0A, 0x0A, .u32, .ro, .const 0, .any⟩,  -- CAL_PARCRC
  ⟨0x6713, 0x0B, 0x0B, .u32, .rw, .const 0, .counter⟩,  -- CAL_REPERR
  ⟨0x6713, 0x0C, 0x0C, .u32, .ro, .const 0, .any⟩,  -- CAL_FLAT
  ⟨0x6714, 0x01, 0x04, .u64, .ro, .const 0, .any⟩,  -- CAL_SLICE
  ⟨0x6720, 0x01, 0x01, .dom, .ro, .const 0, .any⟩,  -- CAL_TILEMEAN
  ⟨0x6721, 0x01, 0x04, .i16, .ro, .const 0, .any⟩,  -- CAL_TILETEMP
  ⟨0x6800, 0x01, 0x10, .u8, .rw, .const 0, .mask 0x8F⟩  -- BNK_OWNER
]

/-- Rows of the indices from 0x6801 to 0x6814. -/
def rows6e : List Row := [
  ⟨0x6801, 0x01, 0x10, .u32, .ro, .const 0, .any⟩,  -- BNK_STATE
  ⟨0x6802, 0x01, 0x01, .u32, .rw, .const 0, .counter⟩,  -- BNK_CORR
  ⟨0x6802, 0x02, 0x02, .u32, .rw, .const 0, .counter⟩,  -- BNK_UNCORR
  ⟨0x6802, 0x03, 0x03, .u32, .rw, .const 0, .counter⟩,  -- BNK_LOSTWR
  ⟨0x6802, 0x04, 0x04, .u32, .rw, .const 0, .counter⟩,  -- BNK_NONOWNER
  ⟨0x6802, 0x05, 0x05, .u32, .ro, .const 0, .any⟩,  -- BNK_UNCORR_LAST
  ⟨0x6802, 0x06, 0x06, .u32, .ro, .const 0, .any⟩,  -- BNK_SCRUBPASS
  ⟨0x6803, 0x01, 0x01, .u32, .rw, .const 0, .mask 0xF007FFFF⟩,  -- BNK_PEEK_ADDR
  ⟨0x6803, 0x02, 0x02, .u64, .rw, .const 0, .any⟩,  -- BNK_PEEK_DATA
  ⟨0x6803, 0x03, 0x03, .u8, .ro, .const 0, .any⟩,  -- BNK_PEEK_STAT
  ⟨0x6810, 0x01, 0x01, .u32, .rw, .const 0, .counter⟩,  -- FST_ECC_CORR
  ⟨0x6810, 0x02, 0x02, .u32, .rw, .const 0, .counter⟩,  -- FST_ECC_UNCORR
  ⟨0x6810, 0x03, 0x03, .u32, .ro, .const 0, .any⟩,  -- FST_ECC_LAST
  ⟨0x6810, 0x04, 0x04, .u8, .ro, .const 0, .any⟩,  -- FST_DIELOSS
  ⟨0x6811, 0x01, 0x01, .u32, .ro, .const 0, .any⟩,  -- FST_SCRUB_PASSES
  ⟨0x6811, 0x02, 0x02, .u32, .ro, .const 0, .any⟩,  -- FST_SCRUB_ADDR
  ⟨0x6811, 0x03, 0x03, .u16, .ro, .const 0, .any⟩,  -- FST_SCRUB_LAG
  ⟨0x6811, 0x04, 0x04, .u32, .rw, .const 0, .counter⟩,  -- FST_SCRUB_PROMO
  ⟨0x6812, 0x01, 0x01, .u8, .ro, .const 0, .any⟩,  -- FST_REFRESH_STEP
  ⟨0x6812, 0x02, 0x02, .i16, .ro, .const 0, .any⟩,  -- FST_TEMP_DIE0
  ⟨0x6812, 0x03, 0x03, .i16, .ro, .const 0, .any⟩,  -- FST_TEMP_DIE1
  ⟨0x6812, 0x04, 0x04, .u32, .ro, .const 0, .any⟩,  -- FST_REFRESH_CHG
  ⟨0x6813, 0x01, 0x01, .u16, .ro, .const 0, .any⟩,  -- FST_SPARE_DIE0
  ⟨0x6813, 0x02, 0x02, .u16, .ro, .const 0, .any⟩,  -- FST_SPARE_DIE1
  ⟨0x6813, 0x03, 0x03, .u16, .ro, .const 0, .any⟩,  -- FST_RELOC
  ⟨0x6813, 0x04, 0x04, .u16, .ro, .const 0, .any⟩,  -- FST_UNUSABLE
  ⟨0x6813, 0x05, 0x05, .u8, .ro, .const 0, .any⟩,  -- FST_DARKBANDS
  ⟨0x6814, 0x01, 0x20, .u32, .ro, .const 0xFFFFFFFF, .any⟩  -- FST_BADROW
]

/-- Rows of the indices from 0x7300 to 0x7F00. -/
def rows7a : List Row := [
  ⟨0x7300, 0x01, 0xFF, .u32, .ro, .const 0, .any⟩,  -- MDL_LEDWIN
  ⟨0x7F00, 0x01, 0x01, .dom, .ro, .const 0, .any⟩,  -- DIAG_SNAP_AGE
  ⟨0x7F00, 0x02, 0x02, .dom, .ro, .const 0, .any⟩,  -- DIAG_SNAP_TAG
  ⟨0x7F00, 0x03, 0x03, .dom, .ro, .const 0, .any⟩,  -- DIAG_SNAP_REP
  ⟨0x7F00, 0x04, 0x04, .dom, .ro, .const 0, .any⟩,  -- DIAG_SNAP_QUEUE
  ⟨0x7F00, 0x05, 0x05, .dom, .ro, .const 0, .any⟩  -- DIAG_SNAP_EVLOG
]

/-- The rows whose index begins with hexadecimal digit `k`. -/
def rowsOf (k : Nat) : List Row :=
  if k = 1 then rows1a ++ rows1b else
  if k = 2 then rows2a ++ rows2b else
  if k = 3 then rows3a ++ rows3b else
  if k = 4 then rows4a ++ rows4b ++ rows4c else
  if k = 5 then rows5a ++ rows5b ++ rows5c else
  if k = 6 then rows6a ++ rows6b ++ rows6c ++ rows6d ++ rows6e else
  if k = 7 then rows7a else
  []

/-- The row of an object. -/
def rowAt (ix sub : Nat) : Option Row :=
  (rowsOf (ix / 4096)).find? (fun r => decide (r.index = ix) && decide (r.lo ≤ sub) && decide (sub ≤ r.hi))

/-- The windows (R394): base index, number of indices, number of elements. -/
def windows : List (Nat × Nat × Nat) :=
  [(0x7000, 0x40, 16200), (0x7100, 0x21, 8192), (0x7200, 2, 288), (0x7400, 0x21, 8192)]

/-- The window element that an index and subindex name: base index and element (R380). -/
def winAt (ix sub : Nat) : Option (Nat × Nat) :=
  match windows.find? (fun w => decide (w.1 ≤ ix ∧ ix < w.1 + w.2.1)) with
  | some w => if 256 * (ix - w.1) + sub ≤ w.2.2 then some (w.1, 256 * (ix - w.1) + sub) else none
  | none => none

/-- The default at subindex `sub` of a row. -/
def Row.default (r : Row) (sub : Nat) : Nat :=
  match r.dflt with
  | .const v => v
  | .lin a b => a + b * (sub - r.lo)
  | .negLin b => ofSigned 16 (-(b * (sub - r.lo) : Nat))
  | .vals vs => vs.getD (sub - r.lo) 0
  | .ident => if (sub - r.lo) % 4 = 0 then 16384 else 0

/-- The highest subindex of an index. -/
def lastSub (ix : Nat) : Nat :=
  ((rowsOf (ix / 4096)).filter (fun r => decide (r.index = ix))).foldl (fun m r => max m r.hi) 0

/-- The bytes a value of the type takes. -/
def Ty.bytes : Ty → Nat
  | .bool => 1 | .u8 => 1 | .i8 => 1 | .u16 => 2 | .i16 => 2 | .u32 => 4 | .i32 => 4 | .u48 => 6 | .u64 => 8
  | .str => 6 | .dom => 0

/-- The largest raw value of the type. -/
def Ty.top (t : Ty) : Nat := if t = .bool then 1 else 256 ^ t.bytes - 1

/-- Whether a raw value lies within the range its table states. -/
def Rng.holds (g : Rng) (v : Nat) : Bool :=
  match g with
  | .any => true
  | .between lo hi => decide (lo ≤ v ∧ v ≤ hi)
  | .step lo hi b => decide (lo ≤ v ∧ v ≤ hi ∧ v % b = 0)
  | .mask m => decide (v &&& m = v)
  | .oneOf vs => vs.contains v
  | .counter => decide (v = 0)
  | .canBase => decide (v % 256 = 0 ∧ v ≤ 0x1FFFFF00)
  | .evtPulse => decide (v &&& 0x73 = v ∧ v / 16 ≤ 6)
  | .evcSel => decide (v ≤ 0xDF ∨ v = 0xFF)
  | .rect => decide (field v 60 3 ≤ 4 ∧ field v 56 4 = 0 ∧ field v 0 4 = 0)

/-- The dictionary key of an object. -/
def key (ix sub : Nat) : Nat := 256 * ix + sub

/-- What an object whose value is not listed reads as: its default (R381). -/
def objDefault (k : Nat) : Nat :=
  match rowAt (k / 256) (k % 256) with
  | some r => r.default (k % 256)
  | none => 0

end Sys2Proof.Machine
end

