-- ==== Sys2Proof/Machine/Names.lean ====
section
/-!
DEFINITION. The dictionary key, 256 × index + subindex, of every named object; for an array, that of its first element
(chapter 15 and the object tables of every chapter).
-/

namespace Sys2Proof.Machine

abbrev Ob.DEV_VENDOR : Nat := 0x100001
abbrev Ob.DEV_PART : Nat := 0x100002
abbrev Ob.DEV_STEP : Nat := 0x100003
abbrev Ob.DEV_DICTVER : Nat := 0x100004
abbrev Ob.DEV_BOOTCNT : Nat := 0x100005
abbrev Ob.DEV_UPTIME : Nat := 0x100006
abbrev Ob.DEV_STATE : Nat := 0x100100
abbrev Ob.DEV_ERRREG : Nat := 0x100200
abbrev Ob.DEV_EVLOG : Nat := 0x100301
abbrev Ob.DEV_EVEPOCH : Nat := 0x100401
abbrev Ob.DEV_EVNEXT : Nat := 0x100501
abbrev Ob.DEV_EVTOTAL : Nat := 0x100502
abbrev Ob.DEV_EVCLR : Nat := 0x100503
abbrev Ob.DEV_RUNERR : Nat := 0x100600
abbrev Ob.WNP_CANEN : Nat := 0x110001
abbrev Ob.WNP_CANBASE : Nat := 0x110002
abbrev Ob.WNP_NODEHI : Nat := 0x110003
abbrev Ob.WNP_NODE : Nat := 0x110004
abbrev Ob.WNP_NBR : Nat := 0x110005
abbrev Ob.WNP_DBR : Nat := 0x110006
abbrev Ob.WNP_NSP : Nat := 0x110007
abbrev Ob.WNP_DSP : Nat := 0x110008
abbrev Ob.WNP_BUSOFF : Nat := 0x110009
abbrev Ob.WNP_CANIGN : Nat := 0x11000A
abbrev Ob.WNP_SESS : Nat := 0x110101
abbrev Ob.WNP_STALE : Nat := 0x110201
abbrev Ob.WNP_SPIERR : Nat := 0x110203
abbrev Ob.WNP_TAGCONF : Nat := 0x110204
abbrev Ob.WNP_QFULL : Nat := 0x110205
abbrev Ob.WNP_CACHEHIT : Nat := 0x110206
abbrev Ob.WNP_SEGABORT : Nat := 0x110207
abbrev Ob.WNP_RSPDROP : Nat := 0x110208
abbrev Ob.WNP_SPIEN : Nat := 0x110301
abbrev Ob.WNP_EVTMODE : Nat := 0x112001
abbrev Ob.WNP_EVTMASK : Nat := 0x112002
abbrev Ob.WNP_EVTPEND : Nat := 0x112003
abbrev Ob.WNP_EVTPULSE : Nat := 0x112004
abbrev Ob.WNP_EVTCAN : Nat := 0x112005
abbrev Ob.ACC_KEY : Nat := 0x120001
abbrev Ob.ACC_KEYSET : Nat := 0x120101
abbrev Ob.ACC_FAILS : Nat := 0x120102
abbrev Ob.ACC_LOCKOUTS : Nat := 0x120103
abbrev Ob.ACC_IDLE : Nat := 0x120104
abbrev Ob.ACC_UID : Nat := 0x120201
abbrev Ob.PXL_ENABLE : Nat := 0x200001
abbrev Ob.PXL_LANES : Nat := 0x200002
abbrev Ob.PXL_FWD_MAXRATE : Nat := 0x200003
abbrev Ob.PXL_BACK_MAXRATE : Nat := 0x200004
abbrev Ob.PXL_BACK_LANES : Nat := 0x200005
abbrev Ob.PXL_RETRAIN : Nat := 0x200006
abbrev Ob.PXL_LINK : Nat := 0x200101
abbrev Ob.PXL_FRATE : Nat := 0x200102
abbrev Ob.PXL_BRATE : Nat := 0x200103
abbrev Ob.PXL_FMASK : Nat := 0x200104
abbrev Ob.PXL_BMASK : Nat := 0x200105
abbrev Ob.PXL_LCN : Nat := 0x200106
abbrev Ob.PXL_SESSION : Nat := 0x200107
abbrev Ob.PXL_PENDMASK : Nat := 0x200108
abbrev Ob.PXL_DOWNCAUSE : Nat := 0x200109
abbrev Ob.PXL_LANESTAT : Nat := 0x201001
abbrev Ob.PXL_CTLE : Nat := 0x202001
abbrev Ob.PXL_CTLE_FORCE : Nat := 0x202101
abbrev Ob.PXL_ERR_MARKER : Nat := 0x203001
abbrev Ob.PXL_ERR_STUFF : Nat := 0x203101
abbrev Ob.PXL_ERR_LOSS : Nat := 0x203201
abbrev Ob.PXL_PRBS_START : Nat := 0x204001
abbrev Ob.PXL_PRBS_PATTERN : Nat := 0x204002
abbrev Ob.PXL_PRBS_DIR : Nat := 0x204003
abbrev Ob.PXL_PRBS_TIME : Nat := 0x204004
abbrev Ob.PXL_PRBS_BITS : Nat := 0x204005
abbrev Ob.PXL_PRBS_ERR : Nat := 0x204101
abbrev Ob.PXL_PRBS_RESYNC : Nat := 0x204201
abbrev Ob.TRX_GRP_TIMEOUT : Nat := 0x210001
abbrev Ob.TRX_EPOCH_AHEAD : Nat := 0x210002
abbrev Ob.TRX_SEEN_WINDOW : Nat := 0x210003
abbrev Ob.TRX_BUSYTAGS : Nat := 0x210101
abbrev Ob.TRX_GROUPS : Nat := 0x210102
abbrev Ob.TRX_QDEPTH : Nat := 0x210103
abbrev Ob.TRX_SRCF_LAST : Nat := 0x210104
abbrev Ob.TRX_SRCF_AGE : Nat := 0x210105
abbrev Ob.TRX_ACCEPTED : Nat := 0x210106
abbrev Ob.TRX_BSEQ : Nat := 0x210107
abbrev Ob.TRX_HDRLOST : Nat := 0x210108
abbrev Ob.TRX_SRCF_REJECT : Nat := 0x210109
abbrev Ob.TRX_QFULL : Nat := 0x21010A
abbrev Ob.TRX_BADOP : Nat := 0x21010B
abbrev Ob.TRX_STRAYEND : Nat := 0x21010C
abbrev Ob.TRX_HELDLATE : Nat := 0x21010D
abbrev Ob.TRX_NAKCNT : Nat := 0x211001
abbrev Ob.TRX_GROUP : Nat := 0x212001
abbrev Ob.FRS_REGION_LO : Nat := 0x220001
abbrev Ob.FRS_REGION_HI : Nat := 0x220101
abbrev Ob.FRS_REGACT_LO : Nat := 0x220201
abbrev Ob.FRS_REGACT_HI : Nat := 0x220301
abbrev Ob.FRS_REG_EPOCH : Nat := 0x221001
abbrev Ob.FRS_REG_REQ : Nat := 0x221002
abbrev Ob.FRS_REG_STAT : Nat := 0x221003
abbrev Ob.FRS_REG_ERRIDX : Nat := 0x221004
abbrev Ob.FRS_REG_GEN : Nat := 0x221005
abbrev Ob.PPL_BYPASS : Nat := 0x300001
abbrev Ob.PPL_CONCEAL : Nat := 0x300002
abbrev Ob.PPL_SATCNT : Nat := 0x300003
abbrev Ob.PPL_SLACK : Nat := 0x300101
abbrev Ob.PPL_SLACK_WORST : Nat := 0x300109
abbrev Ob.PPL_ICURVE : Nat := 0x301001
abbrev Ob.PPL_MATRIX : Nat := 0x301101
abbrev Ob.PPL_LIN : Nat := 0x301201
abbrev Ob.PPL_BRIGHT : Nat := 0x302001
abbrev Ob.PPL_HATCH : Nat := 0x303001
abbrev Ob.LAKE_QUANTUM : Nat := 0x310001
abbrev Ob.LAKE_TILES0 : Nat := 0x310101
abbrev Ob.LAKE_TILES1 : Nat := 0x310102
abbrev Ob.LAKE_DECERR : Nat := 0x310103
abbrev Ob.LAKE_DECERR_CAUSE : Nat := 0x310104
abbrev Ob.LAKE_DECERR_TAG : Nat := 0x310105
abbrev Ob.LAKE_DECERR_BLOCK : Nat := 0x310106
abbrev Ob.LAKE_SWITCHES : Nat := 0x310107
abbrev Ob.LAKE_JOB_DIR : Nat := 0x311001
abbrev Ob.LAKE_JOB_ELEM : Nat := 0x311002
abbrev Ob.LAKE_JOB_RATIO : Nat := 0x311003
abbrev Ob.LAKE_JOB_MODE : Nat := 0x311004
abbrev Ob.LAKE_JOB_QMAX : Nat := 0x311005
abbrev Ob.LAKE_JOB_FLIP : Nat := 0x311006
abbrev Ob.LAKE_JOB_W : Nat := 0x311007
abbrev Ob.LAKE_JOB_H : Nat := 0x311008
abbrev Ob.LAKE_JOB_RASTADDR : Nat := 0x311009
abbrev Ob.LAKE_JOB_STRIDE : Nat := 0x31100A
abbrev Ob.LAKE_JOB_CODEADDR : Nat := 0x31100B
abbrev Ob.LAKE_JOB_CODELEN : Nat := 0x31100C
abbrev Ob.LAKE_JOB_RAWADDR : Nat := 0x31100D
abbrev Ob.LAKE_JOB_CMD : Nat := 0x31100E
abbrev Ob.LAKE_SLOT : Nat := 0x311101
abbrev Ob.LAKE_RES_IN : Nat := 0x311201
abbrev Ob.LAKE_RES_OUT : Nat := 0x311202
abbrev Ob.LAKE_RES_CRCA : Nat := 0x311203
abbrev Ob.LAKE_RES_CRCB : Nat := 0x311204
abbrev Ob.LAKE_RES_ESC : Nat := 0x311205
abbrev Ob.LAKE_CTX : Nat := 0x312001
abbrev Ob.CMP_NSETS : Nat := 0x320001
abbrev Ob.CMP_SETTEMP : Nat := 0x320002
abbrev Ob.CMP_THMSEL : Nat := 0x32000A
abbrev Ob.CMP_TEMPW : Nat := 0x320101
abbrev Ob.CMP_BANDTEMP : Nat := 0x320105
abbrev Ob.CMP_GRID : Nat := 0x321001
abbrev Ob.CMP_DEMURA : Nat := 0x322001
abbrev Ob.CMP_AGEGAIN : Nat := 0x323001
abbrev Ob.PRC_ENABLE : Nat := 0x330001
abbrev Ob.PRC_FIXED : Nat := 0x330002
abbrev Ob.PRC_TOPCODE : Nat := 0x330003
abbrev Ob.PRC_TABLE : Nat := 0x331001
abbrev Ob.DTH_ENABLE : Nat := 0x340001
abbrev Ob.DTH_PHASE : Nat := 0x340002
abbrev Ob.DTH_RA : Nat := 0x340003
abbrev Ob.DTH_CB : Nat := 0x340004
abbrev Ob.SCAN_BANDS : Nat := 0x400001
abbrev Ob.SCAN_WIDTH : Nat := 0x400002
abbrev Ob.SCAN_HEIGHT : Nat := 0x400003
abbrev Ob.SCAN_RATE : Nat := 0x400004
abbrev Ob.SCAN_VTOTAL : Nat := 0x400005
abbrev Ob.SCAN_MODE : Nat := 0x400006
abbrev Ob.SCAN_RECLEAD : Nat := 0x400007
abbrev Ob.SCAN_EPOCH : Nat := 0x400101
abbrev Ob.SCAN_ROWTIME : Nat := 0x400102
abbrev Ob.SCAN_FRAMEP : Nat := 0x400103
abbrev Ob.SCAN_SLOT : Nat := 0x400104
abbrev Ob.SCAN_RECPASS : Nat := 0x400105
abbrev Ob.SCAN_RECSKIP : Nat := 0x400106
abbrev Ob.SCAN_SM11 : Nat := 0x400107
abbrev Ob.SCAN_CFGERR : Nat := 0x400108
abbrev Ob.SCAN_DUTY : Nat := 0x401001
abbrev Ob.SCAN_LINEMATCH : Nat := 0x401101
abbrev Ob.SCAN_UNDERRUN : Nat := 0x401201
abbrev Ob.SCAN_UR_WINDOW : Nat := 0x401205
abbrev Ob.SCAN_UR_VERM : Nat := 0x401206
abbrev Ob.SCAN_BANDSTATE : Nat := 0x401301
abbrev Ob.SCAN_TILESEL : Nat := 0x402001
abbrev Ob.SCAN_PENDROWS : Nat := 0x402101
abbrev Ob.SCAN_SHOW_SEL : Nat := 0x403001
abbrev Ob.SCAN_SHOW_EPOCH : Nat := 0x403002
abbrev Ob.SCAN_SHOW_REQ : Nat := 0x403003
abbrev Ob.SCAN_SHOW_STAT : Nat := 0x403004
abbrev Ob.SCAN_SHOW_PEND : Nat := 0x403005
abbrev Ob.SCAN_PLATE : Nat := 0x403101
abbrev Ob.SCAN_PLATECRC : Nat := 0x403201
abbrev Ob.SCAN_PLATEDATA : Nat := 0x404001
abbrev Ob.DLK_NDRV : Nat := 0x410001
abbrev Ob.DLK_NCH : Nat := 0x410002
abbrev Ob.DLK_RATE : Nat := 0x410003
abbrev Ob.DLK_CHAINRATE : Nat := 0x410004
abbrev Ob.DLK_MTHR : Nat := 0x410005
abbrev Ob.DLK_RETDRV : Nat := 0x410006
abbrev Ob.DLK_RETRAIN : Nat := 0x410007
abbrev Ob.DLK_TMIN : Nat := 0x410008
abbrev Ob.DLK_RECCAP : Nat := 0x410009
abbrev Ob.DLK_STATE : Nat := 0x410101
abbrev Ob.DLK_CAP : Nat := 0x411001
abbrev Ob.DLK_MISSREC : Nat := 0x412001
abbrev Ob.DLK_RCRCERR : Nat := 0x412101
abbrev Ob.DLK_LINKERR : Nat := 0x412201
abbrev Ob.DLK_RECMISS : Nat := 0x412301
abbrev Ob.DLK_RECLATE : Nat := 0x412401
abbrev Ob.DLK_PREV : Nat := 0x413001
abbrev Ob.DLK_RECV : Nat := 0x413011
abbrev Ob.DLK_VSEL0 : Nat := 0x413021
abbrev Ob.DLK_VSEL1 : Nat := 0x413022
abbrev Ob.DLK_DRVREG_ADDR : Nat := 0x414001
abbrev Ob.DLK_DRVREG_DATA : Nat := 0x414002
abbrev Ob.DLK_DRVREG_WRITE : Nat := 0x414003
abbrev Ob.ROW_TREC : Nat := 0x420001
abbrev Ob.ROW_TPRE : Nat := 0x420002
abbrev Ob.ROW_TGOFF : Nat := 0x420003
abbrev Ob.ROW_TSAMP : Nat := 0x420004
abbrev Ob.ROW_TSKEW : Nat := 0x420005
abbrev Ob.ROW_PHASE : Nat := 0x420006
abbrev Ob.CRM_MODE : Nat := 0x430001
abbrev Ob.CRM_PERIOD : Nat := 0x430101
abbrev Ob.CRM_DUTY : Nat := 0x430201
abbrev Ob.CRM_PHASE : Nat := 0x430301
abbrev Ob.CRM_COLOUR1 : Nat := 0x430401
abbrev Ob.CRM_COLOUR2 : Nat := 0x430501
abbrev Ob.CRM_DIM : Nat := 0x430601
abbrev Ob.CRM_STATE : Nat := 0x430701
abbrev Ob.CRM_RECT : Nat := 0x431001
abbrev Ob.PNL_RAILREQ : Nat := 0x440001
abbrev Ob.PNL_AUTORAIL : Nat := 0x440002
abbrev Ob.PNL_SLOT : Nat := 0x440003
abbrev Ob.PNL_TPDOFF : Nat := 0x440004
abbrev Ob.PNL_TRISE : Nat := 0x440005
abbrev Ob.PNL_RAILERR : Nat := 0x440006
abbrev Ob.PNL_SHORTBAND : Nat := 0x440007
abbrev Ob.PNL_DISMODE : Nat := 0x440101
abbrev Ob.PNL_TPV : Nat := 0x440102
abbrev Ob.PNL_TPD : Nat := 0x440103
abbrev Ob.PNL_TSTAG : Nat := 0x440104
abbrev Ob.PNL_VRES_MV : Nat := 0x440201
abbrev Ob.PNL_VRESMIN : Nat := 0x440202
abbrev Ob.PNL_VRESTEST : Nat := 0x440203
abbrev Ob.PNL_VRESCAP : Nat := 0x440204
abbrev Ob.PNL_VRESNEED : Nat := 0x440205
abbrev Ob.PNL_VRESSTAT : Nat := 0x440206
abbrev Ob.PNL_CRKR : Nat := 0x441001
abbrev Ob.PNL_CRKBASE : Nat := 0x441003
abbrev Ob.PNL_CRKREL : Nat := 0x441005
abbrev Ob.PNL_CRKTC : Nat := 0x441006
abbrev Ob.PNL_CRKLEARN : Nat := 0x441007
abbrev Ob.PNL_CRKSTAT : Nat := 0x441008
abbrev Ob.PNL_ILIM : Nat := 0x442001
abbrev Ob.PNL_ISHORT : Nat := 0x442101
abbrev Ob.PNL_IFULL : Nat := 0x442201
abbrev Ob.PNL_DUTYNOW : Nat := 0x442301
abbrev Ob.PNL_LIMCNT : Nat := 0x442401
abbrev Ob.PNL_SHORTOPEN : Nat := 0x442501
abbrev Ob.PNL_IPIX : Nat := 0x442801
abbrev Ob.PNL_RAIL : Nat := 0x443001
abbrev Ob.PNL_LB_RESET : Nat := 0x443101
abbrev Ob.PNL_LB_PFAIL : Nat := 0x443102
abbrev Ob.PNL_LB_CRACK : Nat := 0x443103
abbrev Ob.PNL_LB_CUT : Nat := 0x443104
abbrev Ob.PNL_LB_LAST : Nat := 0x443105
abbrev Ob.PNL_LB_DUR : Nat := 0x443106
abbrev Ob.FRS_HATCHORG_X : Nat := 0x500001
abbrev Ob.FRS_HATCHORG_Y : Nat := 0x500002
abbrev Ob.FRS_DEADVERM : Nat := 0x500003
abbrev Ob.FRS_HATCHED : Nat := 0x500101
abbrev Ob.FRS_HATCHVERM : Nat := 0x500102
abbrev Ob.FRS_EXPIRE_O : Nat := 0x500103
abbrev Ob.FRS_EXPIRE_V : Nat := 0x500104
abbrev Ob.FRS_SUSPENDED : Nat := 0x500105
abbrev Ob.FRS_VERMPIX : Nat := 0x500106
abbrev Ob.FRS_VERMCAP : Nat := 0x500107
abbrev Ob.FRS_DEFCLASS : Nat := 0x501001
abbrev Ob.FRS_UNVOUCHED : Nat := 0x501002
abbrev Ob.FRS_MAXAGE : Nat := 0x501003
abbrev Ob.IND_BURST : Nat := 0x510001
abbrev Ob.IND_M6BAND : Nat := 0x510002
abbrev Ob.IND_M6CLEAR : Nat := 0x510003
abbrev Ob.IND_SM04 : Nat := 0x510101
abbrev Ob.IND_SM05 : Nat := 0x510201
abbrev Ob.IND_SM06 : Nat := 0x510301
abbrev Ob.IND_SM07 : Nat := 0x510401
abbrev Ob.IND_SM14 : Nat := 0x510501
abbrev Ob.IND_SHADOW_PIX : Nat := 0x511001
abbrev Ob.IND_SHADOW_LAG : Nat := 0x511002
abbrev Ob.IND_SHADOW_FIRST : Nat := 0x511003
abbrev Ob.SAF_TABLE : Nat := 0x520001
abbrev Ob.SAF_FAULT : Nat := 0x520101
abbrev Ob.SAF_DARKBANDS : Nat := 0x520102
abbrev Ob.SAF_CUTBANDS : Nat := 0x520103
abbrev Ob.SAF_LAST_SM : Nat := 0x520104
abbrev Ob.SAF_LAST_EPOCH : Nat := 0x520105
abbrev Ob.SAF_BANDCLR : Nat := 0x520106
abbrev Ob.SAF_CLEAR : Nat := 0x520107
abbrev Ob.SAF_CLRSTAT : Nat := 0x520108
abbrev Ob.SAF_SEALED : Nat := 0x520201
abbrev Ob.SAF_SEALCMD : Nat := 0x520202
abbrev Ob.SAF_SEALCRC : Nat := 0x520203
abbrev Ob.SAF_SEALCNT : Nat := 0x520204
abbrev Ob.SAF_LIVECRC : Nat := 0x520205
abbrev Ob.SAF_INJ_SM : Nat := 0x521001
abbrev Ob.SAF_INJ_BAND : Nat := 0x521002
abbrev Ob.SAF_INJ_GO : Nat := 0x521003
abbrev Ob.SAF_PATCH : Nat := 0x522001
abbrev Ob.SAF_PATCH_ACTVER : Nat := 0x522101
abbrev Ob.SAF_PATCH_LDVER : Nat := 0x522102
abbrev Ob.SAF_PATCH_STAT : Nat := 0x522103
abbrev Ob.SAF_PATCH_CMD : Nat := 0x522104
abbrev Ob.SAF_ROMID : Nat := 0x522105
abbrev Ob.MDL_ENABLE : Nat := 0x530001
abbrev Ob.MDL_RECMAX : Nat := 0x530002
abbrev Ob.MDL_ROWS : Nat := 0x530101
abbrev Ob.MDL_BSAT : Nat := 0x530102
abbrev Ob.MDL_ASAT : Nat := 0x530103
abbrev Ob.MDL_UNCONF : Nat := 0x530104
abbrev Ob.MDL_TUPD : Nat := 0x530105
abbrev Ob.MDL_TWIN : Nat := 0x530106
abbrev Ob.MDL_BMAX : Nat := 0x530107
abbrev Ob.MDL_BEXCESS : Nat := 0x530108
abbrev Ob.MDL_STRESS : Nat := 0x531001
abbrev Ob.MDL_EMIT : Nat := 0x531101
abbrev Ob.MDL_RELIEF : Nat := 0x531201
abbrev Ob.MDL_LEDGER : Nat := 0x532001
abbrev Ob.MDL_LEDCUR_YCAN : Nat := 0x532101
abbrev Ob.MDL_LEDCUR_SCAN : Nat := 0x532102
abbrev Ob.MDL_LEDCUR_YSPI : Nat := 0x532103
abbrev Ob.MDL_LEDCUR_SSPI : Nat := 0x532104
abbrev Ob.WEAR_SPARES : Nat := 0x533001
abbrev Ob.WEAR_AGELIMIT : Nat := 0x533002
abbrev Ob.WEAR_SATCLR : Nat := 0x533005
abbrev Ob.WEAR_SWITCHES : Nat := 0x533101
abbrev Ob.WEAR_SINCECAL : Nat := 0x533102
abbrev Ob.WEAR_DEAD : Nat := 0x533103
abbrev Ob.WEAR_DEADVERM : Nat := 0x533104
abbrev Ob.WEAR_SHORTS : Nat := 0x533105
abbrev Ob.WEAR_QUEUED : Nat := 0x533106
abbrev Ob.WEAR_MASKFAIL : Nat := 0x533107
abbrev Ob.WEAR_MASKOK : Nat := 0x533108
abbrev Ob.WEAR_LOGIDX : Nat := 0x533109
abbrev Ob.WEAR_LOG : Nat := 0x533201
abbrev Ob.WEAR_DEFMAP : Nat := 0x534001
abbrev Ob.WEAR_HEADSAT : Nat := 0x535001
abbrev Ob.DIAG_VIOLCNT : Nat := 0x5F0001
abbrev Ob.DIAG_VIOLLAST : Nat := 0x5F0002
abbrev Ob.DIAG_VIOLRD : Nat := 0x5F0003
abbrev Ob.DIAG_VIOLWR : Nat := 0x5F0004
abbrev Ob.CDC_XSTAT : Nat := 0x5F1001
abbrev Ob.CDC_TIMEOUT : Nat := 0x5F1101
abbrev Ob.CDC_MERGE : Nat := 0x5F1201
abbrev Ob.PWR_REQ : Nat := 0x600001
abbrev Ob.PWR_VP2 : Nat := 0x600002
abbrev Ob.PWR_P3TIMER : Nat := 0x600003
abbrev Ob.PWR_STATE : Nat := 0x600101
abbrev Ob.PWR_ENTRY : Nat := 0x600102
abbrev Ob.PWR_TARGET : Nat := 0x600103
abbrev Ob.PWR_ABORT : Nat := 0x600104
abbrev Ob.PWR_RETRIES : Nat := 0x600105
abbrev Ob.PWR_ABORTS : Nat := 0x600106
abbrev Ob.PWR_BOOTFAIL : Nat := 0x600107
abbrev Ob.PWR_LASTWAKE : Nat := 0x600200
abbrev Ob.PWR_WAKEEN : Nat := 0x600301
abbrev Ob.PWR_WAKEMODE : Nat := 0x600302
abbrev Ob.PWR_WAKECNT : Nat := 0x600303
abbrev Ob.PWR_RETIMG : Nat := 0x600401
abbrev Ob.PWR_RETCORR : Nat := 0x600402
abbrev Ob.PWR_RETLOSS : Nat := 0x600403
abbrev Ob.PWR_PADREL_MGT : Nat := 0x601001
abbrev Ob.PWR_PADREL_PANEL : Nat := 0x601002
abbrev Ob.PWR_PADREL_AON : Nat := 0x601003
abbrev Ob.PMB_ADDR : Nat := 0x610001
abbrev Ob.PMB_CLK : Nat := 0x610002
abbrev Ob.PMB_PEC : Nat := 0x610003
abbrev Ob.PMB_VEXP : Nat := 0x610004
abbrev Ob.PMB_STATMASK : Nat := 0x610005
abbrev Ob.PMB_VREQ : Nat := 0x610101
abbrev Ob.PMB_VACK : Nat := 0x610102
abbrev Ob.PMB_STATUS : Nat := 0x610103
abbrev Ob.PMB_STEPS : Nat := 0x610104
abbrev Ob.PMB_RETRY : Nat := 0x610105
abbrev Ob.PMB_FAIL : Nat := 0x610106
abbrev Ob.PMB_ALERTS : Nat := 0x610107
abbrev Ob.PMB_HOLDOFF : Nat := 0x610108
abbrev Ob.RST_SOFT : Nat := 0x620001
abbrev Ob.RST_STRETCH : Nat := 0x620002
abbrev Ob.RST_LAST : Nat := 0x620101
abbrev Ob.RST_CNT_POR : Nat := 0x620102
abbrev Ob.RST_CNT : Nat := 0x620103
abbrev Ob.RST_EXTLOW : Nat := 0x620107
abbrev Ob.RST_STRAP_CODE : Nat := 0x621001
abbrev Ob.RST_STRAP_SITE : Nat := 0x621002
abbrev Ob.RST_STRAP_MARGIN : Nat := 0x621003
abbrev Ob.RST_STRAP_SPREAD : Nat := 0x621004
abbrev Ob.GYL_ROLE : Nat := 0x630001
abbrev Ob.GYL_WALLID : Nat := 0x630002
abbrev Ob.GYL_LEAD : Nat := 0x630003
abbrev Ob.GYL_SLEWMAX : Nat := 0x630004
abbrev Ob.GYL_AUTOALIGN : Nat := 0x630005
abbrev Ob.GYL_REALIGN : Nat := 0x630006
abbrev Ob.GYL_SNAPNOW : Nat := 0x630007
abbrev Ob.GYL_SNAPPER : Nat := 0x630008
abbrev Ob.GYL_STATE : Nat := 0x630101
abbrev Ob.GYL_GEN : Nat := 0x630102
abbrev Ob.GYL_GENBUS : Nat := 0x630103
abbrev Ob.GYL_MASTER : Nat := 0x630104
abbrev Ob.GYL_CRCERR : Nat := 0x630105
abbrev Ob.GYL_RESENDS : Nat := 0x630106
abbrev Ob.GYL_SNAPEPOCH : Nat := 0x630107
abbrev Ob.GYL_SNAPLATE : Nat := 0x630108
abbrev Ob.GYL_CMT_KIND : Nat := 0x630201
abbrev Ob.GYL_CMT_ARG : Nat := 0x630202
abbrev Ob.GYL_CMT_EPOCH : Nat := 0x630203
abbrev Ob.GYL_CMT_REQ : Nat := 0x630204
abbrev Ob.GYL_CMT_STAT : Nat := 0x630205
abbrev Ob.GYL_CMT_REASON : Nat := 0x630206
abbrev Ob.GYL_CMT_NODE : Nat := 0x630207
abbrev Ob.GYL_CMT_GEN : Nat := 0x630208
abbrev Ob.GYL_LAYOUTTAG : Nat := 0x630209
abbrev Ob.GYL_REFEN : Nat := 0x630301
abbrev Ob.GYL_REFNOW : Nat := 0x630302
abbrev Ob.GYL_REFSW : Nat := 0x630303
abbrev Ob.GYL_PHASE : Nat := 0x630304
abbrev Ob.GYL_FSDELAY : Nat := 0x630305
abbrev Ob.GYL_SRCOFFS : Nat := 0x630306
abbrev Ob.GYL_REFCNT : Nat := 0x630307
abbrev Ob.GYL_SRCDIV : Nat := 0x630308
abbrev Ob.GYL_WAKESLOT : Nat := 0x630401
abbrev Ob.GYL_WAKEAUTO : Nat := 0x630402
abbrev Ob.GYL_WAKENOW : Nat := 0x630403
abbrev Ob.GYL_WAKEREP : Nat := 0x630404
abbrev Ob.GYL_WAKESENT : Nat := 0x630405
abbrev Ob.GYL_WAKEHEARD : Nat := 0x630406
abbrev Ob.GYL_NODES : Nat := 0x631001
abbrev Ob.JRN_LEDPER : Nat := 0x640001
abbrev Ob.JRN_COMPACT : Nat := 0x640002
abbrev Ob.JRN_CMD : Nat := 0x640003
abbrev Ob.JRN_STATE : Nat := 0x640101
abbrev Ob.JRN_FAULT : Nat := 0x640102
abbrev Ob.JRN_GEN : Nat := 0x640103
abbrev Ob.JRN_DEMPTR : Nat := 0x640104
abbrev Ob.JRN_SEQ : Nat := 0x640105
abbrev Ob.JRN_RINGUSE : Nat := 0x640106
abbrev Ob.JRN_LEDPIECE : Nat := 0x640107
abbrev Ob.JRN_ERASEMAX : Nat := 0x640108
abbrev Ob.JRN_DROPPED : Nat := 0x640109
abbrev Ob.JRN_NORSIZE : Nat := 0x640201
abbrev Ob.JRN_PSIZE : Nat := 0x640202
abbrev Ob.JRN_RSIZE : Nat := 0x640203
abbrev Ob.JRN_MAXPIX : Nat := 0x640204
abbrev Ob.JRN_FACTLOCK : Nat := 0x640205
abbrev Ob.JRN_DTR : Nat := 0x640206
abbrev Ob.TLM_EPOCH : Nat := 0x650001
abbrev Ob.TLM_TDIE : Nat := 0x650002
abbrev Ob.TLM_TDRAM : Nat := 0x650003
abbrev Ob.TLM_TPANEL : Nat := 0x650004
abbrev Ob.TLM_VCORE : Nat := 0x650005
abbrev Ob.TLM_SLACK : Nat := 0x650006
abbrev Ob.TLM_DRAMBW : Nat := 0x650007
abbrev Ob.TLM_LINKUSE : Nat := 0x650008
abbrev Ob.TLM_COMMITS : Nat := 0x650009
abbrev Ob.TLM_UPTIME : Nat := 0x65000A
abbrev Ob.TLM_SNAPCMD : Nat := 0x650101
abbrev Ob.TLM_SNAPEPOCH : Nat := 0x650102
abbrev Ob.TLM_SNAPCNT : Nat := 0x650103
abbrev Ob.TLM_SNAPVAL : Nat := 0x650104
abbrev Ob.TLM_SNAP_TDIE : Nat := 0x650104
abbrev Ob.TLM_SNAP_TDRAM : Nat := 0x650105
abbrev Ob.TLM_SNAP_TPANEL : Nat := 0x650106
abbrev Ob.TLM_SNAP_VCORE : Nat := 0x650107
abbrev Ob.TLM_SNAP_SLACK : Nat := 0x650108
abbrev Ob.TLM_SNAP_DRAMBW : Nat := 0x650109
abbrev Ob.TLM_SNAP_LINKUSE : Nat := 0x65010A
abbrev Ob.TLM_SNAP_COMMITS : Nat := 0x65010B
abbrev Ob.TLM_SNAP_UPTIME : Nat := 0x65010C
abbrev Ob.TLM_SNAPEVC : Nat := 0x650110
abbrev Ob.EVC_ENABLE : Nat := 0x660001
abbrev Ob.EVC_CLEAR : Nat := 0x660002
abbrev Ob.EVC_SEL : Nat := 0x660101
abbrev Ob.EVC_VAL : Nat := 0x660201
abbrev Ob.CAL_ADCTRIG : Nat := 0x670001
abbrev Ob.CAL_ADCMERGE : Nat := 0x670002
abbrev Ob.CAL_ADCCONV : Nat := 0x670003
abbrev Ob.CAL_ADCVAL : Nat := 0x670101
abbrev Ob.CAL_THMTEMP : Nat := 0x670201
abbrev Ob.CAL_THMLO : Nat := 0x670205
abbrev Ob.CAL_THMHI : Nat := 0x670206
abbrev Ob.CAL_THMTAB : Nat := 0x670301
abbrev Ob.CAL_LEVEL : Nat := 0x671001
abbrev Ob.CAL_PIDX : Nat := 0x671004
abbrev Ob.CAL_AVG : Nat := 0x671007
abbrev Ob.CAL_GAPS : Nat := 0x671008
abbrev Ob.CAL_TSPAN : Nat := 0x671009
abbrev Ob.CAL_BANDS : Nat := 0x67100A
abbrev Ob.CAL_REF : Nat := 0x671101
abbrev Ob.CAL_EXPECT : Nat := 0x671201
abbrev Ob.CAL_CMD : Nat := 0x671301
abbrev Ob.CAL_STATE : Nat := 0x671302
abbrev Ob.CAL_RESULT : Nat := 0x671303
abbrev Ob.CAL_ESTTIME : Nat := 0x671304
abbrev Ob.CAL_CAUSE : Nat := 0x671305
abbrev Ob.CAL_GEN : Nat := 0x671306
abbrev Ob.CAL_CLAMP : Nat := 0x671307
abbrev Ob.CAL_TREMEAS : Nat := 0x671308
abbrev Ob.CAL_RUNID : Nat := 0x671309
abbrev Ob.CAL_PARCRC : Nat := 0x67130A
abbrev Ob.CAL_REPERR : Nat := 0x67130B
abbrev Ob.CAL_FLAT : Nat := 0x67130C
abbrev Ob.CAL_SLICE : Nat := 0x671401
abbrev Ob.CAL_TILEMEAN : Nat := 0x672001
abbrev Ob.CAL_TILETEMP : Nat := 0x672101
abbrev Ob.BNK_OWNER : Nat := 0x680001
abbrev Ob.BNK_STATE : Nat := 0x680101
abbrev Ob.BNK_CORR : Nat := 0x680201
abbrev Ob.BNK_UNCORR : Nat := 0x680202
abbrev Ob.BNK_LOSTWR : Nat := 0x680203
abbrev Ob.BNK_NONOWNER : Nat := 0x680204
abbrev Ob.BNK_UNCORR_LAST : Nat := 0x680205
abbrev Ob.BNK_SCRUBPASS : Nat := 0x680206
abbrev Ob.BNK_PEEK_ADDR : Nat := 0x680301
abbrev Ob.BNK_PEEK_DATA : Nat := 0x680302
abbrev Ob.BNK_PEEK_STAT : Nat := 0x680303
abbrev Ob.FST_ECC_CORR : Nat := 0x681001
abbrev Ob.FST_ECC_UNCORR : Nat := 0x681002
abbrev Ob.FST_ECC_LAST : Nat := 0x681003
abbrev Ob.FST_DIELOSS : Nat := 0x681004
abbrev Ob.FST_SCRUB_PASSES : Nat := 0x681101
abbrev Ob.FST_SCRUB_ADDR : Nat := 0x681102
abbrev Ob.FST_SCRUB_LAG : Nat := 0x681103
abbrev Ob.FST_SCRUB_PROMO : Nat := 0x681104
abbrev Ob.FST_REFRESH_STEP : Nat := 0x681201
abbrev Ob.FST_TEMP_DIE0 : Nat := 0x681202
abbrev Ob.FST_TEMP_DIE1 : Nat := 0x681203
abbrev Ob.FST_REFRESH_CHG : Nat := 0x681204
abbrev Ob.FST_SPARE_DIE0 : Nat := 0x681301
abbrev Ob.FST_SPARE_DIE1 : Nat := 0x681302
abbrev Ob.FST_RELOC : Nat := 0x681303
abbrev Ob.FST_UNUSABLE : Nat := 0x681304
abbrev Ob.FST_DARKBANDS : Nat := 0x681305
abbrev Ob.FST_BADROW : Nat := 0x681401
abbrev Ob.DIAG_SNAP_AGE : Nat := 0x7F0001
abbrev Ob.DIAG_SNAP_TAG : Nat := 0x7F0002
abbrev Ob.DIAG_SNAP_REP : Nat := 0x7F0003
abbrev Ob.DIAG_SNAP_QUEUE : Nat := 0x7F0004
abbrev Ob.DIAG_SNAP_EVLOG : Nat := 0x7F0005

end Sys2Proof.Machine
end

