-- ==== Sys2Proof/Machine/StateLink.lean ====
section
/-!
DEFINITION. State of the pixel link (chapter 03) and of the tile transaction layer (chapter 04).
-/

namespace Sys2Proof.Machine

/-- The link states, in the order of their codes (R65). -/
inductive LinkState where
  | disabled | detect | negotiate | stepBack | stepFwd | go | active | reconfig | test | sleep
deriving DecidableEq, Repr

/-- Background retraining of a lane outside the active set (R74). -/
inductive BgState where
  | off | training | retryWait | passed
deriving DecidableEq, Repr

/-- One forward lane. -/
structure Lane where
  cdr       : Bool            -- CDRLOCK
  mlock     : Bool            -- MLOCK
  lastSeq   : Option Nat      -- SEQ of the previous valid marker
  badRun    : Nat             -- consecutive invalid or missing markers (R70)
  stuffRun  : Nat             -- consecutive blocks with a stuffing violation (R70)
  skew      : Int             -- last measured skew, UI
  lastRate  : Nat             -- LASTRATE
  lossCause : Nat             -- LOSSCAUSE
  hist      : BitVec 23       -- descrambler history, bit 0 the most recent bit (R56)
  discard   : Bool            -- the payload of the next block is discarded (R56)
  wordsSeq  : Option Nat      -- SEQ of the block in `words`
  words     : List (BitVec 32)   -- descrambled payload of the most recent block
  ptr       : Option Nat      -- HDRPTR of that block, none when its marker was invalid
  run       : BitRun          -- the run of equal bits received last (R57)
  testBad   : Bool            -- an invalid marker or message, or a violation, since training began (R67)
  hello     : Bool            -- the lane carries HELLO (R66)
  newLcn    : Bool            -- a valid block with the LCN awaited has arrived (R69, R72, R73)
  pendSeq   : Option Nat      -- SEQ of the last DATA marker with the pending LCN (R74)
  good      : Bool            -- not lost since it last passed training
  bg        : BgState
  heldFail  : Nat             -- cause of a failure held until the switch (R74), 0 for none
deriving DecidableEq, Repr

/-- The pixel link. -/
structure Pxl where
  link      : LinkState
  frate     : Nat
  brate     : Nat
  fmask     : Nat            -- PXL_FMASK
  bmask     : Nat            -- PXL_BMASK
  lcn       : Nat
  session   : Nat            -- PXL_SESSION, kept across system resets (R455)
  pendMask  : Nat            -- PXL_PENDMASK
  pendLcn   : Nat            -- LCN of the pending offer
  downCause : Nat
  lanes     : SMap Lane
  prevLcn   : Option Nat     -- the previous LCN still accepted after a back-lane loss (R73)
  srcHello  : Nat            -- the source's HELLO MASK
  ftarget   : Nat            -- forward target rate (R66)
  btarget   : Nat            -- back target rate (R66)
  lockWait  : Bool           -- the wait of up to 1 ms for every forward lane runs (R66)
  stepRate  : Nat            -- the rate of the step in progress
  idle      : Bool           -- the 10 µs electrical idle of a step is in progress (R67)
  awaitRes  : Bool           -- RESULT of a back step is awaited (R67)
  tx        : Option TrainMsg   -- the message the controller sends on the back lanes
  tseq      : Nat            -- its TSEQ
  txLanes   : SMap LaneTx    -- transmitters of the back lanes (R55)
  txSeq     : Nat            -- SEQ of the next back marker (R58)
  txLine    : SMap LineBits  -- what each back lane has carried last, as it stood on the line
  fwdAsleep : Bool
  backAsleep : Bool
  sleepReq  : Bool           -- LINKSTATE SLEEP sent, LINKCTL SLEEP awaited (R77)
  relock    : Bool           -- a relock is in progress (R78)
  dropped   : Nat            -- groups discarded at the last drop, for DIGEST (R94)
  hadDrop   : Bool           -- the session in preparation follows a drop (R94)
  prevAcc   : Nat            -- packets accepted in the previous session (R94)
  digestDue : Bool           -- DIGEST is still to be the first back packet (R97)
  prbs      : Bool           -- a PRBS test runs
  prbsDir   : Nat
  prbsPat   : Nat
  prbsTx    : SMap Nat       -- seeds of the pattern that the back lanes under test carry (R79)
  testBits  : Nat            -- bits of the test in progress
  lastKey   : Option Nat     -- 256 × LCN + SEQ of the last stripe block taken into the stream
  needPtr   : Bool           -- the next packet boundary is taken from HDRPTR (R61)
  rxWords   : List (BitVec 32)   -- words of the packet being received
  rxLeft    : Nat            -- words still to come of the packet being received
deriving DecidableEq, Repr

/-- The fields of a TILE header (R86). -/
structure TileHdr where
  gen   : Nat
  tag   : Nat
  group : Nat
  fmt   : Nat
  code  : Nat
  tx    : Nat
  ty    : Nat
  plen  : Nat
  srcf  : Nat
deriving DecidableEq, Repr

/-- The fields of a TOKEN (R91, R118). FMT and CODE have to be 0 (R119). -/
structure TokenHdr where
  gen   : Nat
  tag   : Nat
  group : Nat
  fmt   : Nat
  code  : Nat
  ingrp : Bool
  x0    : Nat
  y0    : Nat
  x1    : Nat
  y1    : Nat
  srcf  : Nat
deriving DecidableEq, Repr

/-- The fields of a GROUP_END (R91, R105, R108). -/
structure GroupEndHdr where
  gen      : Nat
  group    : Nat
  count    : Nat
  abort    : Bool
  atEpoch  : Bool
  execLate : Bool
  epoch    : Nat
deriving DecidableEq, Repr

/-- The tag states, in the order of their codes (R98). -/
inductive TagState where
  | free | receiving | staged | queued | copied | verifying | held
deriving DecidableEq, Repr

/-- One tag and its transaction (R98 to R101, R515). -/
structure Tag where
  gen      : Nat            -- generation of the current transaction, or the last generation
  lastGen  : Nat            -- the last generation, kept while a packet is being received
  token    : Bool
  seenMark : Bool
  state    : TagState
  dropped  : Bool           -- STAGED mark of a discarded transaction (R123)
  grouped  : Bool           -- the transaction belongs to group `group`
  group    : Nat
  fmt      : Nat
  code     : Nat
  tx       : Nat
  ty       : Nat
  x1       : Nat            -- TOKEN: X1
  y1       : Nat            -- TOKEN: Y1
  srcf     : Nat
  vouched  : Nat            -- arrival time of SRCFRAME srcf
  session  : Nat            -- the link session the packet came in
  decoding : Bool           -- the payload is with a decode instance
  payload  : List (BitVec 32)
  crc      : Nat            -- payload CRC word
  proved   : Nat            -- bit n: row n of the position is proved (R17)
  frames   : Nat            -- frame starts since the swap (R122)
deriving DecidableEq, Repr

/-- The group states, in the order of their codes (R102, TRX_GROUP). -/
inductive GroupState where
  | free | opened | aborted | complete | held | committing
deriving DecidableEq, Repr

/-- One group. -/
structure Group where
  gen      : Nat
  state    : GroupState
  members  : List Nat       -- member tags in the order of arrival
  held     : List Nat       -- positions that the group holds while it is uncommitted (R104)
  ended    : Bool           -- its GROUP_END has arrived
  count    : Nat
  atEpoch  : Option Nat
  execLate : Bool
  reason   : Nat            -- reason of the abort
  detail   : Nat            -- DETAIL of the group NAK
  begun    : Nat            -- local time of GROUP_BEGIN
deriving DecidableEq, Repr

/-- A TILE of the word stream whose header has been received. -/
structure Incoming where
  hdr    : TileHdr
  reason : Nat              -- the header check that failed, 0 for none (R119)
  token  : Bool             -- TOKEN of its tag before it
  whole  : Bool             -- its last word has been received
deriving DecidableEq, Repr

/-- An entry of the tile commit queue (R111). -/
structure QEntry where
  tag   : Nat
  group : Nat
  last  : Bool
deriving DecidableEq, Repr

/-- The kinds of back packet in the priority order of R97. -/
inductive BackType where
  | linkstate | digest | nak | ack | seen | event
deriving DecidableEq, Repr

/-- A back packet that waits to be sent (R93, R94). -/
structure BackPkt where
  type : BackType
  kind : Nat                 -- KIND: 0 transaction, 1 group
  gen  : Nat
  tag  : Nat
  group : Nat
  hi   : Nat                 -- bits [123:96] of LINKSTATE and EVENT; in an answer, 1 outside every group
  w1   : Nat
  w2   : Nat
  payload : List (BitVec 32) -- DIGEST
deriving DecidableEq, Repr

/-- The tile transaction layer. -/
structure Trx where
  tags     : SMap Tag
  groups   : SMap Group
  incoming : List Incoming      -- TILEs not yet judged to their end, oldest first; the last may still be arriving
  queue    : List QEntry
  zeros    : List (Nat × List Nat)   -- COUNT 0 groups that wait, each with the groups whose runs it waits for (R112)
  copying  : Option QEntry      -- the entry popped last, whose copy is in progress
  run      : Option Nat         -- the group whose run the commit engine is part-way through
  history  : List (Nat × Nat)   -- accepted SRCFRAMEs, newest first, with arrival times (R114)
  lastSrcf : Nat                -- TRX_SRCF_LAST
  gapFrom  : Nat                -- local time the SM02 gap runs from (R115)
  gapDone  : Bool               -- this gap has already raised its failure
  accepted : Nat                -- TRX_ACCEPTED
  bseq     : Nat                -- BSEQ of the next back packet
  back     : List BackPkt       -- ready back packets in the order they became ready
  lastSent : Option (Nat × BackPkt)   -- the last back packet sent, with its BSEQ
  sentHead : List (BitVec 32)   -- the four header words of the last back packet sent
deriving DecidableEq, Repr

end Sys2Proof.Machine
end

