-- ==== Sys2Proof/Machine/StateMgt.lean ====
section
/-!
DEFINITION. State of the Wenip ports (chapter 14), of the firmware patches, and of the windows that a port latches
(chapter 15).
-/

namespace Sys2Proof.Machine

/-- A response or EVENT frame that waits on a port (R353, R354). -/
structure Resp where
  opcode  : Nat              -- opcode byte of the frame
  tag     : Nat
  gen     : Nat
  index   : Nat
  sub     : Nat
  data    : List Byte        -- the status byte first, in a response
  outst   : Bool             -- its request is outstanding until it is sent (R359)
  queued  : Nat              -- local time of queuing
  canObj  : Bool             -- it answers a write to a CAN object of 0x1100 (R356)
deriving DecidableEq, Repr

/-- A response cache entry (R360). -/
structure CacheEntry where
  tag    : Nat
  digest : Nat
  resp   : Resp
  sent   : Option Nat        -- when the response was transmitted, clocked out or dropped
deriving DecidableEq, Repr

/-- A segmented transfer (R364 to R367). -/
structure Transfer where
  index   : Nat
  sub     : Nat
  upload  : Bool
  size    : Nat
  next    : Nat
  buf     : List Byte        -- staged download so far, or the copy an upload is served from
  snap    : Bool             -- the upload is served from `buf`
  crc     : Nat              -- running CRC-32 register of every byte moved
  viol    : Bool             -- the transfer opened by an access-rights violation (R364)
  at_     : Nat              -- local time of the last segment (R367)
deriving DecidableEq, Repr

/-- A nonce of CHALLENGE (R369). -/
structure Nonce where
  bytes : List Byte
  level : Nat
  at_   : Nat
deriving DecidableEq, Repr

/-- One management port and its session (R350). -/
structure PortState where
  gen      : Nat             -- last generation, 0 for none since power-on reset
  active   : Bool
  level    : Nat
  transfer : Option Transfer
  nonce    : Option Nonce
  auths    : Nat             -- consecutive AUTH results (R370)
  blocked  : Option Nat      -- end of the CHALLENGE block
  queue    : List Resp       -- responses that wait to be sent, oldest first
  cache    : List CacheEntry
  lastReq  : Nat             -- local time of the last accepted request (R370)
  repLatch : SMap (BitVec 192)   -- latched driver record per driver index (R395)
deriving DecidableEq, Repr

/-- A firmware patch slot of the journal store (R372 to R374). -/
structure PatchSlot where
  image   : List Byte
  version : Nat
  floor   : Nat
deriving DecidableEq, Repr

/-- The management subsystem. -/
structure Mgt where
  can      : PortState
  spi      : PortState
  canBus   : Bool            -- the CAN controller is on the bus (not bus-off)
  canCfg   : SMap Nat        -- CAN objects of 0x1100:01 to 08 in effect, unlisted: the default (R356)
  canDue   : Option Nat      -- a CAN object write takes effect at this time (R356)
  canTx    : Option (Nat × List Byte)  -- the last frame sent on CAN: its identifier and its data field (R356)
  spiOut   : List Byte       -- the bytes on SDO in the last transaction (R357)
  sckAt    : Option Nat      -- local time of the last SPI clock edge (R468)
  stopped  : Bool            -- MGT has been stopped by the sleep handshake (R432)
  evtSent  : Nat             -- bits that have sent an EVENT frame since they were cleared (R377)
  events   : List Resp       -- EVENT frames queued on channel 2
  patchRun : Option PatchSlot     -- the slot that runs
  patchFb  : Option PatchSlot     -- the other slot
  patchLoaded : Bool         -- the other slot holds a loaded patch
  patchPend : Bool           -- activation at the next boot is marked
  patchEver : Bool           -- a patch has been activated
deriving DecidableEq, Repr

end Sys2Proof.Machine
end

