-- ==== Sys2Proof/Machine/StatePads.lean ====
section
/-!
DEFINITION. The signals of the package and what a ball presents (R34 to R36), and the edges of a band's row control in
a slot (R245, R246).
-/

namespace Sys2Proof.Machine

/-- The signals of R36; a differential pair is one signal. Bands, lanes and pins are numbered as their names are. -/
inductive Signal where
  | fwdLane (n : Nat) | backLane (n : Nat) | refclk | crystal
  | drvLane (b j : Nat) | sense (b : Nat)
  | gst (b : Nat) | gck (b n : Nat) | goe (b : Nat) | gbb (b : Nat) | pven (b : Nat) | pdis (b : Nat)
  | canTx | canRx | sck | sdi | csN | sdo | qck | qcsN | qd (n : Nat) | pmbScl | pmbSda | pmbAlertN | evtN
  | crk1 (n : Nat) | crk2 (n : Nat) | thm (n : Nat) | diode
  | faultN | rstN | strap | wakeN | pen (n : Nat) | pgood | gylD | gylFs | tmode | vres
deriving DecidableEq, Repr

/-- What a ball presents (R34, R36). -/
inductive Pad where
  | weakUp            -- a weak pull-up to its pad supply
  | noPull            -- no pull
  | strapPull         -- the strap reference pull-up (R46)
  | low | high        -- driven
  | released          -- an open drain that is not driven
  | input             -- an input that works, in P3 as a wake source or a reset input
  | inputUp           -- an input with a weak pull-up
  | ignored           -- an input that is not looked at
  | highZ
  | terminated        -- 100 Ω termination on, receiver idle
  | receiving         -- receiver on, driver off
  | electricalIdle
  | sending           -- a lane that carries its line code
  | sourcing          -- the test current is on
  | off               -- receiver and driver off
  | running           -- the oscillator runs
  | passive           -- the temperature diode
  | unpowered         -- the pad supply is off
  | floating          -- no level of the controller's own
deriving DecidableEq, Repr

/-- The pins of a band's row control whose edges a slot fixes. -/
inductive RowPin where
  | gst | gbb
  | gck (n : Nat)
deriving DecidableEq, Repr

/-- An edge of a row control pin, `at_` ps after the start of the slot. -/
structure RowEdge where
  at_  : Nat
  pin  : RowPin
  high : Bool
deriving DecidableEq, Repr

end Sys2Proof.Machine
end

