-- ==== Sys2Proof/Machine/StatePanel.lean ====
section
/-!
DEFINITION. State of the scan, the shown content, the driver link, the ledger and its spares, freshness, readback,
safety and the panel rails (chapters 07 to 12).
-/

namespace Sys2Proof.Machine

/-- The content of one side of a tile position (R16, R117, R281). -/
structure Content where
  session : Nat              -- link session it came in
  srcf    : Nat              -- SRCFRAME that vouches for it
  vouched : Option Nat       -- vouched time, none while it has none (R283)
  qual    : Bool             -- delivered as FMT 2 or lake EXACT (R281)
  tag     : Option Nat       -- the transaction still to be proved or superseded (R17, R122)
deriving DecidableEq, Repr

/-- One tile position: its selector, shown content, pending swap and overlay (R218, R285). -/
structure Pos where
  sel      : Bool            -- selector: false buffer A, true buffer B
  shown    : Content
  pend     : Option Content  -- committed content whose swap is pending
  pendAt   : Option Nat      -- the epoch a HELD or LOCKED swap waits for; none when it is due at a row slot
  pendHeld : Bool            -- the pending swap is that of a HELD group (R108)
  swapSlot : Option Nat      -- count of row slots at its most recent swap (R219)
  bad      : Nat             -- bit c: the standing cause c of R285 holds: 4, 6 or 7; bit 8: cause 7 by a region table word (R175)
  judged   : Option (Nat × Nat)  -- epoch and OVL × 8 + CAUSE of the latest judgement
  hatched  : Option Nat      -- the last epoch in which the position was hatched
  expired  : Option Nat      -- the last epoch in which an expiry was counted
  age      : Nat             -- AGE as sampled at the start of the frame (R285)
deriving DecidableEq, Repr

/-- The parameters latched for a frame (R178). -/
structure Latch where
  epoch   : Nat
  obj     : SMap Nat
  dom     : SMap (List Byte)
  regions : SMap Nat
  tb      : List Int         -- temperature of each band in 0.125 °C (R187)
  sel     : Nat              -- shown content: 0 live, n + 1 plate n
deriving DecidableEq, Repr

/-- A row prepared by PPL: the stage 8 values of its subpixels, and what its streams have done (R200, R207). -/
structure Prep where
  row   : Nat
  epoch : Nat
  fetched : Nat              -- count of row slots when PPL fetched its inputs (R180)
  y8    : List Nat           -- stage 8 fine codes of the 3W subpixels
  ovls  : List Nat           -- OVL of each tile column
  sides : List Bool          -- the scan buffer that each tile column was read from
  hatch : List Bool          -- per pixel: an overlay covers it
  tags  : List (Option Nat)  -- per tile column: the transaction whose content the row shows
  left  : Bool               -- the even stream has completed the line
  right : Bool               -- the odd stream has completed the line
deriving DecidableEq, Repr

/-- A slot sent to the drivers, kept until its row report has been judged (R249, bank 12). -/
structure Sent where
  slot    : Nat
  epoch   : Nat
  kind    : Nat              -- 0 IMAGE, 1 BLANK, 2 SPARE, 3 CAL
  row     : Nat              -- band row addressed
  black   : Bool             -- the line was sent black
  sigs    : List Nat         -- CRC-32 of the payload sent to each driver
  codes   : List Nat         -- codes sent, for the proof and the shadow checker
  idx     : List Nat         -- precharge indices sent
  before   : List Nat        -- the previous codes that R194 used; empty after a black line
  fetched  : Nat             -- count of row slots when PPL fetched its inputs (R180)
  ovls     : List Nat        -- OVL of each tile column, as the row was prepared
  sides    : List Bool       -- the scan buffer that each tile column was read from
  hatch   : List Bool        -- per pixel: an overlay covered it
  tags    : List (Option Nat)   -- per tile column: the transaction whose content the row showed
  recW    : Bool             -- REC
  recRow  : Nat              -- RECROW
  pass    : Nat              -- PASS of the recovery write
  phase   : Nat              -- CAL: PHASE
  level   : Nat              -- CAL: level 1 to 3
  number  : Nat              -- count of row slots since reset
deriving DecidableEq, Repr

/-- The scan of one band. -/
structure BandScan where
  state    : Nat             -- band state code (R214)
  preps    : List Prep       -- rows prepared and not yet sent
  sent     : List Sent       -- slots sent, newest first
  hist     : List Sent       -- image lines sent in the last 20 slots, newest first, for the shadow checker (R290)
  prev     : List Nat        -- y8 >> 6 of each column of the row sent last; empty after a black line (R194)
  gaps     : Nat             -- calibration gaps used in this frame
  shadowDue : Nat            -- sampled pixels of this frame that the shadow checker has still to compare (R292)
  shadowNext : Nat           -- those of the next frame, whose first rows are sent already
  goeDuty  : Nat             -- the duty in force
  isum     : Nat             -- sum of Ipix over the image rows sent in this frame, nA (R330)
  shortRec : Nat             -- records of this frame that report shorts (R329)
  recSkip  : Bool            -- a row of the present recovery pass was skipped
  passOn   : Bool            -- the band was live when the pass in progress began (R211)
  heads    : List (BitVec 64)    -- headers of the slot packet and the STROBE transmitted last (R235 to R237)
  edges    : List RowEdge    -- row control edges of the slot in progress (R245, R246)
  biasTok  : Bool            -- the first slot of the pass loaded a bias token (R245)
  doneFrame : Option Nat     -- the frame that the last FRAME_DONE named, by the low 16 bits of its epoch (R216)
deriving DecidableEq, Repr

/-- The scan. -/
structure Scan where
  running  : Bool            -- the raster runs
  epoch    : Nat
  slot     : Nat
  slotNo   : Nat             -- row slots since the raster started (GCK phase, R245)
  frameAt  : Nat             -- local time of the frame start
  frameP   : Nat             -- measured period of the last frame, ticks of 2 ns
  inForce  : SMap Nat        -- the raster objects in force (R206), by dictionary key
  latch    : Option Latch
  latchNext : Option Latch   -- latched for the frame that follows
  selNow   : Nat             -- the shown selection
  pend     : Option (Nat × Nat × Bool)   -- pending show request: selection, epoch, wall-wide
  pendReg  : Option (Nat × Option Nat)  -- pending region commit: epoch, and SEQ of its REGION record when sealed
  plates   : SMap Nat        -- plate states
  bands    : SMap BandScan
  pos      : SMap Pos        -- positions by 120 TY + TX
  regAct   : SMap Nat        -- the active region table by region number
  urTimes  : List Nat        -- times of underruns in vermilion rows, newest first
  tableBusy : SMap Nat       -- tables being brought up to date (R179), by dictionary key
  tableAct : SMap (List Byte)    -- the active copies of the two-copy tables (R179)
  commits  : Nat             -- tiles committed in this frame (TLM_COMMITS)
  hatchCnt : Nat             -- positions that entered the hatch in this frame
  hatchFirst : Nat           -- the first of them: TX × 256 + TY
  lastSlack : Int            -- worst slack of the frame in 0.1 %
  shadowPix : Nat            -- pixels checked in this frame
  tbLast   : SMap Int        -- the last temperature each band took from a valid thermistor, 0.125 °C (R187)
deriving DecidableEq, Repr

/-- The states of a band's driver link, in the order of their codes (R253). -/
inductive DlkState where
  | off | detect | negotiate | step | config | ready | run | hold | failed
deriving DecidableEq, Repr

/-- A delivered recovery entry of a row: PASS and the signature sent to each driver (R240, R261). -/
structure Deliv where
  pass : Nat
  sigs : List Nat
deriving DecidableEq, Repr

/-- The transmitter of one driver lane (R233). -/
structure DrvLane where
  tx   : LaneTx
  seq  : Nat                 -- SEQ of the next marker
  part : List (BitVec 32)    -- the words of the block in progress
  ptr  : Nat                 -- its HDRPTR, 0xFFF while no packet starts in it
  line : LineBits            -- the blocks that the latest packet completed, as they stood on the line
deriving DecidableEq, Repr

/-- The driver link of one band. -/
structure DlkBand where
  state    : DlkState
  cause    : Nat
  rate     : Nat
  chain    : Nat
  retries  : Nat
  chainStep : Bool           -- the step in progress is a chain step
  readyDue : Bool            -- configured; READY at the next frame start (R254)
  relDue   : Bool            -- RELEASE is due at the next frame start (R256)
  retrain  : Bool            -- the link in hold was training, and trains again once it is released
  lanes    : SMap DrvLane    -- the transmitters of the driver lanes
  strobe   : Option Nat      -- header of the STROBE of the slot that starts next
  failRun  : Nat             -- consecutive slots with a missing or LINKERR record (R255)
  failSlot : Nat             -- number of the last such slot
  crcRun   : Nat             -- consecutive slots whose records fail RCRC (R255)
  crcSlot  : Nat             -- number of the last such slot
  deliv    : SMap Deliv      -- recovery entries delivered, by band row
  regs     : SMap Nat        -- driver registers written by the controller, by 65536 × driver + address
deriving DecidableEq, Repr

/-- A row queued for a spare-mask write (R269). -/
structure MaskReq where
  band  : Nat
  row   : Nat
  short : Bool
  fails : Nat                -- consecutive failures on the row (R270)
deriving DecidableEq, Repr

/-- The ledger and the spare emitters. -/
structure Wear where
  queue   : List MaskReq
  requeue : List (Nat × Nat)     -- rows changed after their mask was read (R269)
  confirm : SMap Nat         -- confirmed pass writes of the interval, by 32 × (8192 × band + row) + driver
  sample  : SMap (List Nat)  -- sampled fine codes of rows due in this frame (R260), by 8192 × band + row
  updated : SMap Nat         -- epoch of the last update of each band row, plus 1
  zeroed  : SMap Bool        -- subpixels whose age was set to 0 in the interval (R271)
  shorts  : SMap Nat         -- subpixels with an unresolved short, by 32768 × panel row + subpixel: the band
  dead    : SMap Nat         -- dead subpixels of each position
  bmax    : Nat              -- largest absolute B of the present 16-frame cycle
  bexcess : Nat              -- subpixels with absolute B above 16,384 in the present cycle
  dose    : SMap Nat         -- raw dose of each position and colour since the last DOSE record (R486)
  headsat : SMap Nat         -- WEAR_HEADSAT elements
deriving DecidableEq, Repr

/-- One safety mechanism of SAF_TABLE. -/
structure Mech where
  lastClass : Nat
  active    : Bool
  bands     : Nat
  count     : Nat
deriving DecidableEq, Repr

/-- What a driver's records show, per band and driver (R288). -/
structure DrvJudge where
  sm04Epoch : Nat            -- epoch of its last SM04 failure in a row without ochre or vermilion, plus 1
  sm05Slot  : Nat            -- slot number of its last SM05 failure, plus 1
  sm14Epoch : Nat            -- epoch of its last SM14 failure, plus 1
deriving DecidableEq, Repr

/-- SM06 judgement of one driver and band row (R288). -/
structure M6 where
  bandEpoch : Nat            -- epoch of the last failure of the band rule, plus 1
  tileEpoch : Nat            -- epoch of the last failure of the tile rule, plus 1
  hatch     : Bool           -- the hatch of cause 4 stands
  clean     : Nat            -- consecutive frames with MISCNT 0
deriving DecidableEq, Repr

/-- Readback and safety. -/
structure Safe where
  mech     : SMap Mech
  dark     : Nat             -- bit b: band b is DARK for a band cause
  clearDue : Nat             -- bit b: band b leaves DARK at the next frame start (R300)
  unusable : Nat             -- bit b: an unusable DRAM row holds the band
  drv      : SMap DrvJudge   -- by 32 × band + driver
  m6       : SMap M6         -- by 8192 × (32 × band + driver) + band row
  burst    : SMap Nat        -- slots of the band with an SM05 missing failure in this frame
  clean    : SMap Nat        -- consecutive clean frames of black lines, per band
  dirty    : Nat             -- bit b: the band's present frame has a failure
  sm02At   : Option Nat      -- local time of the most recent SM02 failure (R284)
  inj      : Option (Nat × Nat × Nat)   -- injected tile overlay of position (0, 0): mechanism, cause, epoch
  sealCrc  : Nat             -- the CRC SM15 compares with
  corrupt  : Bool            -- the last SM15 comparison failed and a reload is awaited
  reload   : Bool            -- the reload takes effect at the next frame start
deriving DecidableEq, Repr

/-- The states of a band rail set, in the order of their codes (R310). -/
inductive RailState where
  | off | opening | rising | on | falling | cut
deriving DecidableEq, Repr

/-- One rail set. -/
structure Rail where
  state    : RailState
  lastDown : Nat
  powerups : Nat
  toCut    : Bool            -- the fall in progress or due ends in CUT
  fallDue  : Option Nat      -- a timed fall waits for the step of the band: the code of its cause (R318)
  due      : Bool            -- a stagger slot of an accepted request is awaited
  at_      : Nat             -- local time of the band's next step (R310, R312, R316, R318)
deriving DecidableEq, Repr

/-- A lampblack path in progress (R316, R318, R320). -/
structure LbPath where
  bands  : Nat
  causes : Nat
  from_  : Nat               -- local time of the trigger
deriving DecidableEq, Repr

/-- The crack loop monitor of one loop. -/
structure Loop where
  fails  : Nat               -- consecutive failing measurements
  passes : Nat               -- consecutive passing checks
  learn  : Nat               -- checks still to take for a baseline (R326)
  sum    : Nat × Nat         -- sum of the referred resistances, as a fraction
  bad    : Bool              -- a check of the learning failed
deriving DecidableEq, Repr

/-- Panel power. -/
structure Pnl where
  rails   : SMap Rail
  path    : Option LbPath
  cutPath : SMap LbPath      -- cuts in progress, by band
  auto    : Nat              -- bands whose automatic request is held (R311)
  loops   : SMap Loop
  step2   : Bool             -- the leakage step of the loop is in progress
  loop    : Nat              -- the loop being measured
  r1      : Nat              -- resistance of step 1
  checkOn : Bool             -- a check is in progress
  vresLow : Nat              -- consecutive VRES conversions below PNL_VRESMIN in RUN
  vresTest : Bool            -- the capacitance test is in progress
  vresV   : Nat              -- VRES before the test, mV
deriving DecidableEq, Repr

end Sys2Proof.Machine
end

