-- ==== Sys2Proof/Machine/StateRest.lean ====
section
/-!
DEFINITION. State of the sense ADC and the uniformity calibration (chapter 13), of the Gylor cascade (chapter 16) and
of the journal, telemetry and event counters (chapter 19).
-/

namespace Sys2Proof.Machine

/-- One ADC input (R332 to R334). -/
structure AdcIn where
  valid : Bool
  trig  : Bool
  at_   : Nat
  code  : Nat
  bad   : Bool               -- the last conversion lay outside its window (R333)
  queued : Bool              -- a trigger is queued
deriving DecidableEq, Repr

/-- The states of a calibration run, in the order of their codes (R344). -/
inductive CalState where
  | idle | running | abandoned | complete | committing
deriving DecidableEq, Repr

/-- One calibration gap still to take: level, phase and the band row (R340). -/
structure Gap where
  level : Nat
  phase : Nat
  row   : Nat
deriving DecidableEq, Repr

/-- A CAL slot whose CALREP is awaited (R339). -/
structure CalWait where
  slot   : Nat
  epoch  : Nat
  gap    : Gap
  number : Nat               -- count of row slots since reset
deriving DecidableEq, Repr

/-- The run in one band. -/
structure CalBand where
  total   : Nat              -- slices in the band; 0 when the band is not selected
  done    : Nat              -- slices complete
  flat    : Nat
  next    : Nat              -- place in the sample order of the slice
  redo    : List Gap         -- samples to take again (R339)
  wait    : List CalWait     -- CAL slots whose CALREP is awaited
  acc     : SMap Nat         -- accumulators by (level × 8192 + row) × 32768 + subpixel
  taken   : Nat              -- samples of the slice accumulated
  tmin    : Option Int
  tmax    : Option Int
  tsum    : Int              -- sum of T_b over the frames of the slice
  tcnt    : Nat
  tRunSum : Int              -- sum of the mean temperatures of the slices
  tRunCnt : Nat
  repeats : Nat
  maskHit : Bool             -- a spare-mask write in the slice was confirmed
deriving DecidableEq, Repr

/-- Calibration and sensing. -/
structure Cal where
  adc     : SMap AdcIn
  conv    : Option (Nat × Bool)  -- the conversion in progress: its input, and whether it was triggered (R334)
  sched   : List Nat         -- scheduled conversions that wait for the converter, in the order in which they fell due (R334)
  therm   : Nat              -- the bands without a valid thermistor as last entered (R187)
  state   : CalState
  s       : Nat              -- slice rows S latched at START
  extra   : Nat              -- banks 13 to 15 counted in S, bit 0 = bank 13
  cfg     : SMap Nat         -- CAL_RUNCFG and CAL_REF as latched at START, by dictionary key
  bands   : SMap CalBand
  staging : SMap Nat         -- fitted words, by 32768 × panel row + subpixel
  s2sum   : SMap Nat         -- sum and count of S2 per position and colour, sum × 65536 + count
  tilemean : SMap Nat        -- CAL_TILEMEAN elements
deriving DecidableEq, Repr

/-- A wall commit on the master, or the change a participant holds (R415 to R419). -/
structure Change where
  epoch : Nat
  gen   : Nat
  kind  : Nat
  arg   : Nat
deriving DecidableEq, Repr

/-- A node of GYL_NODES (R406). -/
structure Node where
  state  : Nat
  missed : Nat
  reason : Nat
  gen    : Nat
  bad    : Nat               -- consecutive rolls in which its slot carried a frame failing its CRC
deriving DecidableEq, Repr

/-- A sync word received (R407). -/
structure Sync where
  epoch : Nat
  gen   : Nat
  node  : Nat
  ref   : Nat
  slew  : Bool
deriving DecidableEq, Repr

/-- A frame sent on GYL_D (R403, R404): when its first bit leaves, TYPE, DST and payload, and the half bits on the pair. TYPE 0 is a sync
word on GYL_FS, and TYPE 0x55 a wake phrase. -/
structure GylTx where
  at_  : Nat
  type : Nat
  dst  : Nat
  data : List Byte
  line : List Bool
deriving DecidableEq, Repr

/-- The Gylor cascade. -/
structure Gyl where
  state    : Nat             -- GYL_STATE
  gen      : Nat             -- applied generation
  nodes    : SMap Node
  lastSync : Option Sync     -- previous valid sync word
  syncAt   : Nat             -- its reckoned frame start
  run      : Nat             -- consecutive usable sync words
  lost     : Nat             -- consecutive frames without a usable sync word
  gotSync  : Bool            -- a usable sync word arrived in this frame
  selfBad  : Nat             -- consecutive own sync words failing on read-back (R413)
  badSlots : Nat             -- mask of the nodes whose reply slot carried a failing frame in this window
  gotFirst : Bool            -- a valid sync word has arrived since BOOT
  srcGood  : Nat             -- consecutive SRCFRAME intervals within tolerance
  srcBad   : Nat             -- consecutive SRCFRAME intervals outside tolerance
  srcAt    : Nat             -- arrival of the last accepted SRCFRAME
  srcK     : Nat             -- k of the SOURCE reference
  ref      : Nat             -- GYL_REFNOW
  hadRef   : Bool            -- the controller has had a reference other than CRYSTAL
  switching : Bool           -- GYL_REFSW
  phase    : Int             -- GYL_PHASE
  held     : Option Change   -- the prepared change of a participant
  heldOk   : Bool            -- its COMMIT has arrived
  dropped  : Option Nat      -- generation whose prepared change was dropped at E − 1
  cmt      : Option Change   -- the master's commit in progress
  cmtParts : Nat             -- its participants
  cmtReady : Nat             -- participants that answered READY
  cmtFirst : Nat             -- epoch of the first PREPARE
  cmtSent  : Bool            -- COMMIT has been sent
  cmtRefused : Option (Nat × Nat)   -- lowest refusing node and its REFUSE reason
  windowEnd : Nat            -- local time at which the last reply window closes (R405)
  rollOpen : Bool            -- the reply window of a ROLL is open
  rollGot  : Nat             -- nodes that answered the roll
  prepOpen : Bool            -- the reply window of a PREPARE is open
  behindAt : Option Nat      -- epoch at which the follower became BEHIND
  reacted  : Bool            -- the BEHIND reaction has been taken
  vec      : SMap Nat        -- the state vector: argument of each kind in force, plus 1 (R420)
  vecPend  : Option (Nat × Nat × SMap Nat)  -- a VECTOR to apply: GEN, the first frame it can reach, and its arguments
  snap     : Option Nat      -- the epoch of the snapshot armed
  wakeRep  : Bool            -- the wake phrase is being repeated
  wakeFrom : Nat             -- local time at which its repetition began
  wakeWait : Nat             -- nodes still to answer
  armed    : Bool            -- the wake phrase detector is armed (R424)
  armedAt  : Nat             -- local time at which it was armed
  answer   : Option (Change × Nat × Nat)   -- the PREPARE answered last, with the REFUSE reason (0 READY) and DETAIL
  rollDue  : Bool            -- a ROLL that its frame could not carry is due
  realign  : Bool            -- the raster restarts at the next usable sync word (R410)
  waitSync : Bool            -- a follower waits for its first sync word (R409)
  waitFrom : Nat             -- local time of SETUP entry after BOOT (R409)
  firstAt  : Nat             -- earliest start of a master's raster (R409)
  snapFrom : Nat             -- epoch of the last periodic SNAP (R427)
  masterWait : Bool          -- a master waits for the answers to its first ROLL (R409)
  tx       : List GylTx      -- frames sent on GYL_D, and as TYPE 0 the sync word on GYL_FS, newest first, of the present frame and the next
deriving DecidableEq, Repr

/-- A journal record (R477). -/
structure JRec where
  type  : Nat
  flags : Nat
  arg   : Nat
  seq   : Nat
  at_   : Nat                -- when it was handed to JRN
  key   : Nat                -- OBJECT: dictionary key; other types: their target
  value : Nat
  data  : List Byte
deriving DecidableEq, Repr

/-- A ledger piece in the ring (R484). -/
structure Piece where
  seq  : Nat
  size : Nat
  bias : List Byte
  age  : List Byte
deriving DecidableEq, Repr

/-- What survives a loss of power in the NOR device (R472 to R489), read as its records restore it. -/
structure Nv where
  obj      : SMap Nat        -- journaled objects, by dictionary key
  dom      : SMap (List Byte)    -- journaled DOM objects
  regions  : SMap Nat        -- the active region table
  layout   : Option (Nat × SMap Nat × Nat)   -- a prepared REGION record: generation, table and sealed record CRC
  defect   : SMap Byte       -- defect and spare map, by byte offset
  demura   : SMap Byte       -- demura map, by byte offset
  ages     : SMap (Nat × Nat)    -- ages of DEFECT records: SEQ and value, by subpixel key
  pieces   : SMap Piece
  doses    : List (Nat × SMap Nat)   -- DOSE records: SEQ and the sums, newest first
  dramRows : List (Nat × Nat × Nat)  -- DRAMROW records: row, action, target
  gens     : SMap Nat        -- GENS: generation of each tag, groups from 8,192
  logs     : SMap (List Nat) -- EVLOG records by SEQ
  mark     : Option (List Nat)   -- CALMARK: RUNID, PARCRC, S and the slices done of bands A to D
  staging  : SMap Nat        -- staged calibration words
  asBuilt  : Option (SMap Byte × SMap Byte)   -- factory copy of the demura map and the defect map
  asGrids  : List (List Byte)    -- factory copy of the correction grids
  gylGen   : Nat             -- Gylor generation
  gylVec   : SMap Nat        -- Gylor state vector
  gen      : Nat             -- active generation number
  demPtr   : Nat             -- demura pointer
deriving DecidableEq, Repr

/-- The journal. -/
structure Jrn where
  head     : List Byte              -- header of the record programmed last (R477)
  ledAt    : Nat                    -- local time of the last ledger piece (R484)
  doseAt   : Nat                    -- local time of the last hourly DOSE record (R486)
  nv       : Nv              -- the active generation with the records after it
  base     : Nv              -- the active generation as it was committed
  older    : Nv              -- the generation before it, with the records after the active one's fold point (R488)
  cand     : Nv              -- the active generation with the records after the fold point of a compaction that runs
  since    : Nat             -- bytes of the needed records after that fold point
  buf      : List JRec       -- write buffer, oldest first
  used     : Nat             -- bytes of needed records in the ring, ledger pieces and DOSE records apart
  total    : Nat             -- bytes programmed into the ring since the device was formatted
  erased   : Nat             -- formats of the device
  present  : Bool            -- a device with the features of R472 was found
  compact  : Bool            -- a compaction runs
  again    : Bool            -- a further compaction is requested
  persist  : Bool            -- a download is being made durable
  commitCal : Bool           -- the compaction is the final step of a calibration COMMIT
  mapsDone : Bool            -- the map restore has completed
  redo     : List Nat        -- maps whose failed download is to be restored, by dictionary key (R366)
  held     : Bool            -- ledger pieces are held (R479, R482)
  fresh    : Bool            -- a new ledger cycle writes its pieces back to back
  retired  : List Nat        -- retired sectors
deriving DecidableEq, Repr

end Sys2Proof.Machine
end

