-- ==== Sys2Proof/Machine/StateStore.lean ====
section
/-!
DEFINITION. State of the lake coder's memory instance (chapter 05), of the frame store and of the SRAM banks
(chapter 06).
-/

namespace Sys2Proof.Machine

/-- The memory-job slot states, in the order of their codes (R149). -/
inductive JobState where
  | idle | running | waiting | done | outFull | inEmpty | noFit | escape | decodeErr | suspended | cancelled | fault
deriving DecidableEq, Repr

/-- The stream context of a slot (R154). -/
structure LakeCtx where
  left   : List (List Nat)   -- LEFT: four lines of the components of column 7
  lvalid : Bool
  elem   : Nat
  ratio  : Nat
  mode   : Nat
  qmax   : Nat
  flip   : Nat
  dir    : Nat
  wblk   : Nat
  bcol   : Nat
  hblk   : Nat
  brow   : Nat
  crcA   : Nat
  crcB   : Nat
  inCnt  : Nat
  outCnt : Nat
  escCnt : Nat
deriving DecidableEq, Repr

/-- One memory-job slot. -/
structure Slot where
  state    : JobState
  cause    : Nat
  ctx      : LakeCtx
  rastAddr : Nat
  stride   : Nat
  codeAddr : Nat
  codeLen  : Nat
  codePos  : Nat             -- bytes of the current coded buffer used
  suspend  : Bool            -- SUSPEND waits for the block boundary
  cancel   : Bool            -- CANCEL waits for the block boundary
deriving DecidableEq, Repr

/-- The lake coder. -/
structure Lake where
  slots   : SMap Slot
  current : Option Nat       -- the slot the memory instance works on
  quantum : Nat              -- blocks left of its turn
  inst    : SMap (List Nat)  -- the tags that decode instance 0 and 1 hold, the one it decodes first (R141)
deriving DecidableEq, Repr

/-- A correctable error remembered for R167. -/
structure CorrEvent where
  word : Nat                 -- byte address of the 64-bit word
  at_  : Nat
  pass : Nat                 -- scrub pass in which it was found
deriving DecidableEq, Repr

/-- The frame store. -/
structure Fst where
  scrubAddr : Nat
  passFrom  : Nat            -- local time from which the present pass is timed
  promoted  : Bool
  selfRef   : Bool           -- the dies are in self-refresh (P2)
  dieIdle   : Bool           -- the dies are idle (step 12 of a P3 entry)
  parityAt  : SMap Nat       -- time of the last command or address parity error of each die
  uncorrAt  : SMap (List Nat)   -- times of uncorrectable words of each die
  corr      : List CorrEvent
  copying   : List (Nat × Nat)  -- failing (die, row) pairs whose copy is in progress
  spared    : List (Nat × Nat)  -- (die, row) pairs remapped to spare rows, oldest first
  reloc     : List Nat       -- frame-store rows relocated into the pool, in pool order
  held      : List (Nat × List Byte)  -- writes that FST holds for lines still to be checked (R180): address, bytes
  unusable  : List Nat       -- unusable frame-store rows, in the order found
deriving DecidableEq, Repr

/-- The states of a bank (R173, BNK_STATE). -/
inductive BankPhase where
  | stable | pending | clearing
deriving DecidableEq, Repr

/-- One SRAM bank. -/
structure Bank where
  owner     : Nat
  phase     : BankPhase
  next      : Nat            -- owner code requested while not STABLE
  clear     : Bool
  handovers : Nat
  lastFail  : Nat
  used      : Bool           -- its words are those of a master whose layout of the bank the spec does not give
deriving DecidableEq, Repr

/-- The SRAM banks. -/
structure Bnk where
  banks  : SMap Bank
  sram   : SMap (BitVec 64)  -- words written, by bank × 2^19 + word
  poison : SMap Bool         -- words that read as uncorrectable
  scrub  : Nat               -- next word of the SRAM scrub, by bank × 2^19 + word
  hatchTo : Option Nat       -- when the firmware has rewritten the region table words of bank 12 (R175)
deriving DecidableEq, Repr

end Sys2Proof.Machine
end

