-- ==== Sys2Proof/Machine/StateSys.lean ====
section
/-!
DEFINITION. State of the start-up, the resets, the pins, the power states and VCORE (chapters 01, 02, 17 and 20), of
the event log (chapter 15) and of the clock crossings (chapter 18).
-/

namespace Sys2Proof.Machine

/-- The operating states (R25, R387). -/
inductive OpState where
  | boot | setup | run | safeDark
deriving DecidableEq, Repr

/-- Where the start-up sequence stands (R442, R457, R458). -/
inductive StartStage where
  /-- The always-on die has left reset and the pin-state fuses are still to be loaded. -/
  | aonReset
  /-- PEN0 is high and PGOOD is awaited. -/
  | waitPgood
  /-- PEN1 is high and VDRAM and VLANE are awaited. -/
  | waitPen1
  /-- PEN2 is high and VIO_CD is awaited. -/
  | waitPen2
  /-- Every supply is good and the controller die may leave reset. -/
  | supplied
  /-- The controller die has left reset: BOOT, or an operating state after it. -/
  | started
  /-- A system reset holds the controller die in reset. -/
  | inReset
  /-- Every PEN is low for the 100 ms before another attempt. -/
  | retryWait
  /-- Three attempts have failed. -/
  | failed
  /-- The always-on die runs alone in P3. -/
  | asleep
  /-- A P3 wake waits for its site number's slot (R426). -/
  | wakeSlot
  /-- A P3 wake waits for VIO_AB (R442). -/
  | waitVioAb
deriving DecidableEq, Repr

/-- The device reset sources (R451), in the order of their codes from 1. -/
inductive ResetSrc where
  | por | pfail | pin | soft | lockstep
deriving DecidableEq, Repr

/-- The start-up sequence and the bookkeeping of resets. -/
structure Boot where
  op         : OpState          -- the operating state (R25)
  stage      : StartStage       -- the place in the start-up sequence
  stageAt    : Nat              -- local time at which that stage began
  stretch    : Nat              -- least length of the reset in progress in ns (R452)
  attempts   : Nat              -- failed start attempts (R458)
  vdramOk    : Bool             -- VDRAM lies within its window
  vlaneOk    : Bool             -- VLANE lies within its window
  viocdOk    : Bool             -- VIO_CD lies within its window
  fromP3     : Bool             -- this start is a wake from P3
  factoryOk  : Bool             -- the factory fuse field passed its CRC (R456)
  customerOk : Bool             -- the customer fuse field passed its CRC (R456)
  blank      : Bool             -- the customer fuse field is blank (R4)
  fuseBands  : Nat              -- the band count of the customer fuse field (R4)
  factoryKey : Option (List Byte)   -- the Factory key programmed into the customer fuse field (R371)
  pending    : Option ResetSrc  -- the first source of the reset in progress (R454)
  resetLogged : List ResetSrc   -- sources whose RESET entry the next boot writes (R391)
  strapWarn  : Bool             -- a strap warning waits for the end of BOOT (R49)
  unfit      : Bool             -- a device-class reaction fell in this BOOT, which ends in SAFE-DARK
  upSince    : Nat              -- the local time at which BOOT last ended (DEV_UPTIME)
  lockstepAt : Option Nat       -- when the 10 ms after the SM10 reaction expire (R451)
  testMode   : Bool             -- TMODE has put the controller in its factory test mode (R33)
  gensLost   : Bool             -- the generations of tags and groups are to be restored from the journal (R99)
deriving DecidableEq, Repr

/-- The pads of one band (R36): the level each is driven to. -/
structure BandPins where
  goe  : Bool
  gbb  : Bool                -- its level at the start of the slot in progress
  pven : Bool
  pdis : Bool
deriving DecidableEq, Repr

/-- The output pins and the pad latch (R34 to R40). -/
structure Pins where
  fused     : Bool           -- the pin-state fuses are loaded (R34)
  pen0      : Bool
  pen1      : Bool
  pen2      : Bool
  pen3      : Bool
  pgood     : Bool           -- the level of PGOOD as last reported
  faultN    : Bool           -- FAULT_N, low means fault
  rstDrive  : Bool           -- the controller drives RST_N low
  rstExt    : Bool           -- RST_N is held low from outside
  wakeN     : Bool           -- WAKE_N is low from outside
  evtN      : Bool           -- EVT_N is driven low
  evtPulses : Nat            -- pulses started on EVT_N in PULSE mode (R375)
  evtUntil  : Nat            -- end of the pulse in progress
  padsAb18  : Option Bool    -- the class fixed for VIO_AB, true for 1.8 V (R495)
  padsCd18  : Option Bool    -- the class fixed for VIO_CD, true for 1.8 V (R495)
  vioAb     : Bool           -- VIO_AB is present as last reported (R42)
  held      : List (Signal × Pad)   -- the pads that the always-on die holds latched (R39, R40)
  vresOnly  : Bool           -- the always-on die runs from VRES (R317)
  pdisWeak  : Bool           -- PDISa has reverted to its weak pull-ups
  bands     : SMap BandPins  -- the pads of each band
deriving DecidableEq, Repr

/-- The power states (R28) that the controller can be in while supplied. -/
inductive PowerState where
  | p0 | p1 | p2 | p3
deriving DecidableEq, Repr

/-- PWR_ENTRY (R435). -/
inductive EntryState where
  | idle | inProgress | waitRetry | done | failed | aborted
deriving DecidableEq, Repr

/-- The VCORE request outstanding on PMBus (R447). -/
structure PmbReq where
  target : Nat      -- mV asked for
  tries  : Nat      -- attempts that have failed
  raise  : Bool     -- the request raises VCORE
  at_    : Nat      -- local time at which the write of the present attempt starts
deriving DecidableEq, Repr

/-- PWR and PMBus (chapter 17). -/
structure Pwr where
  state     : PowerState
  entry     : EntryState
  target    : Nat             -- PWR_TARGET, 0 to 3
  step      : Nat             -- the step being asked, 1 to 17
  abortCause : Nat            -- [15:8] of PWR_ABORT
  abortStep : Nat             -- [7:0] of PWR_ABORT
  retries   : Nat             -- PWR_RETRIES
  gylWake   : Bool            -- the persistent request of a recognised wake phrase
  safetyWake : Bool           -- the persistent request of a device-class reaction
  reqWake   : Bool            -- the persistent REQUEST wake
  timerWake : Bool            -- the persistent TIMER wake
  edgeWake  : Bool            -- an edge of WAKE_N held as pending (R436)
  fwdActive : Bool            -- activity on a configured forward lane
  aonWall   : Nat             -- the wall id handed over to the always-on detector (R424)
  aonSlot   : Nat             -- GYL_WAKESLOT as the always-on die holds it (R51)
  stepAt    : Nat             -- local time at which the step was asked, the rollback ended or a PEN fell last (R432, R435)
  p3At      : Nat             -- local time at which step 17 of a P3 entry completed (R438)
  p3Off     : Bool            -- PEN2 to PEN0 are due to fall (R432)
  waking    : Bool            -- the steps of a P2 wake are in progress (R441)
  stopped   : Nat             -- bit n: step n has been accepted in this entry
  retOp     : Nat             -- P3 entry record: operating state at entry
  retEpoch  : Nat             -- P3 entry record: epoch at entry
  retGyl    : Nat             -- P3 entry record: Gylor applied generation at entry
  retImage  : SMap Nat        -- the settings image (R444)
  retImageOk : Bool           -- the settings image is complete and readable
  pmb       : Option PmbReq   -- the outstanding VCORE request
  pmbFree   : Nat             -- local time from which the next VOUT_COMMAND may start (R449)
  pmbOut    : List (List Byte)   -- what the host sends of the last request's transactions on PMBus (R446)
  operSent  : Bool            -- OPERATION has been written in this BOOT (R446)
  vack      : Nat             -- PMB_VACK, mV
  raiseDue  : Bool            -- a raise waits for the lower in progress (R449)
  goal      : Option Nat      -- the value in mV that a run of steps leads to (R432, R441)
  hotRows   : Nat             -- consecutive rows with worst slack above 15 % (R23)
  holdoffTo : Nat             -- local time at which lowering is allowed again (R447)
  slack     : SMap Int        -- last slack of each stream in 0.1 %
  slackLow  : Bool            -- the worst slack lay below 8 % when it was last judged (R23)
deriving DecidableEq, Repr

/-- One entry of the event log (R389). -/
structure EvEntry where
  seq   : Nat
  sev   : Nat
  code  : Nat
  bands : Nat
  data  : Nat
  epoch : Nat
deriving DecidableEq, Repr

/-- The event log ring (R389, R390). -/
structure EvLog where
  entries : SMap EvEntry     -- by subindex 1 to 64, unlisted is empty
  next    : Nat              -- DEV_EVNEXT
  total   : Nat              -- DEV_EVTOTAL
  seq     : Nat              -- SEQ of the newest entry
  at_     : Nat              -- local time of the newest entry
  run     : Nat              -- entries recorded at that instant (R390)
  tileAt  : SMap Nat         -- per mechanism, when a tile reaction was last entered, plus 1 (R391)
deriving DecidableEq, Repr

/-- The states of a crossing (R393). -/
inductive XState where
  | ready | peerReset | flushing | timeout
deriving DecidableEq, Repr

/-- The crossings of one clocked domain (R459 to R471). -/
structure Crossing where
  state   : XState
  flushes : Nat
  logAt   : Nat             -- when XFLUSH was last entered, plus 1 (R471)
  outAt   : Nat             -- local time of the last timeout (R469)
deriving DecidableEq, Repr

end Sys2Proof.Machine
end

