-- ==== Sys2Proof/Machine/State.lean ====
section
/-!
DEFINITION. The state of the RV8Q40 as plain data, the reasons a step can stop, and the state after reset.
-/

namespace Sys2Proof.Machine

/-- Why a step stops with a fault. -/
inductive Fault where
  /-- A command names a DRAM byte at or above 0x8000_0000, an address that R155 says does not exist.
  Raised by MAP_WORD_REWRITE only. Safe: the hardware has no such access. -/
  | outsideDram
deriving DecidableEq, Repr

/-- Why a command has no meaning. -/
inductive Refusal where
  /-- The command's meaning is not written yet. Raised by no arm of a finished model. Safe. -/
  | notModelled (mnemonic : String)
deriving DecidableEq, Repr

/-- The RV8Q40. -/
structure State where
  pending    : List Instr           -- commands that wait, first in first out
  now        : Nat                  -- local time, ns
  free       : Nat                  -- the model's own: how many free values have been taken (log entry 3)
  obj        : SMap Nat             -- scalar objects, by dictionary key; unlisted: the default of the dictionary
  dom        : SMap (List Byte)     -- DOM objects written; unlisted: the default of R381
  mem        : List Host.Cell       -- DRAM; an unlisted byte reads 0 (R159)
  poison     : SMap Bool            -- DRAM words that hold the poison (R161), by word number
  boot       : Boot
  pins       : Pins
  pwr        : Pwr
  evlog      : EvLog
  cross      : SMap Crossing        -- crossings by domain subindex
  pxl        : Pxl
  trx        : Trx
  lake       : Lake
  fst        : Fst
  bnk        : Bnk
  mgt        : Mgt
  scan       : Scan
  dlk        : SMap DlkBand
  drvRec     : SMap (BitVec 192)    -- the most recent record of each driver, by 24 × band + driver (0x7200)
  wear       : Wear
  safe       : Safe
  pnl        : Pnl
  cal        : Cal
  gyl        : Gyl
  jrn        : Jrn
deriving DecidableEq, Repr

/-! ## What an unlisted entry of each table reads as -/

/-- A forward lane that has never been trained. -/
def Lane.idle : Lane where
  cdr := false
  mlock := false
  lastSeq := none
  badRun := 0
  stuffRun := 0
  skew := 0
  lastRate := 0
  lossCause := 0
  hist := 0
  discard := false
  wordsSeq := none
  words := []
  ptr := none
  run := .start
  testBad := false
  hello := false
  newLcn := false
  pendSeq := none
  good := false
  bg := .off
  heldFail := 0

/-- A tag that has carried no transaction. -/
def Tag.none : Tag where
  gen := 0
  lastGen := 0
  token := false
  seenMark := false
  state := .free
  dropped := false
  grouped := false
  group := 0
  fmt := 0
  code := 0
  tx := 0
  ty := 0
  x1 := 0
  y1 := 0
  srcf := 0
  vouched := 0
  session := 0
  decoding := false
  payload := []
  crc := 0
  proved := 0
  frames := 0

/-- A group id that is FREE. -/
def Group.none : Group where
  gen := 0
  state := .free
  members := []
  held := []
  ended := false
  count := 0
  atEpoch := Option.none
  execLate := false
  reason := 0
  detail := 0
  begun := 0

/-- A LAKE context after reset (R154). -/
def LakeCtx.zero : LakeCtx where
  left := []
  lvalid := false
  elem := 0
  ratio := 0
  mode := 0
  qmax := 0
  flip := 0
  dir := 0
  wblk := 0
  bcol := 0
  hblk := 0
  brow := 0
  crcA := 0xFFFFFFFF
  crcB := 0xFFFFFFFF
  inCnt := 0
  outCnt := 0
  escCnt := 0

/-- A LAKE slot that has run no job. -/
def Slot.idle : Slot where
  state := .idle
  cause := 0
  ctx := .zero
  rastAddr := 0
  stride := 0
  codeAddr := 0
  codeLen := 0
  codePos := 0
  suspend := false
  cancel := false

/-- Default owner of a bank (R171): code of banks 0 to 15. -/
def defaultOwner (bank : Nat) : Nat := [1, 1, 2, 3, 3, 4, 5, 5, 6, 7, 8, 9, 10].getD bank 0

/-- A bank with its default owner. -/
def Bank.initial (bank : Nat) : Bank where
  owner := defaultOwner bank
  phase := .stable
  next := 0
  clear := false
  handovers := 0
  lastFail := 0
  used := decide (bank < 13)

/-- A crossing whose domain has not started. -/
def Crossing.initial : Crossing where
  state := .ready
  flushes := 0
  logAt := 0
  outAt := 0

/-- The fuse-loaded pads of a band (R35, R36). -/
def BandPins.fused : BandPins where
  goe := false
  gbb := false
  pven := false
  pdis := true

/-- A position that has shown nothing since boot: buffer content without a vouched time (R283). -/
def Content.blank : Content where
  session := 0
  srcf := 0
  vouched := none
  qual := false
  tag := none

/-- A tile position after boot. -/
def Pos.initial : Pos where
  sel := false
  shown := .blank
  pend := none
  pendAt := none
  pendHeld := false
  swapSlot := none
  bad := 0
  judged := none
  hatched := none
  expired := none
  age := 0xFFFFFF

/-- A band's scan before the raster starts. -/
def BandScan.initial : BandScan where
  state := 4
  preps := []
  sent := []
  hist := []
  prev := []
  gaps := 0
  shadowDue := 0
  shadowNext := 0
  goeDuty := 64
  isum := 0
  shortRec := 0
  recSkip := false
  passOn := false
  heads := []
  edges := []
  biasTok := false
  doneFrame := none

/-- A driver lane that has sent nothing. -/
def DrvLane.initial : DrvLane where
  tx := .start
  seq := 0
  part := []
  ptr := 0xFFF
  line := ⟨0, 0⟩

/-- A driver link that is OFF. -/
def DlkBand.initial : DlkBand where
  state := .off
  cause := 0
  rate := 0
  chain := 0
  retries := 0
  chainStep := false
  readyDue := false
  relDue := false
  retrain := false
  lanes := []
  strobe := none
  failRun := 0
  failSlot := 0
  crcRun := 0
  crcSlot := 0
  deliv := []
  regs := []

/-- A mechanism that has never failed. -/
def Mech.initial : Mech where
  lastClass := 0
  active := false
  bands := 0
  count := 0

/-- A driver that has never failed. -/
def DrvJudge.initial : DrvJudge where
  sm04Epoch := 0
  sm05Slot := 0
  sm14Epoch := 0

/-- A driver row that SM06 has never failed. -/
def M6.initial : M6 where
  bandEpoch := 0
  tileEpoch := 0
  hatch := false
  clean := 0

/-- A band rail set after fuse load. -/
def Rail.initial : Rail where
  state := .off
  lastDown := 0
  powerups := 0
  toCut := false
  fallDue := none
  due := false
  at_ := 0

/-- A crack loop before its first check. -/
def Loop.initial : Loop where
  fails := 0
  passes := 0
  learn := 0
  sum := (0, 1)
  bad := false

/-- An ADC input before its first conversion. -/
def AdcIn.initial : AdcIn where
  valid := false
  trig := false
  at_ := 0
  code := 0
  bad := false
  queued := false

/-- A band without a calibration run. -/
def CalBand.initial : CalBand where
  total := 0
  done := 0
  flat := 0
  next := 0
  redo := []
  wait := []
  acc := []
  taken := 0
  tmin := none
  tmax := none
  tsum := 0
  tcnt := 0
  tRunSum := 0
  tRunCnt := 0
  repeats := 0
  maskHit := false

/-- A node that has not answered a roll. -/
def Node.absent : Node where
  state := 0
  missed := 0
  reason := 0
  gen := 0
  bad := 0

/-! ## The state after reset -/

/-- Start-up before the pin-state fuses load. -/
def Boot.initial : Boot where
  op := .boot
  stage := .aonReset
  stageAt := 0
  stretch := 0
  attempts := 0
  vdramOk := false
  vlaneOk := false
  viocdOk := false
  fromP3 := false
  factoryOk := true
  customerOk := true
  blank := true
  fuseBands := 1
  factoryKey := none
  pending := none
  resetLogged := [.por]
  strapWarn := false
  unfit := false
  upSince := 0
  lockstepAt := none
  testMode := false
  gensLost := false

/-- The pins before the pin-state fuses load: FAULT_N low (R302), the reset line driven low. -/
def Pins.initial : Pins where
  fused := false
  pen0 := false
  pen1 := false
  pen2 := false
  pen3 := false
  pgood := false
  faultN := false
  rstDrive := true
  rstExt := false
  wakeN := false
  evtN := false
  evtPulses := 0
  evtUntil := 0
  padsAb18 := none
  padsCd18 := none
  vioAb := true
  held := []
  vresOnly := false
  pdisWeak := true
  bands := []

/-- PWR after power-on reset. -/
def Pwr.initial : Pwr where
  state := .p0
  entry := .idle
  target := 0
  step := 0
  abortCause := 0
  abortStep := 0
  retries := 0
  gylWake := false
  safetyWake := false
  reqWake := false
  timerWake := false
  edgeWake := false
  fwdActive := false
  aonWall := 0
  aonSlot := 20
  stepAt := 0
  p3At := 0
  p3Off := false
  waking := false
  stopped := 0
  retOp := 0
  retEpoch := 0
  retGyl := 0
  retImage := []
  retImageOk := false
  pmb := none
  pmbFree := 0
  pmbOut := []
  operSent := false
  vack := 0
  raiseDue := false
  goal := none
  hotRows := 0
  holdoffTo := 0
  slack := []
  slackLow := false

/-- An empty event log. -/
def EvLog.initial : EvLog where
  entries := []
  next := 1
  total := 0
  seq := 0
  at_ := 0
  run := 0
  tileAt := []

/-- The pixel link before it trains. -/
def Pxl.initial : Pxl where
  link := .disabled
  frate := 0
  brate := 0
  fmask := 0
  bmask := 0
  lcn := 0
  session := 0
  pendMask := 0
  pendLcn := 0
  downCause := 0
  lanes := []
  prevLcn := none
  srcHello := 0
  ftarget := 0
  btarget := 0
  lockWait := false
  stepRate := 0
  idle := false
  awaitRes := false
  tx := none
  tseq := 0
  txLanes := []
  txSeq := 0
  txLine := []
  fwdAsleep := false
  backAsleep := false
  sleepReq := false
  relock := false
  dropped := 0
  hadDrop := false
  prevAcc := 0
  digestDue := false
  prbs := false
  prbsDir := 0
  prbsPat := 0
  prbsTx := []
  testBits := 0
  lastKey := none
  needPtr := true
  rxWords := []
  rxLeft := 0

/-- The tile transaction layer before the first session. -/
def Trx.initial : Trx where
  tags := []
  groups := []
  incoming := []
  queue := []
  zeros := []
  copying := none
  run := none
  history := []
  lastSrcf := 0
  gapFrom := 0
  gapDone := false
  accepted := 0
  bseq := 0
  back := []
  lastSent := none
  sentHead := []

/-- The lake coder with no job. -/
def Lake.initial : Lake where
  slots := []
  current := none
  quantum := 0
  inst := []

/-- The frame store before the first scrub. -/
def Fst.initial : Fst where
  scrubAddr := 0
  passFrom := 0
  promoted := false
  selfRef := false
  dieIdle := false
  parityAt := []
  uncorrAt := []
  corr := []
  copying := []
  spared := []
  reloc := []
  held := []
  unusable := []

/-- The SRAM banks with their default owners. -/
def Bnk.initial : Bnk where
  banks := []
  sram := []
  poison := []
  scrub := 0
  hatchTo := none

/-- A port with no session. -/
def PortState.initial : PortState where
  gen := 0
  active := false
  level := 0
  transfer := none
  nonce := none
  auths := 0
  blocked := none
  queue := []
  cache := []
  lastReq := 0
  repLatch := []

/-- The management subsystem with no session. -/
def Mgt.initial : Mgt where
  can := .initial
  spi := .initial
  canBus := true
  canCfg := []
  canDue := none
  canTx := none
  spiOut := []
  sckAt := none
  stopped := false
  evtSent := 0
  events := []
  patchRun := none
  patchFb := none
  patchLoaded := false
  patchPend := false
  patchEver := false

/-- The scan before the raster starts. -/
def Scan.initial : Scan where
  running := false
  epoch := 0
  slot := 0
  slotNo := 0
  frameAt := 0
  frameP := 0
  inForce := []
  latch := none
  latchNext := none
  selNow := 0
  pend := none
  pendReg := none
  plates := []
  bands := []
  pos := []
  regAct := []
  urTimes := []
  tableBusy := []
  tableAct := []
  commits := 0
  hatchCnt := 0
  hatchFirst := 0
  lastSlack := 0x7FFF
  shadowPix := 0
  tbLast := []

/-- The ledger's working state. -/
def Wear.initial : Wear where
  queue := []
  requeue := []
  confirm := []
  sample := []
  updated := []
  zeroed := []
  shorts := []
  dead := []
  bmax := 0
  bexcess := 0
  dose := []
  headsat := []

/-- Readback and safety before the first failure. -/
def Safe.initial : Safe where
  mech := []
  dark := 0
  clearDue := 0
  unusable := 0
  drv := []
  m6 := []
  burst := []
  clean := []
  dirty := 0
  sm02At := none
  inj := none
  sealCrc := 0
  corrupt := false
  reload := false

/-- Panel power after fuse load. -/
def Pnl.initial : Pnl where
  rails := []
  path := none
  cutPath := []
  auto := 0
  loops := []
  step2 := false
  loop := 0
  r1 := 0
  checkOn := false
  vresLow := 0
  vresTest := false
  vresV := 0

/-- Calibration with no run. -/
def Cal.initial : Cal where
  adc := []
  conv := none
  sched := []
  therm := 0
  state := .idle
  s := 0
  extra := 0
  cfg := []
  bands := []
  staging := []
  s2sum := []
  tilemean := []

/-- Gylor standing alone. -/
def Gyl.initial : Gyl where
  state := 0
  gen := 0
  nodes := []
  lastSync := none
  syncAt := 0
  run := 0
  lost := 0
  gotSync := false
  selfBad := 0
  badSlots := 0
  gotFirst := false
  srcGood := 0
  srcBad := 0
  srcAt := 0
  srcK := 0
  ref := 3
  hadRef := false
  switching := false
  phase := 0
  held := none
  heldOk := false
  dropped := none
  cmt := none
  cmtParts := 0
  cmtReady := 0
  cmtFirst := 0
  cmtSent := false
  cmtRefused := none
  windowEnd := 0
  rollOpen := false
  rollGot := 0
  prepOpen := false
  behindAt := none
  reacted := false
  vec := []
  vecPend := none
  snap := none
  wakeRep := false
  wakeFrom := 0
  wakeWait := 0
  armed := false
  armedAt := 0
  answer := none
  rollDue := false
  realign := false
  waitSync := false
  waitFrom := 0
  firstAt := 0
  snapFrom := 0
  masterWait := false
  tx := []

/-- A blank journal device. -/
def Nv.blank : Nv where
  obj := []
  dom := []
  regions := []
  layout := none
  defect := []
  demura := []
  ages := []
  pieces := []
  doses := []
  dramRows := []
  gens := []
  logs := []
  mark := none
  staging := []
  asBuilt := none
  asGrids := []
  gylGen := 0
  gylVec := []
  gen := 0
  demPtr := 0

/-- The journal before its restore. -/
def Jrn.initial : Jrn where
  head := []
  ledAt := 0
  doseAt := 0
  nv := .blank
  base := .blank
  older := .blank
  cand := .blank
  since := 0
  buf := []
  used := 0
  total := 0
  erased := 0
  present := false
  compact := false
  again := false
  persist := false
  commitCal := false
  mapsDone := false
  redo := []
  held := false
  fresh := false
  retired := []

/-- The machine right after power-on reset: the always-on die has left reset, the fuses are still to be loaded, every
object reads its default with a blank journal (R381), DRAM lists nothing, and no command waits. -/
def State.reset : State where
  pending := []
  now := 0
  free := 0
  obj := []
  dom := []
  mem := []
  poison := []
  boot := .initial
  pins := .initial
  pwr := .initial
  evlog := .initial
  cross := []
  pxl := .initial
  trx := .initial
  lake := .initial
  fst := .initial
  bnk := .initial
  mgt := .initial
  scan := .initial
  dlk := []
  drvRec := []
  wear := .initial
  safe := .initial
  pnl := .initial
  cal := .initial
  gyl := .initial
  jrn := .initial

end Sys2Proof.Machine
end

