-- ==== Sys2Proof/Machine/Ops.lean ====
section
/-!
DEFINITION. The operations every block shares: the clock, objects and counters, free values, DRAM and SRAM words, the
event log, pending events, the journal's hand-over, back packets and class and region lookups.
-/

namespace Sys2Proof.Machine

/-! ## Time and free values -/

/-- The command reaches the block at local time `t`: time never runs back. -/
def State.at (s : State) (t : Nat) : State := { s with now := max s.now t }

/-- The free value taken next (log entry 3). -/
def freeOf (s : State) : Nat := Config.freeValue s.free

/-- Advance past a free value. -/
def tookFree (s : State) : State := { s with free := s.free + 1 }

/-! ## Objects -/

/-- The raw value of an object. -/
def oget (s : State) (k : Nat) : Nat := get objDefault s.obj k

/-- Set the raw value of an object. -/
def oset (k v : Nat) (s : State) : State := { s with obj := put objDefault s.obj k v }

/-- Increment a U32 counter, which saturates (R382). -/
def cnt (k : Nat) (s : State) : State := oset k (satInc 0xFFFFFFFF (oget s k)) s

/-- Add to a U32 counter, which saturates. -/
def cntBy (k n : Nat) (s : State) : State := oset k (satAdd 0xFFFFFFFF (oget s k) n) s

/-- A BOOL object. -/
def oflag (s : State) (k : Nat) : Bool := decide (oget s k ≠ 0)

/-- Apply an operation when a condition holds. -/
def whenDo (b : Bool) (f : State → State) (s : State) : State := if b then f s else s

/-- Apply an operation for each element. -/
def each {α : Type} (xs : List α) (f : α → State → State) (s : State) : State := xs.foldl (fun a x => f x a) s

/-! ## DOM objects -/

/-- A byte list of a repeated big-endian halfword. -/
def be16s (vs : List Nat) : List Byte := vs.flatMap (toBE 2)

/-- What a DOM object that has not been written reads as (the tables of chapters 7, 10, 12 and 13). -/
def domDefault (k : Nat) : List Byte :=
  if k = Ob.PPL_ICURVE ∨ k = Ob.PPL_ICURVE + 1 ∨ k = Ob.PPL_ICURVE + 2 then
    be16s ((List.range 1024).map (fun c => 64 * c + c / 16))
  else if k = Ob.PPL_LIN ∨ k = Ob.PPL_LIN + 1 ∨ k = Ob.PPL_LIN + 2 then be16s ((List.range 1025).map (fun i => min (64 * i) 65535))
  else if k = Ob.CMP_AGEGAIN ∨ k = Ob.CMP_AGEGAIN + 1 ∨ k = Ob.CMP_AGEGAIN + 2 then be16s (List.replicate 1025 16384)
  else if k = Ob.PRC_TABLE ∨ k = Ob.PRC_TABLE + 1 ∨ k = Ob.PRC_TABLE + 2 then List.replicate 4225 0
  else if k = Ob.MDL_STRESS ∨ k = Ob.MDL_STRESS + 1 ∨ k = Ob.MDL_STRESS + 2 then
    (List.range 65).map (fun i => BitVec.ofNat 8 (3 * i))
  else if k = Ob.MDL_EMIT ∨ k = Ob.MDL_EMIT + 1 ∨ k = Ob.MDL_EMIT + 2 then
    (List.range 65).map (fun i => BitVec.ofNat 8 (min (4 * i) 255))
  else if k = Ob.PNL_IPIX ∨ k = Ob.PNL_IPIX + 1 ∨ k = Ob.PNL_IPIX + 2 then List.replicate 130 0
  else if k = Ob.CAL_EXPECT ∨ k = Ob.CAL_EXPECT + 1 ∨ k = Ob.CAL_EXPECT + 2 then List.replicate 130 0
  else if k = Ob.CAL_THMTAB then List.replicate 66 0
  else []

/-- The bytes of a DOM object held on die. -/
def dget (s : State) (k : Nat) : List Byte := get domDefault s.dom k

/-- Write a DOM object held on die. -/
def dset (k : Nat) (bs : List Byte) (s : State) : State := { s with dom := put domDefault s.dom k bs }

/-! ## DRAM (R155 to R162) -/

/-- The address range that exists (R155). -/
def dramTop : Nat := 0x80000000

/-- What a DRAM byte that is not listed reads as: zero, written during BOOT (R159). -/
def blankByte (_ : Nat) : Byte := 0

/-- The canonical form of DRAM: addresses strictly rise and no listed byte is zero. -/
def Memory.wf (m : List Host.Cell) : Bool := canon blankByte m

/-- Read one byte of DRAM. -/
def memByte (s : State) (a : Nat) : Byte := get blankByte s.mem a

/-- `n` bytes from address `a`. -/
def memBytes (s : State) (a n : Nat) : List Byte := (List.range n).map (fun i => memByte s (a + i))

/-- The `n`-byte value at `a`, most significant byte first (R157). -/
def memBE (s : State) (a n : Nat) : Nat := ofBE (memBytes s a n)

/-- A stretch of bytes as entries, zeros left out. -/
def cellsOf (a : Nat) (bs : List Byte) : List Host.Cell :=
  (bs.zipIdx.filter (fun p => decide (p.1 ≠ 0))).map (fun p => (a + p.2, p.1))

/-- Replace the bytes of `[a, a + n)`. -/
def memSplice (m : List Host.Cell) (a : Nat) (bs : List Byte) : List Host.Cell :=
  splice m a (a + bs.length) (cellsOf a bs)

/-- Whether the 64-bit word of an address holds the poison. -/
def poisoned (s : State) (a : Nat) : Bool := (look s.poison (a / 8)).getD false

/-- The words a stretch covers in full lose their poison (R161). -/
def unpoison (p : SMap Bool) (a n : Nat) : SMap Bool :=
  splice p ((a + 7) / 8) (max ((a + 7) / 8) ((a + n) / 8)) []

/-- Write a run of bytes whose words are written whole. -/
def memRun (a : Nat) (bs : List Byte) (s : State) : State :=
  { s with mem := memSplice s.mem a bs, poison := unpoison s.poison a bs.length }

/-- Count one occurrence of a source in every enabled counter that selects it (R492). -/
def evc (code : Nat) (s : State) : State :=
  each (within s.obj Ob.EVC_SEL (Ob.EVC_SEL + 32)) (fun e st =>
    let n := e.1 - Ob.EVC_SEL
    if e.2 = code ∧ bit (oget st Ob.EVC_ENABLE) n then
      oset (Ob.EVC_VAL + n) (satInc (2 ^ 48 - 1) (oget st (Ob.EVC_VAL + n))) st
    else st) s

/-- Reads of poisoned words report each of them as uncorrectable (R161). -/
def readPoison (words : List Nat) (s : State) : State :=
  each words (fun w st => evc 0xA1 (oset Ob.FST_ECC_LAST (8 * w) (cnt Ob.FST_ECC_UNCORR st))) s

/-- The poisoned words of the addresses from `lo` up to `hi`. -/
def poisonIn (s : State) (lo hi : Nat) : List Nat := (within s.poison (lo / 8) ((hi + 7) / 8)).map (·.1)

/-- Write part of a word: a read, a merge and a write back. A poisoned word keeps its poison and takes nothing (R161). -/
def memPart (a : Nat) (bs : List Byte) (s : State) : State :=
  if poisoned s a then readPoison [a / 8] s
  else { s with mem := memSplice s.mem a bs }

/-- A halfword, most significant byte first. -/
def mem16 (a v : Nat) (s : State) : State := memPart a (toBE 2 v) s

/-- Where the elements of the panel-shaped regions lie (R157). -/
def bufWordAt (b : Bool) (x y : Nat) : Nat := (if b then 0x08000000 else 0) + 30720 * y + 4 * x
def plateWordAt (n x y : Nat) : Nat := 0x10000000 + n * 0x08000000 + 30720 * y + 4 * x
def demuraAt (s y : Nat) : Nat := 0x58000000 + 46080 * y + 2 * s
def biasAt (s y : Nat) : Nat := 0x40000000 + 46080 * y + 2 * s
def ageAt (s y : Nat) : Nat := 0x4C000000 + 46080 * y + 2 * s
def defectAt (s y : Nat) : Nat := 0x6C000000 + 11520 * y + s / 2
def gridAt (set i : Nat) : Nat := 0x70000000 + set * 0x20000 + i

/-- The defect and spare map entry of a subpixel (R157, R266). -/
def defectOf (st : State) (s y : Nat) : Nat :=
  let b := (memByte st (defectAt s y)).toNat
  if s % 2 = 0 then b / 16 else b % 16

/-- Write a defect and spare map entry. -/
def setDefect (s y v : Nat) (st : State) : State :=
  let b := (memByte st (defectAt s y)).toNat
  memPart (defectAt s y) [BitVec.ofNat 8 (if s % 2 = 0 then 16 * v + b % 16 else b / 16 * 16 + v)] st

/-! ## Pending events -/

/-- EVT_N in LATCHED mode is low while a masked source is pending (R375). -/
def refreshEvt (s : State) : State :=
  let low := decide (oget s Ob.WNP_EVTPEND &&& oget s Ob.WNP_EVTMASK ≠ 0)
  if oget s Ob.WNP_EVTMODE = 0 then { s with pins := { s.pins with evtN := low } } else s

/-- The EVENT frame of a change of the pending bits (R377). -/
def evtFrame (s : State) : Resp where
  opcode := 0xC0
  tag := 0
  gen := s.mgt.can.gen
  index := 0
  sub := 0
  data := toBE 2 (oget s Ob.WNP_EVTPEND) ++ toBE 1 (if s.evlog.next = 1 then 64 else s.evlog.next - 1)
  outst := false
  queued := s.now
  canObj := false

/-- Set a pending bit (R375). The bit's change from 0 to 1 sends one EVENT frame on CAN (R377). -/
def pendEvt (b : Nat) (s : State) : State :=
  let old := oget s Ob.WNP_EVTPEND
  let s1 := oset Ob.WNP_EVTPEND (setBit old b) s
  let send := !bit old b && bit (oget s Ob.WNP_EVTMASK) b && s.mgt.can.active && oflag s Ob.WNP_EVTCAN
    && !bit s.mgt.evtSent b
  let s2 := if send then
      { s1 with mgt := { s1.mgt with events := s1.mgt.events ++ [evtFrame s1], evtSent := setBit s1.mgt.evtSent b } }
    else s1
  refreshEvt s2

/-- A scan event (R215): its counter, and a pulse of EVT_N in PULSE mode when it is the one selected (R375). -/
def scanEvent (kind band code : Nat) (s : State) : State :=
  let sel := oget s Ob.WNP_EVTPULSE
  let hit := decide (oget s Ob.WNP_EVTMODE = 1 ∧ sel / 16 = kind ∧ (kind = 0 ∨ kind = 5 ∨ kind = 6 ∨ sel % 4 = band))
  let s1 := evc code s
  if hit ∧ s1.pins.evtUntil ≤ s1.now then
    { s1 with pins := { s1.pins with evtPulses := s1.pins.evtPulses + 1, evtUntil := s1.now + 3000 } }
  else s1

/-! ## The journal's hand-over -/

/-- Hand a record to JRN, which holds it in its write buffer until it is programmed (R479). -/
def jrnAdd (type flags arg k v : Nat) (data : List Byte) (s : State) : State :=
  let seq := oget s Ob.JRN_SEQ
  let r : JRec := { type := type, flags := flags, arg := arg, seq := seq, at_ := s.now, key := k, value := v, data := data }
  { oset Ob.JRN_SEQ ((seq + 1) % 2 ^ 32) s with jrn := { s.jrn with buf := s.jrn.buf ++ [r] } }

/-- An OBJECT record of a journaled object (R381, R478). -/
def jrnObj (k : Nat) (s : State) : State := jrnAdd 1 0 0 k (oget s k) [] s

/-- An OBJECT record of a journaled DOM. -/
def jrnDom (k : Nat) (s : State) : State := jrnAdd 1 1 0 k 0 (dget s k) s

/-- The state vector as a record carries it: five bytes for each kind, its argument plus 1 (R420). -/
def vecBytes (vec : SMap Nat) : List Byte := [1, 2, 3, 4].flatMap (fun k => toBE 5 (get (fun _ => 0) vec k))

/-- A STATUS record: counters, SAF_LAST, and the Gylor generation and state vector given (R420, R478). -/
def jrnStatusOf (gen : Nat) (vec : SMap Nat) (s : State) : State := jrnAdd 0x0A 0 0 gen 0 (vecBytes vec) s

/-- A STATUS record with the applied generation. -/
def jrnStatus (s : State) : State := jrnStatusOf s.gyl.gen s.gyl.vec s

/-! ## The event log -/

/-- An entry of the event log as DEV_EVLOG shows it (R389). -/
def EvEntry.word (e : EvEntry) : Nat :=
  e.seq * 2 ^ 48 + e.sev * 2 ^ 44 + e.code * 2 ^ 36 + e.bands * 2 ^ 32 + e.data

/-- The subindex before another in the ring of 64. -/
def evBefore (i : Nat) : Nat := if i = 1 then 64 else i - 1

/-- Entries of one instant stand in ascending order of CODE (R390): the entry at subindex `i` changes places with those
before it, at most `n`, whose code is higher; SEQ stays with the subindex. -/
def settleEv : Nat → Nat → SMap EvEntry → SMap EvEntry
  | 0, _, l => l
  | n + 1, i, l =>
    match look l i, look l (evBefore i) with
    | some e, some p =>
      if e.code < p.code then
        settleEv n (evBefore i) (ins (ins l i { p with seq := e.seq }) (evBefore i) { e with seq := p.seq })
      else l
    | _, _ => l

/-- Write an entry at DEV_EVNEXT, advance it, set bit 0 of WNP_EVTPEND and journal the entry (R389, R390). -/
def logEv (code sev bands data : Nat) (s : State) : State :=
  let seq := s.evlog.seq % 65535 + 1
  let i := s.evlog.next
  let same := if s.evlog.at_ = s.now then s.evlog.run else 0
  let e : EvEntry := { seq := seq, sev := sev, code := code, bands := bands, data := data % 2 ^ 32, epoch := s.scan.epoch }
  let l : EvLog := { s.evlog with
    entries := settleEv (min same 63) i (ins s.evlog.entries i e)
    next := i % 64 + 1
    total := satInc 0xFFFFFFFF s.evlog.total
    seq := seq
    at_ := s.now
    run := same + 1 }
  let s1 := jrnAdd 4 0 0 i e.word (toBE 6 e.epoch ++ toBE 4 l.total) { s with evlog := l }
  pendEvt 0 (evc 0xDE s1)

/-! ## Back packets -/

/-- Append a ready back packet. -/
def pushBack (p : BackPkt) (s : State) : State := { s with trx := { s.trx with back := s.trx.back ++ [p] } }

/-- An EVENT packet (R96). -/
def backEvent (code w1 w2 : Nat) (s : State) : State :=
  evc 0x3F (pushBack (.mk .event 0 0 0 0 (code * 4096) w1 w2 []) s)

/-! ## Panel shape and regions -/

/-- The raster object in force (R206). -/
def rget (s : State) (k : Nat) : Nat := get objDefault s.scan.inForce k

/-- The number of bands in use (R201). -/
def bandCount (s : State) : Nat := if oget s Ob.SCAN_BANDS = 0 then 1 else oget s Ob.SCAN_BANDS

/-- Panel width, height and band height in force. -/
def panelW (s : State) : Nat := rget s Ob.SCAN_WIDTH
def panelH (s : State) : Nat := rget s Ob.SCAN_HEIGHT
def bandH (s : State) : Nat := panelH s / bandCount s
def vtotal (s : State) : Nat := rget s Ob.SCAN_VTOTAL

/-- Tile columns and rows of the panel (R81). -/
def tileCols (s : State) : Nat := ceilDiv (panelW s) 64
def tileRows (s : State) : Nat := ceilDiv (panelH s) 32

/-- The key of a tile position. -/
def posKey (tx ty : Nat) : Nat := 120 * ty + tx

/-- The band of a panel row. -/
def bandOf (s : State) (y : Nat) : Nat := if bandH s = 0 then 0 else y / bandH s

/-- The bands that a tile row touches within the panel. -/
def bandsOfTileRow (s : State) (ty : Nat) : List Nat :=
  (List.range (bandCount s)).filter (fun b =>
    decide (b * bandH s < 32 * ty + 32 ∧ 32 * ty < (b + 1) * bandH s ∧ 32 * ty < panelH s))

/-- The class and maximum age of a position under a region table (R278). -/
def classIn (regions : SMap Nat) (defClass defAge tx ty : Nat) : Nat × Nat :=
  let cover := (regions.map (·.2)).filter (fun r => bit r 63 && decide (field r 40 7 ≤ tx) && decide (tx ≤ field r 33 7)
    && decide (field r 25 8 ≤ ty) && decide (ty ≤ field r 17 8))
  if cover.isEmpty then (defClass, defAge)
  else
    let c := cover.foldl (fun m r => max m (field r 61 2)) 0
    (c, (cover.filter (fun r => field r 61 2 = c)).foldl (fun m r => min m (field r 47 14)) 16383)

/-- The class and maximum age of a position in the active table, with the defaults of FRS_DEFAULT. -/
def classNow (s : State) (tx ty : Nat) : Nat × Nat :=
  classIn s.scan.regAct (oget s Ob.FRS_DEFCLASS) (oget s Ob.FRS_MAXAGE) tx ty

/-- The class and maximum age latched for the current frame (R276). -/
def classLatched (s : State) (tx ty : Nat) : Nat × Nat :=
  match s.scan.latch with
  | some l => classIn l.regions (get objDefault l.obj Ob.FRS_DEFCLASS) (get objDefault l.obj Ob.FRS_MAXAGE) tx ty
  | none => classNow s tx ty

/-- The class that a position has for what is shown: Plain while a plate is shown (R226, R273). -/
def shownClass (s : State) (tx ty : Nat) : Nat := if s.scan.selNow ≠ 0 then 0 else (classLatched s tx ty).1

/-- The panel pixels of a position. -/
def posPixels (s : State) (tx ty : Nat) : Nat :=
  (min (64 * tx + 64) (panelW s) - 64 * tx) * (min (32 * ty + 32) (panelH s) - 32 * ty)

/-- The positions of the panel. -/
def allPos (s : State) : List (Nat × Nat) :=
  (List.range (tileRows s)).flatMap (fun ty => (List.range (tileCols s)).map (fun tx => (tx, ty)))

/-- The vermilion pixel count of a region table (R280). -/
def vermPixels (s : State) (regions : SMap Nat) : Nat :=
  if regions.all (fun e => !bit e.2 63 || decide (field e.2 61 2 ≠ 2)) ∧ oget s Ob.FRS_DEFCLASS ≠ 2 then 0
  else (allPos s).foldl (fun n p =>
    if (classIn regions (oget s Ob.FRS_DEFCLASS) (oget s Ob.FRS_MAXAGE) p.1 p.2).1 = 2 then n + posPixels s p.1 p.2
    else n) 0

/-- The limit on the vermilion pixel count at the configured rate (R280). -/
def vermCap (s : State) : Nat := 8 * 125000000 * 1000 / oget s Ob.SCAN_RATE

/-! ## Lookups of the tables of state -/

def posOf (s : State) (p : Nat) : Pos := get (fun _ => Pos.initial) s.scan.pos p
def setPos (p : Nat) (v : Pos) (s : State) : State :=
  { s with scan := { s.scan with pos := put (fun _ => Pos.initial) s.scan.pos p v } }
def bandScan (s : State) (b : Nat) : BandScan := get (fun _ => BandScan.initial) s.scan.bands b
def setBandScan (b : Nat) (v : BandScan) (s : State) : State :=
  { s with scan := { s.scan with bands := put (fun _ => BandScan.initial) s.scan.bands b v } }
def dlkOf (s : State) (b : Nat) : DlkBand := get (fun _ => DlkBand.initial) s.dlk b
def setDlk (b : Nat) (v : DlkBand) (s : State) : State := { s with dlk := put (fun _ => DlkBand.initial) s.dlk b v }
def railOf (s : State) (b : Nat) : Rail := get (fun _ => Rail.initial) s.pnl.rails b
def setRail (b : Nat) (v : Rail) (s : State) : State :=
  { s with pnl := { s.pnl with rails := put (fun _ => Rail.initial) s.pnl.rails b v } }
def padsOf (s : State) (b : Nat) : BandPins := get (fun _ => BandPins.fused) s.pins.bands b
def setPads (b : Nat) (v : BandPins) (s : State) : State :=
  { s with pins := { s.pins with bands := put (fun _ => BandPins.fused) s.pins.bands b v } }
def mechOf (s : State) (n : Nat) : Mech := get (fun _ => Mech.initial) s.safe.mech n
def setMech (n : Nat) (v : Mech) (s : State) : State :=
  { s with safe := { s.safe with mech := put (fun _ => Mech.initial) s.safe.mech n v } }
def tagOf (s : State) (t : Nat) : Tag := get (fun _ => Tag.none) s.trx.tags t
def setTag (t : Nat) (v : Tag) (s : State) : State :=
  { s with trx := { s.trx with tags := put (fun _ => Tag.none) s.trx.tags t v } }
def groupOf (s : State) (g : Nat) : Group := get (fun _ => Group.none) s.trx.groups g
def setGroup (g : Nat) (v : Group) (s : State) : State :=
  { s with trx := { s.trx with groups := put (fun _ => Group.none) s.trx.groups g v } }
def laneOf (s : State) (n : Nat) : Lane := get (fun _ => Lane.idle) s.pxl.lanes n
def setLane (n : Nat) (v : Lane) (s : State) : State :=
  { s with pxl := { s.pxl with lanes := put (fun _ => Lane.idle) s.pxl.lanes n v } }
def slotOf (s : State) (n : Nat) : Slot := get (fun _ => Slot.idle) s.lake.slots n
def setSlot (n : Nat) (v : Slot) (s : State) : State :=
  { s with lake := { s.lake with slots := put (fun _ => Slot.idle) s.lake.slots n v } }
def bankOf (s : State) (n : Nat) : Bank := get Bank.initial s.bnk.banks n
def setBank (n : Nat) (v : Bank) (s : State) : State :=
  { s with bnk := { s.bnk with banks := put Bank.initial s.bnk.banks n v } }
def crossOf (s : State) (n : Nat) : Crossing := get (fun _ => Crossing.initial) s.cross n
/-- The crossings of a domain other than a forward lane's are READY. -/
def crossUp (s : State) (n : Nat) : Bool := decide ((crossOf s n).state = .ready)
def setCross (n : Nat) (v : Crossing) (s : State) : State :=
  { s with cross := put (fun _ => Crossing.initial) s.cross n v }
def adcOf (s : State) (n : Nat) : AdcIn := get (fun _ => AdcIn.initial) s.cal.adc n
def setAdc (n : Nat) (v : AdcIn) (s : State) : State :=
  { s with cal := { s.cal with adc := put (fun _ => AdcIn.initial) s.cal.adc n v } }
def calBandOf (s : State) (b : Nat) : CalBand := get (fun _ => CalBand.initial) s.cal.bands b
def setCalBand (b : Nat) (v : CalBand) (s : State) : State :=
  { s with cal := { s.cal with bands := put (fun _ => CalBand.initial) s.cal.bands b v } }
def nodeOf (s : State) (n : Nat) : Node := get (fun _ => Node.absent) s.gyl.nodes n
def setNode (n : Nat) (v : Node) (s : State) : State :=
  { s with gyl := { s.gyl with nodes := put (fun _ => Node.absent) s.gyl.nodes n v } }
def loopOf (s : State) (n : Nat) : Loop := get (fun _ => Loop.initial) s.pnl.loops n
def setLoop (n : Nat) (v : Loop) (s : State) : State :=
  { s with pnl := { s.pnl with loops := put (fun _ => Loop.initial) s.pnl.loops n v } }

/-- Whether a bank is away from its default owner (R171, R172). -/
def bankAway (s : State) (n : Nat) : Bool :=
  decide ((bankOf s n).owner ≠ defaultOwner n) || decide ((bankOf s n).phase ≠ .stable)

/-- The code of an operating state in DEV_STATE (R387). -/
def OpState.code : OpState → Nat
  | .boot => 0 | .setup => 1 | .run => 2 | .safeDark => 3

end Sys2Proof.Machine
end

