-- ==== Sys2Proof/Machine/DrvTx.lean ====
section
/-!
DEFINITION. The driver lanes' transmitters (R232 to R237, R241 to R243, R254, R256): packets, blocks, training messages, and
the hold and release of a band's link.
-/

namespace Sys2Proof.Machine

/-! ## One lane (R233, R235) -/

/-- A lane sends one block behind what it has put on the line: its marker carries DRV (R233). -/
def DrvLane.block (drv type ptr : Nat) (payload : List (BitVec 32)) (l : DrvLane) : DrvLane :=
  let a := LaneTx.send (markerWord 0x3AD4F1 drv l.seq type ptr) payload (l.tx, l.line)
  { l with tx := a.1, line := a.2, seq := (l.seq + 1) % 256 }

/-- Every complete block of 128 words leaves; the next one starts without a packet boundary. -/
def DrvLane.drain (drv : Nat) : Nat → DrvLane → DrvLane
  | 0, l => l
  | n + 1, l =>
    if l.part.length < 128 then l
    else DrvLane.drain drv n { (l.block drv 0 l.ptr (l.part.take 128)) with part := l.part.drop 128, ptr := 0xFFF }

/-- The words of a packet follow those sent before: HDRPTR of a block names the first packet that starts in it (R61). -/
def DrvLane.packet (drv : Nat) (ws : List (BitVec 32)) (l : DrvLane) : DrvLane :=
  DrvLane.drain drv (ws.length / 128 + 1)
    { l with line := ⟨0, 0⟩, part := l.part ++ ws, ptr := if l.ptr = 0xFFF then l.part.length else l.ptr }

/-- A TRAIN block: the block in progress is filled first (R64). -/
def DrvLane.train (drv : Nat) (payload : List (BitVec 32)) (l : DrvLane) : DrvLane :=
  let l0 : DrvLane := { l with line := ⟨0, 0⟩ }
  let l1 := if l0.part.isEmpty then l0
    else { (l0.block drv 0 l0.ptr (l0.part ++ List.replicate (128 - l0.part.length) 0)) with part := [], ptr := 0xFFF }
  l1.block drv 1 0xFFF payload

/-- Fields of `w` bits packed from the first payload bit into words, the last one padded with 0 (R238). -/
def packWords (w : Nat) (xs : List Nat) : List (BitVec 32) :=
  let n := ceilDiv (w * xs.length) 32
  slotWords n ((xs.foldl (fun a x => a * 2 ^ w + x % 2 ^ w) 0) * 2 ^ (32 * n - w * xs.length))

/-- A packet: its header, and a payload with its CRC-32 over header and payload (R235). -/
def dlkPacket (header : Nat) (payload : List (BitVec 32)) : List (BitVec 32) :=
  let ws := slotWords 2 header ++ payload
  if payload.isEmpty then ws else ws ++ [BitVec.ofNat 32 (crc32 (ws.flatMap (fun w => toBE 4 w.toNat)))]

/-- A training message: TTYPE, DRV and the rate codes, with its TCRC (R254). -/
def dlkTrainWord (ttype drv rate chain : Nat) : Nat :=
  let body := (ttype * 2 ^ 12 + drv % 256 * 2 ^ 4 + rate * 2 ^ 2 + chain) * 2 ^ 40
  body * 2 ^ 8 + crc8 (toBE 7 body)

/-! ## The lanes of a band -/

/-- A driver lane of a band. -/
def drvLane (d : DlkBand) (j : Nat) : DrvLane := get (fun _ => DrvLane.initial) d.lanes j

/-- The lanes of a band take a step each. -/
def eachDrv (b : Nat) (f : Nat → DrvLane → DrvLane) (s : State) : State :=
  let d := dlkOf s b
  setDlk b { d with lanes := (List.range (rget s Ob.DLK_NDRV)).foldl (fun m j => ins m j (f j (drvLane d j))) d.lanes } s

/-- A packet for each driver goes out on its lane. -/
def sendDrv (b : Nat) (pk : Nat → List (BitVec 32)) (s : State) : State := eachDrv b (fun j => DrvLane.packet j (pk j)) s

/-- A training message goes out on every lane in a TRAIN block of 64 copies (R64, R254). -/
def trainDrv (b ttype rate chain : Nat) (s : State) : State :=
  eachDrv b (fun j => DrvLane.train j (List.replicate 64 (slotWords 2 (dlkTrainWord ttype j rate chain))).flatten) s

/-- The STROBE of a slot leaves: its last bit is the start of the slot (R237). -/
def sendStrobe (b : Nat) (s : State) : State :=
  match (dlkOf s b).strobe with
  | some h => sendDrv b (fun _ => dlkPacket h []) (setDlk b { dlkOf s b with strobe := none } s)
  | none => s

/-! ## Training, hold and release (R242, R254, R256) -/

/-- A band's training starts from DETECT: HELLO, lanes and chain at 1.25 Gbit/s, what the drivers hold unknown. -/
def startTraining (b : Nat) (retry : Bool) (s : State) : State :=
  let d := dlkOf s b
  let s1 := { s with pnl := { s.pnl with auto := clearBit s.pnl.auto (b + 8) } }
  trainDrv b 1 0 0 (setDlk b { DlkBand.initial with
    state := .detect, lanes := d.lanes, retries := if retry then satInc 0xFFFF d.retries else d.retries } s1)

/-- HOLDBLACK on every driver lane of a band (R38, R242, R316), with the link released at the next frame start or later. A link
that was training is trained again once it is released; a FAILED one stays so. -/
def holdBlack (b : Nat) (release : Bool) (s : State) : State :=
  let d := dlkOf s b
  let send (st : State) : State := sendDrv b (fun _ => dlkPacket (dlkHeader 4 0) []) st
  match d.state with
  | .off => s
  | .failed => send s
  | .hold => setDlk b { d with relDue := release } s
  | .ready | .run => send (setDlk b { d with state := .hold, relDue := release, strobe := none } s)
  | .detect | .negotiate | .step | .config =>
    send (setDlk b { d with state := .hold, relDue := release, retrain := true, readyDue := false, strobe := none } s)

/-- A link in hold is released at the next frame start. -/
def releaseLink (b : Nat) (s : State) : State :=
  let d := dlkOf s b
  if d.state = .hold then setDlk b { d with relDue := true } s else s

/-- A lampblack path runs on the band. -/
def onPath (s : State) (b : Nat) : Bool := s.pnl.path.isSome || (look s.pnl.cutPath b).isSome

end Sys2Proof.Machine
end

