-- ==== Sys2Proof/Machine/Held.lean ====
section
/-!
DEFINITION. Stores into DRAM word by word (R161), and the writes that FST holds while a panel line lies between its pipeline
fetch and its shadow checker fetch (R180).
-/

namespace Sys2Proof.Machine

/-- The panel row of a band row. -/
def panelRow (s : State) (b r : Nat) : Nat := b * bandH s + r

/-- Write a stretch of DRAM as the words it covers: a word covered in part is read, merged and written back (R161). -/
def memStore (a : Nat) (bs : List Byte) (s : State) : State :=
  let head := min bs.length ((8 - a % 8) % 8)
  let mid := (bs.length - head) / 8 * 8
  let s1 := if head = 0 then s else memPart a (bs.take head) s
  let s2 := if mid = 0 then s1 else memRun (a + head) ((bs.drop head).take mid) s1
  if bs.length = head + mid then s2 else memPart (a + head + mid) (bs.drop (head + mid)) s2

/-- The lines that lie between the two fetches: prepared and not sent, or sent and neither checked nor 16 row times old. -/
def openLines (s : State) : List Nat :=
  (List.range (bandCount s)).flatMap (fun b =>
    let bs := bandScan s b
    bs.preps.map (fun p => panelRow s b p.row) ++
    (bs.hist.filter (fun x => decide (s.scan.slotNo < x.fetched + 16))).map (fun x => panelRow s b x.row))

/-- Word `w` of the store feeds panel line `y`: a word of the demura map, of the age plane, or of a grid set in use. -/
def feedsLine (s : State) (w y : Nat) : Bool :=
  let a := 8 * w
  let node (n : Nat) : Bool := decide (32 * (n / 121) ≤ y + 32) && decide (y < 32 * (n / 121) + 32)
  if 0x4C000000 ≤ a ∧ a < 0x58000000 then decide ((a - 0x4C000000) / 46080 = y)
  else if 0x58000000 ≤ a ∧ a < 0x64000000 then decide ((a - 0x58000000) / 46080 = y)
  else if 0x70000000 ≤ a ∧ a < 0x70100000 then
    let o := (a - 0x70000000) % 0x20000
    decide ((a - 0x70000000) / 0x20000 < oget s Ob.CMP_NSETS) && (node (o / 6) || node ((o + 7) / 6))
  else false

/-- A write to the word is held. -/
def holdsWord (s : State) (w : Nat) : Bool := (openLines s).any (feedsLine s w)

/-- A stretch cut at word boundaries, `n` pieces at most. -/
def wordRuns : Nat → Nat → List Byte → List (Nat × List Byte)
  | 0, _, _ => []
  | n + 1, a, bs =>
    if bs.isEmpty then [] else (a, bs.take (8 - a % 8)) :: wordRuns n (a / 8 * 8 + 8) (bs.drop (8 - a % 8))

/-- A write to the maps: each word is stored, or held behind those held before it (R180). -/
def mapStore (a : Nat) (bs : List Byte) (s : State) : State :=
  if (openLines s).isEmpty ∧ s.fst.held.isEmpty then memStore a bs s
  else each (wordRuns bs.length a bs) (fun e st =>
    if holdsWord st (e.1 / 8) ∨ st.fst.held.any (fun h => decide (h.1 / 8 = e.1 / 8)) then
      { st with fst := { st.fst with held := st.fst.held ++ [e] } }
    else memStore e.1 e.2 st) s

/-- A halfword of the maps, most significant byte first. -/
def map16 (a v : Nat) (s : State) : State := mapStore a (toBE 2 v) s

/-- The writes whose lines have been checked are made, in their order (R180). -/
def releaseWrites (s : State) : State :=
  each s.fst.held (fun e st =>
    if holdsWord st (e.1 / 8) then { st with fst := { st.fst with held := st.fst.held ++ [e] } } else memStore e.1 e.2 st)
    { s with fst := { s.fst with held := [] } }

/-- A byte of the maps as the blocks that write them see it: a held write stands for the byte (log entry 84). -/
def heldByte (s : State) (a : Nat) : Byte :=
  s.fst.held.foldl (fun v e => if e.1 ≤ a ∧ a < e.1 + e.2.length then e.2.getD (a - e.1) v else v) (memByte s a)

/-- The halfword at `a` as those blocks see it. -/
def held16 (s : State) (a : Nat) : Nat := ofBE [heldByte s a, heldByte s (a + 1)]

end Sys2Proof.Machine
end

