-- ==== Sys2Proof/Machine/Pads.lean ====
section
/-!
DEFINITION. What every ball presents (R33 to R42): before fuse load, as driven or fuse-loaded, latched, and in P3.
-/

namespace Sys2Proof.Machine

/-- The pads that the always-on die latches, by the groups of PWR_PADREL: 0 management, 1 panel, 2 always-on (R40). -/
def Signal.group : Signal → Option Nat
  | .canTx | .canRx | .sck | .sdi | .csN | .sdo | .qck | .qcsN | .qd _ | .pmbScl | .pmbSda | .pmbAlertN | .evtN => some 0
  | .gst b | .gck b _ | .goe b | .gbb b | .pven b => if b < 2 then some 1 else none
  | .faultN => some 2
  | _ => none

/-- The pads of the groups. -/
def latchable : List Signal :=
  [.canTx, .canRx, .sck, .sdi, .csN, .sdo, .qck, .qcsN] ++ (List.range 4).map .qd ++ [.pmbScl, .pmbSda, .pmbAlertN, .evtN] ++
  [0, 1].flatMap (fun b => [.gst b] ++ (List.range 4).map (.gck b) ++ [.goe b, .gbb b, .pven b]) ++ [.faultN]

/-- The pad supply of a signal is present (R32, R37, R42): VLANE comes with PEN1 and VIO_CD with PEN2. -/
def padSupplied (s : State) : Signal → Bool
  | .fwdLane _ | .backLane _ | .refclk | .drvLane _ _ | .sense _ => s.pins.pen1
  | .gst b | .gck b _ | .goe b | .gbb b | .pven b => if b < 2 then s.pins.vioAb else s.pins.pen2
  | .canTx | .canRx | .sck | .sdi | .csN | .sdo | .qck | .qcsN | .qd _ | .pmbScl | .pmbSda | .pmbAlertN | .evtN
  | .crystal | .crk1 _ | .crk2 _ | .thm _ => s.pins.vioAb
  | _ => true

/-- A signal on a lane's supply. -/
def Signal.onLane : Signal → Bool
  | .fwdLane _ | .backLane _ | .refclk | .drvLane _ _ | .sense _ => true
  | _ => false

/-- Before fuse load (R34): weak pull-ups, but for the signals that carry none and STRAP. -/
def padUnfused : Signal → Pad
  | .crystal | .diode | .vres => .noPull
  | .strap => .strapPull
  | .rstN => .low
  | _ => .weakUp

/-- A level as a pad drives it. -/
def driven (b : Bool) : Pad := if b then .high else .low

/-- PDISa: driven, or on its weak pull-up to VRES (R36, R319). -/
def pdisPad (s : State) (b : Nat) : Pad := if s.pins.pdisWeak then .weakUp else driven (padsOf s b).pdis

/-- The lanes of a band's driver link carry their line code in every state but OFF and FAILED (R253, R255). -/
def dlkSends (s : State) (b : Nat) : Bool := decide ((dlkOf s b).state ≠ .off) && decide ((dlkOf s b).state ≠ .failed)

/-- After fuse load (R35, R36): the fuse-loaded state, or what the owning block drives; row control pins at the start of
the slot in progress. In the factory test mode no panel output is driven (R33, log entry 82). -/
def padDriven (s : State) : Signal → Pad
  | .fwdLane n => if n < oget s Ob.PXL_LANES ∧ s.pxl.link ≠ .disabled ∧ !s.pxl.fwdAsleep then .receiving else .terminated
  | .backLane n =>
    if n < oget s Ob.PXL_BACK_LANES ∧ s.pxl.link ≠ .disabled ∧ !s.pxl.backAsleep ∧ !s.pxl.idle then .sending else .electricalIdle
  | .refclk => .receiving
  | .crystal => .running
  | .drvLane b j => if s.boot.testMode then .highZ
      else if dlkSends s b ∧ j < rget s Ob.DLK_NDRV then .sending else .electricalIdle
  | .sense b => if dlkSends s b then .receiving else .terminated
  | .gst _ | .gck _ _ => if s.boot.testMode then .highZ else .low
  | .goe b => if s.boot.testMode then .highZ else driven (padsOf s b).goe
  | .gbb b => if s.boot.testMode then .highZ else driven (padsOf s b).gbb
  | .pven b => if s.boot.testMode then .highZ else driven (padsOf s b).pven
  | .pdis b => if s.boot.testMode then .weakUp else pdisPad s b
  | .canTx => .high
  | .canRx | .sck | .sdi | .csN | .pmbAlertN | .wakeN | .pgood | .tmode => .input
  | .crk1 n => if s.pnl.checkOn ∧ s.pnl.loop = n then .sourcing else .highZ
  | .sdo | .strap | .crk2 _ | .thm _ => .highZ
  | .qck => .low
  | .qcsN => .high
  | .qd _ => .inputUp
  | .pmbScl | .pmbSda => .released
  | .evtN => if s.pins.evtN then .low else .released
  | .diode => .passive
  | .faultN => driven s.pins.faultN
  | .rstN => if s.pins.rstDrive then .low else .released
  | .pen n => driven (match n with
      | 0 => s.pins.pen0 | 1 => s.pins.pen1 | 2 => s.pins.pen2 | _ => s.pins.pen3)
  | .gylD | .gylFs => .receiving
  | .vres => .noPull

/-- In P3, the latched pads apart (R36). -/
def padAsleep (s : State) : Signal → Pad
  | .crystal => .off
  | .pdis b => pdisPad s b
  | .gst _ | .gck _ _ | .goe _ | .gbb _ | .pven _ => .floating
  | .sck | .sdi | .csN | .pmbAlertN | .pgood => .ignored
  | .gylFs => .off
  | g => padDriven s g

/-- The controller die is off: P3 after the fall of PEN0, up to the supplies' return. -/
def dieAsleep (s : State) : Bool :=
  decide (s.pwr.state = .p3) && !s.pwr.p3Off

/-- What a ball presents now. A pad without its supply is unpowered, or, on VIO_AB or VIO_CD, floating (R36, R42). -/
def padOf (s : State) (g : Signal) : Pad :=
  if !padSupplied s g then (if g.onLane then .unpowered else .floating)
  else if !s.pins.fused then padUnfused g
  else match s.pins.held.find? (fun e => decide (e.1 = g)) with
    | some e => e.2
    | none => if dieAsleep s then padAsleep s g else padDriven s g

/-- The always-on die latches the level and the enable of every pad of the groups (R39). -/
def holdPads (s : State) : State :=
  { s with pins := { s.pins with held := latchable.map (fun g => (g, padOf s g)) } }

/-- The pads of the groups named are released (R40). -/
def releasePads (groups : List Nat) (s : State) : State :=
  { s with pins := { s.pins with held := s.pins.held.filter (fun e => match e.1.group with
      | some n => !groups.contains n
      | none => false) } }

end Sys2Proof.Machine
end

