-- ==== Sys2Proof/Machine/Vcore.lean ====
section
/-!
DEFINITION. The VCORE floor of the pipeline and the voltage requests that lead to a value (R22, R447, R449).
-/

namespace Sys2Proof.Machine

/-- Subpixels of a line that the busiest stream of a band serves (R13, R22). -/
def busiest (w3 m n : Nat) : Nat :=
  let even := min w3 (ceilDiv m 2 * n)
  max even (w3 - even)

/-- Number of subpixels of a line. -/
def lineSubs (s : State) : Nat := 3 * panelW s

/-- The per-stream demand times three, in subpixels per second times 1,000 (R22). -/
def streamDemand (s : State) : Nat :=
  busiest (lineSubs s) (rget s Ob.DLK_NDRV) (rget s Ob.DLK_NCH) * rget s Ob.SCAN_RATE * vtotal s

/-- The VCORE floor while PPL runs, in mV (R22). -/
def vcoreFloor (s : State) : Nat :=
  let d := streamDemand s
  if 3 * 10 ^ 12 < d then 860 else if 21 * 10 ^ 11 < d then 800 else 720

/-- The bytes of a PMBus write, with its PEC where that is on (R446). -/
def pmbWrite (s : State) (bs : List Byte) : List Byte :=
  let m := toBE 1 (2 * oget s Ob.PMB_ADDR) ++ bs
  if oflag s Ob.PMB_PEC then m ++ toBE 1 (crc8 m) else m

/-- VOUT_COMMAND in LINEAR16, rounded up (R446): Y = ⌈V × 2^(−N)⌉, low byte first (PRESUMED, log entry 81). -/
def voutCommand (s : State) (mv : Nat) : List Byte :=
  let y := ceilDiv (mv * 2 ^ (65536 - oget s Ob.PMB_VEXP)) 1000
  pmbWrite s (0x21 :: (toBE 2 y).reverse)

/-- What the host sends to read STATUS_WORD. -/
def statusWordRead (s : State) : List Byte :=
  toBE 1 (2 * oget s Ob.PMB_ADDR) ++ [0x79] ++ toBE 1 (2 * oget s Ob.PMB_ADDR + 1)

/-- OPERATION is written with 0x80 once in BOOT, after the first request (R446, R457). -/
def sendOperation (s : State) : State :=
  if s.pwr.operSent then s
  else { s with pwr := { s.pwr with operSent := true, pmbOut := s.pwr.pmbOut ++ [pmbWrite s [0x01, 0x80]] } }

/-- Ask the regulator for a value: one request at a time, no sooner than 10 µs after the one before it (R447, R449). -/
def askVcore (mv : Nat) (s : State) : State :=
  if s.pwr.pmb.isSome then s
  else oset Ob.PMB_VREQ mv { s with pwr := { s.pwr with
    pmb := some { target := mv, tries := 0, raise := decide (s.pwr.vack < mv), at_ := max s.now s.pwr.pmbFree }
    pmbOut := [voutCommand s mv, statusWordRead s] } }

/-- The next step of a run of steps (R449). -/
def stepGoal (s : State) : State :=
  match s.pwr.goal with
  | none => s
  | some g =>
    if s.pwr.vack < g then askVcore (min g (s.pwr.vack + 10)) s
    else if g < s.pwr.vack then (if s.now < s.pwr.holdoffTo then s else askVcore (max g (s.pwr.vack - 10)) s)
    else { s with pwr := { s.pwr with goal := none } }

/-- VCORE below the floor of the raster in force is brought up to it in steps (R22, R449). -/
def raiseToFloor (s : State) : State :=
  if s.pwr.vack < vcoreFloor s then stepGoal { s with pwr := { s.pwr with goal := some (vcoreFloor s) } } else s

end Sys2Proof.Machine
end

