-- ==== Sys2Proof/Machine/Xing.lean ====
section
/-!
DEFINITION. The flushes of the crossings (R465, R467, R471, R492). The crossings of a lane domain read from its lane
(log entry 59); those of the other domains are in the state by the subindex of R393.
-/

namespace Sys2Proof.Machine

/-- The live side of a domain's crossings discards what it holds (R465): FLUSHES counts the flush, and a domain from 0x13 to
0x1C enters it in the event log at most once per second (R471). -/
def xflush (sub : Nat) (s : State) : State :=
  let c := crossOf s sub
  let s1 := evc 0xDB (setCross sub { c with flushes := satInc 0xFFFF c.flushes } s)
  if 0x13 ≤ sub ∧ (c.logAt = 0 ∨ c.logAt - 1 + 1000000000 ≤ s.now) then
    logEv 0x12 0 0 sub (setCross sub { crossOf s1 sub with logAt := s1.now + 1 } s1)
  else s1

/-- The crossings of a forward lane's domain are READY: its CDR is locked, and the lane neither trains alone nor sleeps
(R465, R468). -/
def laneReady (s : State) (n : Nat) : Bool :=
  (laneOf s n).cdr && (decide ((laneOf s n).bg = .off) || decide ((laneOf s n).bg = .passed)) && !s.pxl.fwdAsleep

/-- A forward lane's domain enters reset, as at its loss (R469): the crossings flush. -/
def resetLane (n : Nat) (s : State) : State := if laneReady s n then xflush (n + 1) s else s

end Sys2Proof.Machine
end

