-- ==== Sys2Proof/Machine/TrxOps.lean ====
section
/-!
DEFINITION. How transactions and groups end (R97 to R110, R120 to R122), and what a position shows.
-/

namespace Sys2Proof.Machine

/-- A decode instance gives up a tile (R144). -/
def dropDecode (t : Nat) (s : State) : State :=
  { s with lake := { s.lake with
    inst := (s.lake.inst.map (fun e => (e.1, e.2.filter (· ≠ t)))).filter (fun e => !e.2.isEmpty) } }

/-- The last generation of a tag is that of the transaction that ends, and the tag is FREE (R99, R101). -/
def freeTag (t : Nat) (seen : Bool) (s : State) : State :=
  let g := tagOf s t
  setTag t { g with state := .free, lastGen := g.gen, seenMark := seen, decoding := false, payload := [], crc := 0,
                    proved := 0, frames := 0, dropped := false } (dropDecode t s)

/-- A back packet of one transaction. -/
def txPkt (type : BackType) (t w1 w2 : Nat) (s : State) : BackPkt :=
  let g := tagOf s t
  .mk type 0 g.gen t (if g.grouped then g.group else 0) (if g.grouped then 0 else 1) w1 w2 []

/-- Count and queue a NAK (R120). -/
def sendNak (p : BackPkt) (s : State) : State :=
  evc 0x34 (cnt (Ob.TRX_NAKCNT + (p.w1 / 2 ^ 24 - 1)) (pushBack p s))

/-- W1 of a NAK (R94). -/
def nakWord (reason sm detail : Nat) : Nat := reason * 2 ^ 24 + sm * 2 ^ 16 + detail % 65536

/-- No content waits for the proof of transaction `t` any more. -/
def dropTagOf (t : Nat) (c : Content) : Content := if c.tag = some t then { c with tag := none } else c

/-- Forget a transaction in the position it is for. -/
def detachTag (t : Nat) (s : State) : State :=
  let g := tagOf s t
  if g.token then s
  else
    let k := posKey g.tx g.ty
    let p := posOf s k
    setPos k { p with shown := dropTagOf t p.shown, pend := p.pend.map (dropTagOf t) } s

/-- End a transaction with a NAK (R101, R120). -/
def nakTx (t reason sm detail : Nat) (s : State) : State :=
  let s1 := sendNak (txPkt .nak t (nakWord reason sm detail) (tagOf s t).srcf s) s
  freeTag t false (detachTag t s1)

/-- End a transaction with SEEN: its proof was completed in the frame of `epoch` (R94, R121). -/
def seenTx (t epoch : Nat) (s : State) : State :=
  let s1 := evc 0x35 (pushBack (txPkt .seen t (epoch % 2 ^ 32) (tagOf s t).srcf s) s)
  freeTag t true (detachTag t s1)

/-- The NAK of a group (KIND 1), which frees its id (R102, R106). -/
def nakGroup (g reason detail : Nat) (s : State) : State :=
  let gr := groupOf s g
  let s1 := sendNak (.mk .nak 1 gr.gen 0 g 0 (nakWord reason 0 detail) 0 []) s
  setGroup g { Group.none with gen := gr.gen } s1

/-- Whether a group is uncommitted (R104). -/
def uncommitted (g : Group) : Bool := decide (g.state ≠ .free)

/-- Abort a group: every STAGED member is NAKed GROUP-ABORT and the group waits for its end (R106). -/
def abortGroup (g reason detail : Nat) (s : State) : State :=
  let gr := groupOf s g
  let s1 := each (gr.members.filter (fun t => decide ((tagOf s t).state = .staged))) (fun t => nakTx t 0x10 0 0) s
  let s2 := setGroup g { gr with state := .aborted, reason := reason, detail := detail } s1
  if gr.ended then nakGroup g reason detail s2 else s2

/-- The tag of a packet that is still arriving. -/
def Tag.arriving (g : Tag) : Bool := decide (g.state = .receiving) && !g.decoding

/-- Listed tags that are not FREE, those of packets still arriving apart. -/
def busyTags (s : State) : List Nat :=
  (s.trx.tags.filter (fun e => decide (e.2.state ≠ .free) && !e.2.arriving)).map (·.1)

/-- Leaving RUN ends every transaction that is not FREE and every uncommitted group with STATE (R109); a packet that is
still arriving takes its NAK after its last word (R119). -/
def stateNaks (s : State) : State :=
  let s0 := { s with trx := { s.trx with
    incoming := s.trx.incoming.map (fun x => if x.reason = 0 then { x with reason := 0x0E } else x) } }
  let s1 := each (busyTags s0) (fun t => nakTx t 0x0E 0 0) s0
  let gs := (s1.trx.groups.filter (fun e => uncommitted e.2)).map (·.1)
  let s2 := each gs (fun g => nakGroup g 0x0E 0) s1
  { s2 with trx := { s2.trx with queue := [], zeros := [], copying := none, run := none } }

/-- Transactions whose proof is awaited in a band that goes dark end BAND-DARK (R122). -/
def darkNaks (bands : Nat) (s : State) : State :=
  let hit := (s.trx.tags.filter (fun e => decide (e.2.state = .verifying) && !e.2.token
    && (bandsOfTileRow s e.2.ty).any (fun b => bit bands b))).map (·.1)
  each hit (fun t => nakTx t 0x14 0 0) s

/-- The number of transactions in OPEN or ABORTED groups that a DIGEST reports as discarded. -/
def discardDrop (s : State) : State :=
  let gs := s.trx.groups.filter (fun e => decide (e.2.state = .opened) || decide (e.2.state = .aborted))
  let member (e : Nat × Tag) : Bool := e.2.grouped && gs.any (fun g => decide (g.1 = e.2.group) && g.2.members.contains e.1)
  let s1 := each ((s.trx.tags.filter (fun e => member e && decide (e.2.state ≠ .free))).map (·.1)) (fun t st =>
    let g := tagOf st t
    let st1 := freeTag t false st
    setTag t { tagOf st1 t with dropped := decide (g.state = .staged) } st1) s
  let s2 := each (gs.map (·.1)) (fun g st => setGroup g { Group.none with gen := (groupOf st g).gen } st) s1
  { s2 with pxl := { s2.pxl with dropped := gs.length } }

end Sys2Proof.Machine
end

