-- ==== Sys2Proof/Machine/LinkOps.lean ====
section
/-!
DEFINITION. The pixel link's own operations that other blocks need: its state, its training messages, LINKSTATE, and the
return to DETECT (R64, R65, R75, R94).
-/

namespace Sys2Proof.Machine

/-- Change a field of the link. -/
def modPxl (f : Pxl → Pxl) (s : State) : State := { s with pxl := f s.pxl }

/-- Enter a link state; a change sets bit 8 of WNP_EVTPEND (R375). -/
def setLink (v : LinkState) (s : State) : State :=
  if s.pxl.link = v then s else pendEvt 8 (modPxl (fun p => { p with link := v }) s)

/-- Apply a change to every forward lane. -/
def eachLane (f : Nat → Lane → Lane) (s : State) : State :=
  each (List.range 16) (fun n st => setLane n (f n (laneOf st n)) st) s

/-- Configured forward lanes, lowest first, and the mask of configured back lanes. -/
def cfgLanes (s : State) : List Nat := List.range (min 16 (oget s Ob.PXL_LANES))
def cfgBack (s : State) : Nat := 2 ^ oget s Ob.PXL_BACK_LANES - 1

/-- The mask of a list of lanes. -/
def maskOf (ns : List Nat) : Nat := ns.foldl setBit 0

/-- The lanes of a mask, lowest first. -/
def lanesOf (m : Nat) : List Nat := (List.range 16).filter (bit m)

/-- The largest power of two not above `n`, for `n` up to 16; 0 for 0. -/
def pow2Below (n : Nat) : Nat := if 16 ≤ n then 16 else if 8 ≤ n then 8 else if 4 ≤ n then 4 else if 2 ≤ n then 2 else n

/-- The lowest-numbered lanes of a list that make up the largest power-of-two width (R60). -/
def widest (ns : List Nat) : List Nat := ns.take (pow2Below ns.length)

/-! ## The back lanes' transmitters (R55 to R61) -/

/-- The transmitter of a back lane. -/
def txLane (s : State) (n : Nat) : LaneTx := get (fun _ => LaneTx.start) s.pxl.txLanes n

/-- Lane `n` sends one block behind what it has sent of this transmission. -/
def sendLane (marker : Nat) (payload : List (BitVec 32)) (n : Nat) (s : State) : State :=
  let a := LaneTx.send marker payload (txLane s n, get (fun _ => ⟨0, 0⟩) s.pxl.txLine n)
  modPxl (fun p => { p with txLanes := ins p.txLanes n a.1, txLine := ins p.txLine n a.2 }) s

/-- The back lanes `ns` send the blocks of one stripe block, whose markers carry one SEQ, LCN, TYPE and HDRPTR (R58). -/
def sendBlocks (ns : List Nat) (type ptr : Nat) (payload : Nat → List (BitVec 32)) (s : State) : State :=
  let mark (n : Nat) : Nat := markerWord 0xC52B0E (16 * n + s.pxl.lcn) s.pxl.txSeq type ptr
  modPxl (fun p => { p with txSeq := (p.txSeq + 1) % 256 }) (each ns (fun n => sendLane (mark n) (payload n) n) s)

/-- A transmission begins: `txLine` holds what it puts onto the lanes. -/
def freshLine (s : State) : State := modPxl (fun p => { p with txLine := [] }) s

/-- Packets go out one after another on the active back lanes, striped over them (R60), each stripe block with the HDRPTR of
the first packet that starts in it and the last one filled (R61). -/
def sendStream (pkts : List (List (BitVec 32))) (s : State) : State :=
  let ns := [0, 1].filter (bit s.pxl.bmask)
  let w := 128 * ns.length
  let ws := pkts.flatten
  let blocks := (fillBlocks (ws.length + 1) w ws).zipIdx
  each blocks (fun b => sendBlocks ns 0 (blockPtr (packetStarts 0 pkts) w b.2)
    (fun n => (List.range 128).map (fun i => b.1.getD (ns.length * i + ns.idxOf n) 0))) (freshLine s)

/-- Send a training message on the configured back lanes: TSEQ moves when the content changes, and TRAIN blocks carry it
from then on (R64). -/
def sendTrain (m : TrainMsg) (s : State) : State :=
  if s.pxl.tx = some m then s
  else
    let s1 := modPxl (fun p => { p with tx := some m, tseq := (p.tseq + 1) % 65536 }) s
    sendBlocks (List.range (oget s Ob.PXL_BACK_LANES)) 1 0xFFF (fun n => trainPayload m n s1.pxl.tseq) (freshLine s1)

/-- The forward lanes that are marker-locked. -/
def lockedMask (s : State) : Nat := maskOf ((cfgLanes s).filter (fun n => (laneOf s n).mlock))

/-- HELLO on the back lanes: the current rates and the lanes locked. -/
def sendHello (s : State) : State :=
  sendTrain { ttype := 1, frate := s.pxl.frate, brate := s.pxl.brate, mask := lockedMask s, bmask := 0, lcn := 0 } s

/-- A lane from which training starts again: it keeps its last rate and the cause of its last loss. -/
def Lane.restart (l : Lane) : Lane := { Lane.idle with lastRate := l.lastRate, lossCause := l.lossCause, skew := l.skew }

/-- The link stands where training starts, with nothing of the session left. -/
def clearLink (s : State) : State :=
  modPxl (fun p => { Pxl.initial with
    link := p.link, session := p.session, downCause := p.downCause, tseq := p.tseq, tx := p.tx, txLanes := p.txLanes
    txSeq := p.txSeq, txLine := p.txLine, fwdAsleep := p.fwdAsleep, backAsleep := p.backAsleep, relock := p.relock
    dropped := p.dropped, hadDrop := p.hadDrop, prevAcc := p.prevAcc, lanes := p.lanes })
    (eachLane (fun _ => Lane.restart) (each (List.range 16) resetLane s))

/-- DETECT at 1.25 Gbit/s in both directions, or DISABLED while PXL_ENABLE is 0 (R65, R75). -/
def toDetect (s : State) : State :=
  let s1 := clearLink s
  if oflag s1 Ob.PXL_ENABLE then sendHello (setLink .detect s1) else setLink .disabled (modPxl (fun p => { p with tx := none }) s1)

/-- Training begins on entry to SETUP (R65). -/
def startLink (s : State) : State := if s.pxl.link = .disabled ∧ oflag s Ob.PXL_ENABLE then toDetect s else s

/-- LINKSTATE (R94): its code, the forward mask and LCN it names, and for TEST the duration, pattern and direction. -/
def sendLinkstate (code mask lcn time pat dir : Nat) (s : State) : State :=
  pushBack (.mk .linkstate 0 0 0 0 (time * 4096 + s.pxl.bmask * 1024 + pat * 512 + dir * 128)
    (code * 2 ^ 28 + lcn * 2 ^ 24 + s.pxl.frate * 2 ^ 20 + s.pxl.brate * 2 ^ 16 + mask) s.trx.accepted []) s

/-- A member leaves its group, with the position that it holds there. -/
def leaveGroup (t : Nat) (s : State) : State :=
  let g := tagOf s t
  let gr := groupOf s g.group
  if gr.members.contains t then
    setGroup g.group { gr with members := gr.members.filter (· ≠ t), held := gr.held.filter (· ≠ posKey g.tx g.ty) } s
  else s

/-- A TILE that is not accepted leaves its group and its decode instance, and its tag is FREE with its previous last
generation (R144, R515). -/
def forgetTile (x : Incoming) (s : State) : State :=
  let t := x.hdr.tag
  let g := tagOf s t
  if g.arriving && decide (g.gen = x.hdr.gen) then
    setTag t { g with state := .free, gen := g.lastGen, token := x.token } (leaveGroup t (dropDecode t s))
  else s

/-- The word stream has lost its packet boundary: the next one is taken from HDRPTR (R61). -/
def loseBoundary (s : State) : State :=
  modPxl (fun p => { p with needPtr := true, rxWords := [], rxLeft := 0 }) s

/-- A link session runs: packets can have been received in it. -/
def inSession (s : State) : Bool :=
  decide (s.pxl.link = .active) || decide (s.pxl.link = .reconfig) || decide (s.pxl.link = .test) || decide (s.pxl.link = .sleep)

/-- TILEs that satisfy a condition are not accepted, and are forgotten. -/
def forgetThose (f : Incoming → Bool) (s : State) : State :=
  each (s.trx.incoming.filter f) forgetTile { s with trx := { s.trx with incoming := s.trx.incoming.filter (fun x => !f x) } }

/-- The TILE that is still arriving is lost. -/
def forgetPartial (s : State) : State := forgetThose (fun x => !x.whole) s

/-- The session that ends is kept for the next DIGEST; its OPEN and ABORTED groups are discarded (R75, R94, R110). -/
def endSession (s : State) : State :=
  if inSession s then
    let s1 := discardDrop (forgetThose (fun _ => true) s)
    modPxl (fun p => { p with hadDrop := true, prevAcc := s.trx.accepted }) s1
  else s

/-- The link drops (R75). -/
def dropLink (cause : Nat) (s : State) : State :=
  toDetect (modPxl (fun p => { p with downCause := cause }) (endSession s))

/-- PXL_ENABLE 0 forces DISABLED from any state (R65). -/
def disableLink (s : State) : State :=
  let s1 := clearLink (endSession s)
  setLink .disabled (modPxl (fun p => { p with tx := none }) s1)

end Sys2Proof.Machine
end

