-- ==== Sys2Proof/Machine/Ports.lean ====
section
/-!
DEFINITION. The management ports, and how their transfers and sessions end (R350 to R353, R366, R367).
-/

namespace Sys2Proof.Machine

/-! ## Ports -/

/-- A CAN object as it is in effect on the bus (R356). -/
def canGet (s : State) (k : Nat) : Nat := get objDefault s.mgt.canCfg k

/-- The state of a port. -/
def portOf (s : State) (p : Port) : PortState :=
  match p with
  | .can => s.mgt.can
  | .spi => s.mgt.spi

/-- Set the state of a port; WNP_EVTPEND bit 4 follows the SPI response queue (R375). -/
def setPort (p : Port) (v : PortState) (s : State) : State :=
  match p with
  | .can => { s with mgt := { s.mgt with can := v } }
  | .spi =>
    let s1 := { s with mgt := { s.mgt with spi := v } }
    if v.queue.isEmpty then refreshEvt (oset Ob.WNP_EVTPEND (clearBit (oget s1 Ob.WNP_EVTPEND) 4) s1)
    else pendEvt 4 s1

/-- Port number in WNP_SESS, the MAC and DIAG_VIOLLAST: 0 CAN, 1 SPI. -/
def portNo : Port → Nat
  | .can => 0
  | .spi => 1

/-- The largest LEN of a port (R353). -/
def portMax : Port → Nat
  | .can => 56
  | .spi => 1024

/-- The port serves requests: MGT runs outside BOOT, the port is enabled, CAN is on the bus (R351, R356). -/
def portServes (s : State) (p : Port) : Bool :=
  decide (s.boot.stage = .started) && decide (s.boot.op ≠ .boot) && !s.mgt.stopped &&
  (match p with
   | .can => decide (canGet s Ob.WNP_CANEN = 1) && s.mgt.canBus && crossUp s 0x18
   | .spi => oflag s Ob.WNP_SPIEN && crossUp s 0x19)

/-- Requests outstanding on a port (R359). -/
def outstanding (v : PortState) : Nat := (v.queue.filter (·.outst)).length

/-! ## Ends of transfers and sessions -/

/-- The maps that a download writes into DRAM as its segments arrive (R366). -/
def isMap (k : Nat) : Bool :=
  decide (k = Ob.CMP_DEMURA) || decide (k = Ob.MDL_LEDGER) || decide (k = Ob.WEAR_DEFMAP)

/-- The access kind of an object. -/
def accOf (k : Nat) : Acc := ((rowAt (k / 256) (k % 256)).map (·.acc)).getD .ro

/-- A download fails or is aborted (R366, R367): a plate becomes EMPTY, a map waits for its restore. -/
def transferFails (x : Transfer) (s : State) : State :=
  let k := key x.index x.sub
  if x.upload ∨ x.viol then s
  else if x.index = 0x4040 then
    { s with scan := { s.scan with plates := put (fun _ => 0) s.scan.plates (k - Ob.SCAN_PLATEDATA) 0 } }
  else if isMap k then { s with jrn := { s.jrn with mapsDone := false, redo := k :: s.jrn.redo } }
  else s

/-- Abort the transfer of a port, if it holds one (R367). -/
def abortTransfer (p : Port) (s : State) : State :=
  match (portOf s p).transfer with
  | none => s
  | some x => transferFails x (cnt Ob.WNP_SEGABORT (setPort p { portOf s p with transfer := none } s))

/-- The transfer of a port downloads into an RWS object. -/
def rwsTransfer (s : State) (p : Port) : Bool :=
  match (portOf s p).transfer with
  | some x => !x.upload && !x.viol && decide (accOf (key x.index x.sub) = .rws)
  | none => false

/-- Leaving SETUP aborts the downloads into RWS objects (R367). -/
def leaveSetup (s : State) : State :=
  let drop (p : Port) (st : State) : State := if rwsTransfer st p then abortTransfer p st else st
  drop .spi (drop .can s)

/-- A session ends: its transfer is aborted, its elevation and cache are lost, and its responses are not sent (R350 to
R352). A CAN object whose write had been answered takes effect all the same. -/
def endWenip (p : Port) (s : State) : State :=
  let s1 := abortTransfer p s
  let v := portOf s1 p
  let due := v.queue.any (·.canObj)
  let s2 := setPort p { v with active := false, level := 0, nonce := none, queue := [], cache := [] } s1
  if due then { s2 with mgt := { s2.mgt with canDue := some (s2.now + 10000000) } } else s2

end Sys2Proof.Machine
end

