-- ==== Sys2Proof/Machine/SafOps.lean ====
section
/-!
DEFINITION. Reactions to failures (R293 to R297), the operating state and the band states that follow.
-/

namespace Sys2Proof.Machine

/-! ## Band states -/

/-- The band state that the operating state, the power state and the recorded causes call for (R214). -/
def bandStateDue (s : State) (b : Nat) : Nat :=
  if bandCount s ≤ b then 4
  else if bit s.safe.dark b ∨ bit s.safe.unusable b ∨ s.boot.op = .safeDark then 2
  else if s.boot.op ≠ .run ∨ s.boot.blank then 1
  else if s.pwr.entry = .inProgress ∧ bit s.pwr.stopped 7 ∧ s.pwr.target = 3 then 1
  else if s.pwr.state = .p2 ∨ (s.pwr.entry = .inProgress ∧ bit s.pwr.stopped 7) then 3
  else 0

/-- Set a band's state and, when it is not LIVE, drive GOEa low (R214, R247). -/
def setBandState (b v : Nat) (s : State) : State :=
  let s1 := setBandScan b { bandScan s b with state := v } s
  if v = 0 then s1 else setPads b { padsOf s1 b with goe := false, gbb := false } s1

/-- Bring every band to the state due. -/
def refreshBands (s : State) : State := each [0, 1, 2, 3] (fun b st => setBandState b (bandStateDue st b) st) s

/-- Bring every band that must be DARK there at once. -/
def darkenBands (s : State) : State :=
  each [0, 1, 2, 3] (fun b st => if bandStateDue st b = 2 then setBandState b 2 st else st) s

/-! ## Calibration -/

/-- Abandon a running calibration, its marker and staging set kept (R346). -/
def abandonCal (cause : Nat) (s : State) : State :=
  if s.cal.state = .running then
    let s1 := oset Ob.CAL_CAUSE cause { s with cal := { s.cal with state := .abandoned } }
    pendEvt 7 (logEv 0x10 0 0 (0x0200 + cause) s1)
  else s

/-! ## The operating state -/

/-- The first training of every used band starts in SETUP (R254). -/
def firstTraining (s : State) : State :=
  each (List.range (bandCount s)) (fun b st => if (dlkOf st b).state = .off then startTraining b false st else st) s

/-- Record a change of operating state: its log entry and EVENT STATE (R96, R391). An automatic power-up request is held
only while the controller stays in SETUP (R311), leaving SETUP aborts downloads into RWS objects (R367), and training begins on entry to SETUP (R65, R254). -/
def changeOp (v : OpState) (s : State) : State :=
  if s.boot.op = v then s
  else
    let old := s.boot.op.code
    let s0 := if s.boot.op = .setup then leaveSetup s else s
    let s1 := { s0 with boot := { s0.boot with op := v }, pnl := { s0.pnl with auto := 0 } }
    let s2 := backEvent 4 v.code old (logEv 0x03 0 0 (old * 256 + v.code) s1)
    if v = .setup then firstTraining (startLink s2) else s2

/-! ## Sleep entries and wakes (R430 to R441) -/

/-- PWR_LASTWAKE for source `src` out of state `from_` (R439). -/
def lastWake (abort : Bool) (from_ src : Nat) (s : State) : State :=
  oset Ob.PWR_LASTWAKE (128 * b2n abort + 16 * from_ + src) s

/-- In P0 every persistent request and held edge is done with and the wake detectors are disarmed (R424, R438). -/
def wakesDone (s : State) : State :=
  { s with pwr := { s.pwr with gylWake := false, safetyWake := false, reqWake := false, timerWake := false, edgeWake := false }
           gyl := { s.gyl with armed := false } }

/-- The dies leave self-refresh or their idle state, and the pass deadline restarts (R165). -/
def wakeDram (s : State) : State :=
  { s with fst := { s.fst with selfRef := false, dieIdle := false, passFrom := s.now } }

/-- Every band in HOLD that no lampblack path holds is released at the next frame start with lines ready (R256). -/
def releaseHeld (s : State) : State := each [0, 1, 2, 3] (fun b st => if onPath st b then st else releaseLink b st) s

/-- The blocks that an entry stopped resume in the reverse of their order (R434): the dies leave self-refresh, the lanes
relock, the driver links are powered or released, and LAKE, MGT and GYL go on once no step is marked as stopped. -/
def rollback (s : State) : State :=
  let st := s.pwr.stopped
  let s1 := whenDo (bit st 12) wakeDram s
  let s2 := if bit st 8 then firstTraining { s1 with pins := { s1.pins with pen3 := true } } else s1
  let s3 := whenDo (bit st 7) releaseHeld s2
  { s3 with mgt := { s3.mgt with stopped := false }
            pxl := { s3.pxl with relock := s3.pxl.relock || s3.pxl.fwdAsleep || s3.pxl.backAsleep, sleepReq := false }
            pwr := { s3.pwr with stopped := 0, stepAt := s3.now } }

/-- An entry ends early with a cause (R433 to R435): REFUSED and TIMEOUT are retried up to 8 times. -/
def entryEnds (cause : Nat) (s : State) : State :=
  if s.pwr.entry = .inProgress ∨ s.pwr.entry = .waitRetry then
    let s1 := rollback s
    let s2 := evc 0xB9 (cnt Ob.PWR_ABORTS { s1 with pwr := { s1.pwr with abortCause := cause, abortStep := s.pwr.step } })
    if cause ≤ 2 then
      if s2.pwr.retries < 8 then refreshBands { s2 with pwr := { s2.pwr with entry := .waitRetry } }
      else
        logEv 0x15 1 0 (cause * 256 + s.pwr.step) (refreshBands (wakesDone { s2 with pwr := { s2.pwr with entry := .failed } }))
    else refreshBands (wakesDone { s2 with pwr := { s2.pwr with entry := .aborted } })
  else s

/-- P0 is reached from P1 or P2: the lanes relock (R78), and the SM02 gap starts again (R115). -/
def reachP0 (s : State) : State :=
  wakesDone { s with pwr := { s.pwr with state := .p0, waking := false, stopped := 0 }
                     pxl := { s.pxl with relock := s.pxl.relock || s.pxl.fwdAsleep || s.pxl.backAsleep }
                     trx := { s.trx with gapFrom := s.now, gapDone := false } }

/-- Where VCORE goes at a wake from P2 (R441): up to the floor, where it is not already there. -/
def wakeGoal (s : State) : Nat :=
  max (vcoreFloor s) (match s.pwr.pmb with
    | some r => min r.target s.pwr.vack
    | none => s.pwr.vack)

/-- A wake source acts (R436, R440, R441): it ends an entry before step 14, or before step 8 of a P3 entry, ends P1 at
once, and starts the steps that leave P2 with the raise of VCORE. -/
def wakeActs (src : Nat) (s : State) : State :=
  if s.pwr.entry = .inProgress ∨ s.pwr.entry = .waitRetry then
    if s.pwr.entry = .inProgress ∧ (14 ≤ s.pwr.step ∨ (s.pwr.target = 3 ∧ 8 ≤ s.pwr.step)) then s
    else evc 0xBA (lastWake true s.pwr.target src (entryEnds 3 s))
  else match s.pwr.state with
    | .p1 => evc 0xBA (cnt Ob.PWR_WAKECNT (lastWake false 1 src (reachP0 s)))
    | .p2 =>
      if s.pwr.waking then s
      else
        let s1 := evc 0xBA (cnt Ob.PWR_WAKECNT (lastWake false 2 src { s with pwr := { s.pwr with waking := true } }))
        stepGoal { s1 with pwr := { s1.pwr with goal := some (wakeGoal s1) } }
    | _ => s

/-- A sleep entry or a sleep state ends because of a device-class reaction (R30). -/
def sleepEnds (s : State) : State :=
  if s.pwr.entry = .inProgress ∨ s.pwr.entry = .waitRetry then entryEnds 4 s
  else wakeActs 6 { s with pwr := { s.pwr with safetyWake := decide (s.pwr.state = .p2) } }

/-- Everything that leaving RUN ends (R27, R109, R433). -/
def leaveRun (s : State) : State :=
  stateNaks (abandonCal 2 (if s.pwr.target = 3 then s else entryEnds 5 s))

/-- The controller has reached SETUP: the panel and the always-on pads are released (R40). -/
def padsAtSetup (s : State) : State :=
  releasePads [1, 2] (oset Ob.PWR_PADREL_PANEL 1 (oset Ob.PWR_PADREL_AON 1 s))

/-- FAULT_N is asserted (R302). -/
def assertFault (s : State) : State :=
  if s.pins.faultN then evc 0x9F { s with pins := { s.pins with faultN := false } } else s

/-! ## Failures and reactions -/

/-- Count a failure of mechanism `n` (SAF_TABLE, R492). -/
def failure (n : Nat) (s : State) : State :=
  let m := mechOf s n
  evc (0x87 + n) (setMech n { m with count := satInc 0xFFFF m.count } s)

/-- The record of the last reaction (SAF_LAST_SM, SAF_LAST_EPOCH), journaled at each change (R478). -/
def recordLast (n : Nat) (inj : Bool) (s : State) : State :=
  jrnStatus (oset Ob.SAF_LAST_EPOCH s.scan.epoch (oset Ob.SAF_LAST_SM (n + 128 * b2n inj) s))

/-- The DATA of a REACTION entry (R391). -/
def reactData (n bands : Nat) (inj : Bool) : Nat := 2 ^ 31 * b2n inj + n * 65536 + bands

/-- A tile-class reaction of mechanism `n`: entered in the log at most once per mechanism and second, and only when it
raises a safety event (R391). -/
def tileReaction (n : Nat) (event inj : Bool) (s : State) : State :=
  let m := mechOf s n
  let s1 := evc 0x99 (recordLast n inj (setMech n { m with lastClass := 1 } s))
  let last := (look s.evlog.tileAt n).getD 0
  if event ∧ (last = 0 ∨ last - 1 + 1000000000 ≤ s.now) then
    logEv 0x04 2 0 (reactData n 0 inj) { s1 with evlog := { s1.evlog with tileAt := ins s1.evlog.tileAt n (s.now + 1) } }
  else s1

/-- A band-class reaction of mechanism `n` on band `b` (R295, R297): a band that is already DARK for a band cause only
counts the failure. `stay` says that the cause remains present. -/
def bandReaction (n b : Nat) (stay inj : Bool) (s : State) : State :=
  if bandCount s ≤ b then s
  else if bit s.safe.dark b then setMech n { mechOf s n with active := (mechOf s n).active || stay } s
  else
    let m := mechOf s n
    let s1 := setMech n { m with lastClass := 2, active := m.active || stay, bands := setBit m.bands b } s
    let s2 := { s1 with safe := { s1.safe with dark := setBit s1.safe.dark b, clearDue := clearBit s1.safe.clearDue b,
                                               clean := put (fun _ => 0) s1.safe.clean b 0
                                               dirty := setBit s1.safe.dirty b } }
    let s3 := darkNaks (2 ^ b) (setBandState b 2 s2)
    let s4 := backEvent 5 (s3.safe.dark ||| s3.safe.unusable) n (recordLast n inj s3)
    evc 0x9A (logEv 0x04 3 (2 ^ b) (reactData n (2 ^ b) inj) (pendEvt 2 s4))

/-- The bands of a mask take a band-class reaction. -/
def bandsReaction (n mask : Nat) (stay inj : Bool) (s : State) : State :=
  each ([0, 1, 2, 3].filter (bit mask)) (fun b => bandReaction n b stay inj) s

/-- A device-class reaction of mechanism `n` (R295): FAULT_N low, every band dark, SAFE-DARK, every transaction NAKed
STATE. In BOOT the failure is recorded and BOOT ends in SAFE-DARK; in SAFE-DARK it is counted. -/
def deviceReaction (n : Nat) (stay inj : Bool) (s : State) : State :=
  let m := mechOf s n
  let s1 := setMech n { m with lastClass := 3, active := m.active || stay } s
  let s2 := if n = 10 ∧ s1.boot.lockstepAt = none then
      { s1 with boot := { s1.boot with lockstepAt := some (s1.now + 10000000) } } else s1
  if s.boot.op = .safeDark ∨ s.boot.stage ≠ .started then s2
  else
    let s3 := assertFault (recordLast n inj (sleepEnds s2))
    let s4 := logEv 0x04 4 0 (reactData n 0 inj) s3
    let s5 := if s.boot.op = .boot then { s4 with boot := { s4.boot with unfit := true } }
      else pendEvt 1 (changeOp .safeDark (if s.boot.op = .run then leaveRun s4 else stateNaks s4))
    evc 0x9B (each [0, 1, 2, 3] (fun b => holdBlack b true) (darkenBands s5))

/-- Whether a device-class cause is still present (R25, R301). -/
def deviceCause (s : State) : Bool :=
  s.safe.mech.any (fun e => decide (e.2.lastClass = 3) && e.2.active)

/-- A safety event of a tile mechanism with no other reaction: counted, recorded, entered (R273, R298). -/
def safetyEvent (n : Nat) (s : State) : State := tileReaction n true false (failure n s)

/-- The standing overlay cause `c` of a position (R285). -/
def setCause (c : Nat) (on : Bool) (tx ty : Nat) (s : State) : State :=
  let k := posKey tx ty
  let p := posOf s k
  setPos k { p with bad := putBit p.bad c on } s

/-- At a frame start the hatch of a damaged region table entry lifts once the firmware has rewritten it (R175). -/
def bankFrame (s : State) : State :=
  match s.bnk.hatchTo with
  | some e =>
    if e ≤ s.now then
      { s with bnk := { s.bnk with hatchTo := none }
               scan := { s.scan with pos := s.scan.pos.map (fun p => (p.1, { p.2 with bad := clearBit p.2.bad 8 })) } }
    else s
  | none => s

end Sys2Proof.Machine
end

