-- ==== Sys2Proof/Machine/Req.lean ====
section
/-!
DEFINITION. How a Wenip request is taken (R350 to R360) and how an object write is checked (R361, R384), shared by every
command that writes an object; and the sealed record (R303, R398).
-/

namespace Sys2Proof.Machine

/-- The statuses of R355. -/
abbrev St.ok : Nat := 0x00
abbrev St.noObject : Nat := 0x01
abbrev St.readOnly : Nat := 0x02
abbrev St.writeOnly : Nat := 0x03
abbrev St.type : Nat := 0x04
abbrev St.state : Nat := 0x05
abbrev St.locked : Nat := 0x06
abbrev St.length : Nat := 0x07
abbrev St.range : Nat := 0x08
abbrev St.refused : Nat := 0x09
abbrev St.busy : Nat := 0x0A
abbrev St.tagConflict : Nat := 0x0B
abbrev St.queueFull : Nat := 0x0C
abbrev St.segBusy : Nat := 0x0D
abbrev St.segNone : Nat := 0x0E
abbrev St.segOrder : Nat := 0x0F
abbrev St.segSize : Nat := 0x10
abbrev St.segCrc : Nat := 0x11
abbrev St.auth : Nat := 0x12
abbrev St.authLockout : Nat := 0x13
abbrev St.patch : Nat := 0x14
abbrev St.opcode : Nat := 0x15

/-- What a request answers: a status and the data after it. -/
structure Answer where
  status : Nat
  data   : List Byte
deriving DecidableEq, Repr

/-! ## Taking a request -/

/-- A cache entry is live until 2 s after its response was sent (R360). -/
def CacheEntry.live (e : CacheEntry) (now : Nat) : Bool :=
  match e.sent with
  | none => true
  | some t => decide (now < t + 2000000000)

/-- The digest of a request (R360). -/
def digestOf (op ix sub : Nat) (data : List Byte) : Nat :=
  crc32 (toBE 1 op ++ toBE 2 ix ++ toBE 1 sub ++ toBE 2 data.length ++ data)

/-- A response frame (R354). -/
def respOf (op : Nat) (h : Hdr) (ix sub : Nat) (a : Answer) (outst : Bool) (now : Nat) : Resp where
  opcode := 128 + op % 128
  tag := h.tag.toNat
  gen := h.gen.toNat
  index := ix
  sub := sub
  data := toBE 1 a.status ++ a.data
  outst := outst
  queued := now
  canObj := decide (op = 4) && decide (ix = 0x1100)

/-- Queue a response. -/
def queueResp (p : Port) (r : Resp) (s : State) : State :=
  let v := portOf s p
  setPort p { v with queue := v.queue ++ [r] } s

/-- Take a request in a session: stale frames are dropped and counted, tags are held by their cache entries, a full port
answers QUEUE-FULL, and otherwise the request runs, its response is queued and cached (R352, R359, R360). -/
def request (op : Nat) (h : Hdr) (ix sub : Nat) (data : List Byte) (run : State → State × Answer) (s : State) : State :=
  let p := h.port
  let v := portOf s p
  if !portServes s p ∨ portMax p < data.length then s
  else if !v.active ∨ h.gen.toNat ≠ v.gen ∨ h.gen = 0 then evc 0xB4 (cnt (Ob.WNP_STALE + portNo p) s)
  else
    let d := digestOf op ix sub data
    let held := v.cache.find? (fun e => decide (e.tag = h.tag.toNat) && e.live s.now)
    match held with
    | some e =>
      if e.digest = d then
        match e.sent with
        | none => s
        | some _ => evc 0xB3 <| cnt Ob.WNP_CACHEHIT (queueResp p { e.resp with outst := true, queued := s.now } s)
      else
        evc 0xB2 <| cnt Ob.WNP_TAGCONF (queueResp p (respOf op h ix sub ⟨St.tagConflict, toBE 4 d⟩ false s.now) s)
    | none =>
      if 64 ≤ outstanding v then
        cnt Ob.WNP_QFULL (queueResp p (respOf op h ix sub ⟨St.queueFull, []⟩ false s.now) s)
      else
        let (s1, a) := run (evc (0xB0 + portNo p) (setPort p { v with lastReq := s.now } s))
        let v1 := portOf s1 p
        let r := respOf op h ix sub a true s1.now
        if v1.active ∧ v1.gen = v.gen then
          let keep := v1.cache.filter (fun e => decide (e.tag ≠ h.tag.toNat) && e.live s1.now)
          setPort p { v1 with queue := v1.queue ++ [r], cache := keep ++ [.mk h.tag.toNat d r none] } s1
        else if op = 2 ∧ s1.boot.op ≠ .boot then queueResp p r s1
        else s1

/-! ## Levels and checks -/

/-- The level a WRITE or a download needs (R368, R384). -/
def writeLevel (k v : Nat) : Nat :=
  let ix := k / 256
  if k = Ob.JRN_CMD then (if v = 2 ∨ v = 3 then 3 else if v = 4 then 2 else 1) else
  if k = Ob.ACC_KEY ∨ k = Ob.ACC_KEY + 1 then 2
  else if k = Ob.ACC_KEY + 2 then 3
  else if k = Ob.DEV_EVCLR ∨ ix = 0x3110 ∨ k = Ob.LAKE_CTX + 3 ∨ ix = 0x4140 ∨ k = Ob.SAF_CLEAR ∨ k = Ob.SAF_SEALCMD
      ∨ ix = 0x5210 ∨ ix = 0x5220 ∨ k = Ob.SAF_PATCH_CMD ∨ k = Ob.CAL_CMD ∨ ix = 0x6800 ∨ ix = 0x6803 then 2
  else if ix = 0x5320 ∨ ix = 0x5340 then 3
  else if ix = 0x5321 then 0
  else 1

/-- The level a READ or an upload needs (R384). -/
def readLevel (k : Nat) : Nat := if k / 256 = 0x6803 then 2 else 0

/-- An access-rights violation (R361). -/
def violation (p : Port) (write : Bool) (k : Nat) (s : State) : State :=
  let w := portNo p * 2 ^ 31 + b2n write * 2 ^ 30 + (portOf s p).level * 2 ^ 24 + k
  let d := if write then Ob.DIAG_VIOLWR else Ob.DIAG_VIOLRD
  evc 0xB5 (pendEvt 5 (cnt d (oset Ob.DIAG_VIOLLAST w (cnt Ob.DIAG_VIOLCNT s))))

/-- How the checks of R361 end. -/
inductive Gate where
  | pass | viol | fail (status : Nat)
deriving DecidableEq, Repr

/-- The checks of a WRITE, in order (R361); subindex 00 of an index that is not a VAR is read-only (R379). -/
def writeGate (s : State) (p : Port) (k len v : Nat) : Gate :=
  match rowAt (k / 256) (k % 256) with
  | none =>
    if (k % 256 = 0 ∧ lastSub (k / 256) ≠ 0) ∨ (winAt (k / 256) (k % 256)).isSome then .fail St.readOnly
    else .fail St.noObject
  | some r =>
    if r.ty = .dom then .fail St.type
    else if r.acc = .ro then .fail St.readOnly
    else if (portOf s p).level < writeLevel k v then .viol
    else if r.acc = .rws ∧ s.boot.op ≠ .setup then .fail St.state
    else if r.acc = .rwl ∧ oflag s Ob.SAF_SEALED then .fail St.locked
    else if len ≠ r.ty.bytes then .fail St.length
    else if r.ty.top < v ∨ !r.rng.holds v then .fail St.range
    else .pass

/-- Run a WRITE: the checks, then the object's own rule (R361). -/
def runWrite (p : Port) (k : Nat) (data : List Byte) (own : Nat → State → State × Nat) (s : State) : State × Answer :=
  match writeGate s p k data.length (ofBE data) with
  | .fail st => (s, ⟨st, []⟩)
  | .viol => (violation p true k s, ⟨St.ok, []⟩)
  | .pass =>
    let (s1, st) := own (ofBE data) s
    (s1, ⟨st, []⟩)

/-- A command that writes value `v` to object `k` through Wenip. -/
def writeRow (h : Hdr) (k v : Nat) (own : Nat → State → State × Nat) (s : State) : State :=
  let n := match rowAt (k / 256) (k % 256) with
    | some r => r.ty.bytes
    | none => 1
  request 4 h (k / 256) (k % 256) (toBE n v) (runWrite h.port k (toBE n v) own) s

/-! ## The sealed record -/

/-- The rows of the RWL objects, in ascending order of index and subindex (R303, R398). -/
def rwlRows : List Row := ([1, 2, 3, 4, 5, 6, 7].flatMap rowsOf).filter (fun r => decide (r.acc = .rwl))

/-- The bytes of a live object as the record takes them. -/
def rowBytes (s : State) (r : Row) : List Byte :=
  (List.range (r.hi + 1 - r.lo)).flatMap (fun i =>
    let k := key r.index (r.lo + i)
    if r.ty = .dom then dget s k else toBE r.ty.bytes (oget s k))

/-- The live record: every RWL object, then the 256 active regions (R303, R398). -/
def liveRecord (s : State) : List Byte :=
  rwlRows.flatMap (rowBytes s) ++ (List.range 256).flatMap (fun i => toBE 8 (get (fun _ => 0) s.scan.regAct i))

/-- The CRC of the live record. -/
def recordCrc (s : State) : Nat := crc32 (liveRecord s)

/-- While unsealed, the firmware recomputes the reference CRC after an accepted RWL write (R306). -/
def refCrc (s : State) : State :=
  if oflag s Ob.SAF_SEALED then s else { s with safe := { s.safe with sealCrc := recordCrc s } }

/-- Apply a value to an object that has no rule of its own: RWS and RWL objects are journaled (R381). -/
def plainWrite (k v : Nat) (s : State) : State :=
  let s1 := oset k v s
  match accOf k with
  | .rws => jrnObj k s1
  | .rwl => refCrc (jrnObj k s1)
  | _ => s1

/-- The own rule of an object that has none. -/
def ownPlain (k v : Nat) (s : State) : State × Nat := (plainWrite k v s, St.ok)

end Sys2Proof.Machine
end

