-- ==== Sys2Proof/Machine/LakeJobs.lean ====
section
/-!
DEFINITION. The lake coder's memory instance: the slots, their jobs and commands, and the stream context (R145 to R154).
-/

namespace Sys2Proof.Machine

/-! ## Elements in DRAM (R125, R132) -/

/-- The components of an element in memory, as coded: with the flips of the job removed or put on. -/
def elemComps (elem flip v : Nat) : List Nat :=
  if elem = 0 then [field v 20 10, field v 10 10, field v 0 10]
  else
    let w := if elem = 1 then 8 else 16
    let f (k x : Nat) : Nat := if bit flip k then x ^^^ 2 ^ (w - 1) else x
    [f 0 (field v w w), f 1 (field v 0 w)]

/-- The word of an element in memory. -/
def elemWord (elem flip : Nat) (cs : List Nat) : Nat :=
  if elem = 0 then packPixel 0 (cs.getD 0 0) (cs.getD 1 0) (cs.getD 2 0)
  else
    let w := if elem = 1 then 8 else 16
    let f (k : Nat) : Nat := if bit flip k then cs.getD k 0 ^^^ 2 ^ (w - 1) else cs.getD k 0
    f 0 * 2 ^ w + f 1

/-- The bytes of a block's elements in coding order, as the CRCs take them (R151). -/
def elemBytes (elem flip : Nat) (blk : List (List Nat)) : List Byte :=
  blk.flatMap (fun cs => toBE (elemFmt elem).bytes (elemWord elem flip cs))

/-- A word in `[a, a + n)` is poisoned. -/
def anyPoison (s : State) (a n : Nat) : Bool := !(poisonIn s a (a + n)).isEmpty

/-- The poisoned words that a write of `n` bytes at `a` covers only in part, so that it cannot be made (R161). -/
def edgePoison (s : State) (a n : Nat) : List Nat :=
  (if a % 8 ≠ 0 ∧ poisoned s a then [a / 8] else []) ++
  (if (a + n) % 8 ≠ 0 ∧ poisoned s (a + n - 1) then [(a + n) / 8] else [])

/-- Address of element (x, y) of a slot's raster. -/
def rastElem (v : Slot) (x y : Nat) : Nat := v.rastAddr + y * v.stride + x * (elemFmt v.ctx.elem).bytes

/-- The 32 elements of the block at which a slot stands. -/
def rastBlock (s : State) (v : Slot) : List (List Nat) :=
  let n := (elemFmt v.ctx.elem).bytes
  (List.range 32).map (fun i =>
    elemComps v.ctx.elem v.ctx.flip (memBE s (rastElem v (8 * v.ctx.bcol + i % 8) (4 * v.ctx.brow + i / 8)) n))

/-- The poisoned words among those of the block's raster. -/
def rastBad (s : State) (v : Slot) : List Nat :=
  let n := 8 * (elemFmt v.ctx.elem).bytes
  (List.range 4).flatMap (fun r =>
    let a := rastElem v (8 * v.ctx.bcol) (4 * v.ctx.brow + r)
    poisonIn s a (a + n))

/-- The poisoned words that keep the block from being written into the raster. -/
def rastShut (s : State) (v : Slot) : List Nat :=
  let n := 8 * (elemFmt v.ctx.elem).bytes
  (List.range 4).flatMap (fun r => edgePoison s (rastElem v (8 * v.ctx.bcol) (4 * v.ctx.brow + r)) n)

/-- Write the block's elements into the raster. -/
def putBlock (v : Slot) (blk : List (List Nat)) (s : State) : State :=
  each (List.range 4) (fun r st =>
    memRun (rastElem v (8 * v.ctx.bcol) (4 * v.ctx.brow + r)) (elemBytes v.ctx.elem v.ctx.flip ((blk.drop (8 * r)).take 8)) st) s

/-! ## Job state -/

/-- The history that the next block takes: LVALID returns to 0 at the start of each block row (R137). -/
def LakeCtx.hist (c : LakeCtx) : Hist := if c.bcol = 0 then .start else ⟨c.left, c.lvalid⟩

/-- The slot size of a context in bits. -/
def LakeCtx.slot (c : LakeCtx) : Nat := slotBits (elemFmt c.elem) c.ratio

/-- The raster is complete. -/
def LakeCtx.finished (c : LakeCtx) : Bool := decide (c.hblk < c.brow)

/-- The next block position. -/
def LakeCtx.advance (c : LakeCtx) : LakeCtx :=
  if c.bcol < c.wblk then { c with bcol := c.bcol + 1 }
  else { c with bcol := 0, brow := c.brow + 1 }

/-- A context after a block whose reconstruction is `blk` (R137). -/
def LakeCtx.took (c : LakeCtx) (blk : List (List Nat)) : LakeCtx :=
  let h := Hist.after blk
  { c with left := h.left, lvalid := true }

/-- The context after an encoded block `x` of reconstruction `rec_`, `esc` telling an escape (R140, R150, R151). -/
def LakeCtx.encoded (c : LakeCtx) (x rec_ : List (List Nat)) (esc : Nat) : LakeCtx :=
  { (c.took rec_) with
    crcA := crc32Run c.crcA (elemBytes c.elem c.flip x), crcB := crc32Run c.crcB (elemBytes c.elem c.flip rec_)
    inCnt := (c.inCnt + 32) % 2 ^ 32, outCnt := (c.outCnt + c.slot / 32) % 2 ^ 32, escCnt := satAdd 0xFFFF c.escCnt esc }.advance

/-- The context after a decoded block (R150, R151). -/
def LakeCtx.decoded (c : LakeCtx) (blk : List (List Nat)) : LakeCtx :=
  { (c.took blk) with
    crcA := crc32Run c.crcA (elemBytes c.elem c.flip blk)
    inCnt := (c.inCnt + c.slot / 32) % 2 ^ 32, outCnt := (c.outCnt + 32) % 2 ^ 32 }.advance

/-- A slot stops; the instance is free and moves to the next slot that waits (R146). -/
def runningSlots (s : State) : List Nat :=
  [0, 1, 2, 3].filter (fun n => decide ((slotOf s n).state = .running ∨ (slotOf s n).state = .waiting))

/-- The next slot in the round robin after `n`. -/
def nextSlot (s : State) (n : Nat) : Option Nat :=
  let r := runningSlots s
  match r.find? (fun k => decide (n < k)) with
  | some k => some k
  | none => r.head?

/-- The instance works on slot `k` next; a change of slot is counted (R146). -/
def switchTo (old : Option Nat) (k : Option Nat) (s : State) : State :=
  let s1 := { s with lake := { s.lake with current := k, quantum := oget s Ob.LAKE_QUANTUM } }
  let s2 := match k with
    | some n => setSlot n { slotOf s1 n with state := .running } s1
    | none => s1
  let s3 := match old, k with
    | some o, some n =>
      if o = n then s2
      else
        let s' := if (slotOf s2 o).state = .running then setSlot o { slotOf s2 o with state := .waiting } s2 else s2
        evc 0xAE (cnt Ob.LAKE_SWITCHES s')
    | _, _ => s2
  s3

/-- Slot `n` stops in a state (R149). -/
def stopSlot (n : Nat) (st : JobState) (cause : Nat) (s : State) : State :=
  let s1 := setSlot n { slotOf s n with state := st, cause := cause, suspend := false, cancel := false } s
  let s2 := evc 0xAD s1
  let s3 := if st = .decodeErr then evc 0xAF s2 else s2
  if s3.lake.current = some n then switchTo (some n) (nextSlot s3 n) s3 else s3

/-- The stop conditions that a block boundary itself can have, in the order of R152: DONE, a used-up buffer, CANCELLED,
SUSPENDED. -/
def boundary (n : Nat) (s : State) : State :=
  let v := slotOf s n
  if v.ctx.finished then stopSlot n .done 0 s
  else if v.codeLen - v.codePos < v.ctx.slot / 8 then stopSlot n (if v.ctx.dir = 0 then .outFull else .inEmpty) 0 s
  else if v.cancel then stopSlot n .cancelled 0 s
  else if v.suspend then stopSlot n .suspended 0 s
  else s

/-- Slot `n` is ready to run: RUNNING when the instance is free, else WAITING. -/
def startSlot (n : Nat) (v : Slot) (s : State) : State :=
  let s1 := setSlot n { v with state := if s.lake.current.isNone then .running else .waiting, cause := 0,
                               suspend := false, cancel := false } s
  let s2 := if s.lake.current.isNone then
      { s1 with lake := { s1.lake with current := some n, quantum := oget s Ob.LAKE_QUANTUM } } else s1
  boundary n s2

/-! ## The blocks of a job (R140, R149 to R151) -/

/-- Data that cannot be read, or a word that cannot be written, stops the slot with FAULT; each word read is reported (R149, R161,
R162). -/
def faultSlot (n : Nat) (words : List Nat) (s : State) : State := stopSlot n .fault 0 (readPoison words s)

/-- An encode job's next block. Data that cannot be read, and a word of the coded buffer that cannot be written, stop the
slot (R149, R162). -/
def encodeStep (n : Nat) (s : State) : State :=
  let v := slotOf s n
  let c := v.ctx
  let bad := rastBad s v ++ edgePoison s (v.codeAddr + v.codePos) (c.slot / 8)
  if !bad.isEmpty then faultSlot n bad s
  else
    let x := rastBlock s v
    let S := c.slot
    let out (rec_ : List (List Nat)) (esc : Nat) : Slot := { v with codePos := v.codePos + S / 8, ctx := c.encoded x rec_ esc }
    match encodeBlock (elemFmt c.elem) S (decide (c.mode = 0)) c.qmax c.hist x with
    | some (bits, rec_) =>
      boundary n (setSlot n (out rec_ 0) (memRun (v.codeAddr + v.codePos) (toBE (S / 8) bits) s))
    | none =>
      stopSlot n .noFit 0 (setSlot n (out x 1) (memRun (v.codeAddr + v.codePos) (toBE (S / 8) (escapeBlock S)) s))

/-- A block of a decode job is complete: it is written, and counts and CRC take it. -/
def decodedBlock (n : Nat) (blk : List (List Nat)) (s : State) : State :=
  let v := slotOf s n
  setSlot n { v with codePos := v.codePos + v.ctx.slot / 8, ctx := v.ctx.decoded blk } (putBlock v blk s)

/-- A decode job's next block. -/
def decodeStep (n : Nat) (s : State) : State :=
  let v := slotOf s n
  let c := v.ctx
  let S := c.slot
  let bad := poisonIn s (v.codeAddr + v.codePos) (v.codeAddr + v.codePos + S / 8)
  if !bad.isEmpty then faultSlot n bad s
  else match decodeBlock (elemFmt c.elem) S (decide (c.mode = 0)) false c.hist (memBE s (v.codeAddr + v.codePos) (S / 8)) with
    | .block blk =>
      if (rastShut s v).isEmpty then boundary n (decodedBlock n blk s) else faultSlot n (rastShut s v) s
    | .escape => stopSlot n .escape 0 (setSlot n { v with ctx := { c with escCnt := satAdd 0xFFFF c.escCnt 1 } } s)
    | .fail k => stopSlot n .decodeErr k s

/-- LAKE owns bank 2 (R145). -/
def lakeHasBank (s : State) : Bool := decide ((bankOf s 2).owner = 2)

/-- The memory instance may work: bank 2 is LAKE's and step 11 has not stopped it. -/
def lakeRuns (s : State) : Bool :=
  decide (s.boot.stage = .started) && decide (s.boot.op ≠ .boot) && lakeHasBank s && !bit s.pwr.stopped 11

/-- LAKE_BLOCK_DONE: a turn is LAKE_QUANTUM blocks long (R146). -/
def execLakeBlockDone (t : Nat) (s : State) : Host.Outcome State Fault Refusal :=
  let s := s.at t
  .next (match s.lake.current with
    | some n =>
      if !lakeRuns s ∨ (slotOf s n).state ≠ .running then s
      else
        let s1 := { s with lake := { s.lake with quantum := s.lake.quantum - 1 } }
        if s.lake.quantum = 0 then s
        else if (slotOf s1 n).ctx.dir = 0 then encodeStep n s1 else decodeStep n s1
    | none => s)

/-- LAKE_QUANTUM_EXPIRY: the blocks of the turn are done, and the instance moves to the next running slot (R146). -/
def execLakeQuantumExpiry (t : Nat) (s : State) : Host.Outcome State Fault Refusal :=
  let s := s.at t
  .next (match s.lake.current with
    | some n => if lakeRuns s ∧ s.lake.quantum = 0 then switchTo (some n) (nextSlot s n) s else s
    | none => s)

/-! ## The jobs of the firmware (slots 0 to 2: R275, R343, R480, R484, R486)

The journal's jobs, EXACT at 2:1, run from their first block to their last within the command that asks for them (log entry 87): a
job that stops with NOFIT or ESCAPE is resumed, and one that meets poison stops with FAULT. -/

/-- The context of a firmware job at its start. -/
def fwCtx (dir elem flip w h : Nat) : LakeCtx :=
  { LakeCtx.zero with
    elem := elem, flip := flip, dir := dir, wblk := ceilDiv w 8 - 1, hblk := ceilDiv h 4 - 1
    crcA := 0xFFFFFFFF, crcB := if dir = 0 then 0xFFFFFFFF else 0 }

/-- One block of a firmware job, its elements as they are coded; `esc` is 1 for an escape. -/
def LakeCtx.fwBlock (c : LakeCtx) (esc : Nat) (x : List (List Nat)) : LakeCtx :=
  if c.dir = 0 then c.encoded x x esc else { c.decoded x with escCnt := satAdd 0xFFFF c.escCnt esc }

/-- The blocks of a job in turn, until one that cannot be read: the context, the blocks that escaped, and whether all were coded. -/
def runFw : List (Option (List (List Nat))) → LakeCtx → LakeCtx × Nat × Bool
  | [], c => (c, 0, true)
  | none :: _, c => (c, 0, false)
  | some x :: r, c =>
    let esc := b2n (encodeBlock (elemFmt c.elem) c.slot true 0 c.hist x).isNone
    let (c1, n, ok) := runFw r (c.fwBlock esc x)
    (c1, n + esc, ok)

/-- The blocks of a raster of `w` by `h` elements, both rounded up to whole blocks (R475). -/
def rasterBlocks (w h : Nat) (block : Nat → Nat → Option (List (List Nat))) : List (Option (List (List Nat))) :=
  (List.range (ceilDiv h 4)).flatMap (fun r => (List.range (ceilDiv w 8)).map (fun c => block c r))

/-- The blocks of a raster in DRAM whose lines lie `pitch` bytes apart from `base` on. -/
def memBlocks (s : State) (elem flip base pitch w h : Nat) : List (Option (List (List Nat))) :=
  let n := (elemFmt elem).bytes
  rasterBlocks w h (fun c r =>
    if (List.range 4).any (fun i => anyPoison s (base + pitch * (4 * r + i) + 8 * n * c) (8 * n)) then none
    else some ((List.range 32).map (fun e => elemComps elem flip (memBE s (base + pitch * (4 * r + e / 8) + n * (8 * c + e % 8)) n))))

/-- The poisoned words of such a raster. -/
def memPoison (s : State) (elem base pitch w h : Nat) : List Nat :=
  if s.poison.isEmpty then []
  else
    (List.range (4 * ceilDiv h 4)).flatMap (fun y =>
      poisonIn s (base + pitch * y) (base + pitch * y + 8 * (elemFmt elem).bytes * ceilDiv w 8))

/-- Bytes that a job's stream takes with its escapes beside it (R126, R140). -/
def fwBytes (elem blocks escapes : Nat) : Nat := blocks * (slotBits (elemFmt elem) 0 / 8) + escapes * (32 * (elemFmt elem).bytes)

/-- A firmware job of slot `n`: the instance leaves the slot it works on and comes back to it (R146), each NOFIT or ESCAPE and the end
are stops of the slot (R149), and the first poisoned word read is reported. The answer tells whether the job is DONE. -/
def fwJob (n dir elem flip w h : Nat) (blocks : List (Option (List (List Nat)))) (bad : List Nat) (s : State) : State × Bool :=
  let (c, esc, ok) := runFw blocks (fwCtx dir elem flip w h)
  let s1 := whenDo s.lake.current.isSome (iter (fun a => evc 0xAE (cnt Ob.LAKE_SWITCHES a)) 2) s
  let s2 := iter (evc 0xAD) (esc + 1) (whenDo (!ok) (readPoison (bad.take 1)) s1)
  (setSlot n (.mk (if ok then .done else .fault) 0 c 0 0 0 0 0 false false) s2, ok)

/-- A firmware job over a raster in DRAM. -/
def fwMemJob (n dir elem flip base pitch w h : Nat) (s : State) : State × Bool :=
  fwJob n dir elem flip w h (memBlocks s elem flip base pitch w h) (memPoison s elem base pitch w h) s

/-! ## Commands of slot 3 (R147, R148) -/

/-- The lake workspace (R157). -/
def inWorkspace (a n : Nat) : Bool := decide (0x68000000 ≤ a ∧ a + n ≤ 0x6A000000)

/-- R147 on addresses: alignment, the DRAM, the workspace and the overlap. `ext` is the raster's extent in bytes. -/
def jobPlaced (dir rast ext code len : Nat) : Bool :=
  decide (rast % 4 = 0 ∧ code % 4 = 0 ∧ len % 4 = 0) && decide (rast + ext ≤ dramTop) && decide (code + len ≤ dramTop) &&
  (if dir = 1 then inWorkspace rast ext else inWorkspace code len) &&
  decide (code + len ≤ rast ∨ rast + ext ≤ code)

/-- STRIDE of a raster of `w` elements (R129). -/
def strideOk (elem w stride : Nat) : Bool := decide (w * (elemFmt elem).bytes ≤ stride ∧ stride % 4 = 0)

/-- The extent in bytes of a raster of `w` by `h` elements. -/
def rastExtent (elem w h stride : Nat) : Nat := (h - 1) * stride + w * (elemFmt elem).bytes

/-- The descriptor LAKE_JOB meets R129, R132 and R147. -/
def jobOk (s : State) : Bool :=
  let o (k : Nat) : Nat := oget s k
  let elem := o Ob.LAKE_JOB_ELEM
  let w := o Ob.LAKE_JOB_W
  let h := o Ob.LAKE_JOB_H
  let stride := o Ob.LAKE_JOB_STRIDE
  decide (w % 8 = 0 ∧ 8 ≤ w ∧ w ≤ 32768 ∧ h % 4 = 0 ∧ 4 ≤ h ∧ h ≤ 262144) &&
  strideOk elem w stride &&
  decide (elem ≠ 0 ∨ o Ob.LAKE_JOB_FLIP = 0) &&
  jobPlaced (o Ob.LAKE_JOB_DIR) (o Ob.LAKE_JOB_RASTADDR) (rastExtent elem w h stride) (o Ob.LAKE_JOB_CODEADDR)
    (o Ob.LAKE_JOB_CODELEN)

/-- The context at START (R148). -/
def jobCtx (s : State) : LakeCtx :=
  { LakeCtx.zero with
    elem := oget s Ob.LAKE_JOB_ELEM, ratio := oget s Ob.LAKE_JOB_RATIO, mode := oget s Ob.LAKE_JOB_MODE
    qmax := oget s Ob.LAKE_JOB_QMAX, flip := oget s Ob.LAKE_JOB_FLIP, dir := oget s Ob.LAKE_JOB_DIR
    wblk := oget s Ob.LAKE_JOB_W / 8 - 1, hblk := oget s Ob.LAKE_JOB_H / 4 - 1
    crcA := 0xFFFFFFFF, crcB := if oget s Ob.LAKE_JOB_DIR = 0 then 0xFFFFFFFF else 0 }

/-- The own rule of LAKE_JOB_CMD (R148). -/
def ownLakeCmd (v : Nat) (s : State) : State × Nat :=
  let sl := slotOf s 3
  let st := sl.state
  let code := oget s Ob.LAKE_JOB_CODEADDR
  let len := oget s Ob.LAKE_JOB_CODELEN
  let no : State × Nat := (s, St.refused)
  if v = 1 then
    if decide (st = .idle ∨ st = .done ∨ st = .cancelled ∨ st = .decodeErr ∨ st = .fault) && jobOk s && lakeHasBank s then
      (startSlot 3 (.mk st 0 (jobCtx s) (oget s Ob.LAKE_JOB_RASTADDR) (oget s Ob.LAKE_JOB_STRIDE) code len 0 false false) s, St.ok)
    else no
  else if v = 2 then
    let c := sl.ctx
    if decide (st = .outFull ∨ st = .inEmpty ∨ st = .noFit ∨ st = .suspended) && lakeHasBank s &&
        strideOk c.elem (8 * (c.wblk + 1)) sl.stride && jobPlaced c.dir sl.rastAddr (rastExtent c.elem (8 * (c.wblk + 1)) (4 * (c.hblk + 1)) sl.stride) code len then
      (startSlot 3 { sl with codeAddr := code, codeLen := len, codePos := 0 } s, St.ok)
    else no
  else if v = 3 then
    if st ≠ .escape ∨ !lakeHasBank s then no
    else
      let c := sl.ctx
      let n := (elemFmt c.elem).bytes
      let raw := oget s Ob.LAKE_JOB_RAWADDR
      if dramTop < raw + 32 * n then no
      else
        let bad := poisonIn s raw (raw + 32 * n) ++ rastShut s sl
        if !bad.isEmpty then (faultSlot 3 bad s, St.ok)
        else
          let blk := (List.range 32).map (fun i => elemComps c.elem c.flip (memBE s (raw + i * n) n))
          let s1 := decodedBlock 3 blk s
          (startSlot 3 (slotOf s1 3) s1, St.ok)
  else if v = 4 then
    if st = .running then (setSlot 3 { sl with suspend := true } s, St.ok)
    else if st = .waiting then (stopSlot 3 .suspended 0 s, St.ok)
    else no
  else if v = 5 then
    if st = .running then (setSlot 3 { sl with cancel := true } s, St.ok)
    else if st = .idle then no
    else (stopSlot 3 .cancelled 0 s, St.ok)
  else no

/-- LAKE_START. -/
def execLakeStart (t : Nat) (h : Hdr) (s : State) : Host.Outcome State Fault Refusal :=
  .next (writeRow h Ob.LAKE_JOB_CMD 1 ownLakeCmd (s.at t))

/-- LAKE_RESUME. -/
def execLakeResume (t : Nat) (h : Hdr) (s : State) : Host.Outcome State Fault Refusal :=
  .next (writeRow h Ob.LAKE_JOB_CMD 2 ownLakeCmd (s.at t))

/-- LAKE_RAWBLK. -/
def execLakeRawblk (t : Nat) (h : Hdr) (s : State) : Host.Outcome State Fault Refusal :=
  .next (writeRow h Ob.LAKE_JOB_CMD 3 ownLakeCmd (s.at t))

/-- LAKE_SUSPEND. -/
def execLakeSuspend (t : Nat) (h : Hdr) (s : State) : Host.Outcome State Fault Refusal :=
  .next (writeRow h Ob.LAKE_JOB_CMD 4 ownLakeCmd (s.at t))

/-- LAKE_CANCEL. -/
def execLakeCancel (t : Nat) (h : Hdr) (s : State) : Host.Outcome State Fault Refusal :=
  .next (writeRow h Ob.LAKE_JOB_CMD 5 ownLakeCmd (s.at t))

/-! ## The context (R153, R154) -/

/-- The element of LEFT in its 32-bit field. -/
def leftWord (elem flip : Nat) (cs : List Nat) : Nat := elemWord elem flip cs

/-- The 512 bits of a context. LEFT holds the history as coded. BROW behind the last of 65,536 block rows reads 0 (log entry
18). -/
def LakeCtx.bits (c : LakeCtx) : Nat :=
  (List.range 4).foldl (fun a r => a + leftWord c.elem 0 (c.left.getD r []) * 2 ^ (480 - 32 * r)) 0 +
  b2n c.lvalid * 2 ^ 383 + c.elem * 2 ^ 381 + c.ratio * 2 ^ 380 + c.mode * 2 ^ 379 + c.qmax * 2 ^ 377 + c.flip * 2 ^ 375 +
  c.dir * 2 ^ 374 + c.wblk * 2 ^ 362 + c.bcol * 2 ^ 350 + c.hblk * 2 ^ 334 + c.brow % 2 ^ 16 * 2 ^ 318 + c.crcA * 2 ^ 286 +
  c.crcB * 2 ^ 254 + c.inCnt * 2 ^ 222 + c.outCnt * 2 ^ 190 + c.escCnt * 2 ^ 174

/-- The context that 512 bits give. -/
def LakeCtx.ofBits (n : Nat) : LakeCtx :=
  let elem := field n 381 2
  { left := (List.range 4).map (fun r => elemComps elem 0 (field n (480 - 32 * r) 32))
    lvalid := bit n 383, elem := elem, ratio := field n 380 1, mode := field n 379 1, qmax := field n 377 2
    flip := field n 375 2, dir := field n 374 1, wblk := field n 362 12, bcol := field n 350 12, hblk := field n 334 16
    brow := field n 318 16, crcA := field n 286 32, crcB := field n 254 32, inCnt := field n 222 32
    outCnt := field n 190 32, escCnt := field n 174 16 }

/-- A context may be loaded (R129, R132, R153). -/
def ctxOk (n : Nat) : Bool :=
  let c := LakeCtx.ofBits n
  decide (n % 2 ^ 174 = 0) && decide (c.elem ≠ 3) && decide (c.bcol ≤ c.wblk) && decide (c.brow ≤ c.hblk) &&
  decide (c.elem ≠ 0 ∨ c.flip = 0) && decide (c.mode = 0 ∨ c.qmax = 1 ∨ c.qmax = 2)

/-- Load a context into slot 3, which is then SUSPENDED (R153); the raster is that of LAKE_JOB. -/
def loadCtx (n : Nat) (s : State) : State × Nat :=
  let st := (slotOf s 3).state
  if decide (st = .idle ∨ st = .done ∨ st = .cancelled ∨ st = .decodeErr ∨ st = .fault) && ctxOk n then
    (setSlot 3 (.mk .suspended 0 (LakeCtx.ofBits n) (oget s Ob.LAKE_JOB_RASTADDR) (oget s Ob.LAKE_JOB_STRIDE) 0 0 0 false false) s,
      St.ok)
  else (s, St.refused)

/-- LAKE_CTX_WRITE: the completed download of a context, answered as its SEG_END. -/
def execLakeCtxWrite (t : Nat) (h : Hdr) (ctx : BitVec 512) (s : State) : Host.Outcome State Fault Refusal :=
  .next (request 8 h (Ob.LAKE_CTX / 256) (Ob.LAKE_CTX % 256 + 3) (toBE 4 (crc32 (toBE 64 ctx.toNat))) (fun st =>
    if (portOf st h.port).level < 2 then (violation h.port true (Ob.LAKE_CTX + 3) st, ⟨St.ok, []⟩)
    else
      let r := loadCtx ctx.toNat st
      (r.1, ⟨r.2, []⟩)) (s.at t))

/-- LAKE loses bank 2: a running or waiting job stops with FAULT (R145). -/
def lakeLost (s : State) : State := each (runningSlots s) (fun n => stopSlot n .fault 0) s

end Sys2Proof.Machine
end

