-- ==== Sys2Proof/Machine/Ledger.lean ====
section
/-!
DEFINITION. The arithmetic of the mordant ledger (chapter 10): the update of bias and age, the rounding hash, the
relief of a recovery write and the choice of the recovery code.
-/

namespace Sys2Proof.Machine

/-- Interpolation of 65 U8 anchors on the code contained in a fine code (R259). -/
def interp65 (t : Nat → Nat) (k : Nat) : Int :=
  let i := k / 1024
  let f := k / 64 % 16
  (t i : Int) + (((t (i + 1) : Int) - t i) * f + 8) / 16

/-- The rounding hash (R259), in 64-bit unsigned arithmetic. -/
def ledgerHash (s y e : Nat) : Nat :=
  let h := (s * 0x6C8E9CF570532A1D + y * 0x3B1FD26A94C70E55 + e) % 2 ^ 64
  let g := (h ^^^ (h / 2 ^ 29)) * 0xA4C917E35D08B6F1 % 2 ^ 64
  g ^^^ (g / 2 ^ 32)

/-- The duration of 16 scan frames in ns (R259), the rate in mHz. -/
def ledgerTupd (rate : Nat) : Nat := 16 * 10 ^ 12 / rate

/-- The emission-off window of a recovery write in ns (R259). -/
def ledgerTwin (lead rate vtotal : Nat) : Nat := lead * 10 ^ 12 / (rate * vtotal)

/-- The relief of one write of a code (R262), `r` the entry of MDL_RELIEF. -/
def relief (r twin : Nat) : Nat := 4 * r * twin

/-- The recovery code chosen for a bias (R262): the largest code up to `top` whose relief lies within the target. -/
def recoveryCode (rel : Nat → Nat) (top : Nat) (b : Int) : Nat :=
  if b ≤ 0 then 0
  else
    let tg := min (b.toNat * 2 ^ 31) (max (b.toNat * 2 ^ 21) (rel 1))
    (List.range (top + 1)).foldl (fun best c => if rel c ≤ tg then c else best) 0

/-- The new bias (R259), with the interval's confirmed writes; the flag says that B was clamped. -/
def biasUpdate (bold rawB : Int) (h : Nat) : Int × Bool :=
  let v := bold + (rawB + (h % 2 ^ 32 : Nat)) / (2 ^ 32 : Nat)
  (clampI (-32768) 32767 v, decide (v < -32768 ∨ v > 32767))

/-- The new age of a live subpixel (R259). -/
def ageUpdate (a rawA h : Nat) : Nat := min (a + (rawA + h / 2 ^ 8) / 2 ^ 56) 0xFFFE

/-- The whole update of one live subpixel (R259): bias, clamped flag, age.
`writes` counts the confirmed pass writes of the interval, `rel` gives the relief of a code. -/
def ledgerUpdate (stress emit : Nat → Nat) (rel : Nat → Nat) (top tupd duty writes k : Nat) (live : Bool)
    (s y e : Nat) (bold : Int) (a : Nat) : Int × Bool × Nat :=
  let rawB := interp65 stress k * tupd - writes * rel (recoveryCode rel top bold)
  let h := ledgerHash s y e
  let (b, cl) := biasUpdate bold rawB h
  (b, cl, if live then ageUpdate a ((interp65 emit k).toNat * duty * tupd) h else a)

end Sys2Proof.Machine
end

