-- ==== Sys2Proof/Machine/Wear.lean ====
section
/-!
DEFINITION. Dead subpixels, spare emitters and the spare-mask queue (R265 to R274), shorts as PNL first takes them
(R328, R329), and the journal's DEFECT records.
-/

namespace Sys2Proof.Machine

/-- The position of a subpixel. -/
def subPos (sub y : Nat) : Nat × Nat := (sub / 3 / 64, y / 32)

/-- The class of the position of a subpixel. -/
def subClass (s : State) (sub y : Nat) : Nat := shownClass s (subPos sub y).1 (subPos sub y).2

/-- The key of a subpixel in the tables of WEAR. -/
def subKey (sub y : Nat) : Nat := 32768 * y + sub

/-- Read the age of a subpixel (R157). -/
def ageOf (s : State) (sub y : Nat) : Nat := held16 s (ageAt sub y)

/-- Read the bias of a subpixel (R157). -/
def biasOf (s : State) (sub y : Nat) : Int := toSigned 16 (memBE s (biasAt sub y) 2)

/-- An entry of WEAR_LOG (R272 to R274) for a subpixel of a class, written into its ring. -/
def wearEntry (event cls sub y : Nat) (s : State) : State :=
  let i := if oget s Ob.WEAR_LOGIDX = 0 then 1 else oget s Ob.WEAR_LOGIDX
  let w := event * 2 ^ 61 + sub % 3 * 2 ^ 59 + sub / 3 * 2 ^ 46 + y * 2 ^ 33 + cls * 2 ^ 31 + s.scan.epoch % 2 ^ 31
  oset Ob.WEAR_LOGIDX (i % 64 + 1) (oset (Ob.WEAR_LOG + (i - 1)) w s)

/-- An entry of WEAR_LOG for a subpixel in its present class. -/
def wearLog (event sub y : Nat) (s : State) : State := wearEntry event (subClass s sub y) sub y s

/-- The subpixels whose map entry has both spent bits (R266). -/
def deadSubs (s : State) : List (Nat × Nat) :=
  ((within s.mem 0x6C000000 0x6F000000).flatMap (fun c =>
    let o := c.1 - 0x6C000000
    let i := 2 * (o % 11520)
    let y := o / 11520
    (if c.2.toNat / 32 % 4 = 3 then [(i, y)] else []) ++ (if c.2.toNat / 2 % 4 = 3 then [(i + 1, y)] else []))).filter
      (fun p => decide (p.1 < lineSubs s) && decide (p.2 < panelH s))

/-- A DEFECT record: subpixel, new map entry, new age (R478). -/
def jrnDefect (sub y : Nat) (s : State) : State :=
  jrnAdd 5 0 0 (subKey sub y) (defectOf s sub y) (toBE 2 (ageOf s sub y)) s

/-- Queue a band row for a spare-mask write, unless WEAR_SPARES is 0 (R267); a short raises its row to the head of its kind
(R269, R272). -/
def queueMask (b r : Nat) (short : Bool) (s : State) : State :=
  let q := s.wear.queue
  if !oflag s Ob.WEAR_SPARES then s
  else match q.find? (fun m => decide (m.band = b ∧ m.row = r)) with
  | some m =>
    let q1 := q.map (fun x => if x.band = b ∧ x.row = r then { x with short := m.short || short } else x)
    { s with wear := { s.wear with queue := q1 } }
  | none => { s with wear := { s.wear with queue := q ++ [.mk b r short 0] } }

/-- The row to serve next in a band: rows for shorts first, each kind in row order (R269). -/
def nextMask (s : State) (b : Nat) : Option MaskReq :=
  let mine := if oflag s Ob.WEAR_SPARES then s.wear.queue.filter (fun m => decide (m.band = b)) else []
  let kind := if mine.any (·.short) then mine.filter (·.short) else mine
  kind.foldl (fun best m => match best with
    | some x => if m.row < x.row then some m else some x
    | none => some m) none

/-- A change to SEL after the row's mask has been read queues the row again (R269). -/
def touchRow (b r : Nat) (short : Bool) (s : State) : State :=
  let sentNow := (bandScan s b).sent.any (fun x => decide (x.kind = 2 ∧ x.row = r))
  let s1 := queueMask b r short s
  if sentNow then { s1 with wear := { s1.wear with requeue := (b, r) :: s1.wear.requeue } } else s1

/-- Count a dead subpixel of a position (R274, R298). -/
def addDead (sub y : Nat) (s : State) : State :=
  let k := posKey (subPos sub y).1 (subPos sub y).2
  { s with wear := { s.wear with dead := upd (fun _ => 0) s.wear.dead k (· + 1) } }

/-- A short of a subpixel is resolved (R328). -/
def resolveShort (sub y : Nat) (s : State) : State :=
  { s with wear := { s.wear with shorts := del s.wear.shorts (subKey sub y) } }

/-- Declare a subpixel dead (R273): both spent bits, age 0xFFFF, SEL and PEND clear, the event logged; in a vermilion
position it raises the safety event of SM06. A SEL that it changes queues the row (R269). -/
def declareDead (sub y : Nat) (short : Bool) (s : State) : State :=
  let s0 := whenDo (bit (defectOf s sub y) 3) (touchRow (bandOf s y) (y - bandOf s y * bandH s) false) s
  let s1 := map16 (ageAt sub y) 0xFFFF (setDefect sub y 6 s0)
  let s2 := evc 0xC4 (addDead sub y (jrnDefect sub y (cnt Ob.WEAR_DEAD (wearLog (if short then 4 else 3) sub y s1))))
  let s3 := resolveShort sub y s2
  if subClass s3 sub y = 2 then safetyEvent 6 s3 else s3

/-- The emitter in use is spent (R267): switch to the other emitter, or declare the subpixel dead. -/
def spendEmitter (sub y b r : Nat) (short : Bool) (s : State) : State :=
  let e := defectOf s sub y
  let sel := bit e 3
  let e1 := setBit e (if sel then 1 else 2)
  let otherSpent := bit e1 (if sel then 2 else 1)
  if !otherSpent ∧ oflag s Ob.WEAR_SPARES then
    let e2 := setBit (putBit e1 3 (!sel)) 0
    let s1 := jrnDefect sub y (wearLog (if short then 2 else 1) sub y (setDefect sub y e2 s))
    touchRow b r short (evc 0xC3 s1)
  else declareDead sub y short (setDefect sub y e1 s)

/-- PNL's escalation (R329) is taken by the caller; this is WEAR's part of a short report (R272): driver, channel, the
panel row, and the record's fields for the log. -/
def shortReport (b r drv slot shorts ch : Nat) (s : State) : State :=
  let sub := drv * rget s Ob.DLK_NCH + ch
  let y := panelRow s b r
  let data := drv * 2 ^ 27 + slot * 2 ^ 13 + min shorts 7 * 2 ^ 10 + ch
  let s1 := logEv 0x0C 0 (2 ^ b) data (evc (0x68 + 8 * b + 7) (cnt Ob.WEAR_SHORTS s))
  if lineSubs s ≤ sub ∨ bandH s ≤ r then s1
  else if ageOf s sub y = 0xFFFF ∨ bit (defectOf s sub y) 0 then s1
  else
    let s2 := { s1 with wear := { s1.wear with shorts := ins s1.wear.shorts (subKey sub y) b } }
    spendEmitter sub y b r true s2

/-- The unresolved shorts of a band (PNL_SHORTOPEN). -/
def shortsOpen (s : State) (b : Nat) : Nat := (s.wear.shorts.filter (fun e => decide (e.2 = b))).length

/-- The subpixels of a panel row whose PEND is set. -/
def pendSubs (s : State) (y : Nat) : List Nat :=
  let base := defectAt 0 y
  (within s.mem base (base + 11520)).flatMap (fun c =>
    let i := 2 * (c.1 - base)
    (if bit c.2.toNat 4 then [i] else []) ++ (if bit c.2.toNat 0 then [i + 1] else []))

/-- A spare-mask write of a row is confirmed (R270); it ends a run of failures. -/
def maskConfirmed (b r : Nat) (s : State) : State :=
  let y := panelRow s b r
  let again := s.wear.requeue.contains (b, r)
  let s0 := cnt Ob.WEAR_MASKOK { s with wear := { s.wear with requeue := s.wear.requeue.filter (· ≠ (b, r)) } }
  if again then
    { s0 with wear := { s0.wear with
      queue := s0.wear.queue.map (fun m => if m.band = b ∧ m.row = r then { m with fails := 0 } else m) } }
  else
    let q := s0.wear.queue.filter (fun m => decide (m.band ≠ b ∨ m.row ≠ r))
    each (pendSubs s0 y) (fun sub st =>
      let st1 := setDefect sub y (clearBit (defectOf st sub y) 0) st
      let st2 := if ageOf st1 sub y = 0xFFFF then st1 else map16 (ageAt sub y) 0 st1
      let st3 := { st2 with wear := { st2.wear with zeroed := ins st2.wear.zeroed (subKey sub y) true } }
      resolveShort sub y (jrnDefect sub y (cnt Ob.WEAR_SINCECAL (cnt Ob.WEAR_SWITCHES st3))))
      { s0 with wear := { s0.wear with queue := q } }

/-- A spare-mask write that is not confirmed is queued again at once (R270); the third failure in a row on one row is
entered in the event log. -/
def maskFailed (b r : Nat) (s : State) : State :=
  let n := ((s.wear.queue.find? (fun m => decide (m.band = b ∧ m.row = r))).map (·.fails)).getD 0
  let s1 := evc 0xC5 (cnt Ob.WEAR_MASKFAIL (queueMask b r false s))
  let q := s1.wear.queue.map (fun m => if m.band = b ∧ m.row = r then { m with fails := n + 1 } else m)
  let s2 := { s1 with wear := { s1.wear with queue := q, requeue := s1.wear.requeue.filter (· ≠ (b, r)) } }
  if n + 1 = 3 then logEv 0x0B 1 (2 ^ b) (b * 65536 + r) s2 else s2

/-- After a panel power-up every band row that holds a subpixel with SEL = 1 is queued (R268). -/
def queueSelected (b : Nat) (s : State) : State :=
  let rows := (List.range (bandH s)).filter (fun r =>
    let base := defectAt 0 (panelRow s b r)
    (within s.mem base (base + 11520)).any (fun c => bit c.2.toNat 7 || bit c.2.toNat 3))
  if oflag s Ob.WEAR_SPARES then each rows (fun r => queueMask b r false) s else s

end Sys2Proof.Machine
end

