-- ==== Sys2Proof/Machine/PnlOps.lean ====
section
/-!
DEFINITION. The band rail sets, the lampblack path and the current limiter (R309 to R320, R328 to R331).
-/

namespace Sys2Proof.Machine

/-- Bands in use, lowest letter first. -/
def usedBands (s : State) : List Nat := List.range (bandCount s)

/-- The mask of the bands in use. -/
def usedMask (s : State) : Nat := 2 ^ bandCount s - 1

/-- Drive PVENa and PDISa of a band: never both high (R309). -/
def setRailPads (b : Nat) (pven pdis : Bool) (s : State) : State :=
  setPads b { padsOf s b with pven := pven, pdis := pdis && !pven } s

/-- The rail set of a band is on its way up or up. -/
def railUp (s : State) (b : Nat) : Bool :=
  decide ((railOf s b).state = .opening) || decide ((railOf s b).state = .rising) || decide ((railOf s b).state = .on)

/-- GOEa of a band is low. -/
def goeLow (b : Nat) (s : State) : State := setPads b { padsOf s b with goe := false } s

/-- A band whose rail set is not up follows a path from where it stands (R313): the step that remains comes no later than the path has
it (R320). -/
def fallOn (b down : Nat) (toCut : Bool) (pdis : Nat) (s : State) : State :=
  let r := railOf s b
  let falling := decide (r.state = .falling)
  setRail b { r with
    due := false, toCut := r.toCut || (toCut && falling), lastDown := if toCut then down else r.lastDown
    at_ := if falling then min r.at_ pdis else r.at_ } s

/-- A band's rail set falls: PVENa and PDISa low, and PDISa high `wait` ns later (R310, R316). -/
def fallIn (wait b down : Nat) (toCut : Bool) (s : State) : State :=
  let r := railOf s b
  let s1 := goeLow b s
  if railUp s b then
    setRail b { r with
      state := .falling, lastDown := down, toCut := toCut || r.toCut, due := false, fallDue := none, at_ := s.now + wait }
      (setRailPads b false false s1)
  else fallOn b down toCut (s.now + wait) s1

/-- A band falls by the native path: PDISa rises 12 µs after the trigger (R316). -/
def fall (b down : Nat) (toCut : Bool) (s : State) : State := fallIn 12000 b down toCut s

/-- In a timed sequence band number `i` of the path stays as it is until its step; a step that is due already comes no later
(R318, R320). -/
def fallLater (i b down : Nat) (toCut : Bool) (s : State) : State :=
  let r := railOf s b
  let s1 := goeLow b s
  let pven := s.now + 1000 * (oget s Ob.PNL_TPV + i * oget s Ob.PNL_TSTAG)
  if railUp s b then
    setRail b { r with
      due := false, toCut := toCut || r.toCut, fallDue := some (r.fallDue.getD down)
      at_ := if r.fallDue.isSome then min r.at_ pven else pven } s1
  else fallOn b down toCut (pven + 1000 * oget s Ob.PNL_TPD) s1

/-- A band follows the path in the mode in force (R316, R318), as number `i` of the bands concerned. -/
def fallBy (i b down : Nat) (toCut : Bool) (s : State) : State :=
  if oget s Ob.PNL_DISMODE = 1 then fallLater i b down toCut s else fall b down toCut s

/-- The step of a timed sequence that takes PVENa low reaches a band. -/
def fallStep (b : Nat) (s : State) : State :=
  match (railOf s b).fallDue with
  | some d => fallIn (1000 * oget s Ob.PNL_TPD) b d false s
  | none => s

/-- The time at which PDISa of a band that falls, or has to, is high. -/
def fallEnd (s : State) (b : Nat) : Nat :=
  let r := railOf s b
  if r.fallDue.isSome then r.at_ + 1000 * oget s Ob.PNL_TPD else if r.state = .falling then r.at_ else 0

/-- A falling band set is discharged: PDISa high, OFF or CUT (R310). -/
def discharged (b : Nat) (s : State) : State :=
  let r := railOf s b
  if r.state = .falling then
    setRail b { r with state := if r.toCut then .cut else .off, toCut := false } (setRailPads b false true s)
  else s

/-- A sequence is complete: the band has fallen and is discharged. -/
def fallDone (b : Nat) (s : State) : State := discharged b (fallStep b s)

/-- The counter and the code of PNL_RAIL of each all-band trigger: bit 0 RESET, 1 PFAIL, 2 CRACK (R315). -/
def pathCounter (c : Nat) : Nat :=
  if c = 0 then Ob.PNL_LB_RESET else if c = 1 then Ob.PNL_LB_PFAIL else Ob.PNL_LB_CRACK

/-- A trigger adds its cause to the path in progress (R320). -/
def addCause (p : LbPath) (c : Nat) (s : State) : State :=
  oset Ob.PNL_LB_LAST (p.causes ||| c) { s with pnl := { s.pnl with path := some { p with causes := p.causes ||| c } } }

/-- The lampblack path on every band for trigger `c` (R315, R316, R318), into which the cuts in progress merge. During a path a
trigger only adds its cause, but PFAIL and CRACK bring the remaining steps forward (R320). Pads that are still latched after a wake
are released to it (R38). -/
def startPath (c : Nat) (s : State) : State :=
  match s.pnl.path with
  | some p =>
    let s1 := addCause p (2 ^ c) s
    let s2 := whenDo (decide (c ≠ 0)) (each (usedBands s1) (fun b => fallBy b b (c + 2) false)) s1
    assertFault (cnt (pathCounter c) s2)
  | none =>
    let causes := 2 ^ c + if s.pnl.cutPath.isEmpty then 0 else 8
    let p := LbPath.mk (usedMask s) causes s.now
    let s1 := oset Ob.PNL_LB_LAST causes (assertFault (releasePads [1, 2] { s with pnl := { s.pnl with
      path := some p, cutPath := [], auto := 0 } }))
    let s2 := each (usedBands s1) (fun b st => holdBlack b false (fallBy b b (c + 2) false st)) s1
    evc 0xCA (cnt (pathCounter c) s2)

/-- The CUT path of one band (R289, R318, R329): absorbed by an all-band path (R320). -/
def cutBand (b down : Nat) (s : State) : State :=
  let s1 := oset Ob.SAF_CUTBANDS (setBit (oget s Ob.SAF_CUTBANDS) b) s
  let s2 := evc 0xCB (cnt Ob.PNL_LB_CUT s1)
  match s2.pnl.path with
  | some p => setRail b { railOf s2 b with lastDown := down } (addCause p 8 s2)
  | none =>
    let s3 := oset Ob.PNL_LB_LAST 8 (fallBy 0 b down true s2)
    holdBlack b false { s3 with pnl := { s3.pnl with cutPath := ins s3.pnl.cutPath b (.mk (2 ^ b) 8 s3.now) } }

/-! ## The current limiter -/

/-- d_lim of a band for a full-duty current and the unresolved shorts (R330): 64 limits nothing. -/
def dutyLimit (s : State) (b ifull : Nat) : Nat :=
  let den := ifull + shortsOpen s b * oget s (Ob.PNL_ISHORT + b)
  if den = 0 then 64 else max 1 (64 * oget s (Ob.PNL_ILIM + b) / den)

/-- A new unresolved short lowers the duty of the band, never raises it (R331). -/
def limitShort (b : Nat) (s : State) : State :=
  let d := min (bandScan s b).goeDuty (dutyLimit s b (oget s (Ob.PNL_IFULL + b)))
  oset (Ob.PNL_DUTYNOW + b) d (setBandScan b { bandScan s b with goeDuty := d } s)

/-- The limiter at the end of a frame (R330): I_full of the frame, the duty of the next, the count of limited frames. -/
def limitFrame (b : Nat) (s : State) : State :=
  let ifull := (bandScan s b).isum / 1000000
  let d := min (oget s (Ob.SCAN_DUTY + b)) (dutyLimit s b ifull)
  let s1 := oset (Ob.PNL_DUTYNOW + b) d (oset (Ob.PNL_IFULL + b) ifull s)
  let s2 := setBandScan b { bandScan s1 b with goeDuty := d, isum := 0, shortRec := 0, gaps := 0 } s1
  if d < oget s2 (Ob.SCAN_DUTY + b) then evc 0xC6 (cnt (Ob.PNL_LIMCNT + b) s2) else s2

/-- The current of one subpixel with a code (R330), its colour's anchors in nA. -/
def ipix (anchors : List Byte) (code : Nat) : Nat :=
  let a (i : Nat) : Int := ofBE ((anchors.drop (2 * i)).take 2)
  let i := code / 16
  (a i + ((a (i + 1) - a i) * (code % 16 : Nat) + 8) / 16).toNat

end Sys2Proof.Machine
end

