-- ==== Sys2Proof/Machine/Ind.lean ====
section
/-!
DEFINITION. Indigo readback: how the records of a slot are judged (R248 to R250, R255, R288, R289), how rows prove
transactions (R17, R122) and how recovery and spare-mask writes are confirmed (R261, R270).
-/

namespace Sys2Proof.Machine

/-- How a driver's record of a slot reads. -/
inductive Seen where
  | missing | badCrc | present (r : Rec) (inOrder : Bool)
deriving DecidableEq, Repr

/-- What the frame holds for driver `j`: its record with a valid RCRC, and whether it stands in order. A driver with
none has its record failing RCRC while failing records are left over, and otherwise missing. -/
def seenOf (recs : List Rec) (j : Nat) : Seen :=
  let good := recs.filter (·.rcrcOk)
  match good.find? (fun r => decide (r.drv = j)) with
  | some r => .present r ((good.takeWhile (fun x => decide (x.drv ≠ j))).all (fun x => decide (x.drv < j)))
  | none =>
    let before := ((List.range j).filter (fun i => good.all (fun x => decide (x.drv ≠ i)))).length
    if before < (recs.filter (fun x => !x.rcrcOk)).length then .badCrc else .missing

/-- A record shows SM05's missing failure (R250, R288). -/
def Seen.lost : Seen → Bool
  | .missing => true
  | .badCrc => true
  | .present r _ => r.linkErr

/-- A record is stale or out of order (R288). -/
def Seen.stale (x : Sent) : Seen → Bool
  | .present r ord => !r.linkErr && (!ord || decide (r.slot ≠ x.slot) || decide (r.fecho ≠ x.epoch % 65536))
  | _ => false

/-- A record that is otherwise valid fails SM04. -/
def Seen.sm04 (x : Sent) (j : Nat) (v : Seen) : Bool :=
  match v with
  | .present r _ => !v.lost && !v.stale x && decide (r.lcrc ≠ x.sigs.getD j 0)
  | _ => false

/-- The mismatch count of a record. -/
def Seen.mis : Seen → Nat
  | .present r _ => r.miscnt
  | _ => 0

/-- The mechanism that a driver's record fails for the proof of a row: 4, 5, 6, or 0 when it passes all three. -/
def Seen.failing (x : Sent) (j : Nat) (v : Seen) : Nat :=
  if v.lost || v.stale x then 5 else if v.sm04 x j then 4 else if v.mis ≠ 0 then 6 else 0

/-- Tile columns that the channels of a driver cover. -/
def drvCols (s : State) (j : Nat) : List Nat :=
  let n := rget s Ob.DLK_NCH
  let lo := j * n / 3 / 64
  let hi := min ((j + 1) * n) (lineSubs s)
  if hi ≤ j * n then [] else (List.range (tileCols s)).filter (fun tx => decide (lo ≤ tx ∧ tx ≤ (hi - 1) / 3 / 64))

/-- Drivers whose channels cover a tile column within the panel. -/
def colDrvs (s : State) (tx : Nat) : List Nat :=
  (List.range (rget s Ob.DLK_NDRV)).filter (fun j => (drvCols s j).contains tx)

/-- The class of a position as readback sees it (R226). -/
def rowClass (s : State) (tx y : Nat) : Nat := shownClass s tx (y / 32)

/-- The positions of class 2 that a driver covers in a panel row. -/
def drvVerm (s : State) (j y : Nat) : List Nat := (drvCols s j).filter (fun tx => decide (rowClass s tx y = 2))

/-- Whether an image row holds an ochre or vermilion pixel. -/
def rowSafety (s : State) (x : Sent) (y : Nat) : Bool :=
  decide (x.kind = 0) && (List.range (tileCols s)).any (fun tx => decide (rowClass s tx y ≠ 0))

/-- The band may be judged (R255, R288). -/
def judged (s : State) (b : Nat) : Bool :=
  decide ((bandScan s b).state ≤ 2) && (decide ((dlkOf s b).state = .ready) || decide ((dlkOf s b).state = .run))

/-- A band-class reaction of readback. In a band that is DARK for a band cause the failure is only counted; one that is DARK
through SAFE-DARK alone takes the cause (R297). -/
def readReact (n b : Nat) (s : State) : State :=
  if (bandScan s b).state = 2 ∧ bit (s.safe.dark ||| s.safe.unusable) b then s else bandReaction n b false false s

/-- Mark the band's present frame as having a failure (R300). -/
def dirtyBand (b : Nat) (s : State) : State := { s with safe := { s.safe with dirty := setBit s.safe.dirty b } }

/-- The SM04 rule for one record (R288, R289). -/
def judge04 (b : Nat) (x : Sent) (y j : Nat) (v : Seen) (s : State) : State :=
  if v.sm04 x j then
    let s1 := dirtyBand b (evc (0x68 + 8 * b) (cnt (Ob.IND_SM04 + b) (failure 4 s)))
    let k := 32 * b + j
    let d := get (fun _ => DrvJudge.initial) s1.safe.drv k
    let again := decide (d.sm04Epoch ≠ 0 ∧ x.epoch + 1 ≤ d.sm04Epoch + 1)
    let s2 := { s1 with safe := { s1.safe with
      drv := put (fun _ => DrvJudge.initial) s1.safe.drv k { d with sm04Epoch := x.epoch + 1 } } }
    let s3 := if rowSafety s2 x y ∨ again then readReact 4 b s2 else s2
    if (bandScan s2 b).state = 2 ∧ !bit (oget s2 Ob.SAF_CUTBANDS) b then cutBand b 5 s3 else s3
  else s

/-- The SM05 rules for one record (R288): stale at once; missing twice in a row. -/
def judge05 (b : Nat) (x : Sent) (j : Nat) (v : Seen) (s : State) : State :=
  let s0 := match v with
    | .missing => cnt (Ob.DLK_MISSREC + b) s
    | .badCrc => cnt (Ob.DLK_RCRCERR + b) s
    | .present r ord =>
      let s1 := if ord then s else cnt (Ob.DLK_RCRCERR + b) s
      if r.linkErr then evc (0x68 + 8 * b + 5) (cnt (Ob.DLK_LINKERR + b) s1) else s1
  if v.lost || v.stale x then
    let s1 := dirtyBand b (evc (0x68 + 8 * b + 1) (cnt (Ob.IND_SM05 + b) (failure 5 s0)))
    if v.stale x then readReact 5 b s1
    else
      let k := 32 * b + j
      let d := get (fun _ => DrvJudge.initial) s1.safe.drv k
      let s2 := { s1 with safe := { s1.safe with
        drv := put (fun _ => DrvJudge.initial) s1.safe.drv k { d with sm05Slot := x.number + 1 } } }
      if d.sm05Slot = x.number ∧ x.number ≠ 0 then readReact 5 b s2 else s2
  else s0

/-- The hatch of cause 4 lifts from the positions of a driver row that no other driver row holds (R288). -/
def liftM6 (b j r : Nat) (s : State) : State :=
  let y := panelRow s b r
  let others := s.safe.m6.filter (fun e => e.2.hatch)
  each (drvCols s j) (fun tx st =>
    let held := others.any (fun e =>
      let b' := e.1 / 8192 / 32
      let j' := e.1 / 8192 % 32
      decide (panelRow st b' (e.1 % 8192) / 32 = y / 32) && (drvCols st j').contains tx)
    if held then st else setCause 4 false tx (y / 32) st) s

/-- The SM06 rules for one record of an image row (R288). -/
def judge06 (b : Nat) (x : Sent) (y j : Nat) (v : Seen) (s : State) : State :=
  let k := 8192 * (32 * b + j) + x.row
  let m := get (fun _ => M6.initial) s.safe.m6 k
  let wr (m : M6) (st : State) : State :=
    { st with safe := { st.safe with m6 := put (fun _ => M6.initial) st.safe.m6 k m } }
  if x.kind ≠ 0 then s
  else if v.lost || v.stale x then (if m.hatch then wr { m with clean := 0 } s else s)
  else if v.mis = 0 then
    if m.hatch then
      if oget s Ob.IND_M6CLEAR ≤ m.clean + 1 then liftM6 b j x.row (wr { m with hatch := false, clean := 0 } s)
      else wr { m with clean := m.clean + 1 } s
    else s
  else
    let s1 := evc (0x68 + 8 * b + 2) (cnt (Ob.IND_SM06 + b) (failure 6 s))
    let bandFail := decide (oget s Ob.IND_M6BAND ≤ v.mis)
    let verm := drvVerm s1 j y
    let tileFail := !verm.isEmpty
    let tileHit := tileFail && decide (m.tileEpoch = x.epoch ∧ x.epoch ≠ 0)
    let m1 : M6 := { m with
      bandEpoch := if bandFail then x.epoch + 1 else m.bandEpoch
      tileEpoch := if tileFail then x.epoch + 1 else m.tileEpoch
      hatch := m.hatch || tileHit
      clean := 0 }
    let s2 := wr m1 s1
    let s3 := if tileHit then tileReaction 6 true false (each verm (fun tx => setCause 4 true tx (y / 32)) s2) else s2
    if bandFail ∧ m.bandEpoch = x.epoch ∧ x.epoch ≠ 0 then readReact 6 b s3 else s3

/-- Row return (SM14, R244, R288): what the record of the reporting driver must show in this slot. -/
def returnBad (s : State) (b : Nat) (x : Sent) (r : Rec) : Bool :=
  let hb := bandH s
  let wantS := decide (x.slot = hb - 1)
  let wantB := decide (x.epoch % 8 = 0 ∧ x.slot + 1 + rget s Ob.SCAN_RECLEAD = hb) && (bandScan s b).biasTok
  decide (r.rets ≠ wantS) || decide (r.retb ≠ wantB)

/-- IND_SM14 and its event counter count the frames that failed, each once (R492). -/
def countFrame14 (b : Nat) (x : Sent) (s : State) : State :=
  let k := 32 * b + rget s Ob.DLK_RETDRV
  let d := get (fun _ => DrvJudge.initial) s.safe.drv k
  if d.sm14Epoch = x.epoch + 1 then s
  else evc (0x68 + 8 * b + 4) (cnt (Ob.IND_SM14 + b) { s with safe := { s.safe with
    drv := put (fun _ => DrvJudge.initial) s.safe.drv k { d with sm14Epoch := x.epoch + 1 } } })

/-- The SM14 rule for the reporting driver's record. -/
def judge14 (b : Nat) (x : Sent) (v : Seen) (s : State) : State :=
  match v with
  | .present r _ =>
    if !v.lost && !v.stale x && returnBad s b x r then
      readReact 14 b (dirtyBand b (countFrame14 b x (failure 14 s)))
    else s
  | _ => s

/-- The confirmation of a recovery write by one driver (R250, R261). -/
def judgeRec (b : Nat) (x : Sent) (j : Nat) (v : Seen) (s : State) : State :=
  if !x.recW then s
  else
    let want := match look (dlkOf s b).deliv x.recRow with
      | some d => d.sigs.getD j 0
      | none => 0
    let miss := match v with
      | .present r _ => r.recMiss || decide (r.recCrc ≠ want)
      | _ => false
    let ok := match v with
      | .present r _ => !v.lost && !v.stale x && r.recMade && decide (r.recTag = x.pass % 65536) && !miss
      | _ => false
    let s1 := if miss then evc (0x68 + 8 * b + 6) (cnt (Ob.DLK_RECMISS + b) s) else s
    if ok then
      { s1 with wear := { s1.wear with confirm := upd (fun _ => 0) s1.wear.confirm (32 * (8192 * b + x.recRow) + j) (· + 1) } }
    else evc 0xC2 (cnt Ob.MDL_UNCONF s1)

/-- A record that reports shorts (R250, R272, R328, R329): it concerns the band row of its SLOT, and in a gap the row that the gap
addressed (R338). -/
def judgeShort (b : Nat) (x : Sent) (v : Seen) (s : State) : State :=
  match v with
  | .present r _ =>
    if r.shorts = 0 then s
    else
      let bs := bandScan s b
      let s1 := setBandScan b { bs with shortRec := bs.shortRec + 1 } s
      let s2 := limitShort b (shortReport b (if x.kind = 3 then x.row else r.slot) r.drv r.slot r.shorts r.shortCh s1)
      if oget s2 Ob.PNL_SHORTBAND < bs.shortRec + 1 ∧ !bit (oget s2 Ob.SAF_CUTBANDS) b then
        cutBand b 6 (bandReaction 6 b false false (failure 6 s2))
      else s2
  | _ => s

/-- Rows of a tile that lie within the panel. -/
def tileRowsIn (s : State) (ty : Nat) : Nat := min 32 (panelH s - 32 * ty)

/-- Row `y` proves or fails the transaction shown at a position (R17, R121, R122). -/
def provePos (x : Sent) (y : Nat) (seen : List Seen) (tx : Nat) (s : State) : State :=
  let ty := y / 32
  let p := posOf s (posKey tx ty)
  match p.shown.tag with
  | none => s
  | some t =>
    let g := tagOf s t
    let n := y % 32
    let hatched := ((x.hatch.drop (64 * tx)).take 64).any (·)
    if g.state ≠ .verifying ∨ bit g.proved n ∨ x.black ∨ hatched ∨ s.scan.selNow ≠ 0 ∨ x.tags.getD tx none ≠ some t then s
    else
      let bad := (colDrvs s tx).foldl (fun m j =>
        if m ≠ 0 then m else (seen.getD j .missing).failing x j) 0
      if bad ≠ 0 then nakTx t 0x11 bad y s
      else
        let pr := setBit g.proved n
        if pr = 2 ^ tileRowsIn s ty - 1 then seenTx t x.epoch (setTag t { g with proved := pr } s)
        else setTag t { g with proved := pr } s

/-- The driver link fails when a driver is lost in 4 slots in a row, or all records fail RCRC in 4 (R255). -/
def judgeLink (b : Nat) (x : Sent) (seen : List Seen) (s : State) : State :=
  let d := dlkOf s b
  let lost := seen.any (fun v => match v with
    | .missing => true
    | .badCrc => false
    | .present r _ => r.linkErr)
  let crc := !seen.isEmpty && seen.all (fun v => decide (v = .badCrc))
  let f := if lost then (if d.failSlot + 1 = x.number ∧ d.failRun ≠ 0 then d.failRun + 1 else 1) else 0
  let c := if crc then (if d.crcSlot + 1 = x.number ∧ d.crcRun ≠ 0 then d.crcRun + 1 else 1) else 0
  let d1 := { d with failRun := f, failSlot := if lost then x.number else d.failSlot, crcRun := c,
                     crcSlot := if crc then x.number else d.crcSlot }
  if 4 ≤ f ∨ 4 ≤ c then
    let s1 := setDlk b { d1 with state := .failed, cause := if 4 ≤ f then 6 else 7, failRun := 0, crcRun := 0 } s
    if (bandScan s1 b).state = 2 then s1 else bandReaction 5 b false false (failure 5 s1)
  else setDlk b d1 s

/-- Slots of a frame with a missing failure beyond IND_BURST darken the band (R288). -/
def judgeBurst (b : Nat) (seen : List Seen) (s : State) : State :=
  if seen.any Seen.lost then
    let n := get (fun _ => 0) s.safe.burst b + 1
    let s1 := { s with safe := { s.safe with burst := put (fun _ => 0) s.safe.burst b n } }
    if oget s Ob.IND_BURST < n then readReact 5 b s1 else s1
  else s

/-- A spare-mask slot is confirmed when every driver's record is valid, names the slot and its epoch and shows no LINKERR
(R270). -/
def judgeMask (b : Nat) (x : Sent) (seen : List Seen) (s : State) : State :=
  if x.kind ≠ 2 then s
  else if seen.all (fun v => match v with
      | .present r _ => !r.linkErr && decide (r.slot = x.slot) && decide (r.fecho = x.epoch % 65536)
      | _ => false)
  then maskConfirmed b x.row s
  else maskFailed b x.row s

/-- A slot whose band is not judged: a recovery write was made without confirmation, and a spare mask failed (R261, R270). -/
def unjudged (b : Nat) (x : Sent) (s : State) : State :=
  let m := rget s Ob.DLK_NDRV
  let s1 := if x.recW then iter (evc 0xC2) m (cntBy Ob.MDL_UNCONF m s) else s
  if x.kind = 2 then maskFailed b x.row s1 else s1

/-- Judge the records of a slot. -/
def judgeSlot (b : Nat) (x : Sent) (recs : List Rec) (s : State) : State :=
  if !judged s b then unjudged b x s
  else
    let m := rget s Ob.DLK_NDRV
    let y := panelRow s b x.row
    let seen := (List.range m).map (seenOf recs)
    let s1 := if x.kind = 0 then each (List.range (tileCols s)) (provePos x y seen) s else s
    let s2 := each (seen.zipIdx) (fun vj st =>
      let v := vj.1
      let j := vj.2
      judgeShort b x v (judgeRec b x j v (judge06 b x y j v (judge05 b x j v (judge04 b x y j v st))))) s1
    let s3 := judge14 b x (seen.getD (rget s2 Ob.DLK_RETDRV) .missing) s2
    let s4 := judgeMask b x seen (judgeBurst b seen s3)
    let s5 := judgeLink b x seen s4
    if x.kind = 0 ∧ x.slot + 1 = bandH s5 then
      scanEvent 3 b (0x40 + 8 * b + 2) (setBandScan b { bandScan s5 b with doneFrame := some (x.epoch % 65536) } s5)
    else s5

/-- Keep the most recent record of each driver (0x7200, R395). -/
def keepRecords (b : Nat) (raw : List (BitVec 192)) (s : State) : State :=
  each raw (fun r st =>
    let d := Rec.ofBits r
    if d.rcrcOk ∧ d.drv < 24 then
      { st with drvRec := ins st.drvRec (24 * b + d.drv) r } else st) s

end Sys2Proof.Machine
end

