-- ==== Sys2Proof/Machine/Ppl.lean ====
section
/-!
DEFINITION. The pixel pipeline over the machine's state (chapter 07): the parameters of a frame, the overlay that FRS
reports for a row (R282 to R286), the preparation of a line and the line sent to the drivers (R237, R238).
-/

namespace Sys2Proof.Machine

/-! ## The parameters of a frame -/

/-- The thermistors that read valid, in 0.125 °C (R335). -/
def validTherms (s : State) : List Int :=
  ((List.range 4).filter (fun i => decide (oget s (Ob.CAL_THMTEMP + i) ≠ 0x8000))).map
    (fun i => toSigned 16 (oget s (Ob.CAL_THMTEMP + i)))

/-- The temperature a band takes now: its thermistor's, else the mean of the valid ones (R187). -/
def tempNow (s : State) (b : Nat) : Option Int :=
  let v := oget s (Ob.CAL_THMTEMP + oget s (Ob.CMP_THMSEL + b))
  let ok := validTherms s
  if v ≠ 0x8000 then some (toSigned 16 v)
  else if !ok.isEmpty then some (ok.foldl (· + ·) 0 / (ok.length : Int))
  else none

/-- The temperature of a band (R187): with no valid thermistor its last one, and before any that of set 0. -/
def bandTemp (s : State) (b : Nat) : Int :=
  (tempNow s b).getD ((look s.scan.tbLast b).getD (toSigned 16 (oget s Ob.CMP_SETTEMP)))

/-- The bands keep the temperatures they have taken (R187). -/
def keepTemps (s : State) : State :=
  let took := [0, 1, 2, 3].filterMap (fun b => (tempNow s b).map (fun v => (b, v)))
  { s with scan := { s.scan with tbLast := took.foldl (fun m e => ins m e.1 e.2) s.scan.tbLast } }

/-- The parameters in force now, as the latch of frame `epoch` takes them (R178). -/
def takeLatch (epoch : Nat) (s : State) : Latch where
  epoch := epoch
  obj := s.obj
  dom := s.scan.tableAct
  regions := s.scan.regAct
  tb := [0, 1, 2, 3].map (bandTemp s)
  sel := s.scan.selNow

/-- A scalar parameter of a latch. -/
def Latch.get (l : Latch) (k : Nat) : Nat := Machine.get objDefault l.obj k

/-- The active copy of a two-copy table in a latch (R179). -/
def Latch.table (l : Latch) (k : Nat) : List Byte := Machine.get domDefault l.dom k

/-- Entry `i` of a table of halfwords. -/
def tab16 (t : List Byte) (i : Nat) : Nat := ofBE ((t.drop (2 * i)).take 2)

/-- Entry `i` of a table of bytes. -/
def tab8 (t : List Byte) (i : Nat) : Nat := (t.getD i 0).toNat

/-- The set pair and weight of a band (R187). -/
def setPair (l : Latch) (b : Nat) : Nat × Nat × Nat :=
  let n := l.get Ob.CMP_NSETS
  let temp (i : Nat) : Int := toSigned 16 (l.get (Ob.CMP_SETTEMP + i))
  let t := l.tb.getD b (temp 0)
  if n ≤ 1 ∨ t ≤ temp 0 then (0, 0, 0)
  else if temp (n - 1) ≤ t then (n - 1, n - 1, 0)
  else
    let i := ((List.range (n - 1)).filter (fun i => decide (temp i ≤ t))).length - 1
    (i, i + 1, (((t - temp i) * 256) / (temp (i + 1) - temp i)).toNat)

/-! ## Overlays -/

/-- The tile positions of the panel that a DRAM word feeds (R157, R162): `b` tells buffer A from B for a scan buffer
word, and is none for the maps. -/
def wordFeeds (w : Nat) : List (Nat × Nat) × Option Bool :=
  let a := 8 * w
  if a < 0x10000000 then
    let o := a % 0x08000000
    ([(o % 30720 / 4 / 64, o / 30720 / 32)], some (decide (0x08000000 ≤ a)))
  else if 0x4C000000 ≤ a ∧ a < 0x64000000 then
    let o := if a < 0x58000000 then a - 0x4C000000 else a - 0x58000000
    let y := o / 46080
    let i := o % 46080 / 2
    ([(i / 3 / 64, y / 32), ((i + 3) / 3 / 64, y / 32)], none)
  else if 0x6C000000 ≤ a ∧ a < 0x6F000000 then
    let y := (a - 0x6C000000) / 11520
    let i := (a - 0x6C000000) % 11520 * 2
    ([(i / 3 / 64, y / 32), ((i + 15) / 3 / 64, y / 32)], none)
  else if 0x70000000 ≤ a ∧ a < 0x70100000 then
    let node (o : Nat) : List (Nat × Nat) :=
      let n := o % 0x20000 / 6
      let px := n % 121
      let py := n / 121
      [(px, py), (px - 1, py), (px, py - 1), (px - 1, py - 1)]
    (node (a - 0x70000000) ++ node (a - 0x70000000 + 7), none)
  else ([], none)

/-- Whether a row of frame `epoch` prepared now already shows a position's pending content: its swap takes effect at
the start of that frame (R108, R220; log entry 20). -/
def pendFor (s : State) (epoch : Nat) (p : Pos) : Bool :=
  match p.pend, p.pendAt with
  | some _, some e => decide (e ≤ epoch) && decide (s.scan.epoch < epoch)
  | _, _ => false

/-- A word of a correction grid belongs to a set that the position's bands use (R187, R188); every other word passes. -/
def gridUsed (s : State) (l : Latch) (w ty : Nat) : Bool :=
  let a := 8 * w
  let set := (a - 0x70000000) / 0x20000
  decide (a < 0x70000000) || (bandsOfTileRow s ty).any (fun b =>
    let p := setPair l b
    decide (set = p.1) || decide (set = p.2.1))

/-- A poisoned word feeds the position in the latch's frame (R162): the scan buffer shown, the demura map, the age
plane, the defect map or a correction grid. -/
def memBad (s : State) (l : Latch) (tx ty : Nat) : Bool :=
  let p := posOf s (posKey tx ty)
  s.poison.any (fun e =>
    let f := wordFeeds e.1
    f.1.contains (tx, ty) && gridUsed s l e.1 ty && (match f.2 with
      | some b => decide (b = Bool.xor p.sel (pendFor s l.epoch p))
      | none => true))

/-- The standing causes of R285 that hold for a position, judged for a row programmed at `start` ns in frame `epoch`. -/
def overlayCauses (s : State) (l : Latch) (tx ty start : Nat) : List Nat :=
  let p := posOf s (posKey tx ty)
  let (cls, age) := classIn l.regions (l.get Ob.FRS_DEFCLASS) (l.get Ob.FRS_MAXAGE) tx ty
  let inj := match s.safe.inj with
    | some (_, c, e) => if tx = 0 ∧ ty = 0 ∧ e = l.epoch then [c] else []
    | none => []
  let base := match p.shown.vouched with
    | some v =>
      (if cls ≠ 0 ∧ age * 1000000 < start - v then [1] else []) ++
      (if decide (cls = 2) && (match s.safe.sm02At with | some f => decide (v < f) | none => false) then [3] else [])
    | none => if cls ≠ 0 then [2] else []
  let m6 := if bit p.bad 4 then [4] else []
  let dead := if cls = 2 ∧ l.get Ob.FRS_DEADVERM = 1 ∧ get (fun _ => 0) s.wear.dead (posKey tx ty) ≠ 0 then [5] else []
  let fmt := if bit p.bad 6 then [6] else []
  let mem := if bit p.bad 7 || bit p.bad 8 || memBad s l tx ty then [7] else []
  let all := if l.sel ≠ 0 then inj else base ++ m6 ++ dead ++ fmt ++ mem ++ inj
  sortAsc all

/-- OVL and CAUSE of the causes that apply (R283, R285). -/
def overlayOf (l : Latch) (causes : List Nat) : Nat × Nat :=
  match causes with
  | [] => (0, 0)
  | [2] => (if l.get Ob.FRS_UNVOUCHED = 1 then 2 else 1, 2)
  | c :: _ => (1, c)

/-- FRS's judgement of one position for a row (R282): it is recorded; an expiry counts once per frame, in a vermilion
position with the SM01 event; the first hatched row of a frame enters the hatch (R287). -/
def judgePos (l : Latch) (tx ty start : Nat) (s : State) : State :=
  let k := posKey tx ty
  let p := posOf s k
  let cs := overlayCauses s l tx ty start
  let (ovl, cause) := overlayOf l cs
  let cls := (classIn l.regions (l.get Ob.FRS_DEFCLASS) (l.get Ob.FRS_MAXAGE) tx ty).1
  let fresh := cs.contains 1 && decide (p.expired ≠ some l.epoch)
  let wasHatched := decide (p.hatched = some l.epoch) || (decide (l.epoch ≠ 0) && decide (p.hatched = some (l.epoch - 1)))
  let p1 := { p with judged := some (l.epoch, ovl * 8 + cause),
                     hatched := if ovl = 1 then some l.epoch else p.hatched,
                     expired := if cs.contains 1 then some l.epoch else p.expired }
  let s1 := setPos k p1 s
  let s2 := if fresh then
      (if cls = 2 then tileReaction 1 true false (failure 1 (cnt Ob.FRS_EXPIRE_V s1)) else cnt Ob.FRS_EXPIRE_O s1)
    else s1
  if ovl = 1 ∧ !wasHatched then
    let s3 := evc 0x9C (if cls = 2 then pendEvt 3 s2 else s2)
    { s3 with scan := { s3.scan with hatchCnt := s3.scan.hatchCnt + 1
                                     hatchFirst := if s3.scan.hatchCnt = 0 then tx * 256 + ty else s3.scan.hatchFirst } }
  else s2

/-- The overlay of a pixel (R286). -/
def pixelOverlay (l : Latch) (ovl x y : Nat) : Overlay :=
  if ovl = 0 then .none
  else if ovl = 2 then .ground
  else if (x + l.get Ob.FRS_HATCHORG_X + y + l.get Ob.FRS_HATCHORG_Y + l.epoch) % 8 < 3 then .stripe else .ground

/-! ## Blinking -/

/-- The effective blink group of a pixel (R227, R228). -/
def blinkGroup (l : Latch) (x y g : Nat) : Nat :=
  let rects := (within l.obj Ob.CRM_RECT (Ob.CRM_RECT + 64)).map (·.2)
  match rects.find? (fun r => bit r 63 && decide (field r 43 13 ≤ x) && decide (x ≤ field r 30 13)
      && decide (field r 17 13 ≤ y) && decide (y ≤ field r 4 13)) with
  | some r => field r 60 3
  | none => g

/-- q, Np and whether group `g` (1 to 4) is in its first phase (R229). -/
def blinkState (l : Latch) (rate g : Nat) : Nat × Nat × Bool :=
  let np := blinkNp rate (l.get (Ob.CRM_PERIOD + (g - 1)))
  let q := blinkQ l.epoch (blinkNph rate (l.get (Ob.CRM_PHASE + (g - 1))) np) np
  (q, np, decide (q < blinkNon np (l.get (Ob.CRM_DUTY + (g - 1)))))

/-- What a group shows: the colour that replaces the codes, and whether the dim flag is set (R230). -/
def blinkShow (l : Latch) (rate g : Nat) : Option Nat × Bool :=
  if g = 0 then (none, false)
  else
    let first := (blinkState l rate g).2.2
    let mode := l.get (Ob.CRM_MODE + (g - 1))
    let c1 := l.get (Ob.CRM_COLOUR1 + (g - 1))
    let c2 := l.get (Ob.CRM_COLOUR2 + (g - 1))
    if mode = 1 then (some (if first then c1 else c2), false)
    else if mode = 2 then (if first then some c1 else none, false)
    else if mode = 3 then (none, !first)
    else (none, false)

/-! ## Preparing a line -/

/-- The buffer that a position is read from in the latch's frame (R218). -/
def sideOf (s : State) (l : Latch) (tx ty : Nat) : Bool :=
  let p := posOf s (posKey tx ty)
  Bool.xor p.sel (pendFor s l.epoch p)

/-- The scan word of a pixel: a plate's, or that of the buffer the position is read from (R182, R218). A poisoned plate word
is never delivered as if it were valid: it reads as black (R162; log entry 85). -/
def scanWord (s : State) (l : Latch) (sides : List Bool) (x y : Nat) : Nat :=
  if l.sel ≠ 0 then
    let a := plateWordAt (l.sel - 1) x y
    if poisoned s a then 0 else memBE s a 4
  else memBE s (bufWordAt (sides.getD (x / 64) false) x y) 4

/-- The transaction whose content a row prepared now shows. -/
def rowTag (s : State) (l : Latch) (tx ty : Nat) : Option Nat :=
  let p := posOf s (posKey tx ty)
  if l.sel ≠ 0 then none
  else if pendFor s l.epoch p then p.pend.bind (·.tag) else p.shown.tag

/-- Stages 1 to 3 of a pixel: the three values after linearisation, the dim flag and its level (R182 to R185). -/
def stages123 (s : State) (l : Latch) (sides : List Bool) (x y : Nat) : List Nat × Bool × Nat :=
  let w := scanWord s l sides x y
  let g := blinkGroup l x y (wordBlink w)
  let (col, dim) := blinkShow l (rget s Ob.SCAN_RATE) g
  let c := col.getD w
  let codes := [wordComp c 0, wordComp c 1, wordComp c 2]
  let byp := l.get Ob.PPL_BYPASS
  let curve (k : Nat) : Nat := tab16 (l.table (Ob.PPL_ICURVE + k)) (codes.getD k 0)
  let lin : List Nat := if bit byp 0 then codes.map straight
    else
      let m (i : Nat) : Int := toSigned 16 (l.get (Ob.PPL_MATRIX + i))
      [colourMap m curve 0, colourMap m curve 1, colourMap m curve 2]
  let out := lin.zipIdx.map (fun p => if bit byp 1 then p.1 else linearise (tab16 (l.table (Ob.PPL_LIN + p.2))) p.1)
  (out, dim, if g = 0 then 0 else l.get (Ob.CRM_DIM + (g - 1)))

/-- The grid gain of a subpixel (R188). -/
def gridOf (s : State) (pair : Nat × Nat × Nat) (x y c : Nat) : Nat :=
  let (a, a', w) := pair
  let tx := x / 64
  let ty := y / 32
  let p (px py : Nat) : Nat :=
    let i := (121 * py + px) * 6 + 2 * c
    cornerGain w (memBE s (gridAt a i) 2) (memBE s (gridAt a' i) 2)
  gridGain (x % 64) (y % 32) (p tx ty) (p (tx + 1) ty) (p tx (ty + 1)) (p (tx + 1) (ty + 1))

/-- Stage 5 of a subpixel (R188, R189). -/
def stage5 (s : State) (l : Latch) (pair : Nat × Nat × Nat) (x y c d : Nat) : Nat :=
  let byp := l.get Ob.PPL_BYPASS
  let y4 := if bit byp 2 then d else gridCorrect (gridOf s pair x y c) d
  if bit byp 3 then y4 else demura (memBE s (demuraAt (3 * x + c) y) 2) y4

/-- What a prepared pixel gives: the stage 8 values, and the colours marked saturated (R190 to R193). -/
def pixelOut (s : State) (l : Latch) (b y : Nat) (ovls : List Nat) (sides : List Bool) (x : Nat) : List (Nat × Bool) :=
  let pair := setPair l b
  let byp := l.get Ob.PPL_BYPASS
  let (d, dim, level) := stages123 s l sides x y
  let plain (x : Nat) : Bool := decide (l.sel ≠ 0) ||
    decide ((classIn l.regions (l.get Ob.FRS_DEFCLASS) (l.get Ob.FRS_MAXAGE) (x / 64) (y / 32)).1 = 0)
  let ov := pixelOverlay l (ovls.getD (x / 64) 0) x y
  [0, 1, 2].map (fun c =>
    let sub := 3 * x + c
    let age := memBE s (ageAt sub y) 2
    let y5 := stage5 s l pair x y c (d.getD c 0)
    let (y6, sat) := ageGain (bit byp 4) (tab16 (l.table (Ob.CMP_AGEGAIN + c))) age y5
    let help (x' : Nat) : Nat → Nat := fun v =>
      if x' < panelW s ∧ memBE s (ageAt (3 * x' + c) y) 2 = deadAge ∧ plain x' then
        conceal v (stage5 s l pair x' y c ((stages123 s l sides x' y).1.getD c 0))
      else v
    let y6' := if l.get Ob.PPL_CONCEAL = 1 ∧ age ≠ deadAge ∧ plain x then
        help (x + 1) (if x = 0 then y6 else help (x - 1) y6)
      else y6
    let y7 := brightness (l.get (Ob.PPL_BRIGHT + b)) y6'
    (overlayMix (decide (age = deadAge)) ov (l.get (Ob.PPL_HATCH + c)) dim level y7, sat))

/-- The latch a row's preparation uses: the row's own frame (R178, R282). -/
def rowLatch (s : State) (row : Nat) : Option Latch := if s.scan.slot < row then s.scan.latch else s.scan.latchNext

/-- When slot `k` of the latch's frame starts, ns (R202). -/
def slotStartNs (s : State) (epoch k : Nat) : Nat :=
  let p := s.scan.frameP
  s.scan.frameAt + 2 * ((if s.scan.epoch < epoch then p else 0) + (if vtotal s = 0 then 0 else k * p / vtotal s))

/-- A word of the store that PPL reads for panel line `y` (R157, R176). -/
def lineReads (s : State) (l : Latch) (sides : List Bool) (y w : Nat) : Bool :=
  let a := 8 * w
  let base := if l.sel ≠ 0 then plateWordAt (l.sel - 1) 0 y else bufWordAt (decide (0x08000000 ≤ a)) 0 y
  let inLine := decide (base ≤ a) && decide (a < base + 4 * panelW s)
  if a < 0x40000000 then
    inLine && (decide (l.sel ≠ 0) || decide (sides.getD ((a - base) / 256) false = decide (0x08000000 ≤ a)))
  else feedsLine s w y

/-- PPL prepares a row of a LIVE band: FRS judges its positions, then stages 1 to 8 run (R178, R282); a poisoned word that is
read is reported (R161). -/
def prepareRow (b row : Nat) (l : Latch) (s : State) : State :=
  let y := panelRow s b row
  let ty := y / 32
  let start := slotStartNs s l.epoch row
  let cols := List.range (tileCols s)
  let s1 := each cols (fun tx => judgePos l tx ty start) s
  let ovls := cols.map (fun tx => (overlayOf l (overlayCauses s1 l tx ty start)).1)
  let sides := cols.map (fun tx => sideOf s1 l tx ty)
  let px := (List.range (panelW s1)).map (pixelOut s1 l b y ovls sides)
  let sats := px.zipIdx.flatMap (fun p => (p.1.zipIdx.filter (fun q => q.1.2)).map (fun q => (p.2 / 64, q.2)))
  let s2 := cntBy Ob.PPL_SATCNT sats.length
    (readPoison ((s1.poison.map (·.1)).filter (lineReads s1 l sides y)) s1)
  let s3 := each sats (fun q st =>
    let i := posKey q.1 ty * 3 + q.2
    { st with wear := { st.wear with headsat := upd (fun _ => 0) st.wear.headsat i (satInc 0xFFFFFFFF) } }) s2
  let pr : Prep := .mk row l.epoch s1.scan.slotNo (px.flatMap (fun p => p.map (·.1))) ovls sides
    ((List.range (panelW s1)).map (fun x => decide (ovls.getD (x / 64) 0 ≠ 0)))
    (cols.map (fun tx => rowTag s1 l tx ty)) false false
  let bs := bandScan s3 b
  setBandScan b { bs with preps := bs.preps.filter (fun q => decide (q.row ≠ row)) ++ [pr] } s3

/-! ## The line sent -/

/-- The code of a subpixel (R196, R197). -/
def codeSent (l : Latch) (y sub v : Nat) : Nat :=
  let off := decide (l.get Ob.DTH_ENABLE = 0) || bit (l.get Ob.PPL_BYPASS) 5
  ditherCode (if off then 32 else ditherT (ditherPhase l.epoch) y sub) v

/-- The precharge index of a subpixel: the previous codes are given, or PRC_TOPCODE where there are none (R194, R195). -/
def idxSent (l : Latch) (prev : List Nat) (sub v : Nat) : Nat :=
  if l.get Ob.PRC_ENABLE = 0 ∨ bit (l.get Ob.PPL_BYPASS) 6 then l.get Ob.PRC_FIXED
  else precharge (tab8 (l.table (Ob.PRC_TABLE + sub % 3))) (prev.getD sub (l.get Ob.PRC_TOPCODE)) (v / 64)

/-- The codes of a prepared line. -/
def lineCodes (l : Latch) (y : Nat) (y8 : List Nat) : List Nat := y8.zipIdx.map (fun p => codeSent l y p.2 p.1)

/-- The precharge indices of a prepared line. -/
def lineIdx (l : Latch) (prev : List Nat) (y8 : List Nat) : List Nat := y8.zipIdx.map (fun p => idxSent l prev p.2 p.1)

/-- The signature of the line each driver is sent: `n` channels from its own, unused channels 0 (R238, R248). -/
def driverSigs (n m : Nat) (codes idx : List Nat) : List Nat :=
  (List.range m).map (fun j =>
    lineSig ((List.range n).map (fun i => lineField (codes.getD (j * n + i) 0) (idx.getD (j * n + i) 0))))

/-- The signature of a line or latch of zeros. -/
def blackSigs (n m : Nat) : List Nat := List.replicate m (lineSig (List.replicate n 0))

end Sys2Proof.Machine
end

