-- ==== Sys2Proof/Machine/Commit.lean ====
section
/-!
DEFINITION. The commit engine and the pointer swaps: staging slots (R157), the queue of runs (R111, R112), the copy into
the back buffer (R218), group commits, tokens (R118), swaps (R16, R220) and what a frame start does to TRX (R108, R122).
-/

namespace Sys2Proof.Machine

/-! ## Staging slots -/

/-- Where a tag's colour plane and blink plane are staged (R157). -/
def stageAt (t : Nat) : Nat := 0x64000000 + 7680 * t
def stageBlinkAt (t : Nat) : Nat := 0x67C00000 + 512 * t

/-- Write the 2,048 FMT 2 words of a tile into the staging slot of tag `t` (R84, R157). -/
def stageTile (t : Nat) (ws : List Nat) (s : State) : State :=
  let colour := ws.foldl (fun a w => a * 2 ^ 30 + w % 2 ^ 30) 0
  let blink := ws.foldl (fun a w => a * 4 + field w 30 2) 0
  memRun (stageBlinkAt t) (toBE 512 blink) (memRun (stageAt t) (toBE 7680 colour) s)

/-- Pixel `i` of a staging slot as an FMT 2 word. -/
def stagedPixel (s : State) (t i : Nat) : Nat :=
  let v := memBE s (stageAt t + 30 * i / 8) 5
  let g := field (memByte s (stageBlinkAt t + i / 4)).toNat (6 - 2 * (i % 4)) 2
  packPixel g (field v (30 - 30 * i % 8) 10) (field v (20 - 30 * i % 8) 10) (field v (10 - 30 * i % 8) 10)

/-- The pixels of a staging slot that lie in poisoned words. -/
def stagedPoison (s : State) (t : Nat) : List Nat :=
  let c := stageAt t / 8
  let b := stageBlinkAt t / 8
  (within s.poison c (c + 960)).flatMap (fun e =>
    let k := e.1 - c
    (List.range ((64 * k + 63) / 30 + 1 - 64 * k / 30)).map (· + 64 * k / 30)) ++
  (within s.poison b (b + 64)).flatMap (fun e => (List.range 32).map (· + 32 * (e.1 - b)))

/-! ## Copy, tokens and group commits -/

/-- Cancel a position's pending swap, whose transaction ends OVERTAKEN (R17, R218). -/
def overtakePend (k : Nat) (s : State) : State :=
  let s1 := match (posOf s k).pend.bind (·.tag) with
    | some t => nakTx t 0x12 0 0 s
    | none => s
  setPos k { posOf s1 k with pend := none, pendAt := none, pendHeld := false } s1

/-- Copy a TILE from its staging slot into the back side of its position (R112, R218); poison travels (R162). -/
def copyTile (t : Nat) (s : State) : State :=
  let g := tagOf s t
  let k := posKey g.tx g.ty
  let side := !(posOf s k).sel
  let bad := stagedPoison s t
  let s2 := each (List.range 32) (fun r st =>
    memRun (bufWordAt side (64 * g.tx) (32 * g.ty + r))
      ((List.range 64).flatMap (fun c => toBE 4 (stagedPixel s t (64 * r + c)))) st) s
  readPoison (poisonIn s (stageAt t) (stageAt t + 7680) ++ poisonIn s (stageBlinkAt t) (stageBlinkAt t + 512))
    { s2 with poison := bad.foldl (fun m i =>
        ins m (bufWordAt side (64 * g.tx + i % 64) (32 * g.ty + i / 64) / 8) true) s2.poison }

/-- Renew the content of one side of a position (R118). -/
def renewContent (s : State) (arrived : Nat) (c : Content) : Content :=
  match c.vouched with
  | some v => if c.session = s.pxl.session ∧ v < arrived then { c with vouched := some arrived } else c
  | none => c

/-- Apply a token to one position: whether it renewed anything. -/
def renewPos (arrived k : Nat) (a : State × Nat) : State × Nat :=
  let s := a.1
  let p := posOf s k
  let p1 := { p with shown := renewContent s arrived p.shown, pend := p.pend.map (renewContent s arrived) }
  if p1 = p then a else (evc 0x3E (setPos k p1 s), a.2 + 1)

/-- Apply a TOKEN and send its ACK (R118): the tag is FREE. -/
def applyToken (t : Nat) (s : State) : State :=
  let g := tagOf s t
  let keys := (List.range (g.y1 + 1 - g.ty)).flatMap (fun j =>
    (List.range (g.x1 + 1 - g.tx)).map (fun i => posKey (g.tx + i) (g.ty + j)))
  let (s1, n) := keys.foldl (fun a k => renewPos g.vouched k a) (s, 0)
  freeTag t false (evc 0x33 (pushBack (txPkt .ack t n g.srcf s1) s1))

/-- The content a committed TILE brings. -/
def contentOf (g : Tag) (t : Nat) : Content :=
  .mk g.session g.srcf (some g.vouched) (decide (g.fmt = 2 ∨ (g.fmt = 3 ∧ g.code ≤ 1))) (some t)

/-- The group commits (R112): its TILEs are COPIED and their swaps scheduled, its TOKENs applied, its ACK sent and its
id FREE. A HELD group takes effect at its epoch, or at the next frame start when that has passed (R108). -/
def commitGroup (g : Nat) (s : State) : State :=
  let gr := groupOf s g
  let shownAt := match gr.atEpoch with
    | some e => some (max e (s.scan.epoch + 1))
    | none => none
  let locked := decide (oget s Ob.SCAN_MODE = 1)
  let s1 := each gr.members (fun t st =>
    let tg := tagOf st t
    if tg.token then st
    else
      let k := posKey tg.tx tg.ty
      let at_ := match shownAt with
        | some e => some e
        | none => if locked then some (st.scan.epoch + 1) else none
      let st1 := setPos k { posOf st k with pend := some (contentOf tg t), pendAt := at_, pendHeld := shownAt.isSome } st
      setTag t { tg with state := .copied } { st1 with scan := { st1.scan with commits := st1.scan.commits + 1 } }) s
  let s2 := each (gr.members.filter (fun t => (tagOf s t).token)) applyToken s1
  let late := match gr.atEpoch with
    | some e => decide (e ≤ s.scan.epoch)
    | none => false
  let s3 := if late then cnt Ob.TRX_HELDLATE s2 else s2
  let s4 := pushBack (.mk .ack 1 gr.gen 0 g 0 (shownAt.getD s.scan.epoch % 2 ^ 32) gr.members.length []) s3
  setGroup g { Group.none with gen := gr.gen } (evc 0x33 (evc 0x32 s4))

/-- The run of a complete group (R111). -/
def runOf (s : State) (g : Nat) : List QEntry :=
  let ms := (groupOf s g).members
  ms.zipIdx.map (fun p => .mk p.1 g (decide (p.2 + 1 = ms.length)))

/-- Members of a pushed run are QUEUED. -/
def queueMembers (g : Nat) (s : State) : State :=
  each (groupOf s g).members (fun t st => setTag t { tagOf st t with state := .queued } st) s

/-- The groups whose runs have been pushed and have not committed yet. -/
def runsAhead (s : State) : List Nat := (s.trx.run.toList ++ s.trx.queue.map (·.group)).eraseDups

/-- Push a complete group's run at the tail. A group with COUNT 0 has none: it commits at once when no run is ahead of it,
else as soon as those that are have committed (R112). -/
def pushRun (g : Nat) (s : State) : State :=
  if !(groupOf s g).members.isEmpty then
    queueMembers g { s with trx := { s.trx with queue := s.trx.queue ++ runOf s g } }
  else if (runsAhead s).isEmpty then commitGroup g s
  else { s with trx := { s.trx with zeros := s.trx.zeros ++ [(g, runsAhead s)] } }

/-- The run of group `g` has left the queue: the COUNT 0 groups that waited for it alone commit (R112). -/
def runEnded (g : Nat) (s : State) : State :=
  let zs := s.trx.zeros.map (fun z => (z.1, z.2.filter (· ≠ g)))
  each ((zs.filter (·.2.isEmpty)).map (·.1)) commitGroup
    { s with trx := { s.trx with zeros := zs.filter (fun z => !z.2.isEmpty) } }

/-- Place a HELD group's run at the head of the queue, after a run the engine is part-way through (R108). -/
def pushHeld (g : Nat) (s : State) : State :=
  if (groupOf s g).members.isEmpty then commitGroup g s
  else
    let inRun (e : QEntry) : Bool := decide (s.trx.run = some e.group)
    let q := s.trx.queue.takeWhile inRun ++ runOf s g ++ s.trx.queue.dropWhile inRun
    queueMembers g { s with trx := { s.trx with queue := q } }

/-! ## Pointer swaps -/

/-- A scan buffer word of a position holds the poison (R162). -/
def sidePoisoned (s : State) (side : Bool) (tx ty : Nat) : Bool :=
  s.poison.any (fun e => (wordFeeds e.1).1.contains (tx, ty) && decide ((wordFeeds e.1).2 = some side))

/-- The pointer swap of one position takes effect (R16, R117): the selector inverts, the new content is shown and its
transaction is VERIFYING; what it overtakes ends OVERTAKEN (R17). In a vermilion position, poison that the commit carried raises
the safety event of SM08 (R162). The hatch of an unqualified format stands until qualifying content is shown (R281). -/
def swapPos (k : Nat) (s : State) : State :=
  match (posOf s k).pend with
  | none => s
  | some c =>
    let s1 := match (posOf s k).shown.tag with
      | some t => nakTx t 0x12 0 0 s
      | none => s
    let p := posOf s1 k
    let tx := k % 120
    let ty := k / 120
    let verm := decide ((classNow s1 tx ty).1 = 2)
    let unqual := (verm || bit p.bad 6) && !c.qual
    let s2 := setPos k { p with sel := !p.sel, shown := c, pend := none, pendAt := none, pendHeld := false,
                                swapSlot := some s1.scan.slotNo, bad := putBit (clearBit p.bad 7) 6 unqual }
      (whenDo (verm && decide (s1.scan.selNow = 0) && sidePoisoned s1 (!p.sel) tx ty) (tileReaction 8 true false) s1)
    match c.tag with
    | none => s2
    | some t =>
      let s3 := setTag t { tagOf s2 t with state := .verifying, frames := 0, proved := 0 } s2
      if (bandsOfTileRow s3 ty).any (fun b => decide ((bandScan s3 b).state = 2)) then nakTx t 0x14 0 0 s3 else s3

/-- SCAN is inside a tile row: the slot that starts programs one of its rows, or a prepared row of it is still to be
sent (R16). -/
def insideRow (s : State) (ty : Nat) : Bool :=
  (List.range (bandCount s)).any (fun b =>
    (decide (s.scan.slot < bandH s) && decide (panelRow s b s.scan.slot / 32 = ty)) ||
    (bandScan s b).preps.any (fun p => decide (panelRow s b p.row / 32 = ty)))

/-- At the start of a row slot, the swaps of every tile row that SCAN is not inside take effect (R16, R218). -/
def swapSlot (s : State) : State :=
  let due := s.scan.pos.filter (fun e => e.2.pend.isSome && e.2.pendAt.isNone)
  let rows := due.filter (fun e => !insideRow s (e.1 / 120))
  each (rows.map (·.1)) swapPos s

/-- At a frame start, every swap bound to it takes effect (R108, R220). -/
def swapFrame (s : State) : State :=
  let due := s.scan.pos.filter (fun e => e.2.pend.isSome && (match e.2.pendAt with
    | some x => decide (x ≤ s.scan.epoch)
    | none => false))
  each (due.map (·.1)) swapPos s

/-! ## Frame starts -/

/-- HELD groups whose frame E − 1 starts enter the queue, lowest id first (R108). -/
def heldFrame (s : State) : State :=
  let due := s.trx.groups.filter (fun e => decide (e.2.state = .held) && (match e.2.atEpoch with
    | some x => decide (x ≤ s.scan.epoch + 1)
    | none => false) && (s.trx.queue.all (fun q => decide (q.group ≠ e.1))) && decide (s.trx.run ≠ some e.1))
  each (due.map (·.1)).reverse pushHeld s

/-- Every transaction whose rows are still unproved at its TRX_SEEN_WINDOW-th frame start ends NOT-SHOWN (R122). -/
def seenWindow (s : State) : State :=
  let ver := s.trx.tags.filter (fun e => decide (e.2.state = .verifying) && !e.2.token)
  each (ver.map (·.1)) (fun t st =>
    let g := tagOf st t
    if oget st Ob.TRX_SEEN_WINDOW ≤ g.frames + 1 then nakTx t 0x13 0 0 st
    else setTag t { g with frames := g.frames + 1 } st) s

end Sys2Proof.Machine
end

