-- ==== Sys2Proof/Machine/Ring.lean ====
section
/-!
DEFINITION. The room of the journal ring (R476, R477, R479): the size of a record, and whether the ring takes it.
-/

namespace Sys2Proof.Machine

/-- Payload bytes of a record without its CRC. Ledger and dose records carry their coded size in `value`. -/
def payloadLen (r : JRec) : Nat :=
  if r.type = 1 ∧ r.flags = 0 then 3 + (match rowAt (r.key / 256) (r.key % 256) with
    | some x => x.ty.bytes
    | none => 0)
  else if r.type = 1 then 3 + r.data.length
  else if r.type = 3 then 3
  else if r.type = 4 then 14
  else if r.type = 5 then 7
  else if r.type = 6 then 8
  else if r.type = 7 ∨ r.type = 8 then r.value
  else if r.type = 0x0A then 38 + r.data.length
  else r.data.length

/-- Bytes of a record in the ring: header, payload and CRC, on 16-byte boundaries (R476, R477). -/
def recSize (r : JRec) : Nat := ceilDiv (20 + payloadLen r) 16 * 16

/-- The header of a record (R477); LEN counts the CRC with which the payload ends. -/
def recHeader (r : JRec) : List Byte :=
  let w := (((r.type * 256 + r.flags) * 2 ^ 24 + (payloadLen r + 4)) * 2 ^ 32 + r.seq) * 2 ^ 24 + r.arg % 2 ^ 24
  toBE 12 w ++ toBE 4 (crc32 (toBE 12 w))

/-- Coded bytes of a DOSE record: 1,530 slots of 64 bytes (R486). -/
def doseSize : Nat := 97920

/-- Bytes of the ring. -/
def ringBytes (s : State) : Nat := oget s Ob.JRN_RSIZE * 2 ^ 20

/-- Bytes of the ring occupied by needed records (R479). -/
def ringUsed (s : State) : Nat :=
  s.jrn.used + s.jrn.nv.pieces.foldl (fun n e => n + e.2.size) 0 + s.jrn.nv.doses.length * (doseSize + 32)

/-- The ring has no room for a record with 1 MiB erased ahead of it (R476, R479). -/
def ringFull (s : State) (n : Nat) : Bool := decide (ringBytes s < ringUsed s + n + 2 ^ 20)

/-- The write buffer can be used: JRN holds bank 10 (R172, R479). -/
def hasBuffer (s : State) : Bool := !bankAway s 10

/-- The journal takes a record of `n` bytes (R479): a device is present, JRN holds its write buffer, and the ring has room. -/
def journalable (n : Nat) (s : State) : Bool := s.jrn.present && hasBuffer s && crossUp s 0x1B && !ringFull s n

end Sys2Proof.Machine
end

