-- ==== Sys2Proof/Machine/Show.lean ====
section
/-!
DEFINITION. Requests that end at a frame start: changes of shown content (R224 to R226) and region commits (R278 to
R281); and the check of the raster (R203).
-/

namespace Sys2Proof.Machine

/-! ## The raster (R203) -/

/-- The raster objects: those that the conditions of R203 and R251 name. -/
def rasterKeys : List Nat :=
  [Ob.SCAN_WIDTH, Ob.SCAN_HEIGHT, Ob.SCAN_RATE, Ob.SCAN_VTOTAL, Ob.SCAN_RECLEAD, Ob.DLK_NDRV, Ob.DLK_NCH,
   Ob.DLK_RATE, Ob.DLK_CHAINRATE, Ob.DLK_RETDRV, Ob.ROW_TREC, Ob.ROW_TPRE, Ob.ROW_TGOFF, Ob.ROW_TSAMP]

/-- DLK_TMIN of a set of raster objects, in ps (R251). -/
def tMinOf (o : Nat → Nat) : Nat :=
  tMin (o Ob.DLK_NCH) (o Ob.DLK_NDRV) (dlkRate (o Ob.DLK_RATE)) (dlkRate (o Ob.DLK_CHAINRATE)) (o Ob.ROW_TREC)
    (o Ob.ROW_TPRE) (o Ob.ROW_TSAMP) (o Ob.ROW_TGOFF)

/-- The three times of R251 fit the nominal row time of a set of raster objects. -/
def linesFit (o : Nat → Nat) : Bool :=
  let rows := o Ob.SCAN_RATE * o Ob.SCAN_VTOTAL
  let m := o Ob.DLK_NDRV
  rowFits rows 42000 (32 * (3 + lineWords (o Ob.DLK_NCH)) + 64) (dlkRate (o Ob.DLK_RATE)) &&
  rowFits rows (102000 + 20000 * (m - 1)) (64 + 192 * m) (dlkRate (o Ob.DLK_CHAINRATE)) &&
  decide (rows * tCtl (o Ob.ROW_TREC) (o Ob.ROW_TPRE) (o Ob.ROW_TSAMP) (o Ob.ROW_TGOFF) ≤ 10 ^ 15)

/-- Nominal row time of a set of raster objects, in ps rounded down. -/
def rowTimePs (o : Nat → Nat) : Nat := 10 ^ 15 / (o Ob.SCAN_RATE * o Ob.SCAN_VTOTAL)

/-- The eight conditions of R203, in order, for `nb` bands. -/
def rasterConds (nb : Nat) (o : Nat → Nat) : List Bool :=
  let w := o Ob.SCAN_WIDTH
  let h := o Ob.SCAN_HEIGHT
  let hb := h / nb
  let vt := o Ob.SCAN_VTOTAL
  let rows := o Ob.SCAN_RATE * vt
  let m := o Ob.DLK_NDRV
  let n := o Ob.DLK_NCH
  [decide (640 ≤ w ∧ w ≤ 7680 ∧ 360 ≤ h ∧ h ≤ 4320 ∧ h % nb = 0),
   decide (60000 ≤ o Ob.SCAN_RATE ∧ o Ob.SCAN_RATE ≤ 240000),
   decide (hb + 16 ≤ vt),
   decide (8 ≤ o Ob.SCAN_RECLEAD ∧ o Ob.SCAN_RECLEAD ≤ hb / 2),
   decide (1800 * rows ≤ 10 ^ 12) && linesFit o && decide (hb ≤ recCapacity rows (dlkRate (o Ob.DLK_RATE)) n hb vt),
   decide (busiest (3 * w) m n * rows * 100 ≤ 3 * 108 * 10 ^ 12),
   decide (3 * w ≤ m * n ∧ (m - 1) * n < 3 * w),
   decide (o Ob.DLK_RETDRV < m)]

/-- SCAN_CFGERR: the number of the first failing condition, 0 for none (R203). -/
def cfgErr (nb : Nat) (o : Nat → Nat) : Nat :=
  match (rasterConds nb o).zipIdx.find? (fun p => !p.1) with
  | some p => p.2 + 1
  | none => 0

/-- SCAN_CFGERR of the raster objects as written. -/
def scanCfgErr (s : State) : Nat := cfgErr (bandCount s) (oget s)

/-- The raster objects as written come into force; unlisted objects hold their defaults. -/
def rasterOf (s : State) : SMap Nat := rasterKeys.foldl (fun m k => put objDefault m k (oget s k)) []

/-! ## Shown content -/

/-- State of a plate: the one it entered last (R222). -/
def plateOf (s : State) (n : Nat) : Nat := get (fun _ => 0) s.scan.plates n

/-- Set a plate's state. -/
def setPlate (n v : Nat) (s : State) : State := { s with scan := { s.scan with plates := put (fun _ => 0) s.scan.plates n v } }

/-- A request or a commit has ended (R375, bit 9). -/
def ended (k v : Nat) (s : State) : State := pendEvt 9 (oset k v s)

/-- The first frame that a request made now can reach: past the latch point of the next frame, the one after it (R178). -/
def firstFrame (s : State) : Nat := if s.scan.latchNext.isSome then s.scan.epoch + 2 else s.scan.epoch + 1

/-- The own rule of SCAN_SHOW_REQ (R224). -/
def ownShowReq (v : Nat) (s : State) : State × Nat :=
  let sel := v % 16
  let late := bit v 7
  let e := oget s Ob.SCAN_SHOW_EPOCH
  let refuse (st : Nat) : State × Nat := (ended Ob.SCAN_SHOW_STAT st s, St.refused)
  if 6 < sel then (s, St.range)
  else if sel ≠ 0 ∧ plateOf s (sel - 1) ≠ 2 then refuse 4
  else if s.scan.pend.isSome then refuse 5
  else if e ≤ s.scan.epoch + 1 ∧ !late then refuse 3
  else if s.scan.epoch + oget s Ob.TRX_EPOCH_AHEAD < e then refuse 6
  else
    let at_ := max e (firstFrame s)
    (oset Ob.SCAN_SHOW_STAT 1 { s with scan := { s.scan with pend := some (sel, at_, false) } }, St.ok)

/-- A pending show request is cancelled (R224, R225); a frame latched with it shows what is shown now. -/
def cancelShow (s : State) : State :=
  if s.scan.pend.isSome then
    ended Ob.SCAN_SHOW_STAT 7 { s with scan := { s.scan with
      pend := none, latchNext := s.scan.latchNext.map (fun l => { l with sel := s.scan.selNow }) } }
  else s

/-- The dead subpixels of positions that become vermilion are logged and raise the event of SM06 (R274); content delivered there that is not
qualified is hatched with cause 6 (R281). `before` gives the class until now. -/
def becameVerm (before : Nat → Nat → Nat) (s : State) : State :=
  let now := (allPos s).filter (fun p => decide ((classNow s p.1 p.2).1 = 2 ∧ before p.1 p.2 ≠ 2))
  each now (fun p st =>
    let k := posKey p.1 p.2
    let c := (posOf st k).shown
    let st1 := if c.qual ∨ c.vouched.isNone then st else setCause 6 true p.1 p.2 st
    if get (fun _ => 0) st1.wear.dead k ≠ 0 ∧ st1.scan.selNow = 0 then
      let mine := (deadSubs st1).filter (fun d => decide (subPos d.1 d.2 = p))
      safetyEvent 6 (each mine (fun d => wearEntry 5 2 d.1 d.2) st1)
    else st1) s

/-- A pending change of shown content takes effect at a frame start (R224). A plate that is no longer LOADED cancels it. -/
def showFrame (s : State) : State :=
  match s.scan.pend with
  | none => s
  | some (sel, e, wall) =>
    if s.scan.epoch < e then s
    else if sel ≠ 0 ∧ plateOf s (sel - 1) ≠ 2 then cancelShow s
    else
      let was := s.scan.selNow
      let s0 := { s with scan := { s.scan with pend := none, selNow := sel } }
      let s1 := if wall then s0 else ended Ob.SCAN_SHOW_STAT 2 s0
      if was ≠ 0 ∧ sel = 0 then becameVerm (fun _ _ => 0) s1 else s1

/-! ## Region commits -/

/-- The staged region table by region number (R277). -/
def stagedRegions (s : State) : SMap Nat :=
  (within s.obj Ob.FRS_REGION_LO (Ob.FRS_REGION_LO + 128)).map (fun e => (e.1 - Ob.FRS_REGION_LO, e.2)) ++
  (within s.obj Ob.FRS_REGION_HI (Ob.FRS_REGION_HI + 128)).map (fun e => (e.1 - Ob.FRS_REGION_HI + 128, e.2))

/-- An enabled region that R279's check 4 refuses. -/
def badRegion (s : State) (r : Nat) : Bool :=
  let c := field r 61 2
  bit r 63 && (decide (c = 3) || decide (field r 33 7 < field r 40 7) || decide (field r 17 8 < field r 25 8)
    || decide (tileCols s ≤ field r 33 7) || decide (tileRows s ≤ field r 17 8)
    || (decide (c ≠ 0) && decide (field r 47 14 < 20 ∨ 10000 < field r 47 14)))

/-- The first offending region of a table. -/
def regionErr (s : State) (t : SMap Nat) : Option Nat := (t.find? (fun e => badRegion s e.2)).map (·.1)

/-- A table keeps the vermilion capacity (R280). -/
def capOk (s : State) (t : SMap Nat) : Bool := decide (vermPixels s t * oget s Ob.SCAN_RATE ≤ 8 * 125000000 * 1000)

/-- Checks 4 and 5 of R279 on the staged table: the status of the first that fails, or 0. -/
def stagedErr (s : State) : Nat :=
  let t := stagedRegions s
  if (regionErr s t).isSome then 4 else if !capOk s t then 5 else 0

/-- The payload of a REGION record: the table, the tag and the sealed record's CRC (R478). -/
def regionBytes (t : SMap Nat) (tag crc : Nat) : List Byte :=
  (List.range 256).flatMap (fun i => toBE 8 (get (fun _ => 0) t i)) ++ toBE 4 tag ++ toBE 4 crc

/-- A REGION record of the staged table, with the CRC that the sealed record takes with it (R305); one of a prepare has
the low bits of the epoch as its ARG and is tagged with the generation (R417, R478). -/
def stagedRecord (flags arg gen tag : Nat) (s : State) : State :=
  jrnAdd 2 flags arg tag gen (regionBytes (stagedRegions s) tag
    (recordCrc { s with scan := { s.scan with regAct := stagedRegions s } })) s

/-- The record of a pending region commit of a sealed configuration is handed over, to be journaled before the commit
takes effect (R281). -/
def journalPending (s : State) : State :=
  match s.scan.pendReg with
  | some (e, _) =>
    let s1 := stagedRecord 0 0 0 0 s
    { s1 with scan := { s1.scan with pendReg := some (e, some (oget s Ob.JRN_SEQ)) } }
  | none => s

/-- The own rule of FRS_REG_REQ (R279). -/
def ownRegReq (v : Nat) (s : State) : State × Nat :=
  let late := bit v 7
  let e := oget s Ob.FRS_REG_EPOCH
  let refuse (st : Nat) (s : State) : State × Nat := (ended Ob.FRS_REG_STAT st s, St.refused)
  if !bit v 0 then (s, St.ok)
  else if s.scan.pendReg.isSome then refuse 6 s
  else if e ≤ s.scan.epoch + 1 ∧ !late then refuse 3 s
  else if s.scan.epoch + oget s Ob.TRX_EPOCH_AHEAD < e then refuse 7 s
  else
    match regionErr s (stagedRegions s) with
    | some r => refuse 4 (oset Ob.FRS_REG_ERRIDX r s)
    | none =>
      let s1 := oset Ob.FRS_REG_ERRIDX 0xFFFF s
      if !capOk s1 (stagedRegions s1) then refuse 5 s1
      else
        let at_ := max e (firstFrame s)
        let s2 := oset Ob.FRS_REG_STAT 1 { s1 with scan := { s1.scan with pendReg := some (at_, none) } }
        (whenDo (oflag s2 Ob.SAF_SEALED) journalPending s2, St.ok)

/-- Writes to the staged region table are BUSY while a commit of it is pending or prepared (R279, R418). -/
def regionBusy (s : State) : Bool :=
  s.scan.pendReg.isSome || (match s.gyl.held with
    | some c => decide (c.kind = 3)
    | none => false)

/-- The staged table becomes active (R279, R281, R305), by the journal record given. -/
def activateRegions (record : State → State) (s : State) : State :=
  let before := fun tx ty => (classNow s tx ty).1
  let s1 := { s with scan := { s.scan with regAct := stagedRegions s, pendReg := none } }
  let s2 := if oflag s1 Ob.SAF_SEALED then
      let c := recordCrc s1
      oset Ob.SAF_SEALCRC c { s1 with safe := { s1.safe with sealCrc := c } }
    else refCrc s1
  let s3 := record s2
  let s4 := oset Ob.FRS_REG_GEN (satInc 0xFFFF (oget s3 Ob.FRS_REG_GEN)) (ended Ob.FRS_REG_STAT 2 s3)
  if s4.scan.selNow ≠ 0 then s4 else becameVerm before s4

/-- A REGION record of the active table (R478). -/
def regionRecord (tag : Nat) (s : State) : State :=
  jrnAdd 2 0 0 tag 0 (regionBytes s.scan.regAct tag (oget s Ob.SAF_SEALCRC)) s

/-- A region commit of this controller (R279). -/
def commitRegions (tag : Nat) (s : State) : State := activateRegions (regionRecord tag) s

/-- The REGION record of a sequence number still waits in the write buffer. -/
def unwritten (s : State) (seq : Nat) : Bool := s.jrn.buf.any (fun r => decide (r.type = 2) && decide (r.seq = seq))

/-- A pending region commit takes effect at a frame start. One of a sealed configuration whose record has not been programmed by
then is cancelled, and its record with it (R281). -/
def regionFrame (s : State) : State :=
  match s.scan.pendReg with
  | none => s
  | some (e, seq) =>
    if s.scan.epoch < e then s
    else match seq with
      | none => commitRegions 0 s
      | some q =>
        if oflag s Ob.SAF_SEALED ∧ unwritten s q then
          ended Ob.FRS_REG_STAT 8 { s with
            jrn := { s.jrn with buf := s.jrn.buf.filter (fun r => !(decide (r.type = 2) && decide (r.seq = q))) }
            scan := { s.scan with
              pendReg := none, latchNext := s.scan.latchNext.map (fun l => { l with regions := s.scan.regAct }) } }
        else activateRegions id s

/-! ## The parameters of the frame that follows -/

/-- The raster restarts (R206): every plate becomes EMPTY, and the scan buffers, the selector table, the pending swaps
and what has been prepared are cleared. Content shown from a plate is left (R274). -/
def restartRaster (s : State) : State :=
  whenDo (decide (s.scan.selNow ≠ 0)) (becameVerm (fun _ _ => 0)) { s with
    mem := fromKey s.mem 0x10000000
    poison := fromKey s.poison (0x10000000 / 8)
    scan := { s.scan with
      plates := []
      pos := []
      selNow := 0
      bands := s.scan.bands.map (fun e => (e.1, { e.2 with preps := [], sent := [], hist := [], prev := [] })) } }

/-- A committed wall change that takes effect by frame `e` (R420). -/
def wallDue (s : State) (e : Nat) : Option Change :=
  match s.gyl.held with
  | some c => if s.gyl.heldOk ∧ c.epoch ≤ e then some c else none
  | none => none

/-- SCAN_DUTY and PPL_BRIGHT of every used band take the values of a BRIGHT argument (R414). -/
def brightObj (bands arg : Nat) (o : SMap Nat) : SMap Nat :=
  (List.range bands).foldl (fun m b =>
    put objDefault (put objDefault m (Ob.SCAN_DUTY + b) (field arg 16 7)) (Ob.PPL_BRIGHT + b) (field arg 0 16)) o

/-- An argument is outside its range (R414). -/
def argBad (c : Change) : Bool :=
  if c.kind = 1 then decide (c.arg ≠ 1 ∧ c.arg ≠ 2)
  else if c.kind = 2 then decide (6 < c.arg)
  else if c.kind = 3 then decide (c.arg = 0)
  else if c.kind = 4 then decide (2 ^ 23 ≤ c.arg ∨ field c.arg 16 7 = 0 ∨ 64 < field c.arg 16 7 ∨ 32768 < field c.arg 0 16)
  else true

/-- The staged table's status in FRS_REG_STAT when it fails R279 or R280 (R417). -/
def layoutErr (s : State) : Nat := if s.scan.pendReg.isSome then 6 else stagedErr s

/-- The reasons 5 to 8 of R417: reason and DETAIL of the first that applies, or (0, 0). -/
def contentErr (c : Change) (s : State) : Nat × Nat :=
  if c.kind = 2 ∧ 1 ≤ c.arg ∧ c.arg ≤ 6 ∧ plateOf s (c.arg - 1) ≠ 2 then (5, c.arg - 1)
  else if c.kind = 3 ∧ (oget s Ob.GYL_LAYOUTTAG ≠ c.arg ∨ layoutErr s ≠ 0) then (6, layoutErr s)
  else if argBad c then (7, 0)
  else if c.kind = 3 ∧ oflag s Ob.SAF_SEALED ∧ !journalable 2080 s then (8, 0)
  else (0, 0)

/-- What a wall change brings to the latch of the frame in which it takes effect (R414). -/
def changeLatch (s : State) (kind arg : Nat) (l : Latch) : Latch :=
  if kind = 2 then { l with sel := arg }
  else if kind = 3 then { l with regions := stagedRegions s }
  else if kind = 4 then { l with obj := brightObj (bandCount s) arg l.obj }
  else l

/-- The latch of the frame that follows, with the table, selection and brightness that pending requests and a committed
wall change or a VECTOR bring in at its start. -/
def takeNext (s : State) : Latch :=
  let l := takeLatch (s.scan.epoch + 1) s
  let regions := match s.scan.pendReg with
    | some (e, _) => if e ≤ l.epoch then stagedRegions s else s.scan.regAct
    | none => s.scan.regAct
  let sel := match s.scan.pend with
    | some (n, e, _) => if e ≤ l.epoch then n else l.sel
    | none => l.sel
  let l1 := { l with regions := regions, sel := sel }
  let l2 := match wallDue s l.epoch with
    | some c => changeLatch s c.kind c.arg l1
    | none => l1
  match s.gyl.vecPend with
  | some (gen, at_, args) =>
    if at_ ≤ l.epoch then
      (args.filter (fun e => decide ((contentErr ⟨l.epoch, gen, e.1, e.2⟩ s).1 = 0))).foldl (fun l e => changeLatch s e.1 e.2 l) l2
    else l2
  | none => l2

/-! ## Commands -/

/-- SCAN_SHOW_REQ. -/
def execScanShowReq (t : Nat) (h : Hdr) (v : BitVec 8) (s : State) : Host.Outcome State Fault Refusal :=
  .next (writeRow h Ob.SCAN_SHOW_REQ v.toNat ownShowReq (s.at t))

/-- REGION_COMMIT_REQ: a write of FRS_REG_REQ. -/
def execRegionCommitReq (t : Nat) (h : Hdr) (v : BitVec 8) (s : State) : Host.Outcome State Fault Refusal :=
  .next (writeRow h Ob.FRS_REG_REQ v.toNat ownRegReq (s.at t))

end Sys2Proof.Machine
end

