-- ==== Sys2Proof/Machine/OpMode.lean ====
section
/-!
DEFINITION. The transitions between SETUP and RUN (R25 to R27, R387) and the commands that request them.
-/

namespace Sys2Proof.Machine

/-- A bank of 3, 4, 5 or 9 is away from its default owner (R172). -/
def runBanksAway (s : State) : Bool := [3, 4, 5, 9].any (bankAway s)

/-- An active region or FRS_DEFCLASS is ochre or vermilion (R304). -/
def safetyContent (s : State) : Bool :=
  decide (oget s Ob.FRS_DEFCLASS ≠ 0) || s.scan.regAct.any (fun e => bit e.2 63 && decide (field e.2 61 2 ≠ 0))

/-- A download into an RWS object is active (R367). -/
def rwsDownload (s : State) : Bool := rwsTransfer s .can || rwsTransfer s .spi

/-- DEV_RUNERR: the first condition that forbids the transition to RUN, 0 for none (R387). -/
def runErr (s : State) : Nat :=
  if scanCfgErr s ≠ 0 then 1
  else if runBanksAway s then 2
  else if !oflag s Ob.SAF_SEALED ∧ safetyContent s then 3
  else if !capOk s s.scan.regAct then 4
  else if (usedBands s).any (fun b => decide ((railOf s b).state ≠ .on)) then 5
  else if oget s Ob.PNL_VRES_MV < oget s Ob.PNL_VRESMIN then 6
  else if !s.wear.queue.isEmpty then 7
  else if s.cal.state = .committing then 8
  else if !s.jrn.mapsDone ∨ rwsDownload s then 9
  else 0

/-- The SM02 gap starts as if an SRCFRAME had been accepted (R115). -/
def restartGap (s : State) : State := { s with trx := { s.trx with gapFrom := s.now, gapDone := false } }

/-- Tupd and Twin are formed at each SETUP-to-RUN transition (R259), of the raster objects as written, and pass writes made before it
do not count (R261). An age set to 0 since the last update of its subpixel stays marked (R271). -/
def ledgerStart (s : State) : State :=
  oset Ob.MDL_TUPD (ledgerTupd (oget s Ob.SCAN_RATE))
    (oset Ob.MDL_TWIN (ledgerTwin (oget s Ob.SCAN_RECLEAD) (oget s Ob.SCAN_RATE) (oget s Ob.SCAN_VTOTAL))
      { s with wear := { s.wear with confirm := [], sample := [] } })

/-- The SETUP-to-RUN transition (R22, R25, R115, R254): READY links run, and a band whose link is not READY enters RUN DARK. -/
def enterRun (s : State) : State :=
  let s1 := raiseToFloor (ledgerStart (restartGap (changeOp .run s)))
  each (usedBands s1) (fun b st =>
    let d := dlkOf st b
    if d.state = .ready then setDlk b { d with state := .run } st
    else if d.state = .run then st
    else bandReaction 5 b false false (failure 5 st)) s1

/-- An orderly rail-down of the bands of a mask starts (R314); a band that waits for its stagger slot waits no longer. -/
def railDown (mask : Nat) (s : State) : State :=
  each ((usedBands s).filter (fun b => bit mask b && (railUp s b || (railOf s b).due))).zipIdx (fun e => fallLater e.2 e.1 1 false) s

/-- A transition to RUN is refused: PNL_RAILERR shows a band that is not ON (R313). -/
def runRefused (s : State) : State :=
  if (usedBands s).any (fun b => decide ((railOf s b).state ≠ .on)) then oset Ob.PNL_RAILERR 6 s else s

/-- The RUN-to-SETUP transition (R25 to R27, R109, R314). Downloads and everything else go on; every band is black from
the next frame start. -/
def enterSetup (s : State) : State :=
  let s1 := changeOp .setup (leaveRun s)
  let s2 := each (usedBands s1) (fun b st =>
    let d := dlkOf st b
    if d.state = .run then setDlk b { d with state := .ready } st else st) s1
  if oflag s2 Ob.PNL_AUTORAIL then s2 else railDown (usedMask s2) s2

/-- The prepared change of a participant is a STATE commit, which holds writes to DEV_STATE (R418). -/
def stateHeld (s : State) : Bool :=
  match s.gyl.held with
  | some c => decide (c.kind = 1)
  | none => false

/-- The own rule of DEV_STATE (R387, R430). -/
def ownDevState (v : Nat) (s : State) : State × Nat :=
  if s.pwr.state ≠ .p0 then (s, St.state)
  else if stateHeld s then (s, St.busy)
  else if v = s.boot.op.code then (s, St.ok)
  else if v = 2 ∧ s.boot.op = .setup then
    let e := runErr s
    if e = 0 then (enterRun s, St.ok) else (runRefused (oset Ob.DEV_RUNERR e s), St.refused)
  else if v = 1 ∧ s.boot.op = .run then (enterSetup s, St.ok)
  else (s, St.refused)

/-- DEV_STATE_RUN. -/
def execDevStateRun (t : Nat) (h : Hdr) (s : State) : Host.Outcome State Fault Refusal :=
  .next (writeRow h Ob.DEV_STATE 2 ownDevState (s.at t))

/-- DEV_STATE_SETUP. -/
def execDevStateSetup (t : Nat) (h : Hdr) (s : State) : Host.Outcome State Fault Refusal :=
  .next (writeRow h Ob.DEV_STATE 1 ownDevState (s.at t))

end Sys2Proof.Machine
end

