-- ==== Sys2Proof/Machine/Cal.lean ====
section
/-!
DEFINITION. The sense ADC and the uniformity calibration (chapter 13).
-/

namespace Sys2Proof.Machine

/-! ## The ADC (R332 to R335) -/

/-- Conversions run in P0, P1 and P2 from the end of fuse load onwards (R332). -/
def adcOn (s : State) : Bool := s.pins.fused && decide (s.boot.stage ≠ .asleep) && decide (s.boot.stage ≠ .wakeSlot)
  && decide (s.boot.stage ≠ .waitVioAb)

/-- Trigger a conversion: at once when the converter is idle, else queued, else merged (R334). -/
def trigAdc (i : Nat) (s : State) : State :=
  if s.cal.conv.isNone then { s with cal := { s.cal with conv := some (i, true) } }
  else if (adcOf s i).queued then evc 0xBF (cnt Ob.CAL_ADCMERGE s)
  else setAdc i { adcOf s i with queued := true } s

/-- Inputs 4 to 7 are converted on trigger only (R332). -/
def hasSchedule (i : Nat) : Bool := decide (i < 4) || decide (8 ≤ i)

/-- ADC_SCHEDULED: a scheduled conversion starts when the converter is idle; else it waits, and is never skipped (R334). -/
def execAdcScheduled (t : Nat) (input : Fin 16) (s : State) : Host.Outcome State Fault Refusal :=
  let s := s.at t
  let i := input.val
  .next (if !adcOn s ∨ !hasSchedule i then s
    else if s.cal.conv.isNone then { s with cal := { s.cal with conv := some (i, false) } }
    else if s.cal.sched.contains i then s
    else { s with cal := { s.cal with sched := s.cal.sched ++ [i] } })

/-- A conversion of an input has completed: its result is kept. -/
def noteConv (i code : Nat) (triggered : Bool) (s : State) : State :=
  evc 0xBE (cnt Ob.CAL_ADCCONV (setAdc i { adcOf s i with valid := true, trig := triggered, at_ := s.now, code := code } s))

/-- The converter goes on: the queued triggers in ascending order of their inputs, then the scheduled conversions (R334). -/
def nextConv (s : State) : State :=
  match (List.range 16).find? (fun k => (adcOf s k).queued) with
  | some k => setAdc k { adcOf s k with queued := false } { s with cal := { s.cal with conv := some (k, true) } }
  | none => { s with cal := { s.cal with conv := s.cal.sched.head?.map (fun k => (k, false)), sched := s.cal.sched.drop 1 } }

/-- The own rule of CAL_ADCTRIG. -/
def ownAdctrig (v : Nat) (s : State) : State × Nat := (trigAdc v s, St.ok)

/-- CAL_ADCTRIG. -/
def execCalAdctrig (t : Nat) (h : Hdr) (input : BitVec 8) (s : State) : Host.Outcome State Fault Refusal :=
  .next (writeRow h Ob.CAL_ADCTRIG input.toNat ownAdctrig (s.at t))

/-- The result of a thermistor code, raw; 0x8000 when it is invalid (R335). -/
def thermOf (lo hi : Nat) (table : List Byte) (v : Nat) : Nat :=
  if v < lo ∨ hi < v ∨ table.all (· = 0) then 0x8000
  else
    let e (i : Nat) : Int := toSigned 16 (tab16 table i)
    let i := v / 128
    ofSigned 16 (e i + ((e (i + 1) - e i) * (v % 128 : Nat) + 64) / 128)

/-- The bands whose selected thermistor reads invalid (R187). -/
def thermBands (s : State) : Nat :=
  ofBits ((List.range (bandCount s)).map (fun b => decide (oget s (Ob.CAL_THMTEMP + oget s (Ob.CMP_THMSEL + b)) = 0x8000)))

/-- A THERM entry each time the set of bands without a valid thermistor changes and is not empty (R187). -/
def thermFrame (s : State) : State :=
  let m := thermBands s
  if m = s.cal.therm then s
  else
    let s1 := { s with cal := { s.cal with therm := m } }
    if m = 0 then s1 else logEv 0x09 1 m m s1

/-- Whether a conversion of input 9 to 15 lies outside its SM12 window (R333, R497). -/
def outsideWindow (s : State) (i code : Nat) : Bool :=
  let mv (lo hi : Nat) : Bool := decide (code < lo ∨ hi < code)
  let pads (c : Option Bool) : Bool := match c with
    | some true => mv 1650 1950
    | some false => mv 3050 3550
    | none => false
  if i = 9 then decide (code + 70 < 2 * s.pwr.vack ∨ 2 * s.pwr.vack + 100 < code)
  else if i = 10 then mv 1045 1155
  else if i = 11 then mv 950 1050
  else if i = 12 then pads s.pins.padsAb18
  else if i = 13 then pads s.pins.padsCd18
  else if i = 14 then
    let v := (Config.dieTemp code).toInt
    decide (v < -360 ∨ 1240 < v)
  else if i = 15 then mv 2032 2064
  else false

/-- The readings that SM12 takes as inside or outside: the ADC inputs 8 to 15 under their numbers, the DRAM dies as 16 and
17, VAON as 18. -/
def sm12Keys : List Nat := [8, 9, 10, 11, 12, 13, 14, 15, 16, 17, 18]

/-- SM12 takes a reading of input `k` (R14, R333): `out` says that it lies outside, `fail` that this is a failure. The
cause stays present while any input reads outside. -/
def sm12Input (k : Nat) (out fail : Bool) (s : State) : State :=
  let s1 := setAdc k { adcOf s k with bad := out } s
  if fail then (if (mechOf s1 12).active then s1 else deviceReaction 12 true false (failure 12 s1))
  else if sm12Keys.any (fun j => (adcOf s1 j).bad) then s1
  else setMech 12 { mechOf s1 12 with active := false } s1

/-- SM12 judges once the controller die runs (R293), VCORE once a first request has completed (log entry 51). -/
def railJudged (s : State) (i : Nat) : Bool := decide (s.boot.stage = .started) && (decide (i ≠ 9) || decide (s.pwr.vack ≠ 0))

/-- SM12's judgement of a conversion: two consecutive ones outside the window fail (R333). -/
def judgeRail (i code : Nat) (was : Bool) (s : State) : State :=
  if railJudged s i then
    let out := outsideWindow s i code
    sm12Input i out (out && was) s
  else s

/-- VRES as PNL reads it (R321): 20 consecutive conversions below PNL_VRESMIN in RUN are entered and set PNL_VRESSTAT to 3;
above 16.5 V is an SM12 failure. -/
def vresRead (code : Nat) (s : State) : State :=
  let mv := 5 * code
  let s1 := evc 0xC9 (oset Ob.PNL_VRES_MV mv s)
  let low := decide (mv < oget s1 Ob.PNL_VRESMIN) && decide (s1.boot.op = .run)
  let n := if low then s1.pnl.vresLow + 1 else 0
  let s2 := { s1 with pnl := { s1.pnl with vresLow := min n 20 } }
  let s3 := if n = 20 then oset Ob.PNL_VRESSTAT 3 (logEv 0x0D 1 0 mv s2) else s2
  if s3.boot.stage = .started then sm12Input 8 (decide (16500 < mv)) (decide (16500 < mv)) s3 else s3

/-- The reader of an input takes its result (R321, R333, R335). -/
def readConv (i code : Nat) (was : Bool) (s : State) : State :=
  if i < 4 then oset (Ob.CAL_THMTEMP + i) (thermOf (oget s Ob.CAL_THMLO) (oget s Ob.CAL_THMHI) (dget s Ob.CAL_THMTAB) code) s
  else if i = 8 then vresRead code s
  else if 9 ≤ i then judgeRail i code was s
  else s

/-- SUPPLY_CONVERSION_DONE: the conversion in progress is kept, the next one starts, and the input's reader judges it. -/
def execSupplyConversionDone (t : Nat) (code : BitVec 12) (s : State) : Host.Outcome State Fault Refusal :=
  let s := s.at t
  .next (match s.cal.conv with
    | none => s
    | some (i, triggered) =>
      if !adcOn s then s
      else readConv i code.toNat (adcOf s i).bad (nextConv (noteConv i code.toNat triggered s)))

/-! ## The run (R336 to R346) -/

/-- A parameter of the run as latched at START. -/
def calCfg (s : State) (k : Nat) : Nat := get objDefault s.cal.cfg k

/-- The rows of the slice under measurement in a band. -/
def sliceRows (s : State) (b : Nat) : Nat × Nat :=
  let lo := (calBandOf s b).done * s.cal.s
  (lo, min (bandH s) (lo + s.cal.s) - lo)

/-- The samples of a slice, and the one at a place of the order of R340. -/
def slicePlaces (s : State) (n : Nat) : Nat := calCfg s Ob.CAL_AVG * 192 * n
def gapAt (lo n p : Nat) : Gap where
  level := p / (64 * n) % 3 + 1
  phase := p / n % 64
  row := lo + p % n

/-- A band takes part in the run and has slices left. -/
def calActive (s : State) (b : Nat) : Bool :=
  decide (s.cal.state = .running) && decide ((calBandOf s b).done < (calBandOf s b).total)

/-- Gaps may be used in a band now (R336). -/
def calMay (s : State) (b : Nat) : Bool :=
  calActive s b && decide (s.boot.op = .run) && decide (s.pwr.state = .p0) && decide ((bandScan s b).state = 0)

/-- The sample that the next gap of a band takes (R339, R340). -/
def calNext (s : State) (b : Nat) : Option Gap :=
  let c := calBandOf s b
  let (lo, n) := sliceRows s b
  if !calMay s b ∨ calCfg s Ob.CAL_GAPS ≤ (bandScan s b).gaps then none
  else if c.next < slicePlaces s n then some (gapAt lo n c.next)
  else c.redo.head?

/-- A gap is taken in the slot `slot` of frame `epoch`. -/
def takeGap (b slot epoch number : Nat) (g : Gap) (s : State) : State :=
  let c := calBandOf s b
  let (_, n) := sliceRows s b
  let c1 := if c.next < slicePlaces s n then { c with next := c.next + 1 } else { c with redo := c.redo.drop 1 }
  let bs := bandScan s b
  evc (0x40 + 8 * b + 7) (setCalBand b { c1 with wait := c1.wait ++ [.mk slot epoch g number] }
    (setBandScan b { bs with gaps := bs.gaps + 1 } s))

/-- The measurements of a band's current slice are discarded (R336, R340). -/
def resetSlice (c : CalBand) : CalBand :=
  { c with next := 0, redo := [], wait := [], acc := [], taken := 0, tmin := none, tmax := none, tsum := 0, tcnt := 0,
           maskHit := false }

/-- The frame start's work of CAL: a band that may not be measured loses its slice; otherwise T_b of the frame counts for
it (R336, R340). -/
def calFrame (s : State) : State :=
  each (List.range (bandCount s)) (fun b st =>
    let c := calBandOf st b
    if !calActive st b then st
    else if !calMay st b then setCalBand b (resetSlice c) st
    else
      let tb := match st.scan.latch with
        | some l => l.tb.getD b 0
        | none => 0
      let lo (o : Option Int) : Int := match o with
        | some x => min x tb
        | none => tb
      let hi (o : Option Int) : Int := match o with
        | some x => max x tb
        | none => tb
      setCalBand b { c with tmin := some (lo c.tmin), tmax := some (hi c.tmax), tsum := c.tsum + tb, tcnt := c.tcnt + 1 } st) s

/-- Accumulator key of a subpixel of a band row at a level. -/
def accKey (level row sub : Nat) : Nat := (level * 8192 + row) * 32768 + sub

/-- The demura word of a subpixel (R342): the word, whether it was flat, and the clamps that changed a value. -/
def fitWord (s1 _s2 s3 k1 k2 k3 r1 r2 r3 g q : Int) : Nat × Bool × Nat :=
  if s3 ≤ s1 then (0, true, 0)
  else
    let num := 512 * (r3 - r1) * 16384
    let den := (s3 - s1) * g
    let dg0 := (if den = 0 then q else (2 * num + den) / (2 * den)) - 512
    let fx := 64 * k1 + (128 * (r2 - s1) * (k3 - k1) + (s3 - s1)) / (2 * (s3 - s1))
    let y4m := (64 * k2 * g + 8192) / 16384
    let dg := clampI (-128) 127 dg0
    let y5m := (y4m * (512 + dg) + 256) / 512
    let dq0 := (fx - y5m + 2) / 4
    let dq := clampI (-128) 127 dq0
    (ofSigned 8 dg * 256 + ofSigned 8 dq, false, b2n (decide (dg ≠ dg0)) + b2n (decide (dq ≠ dq0)))

/-- Fit one subpixel of a complete slice (R342). -/
def fitSub (b row sub : Nat) (l : Latch) (s : State) : State :=
  let y := panelRow s b row
  let c := sub % 3
  let k := subKey sub y
  let avg := calCfg s Ob.CAL_AVG
  let cb := calBandOf s b
  let mean (lv : Nat) : Nat := (get (fun _ => 0) cb.acc (accKey lv row sub) + avg / 2) / avg
  let word (w : Nat) (st : State) : State :=
    { st with cal := { st.cal with staging := put (fun _ => 0) st.cal.staging k w } }
  let i := posKey (subPos sub y).1 (subPos sub y).2 * 3 + c
  let addMean (st : State) : State :=
    { st with cal := { st.cal with s2sum := upd (fun _ => 0) st.cal.s2sum i (· + (65536 * mean 2 + 1)) } }
  if ageOf s sub y = 0xFFFF then addMean (word 0 s)
  else
    let g := if bit (oget s Ob.PPL_BYPASS) 2 then 16384 else gridOf s (setPair l b) (sub / 3) y c
    let lv (i : Nat) : Int := (calCfg s (Ob.CAL_LEVEL + i) : Nat)
    let r (i : Nat) : Int := (calCfg s (Ob.CAL_REF + (3 * c + i)) : Nat)
    let (w, flat, clamps) :=
      fitWord (mean 1) (mean 2) (mean 3) (lv 0) (lv 1) (lv 2) (r 0) (r 1) (r 2) g (toSigned 32 (freeOf s % 2 ^ 32))
    let s0 := if g = 0 ∧ mean 1 < mean 3 then tookFree s else s
    let s1 := word w (cntBy Ob.CAL_CLAMP clamps s0)
    addMean (if flat then cnt Ob.CAL_FLAT (setCalBand b { calBandOf s1 b with flat := (calBandOf s1 b).flat + 1 } s1) else s1)

/-- The progress marker: run, parameter CRC, S, and the slices done and in all of each band (R343). -/
def calMark (s : State) : List Nat :=
  [oget s Ob.CAL_RUNID, oget s Ob.CAL_PARCRC, s.cal.s] ++ [0, 1, 2, 3].map (fun b => (calBandOf s b).done) ++
  [0, 1, 2, 3].map (fun b => (calBandOf s b).total)

/-- Journal the marker; an empty one stands for no run. -/
def jrnMark (m : List Nat) (s : State) : State := jrnAdd 9 0 0 0 0 (m.flatMap (toBE 4)) s

/-- Every slice of every selected band is staged: COMPLETE, with the tile means and temperatures (R342, R344). -/
def calComplete (s : State) : State :=
  let means := s.cal.s2sum.map (fun e => (e.1, e.2 / 65536 / (e.2 % 65536)))
  let s1 := { s with cal := { s.cal with state := .complete, tilemean := means.filter (fun e => decide (e.2 ≠ 0)) } }
  let s2 := each [0, 1, 2, 3] (fun b st =>
    let c := calBandOf st b
    if c.total = 0 ∨ c.tRunCnt = 0 then st else oset (Ob.CAL_TILETEMP + b) (ofSigned 16 (c.tRunSum / (c.tRunCnt : Int))) st) s1
  pendEvt 7 (logEv 0x10 0 0 (0x0300 + oget s2 Ob.CAL_CAUSE) s2)

/-- The words of a slice go through LAKE slot 2 (R343). -/
def codeSlice (b lo n : Nat) (s : State) : State :=
  let word (x y : Nat) : Nat := if x < lineSubs s ∧ y < n then get (fun _ => 0) s.cal.staging (subKey x (panelRow s b (lo + y))) else 0
  (fwJob 2 0 1 0 (lineSubs s) n (rasterBlocks (lineSubs s) n (fun c r => some ((List.range 32).map (fun e =>
    elemComps 1 0 (word (8 * c + e % 8) (4 * r + e / 8)))))) [] s).1

/-- The journal can hold a staging set: a device is present, and its demura areas hold the panel (R473, R483). -/
def stagesSlices (s : State) : Bool :=
  s.jrn.present && decide (oget s Ob.SCAN_WIDTH * oget s Ob.SCAN_HEIGHT ≤ oget s Ob.JRN_MAXPIX)

/-- A slice is complete: measured again when the temperature spans too far or a spare mask changed, else fitted, staged
and marked (R340, R342, R343). -/
def sliceDone (b : Nat) (s : State) : State :=
  let c := calBandOf s b
  let wide : Bool := match c.tmin, c.tmax with
    | some lo, some hi => decide ((calCfg s Ob.CAL_TSPAN : Int) < hi - lo)
    | _, _ => false
  if wide ∨ c.maskHit then
    let s1 := evc 0xCE (cnt Ob.CAL_TREMEAS (setCalBand b { resetSlice c with repeats := c.repeats + 1 } s))
    if 8 ≤ c.repeats + 1 then abandonCal 8 s1 else s1
  else
    let (lo, n) := sliceRows s b
    let mean : Int := if c.tcnt = 0 then 0 else c.tsum / (c.tcnt : Int)
    let l := { s.scan.latch.getD (takeLatch s.scan.epoch s) with tb := [mean, mean, mean, mean] }
    let s1 := codeSlice b lo n
      (each (List.range n) (fun r st => each (List.range (lineSubs st)) (fun sub => fitSub b (lo + r) sub l) st) s)
    let c1 := calBandOf s1 b
    let s2 := evc 0xCD (setCalBand b { resetSlice c1 with
      done := c1.done + 1, repeats := 0, tRunSum := c1.tRunSum + mean, tRunCnt := c1.tRunCnt + 1 } s1)
    let s3 := jrnMark (calMark s2) s2
    if !stagesSlices s3 then abandonCal 7 s1
    else if [0, 1, 2, 3].all (fun k => decide ((calBandOf s3 k).total ≤ (calBandOf s3 k).done)) then calComplete s3 else s3

/-- Complete the slice when every sample has been taken. -/
def trySlice (b : Nat) (s : State) : State :=
  let c := calBandOf s b
  let (_, n) := sliceRows s b
  if calActive s b ∧ slicePlaces s n ≤ c.next ∧ c.redo.isEmpty ∧ c.wait.isEmpty then sliceDone b s else s

/-- CAL records of a slot never came: the sample is taken again (R339). -/
def calLost (b number : Nat) (s : State) : State :=
  let c := calBandOf s b
  let late := c.wait.filter (fun w => decide (w.number + 2 ≤ number))
  if late.isEmpty then s
  else
    let s1 := setCalBand b { c with wait := c.wait.filter (fun w => decide (number < w.number + 2)),
                                    redo := c.redo ++ late.map (·.gap) } s
    each late (fun _ st => evc 0xCF (cnt Ob.CAL_REPERR st)) s1

/-- A CAL record of `c` values (R339): its driver and the values, none where the count or the CRC is wrong. -/
def calRecOf (c : Nat) (ws : List (BitVec 32)) : Nat × Option (List Nat) :=
  let w := (ws.headD 0).toNat
  let vs := ws.drop 1
  let ok := decide (field w 16 8 = c) && decide (field w 0 16 = crc16 (toBE 2 (w / 2 ^ 16) ++ vs.flatMap (fun v => toBE 4 v.toNat)))
  let all := wordsVal vs
  (field w 24 8, if ok ∧ vs.length = ceilDiv (12 * c) 32 then
    some ((List.range c).map (fun i => field all (32 * vs.length - 12 * (i + 1)) 12)) else none)

/-- The CAL records of a frame, `n` at most. -/
def calRecs (c : Nat) : Nat → List (BitVec 32) → List (Nat × Option (List Nat))
  | 0, _ => []
  | n + 1, ws =>
    let k := 1 + ceilDiv (12 * c) 32
    if ws.isEmpty then [] else calRecOf c (ws.take k) :: calRecs c n (ws.drop k)

/-- CALREP_RECEIVED: the values of every driver are added, or the sample is taken again (R339, R340). A frame whose header is not
a valid CALREP's is lost (R235). -/
def execCalrepReceived (t : Nat) (band : Fin 4) (header : BitVec 64) (words : List (BitVec 32))
    (s : State) : Host.Outcome State Fault Refusal :=
  let s := s.at t
  let b := band.val
  let c := calBandOf s b
  let hd := header.toNat
  .next (match (if headOk 0xB hd && calMay s b then c.wait else []).find? (fun w =>
      decide (w.slot = field hd 46 14) && decide (w.epoch % 65536 = field hd 30 16)) with
    | none => s
    | some w =>
      let n := rget s Ob.DLK_NCH
      let records := calRecs (ceilDiv n 64) 24 words
      let vals (j : Nat) : Option (List Nat) := (records.find? (fun r => decide (r.1 = j))).bind (·.2)
      let drvs := List.range (rget s Ob.DLK_NDRV)
      let bad := drvs.filter (fun j => (vals j).isNone)
      let s1 := setCalBand b { c with wait := c.wait.filter (· ≠ w) } s
      if !bad.isEmpty then
        each bad (fun _ st => evc 0xCF (cnt Ob.CAL_REPERR st))
          (setCalBand b { calBandOf s1 b with redo := c.redo ++ [w.gap] } s1)
      else
        let acc := drvs.foldl (fun m j =>
          (((vals j).getD []).zipIdx).foldl (fun m v =>
            let sub := j * n + w.gap.phase + 64 * v.2
            if sub < lineSubs s then upd (fun _ => 0) m (accKey w.gap.level w.gap.row sub) (· + v.1) else m) m) c.acc
        trySlice b (setCalBand b { calBandOf s1 b with acc := acc, taken := c.taken + 1 } s1))

/-! ## Commands (R341, R345, R347) -/

/-- The slice rows that the banks CAL owns give (R340), and the extra banks counted. -/
def calExtra (s : State) : Nat :=
  ofBits ([13, 14, 15].map (fun n => decide ((bankOf s n).owner = 6) && decide ((bankOf s n).phase = .stable)))
def calS (s : State) : Nat := 4 * (1 + ([0, 1, 2].filter (bit (calExtra s))).length)

/-- The keys of the parameters latched at START. -/
def calKeys : List Nat := (List.range 10).map (Ob.CAL_LEVEL + ·) ++ (List.range 9).map (Ob.CAL_REF + ·)

/-- CAL_PARCRC of the present configuration (R343). -/
def parCrc (s : State) (rows : Nat) : Nat :=
  let o (k n : Nat) : List Byte := toBE n (oget s k)
  crc32 (
    (List.range 3).flatMap (fun i => o (Ob.CAL_LEVEL + i) 2) ++ (List.range 3).flatMap (fun i => o (Ob.CAL_PIDX + i) 1) ++
    o Ob.CAL_AVG 1 ++ o Ob.CAL_GAPS 1 ++ o Ob.CAL_TSPAN 2 ++ o Ob.CAL_BANDS 1 ++
    (List.range 9).flatMap (fun i => o (Ob.CAL_REF + i) 2) ++
    o Ob.SCAN_WIDTH 2 ++ o Ob.SCAN_HEIGHT 2 ++ toBE 1 (bandCount s) ++ toBE 1 rows ++
    o Ob.CMP_NSETS 1 ++ (List.range 8).flatMap (fun i => o (Ob.CMP_SETTEMP + i) 2) ++
    toBE 1 (b2n (bit (oget s Ob.PPL_BYPASS) 2)) ++
    toBE 4 (crc32 ((List.range (oget s Ob.CMP_NSETS)).flatMap (fun i => memBytes s (gridAt i 0) 98736))))

/-- D of R341 in seconds, rounded up. -/
def calSeconds (s : State) : Nat :=
  ceilDiv (ceilDiv (bandH s * 192 * oget s Ob.CAL_AVG) (oget s Ob.CAL_GAPS) * 1000) (rget s Ob.SCAN_RATE)

/-- D is at most 21,600 s (R341). -/
def calShort (s : State) : Bool :=
  decide (ceilDiv (bandH s * 192 * oget s Ob.CAL_AVG) (oget s Ob.CAL_GAPS) * 1000 ≤ 21600 * rget s Ob.SCAN_RATE)

/-- The chain condition of R339: T is at least t_chain + t_cal. -/
def calChain (s : State) : Bool :=
  let m := rget s Ob.DLK_NDRV
  let c := ceilDiv (rget s Ob.DLK_NCH) 64
  let rs := dlkRate (rget s Ob.DLK_CHAINRATE)
  rowFits (rget s Ob.SCAN_RATE * vtotal s) (102000 + 20000 * (m - 1))
    (64 + 192 * m + 64 + 32 * m * (1 + ceilDiv (12 * c) 32)) rs

/-- Levels and references rise (R345). -/
def calLevels (s : State) : Bool :=
  let k (i : Nat) := oget s (Ob.CAL_LEVEL + i)
  let r (i : Nat) := oget s (Ob.CAL_REF + i)
  decide (k 0 < k 1 ∧ k 1 < k 2 ∧ k 2 ≤ 1023) &&
  [0, 3, 6].all (fun i => decide (r i < r (i + 1) ∧ r (i + 1) < r (i + 2)))

/-- The bands a run measures, with their slice counts. -/
def calTotals (s : State) (rows : Nat) (done : Nat → Nat) : SMap CalBand :=
  [0, 1, 2, 3].foldl (fun m b =>
    if bit (oget s Ob.CAL_BANDS) b then
      put (fun _ => CalBand.initial) m b { CalBand.initial with total := ceilDiv (bandH s) rows, done := done b }
    else m) []

/-- What refuses a calibration command (CAL_RESULT, in the order of its codes), or 0. -/
def calErr (s : State) (cmd : Nat) : Nat :=
  let st := s.cal.state
  let stateOk := if cmd = 1 then decide (st = .idle ∨ st = .abandoned ∨ st = .complete)
    else if cmd = 2 then decide (st = .abandoned)
    else if cmd = 3 then decide (st = .running)
    else if cmd = 4 then decide (st = .complete)
    else decide (st = .abandoned ∨ st = .complete)
  let opOk := if cmd = 1 ∨ cmd = 2 then decide (s.boot.op = .run)
    else if cmd = 4 then decide (s.boot.op = .setup)
    else if cmd = 5 then decide (s.boot.op = .run ∨ s.boot.op = .setup)
    else true
  if !stateOk then 1
  else if !opOk then 2
  else if cmd = 1 ∧ !calLevels s then 3
  else if cmd = 1 ∧ 2 ^ bandCount s ≤ oget s Ob.CAL_BANDS then 4
  else if cmd = 1 ∧ !calShort s then 5
  else if cmd = 1 ∧ !calChain s then 6
  else if bankAway s 8 then 7
  else if (cmd = 2 ∨ cmd = 4) ∧ parCrc s (if cmd = 2 then calS s else s.cal.s) ≠ oget s Ob.CAL_PARCRC then 8
  else if (cmd = 1 ∨ cmd = 2 ∨ cmd = 4) ∧ bankAway s 2 then 10
  else 0

/-- START (R345). -/
def calDoStart (s : State) : State :=
  let rows := calS s
  let s1 := { s with cal := { s.cal with
    state := .running, s := rows, extra := calExtra s, staging := [], s2sum := []
    cfg := calKeys.foldl (fun m k => put objDefault m k (oget s k)) []
    bands := calTotals s rows (fun _ => 0) } }
  let s2 := oset Ob.CAL_CLAMP 0 (oset Ob.CAL_FLAT 0 (oset Ob.CAL_ESTTIME (calSeconds s) s1))
  let s3 := oset Ob.CAL_PARCRC (parCrc s rows) (oset Ob.CAL_RUNID ((oget s Ob.CAL_RUNID + 1) % 2 ^ 32) s2)
  let s4 := jrnMark (calMark s3) s3
  if (calTotals s rows (fun _ => 0)).isEmpty then calComplete s4 else s4

/-- RESUME (R345): each band at its first slice that is not complete. -/
def calDoResume (s : State) : State :=
  let old := s.cal.bands
  let done (b : Nat) : Nat := (get (fun _ => CalBand.initial) old b).done
  { s with cal := { s.cal with
    state := .running, extra := calExtra s
    cfg := calKeys.foldl (fun m k => put objDefault m k (oget s k)) []
    bands := (calTotals s s.cal.s done).map (fun e =>
      let o := get (fun _ => CalBand.initial) old e.1
      (e.1, { e.2 with flat := o.flat, tRunSum := o.tRunSum, tRunCnt := o.tRunCnt })) } }

/-- The staging set is erased and no run stands (R345, R347). -/
def calErase (s : State) : State :=
  jrnMark [] { s with cal := { s.cal with state := .idle, staging := [], bands := [] } }

/-- COMMIT decodes the staging set into the demura map rows of the selected bands and journals the map by a compaction
(R347, R480). -/
def calDoCommit (s : State) : State :=
  let rows := (List.range (bandCount s)).filter (fun b => decide ((calBandOf s b).total ≠ 0))
  let s1 := each rows (fun b st => each (List.range (bandH st)) (fun r st1 =>
    let y := panelRow st1 b r
    memRun (demuraAt 0 y) ((List.range (lineSubs st1)).flatMap (fun sub =>
      toBE 2 (get (fun _ => 0) st1.cal.staging (subKey sub y)))) st1)
    (fwMemJob 2 1 1 0 (0x58000000 + 46080 * b * bandH st) 46080 (lineSubs st) (bandH st) st).1) s
  { s1 with
    cal := { s1.cal with state := .committing }
    jrn := { s1.jrn with
      compact := true, commitCal := true, cand := s1.jrn.base, since := 0, again := s1.jrn.again || s1.jrn.compact } }

/-- The own rule of CAL_CMD (R345). -/
def ownCalCmd (v : Nat) (s : State) : State × Nat :=
  let e := calErr s v
  let s1 := oset Ob.CAL_RESULT e s
  if e ≠ 0 then (s1, St.refused)
  else
    (if v = 1 then calDoStart s1
     else if v = 2 then calDoResume s1
     else if v = 3 then abandonCal 5 s1
     else if v = 4 then calDoCommit s1
     else calErase s1, St.ok)

/-- CAL_START. -/
def execCalStart (t : Nat) (h : Hdr) (s : State) : Host.Outcome State Fault Refusal :=
  .next (writeRow h Ob.CAL_CMD 1 ownCalCmd (s.at t))

/-- CAL_RESUME. -/
def execCalResume (t : Nat) (h : Hdr) (s : State) : Host.Outcome State Fault Refusal :=
  .next (writeRow h Ob.CAL_CMD 2 ownCalCmd (s.at t))

/-- CAL_ABORT. -/
def execCalAbort (t : Nat) (h : Hdr) (s : State) : Host.Outcome State Fault Refusal :=
  .next (writeRow h Ob.CAL_CMD 3 ownCalCmd (s.at t))

/-- CAL_COMMIT. -/
def execCalCommit (t : Nat) (h : Hdr) (s : State) : Host.Outcome State Fault Refusal :=
  .next (writeRow h Ob.CAL_CMD 4 ownCalCmd (s.at t))

/-- CAL_DISCARD. -/
def execCalDiscard (t : Nat) (h : Hdr) (s : State) : Host.Outcome State Fault Refusal :=
  .next (writeRow h Ob.CAL_CMD 5 ownCalCmd (s.at t))

end Sys2Proof.Machine
end

