-- ==== Sys2Proof/Machine/Jrn.lean ====
section
/-!
DEFINITION. The journal store (R472 to R490): the ring and its write buffer, compactions, the rolling ledger, the hourly
dose sums, the map restore and JRN_CMD; the telemetry latch and the event counters (R491, R492).
-/

namespace Sys2Proof.Machine

/-! ## Faults and compactions -/

/-- A journal fault (R490). -/
def jrnFault (cause detail : Nat) (s : State) : State :=
  logEv 0x17 1 0 (cause * 2 ^ 24 + detail % 2 ^ 24) (oset Ob.JRN_FAULT cause s)

/-- A compaction is requested (R481): requests merge into one further compaction, and it waits while LAKE lacks bank 2
(R482). -/
def startCompact (s : State) : State :=
  if s.jrn.compact ∨ bankAway s 2 ∨ !s.jrn.present then { s with jrn := { s.jrn with again := true } }
  else { s with jrn := { s.jrn with compact := true, cand := s.jrn.base, since := 0 } }

/-- The panel is above the largest that the device supports (R473): its maps and ledger are not persisted. -/
def panelTooLarge (s : State) : Bool := decide (oget s Ob.JRN_MAXPIX < oget s Ob.SCAN_WIDTH * oget s Ob.SCAN_HEIGHT)

/-- The number of ledger pieces (R484). -/
def pieceCount (s : State) : Nat := ceilDiv (panelH s) 4

/-! ## The ring (R476 to R479) -/

/-- A journaled counter or register of a STATUS record (R478). -/
def statusKeys : List Nat :=
  [Ob.DEV_BOOTCNT, Ob.RST_CNT_POR, Ob.SAF_SEALCNT, Ob.CAL_GEN, Ob.CAL_RUNID, Ob.WEAR_SINCECAL, Ob.SAF_LAST_SM, Ob.SAF_LAST_EPOCH]

/-- The pairs of a byte list: a 4-byte key and an `n`-byte value each. -/
def pairsOf (n : Nat) : Nat → List Byte → SMap Nat
  | 0, _ => []
  | m + 1, bs => (ofBE (bs.take 4), ofBE ((bs.drop 4).take n)) :: pairsOf n m (bs.drop (4 + n))

/-- A region table as a REGION record carries it. -/
def regionTable (bs : List Byte) : SMap Nat :=
  (List.range 256).foldl (fun m i => put (fun _ => 0) m i (ofBE ((bs.drop (8 * i)).take 8))) []

/-- The journal restores what this record says, over what stood before (R478, R488). -/
def applyRecord (r : JRec) (s : State) (nv : Nv) : Nv :=
  let crc := ofBE (r.data.drop 2052)
  if r.type = 1 ∧ r.flags = 0 then { nv with obj := put objDefault nv.obj r.key r.value }
  else if r.type = 1 then { nv with dom := put domDefault nv.dom r.key r.data }
  else if r.type = 2 ∧ r.flags = 0 then
    { nv with regions := regionTable r.data, obj := put objDefault nv.obj Ob.SAF_SEALCRC crc }
  else if r.type = 2 then { nv with layout := some (r.value, regionTable r.data, crc) }
  else if r.type = 3 then
    match nv.layout with
    | some (g, t, c) =>
      if g = r.arg then { nv with layout := none, regions := t, obj := put objDefault nv.obj Ob.SAF_SEALCRC c } else nv
    | none => nv
  else if r.type = 4 then
    let e := match look s.evlog.entries r.key with
      | some x => if x.seq = field r.value 48 16 then [x.word, x.epoch] else [r.value, ofBE (r.data.take 6)]
      | none => [r.value, ofBE (r.data.take 6)]
    let old := if field (e.getD 0 0) 36 8 = 0x18 then [] else nv.logs
    { nv with logs := ins (ins old 0 [r.key, ofBE (r.data.drop 6)]) r.key e }
  else if r.type = 5 then
    let i := r.key / 32768 * 11520 + r.key % 32768 / 2
    let old := (get (fun _ => 0) nv.defect i).toNat
    let new := if r.key % 2 = 0 then 16 * r.value + old % 16 else old / 16 * 16 + r.value
    { nv with defect := put (fun _ => 0) nv.defect i (BitVec.ofNat 8 new), ages := ins nv.ages r.key (r.seq, ofBE r.data) }
  else if r.type = 6 then { nv with dramRows := nv.dramRows ++ [(r.key, r.value, r.arg)] }
  else if r.type = 7 then { nv with doses := (r.seq, pairsOf 4 (r.data.length / 8) r.data) :: nv.doses }
  else if r.type = 8 then
    let n := r.data.length / 2
    let ps := ins nv.pieces r.key (.mk r.seq (recSize r) (r.data.take n) (r.data.drop n))
    let oldest := ps.foldl (fun m e => min m e.2.seq) r.seq
    { nv with pieces := ps
              doses := if ps.length < pieceCount s then nv.doses else nv.doses.filter (fun d => decide (oldest < d.1)) }
  else if r.type = 9 then
    let m := (List.range 11).map (fun i => ofBE ((r.data.drop (4 * i)).take 4))
    if r.data.isEmpty then { nv with mark := none, staging := [] } else { nv with mark := some m, staging := s.cal.staging }
  else if r.type = 0x0A then
    let vec := (List.range 4).foldl (fun m i => put (fun _ => 0) m (i + 1) (ofBE ((r.data.drop (5 * i)).take 5))) []
    { nv with gylGen := r.key, gylVec := vec, obj := statusKeys.foldl (fun m k => put objDefault m k (oget s k)) nv.obj }
  else if r.type = 0x0B then { nv with gens := pairsOf 1 (r.data.length / 5) r.data }
  else nv

/-- Ring sectors that a record opens. -/
def newSectors (s : State) (n : Nat) : Nat := (s.jrn.total + n + 65535) / 65536 - (s.jrn.total + 65535) / 65536

/-- JRN_RINGUSE (R479). -/
def showRing (s : State) : State :=
  oset Ob.JRN_RINGUSE (if ringBytes s = 0 then 0 else min 100 (ringUsed s * 100 / ringBytes s)) s

/-- The head of the write buffer is programmed. -/
def programHead (r : JRec) (rest : List JRec) (s : State) : State :=
  let n := recSize r
  let coded := decide (r.type = 7 ∨ r.type = 8)
  let s1 := iter (evc 0xD3) (newSectors s n) (evc 0xD0 s)
  let s2 := { s1 with jrn := { s1.jrn with
    head := recHeader r
    buf := rest
    used := if coded then s1.jrn.used else s1.jrn.used + n
    total := s1.jrn.total + n
    nv := applyRecord r s1 s1.jrn.nv
    older := applyRecord r s1 s1.jrn.older
    cand := applyRecord r s1 s1.jrn.cand
    since := if coded then s1.jrn.since else s1.jrn.since + n } }
  let s3 := showRing (if r.type = 8 then evc 0xD2 s2 else s2)
  if oget s3 Ob.JRN_COMPACT * 2 ^ 20 < s3.jrn.used ∧ !s3.jrn.compact then startCompact s3 else s3

/-- The device-wide number of the ring sector at the head. -/
def headSector (s : State) : Nat :=
  (8 + 2 * oget s Ob.JRN_PSIZE) * 16 + (if ringBytes s = 0 then 0 else s.jrn.total % ringBytes s / 65536)

/-- JOURNAL_RECORD_WRITE: the head of the write buffer is programmed; with the ring full it is held and a compaction
starts (R479). After two failures the sector is retired and the record goes to the next one (R490). -/
def execJournalRecordWrite (t : Nat) (ok : Bool) (s : State) : Host.Outcome State Fault Refusal :=
  let s := s.at t
  .next (match s.jrn.buf with
    | [] => s
    | r :: rest =>
      if !s.jrn.present ∨ !hasBuffer s ∨ !crossUp s 0x1B then s
      else if ringFull s (recSize r) then (if s.jrn.compact then s else startCompact s)
      else if ok then programHead r rest s
      else
        let sec := headSector s
        let s1 := jrnFault 3 sec (evc 0xD4 s)
        let s2 := { s1 with jrn := { s1.jrn with retired := sec :: s1.jrn.retired
                                                 total := (s1.jrn.total / 65536 + 1) * 65536 } }
        if r.type = 9 then abandonCal 7 s2 else s2)

/-- RING_HOLD_DROP: a record held for 10 s is dropped and counted (R479). -/
def execRingHoldDrop (t : Nat) (s : State) : Host.Outcome State Fault Refusal :=
  let s := s.at t
  .next (match s.jrn.buf with
    | [] => s
    | r :: rest =>
      if s.now < r.at_ + 10000000000 then s
      else jrnFault 7 r.type (cnt Ob.JRN_DROPPED { s with jrn := { s.jrn with buf := rest } }))

/-! ## Generations (R480 to R483) -/

/-- A journaled object (R381), or a register that a generation carries (R475, R303). -/
def journaledKey (k : Nat) : Bool :=
  decide (accOf k = .rws) || decide (accOf k = .rwl) || decide (k / 256 = 0x1200) || decide (k = Ob.SAF_SEALED)
    || decide (k = Ob.SAF_SEALCRC) || statusKeys.contains k

/-- A map in DRAM as the journal takes it. -/
def mapImage (lo hi : Nat) (s : State) : SMap Byte := (within s.mem lo hi).map (fun e => (e.1 - lo, e.2))
def demuraImage (s : State) : SMap Byte := mapImage 0x58000000 0x64000000 s
def defectImage (s : State) : SMap Byte := mapImage 0x6C000000 0x6F000000 s

/-- What the settings and defect areas of a generation hold (R475); the older defect map stands where the new one was not written. -/
def capture (newDefect : Bool) (s : State) (nv : Nv) : Nv :=
  { nv with
    obj := s.obj.filter (fun e => journaledKey e.1)
    dom := s.dom.filter (fun e => journaledKey e.1)
    regions := s.scan.regAct
    defect := if newDefect then defectImage s else nv.defect
    logs := ins (s.evlog.entries.map (fun e => (e.1, [e.2.word, e.2.epoch]))) 0 [evBefore s.evlog.next, s.evlog.total]
    gylGen := s.gyl.gen
    gylVec := s.gyl.vec
    gen := (nv.gen + 1) % 2 ^ 32 }

/-- Sectors that a compaction erases: commit, settings and defect areas (R475, R480). -/
def areaSectors (s : State) : Nat := 38 + ceilDiv (27 * panelW s * panelH s) (32 * 65536)

/-- A generation has committed (R480): it is active, the records before its fold point are no longer needed, and the faults
that a compaction clears are cleared (R490). -/
def compacted (newDefect : Bool) (s : State) : State :=
  let nv := capture newDefect s s.jrn.nv
  let s1 := iter (evc 0xD3) (areaSectors s) (evc 0xD1 s)
  let s2 := oset Ob.JRN_GEN nv.gen { s1 with jrn := { s1.jrn with
    nv := nv, base := nv, older := s1.jrn.cand, used := s1.jrn.since, compact := false, commitCal := false } }
  let f := oget s2 Ob.JRN_FAULT
  let s3 := if f ≠ 1 ∧ f ≠ 2 ∧ f ≠ 5 ∧ f ≠ 10 then oset Ob.JRN_FAULT 0 s2 else s2
  let s4 := if s3.jrn.again ∧ !bankAway s3 2 then
      { s3 with jrn := { s3.jrn with compact := true, again := false, cand := s3.jrn.base, since := 0 } } else s3
  showRing s4

/-- The demura pointer names the areas just written for the bands of a mask (R480, R483); the other bands keep theirs. -/
def flipDemura (mask : Nat) (s : State) : State :=
  let p := s.jrn.nv.demPtr ^^^ mask
  let n := 46080 * bandH s
  let new := ((usedBands s).filter (bit mask)).foldl (fun m b =>
    splice m (n * b) (n * (b + 1)) (within (demuraImage s) (n * b) (n * (b + 1)))) s.jrn.nv.demura
  oset Ob.JRN_DEMPTR p { s with jrn := { s.jrn with nv := { s.jrn.nv with demPtr := p, demura := new } } }

/-- A map area is coded through LAKE slot 1 (R275, R475, R480): whether the job ended DONE, and whether its stream fits the area, a
reserve of 12.5 % above the nominal size. -/
def codeArea (base pitch w h : Nat) (s : State) : State × Bool × Bool :=
  let blocks := ceilDiv w 8 * ceilDiv h 4
  let (s1, ok) := fwMemJob 1 0 1 0 base pitch w h s
  let esc := (slotOf s1 1).ctx.escCnt
  (s1, ok, decide (fwBytes 1 blocks esc * 8 ≤ w * h * 9))

/-- Step 4 of R480 and the commit record. A job that stops with FAULT leaves the compaction in progress: it is coded again once the
firmware has rewritten the word (R162). Data beyond the area's reserve leaves the older copy (R490, cause 6). -/
def commitGeneration (s : State) : State :=
  if panelTooLarge s then compacted false s
  else
    let (s1, ok, fits) := codeArea 0x6C000000 11520 (ceilDiv (lineSubs s) 4) (panelH s) s
    if !ok then s1
    else if fits then compacted true s1 else jrnFault 6 2 (compacted false s1)

/-- Step 5 of R480 after a download: every used band is coded into its unreferenced area. The bands whose stream fits are answered, or
none where a job stopped with FAULT. -/
def codeDemura (s : State) : State × Option Nat :=
  (usedBands s).foldl (fun (a : State × Option Nat) b =>
    match a.2 with
    | none => a
    | some m =>
      let (s1, ok, fits) := codeArea (0x58000000 + 46080 * b * bandH s) 46080 (lineSubs s) (bandH s) a.1
      if !ok then (s1, none)
      else if fits then (s1, some (setBit m b)) else (jrnFault 6 (3 + b) s1, some m)) (s, some 0)

/-- COMPACTION_DONE: the maps are coded, and the commit record is programmed and read back; or an area fails, is retired and tried
again. -/
def execCompactionDone (t : Nat) (ok : Bool) (s : State) : Host.Outcome State Fault Refusal :=
  let s := s.at t
  .next (if !s.jrn.compact ∨ s.jrn.commitCal ∨ bankAway s 2 then s
    else if !ok then jrnFault 3 0 (evc 0xD4 s)
    else if !s.jrn.persist then commitGeneration s
    else match codeDemura s with
      | (s1, some m) => commitGeneration (flipDemura m { s1 with jrn := { s1.jrn with persist := false } })
      | (s1, none) => s1)

/-- CAL_COMMIT_DONE: the commit record of the map has committed (R347). -/
def execCalCommitDone (t : Nat) (s : State) : Host.Outcome State Fault Refusal :=
  let s := s.at t
  .next (if s.cal.state = .committing then
      let mask := ofBits ([0, 1, 2, 3].map (fun b => decide ((calBandOf s b).total ≠ 0)))
      let s1 := jrnStatus (oset Ob.WEAR_SINCECAL 0 (cnt Ob.CAL_GEN s))
      let s2 := commitGeneration (flipDemura mask s1)
      if s2.jrn.commitCal then commitGeneration s else calErase s2
    else s)

/-! ## Maps and their loss -/

/-- The bytes of a journaled map as entries of DRAM from address `lo` up to `hi`. -/
def mapCells (lo hi : Nat) (m : SMap Byte) : List Host.Cell :=
  (m.filter (fun e => decide (e.1 + lo < hi))).foldr (fun e a => put blankByte a (e.1 + lo) e.2) []

/-- Replace a stretch of DRAM. -/
def loadMap (lo hi : Nat) (m : SMap Byte) (s : State) : State :=
  { s with mem := splice s.mem lo hi (mapCells lo hi m)
           poison := splice s.poison (lo / 8) (hi / 8) [] }

/-- The dead subpixels of each position and of the map, counted afresh. -/
def countDead (s : State) : State :=
  let ds := deadSubs s
  oset Ob.WEAR_DEAD ds.length { s with wear := { s.wear with
    dead := ds.foldl (fun m p => upd (fun _ => 0) m (posKey (p.1 / 3 / 64) (p.2 / 32)) (· + 1)) [] } }

/-- Every dead subpixel has age 0xFFFF (R266). -/
def ageDead (s : State) : State := each (deadSubs s) (fun p => map16 (ageAt p.1 p.2) 0xFFFF) s

/-! ## The rolling ledger and the dose sums (R484 to R487) -/

/-- The elements of a plane over the four rows of a piece. -/
def pieceBytes (s : State) (base p : Nat) : List Byte :=
  (List.range 4).flatMap (fun r => if 4 * p + r < panelH s then memBytes s (base + 46080 * (4 * p + r)) (2 * lineSubs s)
    else List.replicate (2 * lineSubs s) 0)

/-- Elements of a line of a piece, 2 subpixels each, in whole blocks (R484). -/
def pieceWidth (s : State) : Nat := 8 * ceilDiv (lineSubs s) 16

/-- One plane of a piece goes through LAKE slot 1 as U16X2 (R484), the bias plane with both FLIP bits set: `dir` 0 codes and 1
decodes. -/
def pieceJob (dir base flip p : Nat) (s : State) : State × Bool :=
  fwMemJob 1 dir 2 flip (base + 46080 * (4 * p)) 46080 (pieceWidth s) 4 s

/-- Blocks of a plane of a piece that do not fit their slot (R140). -/
def pieceEscapes (s : State) (base flip p : Nat) : Nat :=
  (runFw (memBlocks s 2 flip (base + 46080 * (4 * p)) 46080 (pieceWidth s) 4) (fwCtx 0 2 flip (pieceWidth s) 4)).2.1

/-- The coded size of a piece, with its escapes (R126, R140). -/
def pieceCoded (s : State) (p : Nat) : Nat :=
  fwBytes 2 (2 * ceilDiv (lineSubs s) 16) (pieceEscapes s 0x40000000 3 p + pieceEscapes s 0x4C000000 0 p)

/-- The next ledger piece is coded and handed over, and the cycle goes on (R484, R485). One whose coding meets poison is not written,
and is tried again (R162). -/
def writePiece (s : State) : State :=
  let p := oget s Ob.JRN_LEDPIECE
  let n := pieceCount s
  let size := pieceCoded s p
  let nominal := 128 * ceilDiv (lineSubs s) 16
  let next := if n ≤ p + 1 then 0 else p + 1
  let (a, okA) := pieceJob 0 0x40000000 3 p s
  let (b, okB) := if okA then pieceJob 0 0x4C000000 0 p a else (a, false)
  if !okB then b
  else
    let s1 := if nominal * 9 < size * 8 then jrnFault 6 (0x800000 + p) b
      else jrnAdd 8 0 0 p size (pieceBytes s 0x40000000 p ++ pieceBytes s 0x4C000000 p) b
    oset Ob.JRN_LEDPIECE next { s1 with jrn := { s1.jrn with fresh := s1.jrn.fresh && decide (next ≠ 0), ledAt := s1.now } }

/-- Coding may run: the device holds the maps and LAKE owns bank 2 (R482, R490). -/
def codes (s : State) : Bool := s.jrn.present && !bankAway s 2 && !panelTooLarge s && decide (0 < pieceCount s)

/-- A piece is due: one every JRN_LEDPER × 3,600 / (number of pieces) seconds, or back to back in a fresh cycle (R484). -/
def pieceDue (s : State) : Bool :=
  s.jrn.fresh || decide (s.jrn.ledAt = 0) ||
  decide (s.jrn.ledAt + oget s Ob.JRN_LEDPER * 3600000000000 / pieceCount s ≤ s.now)

/-- LEDGER_PIECE_TIMER: a ledger piece, suspended while the ring is full or coding is held (R479, R482). -/
def execLedgerPieceTimer (t : Nat) (s : State) : Host.Outcome State Fault Refusal :=
  let s := s.at t
  .next (if !codes s ∨ !pieceDue s ∨ !s.jrn.mapsDone ∨ ringFull s (2 * pieceCoded s (oget s Ob.JRN_LEDPIECE)) then s else writePiece s)

/-- The dose sums in units of 2^40, as a record carries them: position × 3 + colour, and the U32 sum (R486). -/
def doseUnits (s : State) : SMap Nat := (s.wear.dose.map (fun e => (e.1, e.2 / 2 ^ 40 % 2 ^ 32))).filter (fun e => decide (e.2 ≠ 0))

/-- The dose sums as the blocks of a raster of 360 by 136 U16X2 elements (R486). -/
def doseBlocks (s : State) : List (Option (List (List Nat))) :=
  rasterBlocks 360 136 (fun c r => some ((List.range 32).map (fun e =>
    let x := 8 * c + e % 8
    elemComps 2 0 (get (fun _ => 0) (doseUnits s) (posKey (x / 3) (4 * r + e / 8) * 3 + x % 3)))))

/-- Bytes of a coded DOSE record with its escapes. -/
def doseCoded (s : State) : Nat := fwBytes 2 1530 (runFw (doseBlocks s) (fwCtx 0 2 0 360 136)).2.1

/-- Code the dose sums through LAKE slot 0 and hand over a DOSE record; the remainder below one unit is carried forward (R486). -/
def writeDose (s : State) : State :=
  let s1 := jrnAdd 7 0 0 0 (doseCoded s) ((doseUnits s).flatMap (fun e => toBE 4 e.1 ++ toBE 4 e.2))
    (fwJob 0 0 2 0 360 136 (doseBlocks s) [] s).1
  { s1 with wear := { s1.wear with
    dose := (s1.wear.dose.map (fun e => (e.1, e.2 % 2 ^ 40))).filter (fun e => decide (e.2 ≠ 0)) } }

/-- DOSE_HOURLY_TIMER: at each hour of uptime (R486); held while LAKE lacks bank 2 (R482). -/
def execDoseHourlyTimer (t : Nat) (s : State) : Host.Outcome State Fault Refusal :=
  let s := s.at t
  .next (if !codes s ∨ s.now < max s.jrn.doseAt s.boot.upSince + 3600000000000 then s
    else writeDose { s with jrn := { s.jrn with doseAt := s.now } })

/-- Bank 2 leaves LAKE: coding is held, with fault cause 10 (R482). -/
def codingHeld (s : State) : State := jrnFault 10 0 { s with jrn := { s.jrn with held := true } }

/-- Bank 2 returns to LAKE: fault cause 10 clears, one DOSE record is written at once, and a deferred compaction starts
(R482). -/
def codingBack (s : State) : State :=
  if s.jrn.held then
    let s1 := { s with jrn := { s.jrn with held := false } }
    let s2 := if oget s1 Ob.JRN_FAULT = 10 then oset Ob.JRN_FAULT 0 s1 else s1
    let s3 := if codes s2 then writeDose s2 else s2
    if s3.jrn.again then startCompact { s3 with jrn := { s3.jrn with again := false } } else s3
  else s

/-- The dose added to a position's colour after a piece (R487). -/
def doseAfter (s : State) (seq : Option Nat) (k : Nat) : Nat :=
  s.jrn.nv.doses.foldl (fun n d => if (match seq with
      | some q => decide (q < d.1)
      | none => true) then n + get (fun _ => 0) d.2 k else n) 0

/-- Write the bytes of a plane over the four rows of a piece. -/
def putPiece (base p : Nat) (bs : List Byte) (s : State) : State :=
  each ((List.range 4).filter (fun r => decide (4 * p + r < panelH s))) (fun r st =>
    memRun (base + 46080 * (4 * p + r)) ((bs.drop (2 * lineSubs s * r)).take (2 * lineSubs s)) st) s

/-- The age of a subpixel after the dose of R487. -/
def respread (s : State) (sub y d a : Nat) : Nat :=
  if a = 0xFFFF then a else min (a + (d * 2 ^ 29 + ledgerHash sub y (oget s Ob.DEV_BOOTCNT) / 2 ^ 8) / 2 ^ 56) 0xFFFE

/-- Restore a piece (R488, R489): its planes, the dose since, and the DEFECT records since. -/
def restorePiece (bad : List Nat) (p : Nat) (s : State) : State :=
  let rec_ := if bad.contains p then none else look s.jrn.nv.pieces p
  let n := 8 * lineSubs s
  let s1 := putPiece 0x4C000000 p (match rec_ with
    | some r => r.age
    | none => List.replicate n 0) (putPiece 0x40000000 p (match rec_ with
    | some r => r.bias
    | none => List.replicate n 0) s)
  let seq := rec_.map (·.seq)
  let sd := if rec_.isSome then (pieceJob 1 0x4C000000 0 p (pieceJob 1 0x40000000 3 p s1).1).1 else s1
  let rows := (List.range 4).filter (fun r => decide (4 * p + r < panelH s1))
  let s2 := each rows (fun r st =>
    let y := 4 * p + r
    each (List.range (lineSubs st)) (fun sub a =>
      let d := doseAfter a seq (posKey (sub / 3 / 64) (y / 32) * 3 + sub % 3)
      mem16 (ageAt sub y) (respread a sub y d (memBE a (ageAt sub y) 2)) a) st) sd
  let later := (within s2.jrn.nv.ages (32768 * (4 * p)) (32768 * (4 * p + 4))).filter (fun e => match seq with
    | some q => decide (q < e.2.1)
    | none => true)
  let s3 := each later (fun e => mem16 (ageAt (e.1 % 32768) (e.1 / 32768)) e.2.2) s2
  if bad.contains p then jrnFault 8 (0x800000 + p) s3 else s3

/-- Each band's demura area is restored; a band whose area failed takes the as-built map (R488, R489). -/
def restoreDemura (mask : Nat) (s : State) : State :=
  let built := match s.jrn.nv.asBuilt with
    | some (d, _) => d
    | none => []
  let part (m : SMap Byte) (b : Nat) : SMap Byte := within m (46080 * b * bandH s) (46080 * (b + 1) * bandH s)
  each (usedBands s) (fun b st =>
    let lo := 0x58000000 + 46080 * b * bandH st
    let src := if bit mask b then part built b else part st.jrn.nv.demura b
    let st1 := loadMap lo (lo + 46080 * bandH st) (src.map (fun e => (e.1 - 46080 * b * bandH st, e.2))) st
    let st2 := (fwMemJob 1 1 1 0 lo 46080 (lineSubs st1) (bandH st1) st1).1
    if bit mask b then jrnFault 8 (3 + b) st2 else st2) s

/-- Every ledger piece is restored, then the dose since it is spread and the dead are marked (R486 to R488). -/
def restoreLedger (bad : List Nat) (s : State) : State :=
  ageDead (if panelTooLarge s then s else each (List.range (pieceCount s)) (restorePiece bad) s)

/-- The defect and spare map as the journal holds it, decoded through LAKE slot 1 (R488). -/
def restoreDefect (s : State) : State :=
  let s1 := loadMap 0x6C000000 0x6F000000 s.jrn.nv.defect s
  countDead (whenDo (!panelTooLarge s) (fun a => (fwMemJob 1 1 1 0 0x6C000000 11520 (ceilDiv (lineSubs a) 4) (panelH a) a).1) s1)

/-- The maps whose download failed are restored, each from its last journaled snapshot (R366). -/
def restoreFailed (mask : Nat) (bad : List Nat) (s : State) : State :=
  let ks := s.jrn.redo
  let s1 := if ks.contains Ob.WEAR_DEFMAP then restoreDefect s else s
  let s2 := if ks.contains Ob.CMP_DEMURA then restoreDemura mask s1 else s1
  if ks.contains Ob.MDL_LEDGER then restoreLedger bad s2 else s2

/-- MAP_RESTORE_DONE: at boot, each band's demura area, then every piece, then R487 (R488, R489); after a failed download,
the map concerned (R366). -/
def execMapRestoreDone (t : Nat) (badBands : BitVec 4) (badPieces : List Nat) (s : State) :
    Host.Outcome State Fault Refusal :=
  let s := s.at t
  let mask := badBands.toNat
  let again := !s.jrn.redo.isEmpty
  .next (if s.boot.stage ≠ .started ∨ s.boot.op = .boot ∨ s.jrn.mapsDone ∨ (!s.jrn.present ∧ !again) then s
    else
      let s1 := if again then restoreFailed mask badPieces s else restoreLedger badPieces (restoreDemura mask s)
      { s1 with jrn := { s1.jrn with mapsDone := true, redo := [] } })

/-! ## JRN_CMD (R474, R481) -/

/-- The correction grids as the factory partition keeps them. -/
def gridImages (s : State) : List (List Byte) := (List.range 8).map (fun i => memBytes s (gridAt i 0) 98736)

/-- A format erases every partition except a locked factory partition (R474). -/
def formatDevice (s : State) : State :=
  let locked := oflag s Ob.JRN_FACTLOCK
  let nv := { Nv.blank with asBuilt := if locked then s.jrn.nv.asBuilt else none
                            asGrids := if locked then s.jrn.nv.asGrids else [] }
  let s1 := { s with jrn := { s.jrn with nv := nv, base := nv, older := .blank, used := 0, total := 0, erased := s.jrn.erased + 1, compact := false,
                                         again := false, persist := false, retired := [] } }
  let s2 := if locked then s1 else
    { s1 with mgt := { s1.mgt with patchFb := none, patchLoaded := false, patchPend := false, patchEver := false
                                   patchRun := s1.mgt.patchRun.map (fun p => { p with image := [] }) } }
  showRing (oset Ob.JRN_DEMPTR 0 (oset Ob.JRN_GEN 0 s2))

/-- Lock the factory partition with the maps in force (R474). -/
def lockFactory (s : State) : State :=
  oset Ob.JRN_FACTLOCK 1 { s with jrn := { s.jrn with nv := { s.jrn.nv with
    asBuilt := some (demuraImage s, defectImage s), asGrids := gridImages s } } }

/-- The as-built maps are restored into DRAM (R474). -/
def restoreBuilt (s : State) : State :=
  match s.jrn.nv.asBuilt with
  | none => s
  | some (d, m) =>
    let s1 := loadMap 0x6C000000 0x6F000000 m (loadMap 0x58000000 0x64000000 d s)
    let s2 := each (s1.jrn.nv.asGrids.zipIdx) (fun g => memRun (gridAt g.2 0) g.1) s1
    ageDead (countDead s2)

/-- The own rule of JRN_CMD. -/
def ownJrnCmd (v : Nat) (s : State) : State × Nat :=
  if v ≠ 1 ∧ s.boot.op ≠ .setup then (s, St.state)
  else if (v = 1 ∨ v = 4) ∧ bankAway s 2 then (s, St.busy)
  else if !s.jrn.present then (s, St.refused)
  else if v = 1 then (startCompact s, St.ok)
  else if v = 2 then (formatDevice s, St.ok)
  else if v = 3 then (if oflag s Ob.JRN_FACTLOCK then (s, St.refused) else (lockFactory s, St.ok))
  else if s.jrn.nv.asBuilt.isNone then (s, St.refused)
  else (startCompact { restoreBuilt s with jrn := { (restoreBuilt s).jrn with persist := true } }, St.ok)

/-- JRN_CMD_COMPACT. -/
def execJrnCmdCompact (t : Nat) (h : Hdr) (s : State) : Host.Outcome State Fault Refusal :=
  .next (writeRow h Ob.JRN_CMD 1 ownJrnCmd (s.at t))

/-- JRN_CMD_FORMAT. -/
def execJrnCmdFormat (t : Nat) (h : Hdr) (s : State) : Host.Outcome State Fault Refusal :=
  .next (writeRow h Ob.JRN_CMD 2 ownJrnCmd (s.at t))

/-- JRN_CMD_LOCK. -/
def execJrnCmdLock (t : Nat) (h : Hdr) (s : State) : Host.Outcome State Fault Refusal :=
  .next (writeRow h Ob.JRN_CMD 3 ownJrnCmd (s.at t))

/-- JRN_CMD_ASBUILT. -/
def execJrnCmdAsbuilt (t : Nat) (h : Hdr) (s : State) : Host.Outcome State Fault Refusal :=
  .next (writeRow h Ob.JRN_CMD 4 ownJrnCmd (s.at t))

/-! ## Telemetry (R491) -/

/-- The hotter of two signed temperatures. -/
def hotter (w a b : Nat) : Nat := if toSigned w a < toSigned w b then b else a

/-- TLM_TPANEL: the mean of the valid thermistors, 0x8000 if none. -/
def panelTemp (s : State) : Nat :=
  let v := validTherms s
  if v.isEmpty then 0x8000 else ofSigned 16 (v.foldl (· + ·) 0 / (v.length : Int))

/-- TLM_VAL takes the values of the frame that has ended, whose epoch is given (R491). -/
def refreshTlm (ended : Nat) (s : State) : State :=
  let bw := freeOf s % 2 ^ 16
  let s1 := tookFree s
  let use_ := freeOf s1 % 2 ^ 16
  let s2 := tookFree s1
  let o (k v : Nat) (st : State) : State := oset k v st
  (o Ob.TLM_EPOCH ended ∘ o Ob.TLM_TDIE (Config.dieTemp (adcOf s 14).code).toNat
    ∘ o Ob.TLM_TDRAM (hotter 16 (oget s Ob.FST_TEMP_DIE0) (oget s Ob.FST_TEMP_DIE1)) ∘ o Ob.TLM_TPANEL (panelTemp s)
    ∘ o Ob.TLM_VCORE s.pwr.vack ∘ o Ob.TLM_SLACK (ofSigned 16 s.scan.lastSlack) ∘ o Ob.TLM_DRAMBW bw ∘ o Ob.TLM_LINKUSE use_
    ∘ o Ob.TLM_COMMITS (min s.scan.commits 0xFFFF) ∘ o Ob.TLM_UPTIME ((s.now - s.boot.upSince) / 1000000000)) s2

/-- Latch TLM_VAL and the event counters (R491). -/
def takeSnap (epoch : Nat) (s : State) : State :=
  let s1 := each (List.range 9) (fun i st => oset (Ob.TLM_SNAPVAL + i) (oget st (Ob.TLM_TDIE + i)) st) s
  let s2 := each (List.range 32) (fun i st => oset (Ob.TLM_SNAPEVC + i) (oget st (Ob.EVC_VAL + i)) st) s1
  evc 0x66 (cnt Ob.TLM_SNAPCNT (oset Ob.TLM_SNAPEPOCH epoch s2))

/-- At the start of the frame of `epoch`, a due SNAP and a TLM_SNAPCMD share one latch (R427, R491). -/
def snapFrame (epoch : Nat) (s : State) : State :=
  let due : Bool := match s.gyl.snap with
    | some e => decide (e ≤ epoch)
    | none => false
  if due ∨ oflag s Ob.TLM_SNAPCMD then
    let s1 := takeSnap epoch (oset Ob.TLM_SNAPCMD 0 s)
    if due then oset Ob.GYL_SNAPEPOCH epoch { s1 with gyl := { s1.gyl with snap := none } } else s1
  else s

/-- The own rule of TLM_SNAPCMD (R491). -/
def ownSnapCmd (v : Nat) (s : State) : State × Nat := (if v = 1 then oset Ob.TLM_SNAPCMD 1 s else s, St.ok)

/-- TLM_SNAPCMD. -/
def execTlmSnapcmd (t : Nat) (h : Hdr) (v : BitVec 8) (s : State) : Host.Outcome State Fault Refusal :=
  .next (writeRow h Ob.TLM_SNAPCMD v.toNat ownSnapCmd (s.at t))

/-! ## Event counters (R492) -/

/-- The own rule of an element of EVC_SEL: it selects the source and clears the counter. -/
def ownEvcSel (n v : Nat) (s : State) : State × Nat := (oset (Ob.EVC_VAL + n) 0 (oset (Ob.EVC_SEL + n) v s), St.ok)

/-- EVC_SEL_WRITE. -/
def execEvcSelWrite (t : Nat) (h : Hdr) (counter : Fin 32) (v : BitVec 8) (s : State) : Host.Outcome State Fault Refusal :=
  .next (writeRow h (Ob.EVC_SEL + counter.val) v.toNat (ownEvcSel counter.val) (s.at t))

/-- The own rule of EVC_CLEAR. -/
def ownEvcClear (v : Nat) (s : State) : State × Nat :=
  (each ((List.range 32).filter (bit v)) (fun n => oset (Ob.EVC_VAL + n) 0) s, St.ok)

/-- EVC_CLEAR. -/
def execEvcClear (t : Nat) (h : Hdr) (v : BitVec 32) (s : State) : Host.Outcome State Fault Refusal :=
  .next (writeRow h Ob.EVC_CLEAR v.toNat ownEvcClear (s.at t))

end Sys2Proof.Machine
end

