-- ==== Sys2Proof/Machine/Fst.lean ====
section
/-!
DEFINITION. The frame store's own work (R161 to R168): the scrub, failing rows and what becomes of them, refresh and die
temperatures, and the rewrite of map words by the firmware.
-/

namespace Sys2Proof.Machine

/-! ## Rows -/

/-- The die that holds a byte (R155), and the frame-store row that covers it (R167). -/
def dieOf (a : Nat) : Nat := a / 64 % 2
def rowAt16 (a : Nat) : Nat := a / 16384

/-- Spare rows of a die that are used or being filled (R167). -/
def sparesUsed (s : State) (d : Nat) : Nat :=
  (s.fst.spared.filter (fun p => decide (p.1 = d))).length + (s.fst.copying.filter (fun p => decide (p.1 = d))).length

/-- The panel lines that hold a byte of `[o, o + 16384)` of a region with a line pitch and a used width, in bytes. -/
def rowLines (s : State) (o pitch used : Nat) : List Nat :=
  ((List.range (16384 / pitch + 2)).map (· + o / pitch)).filter (fun y =>
    decide (y < panelH s ∧ o < y * pitch + used ∧ y * pitch < o + 16384))

/-- The lines of the panel that a row of a scan-path region or a plate serves (R157, R167). -/
def linesOfRow (s : State) (r : Nat) : List Nat :=
  let a := 16384 * r
  let w := panelW s
  if a < 0x40000000 then rowLines s (a % 0x08000000) 30720 (4 * w)
  else if a < 0x64000000 then rowLines s ((a - 0x40000000) % 0x0C000000) 46080 (6 * w)
  else if 0x6C000000 ≤ a ∧ a < 0x6F000000 then rowLines s (a - 0x6C000000) 11520 (ceilDiv (3 * w) 2)
  else []

/-- The bands of a list of panel lines. -/
def bandsOfLines (s : State) (ys : List Nat) : Nat := (ys.map (bandOf s)).foldl setBit 0

/-- Every band of a mask goes dark because of an unusable row, and stays so after every restart (R167, R168). -/
def darkUnusable (mask : Nat) (s : State) : State :=
  let m := s.safe.unusable ||| mask
  bandsReaction 8 mask false false (oset Ob.FST_DARKBANDS m { s with safe := { s.safe with unusable := m } })

/-- The objects of the unusable rows. -/
def showUnusable (r n : Nat) (s : State) : State :=
  let s1 := oset Ob.FST_UNUSABLE (n + 1) s
  if n < 32 then oset (Ob.FST_BADROW + n) (16384 * r) s1 else s1

/-- A row becomes unusable, without its bands' reaction: a plate in it becomes FAILED (R167, R222). -/
def retireRow (r : Nat) (s : State) : State :=
  let n := s.fst.unusable.length
  let a := 16384 * r
  let s1 := showUnusable r n { s with fst := { s.fst with unusable := s.fst.unusable ++ [r] } }
  if 0x10000000 ≤ a ∧ a < 0x40000000 then setPlate ((a - 0x10000000) / 0x08000000) 3 s1 else s1

/-- The bands that an unusable row darkens: those of its lines, for a plate while it is selected for display. -/
def retireMask (s : State) (r : Nat) : Nat :=
  let a := 16384 * r
  if 0x10000000 ≤ a ∧ a < 0x40000000 ∧ s.scan.selNow ≠ (a - 0x10000000) / 0x08000000 + 1 then 0
  else bandsOfLines s (linesOfRow s r)

/-- A pending switch to a plate that has become FAILED is cancelled (R224). -/
def failedShow (s : State) : State :=
  match s.scan.pend with
  | some (n, _, _) => if n ≠ 0 ∧ plateOf s (n - 1) = 3 then cancelShow s else s
  | none => s

/-- A row of a region that the scan path reads, or of a plate, fails with the spares spent (R167). Its record keeps the bands
that it darkened, which stay dark after every restart (R168). -/
def rowUnusable (r : Nat) (s : State) : State :=
  if s.fst.unusable.contains r then s
  else
    let m := retireMask s r
    let s1 := retireRow r s
    let s2 := logEv 0x13 1 0 (16384 * r) (evc 0xA7 (jrnAdd 6 0 m r 4 [] s1))
    darkUnusable m (failedShow s2)

/-- A row is relocated into the next free row of the pool; with the pool spent, a device-class reaction follows. -/
def rowRelocate (r : Nat) (s : State) : State :=
  let n := s.fst.reloc.length
  if 15360 ≤ n then deviceReaction 8 true false (oset Ob.FST_DIELOSS 7 (failure 8 s))
  else
    let s1 := oset Ob.FST_RELOC (n + 1) { s with fst := { s.fst with reloc := s.fst.reloc ++ [r] } }
    logEv 0x13 1 0 (16384 * r) (evc 0xA6 (jrnAdd 6 0 n r 3 [] s1))

/-- A row whose failing has no die spare left is handled by its region (R167). -/
def rowByRegion (r : Nat) (s : State) : State :=
  let a := 16384 * r
  if a < 0x64000000 ∨ (0x6C000000 ≤ a ∧ a < 0x6F000000) then rowUnusable r s
  else if 0x71000000 ≤ a then
    (match s.fst.reloc[r - 0x71000000 / 16384]? with
     | some home => rowRelocate home s
     | none => s)
  else rowRelocate r s

/-- A die row has become failing (R167): it is copied into a spare row of its die, or handled by region. -/
def failRow (a : Nat) (s : State) : State :=
  let d := dieOf a
  let r := rowAt16 a
  let s1 := { s with fst := { s.fst with
    corr := s.fst.corr.filter (fun e => decide (dieOf e.word ≠ d) || decide (rowAt16 e.word ≠ r)) } }
  if s1.fst.copying.contains (d, r) then s1
  else if sparesUsed s1 d < 512 then { s1 with fst := { s1.fst with copying := s1.fst.copying ++ [(d, r)] } }
  else rowByRegion r s1

/-- ROW_COPY_DONE: the oldest copy in progress completes and its row is remapped (R167, R168). -/
def execRowCopyDone (t : Nat) (s : State) : Host.Outcome State Fault Refusal :=
  let s := s.at t
  .next (match s.fst.copying with
    | [] => s
    | (d, r) :: rest =>
      let s1 := { s with fst := { s.fst with copying := rest, spared := s.fst.spared ++ [(d, r)] } }
      let n := (s1.fst.spared.filter (fun p => decide (p.1 = d))).length
      evc 0xA5 (jrnAdd 6 0 n r (d + 1) [] (oset (Ob.FST_SPARE_DIE0 + d) n s1)))

/-! ## Errors found (R161 to R163, R167) -/

/-- FST declares a die lost (R163). -/
def dieLost (cause : Nat) (s : State) : State := deviceReaction 8 true false (oset Ob.FST_DIELOSS cause (failure 8 s))

/-- A correctable error: it is counted, and it makes its row failing when it is the third different word within an hour
or the same word on consecutive passes (R167). -/
def correctable (a : Nat) (s : State) : State :=
  let pass := oget s Ob.FST_SCRUB_PASSES
  let s1 := evc 0xA0 (cnt Ob.FST_ECC_CORR s)
  let fresh (e : CorrEvent) : Bool := decide (s1.now < e.at_ + 3600000000000)
  let kept := s1.fst.corr.filter (fun e => fresh e || decide (pass ≤ e.pass + 1))
  let twice := kept.any (fun e => decide (e.word = a) && decide (e.pass + 1 = pass))
  let words := kept.filter (fun e =>
    fresh e && decide (dieOf e.word = dieOf a) && decide (rowAt16 e.word = rowAt16 a) && decide (e.word ≠ a))
  let s2 := { s1 with fst := { s1.fst with corr := .mk a s1.now pass :: kept.filter (fun e => decide (e.word ≠ a)) } }
  if twice ∨ 2 ≤ words.length then failRow a s2 else s2

/-- The word of the last journaled ledger piece that covers bias plane address `a` (R162). -/
def biasWord (s : State) (a : Nat) : List Byte :=
  let o := a - 0x40000000
  let y := o / 46080
  let w := 2 * lineSubs s
  match look s.jrn.nv.pieces (y / 4) with
  | some p => (List.range 8).map (fun i =>
      if o % 46080 + i < w then p.bias.getD (y % 4 * w + o % 46080 + i) 0 else 0)
  | none => List.replicate 8 0

/-- A row whose expected signature is lost counts as failing SM04 (R162, R175): which row, the spec leaves to the
layout of the store, a free value. -/
def lostSignature (s : State) : State :=
  let b := freeOf s % bandCount s
  let y := panelRow s b (freeOf s / bandCount s % max 1 (bandH s))
  let s1 := evc (0x68 + 8 * b) (cnt (Ob.IND_SM04 + b) (failure 4 (tookFree s)))
  if (List.range (tileCols s1)).any (fun tx => decide (rowClass s1 tx y ≠ 0)) then readReact 4 b s1 else s1

/-- The content of a buffer side of a position loses its vouched time until new content arrives (R283). -/
def unvouch (b : Bool) (tx ty : Nat) (s : State) : State :=
  let k := posKey tx ty
  let p := posOf s k
  setPos k (if p.sel = b then { p with shown := { p.shown with vouched := none } }
    else { p with pend := p.pend.map (fun c => { c with vouched := none }) }) s

/-- The reaction to a word that holds poison, by its region (R162). A scan buffer word takes the vouched time of the content it
belongs to (R283). Whether the firmware can restore its own data the spec does not say when: a free value. -/
def poisonReaction (a : Nat) (s : State) : State :=
  let f := wordFeeds (a / 8)
  let here := f.1.filter (fun p => decide (p.1 < tileCols s) && decide (p.2 < tileRows s) && (match f.2 with
    | some b => decide (b = (posOf s (posKey p.1 p.2)).sel)
    | none => gridUsed s (s.scan.latch.getD (takeLatch s.scan.epoch s)) (a / 8) p.2))
  if 0x40000000 ≤ a ∧ a < 0x4C000000 then memRun a (biasWord s a) s
  else if 0x6F000000 ≤ a ∧ a < 0x70000000 then lostSignature s
  else if 0x70100000 ≤ a ∧ a < 0x71000000 then
    if freeOf s % 2 = 0 then tookFree { s with poison := unpoison s.poison a 8 } else deviceReaction 8 false false (tookFree s)
  else
    let s1 := match f.2 with
      | some b => each f.1 (fun p => unvouch b p.1 p.2) s
      | none => s
    if here.isEmpty ∨ s.scan.selNow ≠ 0 then s1
    else tileReaction 8 (here.any (fun p => decide ((classNow s p.1 p.2).1 = 2))) false s1

/-- A newly uncorrectable word: it is counted and poisoned unless newer data stands, its row fails, and more than 64 of
a die within 1 ms lose the die (R161, R163, R164, R167). -/
def uncorrectable (a : Nat) (overwritten : Bool) (s : State) : State :=
  let d := dieOf a
  let s1 := evc 0xA1 (oset Ob.FST_ECC_LAST a (cnt Ob.FST_ECC_UNCORR (failure 8 s)))
  let ts := s1.now :: ((look s1.fst.uncorrAt d).getD []).filter (fun t => decide (s1.now < t + 1000000))
  let s2 := { s1 with fst := { s1.fst with uncorrAt := ins s1.fst.uncorrAt d ts } }
  let s3 := if overwritten then s2 else poisonReaction a { s2 with poison := ins s2.poison (a / 8) true }
  let s4 := failRow a s3
  if 64 < ts.length then dieLost (3 + d) s4 else s4

/-! ## The scrub (R164, R165) -/

/-- ms that the scrub lies behind its pass schedule at an address. -/
def scrubLag (s : State) (a : Nat) : Nat := (s.now - s.fst.passFrom - a * 10 ^ 9 / dramTop) / 1000000

/-- The scrub moves to the next word: a pass ends, and it is promoted while more than 50 ms behind. -/
def scrubNext (s : State) : State :=
  let a := s.fst.scrubAddr + 8
  let wrap := decide (dramTop ≤ a)
  let s1 := { s with fst := { s.fst with
    scrubAddr := if wrap then 0 else a
    passFrom := if wrap then s.fst.passFrom + 10 ^ 9 else s.fst.passFrom } }
  let s2 := whenDo wrap (fun st => evc 0xA2 (cnt Ob.FST_SCRUB_PASSES st)) s1
  let lag := scrubLag s2 s2.fst.scrubAddr
  let s3 := oset Ob.FST_SCRUB_ADDR s2.fst.scrubAddr (oset Ob.FST_SCRUB_LAG (min lag 0xFFFF) s2)
  let hot := decide (50 < lag)
  let s4 := { s3 with fst := { s3.fst with promoted := hot } }
  whenDo (hot && !s.fst.promoted) (fun st => evc 0xA3 (cnt Ob.FST_SCRUB_PROMO st)) s4

/-- The scrub runs: not in self-refresh, not with the dies idle (R165, R432). -/
def scrubRuns (s : State) : Bool := decide (s.boot.stage = .started) && !s.fst.selfRef && !s.fst.dieIdle

/-- SCRUB_STEP: the scrub reads the word it stands at. A word that holds the poison reads as uncorrectable again. -/
def execScrubStep (t : Nat) (found : WordState) (overwritten : Bool) (s : State) : Host.Outcome State Fault Refusal :=
  let s := s.at t
  let a := s.fst.scrubAddr
  .next (if !scrubRuns s then s
    else scrubNext (if poisoned s a then readPoison [a / 8] s
      else match found with
        | .clean => s
        | .correctable => correctable a s
        | .uncorrectable => uncorrectable a overwritten s))

/-! ## Refresh and die temperatures (R166) -/

/-- The threshold of a refresh step, in 0.125 °C. -/
def stepAt : Nat → Int
  | 1 => 680
  | 2 => 840
  | _ => 1000

/-- The refresh step that two readings call for, from the step in force. -/
def refreshStep (old : Nat) (hot : Int) : Nat :=
  let up := if stepAt 3 ≤ hot then 3 else if stepAt 2 ≤ hot then 2 else if stepAt 1 ≤ hot then 1 else 0
  let held := ([1, 2, 3].filter (fun k => decide (k ≤ old) && decide (stepAt k - 24 < hot))).length
  max up held

/-- A reading of a die outside −45 to 155 °C (R333). -/
def dieOutside (v : Int) : Bool := decide (v < -360) || decide (1240 < v)

/-- DRAM_TEMP_READ: both dies answer, or a die that does not is lost (R163, R166). -/
def execDramTempRead (t : Nat) (die0 die1 : Option Int) (s : State) : Host.Outcome State Fault Refusal :=
  let s := s.at t
  .next (if s.boot.stage ≠ .started then s
    else match die0, die1 with
      | none, _ => dieLost 5 s
      | some _, none => dieLost 6 s
      | some v0, some v1 =>
        let s1 := oset Ob.FST_TEMP_DIE0 (ofSigned 16 v0) (oset Ob.FST_TEMP_DIE1 (ofSigned 16 v1) s)
        let old := oget s1 Ob.FST_REFRESH_STEP
        let new := refreshStep old (max v0 v1)
        let s2 := if new = old then s1 else evc 0xA4 (cnt Ob.FST_REFRESH_CHG (oset Ob.FST_REFRESH_STEP new s1))
        sm12Input 17 (dieOutside v1) (dieOutside v1) (sm12Input 16 (dieOutside v0) (dieOutside v0) s2))

/-- DRAM_REFRESH: a die that fails to complete a refresh is lost, and so is one with two command or address parity errors
within 10 µs; `parityErr` tells of one on the refresh command (R163, log entry 56). -/
def execDramRefresh (t : Nat) (die : Fin 2) (completed parityErr : Bool) (s : State) : Host.Outcome State Fault Refusal :=
  let s := s.at t
  let d := die.val
  let twice := match look s.fst.parityAt d with
    | some at_ => parityErr && decide (s.now ≤ at_ + 10000)
    | none => false
  let s1 := if parityErr then { s with fst := { s.fst with parityAt := ins s.fst.parityAt d s.now } } else s
  .next (if s.boot.stage ≠ .started then s
    else if !completed then dieLost (5 + d) s1
    else if twice then dieLost (1 + d) s1
    else s1)

/-! ## Repair by the firmware (R162) -/

/-- The maps, the age plane and the grids, whose words the firmware rewrites from the journal. -/
def repaired (a : Nat) : Bool :=
  decide (0x4C000000 ≤ a ∧ a < 0x64000000) || decide (0x6C000000 ≤ a ∧ a < 0x6F000000) || decide (0x70000000 ≤ a ∧ a < 0x70100000)

/-- MAP_WORD_REWRITE: word `word` of the store is written whole, which removes its poison (R161, R162). -/
def execMapWordRewrite (t : Nat) (word : Nat) (value : BitVec 64) (s : State) : Host.Outcome State Fault Refusal :=
  let s := s.at t
  let a := 8 * word
  if dramTop ≤ a then .fault .outsideDram
  else .next (if s.boot.stage = .started ∧ repaired a then mapStore a (toBE 8 value.toNat) s else s)

end Sys2Proof.Machine
end

