-- ==== Sys2Proof/Machine/GylLine.lean ====
section
/-!
DEFINITION. The two pairs of the Gylor cascade (R400 to R405, R407): node addresses, what a frame looks like on the pair, when a frame
is sent, and how one is received.
-/

namespace Sys2Proof.Machine

/-- GYL takes part on the pairs: the controller is up and past BOOT. -/
def gylOn (s : State) : Bool := decide (s.boot.stage = .started) && decide (s.boot.op ≠ .boot)

/-- The roles of R400. -/
def isMaster (s : State) : Bool := gylOn s && decide (oget s Ob.GYL_ROLE = 1) && decide (s.gyl.state = 5)
def isFollower (s : State) : Bool := gylOn s && decide (oget s Ob.GYL_ROLE = 2)

/-- The node address (R402). -/
def nodeAddr (s : State) : Nat := 16 * canGet s Ob.WNP_NODEHI + oget s Ob.RST_STRAP_SITE % 16

/-- The measured frame period in ns. -/
def framePns (s : State) : Nat := 2 * s.scan.frameP

/-! ## On the pair (R403) -/

/-- Manchester coding, most significant bit first: a 1 is a low and then a high half. -/
def manchester (bs : List Byte) : List Bool :=
  bs.flatMap (fun b => (List.range 8).flatMap (fun i => let v := bit b.toNat (7 - i); [!v, v]))

/-- A frame on GYL_D: preamble, start delimiter, header, payload and CRC-16. -/
def gylBytes (type src dst : Nat) (data : List Byte) : List Byte :=
  let body := toBE 1 type ++ toBE 1 src ++ toBE 1 dst ++ toBE 1 data.length ++ data
  toBE 1 0x55 ++ toBE 1 0xC9 ++ body ++ toBE 2 (crc16 body)

/-- How long a frame with `n` payload bytes takes, at 25 Mbit/s. -/
def gylTime (n : Nat) : Nat := (n + 8) * 320

/-- Bytes leave on a pair at a time. -/
def gylPut (at_ type dst : Nat) (data bytes : List Byte) (s : State) : State :=
  { s with gyl := { s.gyl with tx := .mk at_ type dst data (manchester bytes) :: s.gyl.tx } }

/-- Send a frame on GYL_D at a time. -/
def gylSend (at_ type dst : Nat) (data : List Byte) (s : State) : State :=
  gylPut at_ type dst data (gylBytes type (nodeAddr s) dst data) s

/-! ## When a frame is sent (R405) -/

/-- The slot of the request window that comes next: 20 + 10n µs after a frame start of the master. -/
def requestAt (s : State) : Nat :=
  let t0 := s.gyl.syncAt + 20000 + 10000 * nodeAddr s
  let p := framePns s
  if s.now ≤ t0 ∨ p = 0 then max s.now t0 else t0 + ceilDiv (s.now - t0) p * p

/-- The reply slot after a message that has just ended. -/
def replyAt (s : State) : Nat := s.now + 4000 + 10000 * nodeAddr s

/-- The end of the last frame that the master has put on GYL_D in this frame. -/
def txEnd (s : State) : Nat := (s.gyl.tx.filter (fun f => decide (f.type ≠ 0))).foldl (fun m f => max m (f.at_ + gylTime f.data.length)) 0

/-- The master part: after the request window, outside the reply windows, one frame after another. -/
def masterAt (s : State) : Nat :=
  max (max s.now (if s.scan.running then s.scan.frameAt + 660000 else 0)) (max s.gyl.windowEnd (txEnd s))

/-- A message that opens reply slots fits into the frame: its window ends at least 20 µs before the next frame start, and the frame has
carried neither a ROLL nor a PREPARE. -/
def windowFits (s : State) (n : Nat) : Bool :=
  (!s.scan.running || decide (masterAt s + gylTime n + 644000 + 20000 ≤ s.scan.frameAt + framePns s)) &&
  !s.gyl.tx.any (fun f => decide (f.type = 1 ∨ f.type = 3))

/-- The master sends a message that opens reply slots, and its window closes 644 µs after the message has ended. -/
def gylOpen (type : Nat) (data : List Byte) (s : State) : State :=
  let at_ := masterAt s
  gylSend at_ type 255 data { s with gyl := { s.gyl with windowEnd := at_ + gylTime data.length + 644000 } }

/-- The master sends a message in its part of the frame. -/
def gylMaster (type dst : Nat) (data : List Byte) (s : State) : State := gylSend (masterAt s) type dst data s

/-! ## Reception (R403, R404) -/

/-- A frame or sync word is discarded and counted. -/
def gylBad (s : State) : State := evc 0xD5 (cnt Ob.GYL_CRCERR s)

/-- `n` bytes of a payload from byte `i`, as a value. -/
def payAt (bs : List Byte) (i n : Nat) : Nat := ofBE ((bs.drop i).take n)

/-- A frame is of this TYPE, its LEN matches, and its CRC passes. -/
def gylOk (type len : Nat) (f : GylIn) : Bool :=
  let h := f.header.toNat
  decide (h / 2 ^ 24 = type) && decide (h % 256 = len) && decide (f.data.length = len)
    && decide (f.crc.toNat = crc16 (toBE 4 h ++ f.data))

/-- A frame reaches a controller that takes part: it is discarded and counted, or its payload is taken if it is for this node; `run`
gets the sender and the payload. -/
def gylTake (type len : Nat) (f : GylIn) (run : Nat → List Byte → State → State) (s : State) : State :=
  let dst := f.header.toNat / 2 ^ 8 % 256
  if !gylOn s ∨ oget s Ob.GYL_ROLE = 0 then s
  else if !gylOk type len f then gylBad s
  else if dst ≠ 255 ∧ dst ≠ nodeAddr s then s
  else run (f.header.toNat / 2 ^ 16 % 256) f.data s

/-- The E and GEN that begin the messages of a wall commit. -/
def cmtE (d : List Byte) : Nat := payAt d 0 6
def cmtGen (d : List Byte) : Nat := payAt d 6 2

end Sys2Proof.Machine
end

