-- ==== Sys2Proof/Machine/Gyl.lean ====
section
/-!
DEFINITION. The Gylor cascade (chapter 16): node states, the raster reference, wall commits, the state vector, SNAPs and
the commands of the two pairs. What is sent stands in `gyl.tx`.
-/

namespace Sys2Proof.Machine

/-! ## Nodes and frames -/

/-- A GYLOR entry of the event log (R428). -/
def gylLog (cause node gen : Nat) (s : State) : State := logEv 0x16 1 0 (cause * 2 ^ 24 + node * 2 ^ 16 + gen) s

/-- The payload of a STATUS whose slot starts at a time (R404). -/
def statusData (at_ : Nat) (s : State) : List Byte :=
  toBE 1 s.gyl.state ++ toBE 1 s.gyl.ref ++ toBE 2 s.gyl.gen ++ toBE 6 s.scan.epoch ++ toBE 4 (at_ - s.scan.frameAt)

/-- A follower's STATUS in the request window (R405, R406). -/
def sendStatus (s : State) : State := gylSend (requestAt s) 2 (oget s Ob.GYL_MASTER) (statusData (requestAt s) s) s

/-- GYL_STATE changes; a follower reports it in the request window (R406). -/
def setGylState (v : Nat) (s : State) : State :=
  if s.gyl.state = v then s
  else
    let s1 := { s with gyl := { s.gyl with state := v } }
    if oget s Ob.GYL_ROLE = 2 then sendStatus s1 else s1

/-! ## Raster reference (R411, R412) -/

/-- φ to the master: the own start of the frame that the last valid sync word named, minus the master's (R408). -/
def phaseGen (s : State) : Int :=
  match s.gyl.lastSync with
  | some w => (s.scan.frameAt : Int) + ((w.epoch : Int) - s.scan.epoch) * framePns s - s.gyl.syncAt
  | none => 0

/-- φ to the SOURCE target: the frame start nearest to the offset after the last accepted SRCFRAME. -/
def phaseSrc (s : State) : Int :=
  let p : Int := framePns s
  if p = 0 then 0
  else
    let d := ((s.scan.frameAt : Int) - (s.gyl.srcAt + 1000 * oget s Ob.GYL_SRCOFFS : Nat)) % p
    if p < 2 * d then d - p else d

/-- φ is at most GYL_SLEWMAX frame periods (R410). -/
def genFits (s : State) : Bool := decide ((phaseGen s).natAbs ≤ oget s Ob.GYL_SLEWMAX * framePns s)

/-- A class is qualified and enabled (R411). -/
def genUsable (s : State) : Bool := isFollower s && bit (oget s Ob.GYL_REFEN) 0 && decide (8 ≤ s.gyl.run)
def srcUsable (s : State) : Bool := bit (oget s Ob.GYL_REFEN) 1 && decide (8 ≤ s.gyl.srcGood)

/-- Select the reference (R412): the highest-priority usable class, but a switch in progress completes unless its target
is lost. GENLOCK is taken up only while φ can be removed by slewing (R410). -/
def selectRef (s : State) : State :=
  let cur := s.gyl.ref
  let curOk := (decide (cur = 0) && genUsable s) || (decide (cur = 1) && srcUsable s)
  if s.gyl.switching ∧ curOk then s
  else
    let best := if genUsable s ∧ (cur = 0 ∨ genFits s) then 0 else if srcUsable s then 1 else 2
    if best = cur ∨ (best = 2 ∧ 2 ≤ cur) then s
    else
      let had := s.gyl.hadRef || decide (cur ≤ 1) || decide (best ≤ 1)
      evc 0x64 (cnt Ob.GYL_REFCNT { s with gyl := { s.gyl with
        ref := if best = 2 then (if had then 2 else 3) else best
        switching := decide (best ≤ 1)
        hadRef := had
        phase := if best = 0 then phaseGen s else if best = 1 then phaseSrc s else 0 } })

/-- Refresh φ; a switch is complete once |φ| is at most 1 µs, and a better reference may then be selected (R412). -/
def trackPhase (s : State) : State :=
  let ph := if s.gyl.ref = 0 then phaseGen s else if s.gyl.ref = 1 then phaseSrc s else 0
  let fin := s.gyl.switching && decide (ph.natAbs ≤ 1000)
  selectRef { s with gyl := { s.gyl with phase := ph, switching := s.gyl.switching && !fin } }

/-- An interval in ns lies within 0.5 % of k / SCAN_RATE. -/
def withinHalf (s : State) (interval k : Nat) : Bool :=
  decide (((interval * oget s Ob.SCAN_RATE : Nat) - (k * 10 ^ 12 : Nat) : Int).natAbs * 200 ≤ k * 10 ^ 12)

/-- An accepted SRCFRAME qualifies or loses the SOURCE class (R411). -/
def sourceTick (s : State) : State :=
  let iv := s.now - s.gyl.srcAt
  let g := s.gyl
  let k := ([1, 2, 3, 4].find? (withinHalf s iv)).getD 0
  let g1 : Gyl := { g with srcAt := s.now }
  let g2 : Gyl :=
    if g.srcAt = 0 ∨ (k = 0 ∧ g.srcGood < 8) then { g1 with srcGood := 0, srcBad := 0, srcK := 0 }
    else if g.srcGood < 8 then
      if k = g.srcK then { g1 with srcGood := g.srcGood + 1, srcBad := 0 } else { g1 with srcGood := 1, srcBad := 0, srcK := k }
    else if k = g.srcK then { g1 with srcBad := 0 }
    else if 3 ≤ g.srcBad + 1 then { g1 with srcGood := 0, srcBad := 0, srcK := 0 }
    else { g1 with srcBad := g.srcBad + 1 }
  selectRef { s with gyl := g2 }

/-- An SM02 failure loses the SOURCE class (R411). -/
def sourceLost (s : State) : State := selectRef { s with gyl := { s.gyl with srcGood := 0, srcBad := 0, srcK := 0 } }

/-! ## Wall changes (R414 to R420) -/

/-- The reasons 4 to 8 of R417: reason and DETAIL of the first that applies, or (0, 0). -/
def changeErr (c : Change) (s : State) : Nat × Nat :=
  if c.kind = 1 ∧ c.arg = 2 ∧ s.boot.op = .setup ∧ runErr s ≠ 0 then (4, runErr s) else contentErr c s

/-- A refusal of the transition to RUN shows in PNL_RAILERR while a band is not ON (R313). -/
def refuseRun (reason : Nat) (s : State) : State := whenDo (decide (reason = 4)) runRefused s

/-- A participant's decision (R417): one in SAFE-DARK answers READY. -/
def decideChange (c : Change) (s : State) : Nat × Nat :=
  if s.gyl.state ≠ 2 ∧ s.gyl.state ≠ 5 then (1, s.gyl.state)
  else if c.epoch ≤ s.scan.epoch + 1 then (2, 0)
  else if s.gyl.held.isSome then (3, 0)
  else if s.boot.op = .safeDark then (0, 0)
  else changeErr c s

/-- Hold a prepared change (R417, R418): a LAYOUT of a sealed configuration is journaled first, tagged with the
generation; a STATE change in P1 or P2 ends the state with the source REQUEST (R430). -/
def holdChange (c : Change) (s : State) : State :=
  let s1 := if c.kind = 3 ∧ oflag s Ob.SAF_SEALED then
      stagedRecord 1 (c.epoch % 2 ^ 24) c.gen c.arg s
    else s
  let s2 := { s1 with gyl := { s1.gyl with held := some c, heldOk := false } }
  if c.kind = 1 ∧ s2.pwr.state ≠ .p0 then wakeActs 4 { s2 with pwr := { s2.pwr with reqWake := true } } else s2

/-- Drop the prepared change (R419). -/
def dropHeld (s : State) : State := { s with gyl := { s.gyl with held := none, heldOk := false } }

/-- One change is applied at a frame start (R414). -/
def applyKind (kind arg gen : Nat) (s : State) : State :=
  if kind = 1 then
    if s.boot.op = .safeDark then s else (ownDevState arg s).1
  else if kind = 2 then
    let s1 := cancelShow s
    { s1 with scan := { s1.scan with pend := some (arg, s1.scan.epoch, true) } }
  else if kind = 3 then
    if oflag s Ob.SAF_SEALED then activateRegions (jrnAdd 3 0 gen arg 0 []) s else activateRegions (regionRecord arg) s
  else { s with obj := brightObj (bandCount s) arg s.obj }

/-- The generation advances with the vector entry of a kind (R420). -/
def tookGen (gen : Nat) (args : SMap Nat) (s : State) : State :=
  jrnStatus { s with gyl := { s.gyl with
    gen := gen, vec := args.foldl (fun m e => put (fun _ => 0) m e.1 (e.2 + 1)) s.gyl.vec } }

/-- The committed change is applied at the start of frame E (R420); one that a participant in SAFE-DARK cannot apply is not. -/
def applyHeld (s : State) : State :=
  match s.gyl.held with
  | none => s
  | some c =>
    if s.gyl.heldOk ∧ c.epoch ≤ s.scan.epoch then
      let s0 := dropHeld s
      let may := decide (s.boot.op ≠ .safeDark) || decide ((contentErr c s0).1 = 0)
      let s1 := tookGen c.gen [(c.kind, c.arg)] (whenDo may (applyKind c.kind c.arg c.gen) s0)
      let s2 := evc 0xD7 (oset Ob.GYL_CMT_GEN c.gen s1)
      if s2.gyl.cmt.isSome then oset Ob.GYL_CMT_STAT 3 { s2 with gyl := { s2.gyl with cmt := none } } else s2
    else if !s.gyl.heldOk ∧ c.epoch ≤ s.scan.epoch + 1 then
      let s1 := dropHeld s
      { s1 with gyl := { s1.gyl with dropped := some c.gen } }
    else s

/-- Whether a kind's value is already in force. -/
def kindInForce (kind arg : Nat) (s : State) : Bool :=
  if kind = 1 then decide (s.boot.op.code = arg)
  else if kind = 2 then decide (s.scan.selNow = arg)
  else if kind = 3 then decide (get (fun _ => 0) s.gyl.vec 3 = arg + 1)
  else (List.range (bandCount s)).all (fun b =>
    decide (oget s (Ob.SCAN_DUTY + b) = field arg 16 7) && decide (oget s (Ob.PPL_BRIGHT + b) = field arg 0 16))

/-- A VECTOR is applied at the next frame start: every valid kind that passes R417's check and is not in force yet; the
generation is taken when none failed (R421). One that came past the latch point of a frame is applied a frame later (R178). -/
def applyVector (s : State) : State :=
  match s.gyl.vecPend with
  | none => s
  | some (gen, at_, args) =>
    if s.scan.epoch < at_ then s
    else
      let s0 := { s with gyl := { s.gyl with vecPend := none } }
      let err (e : Nat × Nat) : Nat :=
        if kindInForce e.1 e.2 s0 then 0 else (changeErr ⟨s0.scan.epoch, gen, e.1, e.2⟩ s0).1
      let ok := args.filter (fun e => decide (err e = 0))
      let s1 := each ok (fun e st => if kindInForce e.1 e.2 st then st else applyKind e.1 e.2 gen st) s0
      if ok.length = args.length then tookGen gen args s1 else each args (fun e => refuseRun (err e)) s1

/-- A follower has the generation of the bus: it returns to IN-STEP, or joins (R421, R422). -/
def caughtUp (s : State) : State :=
  if s.gyl.gen ≠ oget s Ob.GYL_GENBUS ∨ s.gyl.lastSync.isNone then s
  else if s.gyl.state = 3 then
    let s1 := setGylState 2 { s with gyl := { s.gyl with behindAt := none } }
    if s.gyl.reacted then gylLog 8 (nodeAddr s) s.gyl.gen { s1 with gyl := { s1.gyl with reacted := false } } else s1
  else if s.gyl.state = 1 ∧ 2 * (phaseGen s).natAbs < framePns s then
    setGylState 2 { s with gyl := { s.gyl with behindAt := none } }
  else s

/-- Ask the master for the state vector (R421). -/
def resend (s : State) : State :=
  evc 0xD9 (cnt Ob.GYL_RESENDS (gylSend (requestAt s) 8 (oget s Ob.GYL_MASTER) (toBE 2 s.gyl.gen) s))

/-- A follower that is still BEHIND when the second frame after it fell behind starts darkens its bands (R421). -/
def behindReact (s : State) : State :=
  match s.gyl.behindAt with
  | some e =>
    if s.gyl.state = 3 ∧ e + 2 ≤ s.scan.epoch ∧ !s.gyl.reacted then
      gylLog 1 (nodeAddr s) s.gyl.gen (bandsReaction 11 (usedMask s) false false
        (failure 11 { s with gyl := { s.gyl with reacted := true } }))
    else s
  | none => s

/-- A clear made while the follower is still BEHIND starts the two frames again (R421). -/
def behindCleared (s : State) : State :=
  if s.gyl.state = 3 then { s with gyl := { s.gyl with behindAt := some s.scan.epoch, reacted := false } } else s

/-! ## The master's part -/

/-- The first node of a mask. -/
def lowestOf (mask : Nat) : Nat := ((List.range 64).find? (bit mask)).getD 0

/-- Nodes that GYL_NODES shows IN-STEP. -/
def inStepMask (s : State) : Nat := s.gyl.nodes.foldl (fun m e => if e.2.state = 2 then m ||| 2 ^ e.1 else m) 0

/-- Nodes that GYL_NODES shows present. -/
def presentMask (s : State) : Nat :=
  s.gyl.nodes.foldl (fun m e => if e.2.state ≠ 0 then m ||| 2 ^ e.1 else m) 0

/-- The master sends its PREPARE (R404, R416). -/
def sendPrepare (c : Change) (s : State) : State :=
  gylOpen 3 (toBE 6 c.epoch ++ toBE 2 c.gen ++ toBE 1 c.kind ++ toBE 1 0 ++ toBE 4 c.arg ++ toBE 8 s.gyl.cmtParts)
    { s with gyl := { s.gyl with prepOpen := true } }

/-- The master sends a ROLL and opens the reply window, in the next frame when this one cannot carry it (R405, R406). -/
def sendRoll (s : State) : State :=
  if !windowFits s 2 then { s with gyl := { s.gyl with rollDue := true } }
  else gylOpen 1 (toBE 2 s.gyl.gen) { s with gyl := { s.gyl with rollOpen := true, rollGot := 0, badSlots := 0, rollDue := false } }

/-- The commit ends with an ABORT (R416): the reason, its DETAIL, the value of GYL_CMT_REASON and the node it names. -/
def abortCommit (reason detail shown node : Nat) (s : State) : State :=
  match s.gyl.cmt with
  | none => s
  | some c =>
    let s1 := gylMaster 7 255 (toBE 6 c.epoch ++ toBE 2 c.gen ++ toBE 1 reason ++ toBE 1 detail) s
    let s2 := dropHeld { s1 with gyl := { s1.gyl with cmt := none, cmtRefused := none, answer := none } }
    let s3 := oset Ob.GYL_CMT_NODE node (oset Ob.GYL_CMT_REASON shown s2)
    evc 0xD8 (gylLog 5 detail c.gen (oset Ob.GYL_CMT_STAT 4 s3))

/-- The master sends COMMIT three times, 50 µs apart, its generation and state vector journaled before (R416, R420). -/
def sendCommit (c : Change) (s : State) : State :=
  let s1 := jrnStatusOf c.gen (put (fun _ => 0) s.gyl.vec c.kind (c.arg + 1)) s
  let at_ := masterAt s1
  let s2 := each [0, 50000, 100000] (fun d => gylSend (at_ + d) 6 255 (toBE 6 c.epoch ++ toBE 2 c.gen)) s1
  oset Ob.GYL_CMT_STAT 2 { s2 with gyl := { s2.gyl with cmtSent := true, heldOk := true } }

/-- The reply window of a PREPARE has closed: COMMIT, ABORT, or the next frame's repeat (R416). -/
def prepareClosed (s : State) : State :=
  let s1 := { s with gyl := { s.gyl with prepOpen := false } }
  match s1.gyl.cmt with
  | none => s1
  | some c =>
    if s1.gyl.cmtSent then s1
    else match s1.gyl.cmtRefused with
      | some (n, r) => abortCommit 0x10 n r n s1
      | none =>
        if s1.gyl.cmtReady &&& s1.gyl.cmtParts = s1.gyl.cmtParts then
          if c.epoch ≤ s1.scan.epoch + 1 then abortCommit 0x12 0 0x12 255 s1 else sendCommit c s1
        else if s1.gyl.cmtFirst + 2 ≤ s1.scan.epoch then
          let n := lowestOf (s1.gyl.cmtParts &&& (2 ^ 64 - 1 - s1.gyl.cmtReady))
          abortCommit 0x11 n 0x11 n s1
        else s1

/-- The reply window of a ROLL has closed: silent nodes have missed it; three in a row make a node absent (R406). A
master that waited for the answers starts its raster (R409). -/
def rollClosed (s : State) : State :=
  let nodes := s.gyl.nodes.map (fun e =>
    let m := if bit s.gyl.rollGot e.1 then 0 else min 31 (e.2.missed + 1)
    let b := if bit s.gyl.badSlots e.1 then e.2.bad else 0
    (e.1, { e.2 with missed := m, bad := b, state := if 3 ≤ m ∧ e.2.state ≠ 5 then 0 else e.2.state }))
  { s with gyl := { s.gyl with nodes := nodes, rollOpen := false, masterWait := false } }

/-- A master has found a second master (R413). -/
def enterConflict (node : Nat) (s : State) : State :=
  if s.gyl.state = 6 then s
  else
    let s1 := if s.gyl.cmt.isSome ∧ !s.gyl.cmtSent then
        oset Ob.GYL_CMT_STAT 4 (dropHeld { s with gyl := { s.gyl with cmt := none } })
      else s
    selectRef (gylLog 2 node s.gyl.gen { s1 with gyl := { s1.gyl with
      state := 6, rollOpen := false, prepOpen := false, wakeRep := false, rollDue := false, masterWait := false } })

/-- The master's sync word of the frame that starts, whose timing mark leaves at the frame start, 15.5 bits after its first bit (R407). -/
def syncWordBytes (s : State) : List Byte :=
  let body := toBE 6 s.scan.epoch ++ toBE 2 s.gyl.gen ++ toBE 1 (nodeAddr s) ++
    toBE 1 (16 * s.gyl.ref + 8 * b2n s.gyl.switching)
  body ++ toBE 2 (crc16 body)

/-- The frame start's work of a master: the sync word, a commit that is too late, the repeat of a PREPARE, a ROLL that is
due (R405, R407, R416). -/
def masterFrame (s : State) : State :=
  if !isMaster s then s
  else
    let s1 := gylPut (s.scan.frameAt - 620) 0 255 (syncWordBytes s) (toBE 1 0x55 ++ toBE 1 0xC9 ++ syncWordBytes s) s
    let s2 := match s1.gyl.cmt with
      | some c =>
        if s1.gyl.cmtSent then s1
        else if c.epoch ≤ s1.scan.epoch + 1 then abortCommit 0x12 0 0x12 255 s1
        else if s1.scan.epoch ≤ s1.gyl.cmtFirst + 2 then sendPrepare c s1
        else s1
      | none => s1
    if s2.gyl.rollDue then sendRoll s2 else s2

/-- A follower counts the frames without a usable sync word; three lose GENLOCK (R411, R412). -/
def followerFrame (s : State) : State :=
  if !isFollower s ∨ s.gyl.waitSync then s
  else
    let s1 := if s.gyl.gotSync then s else evc 0xDA s
    let s2 := if s.gyl.gotSync ∨ s.gyl.run < 8 then s1
      else if 3 ≤ s.gyl.lost + 1 then
        selectRef (gylLog 3 (nodeAddr s1) s1.gyl.gen { s1 with gyl := { s1.gyl with run := 0, lost := 3 } })
      else { s1 with gyl := { s1.gyl with lost := s1.gyl.lost + 1 } }
    { s2 with gyl := { s2.gyl with gotSync := false } }

/-- The frame start's work of GYL before the pending requests of SCAN take effect: `epoch` is that of the new frame. -/
def gylFrame (s : State) : State :=
  let s0 := { s with gyl := { s.gyl with tx := s.gyl.tx.filter (fun f => decide (s.now ≤ f.at_)) } }
  let s1 := caughtUp (applyVector (applyHeld (followerFrame s0)))
  let s2 := behindReact s1
  let s3 := match s2.gyl.behindAt with
    | some e => if isFollower s2 ∧ e < s2.scan.epoch ∧ s2.gyl.gen ≠ oget s2 Ob.GYL_GENBUS then resend s2 else s2
    | none => s2
  let s4 := masterFrame (if s3.gyl.ref = 1 then trackPhase s3 else s3)
  if s4.gyl.switching then evc 0x65 s4 else s4

/-! ## Role and start -/

/-- The state a role begins in (R400, R409, R422). -/
def roleState (role : Nat) : Nat := if role = 1 then 5 else if role = 2 then 1 else 0

/-- A write of GYL_ROLE in SETUP takes effect at once and ends a CONFLICT (R400, R413). -/
def ownGylRole (v : Nat) (s : State) : State × Nat :=
  let s1 := plainWrite Ob.GYL_ROLE v s
  let s2 := selectRef { s1 with gyl := { s1.gyl with state := roleState v, selfBad := 0, behindAt := none, run := 0, lost := 0 } }
  (s2, St.ok)

/-- The raster's start at the end of BOOT (R409): STANDALONE at epoch 0; a FOLLOWER waits for its first usable sync word;
a MASTER sends a ROLL and waits for its answers. -/
def gylStart (s : State) : State :=
  let role := oget s Ob.GYL_ROLE
  let s1 := { s with
    gyl := { s.gyl with state := roleState role, waitSync := decide (role = 2), masterWait := decide (role = 1), waitFrom := s.now }
    scan := { s.scan with epoch := 0, running := false } }
  if role = 1 then sendRoll s1 else s1

/-! ## Sync words (R407 to R410, R421, R422) -/

/-- The own sync word fails its CRC on read-back; three in a row are a second master (R413). -/
def ownWordBad (s : State) : State :=
  let n := s.gyl.selfBad + 1
  let s1 := { s with gyl := { s.gyl with selfBad := n } }
  if 3 ≤ n then enterConflict (nodeAddr s) s1 else s1

/-- The generation in force on this controller in frame `e`. -/
def genIn (s : State) (e : Nat) : Nat :=
  match wallDue s e, s.gyl.vecPend with
  | some c, _ => c.gen
  | none, some (g, at_, _) => if at_ ≤ e then g else s.gyl.gen
  | none, none => s.gyl.gen

/-- What φ calls for once GENLOCK is qualified (R410, R422). -/
def judgePhase (s : State) : State :=
  if s.gyl.run < 8 then s
  else if !genFits s then
    if s.boot.op = .setup then
      if oflag s Ob.GYL_AUTOALIGN then { s with gyl := { s.gyl with realign := true } } else s
    else if s.boot.op = .run ∧ s.gyl.state ≠ 4 then gylLog 7 (nodeAddr s) s.gyl.gen (setGylState 4 s)
    else s
  else if s.gyl.state = 2 ∧ framePns s ≤ 2 * (phaseGen s).natAbs then setGylState 1 s
  else s

/-- The generations are compared (R421, R422). -/
def judgeGen (e gen : Nat) (s : State) : State :=
  if genIn s e = gen then caughtUp s
  else
    let first := s.gyl.behindAt.isNone
    let s1 := if first then { s with gyl := { s.gyl with behindAt := some e } } else s
    let s2 := if s1.gyl.state = 2 then setGylState 3 s1 else s1
    if first ∧ (s2.gyl.state = 3 ∨ s2.gyl.state = 1 ∨ s2.gyl.state = 4) then resend s2 else s2

/-- A usable sync word (R408 to R412). -/
def usableWord (w : Sync) (s : State) : State :=
  let s0 := oset Ob.GYL_GENBUS w.gen (oset Ob.GYL_MASTER w.node s)
  let s1 := if s0.gyl.waitSync ∨ (s0.gyl.realign ∧ s0.boot.op = .setup) then
      let r := if s0.gyl.waitSync then s0 else restartRaster s0
      setGylState 1 { r with scan := { r.scan with epoch := w.epoch, running := false, frameAt := r.gyl.syncAt }
                             gyl := { r.gyl with waitSync := false, realign := false } }
    else s0
  let was := s1.gyl.run
  let regained := decide (was + 1 = 8) && decide (s1.gyl.lost = 3)
  let s2 := { s1 with gyl := { s1.gyl with
    run := min 8 (was + 1), gotSync := true, lost := if was < 7 then s1.gyl.lost else 0 } }
  let s3 := if regained then gylLog 4 (nodeAddr s2) s2.gyl.gen s2 else s2
  judgeGen w.epoch w.gen (trackPhase (judgePhase s3))

/-- The CRC of a sync word passes (R407). -/
def syncOk (w : Nat) : Bool := decide (w % 2 ^ 16 = crc16 (toBE 10 (w / 2 ^ 16)))

/-- A sync word's fields (R407). -/
def syncOf (w : Nat) : Sync := .mk (field w 48 48) (field w 32 16) (field w 24 8) (field w 20 4) (bit w 19)

/-- SYNC_WORD: its timing mark has arrived at `t`. -/
def execSyncWord (t : Nat) (word : BitVec 96) (s : State) : Host.Outcome State Fault Refusal :=
  let s := s.at t
  let w := syncOf word.toNat
  .next (if oget s Ob.GYL_ROLE = 0 ∨ !gylOn s then s
    else if !isFollower s then
      if s.gyl.state = 6 then s
      else if !syncOk word.toNat then ownWordBad (gylBad s)
      else if w.node ≠ nodeAddr s then enterConflict w.node s
      else { s with gyl := { s.gyl with selfBad := 0 } }
    else if !syncOk word.toNat then
      let s1 := gylBad s
      if s1.gyl.run < 8 then { s1 with gyl := { s1.gyl with run := 0 } } else s1
    else
      let at_ := s.now - oget s Ob.GYL_FSDELAY
      let usable := match s.gyl.lastSync with
        | some p => decide (p.node = w.node) && decide (w.epoch = p.epoch + 1) && withinHalf s (at_ - s.gyl.syncAt) 1
        | none => false
      let first := !s.gyl.gotFirst
      let s1 := { s with gyl := { s.gyl with lastSync := some w, syncAt := at_, gotFirst := true } }
      let s2 := if first then sendStatus s1 else s1
      if usable then usableWord w s2
      else if s2.gyl.run < 8 then { s2 with gyl := { s2.gyl with run := 0 } } else s2)

/-- SYNC_WAIT_TIMEOUT: a follower starts on its crystal with epoch 0 (R409). -/
def execSyncWaitTimeout (t : Nat) (s : State) : Host.Outcome State Fault Refusal :=
  let s := s.at t
  .next (if s.gyl.waitSync ∧ s.gyl.waitFrom + 500000000 ≤ s.now then { s with gyl := { s.gyl with waitSync := false }, scan := { s.scan with epoch := 0 } } else s)

/-- ROLL_TIMER: a ROLL is due (R405, R406). -/
def execRollTimer (t : Nat) (s : State) : Host.Outcome State Fault Refusal :=
  let s := s.at t
  .next (if !isMaster s then s
    else sendRoll s)

/-- ROLL: a follower answers STATUS in its slot. -/
def execRoll (t : Nat) (frame : GylIn) (s : State) : Host.Outcome State Fault Refusal :=
  .next (gylTake 1 2 frame (fun src _ s =>
    if isFollower s then gylSend (replyAt s) 2 src (statusData (replyAt s) s) s else s) (s.at t))

/-- The start of node `n`'s slot in the reply window that is open. -/
def slotStart (s : State) (n : Nat) : Nat := s.gyl.windowEnd - 644000 + 4000 + 10000 * n

/-- A STATUS reaches the master: it records the node (R406); one may preset the epoch and the first frame start of a master that starts
(R409). -/
def takeStatus (n : Nat) (d : List Byte) (s : State) : State :=
  if !isMaster s ∨ 64 ≤ n then s
    else
      let state := payAt d 0 1
      let lower := (List.range n).any (fun k => bit s.gyl.rollGot k && decide ((nodeOf s k).state = 2))
      let s1 := evc 0xD6 (setNode n { nodeOf s n with state := state % 8, missed := 0, gen := payAt d 2 2, bad := 0 } s)
      let s2 := { s1 with gyl := { s1.gyl with rollGot := s1.gyl.rollGot ||| 2 ^ n
                                               wakeWait := clearBit s1.gyl.wakeWait n } }
      if s2.gyl.masterWait ∧ state = 2 ∧ !lower then
        { s2 with
          scan := { s2.scan with epoch := (payAt d 4 6 + 1) % 2 ^ 48 }
          gyl := { s2.gyl with firstAt := slotStart s n + 10 ^ 12 / rget s Ob.SCAN_RATE - payAt d 10 4 } }
      else s2

/-- STATUS. -/
def execStatus (t : Nat) (frame : GylIn) (s : State) : Host.Outcome State Fault Refusal :=
  .next (gylTake 2 14 frame takeStatus (s.at t))

/-- REPLY_WINDOW_CLOSE: a roll's silent nodes have missed it, and a commit is decided (R406, R416). -/
def execReplyWindowClose (t : Nat) (s : State) : Host.Outcome State Fault Refusal :=
  let s := s.at t
  .next (if s.now < s.gyl.windowEnd then s
    else if s.gyl.rollOpen then rollClosed s else if s.gyl.prepOpen then prepareClosed s else s)

/-- GYLOR_FRAME_DISCARDED: counted; in a reply slot of a roll three in a row mark the node DUP (R403, R406, R413). -/
def execGylorFrameDiscarded (t : Nat) (slot : Option (Fin 64)) (own : Bool) (s : State) : Host.Outcome State Fault Refusal :=
  let s := s.at t
  .next (if !gylOn s ∨ oget s Ob.GYL_ROLE = 0 then s
    else
      let s1 := gylBad s
      if own ∧ isMaster s1 then ownWordBad s1
      else match slot with
        | some n =>
          if isMaster s1 ∧ s1.gyl.rollOpen ∧ !bit s1.gyl.badSlots n.val then
            let nd := nodeOf s1 n.val
            let s2 := { s1 with gyl := { s1.gyl with badSlots := setBit s1.gyl.badSlots n.val } }
            let s3 := setNode n.val { nd with bad := nd.bad + 1, state := if 3 ≤ nd.bad + 1 then 5 else nd.state } s2
            if nd.bad + 1 = 3 then gylLog 6 n.val nd.gen s3 else s3
          else s1
        | none => s1)

/-! ## Wall commits -/

/-- The own rule of GYL_CMT_REQ (R415). -/
def ownCmtReq (v : Nat) (s : State) : State × Nat :=
  let e := oget s Ob.GYL_CMT_EPOCH
  let refuse (st : Nat) : State × Nat := (oset Ob.GYL_CMT_STAT st s, St.refused)
  if bit v 7 then (s, St.refused)
  else if v = 0 then (s, St.ok)
  else if !isMaster s then refuse 8
  else if s.gyl.cmt.isSome ∨ bit s.pwr.stopped 1 then refuse 7
  else if e ≤ s.scan.epoch + 1 then refuse 5
  else if e < s.scan.epoch + oget s Ob.GYL_LEAD ∨ s.scan.epoch + oget s Ob.TRX_EPOCH_AHEAD < e then refuse 6
  else
    let c : Change := .mk e ((s.gyl.gen + 1) % 65536) (oget s Ob.GYL_CMT_KIND) (oget s Ob.GYL_CMT_ARG)
    let me := nodeAddr s
    let (r, _) := decideChange c s
    let s1 := { s with gyl := { s.gyl with
      cmt := some c, cmtParts := inStepMask s ||| 2 ^ me, cmtReady := if r = 0 then 2 ^ me else 0
      cmtFirst := if windowFits s 22 then s.scan.epoch else s.scan.epoch + 1, cmtSent := false, cmtRefused := if r = 0 then none else some (me, r) } }
    let s2 := if r = 0 then holdChange c s1 else refuseRun r s1
    (oset Ob.GYL_CMT_STAT 1 (oset Ob.GYL_CMT_GEN c.gen (whenDo (windowFits s 22) (sendPrepare c) s2)), St.ok)

/-- GYL_CMT_REQ. -/
def execGylCmtReq (t : Nat) (h : Hdr) (v : BitVec 8) (s : State) : Host.Outcome State Fault Refusal :=
  .next (writeRow h Ob.GYL_CMT_REQ v.toNat ownCmtReq (s.at t))

/-- The answer of a participant (R404). -/
def sendAnswer (dst : Nat) (c : Change) (reason detail : Nat) (s : State) : State :=
  if reason = 0 then
    gylSend (replyAt s) 4 dst (toBE 6 c.epoch ++ toBE 2 c.gen ++ toBE 1 (b2n (decide (s.boot.op = .safeDark))) ++ toBE 1 0) s
  else gylSend (replyAt s) 5 dst (toBE 6 c.epoch ++ toBE 2 c.gen ++ toBE 1 reason ++ toBE 1 detail) (oset Ob.GYL_CMT_REASON reason s)

/-- A PREPARE: a participant decides and answers; a repeat gets the same answer (R416, R417). -/
def takePrepare (src : Nat) (d : List Byte) (s : State) : State :=
  if !isFollower s ∨ !bit (payAt d 14 8) (nodeAddr s) then s
    else
      let c : Change := .mk (cmtE d) (cmtGen d) (payAt d 8 1) (payAt d 10 4)
      let old := match s.gyl.answer with
        | some (d, r, x) => if d = c then some (r, x) else none
        | none => none
      match old with
      | some (r, x) => sendAnswer src c r x s
      | none =>
        let (r, x) := decideChange c s
        let s1 := { s with gyl := { s.gyl with answer := some (c, r, x) } }
        let s2 := if r = 0 then holdChange c s1 else refuseRun r s1
        sendAnswer src c r x s2

/-- PREPARE. -/
def execPrepare (t : Nat) (frame : GylIn) (s : State) : Host.Outcome State Fault Refusal :=
  .next (gylTake 3 22 frame takePrepare (s.at t))

/-- Whether an answer belongs to the commit in progress. -/
def cmtMatches (src : Nat) (d : List Byte) (s : State) : Bool :=
  match s.gyl.cmt with
  | some c => isMaster s && !s.gyl.cmtSent && decide (c.epoch = cmtE d) && decide (c.gen = cmtGen d) && bit s.gyl.cmtParts src
  | none => false

/-- READY. -/
def execReady (t : Nat) (frame : GylIn) (s : State) : Host.Outcome State Fault Refusal :=
  .next (gylTake 4 10 frame (fun src d s =>
    if cmtMatches src d s then { s with gyl := { s.gyl with cmtReady := s.gyl.cmtReady ||| 2 ^ src } } else s) (s.at t))

/-- A REFUSE reaches the master: the lowest refusing node and its reason are kept; the node's entry shows its last reason. -/
def takeRefuse (n : Nat) (d : List Byte) (s : State) : State :=
  let reason := payAt d 8 1
  if !isMaster s ∨ 64 ≤ n then s
    else
      let s1 := setNode n { nodeOf s n with reason := reason } s
      if !cmtMatches n d s then s1
      else
        let keep := match s1.gyl.cmtRefused with
          | some (m, r) => if m < n then (m, r) else (n, reason)
          | none => (n, reason)
        { s1 with gyl := { s1.gyl with cmtRefused := some keep } }

/-- REFUSE. -/
def execRefuse (t : Nat) (frame : GylIn) (s : State) : Host.Outcome State Fault Refusal :=
  .next (gylTake 5 10 frame takeRefuse (s.at t))

/-- Whether a message names the prepared change. -/
def heldMatches (d : List Byte) (s : State) : Bool :=
  match s.gyl.held with
  | some c => isFollower s && decide (c.epoch = cmtE d) && decide (c.gen = cmtGen d)
  | none => false

/-- COMMIT: the prepared change will be applied; without one it is ignored (R419). -/
def execCommit (t : Nat) (frame : GylIn) (s : State) : Host.Outcome State Fault Refusal :=
  .next (gylTake 6 8 frame (fun _ d s =>
    if heldMatches d s then { s with gyl := { s.gyl with heldOk := true } } else s) (s.at t))

/-- An ABORT reaches a follower: the prepared change is dropped at once (R419). -/
def takeAbort (d : List Byte) (s : State) : State :=
  let reason := payAt d 8 1
  if !isFollower s then s
    else
      let named := decide (reason = 0x10) || decide (reason = 0x11)
      let s1 := oset Ob.GYL_CMT_NODE (if named then payAt d 9 1 else 255) (oset Ob.GYL_CMT_REASON reason s)
      let s2 := { s1 with gyl := { s1.gyl with answer := none } }
      if heldMatches d s then dropHeld s2 else s2

/-- ABORT. -/
def execAbort (t : Nat) (frame : GylIn) (s : State) : Host.Outcome State Fault Refusal :=
  .next (gylTake 7 10 frame (fun _ => takeAbort) (s.at t))

/-- RESEND_REQ: the master answers with a VECTOR (R421). -/
def execResendReq (t : Nat) (frame : GylIn) (s : State) : Host.Outcome State Fault Refusal :=
  .next (gylTake 8 2 frame (fun src _ s => if !isMaster s then s
    else
      let v (k : Nat) : Nat := get (fun _ => 0) s.gyl.vec k
      let valid := ofBits ([1, 2, 3, 4].map (fun k => decide (v k ≠ 0)))
      evc 0xD9 (cnt Ob.GYL_RESENDS (gylMaster 9 src (toBE 2 s.gyl.gen ++ toBE 1 valid ++ toBE 1 (v 1 - 1) ++
        toBE 1 (v 2 - 1) ++ toBE 1 0 ++ toBE 4 (v 3 - 1) ++ toBE 4 (v 4 - 1)) s))) (s.at t))

/-- A VECTOR reaches a follower that lags: its valid kinds are applied at the next frame start (R421, R422). -/
def takeVector (d : List Byte) (s : State) : State :=
  let lag := decide (s.gyl.state = 1 ∨ s.gyl.state = 3 ∨ s.gyl.state = 4)
  if isFollower s ∧ lag then
    let all : SMap Nat := [(1, payAt d 3 1), (2, payAt d 4 1), (3, payAt d 6 4), (4, payAt d 10 4)]
    { s with gyl := { s.gyl with
      vecPend := some (payAt d 0 2, firstFrame s, all.filter (fun e => bit (payAt d 2 1) (e.1 - 1))) } }
  else s

/-- VECTOR. -/
def execVector (t : Nat) (frame : GylIn) (s : State) : Host.Outcome State Fault Refusal :=
  .next (gylTake 9 14 frame (fun _ => takeVector) (s.at t))

/-! ## Snapshots, realignment and the wake phrase -/

/-- A SNAP for frame `e` reaches the controller (R427). -/
def armSnap (e : Nat) (s : State) : State :=
  if e ≤ s.scan.epoch + 1 then cnt Ob.GYL_SNAPLATE s else { s with gyl := { s.gyl with snap := some e } }

/-- The master sends SNAP, and takes it itself (R427). -/
def sendSnap (s : State) : State :=
  let e := s.scan.epoch + oget s Ob.GYL_LEAD
  armSnap e (gylMaster 10 255 (toBE 6 e) s)

/-- SNAP. -/
def execSnap (t : Nat) (frame : GylIn) (s : State) : Host.Outcome State Fault Refusal :=
  .next (gylTake 10 6 frame (fun _ d s => if isFollower s then armSnap (payAt d 0 6) s else s) (s.at t))

/-- The own rule of GYL_SNAPNOW: a master that originates SNAPs (R427, R432). -/
def ownSnapNow (v : Nat) (s : State) : State × Nat :=
  if v = 0 then (s, St.ok) else if isMaster s ∧ !bit s.pwr.stopped 1 then (sendSnap s, St.ok) else (s, St.refused)

/-- GYL_SNAPNOW. -/
def execGylSnapnow (t : Nat) (h : Hdr) (v : BitVec 8) (s : State) : Host.Outcome State Fault Refusal :=
  .next (writeRow h Ob.GYL_SNAPNOW v.toNat ownSnapNow (s.at t))

/-- SNAP_PERIOD_TIMER. -/
def execSnapPeriodTimer (t : Nat) (s : State) : Host.Outcome State Fault Refusal :=
  let s := s.at t
  .next (if isMaster s ∧ !bit s.pwr.stopped 1 ∧ oget s Ob.GYL_SNAPPER ≠ 0 ∧
      s.gyl.snapFrom + oget s Ob.GYL_SNAPPER ≤ s.scan.epoch then
      sendSnap { s with gyl := { s.gyl with snapFrom := s.scan.epoch } }
    else s)

/-- The own rule of GYL_REALIGN (R410): in SETUP, on a follower. -/
def ownRealign (v : Nat) (s : State) : State × Nat :=
  if v = 0 then (s, St.ok)
  else if s.boot.op ≠ .setup then (s, St.state)
  else if !isFollower s then (s, St.refused)
  else ({ s with gyl := { s.gyl with realign := true } }, St.ok)

/-- GYL_REALIGN. -/
def execGylRealign (t : Nat) (h : Hdr) (v : BitVec 8) (s : State) : Host.Outcome State Fault Refusal :=
  .next (writeRow h Ob.GYL_REALIGN v.toNat ownRealign (s.at t))

/-- Send the wake phrase once (R423, R425). -/
def sendPhrase (s : State) : State :=
  let id := oget s Ob.GYL_WALLID
  let bs := toBE 1 0x55 ++ toBE 1 0xE6 ++ toBE 1 id ++ toBE 1 (255 - id)
  cnt Ob.GYL_WAKESENT (gylPut (masterAt s) 0x55 255 bs bs s)

/-- The master begins to repeat the wake phrase (R425). -/
def startPhrase (s : State) : State :=
  sendPhrase { s with gyl := { s.gyl with wakeRep := true, wakeFrom := s.now, wakeWait := presentMask s } }

/-- The own rule of GYL_WAKENOW. -/
def ownWakeNow (v : Nat) (s : State) : State × Nat :=
  if v = 0 then (s, St.ok) else if isMaster s then (startPhrase s, St.ok) else (s, St.refused)

/-- GYL_WAKENOW. -/
def execGylWakenow (t : Nat) (h : Hdr) (v : BitVec 8) (s : State) : Host.Outcome State Fault Refusal :=
  .next (writeRow h Ob.GYL_WAKENOW v.toNat ownWakeNow (s.at t))

/-- WAKE_REPEAT_TIMER: the phrase again, until every node has answered or GYL_WAKEREP has passed (R425). -/
def execWakeRepeatTimer (t : Nat) (s : State) : Host.Outcome State Fault Refusal :=
  let s := s.at t
  .next (if !s.gyl.wakeRep ∨ !isMaster s then s
    else if s.gyl.wakeWait = 0 ∨ s.gyl.wakeFrom + 1000000 * oget s Ob.GYL_WAKEREP ≤ s.now then
      { s with gyl := { s.gyl with wakeRep := false } }
    else sendPhrase s)

end Sys2Proof.Machine
end

