-- ==== Sys2Proof/Machine/Rx.lean ====
section
/-!
DEFINITION. The receipt of tile transactions: acceptance (R89), the checks of R119 in their order, staging and ACK, and
how a group completes or ends (R102 to R108).
-/

namespace Sys2Proof.Machine

/-! ## Acceptance -/

/-- A PRBS test runs that leaves the forward lanes alone (R79). -/
def fwdFree (s : State) : Bool := decide (s.pxl.link = .test) && s.pxl.prbs && decide (s.pxl.prbsDir = 1)

/-- Forward packets arrive: the link is ACTIVE, or RECONFIG with packets that were complete before it (R71), or only the back
lanes are under test (R79). -/
def linkUp (s : State) : Bool := decide (s.pxl.link = .active) || decide (s.pxl.link = .reconfig) || fwdFree s

/-- A forward packet is accepted (R89). -/
def acceptPkt (s : State) : State := { s with trx := { s.trx with accepted := satInc 0xFFFFFFFF s.trx.accepted } }

/-! ## The checks of R119 -/

/-- Payload words of a format; 0 for an undefined FMT and CODE (R82). -/
def fmtWords (fmt code : Nat) : Nat :=
  if fmt = 3 then (if code % 2 = 0 then 960 else 640)
  else if code ≠ 0 then 0
  else if fmt = 0 then 1024 else if fmt = 1 then 1536 else if fmt = 2 then 2048 else 0

/-- A format that a vermilion position accepts (R85). -/
def fmtQual (fmt code : Nat) : Bool := decide (fmt = 2) || (decide (fmt = 3) && decide (code ≤ 1))

/-- Source frame F is newer than P (R114). -/
def newer (f p : Nat) : Bool :=
  let d := (f + 2 ^ 32 - p) % 2 ^ 32
  decide (1 ≤ d ∧ d < 2 ^ 31)

/-- Check 9 for the history alone (R116): 0 or the NAK reason. -/
def frameErr (s : State) (f : Nat) : Nat :=
  match s.trx.history with
  | [] => 0x0C
  | (p, _) :: _ => if newer f p then 0x0C else if s.trx.history.any (fun e => decide (e.1 = f)) then 0 else 0x0D

/-- The committed content of a position: what waits to be shown, else what is shown (R116). -/
def committed (s : State) (k : Nat) : Content := (posOf s k).pend.getD (posOf s k).shown

/-- The committed content of a position is newer than frame `f`, in the same session. -/
def overtaken (s : State) (k f : Nat) : Bool :=
  let c := committed s k
  c.vouched.isSome && decide (c.session = s.pxl.session) && newer c.srcf f

/-- Check 4: the group a packet names (R103). -/
def groupErr (s : State) (g : Nat) : Nat :=
  let gr := groupOf s g
  if gr.state = .aborted then 0x10 else if gr.state ≠ .opened ∨ gr.ended then 0x09 else 0

/-- Check 8: DUP-POS, then OVERLAP (R104). -/
def posErr (s : State) (g k : Nat) : Nat :=
  if (groupOf s g).held.contains k then 0x0A
  else if s.trx.groups.any (fun e => decide (e.1 ≠ g) && uncommitted e.2 && e.2.held.contains k) then 0x0B
  else 0

/-- The first failing check of a list. -/
def firstErr : List Nat → Nat
  | [] => 0
  | e :: r => if e = 0 then firstErr r else e

/-- 0 when the condition holds, else the reason. -/
def need (ok : Bool) (reason : Nat) : Nat := if ok then 0 else reason

/-- Checks 1 to 3 (R99, R100, R109). -/
def tagErrs (s : State) (t gen : Nat) : List Nat :=
  [need (decide (s.boot.op = .run)) 0x0E, need (decide ((tagOf s t).state = .free)) 0x07,
   need (decide ((tagOf s t).lastGen ≠ gen)) 0x08]

/-- Checks 1 to 9 on a TILE header. -/
def tileErr (s : State) (h : TileHdr) : Nat :=
  let k := posKey h.tx h.ty
  let n := fmtWords h.fmt h.code
  firstErr (tagErrs s h.tag h.gen ++
    [groupErr s h.group, need (decide (h.tx < tileCols s ∧ h.ty < tileRows s)) 0x06, need (decide (n ≠ 0)) 0x04,
     need (decide (h.plen = n)) 0x03, need (decide ((classNow s h.tx h.ty).1 ≠ 2) || fmtQual h.fmt h.code) 0x05,
     posErr s h.group k, frameErr s h.srcf, need (!overtaken s k h.srcf) 0x0D])

/-- Checks 1 to 9 on a TOKEN, which has no payload, is not checked against the class and holds no position (R104, R119). -/
def tokenErr (s : State) (k : TokenHdr) : Nat :=
  firstErr (tagErrs s k.tag k.gen ++
    [if k.ingrp then groupErr s k.group else 0,
     need (decide (k.x0 ≤ k.x1 ∧ k.y0 ≤ k.y1 ∧ k.x1 < tileCols s ∧ k.y1 < tileRows s)) 0x06,
     need (decide (k.fmt = 0 ∧ k.code = 0)) 0x04, frameErr s k.srcf])

/-! ## Outcomes -/

/-- The group that a NAKed packet would have joined is aborted (R106). -/
def abortNamed (g t : Nat) (s : State) : State :=
  if (groupOf s g).state = .opened ∧ !(groupOf s g).ended then abortGroup g 0x26 t s else s

/-- A packet is NAKed at receipt: a FREE tag takes its generation and its kind, and its marks clear unless the generation
repeats (R101, R515, log entry 48). -/
def rejectPkt (token : Bool) (t gen reason srcf : Nat) (grp : Option Nat) (s : State) : State :=
  let s1 := sendNak (.mk .nak 0 gen t (grp.getD 0) (b2n grp.isNone) (nakWord reason 0 0) srcf []) s
  let g := tagOf s1 t
  let s2 := if g.state = .free ∧ g.lastGen ≠ gen then
      setTag t { g with gen := gen, lastGen := gen, seenMark := false, dropped := false, token := token } s1
    else s1
  match grp with
  | some n => abortNamed n t s2
  | none => s2

/-- The arrival time of an SRCFRAME of the history. -/
def arrivalOf (s : State) (f : Nat) : Nat := ((s.trx.history.find? (fun e => decide (e.1 = f))).map (·.2)).getD 0

/-- A tag is taken by a TILE. -/
def takeTile (h : TileHdr) (s : State) : State :=
  setTag h.tag { Tag.none with
    gen := h.gen, lastGen := (tagOf s h.tag).lastGen, state := .receiving, grouped := true, group := h.group
    fmt := h.fmt, code := h.code, tx := h.tx, ty := h.ty, srcf := h.srcf
    vouched := arrivalOf s h.srcf, session := s.pxl.session } s

/-- A tag is taken by a TOKEN. -/
def takeToken (k : TokenHdr) (s : State) : State :=
  setTag k.tag { Tag.none with
    gen := k.gen, lastGen := k.gen, state := .receiving, token := true, grouped := k.ingrp
    group := k.group, tx := k.x0, ty := k.y0, x1 := k.x1, y1 := k.y1, srcf := k.srcf
    vouched := arrivalOf s k.srcf, session := s.pxl.session } s

/-- A packet whose header checks pass joins its group, which holds the positions `ps` from then on (R104). -/
def joinGroup (t g : Nat) (ps : List Nat) (s : State) : State :=
  setGroup g { groupOf s g with members := (groupOf s g).members ++ [t], held := (groupOf s g).held ++ ps } s

/-- The HELD group of R108, or its refusal: judged when the group becomes COMPLETE. -/
def holdGroup (g e : Nat) (s : State) : State :=
  let gr := groupOf s g
  if e ≤ s.scan.epoch + 1 then
    if gr.execLate then pushRun g (setGroup g { gr with atEpoch := none } s)
    else abortGroup g 0x24 0 s
  else if s.scan.epoch + oget s Ob.TRX_EPOCH_AHEAD < e then abortGroup g 0x25 0 s
  else each gr.members (fun t st => setTag t { tagOf st t with state := .held } st) (setGroup g { gr with state := .held } s)

/-- A group whose GROUP_END has arrived and whose members are all STAGED is COMPLETE (R105): it is queued or HELD. -/
def tryComplete (g : Nat) (s : State) : State :=
  let gr := groupOf s g
  if gr.state = .opened ∧ gr.ended ∧ gr.members.all (fun t => decide ((tagOf s t).state = .staged)) then
    let s1 := setGroup g { gr with state := .complete } s
    match gr.atEpoch with
    | some e => holdGroup g e s1
    | none => pushRun g s1
  else s

/-- A transaction is a member of a group that is still OPEN. -/
def memberOpen (s : State) (t : Nat) : Bool :=
  let gr := groupOf s (tagOf s t).group
  decide (gr.state = .opened) && gr.members.contains t

/-- A TILE whose payload passed is staged and ACKed, unless its group was aborted meanwhile (R106). -/
def stagedTile (t : Nat) (ws : List Nat) (s : State) : State :=
  let g := tagOf s t
  let s0 := setTag t { g with lastGen := g.gen, decoding := false, payload := [], crc := 0 } s
  if !memberOpen s0 t then nakTx t 0x10 0 0 s0
  else
    let s1 := stageTile t ws (setTag t { tagOf s0 t with state := .staged } s0)
    tryComplete g.group (evc 0x33 (pushBack (txPkt .ack t 0 g.srcf s1) s1))

/-- A TILE that fails check 10 is NAKed, which aborts its group (R106). -/
def failedTile (t reason : Nat) (s : State) : State :=
  let g := (tagOf s t).group
  let open_ := memberOpen s t
  let s1 := nakTx t reason 0 0 s
  if open_ then abortGroup g 0x26 t s1 else s1

/-- Pixels in tile order as FMT 2 words (R84, R90). -/
def pixelWords (px : List (List Nat)) : List Nat := px.map (fun c => packPixel 0 (c.getD 0 0) (c.getD 1 0) (c.getD 2 0))

/-- The payload CRC of FMT 2 words (R90). -/
def wordsCrc (ws : List Nat) : Nat := crc32 (ws.flatMap (toBE 4))

/-- The payload of a FMT 0 to 2 TILE is checked and staged. -/
def payloadTile (t : Nat) (payload : List (BitVec 32)) (crc : Nat) (s : State) : State :=
  if crc32 (wordBytes payload) = crc then
    stagedTile t ((List.range 2048).map (unpackPixel (tagOf s t).fmt payload)) s
  else failedTile t 0x01 (failure 3 s)

/-! ## Decode instances (R141 to R145) -/

/-- The tiles that a decode instance holds, the one it decodes first. -/
def instHeld (s : State) (n : Nat) : List Nat := get (fun _ => []) s.lake.inst n

/-- The instance that holds a tile. -/
def instOf (s : State) (t : Nat) : Option Nat := (s.lake.inst.find? (fun e => e.2.contains t)).map (·.1)

/-- LAKE without bank 2 decodes nothing: the NAK is DECODE with cause 0, and LAKE_DECERR_BLOCK keeps its value (R145, log entry
18). -/
def noBankTile (t : Nat) (s : State) : State :=
  failedTile t 0x02 (evc 0xAF (oset Ob.LAKE_DECERR_CAUSE 0 (oset Ob.LAKE_DECERR_TAG t (cnt Ob.LAKE_DECERR s))))

/-- A lake TILE does not decode: the objects of R138 and the NAK. -/
def decodeFails (t block cause : Nat) (s : State) : State :=
  failedTile t 0x02 (evc 0xAF (oset Ob.LAKE_DECERR_BLOCK block (oset Ob.LAKE_DECERR_CAUSE cause
    (oset Ob.LAKE_DECERR_TAG t (cnt Ob.LAKE_DECERR s)))))

/-- A decode instance ends its tile: the decode, then the payload CRC over the decoded tile (R90, R143). -/
def tileDecoded (t : Nat) (s : State) : State :=
  let g := tagOf s t
  let i := (instOf s t).getD 0
  let s1 := dropDecode t s
  if !lakeHasBank s1 then noBankTile t s1
  else match decodeTile g.code g.payload with
    | .error (b, c) => decodeFails t b c s1
    | .ok px =>
      let s2 := evc 0x3D (cnt (Ob.LAKE_TILES0 + i) s1)
      if wordsCrc (pixelWords px) = g.crc then stagedTile t (pixelWords px) s2 else failedTile t 0x01 (failure 3 s2)

/-- The instance that takes a tile when its header is accepted (R141): an idle one, instance 0 first, else the one that holds
fewer. -/
def instFor (s : State) : Nat :=
  if (instHeld s 0).isEmpty then 0
  else if (instHeld s 1).isEmpty then 1
  else if (instHeld s 0).length ≤ (instHeld s 1).length then 0 else 1

/-- An instance holds the tile it decodes and one more (R141). The instances keep up with the link (R142), so the tile that a
third one finds in decoding has been decoded by then. -/
def makeRoom (i : Nat) (s : State) : State :=
  match instHeld s i with
  | t :: _ :: _ => if (tagOf s t).decoding then tileDecoded t s else s
  | _ => s

/-- A FMT 3 TILE is handed to a decode instance (R141). -/
def assignInst (t : Nat) (s : State) : State :=
  let i := instFor s
  let s1 := makeRoom i s
  { s1 with lake := { s1.lake with inst := upd (fun _ => []) s1.lake.inst i (· ++ [t]) } }

/-- The payload of a FMT 3 TILE is complete: its instance decodes it, or without bank 2 it is NAKed (R145). -/
def lakeTile (t : Nat) (payload : List (BitVec 32)) (crc : Nat) (s : State) : State :=
  if !lakeHasBank s then noBankTile t (dropDecode t s)
  else setTag t { tagOf s t with decoding := true, payload := payload, crc := crc } s

/-- A TILE header has passed the checks that precede its payload: its tag is RECEIVING, it is a member of its group, and a
decode instance is picked for FMT 3 (R98, R104, R141). -/
def acceptTile (h : TileHdr) (s : State) : State :=
  let s1 := joinGroup h.tag h.group [posKey h.tx h.ty] (takeTile h s)
  if h.fmt = 3 then assignInst h.tag s1 else s1

/-- A TILE header has been received from the word stream: its checks are made on it (R85, R119). -/
def tileHeaderIn (h : TileHdr) (s : State) : State :=
  let e := tileErr s h
  let s1 := { s with trx := { s.trx with incoming := s.trx.incoming ++ [⟨h, e, (tagOf s h.tag).token, false⟩] } }
  if e = 0 then acceptTile h s1 else s1

/-- The last word of a TILE has been received: check 10, or the NAK of the header check that failed (R119). -/
def tileEnds (e : Nat) (h : TileHdr) (payload : List (BitVec 32)) (crc : Nat) (s : State) : State :=
  if e ≠ 0 then rejectPkt false h.tag h.gen e h.srcf (some h.group) s
  else if h.fmt = 3 then lakeTile h.tag payload crc s else payloadTile h.tag payload crc s

/-- A TILE whose header came in the word stream ends with what its header checks found; those received before it and not
ended are lost. A reason that came after its tag was taken releases the tag first (R109). -/
def knownTile (x : Incoming) (payload : List (BitVec 32)) (crc : Nat) (s : State) : State :=
  let before := s.trx.incoming.takeWhile (fun y => decide (y ≠ x))
  let after := (s.trx.incoming.dropWhile (fun y => decide (y ≠ x))).drop 1
  let s1 := each before forgetTile { s with trx := { s.trx with incoming := after } }
  tileEnds x.reason x.hdr payload crc (if x.reason = 0 then s1 else forgetTile x s1)

/-- A TILE that the word stream did not announce: its header checks and its payload check are made together. -/
def newTile (h : TileHdr) (payload : List (BitVec 32)) (crc : Nat) (s : State) : State :=
  let s1 := forgetPartial s
  let e := tileErr s1 h
  tileEnds e h payload crc (if e = 0 then acceptTile h s1 else s1)

end Sys2Proof.Machine
end

