-- ==== Sys2Proof/Machine/Bnk.lean ====
section
/-!
DEFINITION. The SRAM banks (R170 to R175): handovers, the diagnostic window on port B, and the SRAM scrub.
-/

namespace Sys2Proof.Machine

/-! ## Handovers (R172, R173) -/

/-- Change a bank. -/
def modBank (n : Nat) (f : Bank → Bank) (s : State) : State := setBank n (f (bankOf s n)) s

/-- A master that keeps words of its own in a bank (R171): the default owner, or CAL and JRN in banks 13 to 15. -/
def keepsWords (n owner : Nat) : Bool :=
  if n < 13 then decide (owner = defaultOwner n) else decide (owner = 6) || decide (owner = 8)

/-- A handover of bank `n` is allowed in the present operating state (R172). -/
def handoverAllowed (s : State) (n : Nat) : Bool :=
  if 13 ≤ n then decide (s.boot.op = .setup) || decide (s.boot.op = .run)
  else [2, 3, 4, 5, 8, 9, 10].contains n && decide (s.boot.op = .setup)

/-- The own rule of an element of BNK_OWNER (R172, R173). -/
def ownBnkOwner (n v : Nat) (s : State) : State × Nat :=
  if 11 < v % 16 then (s, St.range)
  else if !handoverAllowed s n ∨ (bankOf s n).phase ≠ .stable then (s, St.refused)
  else (modBank n (fun b => { b with phase := .pending, next := v % 16, clear := bit v 7 }) s, St.ok)

/-- BNK_OWNER_WRITE. -/
def execBnkOwnerWrite (t : Nat) (h : Hdr) (bank : Fin 16) (v : BitVec 8) (s : State) : Host.Outcome State Fault Refusal :=
  .next (writeRow h (Ob.BNK_OWNER + bank.val) v.toNat (ownBnkOwner bank.val) (s.at t))

/-- What the owners do when a bank has changed hands (R145, R172, R346, R482). -/
def handedOver (n old new : Nat) (s : State) : State :=
  if n = 2 then
    if old = 2 ∧ new ≠ 2 then codingHeld (lakeLost s) else if old ≠ 2 ∧ new = 2 then codingBack s else s
  else if n = 10 then (if old = new then s else logEv 0x0A 0 0 new s)
  else if 13 ≤ n ∧ old = 6 ∧ new ≠ 6 ∧ bit s.cal.extra (n - 13) then abandonCal 4 s
  else s

/-- The bank is STABLE with its new owner (R173). -/
def handover (n : Nat) (s : State) : State :=
  let b := bankOf s n
  let words := keepsWords n b.next || (b.used && !b.clear)
  let clean := b.clear || keepsWords n b.next
  let lo := n * 2 ^ 19
  let s1 := if clean then
      { s with bnk := { s.bnk with sram := splice s.bnk.sram lo (lo + 2 ^ 19) []
                                   poison := splice s.bnk.poison lo (lo + 2 ^ 19) [] } } else s
  let s2 := setBank n { b with owner := b.next, phase := .stable, next := 0, clear := false,
                               handovers := satInc 255 b.handovers, used := words } s1
  handedOver n b.owner b.next (evc 0xAC s2)

/-- BANK_RELEASE: the owner has released a pending bank. -/
def execBankRelease (t : Nat) (bank : Fin 16) (s : State) : Host.Outcome State Fault Refusal :=
  let s := s.at t
  let n := bank.val
  .next (if (bankOf s n).phase ≠ .pending then s
    else if (bankOf s n).clear then modBank n (fun b => { b with phase := .clearing }) s
    else handover n s)

/-- BANK_RELEASE_TIMEOUT: the handover is aborted, and the bank stays with its owner. -/
def execBankReleaseTimeout (t : Nat) (bank : Fin 16) (s : State) : Host.Outcome State Fault Refusal :=
  let s := s.at t
  let n := bank.val
  .next (if (bankOf s n).phase = .pending then
      modBank n (fun b => { b with phase := .stable, next := 0, clear := false, lastFail := 1 }) s
    else s)

/-- BANK_CLEAR_DONE: every word holds zero. -/
def execBankClearDone (t : Nat) (bank : Fin 16) (s : State) : Host.Outcome State Fault Refusal :=
  let s := s.at t
  .next (if (bankOf s bank.val).phase = .clearing then handover bank.val s else s)

/-! ## Errors (R170, R175) -/

/-- A bank read finds an uncorrectable or poisoned word. -/
def sramBad (n w : Nat) (s : State) : State :=
  evc 0xA9 (oset Ob.BNK_UNCORR_LAST (n * 2 ^ 28 + w) (cnt Ob.BNK_UNCORR (failure 9 s)))

/-- The line that PPL or SCAN prepares in a band is given up: its slot sends it black as an underrun (R24, R175). -/
def dropLine (b : Nat) (s : State) : State :=
  setBandScan b { bandScan s b with preps := (bandScan s b).preps.dropLast } s

/-- The positions of an active region are hatched until the firmware has rewritten its entry, within 100 ms (R175). -/
def hatchRegion (r : Nat) (s : State) : State :=
  let v := get (fun _ => 0) s.scan.regAct r
  if !bit v 63 then s
  else
    let ps := (allPos s).filter (fun p => decide (field v 40 7 ≤ p.1 ∧ p.1 ≤ field v 33 7 ∧ field v 25 8 ≤ p.2 ∧ p.2 ≤ field v 17 8))
    let s1 := each ps (fun p => setCause 8 true p.1 p.2) { s with bnk := { s.bnk with hatchTo := some (s.now + 100000000) } }
    tileReaction 9 (decide (field v 61 2 = 2) && !ps.isEmpty && decide (s.scan.selNow = 0)) false s1

/-- A word of bank 2 serves one of the four contexts or a decode instance (R146, R175). -/
def lakeWordBad (k : Nat) (s : State) : State :=
  if k < 4 then
    (if (slotOf s k).state = .running ∨ (slotOf s k).state = .waiting then stopSlot k .fault 0 s else s)
  else match (get (fun _ => []) s.lake.inst (k - 4)).head? with
    | some t => failedTile t 0x01 (failure 3 (dropDecode t s))
    | none => s

/-- Both copies of a TRX word have failed (R175): the position that it describes is hatched until new content arrives (R283), and
its transaction ends NOT-SHOWN. -/
def describedLost (tx ty : Nat) (s : State) : State :=
  let k := posKey tx ty
  let p := posOf s k
  let s1 := setPos k { p with bad := setBit p.bad 7, shown := { p.shown with vouched := none } } s
  let s2 := match p.shown.tag with
    | some t => nakTx t 0x13 0 0 s1
    | none => s1
  tileReaction 9 (decide ((classNow s tx ty).1 = 2) && decide (s.scan.selNow = 0)) false s2

/-- The reaction of bank `n`, in banks 0 and 1 with both copies failing. Where the layout of a bank would tell what a word serves, a
free value tells it. In bank 9 the row's confirmations are lost, and its codes cannot be supplied for the next pass. -/
def bankReaction (n : Nat) (s : State) : State :=
  let v := freeOf s
  if n ≤ 1 then describedLost (v % max 1 (tileCols s)) (v / max 1 (tileCols s) % max 1 (tileRows s)) (tookFree s)
  else if n = 2 then lakeWordBad (v % 6) (tookFree s)
  else if 3 ≤ n ∧ n ≤ 7 then dropLine (v % bandCount s) (tookFree s)
  else if n = 8 then abandonCal 3 s
  else if n = 9 then
    let b := v % bandCount s
    let r := v / bandCount s % max 1 (bandH s)
    let row := 8192 * b + r
    let s1 := tookFree s
    let d := dlkOf s1 b
    setDlk b { d with deliv := ins d.deliv r (.mk (8 * (s1.scan.epoch / 8 + 1)) []) }
      { s1 with wear := { s1.wear with confirm := splice s1.wear.confirm (32 * row) (32 * row + 32) [] } }
  else if n = 11 then deviceReaction 9 false false s
  else if n = 12 then (if v % 2 = 0 then hatchRegion (v / 2 % 256) (tookFree s) else lostSignature (tookFree s))
  else s

/-- SRAM_SCRUB_STEP (R170): words that the scrub or the owner rewrites from another copy hold no poison (banks 0, 1, 10
and 12). `other` tells how the same word of the other copy reads, in banks 0 and 1 (R175); `lost` that port A wrote the word in the
cycle of the scrub's write-back, which is then dropped and counted (R174). -/
def execSramScrubStep (t : Nat) (found other : WordState) (lost : Bool) (s : State) : Host.Outcome State Fault Refusal :=
  let s := s.at t
  let p := s.bnk.scrub
  let n := p / 2 ^ 19
  let w := p % 2 ^ 19
  let held := (look s.bnk.poison p).getD false
  .next (if s.boot.stage ≠ .started then s
    else
      let s1 := if held ∨ found = .uncorrectable then
          let s0 := sramBad n w s
          let a := if n ≤ 1 ∧ other ≠ .uncorrectable then s0 else bankReaction n s0
          if [0, 1, 10, 12].contains n ∨ lost then a else { a with bnk := { a.bnk with poison := ins a.bnk.poison p true } }
        else if found = .correctable then evc 0xA8 (cnt Ob.BNK_CORR s)
        else s
      let s2 := whenDo (lost && (held || decide (found ≠ .clean))) (fun a => evc 0xAA (cnt Ob.BNK_LOSTWR a)) s1
      if p + 1 = 2 ^ 23 then cnt Ob.BNK_SCRUBPASS { s2 with bnk := { s2.bnk with scrub := 0 } }
      else { s2 with bnk := { s2.bnk with scrub := p + 1 } })

/-! ## The diagnostic window (R170, R174) -/

/-- The word that BNK_PEEK_ADDR names, and its bank. -/
def peekWord (s : State) : Nat := oget s Ob.BNK_PEEK_ADDR / 2 ^ 28 * 2 ^ 19 + oget s Ob.BNK_PEEK_ADDR % 2 ^ 19
def peekBank (s : State) : Nat := oget s Ob.BNK_PEEK_ADDR / 2 ^ 28

/-- A read through port B: words whose layout the spec does not give read as free values. -/
def peekRead (s : State) : State × Nat :=
  let p := peekWord s
  let n := peekBank s
  if (look s.bnk.poison p).getD false then
    let s1 := oset Ob.BNK_PEEK_STAT 1 (bankReaction n (sramBad n (p % 2 ^ 19) s))
    (tookFree s1, freeOf s1 % 2 ^ 64)
  else
    let s1 := oset Ob.BNK_PEEK_STAT 0 s
    match look s.bnk.sram p with
    | some v => (s1, v.toNat)
    | none => if (bankOf s n).used then (tookFree s1, freeOf s1 % 2 ^ 64) else (s1, 0)

/-- A write through port B: for banks 13 to 15 only, and lost when port A writes the same word in the same cycle. -/
def peekWrite (v : BitVec 64) (collided : Bool) (s : State) : State × Nat :=
  let p := peekWord s
  if peekBank s < 13 then (oset Ob.BNK_PEEK_STAT 3 s, St.refused)
  else if collided then (evc 0xAA (cnt Ob.BNK_LOSTWR (oset Ob.BNK_PEEK_STAT 2 s)), St.ok)
  else
    let words := if (bankOf s (peekBank s)).used then ins s.bnk.sram p v else put (fun _ => 0) s.bnk.sram p v
    (oset Ob.BNK_PEEK_STAT 0 { s with bnk := { s.bnk with sram := words, poison := del s.bnk.poison p } }, St.ok)

end Sys2Proof.Machine
end

