-- ==== Sys2Proof/Machine/Pmb.lean ====
section
/-!
DEFINITION. VCORE and PMBus (R22, R23, R446 to R450).
-/

namespace Sys2Proof.Machine

/-! ## Slack (R23, R200) -/

/-- A stream runs while its band is LIVE. -/
def streamRuns (s : State) (k : Nat) : Bool := decide ((bandScan s (k / 2)).state = 0)

/-- The slack of each running stream that has reported, in 0.1 %. -/
def slacks (s : State) : List Int :=
  (s.pwr.slack.filter (fun e => streamRuns s e.1)).map (·.2)

/-- The worst slack among the running streams (R23). -/
def worstSlack (s : State) : Option Int :=
  match slacks s with
  | [] => none
  | x :: r => some (r.foldl min x)

/-- A running stream reports slack below 2 %. -/
def slackShort (s : State) : Bool :=
  match worstSlack s with
  | some w => decide (w < 20)
  | none => false

/-! ## Requests (R447 to R450) -/

/-- A step of 10 mV up, up to 0.90 V; it waits for a lower in progress (R23, R449). -/
def raiseVcore (s : State) : State :=
  match s.pwr.pmb with
  | some r => if r.raise then s else { s with pwr := { s.pwr with raiseDue := true } }
  | none => if s.pwr.vack < 900 then askVcore (min 900 (s.pwr.vack + 10)) s else s

/-- A step of 10 mV down, not below `floor` and not within the hold-off after a failed lower (R22, R23, R447). -/
def lowerVcore (floor : Nat) (s : State) : State :=
  if s.pwr.pmb.isSome ∨ s.now < s.pwr.holdoffTo ∨ s.pwr.vack < floor + 10 then s else askVcore (s.pwr.vack - 10) s

/-- A request has ended: a raise that waited is made, then the run of steps goes on (R449); while a stream reports slack
below 2 %, VCORE rises on (R23). -/
def pmbNext (s0 : State) : State :=
  let s := sendOperation { s0 with pwr := { s0.pwr with pmbFree := s0.now + 10000 } }
  if s.pwr.raiseDue then raiseVcore { s with pwr := { s.pwr with raiseDue := false } }
  else if s.pwr.goal.isSome then stepGoal s
  else if slackShort s then raiseVcore s
  else s

/-- An attempt has failed (R447): it is retried at most twice, and then SM17 records the failure. -/
def attemptFailed (r : PmbReq) (s : State) : State :=
  if r.tries < 2 then
    evc 0xBC (cnt Ob.PMB_RETRY { s with pwr := { s.pwr with pmb := some { r with tries := r.tries + 1, at_ := s.now } } })
  else
    let s1 := logEv 0x14 1 0 (3 * 256 + oget s Ob.PMB_STATUS % 256) (cnt Ob.PMB_FAIL (failure 17 s))
    let s2 := oset Ob.PMB_VREQ s1.pwr.vack { s1 with pwr := { s1.pwr with pmb := none } }
    if r.raise then deviceReaction 17 false false { s2 with pwr := { s2.pwr with raiseDue := false, goal := none } }
    else pmbNext { s2 with pwr := { s2.pwr with holdoffTo := s2.now + 10000000000 } }

/-- PMBUS_ATTEMPT_DONE: the three checks, in order and within 2 ms of the start of the write (R447); the value in force changes once all three complete (R448).
`acked` covers the write, `statusWord` is STATUS_WORD, and `pgood` the level of PGOOD. -/
def execPmbusAttemptDone (t : Nat) (acked : Bool) (statusWord : BitVec 16) (pgood : Bool) (s : State) :
    Host.Outcome State Fault Refusal :=
  let s := s.at t
  .next (match s.pwr.pmb with
    | none => s
    | some r =>
      if s.now < r.at_ then s
      else if r.at_ + 2000000 < s.now then attemptFailed r s
      else
      let s1 := if acked then oset Ob.PMB_STATUS statusWord.toNat s else s
      if acked ∧ statusWord.toNat &&& oget s Ob.PMB_STATMASK = 0 ∧ pgood then
        pmbNext (evc 0xBB (cnt Ob.PMB_STEPS (oset Ob.PMB_VACK r.target
          { s1 with pwr := { s1.pwr with pmb := none, vack := r.target } })))
      else attemptFailed r s1)

/-- PMBUS_ATTEMPT_TIMEOUT: an attempt not complete within 2 ms fails (R447). -/
def execPmbusAttemptTimeout (t : Nat) (s : State) : Host.Outcome State Fault Refusal :=
  let s := s.at t
  .next (match s.pwr.pmb with
    | none => s
    | some r => if r.at_ + 2000000 ≤ s.now then attemptFailed r s else s)

/-- PMB_ALERT: STATUS_WORD is read and stored, and the alert counted (R450). -/
def execPmbAlert (t : Nat) (statusWord : BitVec 16) (s : State) : Host.Outcome State Fault Refusal :=
  let s := s.at t
  .next (if s.boot.stage = .started then evc 0xBD (cnt Ob.PMB_ALERTS (oset Ob.PMB_STATUS statusWord.toNat s)) else s)

/-- PMB_HOLDOFF_EXPIRY: lowering is allowed again (R447), and a run of steps goes on. -/
def execPmbHoldoffExpiry (t : Nat) (s : State) : Host.Outcome State Fault Refusal :=
  let s := s.at t
  .next (if s.pwr.holdoffTo ≤ s.now then stepGoal s else s)

/-- PWR judges the worst slack after a line of stream `k` (R23); a row has passed when the first running stream reports. A fall
below 8 % raises VCORE by one step, and slack below 2 % keeps raising it. -/
def judgeSlack (k : Nat) (s : State) : State :=
  match worstSlack s with
  | none => { s with pwr := { s.pwr with slackLow := false } }
  | some w =>
    let first := (List.range 8).find? (streamRuns s)
    let n := if w ≤ 150 then 0 else if first = some k then s.pwr.hotRows + 1 else s.pwr.hotRows
    let s1 := { s with pwr := { s.pwr with hotRows := n, slackLow := decide (w < 80) } }
    if w < 20 ∨ (w < 80 ∧ !s.pwr.slackLow) then raiseVcore s1
    else if 64 ≤ n then lowerVcore (vcoreFloor s1) { s1 with pwr := { s1.pwr with hotRows := 0 } }
    else s1

end Sys2Proof.Machine
end

