-- ==== Sys2Proof/Machine/Saf.lean ====
section
/-!
DEFINITION. SAF's commands: the clears (R300, R301), the seal (R303 to R305), the configuration check and its repair
(R306), proof injection (R307) and the failures of the service core pair (SM10).
-/

namespace Sys2Proof.Machine

/-! ## Clears -/

/-- The latest measurement of a crack loop fails (R327). -/
def crackBad (s : State) : Bool := decide ((loopOf s 0).fails ≠ 0) || decide ((loopOf s 1).fails ≠ 0)

/-- The own rule of SAF_CLEAR (R25, R301, R327). -/
def ownSafClear (v : Nat) (s : State) : State × Nat :=
  if v = 0 then (s, St.ok)
  else if s.boot.op ≠ .safeDark then (s, St.state)
  else if deviceCause s ∨ crackBad s then (oset Ob.SAF_CLRSTAT 1 s, St.refused)
  else
    let s1 := padsAtSetup (logEv 0x05 0 0 0x100 (oset Ob.SAF_CLRSTAT 0 (changeOp .setup s)))
    (evc 0x9E { s1 with pins := { s1.pins with faultN := true } }, St.ok)

/-- SAF_CLEAR. -/
def execSafClear (t : Nat) (h : Hdr) (v : BitVec 8) (s : State) : Host.Outcome State Fault Refusal :=
  .next (writeRow h Ob.SAF_CLEAR v.toNat ownSafClear (s.at t))

/-- A cause of a band's reaction is still present (R300). -/
def bandCause (s : State) (b : Nat) : Bool := s.safe.mech.any (fun e => bit e.2.bands b && e.2.active)

/-- Why a DARK band cannot be cleared: SAF_CLRSTAT's code of the first failing condition, or 0 (R300). -/
def clearErr (s : State) (b : Nat) : Nat :=
  if s.boot.op = .safeDark ∨ bandCause s b then 1
  else if (dlkOf s b).state ≠ .ready ∧ (dlkOf s b).state ≠ .run then 5
  else if bit s.safe.unusable b then 3
  else if (railOf s b).state ≠ .on then 4
  else if get (fun _ => 0) s.safe.clean b < 8 then 2
  else 0

/-- The own rule of SAF_BANDCLR (R300). -/
def ownBandClr (v : Nat) (s : State) : State × Nat :=
  let named := (usedBands s).filter (fun b => bit v b && decide ((bandScan s b).state = 2))
  let bad := named.filter (fun b => decide (clearErr s b ≠ 0))
  let good := named.filter (fun b => decide (clearErr s b = 0))
  let s1 := oset Ob.SAF_CLRSTAT (match bad with
    | b :: _ => clearErr s b
    | [] => 0) s
  let s2 := { s1 with safe := { s1.safe with clearDue := good.foldl setBit s1.safe.clearDue } }
  (if good.isEmpty then s2 else behindCleared s2, if good.isEmpty ∧ !bad.isEmpty then St.refused else St.ok)

/-- SAF_BANDCLR. -/
def execSafBandclr (t : Nat) (h : Hdr) (v : BitVec 8) (s : State) : Host.Outcome State Fault Refusal :=
  .next (writeRow h Ob.SAF_BANDCLR v.toNat ownBandClr (s.at t))

/-- At a frame start the cleared bands leave DARK; a device reaction meanwhile refuses the clear (R297, R300). -/
def clearFrame (s : State) : State :=
  let m := s.safe.clearDue
  let s0 := { s with safe := { s.safe with clearDue := 0 } }
  if m = 0 ∨ s.boot.op = .safeDark then s0
  else
    let bs := [0, 1, 2, 3].filter (bit m)
    let s1 := { s0 with safe := { s0.safe with
      dark := bs.foldl clearBit s0.safe.dark
      mech := (s0.safe.mech.map (fun e => (e.1, { e.2 with bands := bs.foldl clearBit e.2.bands }))) } }
    logEv 0x05 0 m m (each bs (fun _ => evc 0x9D) s1)

/-! ## The seal -/

/-- The layout tag in force (R414). -/
def tagInForce (s : State) : Nat := get (fun _ => 0) s.gyl.vec 3 - 1

/-- The own rule of SAF_SEALCMD (R303). -/
def ownSealCmd (v : Nat) (s : State) : State × Nat :=
  if s.boot.op ≠ .setup then (s, St.state)
  else if v = 1 then
    if oflag s Ob.SAF_SEALED then (s, St.ok)
    else
      let c := recordCrc s
      let s1 := oset Ob.SAF_SEALED 1 (oset Ob.SAF_SEALCRC c { s with safe := { s.safe with sealCrc := c } })
      let s2 := jrnStatus (logEv 0x06 0 0 c (cnt Ob.SAF_SEALCNT s1))
      (journalPending (jrnObj Ob.SAF_SEALED (jrnObj Ob.SAF_SEALCRC (regionRecord (tagInForce s2) s2))), St.ok)
  else if oflag s Ob.SAF_SEALED then
    let s1 := jrnStatus (logEv 0x07 1 0 0 (cnt Ob.SAF_SEALCNT (oset Ob.SAF_SEALED 0 s)))
    (refCrc (jrnObj Ob.SAF_SEALED s1), St.ok)
  else (s, St.ok)

/-- SEAL. -/
def execSealCfg (t : Nat) (h : Hdr) (s : State) : Host.Outcome State Fault Refusal :=
  .next (writeRow h Ob.SAF_SEALCMD 1 ownSealCmd (s.at t))

/-- UNSEAL. -/
def execUnsealCfg (t : Nat) (h : Hdr) (s : State) : Host.Outcome State Fault Refusal :=
  .next (writeRow h Ob.SAF_SEALCMD 2 ownSealCmd (s.at t))

/-! ## SM15 -/

/-- What the journal holds, records that wait in the write buffer included. -/
def journalNow (s : State) : Nv := s.jrn.buf.foldl (fun nv r => applyRecord r s nv) s.jrn.nv

/-- The RWL objects and the region table as the journal holds them (R306). -/
def reloadRecord (s : State) : State :=
  let nv := journalNow s
  let live (k : Nat) : Bool := decide (accOf k = .rwl)
  let obj := (s.obj.filter (fun e => !live e.1))
  let dom := (s.dom.filter (fun e => !live e.1))
  { s with
    obj := (nv.obj.filter (fun e => live e.1)).foldl (fun m e => put objDefault m e.1 e.2) obj
    dom := (nv.dom.filter (fun e => live e.1)).foldl (fun m e => put domDefault m e.1 e.2) dom
    scan := { s.scan with regAct := nv.regions } }

/-- A mismatch was found: the record is reloaded at the next frame start (R306). -/
def configBad (s : State) : State :=
  if s.safe.corrupt then s
  else failure 15 { s with safe := { s.safe with corrupt := true, reload := true } }

/-- The repair has failed (R306). -/
def repairFailed (s : State) : State :=
  deviceReaction 15 true false { s with safe := { s.safe with corrupt := false, reload := false } }

/-- The reload and the second check (R306). -/
def reloadFrame (s : State) : State :=
  if !s.safe.reload then s
  else if !s.jrn.present then repairFailed s
  else
    let s1 := reloadRecord s
    let c := recordCrc s1
    let s2 := oset Ob.SAF_LIVECRC c { s1 with safe := { s1.safe with reload := false } }
    if c = s2.safe.sealCrc then logEv 0x11 1 0 c { s2 with safe := { s2.safe with corrupt := false } }
    else repairFailed s2

/-- SM15 runs from the end of the journal restore (R306). -/
def configRuns (s : State) : Bool := decide (s.boot.stage = .started) && decide (s.boot.op ≠ .boot)

/-- CONFIG_CRC_CHECK: the 100 ms check of the live record. `corrupt` says that a live value was changed by other than a
write; the CRC then found is a free value (log entry 33). -/
def execConfigCrcCheck (t : Nat) (corrupt : Bool) (s : State) : Host.Outcome State Fault Refusal :=
  let s := s.at t
  .next (if !configRuns s then s
    else if corrupt then configBad (oset Ob.SAF_LIVECRC (freeOf s % 2 ^ 32) (tookFree s))
    else
      let s1 := oset Ob.SAF_LIVECRC (recordCrc s) s
      if recordCrc s = s.safe.sealCrc then s1 else configBad s1)

/-- CONFIG_RELOAD_TIMEOUT: the reload has not completed within 30 ms (R306). -/
def execConfigReloadTimeout (t : Nat) (s : State) : Host.Outcome State Fault Refusal :=
  let s := s.at t
  .next (if configRuns s ∧ s.safe.corrupt then repairFailed s else s)

/-! ## SM10 -/

/-- LOCKSTEP_MISMATCH. -/
def execLockstepMismatch (t : Nat) (s : State) : Host.Outcome State Fault Refusal :=
  let s := s.at t
  .next (if s.boot.stage = .started then deviceReaction 10 true false (failure 10 s) else s)

/-- CORE_WATCHDOG_EXPIRY. -/
def execCoreWatchdogExpiry (t : Nat) (s : State) : Host.Outcome State Fault Refusal :=
  let s := s.at t
  .next (if s.boot.stage = .started then deviceReaction 10 true false (failure 10 s) else s)

/-! ## Proof injection -/

/-- The injected failure of a mechanism (R307), on a band for the band-class ones. -/
def inject (n b : Nat) (s : State) : State :=
  let s1 := failure n s
  if n = 1 ∨ n = 2 ∨ n = 6 then
    let c := if n = 1 then 1 else if n = 2 then 3 else 4
    tileReaction n true true { s1 with safe := { s1.safe with inj := some (n, c, firstFrame s1) } }
  else if n = 3 then s1
  else if n = 15 then { s1 with safe := { s1.safe with corrupt := true, reload := true } }
  else if [4, 5, 7, 8, 9, 14].contains n then bandReaction n b false true s1
  else
    let s2 := deviceReaction n false true s1
    if n = 13 then startPath 2 s2 else s2

/-- The own rule of SAF_INJ_GO (R307). -/
def ownInjGo (v : Nat) (s : State) : State × Nat :=
  let n := oget s Ob.SAF_INJ_SM
  let b := oget s Ob.SAF_INJ_BAND
  if v = 0 then (s, St.ok)
  else if s.boot.op ≠ .setup then (s, St.state)
  else if n = 0 ∨ ([4, 5, 7, 8, 9, 14].contains n ∧ bandCount s ≤ b) then (s, St.refused)
  else (inject n b s, St.ok)

/-- The own rule of SAF_INJ_SM and SAF_INJ_BAND: accepted in SETUP only. -/
def ownInject (k v : Nat) (s : State) : State × Nat :=
  if s.boot.op ≠ .setup then (s, St.state) else (oset k v s, St.ok)

/-- SAF_INJ_GO. -/
def execSafInjGo (t : Nat) (h : Hdr) (v : BitVec 8) (s : State) : Host.Outcome State Fault Refusal :=
  .next (writeRow h Ob.SAF_INJ_GO v.toNat ownInjGo (s.at t))

end Sys2Proof.Machine
end

