-- ==== Sys2Proof/Machine/Scan.lean ====
section
/-!
DEFINITION. The raster (chapter 08): what a row slot carries, transmits and raises (R207 to R217), the preparation of
lines (R200, R282), and the start of a frame (R205).
-/

namespace Sys2Proof.Machine

/-! ## The slot packet of a band (R237, R207 to R212) -/

/-- The link sends slot packets and STROBEs (R253). -/
def linkSends (s : State) (b : Nat) : Bool := decide ((dlkOf s b).state = .ready) || decide ((dlkOf s b).state = .run)

/-- A panel row holds a vermilion pixel (R208). -/
def rowVerm (s : State) (y : Nat) : Bool := (List.range (tileCols s)).any (fun tx => decide (rowClass s tx y = 2))

/-- The row and the pass that slot `k` of frame `e` is to write (R209). -/
def recRowOf (s : State) (k e : Nat) : Option (Nat × Nat) :=
  let lead := rget s Ob.SCAN_RECLEAD
  if e % 8 = 0 ∧ k + lead < bandH s then some (k + lead, e)
  else if (e + 1) % 8 = 0 ∧ vtotal s ≤ k + lead ∧ k < vtotal s then some (k + lead - vtotal s, e + 1)
  else none

/-- A band's recovery write may be made (R211). -/
def recMay (s : State) (b : Nat) : Bool :=
  decide ((bandScan s b).state = 0) && (bandScan s b).passOn && decide (s.boot.op = .run)
    && (decide (s.pwr.state = .p0) || decide (s.pwr.state = .p1)) && oflag s Ob.MDL_ENABLE && linkSends s b

/-- The row's codes of a pass have been delivered in full (R240); MDL cannot supply those of an entry without signatures
(R175, R211). -/
def delivered (s : State) (b row pass : Nat) : Bool :=
  match look (dlkOf s b).deliv row with
  | some d => decide (d.pass = pass) && !d.sigs.isEmpty
  | none => false

/-- A recovery row is skipped and counted (R211). -/
def skipRec (b : Nat) (s : State) : State :=
  evc (0x40 + 8 * b + 5) (cnt Ob.SCAN_RECSKIP (setBandScan b { bandScan s b with recSkip := true } s))

/-- REC and RECROW of the packet of slot `k` in a band (R209 to R211, R237, R240): a row that cannot be written is skipped. -/
def recStep (b k e : Nat) (s : State) : State × Option (Nat × Nat) :=
  match recRowOf s k e with
  | none => (s, none)
  | some (row, pass) =>
    let bs := bandScan s b
    let s0 := if row = 0 then
        setBandScan b { bs with passOn := decide (bs.state = 0), recSkip := false, biasTok := false } s else s
    if recMay s0 b ∧ delivered s0 b row pass then (s0, some (row, pass))
    else (skipRec b (if recMay s0 b then cnt (Ob.DLK_RECLATE + b) s0 else s0), none)

/-- A complete pass is counted when every row of every live band was written (R211). -/
def passDone (k e : Nat) (s : State) : State :=
  match recRowOf s k e with
  | none => s
  | some (row, _) =>
    let live := (usedBands s).filter (fun b => decide ((bandScan s b).state = 0))
    if row + 1 = bandH s ∧ !live.isEmpty ∧ live.all (fun b => (bandScan s b).passOn && !(bandScan s b).recSkip) then
      cnt Ob.SCAN_RECPASS s
    else s

/-! ### Packets -/

/-- A packet of slot `k` without a line: its record returns the signature of a black latch. -/
def plainSent (s : State) (k e kind row num : Nat) (r : Option (Nat × Nat)) : Sent where
  slot := k
  epoch := e
  kind := kind
  row := row
  black := true
  sigs := blackSigs (rget s Ob.DLK_NCH) (rget s Ob.DLK_NDRV)
  codes := []
  idx := []
  before := []
  fetched := 0
  ovls := []
  sides := []
  hatch := []
  tags := []
  recW := r.isSome
  recRow := (r.map (·.1)).getD 0
  pass := (r.map (·.2)).getD 0
  phase := 0
  level := 0
  number := num

/-- The headers of the packet of a slot and of its STROBE (R235 to R237, R337): a LINE, a SLOTHDR, a SPAREMASK or a CALSENSE
by the slot's kind. -/
def slotHeads (x : Sent) : List (BitVec 64) :=
  let type := [1, 0xC, 3, 8].getD x.kind 0
  let mid := if 2 ≤ x.kind then slotFields x.slot x.epoch 0 0 + x.row * 2 else slotFields x.slot x.epoch (b2n x.recW) x.recRow
  [BitVec.ofNat 64 (dlkHeader type mid), BitVec.ofNat 64 (dlkHeader 7 (strobeFields x.kind x.slot x.epoch))]

/-- The payload of a slot packet for driver `j`: the line's fields (R238), the mask of the row (R241), or the payload word of a
CALSENSE (R337). Channels beyond the line carry 0. -/
def slotPayload (s : State) (b : Nat) (x : Sent) (j : Nat) : List (BitVec 32) :=
  let n := rget s Ob.DLK_NCH
  if x.kind = 0 then
    packWords 14 ((List.range n).map (fun i => lineField (x.codes.getD (j * n + i) 0) (x.idx.getD (j * n + i) 0)))
  else if x.kind = 2 then
    packWords 1 ((List.range n).map (fun i =>
      if j * n + i < lineSubs s then b2n (bit (defectOf s (j * n + i) (panelRow s b x.row)) 3) else 0))
  else if x.kind = 3 then
    [BitVec.ofNat 32 (calCfg s (Ob.CAL_LEVEL + (x.level - 1)) % 1024 * 2 ^ 22 + calCfg s (Ob.CAL_PIDX + (x.level - 1)) % 16 * 2 ^ 18 +
      x.phase % 64 * 2 ^ 12)]
  else []

/-- Transmit the packet of a slot on every driver lane; its STROBE follows at the start of the slot (R237). What was sent is kept
until its records come. -/
def pushSent (b : Nat) (x : Sent) (s : State) : State :=
  let h := slotHeads x
  let s1 := setBandScan b { bandScan s b with sent := x :: (bandScan s b).sent, heads := h } s
  let s2 := sendDrv b (fun j => dlkPacket (h.headD 0).toNat (slotPayload s b x j)) s1
  setDlk b { dlkOf s2 b with strobe := some ((h.getD 1 0).toNat) } s2

/-- Add to the full-duty current of the frame (R330). -/
def addCurrent (b n : Nat) (s : State) : State := setBandScan b { bandScan s b with isum := (bandScan s b).isum + n } s

/-- The stage 8 values of a row that MDL updates in this frame are its sample (R258, R260). -/
def keepSample (b k e : Nat) (y8 : List Nat) (s : State) : State :=
  if e % 16 = k % 16 then { s with wear := { s.wear with sample := put (fun _ => []) s.wear.sample (8192 * b + k) y8 } } else s

/-- A black line (R208, R237). In a LIVE band its subpixels count with code 0 (R330). -/
def sendBlack (b k e num : Nat) (r : Option (Nat × Nat)) (s : State) : State :=
  let s1 := setBandScan b { bandScan s b with prev := [] } (pushSent b (plainSent s k e 0 k num r) (keepSample b k e [] s))
  if (bandScan s b).state = 0 then
    addCurrent b (panelW s * ([0, 1, 2].foldl (fun n c => n + ipix (dget s (Ob.PNL_IPIX + c)) 0) 0)) s1
  else s1

/-- The parameters latched for frame `e`. -/
def latchFor (s : State) (e : Nat) : Option Latch := [s.scan.latch, s.scan.latchNext].findSome? (fun l => match l with
  | some x => if x.epoch = e then some x else none
  | none => none)

/-- Pixels of a panel row that the shadow checker samples in frame `e` (R290). -/
def sampled (s : State) (l : Latch) (y : Nat) : List Nat :=
  (List.range (panelW s)).filter (fun x => decide ((x / 8 + y) % 8 = l.epoch % 8) && decide (l.sel = 0) &&
    decide ((classIn l.regions (l.get Ob.FRS_DEFCLASS) (l.get Ob.FRS_MAXAGE) (x / 64) (y / 32)).1 = 2))

/-- A frame with a line that is not black, or with none, is no frame of black lines (R300). -/
def noBlackLine (b : Nat) (s : State) : State := { s with safe := { s.safe with dirty := setBit s.safe.dirty b } }

/-- The line of a prepared row (R237, R238). -/
def sendImage (b k e num : Nat) (r : Option (Nat × Nat)) (p : Prep) (l : Latch) (s : State) : State :=
  let y := panelRow s b k
  let prev := if k = 0 then [] else (bandScan s b).prev
  let codes := lineCodes l y p.y8
  let idx := lineIdx l prev p.y8
  let x : Sent := { plainSent s k e 0 k num r with
    black := false, sigs := driverSigs (rget s Ob.DLK_NCH) (rget s Ob.DLK_NDRV) codes idx
    codes := codes, idx := idx, before := prev, fetched := p.fetched, ovls := p.ovls, sides := p.sides
    hatch := p.hatch, tags := p.tags }
  let tables := [0, 1, 2].map (fun c => dget s (Ob.PNL_IPIX + c))
  let i := (codes.zipIdx).foldl (fun n c => n + ipix (tables.getD (c.2 % 3) []) c.1) 0
  let s1 := addCurrent b i (pushSent b x (keepSample b k e p.y8 s))
  let bs := bandScan s1 b
  let n := (sampled s l y).length
  let bs1 : BandScan := { bs with prev := p.y8.map (· / 64), hist := (x :: bs.hist).take 20 }
  noBlackLine b (setBandScan b (if e = s.scan.epoch then { bs1 with shadowDue := bs.shadowDue + n }
    else { bs1 with shadowNext := bs.shadowNext + n }) s1)

/-- An underrun of band `b` at row `k` (R208): a black line, and the rule of SM11 for vermilion rows. -/
def underrun (b k : Nat) (s : State) : State :=
  let s1 := scanEvent 4 b (0x40 + 8 * b + 3) (cnt (Ob.SCAN_UNDERRUN + b) s)
  if rowVerm s1 (panelRow s1 b k) then
    let ts := s1.now :: s1.scan.urTimes.filter (fun t => decide (s1.now < t + 1000000000))
    let s2 := cnt Ob.SCAN_UR_VERM { s1 with scan := { s1.scan with urTimes := ts } }
    if 4 < ts.length then bandReaction 11 b false false (failure 11 s2) else s2
  else s1

/-- The prepared line of row `k` of frame `e`, complete in both streams (R207). -/
def readyPrep (s : State) (b k e : Nat) : Option Prep :=
  (bandScan s b).preps.find? (fun p => decide (p.row = k) && decide (p.epoch = e) && p.left && p.right)

/-- Spare-mask rows run in SETUP and RUN (R19). -/
def masksRun (s : State) : Bool := decide (s.boot.op = .setup) || decide (s.boot.op = .run)

/-- What a free blanking slot carries (R212): a queued spare-mask row, else a calibration gap, else nothing. -/
def sendFree (b k e num : Nat) (s : State) : State :=
  let out := (bandScan s b).sent.filter (fun x => decide (x.kind = 2))
  let s' := { s with wear := { s.wear with queue := s.wear.queue.filter (fun m => out.all (fun x => decide (x.row ≠ m.row))) } }
  match (if masksRun s then nextMask s' b else none) with
  | some m => evc (0x40 + 8 * b + 6) (pushSent b (plainSent s k e 2 m.row num none) s)
  | none =>
    match calNext s b with
    | some g => takeGap b k e num g
        (pushSent b { plainSent s k e 3 g.row num none with phase := g.phase, level := g.level } s)
    | none => pushSent b (plainSent s k e 1 0 num none) s

/-- The operating state that a wall-wide STATE argument brings. -/
def stateAfter (s : State) (arg : Nat) : OpState :=
  if arg = 2 ∧ s.boot.op = .setup ∧ runErr s = 0 then .run
  else if arg = 1 ∧ s.boot.op = .run then .setup else s.boot.op

/-- The operating state of the frame after the current one: a committed wall change or a VECTOR may bring another (R420, R421). -/
def nextOp (s : State) : OpState :=
  match wallDue s (s.scan.epoch + 1), s.gyl.vecPend with
  | some c, _ => if c.kind = 1 then stateAfter s c.arg else s.boot.op
  | none, some (_, at_, args) => if at_ ≤ s.scan.epoch + 1 then stateAfter s ((look args 1).getD 0) else s.boot.op
  | none, none => s.boot.op

/-- A band is LIVE in frame `e`: the current one, or the next one by what its start will bring (R25, R214, R300, R420). -/
def liveIn (s : State) (b e : Nat) : Bool :=
  if e ≤ s.scan.epoch then decide ((bandScan s b).state = 0)
  else
    let m := if s.boot.op = .safeDark then 0 else s.safe.clearDue
    decide (bandStateDue { s with
      boot := { s.boot with op := nextOp s }
      safe := { s.safe with dark := [0, 1, 2, 3].foldl (fun d i => if bit m i then clearBit d i else d) s.safe.dark } } b = 0)

/-- The controller transmits the packet of slot `k` of frame `e` in a band during the slot before (R237). An underrun arises only
in a band that is LIVE now (R208). -/
def transmit (b k e num : Nat) (s : State) : State :=
  let st := (bandScan s b).state
  let (s1, r) := recStep b k e s
  let drop (a : State) : State :=
    setBandScan b { bandScan a b with preps := (bandScan a b).preps.filter (fun p => decide (p.row ≠ k)) } a
  if st = 3 ∨ st = 4 ∨ !linkSends s1 b then noBlackLine b (drop s1)
  else if k < bandH s1 then
    if liveIn s1 b e then
      match readyPrep s1 b k e, latchFor s1 e with
      | some p, some l => drop (sendImage b k e num r p l s1)
      | _, _ => drop (sendBlack b k e num r (whenDo (decide (st = 0)) (underrun b k) s1))
    else drop (sendBlack b k e num r s1)
  else if r.isSome then pushSent b (plainSent s1 k e 1 0 num r) s1
  else sendFree b k e num s1

/-! ## A row slot (R202, R213, R215, R249) -/

/-- GOEa is high in a slot (R212 to R214, R247, R316). -/
def goeLevel (s : State) (b j : Nat) : Bool :=
  let d := (bandScan s b).goeDuty
  let i := if vtotal s = 0 then 0 else 64 * j / vtotal s
  let addressed := (bandScan s b).sent.any (fun x => decide (x.number = s.scan.slotNo) && (decide (x.kind = 2) || decide (x.kind = 3)))
  decide ((bandScan s b).state = 0) && decide (i * d / 64 < (i + 1) * d / 64) && s.pnl.path.isNone
    && (look s.pnl.cutPath b).isNone && decide ((railOf s b).state = .on) && !addressed

/-- The packet that the slot in progress latched. -/
def slotSent (s : State) (b : Nat) : Option Sent := (bandScan s b).sent.find? (fun x => decide (x.number = s.scan.slotNo))

/-- The recovery write of a slot is made (R245), unless the band or the controller has left what R211 asks for since the packet was
sent: then the row is skipped, and its record proves no write. -/
def recWrite (b : Nat) (s : State) : State :=
  match slotSent s b with
  | none => s
  | some x =>
    if !x.recW then s
    else if recMay s b then
      evc (0x40 + 8 * b + 4) (if x.recRow = 0 then setBandScan b { bandScan s b with biasTok := true } s else s)
    else
      let sent := (bandScan s b).sent.map (fun y => if y.number = x.number then { y with recW := false } else y)
      skipRec b (setBandScan b { bandScan s b with sent := sent } s)

/-- GBBa is high at the start of a slot whose recovery write is made, for ROW_TREC (R245). -/
def gbbLevel (s : State) (b : Nat) : Bool :=
  match slotSent s b with
  | some x => x.recW
  | none => false

/-- A pulse of a pin, times in ns after the start of the slot. -/
def rowPulse (p : RowPin) (from_ to_ : Nat) : List RowEdge := [⟨1000 * from_, p, true⟩, ⟨1000 * to_, p, false⟩]

/-- A rise at `from_` ns and a fall `before` ns before the end of a row time of `t` ps. -/
def rowGate (p : RowPin) (from_ t before : Nat) : List RowEdge := [⟨1000 * from_, p, true⟩, ⟨t - 1000 * before, p, false⟩]

/-- The row control edges of an image or blanking slot (R245): `rec_` is REC of its packet, `write` tells that its write is made. -/
def plainEdges (s : State) (j : Nat) (rec_ write first : Bool) : List RowEdge :=
  let t0 := if rec_ then rget s Ob.ROW_TREC else 0
  (if write then rowPulse .gbb 0 t0 else []) ++
  (if write && first then rowPulse .gst 10 60 else []) ++
  (if j = 0 then rowPulse .gst (t0 + 10) (t0 + 60) else []) ++
  rowGate (.gck (s.scan.slotNo % 4)) (t0 + 80) (rowTimePs (rget s)) (rget s Ob.ROW_TGOFF)

/-- The row control edges of a SPARE or CAL slot for band row `row` (R246); GST falls with GCK3 (log entry 86). -/
def addrEdges (s : State) (kind row : Nat) : List RowEdge :=
  let t := rowTimePs (rget s)
  let bits := (List.range 13).flatMap (fun i =>
    (⟨1000 * (60 + 40 * i), .gst, bit row (12 - i)⟩ : RowEdge) :: rowPulse (.gck 1) (70 + 40 * i) (90 + 40 * i))
  let gate (p : RowPin) : List RowEdge := rowGate p 650 t 150
  [⟨50000, .gck 3, true⟩] ++ bits ++ [⟨590000, .gck 3, false⟩, ⟨590000, .gst, false⟩] ++
  gate (.gck 0) ++ gate (if kind = 2 then .gck 2 else .gck 1)

/-- The row control edges of the slot in progress, delayed by ROW_TSKEW (R244 to R246); none while rows are not programmed (R214). -/
def slotEdges (s : State) (b j : Nat) : List RowEdge :=
  let st := (bandScan s b).state
  let late (e : RowEdge) : RowEdge := { e with at_ := e.at_ + 1000 * oget s Ob.ROW_TSKEW }
  if st = 3 ∨ st = 4 then []
  else match slotSent s b with
    | some x =>
      if x.kind = 2 ∨ x.kind = 3 then (addrEdges s x.kind x.row).map late
      else
        let sentRec := bit ((bandScan s b).heads.headD 0).toNat 29
        (plainEdges s j sentRec x.recW (decide (x.recRow = 0))).map late
    | none => (plainEdges s j false false false).map late

/-- Records that never came (R250, R288): a slot sent two or more slots ago is judged with every record missing. -/
def judgeLate (b : Nat) (s : State) : State :=
  let late := (bandScan s b).sent.filter (fun x => decide (x.number + 2 ≤ s.scan.slotNo))
  let s1 := setBandScan b { bandScan s b with sent := (bandScan s b).sent.filter (fun x => decide (s.scan.slotNo < x.number + 2)) } s
  calLost b s.scan.slotNo (each late.reverse (fun x => judgeSlot b x []) s1)

/-- The frame and slot that follow slot `j`. -/
def slotAfter (s : State) (j : Nat) : Nat × Nat := if j + 1 = vtotal s then (0, s.scan.epoch + 1) else (j + 1, s.scan.epoch)

/-- The copies of a table whose transfer has completed swap with the parameters latched next (R178, R179). -/
def swapTables (s : State) : State :=
  let due := s.scan.tableBusy.filter (fun e => decide (e.2 = 1))
  { s with scan := { s.scan with
    tableAct := due.foldl (fun m e => put domDefault m e.1 (dget s e.1)) s.scan.tableAct
    tableBusy := due.foldl (fun m e => ins m e.1 2) s.scan.tableBusy } }

/-- The instant at which slot `j` starts in a band: its STROBE ends, its recovery write is made or not, and the edges of its row
control follow (R237, R244 to R246). -/
def beginSlot (j b : Nat) (s : State) : State :=
  let s1 := recWrite b (sendStrobe b s)
  setBandScan b { bandScan s1 b with edges := slotEdges s1 b j } s1

/-- The latch point of the next frame, five slots before it starts (R178, R179, R187). -/
def latchPoint (s : State) : State :=
  let a := swapTables s
  keepTemps { a with scan := { a.scan with latchNext := some (takeNext a) } }

/-- The frame before is closed for R300 and IND_BURST once its last slot has been judged: a band of black lines without a
failure has one more clean frame. -/
def cleanFrame (s : State) : State :=
  let s1 := each (usedBands s) (fun b st =>
    let ok := decide ((bandScan st b).state = 1 ∨ (bandScan st b).state = 2) && linkSends st b && !bit st.safe.dirty b
    let n := if ok then get (fun _ => 0) st.safe.clean b + 1 else 0
    { st with safe := { st.safe with clean := put (fun _ => 0) st.safe.clean b n } }) s
  { s1 with safe := { s1.safe with dirty := 0, burst := [] } }

/-- The events of the start of slot `j`, in the order of R216: SOB, LINEMATCH, FRAME_DONE by a last report that never came, the
underruns of the packets of the next slot, and RECOVERY. -/
def slotEvents (j : Nat) (s : State) : State :=
  let bs := usedBands s
  let s1 := each bs (fun b st => whenDo (decide (j = bandH st)) (scanEvent 1 b (0x40 + 8 * b)) st) s
  let s2 := each bs (fun b st => whenDo (decide (oget st (Ob.SCAN_LINEMATCH + b) = j)) (scanEvent 2 b (0x40 + 8 * b + 1)) st) s1
  let s3 := whenDo (decide (j = 1 ∧ 1 < s.scan.slotNo)) cleanFrame (each bs judgeLate s2)
  let (k, e) := slotAfter s3 j
  let s4 := each bs (fun b => transmit b k e (s3.scan.slotNo + 1)) s3
  whenDo (decide (j + rget s4 Ob.SCAN_RECLEAD = vtotal s4 ∧ (s4.scan.epoch + 1) % 8 = 0)) (scanEvent 5 0 0x61) s4

/-- The start of slot `j` in every band: held writes, the slot's own start, pointer swaps, the latch point, the events, and the
levels of GOEa and GBBa. -/
def slotWork (j : Nat) (s : State) : State :=
  let bs := usedBands s
  let s1 := passDone j s.scan.epoch (each bs (beginSlot j) (releaseWrites s))
  let s2 := slotEvents j (whenDo (decide (j + 5 = vtotal s1)) latchPoint (swapSlot s1))
  each bs (fun b st => setPads b { padsOf st b with goe := goeLevel st b j, gbb := gbbLevel st b } st) s2

/-- The raster scans: the controller has left BOOT and is not in P3. -/
def scans (s : State) : Bool :=
  decide (s.boot.stage = .started) && decide (s.boot.op ≠ .boot) && decide (s.pwr.state ≠ .p3)

/-- ROW_SLOT_START: the next row slot of the frame; slot 0 starts with the frame. -/
def execRowSlotStart (t : Nat) (s : State) : Host.Outcome State Fault Refusal :=
  let s := s.at t
  .next (if !scans s ∨ !s.scan.running ∨ vtotal s ≤ s.scan.slot + 1 then s
    else
      let j := s.scan.slot + 1
      slotWork j { s with scan := { s.scan with slot := j, slotNo := s.scan.slotNo + 1 } })

/-! ## Preparing lines -/

/-- Slots from the current one to the start of the slot that programs a band row. -/
def slotsTo (s : State) (row : Nat) : Nat := if s.scan.slot < row then row - s.scan.slot else row + vtotal s - s.scan.slot

/-- ROW_PREPARE_START: PPL prepares a row of a band that is LIVE in the row's frame, from 5 slots to 1 slot before its own (R178,
R22, R25). -/
def execRowPrepareStart (t : Nat) (band : Fin 4) (row : Nat) (s : State) : Host.Outcome State Fault Refusal :=
  let s := s.at t
  let b := band.val
  .next (if !scans s ∨ !s.scan.running ∨ bandH s ≤ row ∨ 5 < slotsTo s row
      ∨ !liveIn s b (if s.scan.slot < row then s.scan.epoch else s.scan.epoch + 1) then s
    else match rowLatch s row with
      | some l => prepareRow b row l s
      | none => s)

/-- LINE_COMPLETE: stream `half` of a band completes a row and reports its slack (R200), which drives VCORE (R23). -/
def execLineComplete (t : Nat) (band : Fin 4) (half : Bool) (row : Nat) (slack : Int) (s : State) :
    Host.Outcome State Fault Refusal :=
  let s := s.at t
  let b := band.val
  let k := 2 * b + b2n half
  .next (if !scans s ∨ (bandScan s b).preps.all (fun p => decide (p.row ≠ row)) then s
    else
      let bs := bandScan s b
      let mark (p : Prep) : Prep :=
        if p.row = row then { p with left := p.left || !half, right := p.right || half } else p
      let s1 := setBandScan b { bs with preps := bs.preps.map mark } s
      let s2 := oset (Ob.PPL_SLACK + k) (ofSigned 16 slack) { s1 with
        pwr := { s1.pwr with slack := ins s1.pwr.slack k slack }
        scan := { s1.scan with lastSlack := min s1.scan.lastSlack slack } }
      judgeSlack k s2)

/-- TABLE_COPY_SYNCED: the inactive copy equals the active one again (R179). -/
def execTableCopySynced (t : Nat) (index : BitVec 16) (sub : BitVec 8) (s : State) : Host.Outcome State Fault Refusal :=
  let s := s.at t
  let k := key index.toNat sub.toNat
  .next (if look s.scan.tableBusy k = some 2 then { s with scan := { s.scan with tableBusy := del s.scan.tableBusy k } }
    else s)

/-! ## The end of a frame -/

/-- A frame period in ticks of 2 ns differs from the nominal one by more than 1 % (R217). -/
def periodBad (s : State) (p : Nat) : Bool :=
  let r := rget s Ob.SCAN_RATE
  decide (101 * 10 ^ 12 < 200 * p * r) || decide (200 * p * r < 99 * 10 ^ 12)

/-- SM11 judges the frame that has ended (R217). -/
def judgeFrame (p : Nat) (counts late : List Nat) (s : State) : State :=
  let badBand (b : Nat) : Bool := decide (counts.getD b (vtotal s) ≠ vtotal s) || decide (rowTimePs (rget s) < 1000 * late.getD b 0)
  let bands := (usedBands s).filter badBand
  if !periodBad s p ∧ bands.isEmpty then s
  else
    let s1 := evc 0x63 (cnt Ob.SCAN_SM11 (failure 11 s))
    let s2 := each bands (fun b => bandReaction 11 b false false) s1
    if periodBad s p then deviceReaction 11 false false s2 else s2

/-- The hatches entered in the frame are reported once (R96, R287). -/
def hatchFrame (s : State) : State :=
  let s1 := if s.scan.hatchCnt = 0 then s else backEvent 6 s.scan.hatchFirst s.scan.hatchCnt s
  { s1 with scan := { s1.scan with hatchCnt := 0, hatchFirst := 0 } }

/-- Samples of the frame that ends which the shadow checker did not finish fail SM07 in their bands (R292); those of rows of the next
frame stay due. -/
def shadowFrame (s : State) : State :=
  let s1 := each (usedBands s) (fun b st =>
    let bs := bandScan st b
    let st1 := setBandScan b { bs with shadowDue := bs.shadowNext, shadowNext := 0 } st
    if bs.shadowDue = 0 ∨ bs.state ≠ 0 then st1
    else
      let st2 := iter (evc (0x68 + 8 * b + 3)) (3 * bs.shadowDue) (cntBy (Ob.IND_SM07 + b) (3 * bs.shadowDue) st1)
      bandReaction 7 b false false (failure 7 st2)) s
  oset Ob.IND_SHADOW_PIX s1.scan.shadowPix { s1 with scan := { s1.scan with shadowPix := 0 } }

/-- The bias figures of a complete 16-frame cycle (MDL_BMAX, MDL_BEXCESS). -/
def cycleFrame (s : State) : State :=
  if s.scan.epoch % 16 = 15 then
    oset Ob.MDL_BMAX s.wear.bmax (oset Ob.MDL_BEXCESS s.wear.bexcess { s with wear := { s.wear with bmax := 0, bexcess := 0 } })
  else s

/-- The work at the end of a frame of measured period `p`. -/
def endFrame (p : Nat) (counts late : List Nat) (s : State) : State :=
  let s1 := shadowFrame (hatchFrame (judgeFrame p counts late s))
  let s2 := cycleFrame s1
  let s3 := refreshTlm s2.scan.epoch s2
  { s3 with scan := { s3.scan with commits := 0, lastSlack := 0x7FFF } }

/-! ## The start of a frame -/

/-! ## Driver registers (R243, R348) -/

/-- The registers of R243 and R348 that the controller writes to driver `j`: address and value. -/
def driverRegs (s : State) (j : Nat) : List (Nat × Nat) :=
  [(0x0001, j), (0x0002, rget s Ob.DLK_NCH), (0x0003, oget s Ob.DLK_MTHR), (0x0004, b2n (decide (j = rget s Ob.DLK_RETDRV))),
   (0x0005, rget s Ob.ROW_TREC), (0x0006, rget s Ob.ROW_TPRE),
   (0x0007, tsmp (rowTimePs (rget s)) (rget s Ob.ROW_TGOFF) (rget s Ob.ROW_TSAMP) (rget s Ob.ROW_TPRE))] ++
  (List.range 16).map (fun i => (0x10 + i, oget s (Ob.DLK_PREV + i))) ++
  (List.range 16).map (fun i => (0x20 + i, oget s (Ob.DLK_RECV + i))) ++
  [(0x30, oget s Ob.DLK_VSEL0), (0x31, oget s Ob.DLK_VSEL1)] ++
  [0, 1, 2].flatMap (fun c => (List.range 65).map (fun i => (0x1000 + 0x100 * c + i, tab16 (dget s (Ob.CAL_EXPECT + c)) i)))

/-- A CONFIG packet: COUNT register writes of a 16-bit address and a value (R235, R236). -/
def configPacket (regs : List (Nat × Nat)) : List (BitVec 32) :=
  dlkPacket (dlkHeader 6 (regs.length * 2 ^ 34)) (regs.map (fun r => BitVec.ofNat 32 (r.1 * 65536 + r.2 % 65536)))

/-- CONFIG packets write registers `regs j` of each driver `j` of a band: those whose list is empty get no packet. -/
def writeRegs (b : Nat) (regs : Nat → List (Nat × Nat)) (s : State) : State :=
  let s1 := sendDrv b (fun j => if (regs j).isEmpty then [] else configPacket (regs j)) s
  let d := dlkOf s1 b
  setDlk b { d with regs := (List.range (rget s Ob.DLK_NDRV)).foldl (fun m j =>
    (regs j).foldl (fun m r => put (fun _ => 0) m (65536 * j + r.1) (r.2 % 65536)) m) d.regs } s1

/-- CONFIG writes the registers of every driver of a band (R243, R254). -/
def sendConfig (b : Nat) (s : State) : State := writeRegs b (driverRegs s) s

/-- The registers are written again after a change of the object named, to every band whose drivers have been configured (R243). -/
def configChanged (s : State) : State :=
  each ((usedBands s).filter (fun b => linkSends s b || decide ((dlkOf s b).state = .config)
    || (decide ((dlkOf s b).state = .hold) && !(dlkOf s b).retrain))) sendConfig s

/-- The raster objects written in SETUP come into force at the first frame start at which the whole set meets R203 (R206). -/
def rasterFrame (s : State) : State :=
  if scanCfgErr s ≠ 0 ∨ rasterOf s = s.scan.inForce then s
  else
    let s1 := raiseToFloor { s with scan := { s.scan with inForce := rasterOf s } }
    if [Ob.SCAN_WIDTH, Ob.SCAN_HEIGHT, Ob.SCAN_RATE, Ob.SCAN_VTOTAL].any (fun k => decide (rget s1 k ≠ rget s k)) then
      restartRaster (configChanged { s1 with scan := { s1.scan with slotNo := 0, latch := none, latchNext := none } })
    else configChanged s1

/-- The links that became ready and those that are released at a frame start (R254, R256): RELEASE on every lane, or training again
where the hold came in the midst of it. -/
def linkFrame (s : State) : State :=
  each (usedBands s) (fun b st =>
    let d := dlkOf st b
    let live := decide ((bandScan st b).state = 0)
    if d.state = .config ∧ d.readyDue then setDlk b { d with state := if live then .run else .ready, readyDue := false } st
    else if d.state = .hold ∧ d.relDue then
      if d.retrain then startTraining b false st
      else sendDrv b (fun _ => dlkPacket (dlkHeader 5 0) []) (setDlk b { d with state := if live then .run else .ready, relDue := false } st)
    else if d.state = .ready ∧ live then setDlk b { d with state := .run } st
    else st) s

/-- AGE of every position is sampled at the start of the frame (R285). -/
def sampleAges (s : State) : State :=
  let age (p : Pos) : Nat := match p.shown.vouched with
    | some v => min ((s.scan.frameAt - v) / 1000) 0xFFFFFF
    | none => 0xFFFFFF
  { s with scan := { s.scan with pos := s.scan.pos.map (fun e => (e.1, { e.2 with age := age e.2 })) } }

/-- The parameters of the frame that starts: those latched for it (R178). -/
def startLatch (s : State) : Latch :=
  match s.scan.latchNext with
  | some l => if l.epoch = s.scan.epoch then l else takeLatch s.scan.epoch s
  | none => takeLatch s.scan.epoch s

/-- The first work at the start of a frame: the raster, the held groups and a committed wall change. -/
def beforeShow (s : State) : State :=
  let s1 := rasterFrame (thermFrame (calFrame (bankFrame s)))
  gylFrame (heldFrame (seenWindow s1))

/-- The work that follows at the start of a frame, from a pending selection on. -/
def fromShow (s : State) : State :=
  let s3 := regionFrame (showFrame s)
  let s4 := reloadFrame (sampleAges (swapFrame s3))
  let s5 := each (usedBands s4) limitFrame (linkFrame (refreshBands (clearFrame s4)))
  let s6 := if s5.scan.latchNext.isNone then keepTemps (swapTables s5) else s5
  let s7 := { s6 with scan := { s6.scan with latch := some (startLatch s6), latchNext := none } }
  scanEvent 0 0 0x60 (snapFrame s7.scan.epoch s7)

/-- The work at the start of a frame whose epoch is in force (R205), slot 0, and after its events SHOW where a new
selection is shown (R216). -/
def beginFrame (s : State) : State :=
  let s1 := beforeShow s
  let s2 := slotWork 0 (fromShow s1)
  if (showFrame s1).scan.selNow ≠ s1.scan.selNow then scanEvent 6 0 0x62 s2 else s2

/-- A frame may start: the raster scans and the frame in progress has had all its slots (R205); a node that waits for its wall does
not start the first one (R409). -/
def frameMay (s : State) : Bool :=
  scans s && (if s.scan.running then decide (s.scan.slot + 1 = vtotal s) else !(s.gyl.waitSync || s.gyl.masterWait) && decide (s.gyl.firstAt ≤ s.now))

/-- FRAME_START: the frame before is judged and closed, the epoch advances, everything bound to the frame start takes
effect, and slot 0 starts in every band. -/
def execFrameStart (t : Nat) (period : Nat) (slotCounts slot0Late : List Nat) (s : State) :
    Host.Outcome State Fault Refusal :=
  let s := s.at t
  .next (if !frameMay s then s
    else
      let first := !s.scan.running
      let s1 := if first then s else endFrame period slotCounts slot0Late s
      let s2 := { s1 with scan := { s1.scan with
        running := true
        epoch := if first then s1.scan.epoch else (s1.scan.epoch + 1) % 2 ^ 48
        slot := 0
        slotNo := if first then 0 else s1.scan.slotNo + 1
        frameAt := s1.now
        frameP := if first then 10 ^ 12 / (2 * rget s1 Ob.SCAN_RATE) else period } }
      beginFrame s2)

end Sys2Proof.Machine
end

