-- ==== Sys2Proof/Machine/Dlk.lean ====
section
/-!
DEFINITION. The driver link's training and its reports (R243, R249, R253 to R256), the delivery of recovery codes
(R240, R262, R263) and the driver registers.
-/

namespace Sys2Proof.Machine

/-! ## Row reports -/

/-- The sent slot that a ROWREP frame answers: the one its header names, else the oldest whose report is due (R249). -/
def reportedSlot (s : State) (b slot epoch : Nat) : Option Sent :=
  let due := ((bandScan s b).sent.filter (fun x => decide (x.number < s.scan.slotNo))).reverse
  (due.find? (fun x => decide (x.slot = slot) && decide (x.epoch % 65536 = epoch))).or due.head?

/-- ROWREP_RECEIVED: IND judges the records of a slot (R250, R288). A frame whose header does not hold is lost, and its records are
missing (R235). -/
def execRowrepReceived (t : Nat) (band : Fin 4) (header : BitVec 64) (records : List (BitVec 192)) (s : State) :
    Host.Outcome State Fault Refusal :=
  let s := s.at t
  let b := band.val
  let h := header.toNat
  .next (if !linkSends s b ∨ !headOk 9 h then s
    else match reportedSlot s b (field h 46 14) (field h 30 16) with
      | none => s
      | some x =>
        let bs := bandScan s b
        let s1 := setBandScan b { bs with sent := bs.sent.filter (fun y => decide (y.number ≠ x.number)) } s
        judgeSlot b x (records.map Rec.ofBits) (keepRecords b records s1))

/-! ## Driver registers (R243, R348) -/

/-- The own rule of an element of DLK_DRVREG_WRITE (R243): SETUP only, over lanes that are up. CONFIG goes to the drivers named. -/
def ownDrvreg (b v : Nat) (s : State) : State × Nat :=
  if s.boot.op ≠ .setup then (s, St.state)
  else if !linkSends s b then (s, St.refused)
  else
    (writeRegs b (fun j => if bit v j then [(oget s Ob.DLK_DRVREG_ADDR, oget s Ob.DLK_DRVREG_DATA)] else []) s, St.ok)

/-- DLK_DRVREG_WRITE. -/
def execDlkDrvregWrite (t : Nat) (h : Hdr) (band : Fin 4) (v : BitVec 32) (s : State) : Host.Outcome State Fault Refusal :=
  .next (writeRow h (Ob.DLK_DRVREG_WRITE + band.val) v.toNat (ownDrvreg band.val) (s.at t))

/-! ## Training (R254, R255) -/

/-- The band becomes FAILED; unless it is DARK it takes a band-class reaction, recorded as SM05 (R255). -/
def linkFails (b cause : Nat) (s : State) : State :=
  let s1 := setDlk b { dlkOf s b with state := .failed, cause := cause, readyDue := false } s
  if (bandScan s1 b).state = 2 then s1 else bandReaction 5 b false false (failure 5 s1)

/-- The lanes step on by STEP, then the chain by CSTEP, then the CONFIG writes and GO follow (R254). -/
def advanceTraining (b : Nat) (s : State) : State :=
  let d := dlkOf s b
  if d.rate < rget s Ob.DLK_RATE then
    trainDrv b 2 (d.rate + 1) d.chain (setDlk b { d with state := .step, chainStep := false } s)
  else if d.chain < rget s Ob.DLK_CHAINRATE then
    trainDrv b 3 d.rate (d.chain + 1) (setDlk b { d with state := .step, chainStep := true } s)
  else trainDrv b 4 d.rate d.chain (sendConfig b (setDlk b { d with state := .config, chainStep := false, readyDue := true } s))

/-- The valid STATUS records of a frame. -/
def statusRecs (records : List (BitVec 64)) : List (BitVec 64 × StatusRec) :=
  (records.map (fun r => (r, StatusRec.ofBits r))).filter (fun p => p.2.crcOk)

/-- STATUS_FRAME_RECEIVED: every driver locked ends DETECT, and the count and the capabilities are checked (R254). A frame whose header
does not hold is lost (R235). -/
def execStatusFrameReceived (t : Nat) (band : Fin 4) (header : BitVec 64) (records : List (BitVec 64)) (s : State) :
    Host.Outcome State Fault Refusal :=
  let s := s.at t
  let b := band.val
  let d := dlkOf s b
  let rs := statusRecs records
  let m := rget s Ob.DLK_NDRV
  let of_ (j : Nat) : Option StatusRec := (rs.find? (fun p => decide (p.2.drv = j))).map (·.2)
  let keep (st : State) : State :=
    each (rs.filter (fun p => decide (p.2.drv < 24))) (fun p => oset (Ob.DLK_CAP + 24 * b + p.2.drv) p.1.toNat) st
  .next (if !headOk 0xA header.toNat ∨ (d.state ≠ .detect ∧ d.state ≠ .negotiate ∧ d.state ≠ .step) then s
    else if d.state = .detect then
      (if (List.range m).all (fun j => match of_ j with
          | some r => decide (1 ≤ r.lstate)
          | none => false)
       then keep (setDlk b { d with state := .negotiate } s) else keep s)
    else if d.state = .negotiate then
      let s1 := keep s
      if rs.length ≠ m ∨ (List.range m).any (fun j => (of_ j).isNone) then linkFails b 2 s1
      else if rs.all (fun p => decide (rget s Ob.DLK_RATE ≤ p.2.maxRate) && decide (rget s Ob.DLK_CHAINRATE ≤ p.2.chainMax)
          && decide (rget s Ob.DLK_NCH ≤ p.2.nchMax) && decide (bandH s ≤ p.2.rstore)) then advanceTraining b s1
      else linkFails b 3 s1
    else keep s)

/-- DLK_LOCK_TIMEOUT: a driver has not locked within 10 ms (R254, cause 1). -/
def execDlkLockTimeout (t : Nat) (band : Fin 4) (s : State) : Host.Outcome State Fault Refusal :=
  let s := s.at t
  .next (if (dlkOf s band.val).state = .detect then linkFails band.val 1 s else s)

/-- DLK_STEP_TEST_DONE: the acceptance test of a step of the lanes (cause 4) or of the chain (cause 5) (R254). -/
def execDlkStepTestDone (t : Nat) (band : Fin 4) (result : StepResult) (s : State) : Host.Outcome State Fault Refusal :=
  let s := s.at t
  let b := band.val
  let d := dlkOf s b
  .next (if d.state ≠ .step then s
    else match result with
      | .passed => advanceTraining b (setDlk b (if d.chainStep then { d with chain := d.chain + 1 } else { d with rate := d.rate + 1 }) s)
      | .failed => linkFails b (if d.chainStep then 5 else 4) s)

/-- A band is retrained at once (R254). A band that shows content goes dark, as its link is lost. While a lampblack path holds its
lanes (R38, R316) the training waits for their release (log entry 40). -/
def retrainBand (b : Nat) (s : State) : State :=
  let s1 := if (bandScan s b).state = 0 then bandReaction 5 b false false (failure 5 s) else s
  let d := dlkOf s1 b
  if onPath s1 b then
    setDlk b { d with state := .hold, retrain := true, readyDue := false, strobe := none, retries := satInc 0xFFFF d.retries } s1
  else startTraining b true s1

/-- The own rule of DLK_RETRAIN: the bands named, provided PEN3 is on (R254). -/
def ownDlkRetrain (v : Nat) (s : State) : State × Nat :=
  if !s.pins.pen3 then (s, St.refused) else (each ((usedBands s).filter (bit v)) retrainBand s, St.ok)

/-- DLK_RETRAIN. -/
def execDlkRetrain (t : Nat) (h : Hdr) (v : BitVec 8) (s : State) : Host.Outcome State Fault Refusal :=
  .next (writeRow h Ob.DLK_RETRAIN v.toNat ownDlkRetrain (s.at t))

/-- DLK_FAILED_RETRY: a FAILED band is retrained once every second (R255), but not while a lampblack path holds its lanes. -/
def execDlkFailedRetry (t : Nat) (band : Fin 4) (s : State) : Host.Outcome State Fault Refusal :=
  let s := s.at t
  .next (if (dlkOf s band.val).state = .failed ∧ s.pins.pen3 ∧ !onPath s band.val then startTraining band.val true s else s)

/-! ## Recovery codes (R240, R262, R263) -/

/-- The recovery code of a subpixel from its stored bias (R262). -/
def codeOf (s : State) (sub y : Nat) : Nat :=
  if ageOf s sub y = 0xFFFF then 0
  else recoveryCode (fun c => relief (oget s (Ob.MDL_RELIEF + c)) (oget s Ob.MDL_TWIN)) (oget s (Ob.MDL_RECMAX + sub % 3))
    (biasOf s sub y)

/-- The recovery codes of driver `j` for a row; channels beyond the line have code 0. -/
def recCodes (s : State) (y j : Nat) : List Nat :=
  let n := rget s Ob.DLK_NCH
  (List.range n).map (fun i => if j * n + i < lineSubs s then codeOf s (j * n + i) y else 0)

/-- The last update of a row before its write in a pass has been made (R258, R263). -/
def updateMade (s : State) (b row pass : Nat) : Bool :=
  let u := pass - 1 - (pass - 1 + 16 - row % 16) % 16
  decide (u < s.scan.epoch) || (decide (u = s.scan.epoch) && decide (get (fun _ => 0) s.wear.updated (8192 * b + row) = u + 1))

/-- MDL and DLK may deliver a row for a pass: in the seven frames before it, in RUN, in the order of the write slots
(R240, R263), and not a row whose codes bank 9 has lost (R175). -/
def mayDeliver (s : State) (b row pass : Nat) : Bool :=
  decide (pass % 8 = 0) && decide (s.scan.epoch < pass ∧ pass ≤ s.scan.epoch + 7) && decide (row < bandH s)
    && decide (s.boot.op = .run) && (decide (s.pwr.state = .p0) || decide (s.pwr.state = .p1)) && oflag s Ob.MDL_ENABLE
    && linkSends s b && updateMade s b row pass && (dlkOf s b).deliv.all (fun e => decide (e.2.pass ≠ pass ∨ e.1 < row ∨ (row < e.1 ∧ e.2.sigs = [])))

/-- RECOVERY_DELIVERY: a row's RECOVERY packet for a pass (R240). -/
def execRecoveryDelivery (t : Nat) (band : Fin 4) (row : Nat) (pass : BitVec 48) (s : State) :
    Host.Outcome State Fault Refusal :=
  let s := s.at t
  let b := band.val
  .next (if mayDeliver s b row pass.toNat then
      let codes := (List.range (rget s Ob.DLK_NDRV)).map (recCodes s (panelRow s b row))
      let head := dlkHeader 2 (row * 2 ^ 30 + pass.toNat % 65536 * 2 ^ 14)
      let s1 := sendDrv b (fun j => dlkPacket head (packWords 4 (codes.getD j []))) s
      let d := dlkOf s1 b
      setDlk b { d with deliv := ins d.deliv row (.mk pass.toNat (codes.map recSig)) } s1
    else s)

end Sys2Proof.Machine
end

