-- ==== Sys2Proof/Machine/Starts.lean ====
section
/-!
DEFINITION. Starts and resets (R4, R31, R34, R38, R46 to R49, R451 to R458): what each start clears, the reset triggers,
the power sequence up to the controller die's leaving reset.
-/

namespace Sys2Proof.Machine

/-! ## What a start clears (R455) -/

/-- Objects that a system reset and a wake from P3 keep: the retention area, and what the ring tells of itself. -/
def keptKey (k : Nat) : Bool :=
  decide (k / 256 = 0x6210) || decide (k / 256 = 0x6002) || decide (k / 256 = 0x6003) || decide (k / 256 = 0x6201) ||
  [Ob.PWR_P3TIMER, Ob.PWR_BOOTFAIL, Ob.PNL_LB_LAST, Ob.PNL_LB_DUR, Ob.SAF_LAST_SM, Ob.SAF_LAST_EPOCH, Ob.SAF_CUTBANDS,
   Ob.JRN_SEQ, Ob.GYL_WAKEHEARD].contains k

/-- What a loss of power leaves of the journal: the device. -/
def keepDevice (j : Jrn) : Jrn :=
  { Jrn.initial with head := j.head, nv := j.nv, base := j.base, older := j.older, used := j.used, total := j.total, erased := j.erased, retired := j.retired }

/-- What a start leaves of a port: its generation (R350). -/
def keepPort (v : PortState) : PortState := { PortState.initial with gen := v.gen }

/-- The patch slots lie in the factory partition (R474). -/
def keepPatches (m : Mgt) : Mgt :=
  { Mgt.initial with patchRun := m.patchRun, patchFb := m.patchFb, patchLoaded := m.patchLoaded, patchPend := m.patchPend
                     patchEver := m.patchEver }

/-- The last generation of a tag, in its area of banks 0 and 1 (R99, R455). -/
def keepTag (g : Tag) : Tag :=
  let last := if g.state = .receiving ∧ !g.decoding then g.lastGen else g.gen
  { Tag.none with gen := last, lastGen := last }

/-- Tables of generations after a system reset. -/
def keepTrx (x : Trx) : Trx :=
  { Trx.initial with
    tags := (x.tags.map (fun e => (e.1, keepTag e.2))).filter (fun e => decide (e.2 ≠ Tag.none))
    groups := (x.groups.map (fun e => (e.1, { Group.none with gen := e.2.gen }))).filter (fun e => decide (e.2 ≠ Group.none)) }

/-- What a start leaves of the pins: the supplies, the pin-state fuses and what stands outside. -/
def keepPins (p : Pins) : Pins :=
  { Pins.initial with
    fused := p.fused, pen0 := p.pen0, pen1 := p.pen1, pen2 := p.pen2, pgood := p.pgood, rstDrive := p.rstDrive
    rstExt := p.rstExt, wakeN := p.wakeN, padsAb18 := p.padsAb18, padsCd18 := p.padsCd18, vioAb := p.vioAb
    pdisWeak := p.pdisWeak, vresOnly := p.vresOnly }

/-- What a start leaves of the record of a mechanism: nothing of it is known to be present. -/
def keepMech (m : Mech) : Mech := { m with active := false }

/-- The controller die loses its state (R455): what lies in the always-on die, the journal device and the fuses stays. -/
def clearDie (s : State) : State :=
  { State.reset with
    pending := s.pending, now := s.now, free := s.free
    obj := s.obj.filter (fun e => keptKey e.1)
    boot := { Boot.initial with
      stage := s.boot.stage, stageAt := s.boot.stageAt, stretch := s.boot.stretch, attempts := s.boot.attempts, vdramOk := s.boot.vdramOk, vlaneOk := s.boot.vlaneOk
      viocdOk := s.boot.viocdOk, fromP3 := s.boot.fromP3, factoryKey := s.boot.factoryKey, resetLogged := s.boot.resetLogged
      strapWarn := s.boot.strapWarn, gensLost := s.boot.gensLost }
    pins := keepPins s.pins
    pwr := { Pwr.initial with retOp := s.pwr.retOp, retEpoch := s.pwr.retEpoch, retGyl := s.pwr.retGyl
                              retImage := s.pwr.retImage, retImageOk := s.pwr.retImageOk }
    pxl := { Pxl.initial with session := s.pxl.session }
    trx := keepTrx s.trx
    mgt := { keepPatches s.mgt with can := keepPort s.mgt.can, spi := keepPort s.mgt.spi }
    safe := { Safe.initial with mech := s.safe.mech.map (fun e => (e.1, keepMech e.2)), dark := s.safe.dark }
    pnl := { Pnl.initial with rails := s.pnl.rails, path := s.pnl.path, cutPath := s.pnl.cutPath }
    jrn := keepDevice s.jrn }

/-! ## Resets (R451 to R454) -/

/-- The code of a reset source (R451). -/
def ResetSrc.code : ResetSrc → Nat
  | .por => 1 | .pfail => 2 | .pin => 3 | .soft => 4 | .lockstep => 5

/-- A reset source is counted; RST_LAST takes the first of those that fall together (R454). -/
def countReset (src : ResetSrc) (s : State) : State :=
  let s1 := cnt (Ob.RST_CNT + (src.code - 2)) s
  { s1 with boot := { s1.boot with resetLogged := s1.boot.resetLogged ++ [src] } }

/-- A system reset is requested (R452): the lampblack path runs first. During a path the source merges into it, and
during the stretch it restarts the stretch (R454). A sleep entry ends without a rollback (R437). -/
def resetTrigger (src : ResetSrc) (s : State) : State :=
  let s1 := countReset src s
  if s1.boot.stage = .inReset then { s1 with boot := { s1.boot with stageAt := s1.now } }
  else
    let s2 := match s1.boot.pending with
      | some _ => s1
      | none => oset Ob.RST_LAST src.code { s1 with boot := { s1.boot with pending := some src } }
    let s3 := { s2 with pwr := { s2.pwr with entry := .idle, p3Off := false } }
    startPath (if src = .pfail then 1 else 0) s3

/-- PEN0 goes high and PGOOD is awaited. -/
def enableSupplies (s : State) : State :=
  { s with boot := { s.boot with stage := .waitPgood, stageAt := s.now, vdramOk := false, vlaneOk := false, viocdOk := false }
           pins := { s.pins with pen0 := true, pen1 := false, pen2 := false, pgood := false, padsCd18 := none } }

/-- The always-on die sleeps, or waits in a wake from P3, with VIO_AB possibly removed (R42). -/
def inDeep (s : State) : Bool :=
  decide (s.boot.stage = .asleep ∨ s.boot.stage = .wakeSlot ∨ s.boot.stage = .waitVioAb)

/-- The controller drives RST_N low (R453). -/
def driveReset (s : State) : State := { s with pins := { s.pins with rstDrive := true } }

/-- A die whose supplies are good is held in reset, for RST_STRETCH at least (R452). -/
def holdInReset (s : State) : State :=
  if s.boot.stage = .started ∨ s.boot.stage = .supplied then
    { s with boot := { s.boot with
      stage := .inReset, stageAt := s.now, stretch := 1000 * max 200 (oget s Ob.RST_STRETCH) } }
  else s

/-- The path is complete: the controller die enters reset (R452). From P3 the supplies must be enabled first (R442); a start
of the supplies that is under way, or has failed, stands where it is (R458). -/
def proceedReset (s : State) : State :=
  let s1 := driveReset (clearDie (holdInReset { s with boot := { s.boot with fromP3 := false } }))
  if inDeep s then
    enableSupplies { s1 with boot := { s1.boot with attempts := 0 } }
  else s1

/-- RST_N was held low from outside (R451, R453, R458): after a failed start it restarts the sequence; while the
controller drives the pin, it is no source. `lowUs` is the length in µs. -/
def execPinReset (t : Nat) (lowUs : Nat) (s : State) : Host.Outcome State Fault Refusal :=
  let s := s.at t
  let s1 := oset Ob.RST_EXTLOW (min lowUs 0xFFFFFFFF) s
  .next (if lowUs = 0 then s
    else if s.boot.stage = .failed then
      enableSupplies { s1 with boot := { s1.boot with attempts := 0 } }
    else if s.pins.rstDrive then s
    else resetTrigger .pin s1)

/-- The own rule of RST_SOFT (R451); its range admits 0x5A alone. -/
def ownRstSoft (_ : Nat) (s : State) : State × Nat := (resetTrigger .soft s, St.ok)

/-- RST_SOFT. -/
def execRstSoft (t : Nat) (h : Hdr) (v : BitVec 8) (s : State) : Host.Outcome State Fault Refusal :=
  .next (writeRow h Ob.RST_SOFT v.toNat ownRstSoft (s.at t))

/-- LOCKSTEP_RESET: 10 ms after the device-class reaction of an SM10 failure (R451). -/
def execLockstepReset (t : Nat) (s : State) : Host.Outcome State Fault Refusal :=
  let s := s.at t
  .next (match s.boot.lockstepAt with
    | some e =>
      if s.boot.stage = .started ∧ e ≤ s.now then
        resetTrigger .lockstep { s with boot := { s.boot with lockstepAt := none } }
      else s
    | none => s)

/-! ## Power-on reset and the site strap (R46 to R50) -/

/-- N lies within 24 codes of a bin boundary, 0 and 4,096 apart (R49). -/
def strapMargin (n : Nat) : Bool :=
  (decide (n % 256 ≤ 24) && decide (256 ≤ n)) || (decide (232 ≤ n % 256) && decide (n < 4096 - 24))

/-- The strap record of 8 conversions. -/
def readStrap (xs : List (BitVec 12)) (s : State) : State :=
  let vs := xs.map (·.toNat)
  let n := lowerMedian vs
  let margin := strapMargin n
  let s1 := oset Ob.RST_STRAP_CODE n (oset Ob.RST_STRAP_SITE (n / 256)
    (oset Ob.RST_STRAP_MARGIN (b2n margin) (oset Ob.RST_STRAP_SPREAD (span vs) s)))
  { s1 with boot := { s1.boot with strapWarn := margin || decide (16 < span vs) } }

/-- POWER_ON_RESET (R451, R455): everything is cleared but the journal device, the patch slots and the fuses; the
always-on die completes a lampblack path in progress (R320). -/
def execPowerOnReset (t : Nat) (retentionLost : Bool) (straps : List (BitVec 12)) (s : State) :
    Host.Outcome State Fault Refusal :=
  let s := s.at t
  let s1 : State := { State.reset with
    pending := s.pending, now := s.now, free := s.free
    obj := s.obj.filter (fun e => decide (e.1 = Ob.JRN_SEQ))
    boot := { Boot.initial with factoryKey := s.boot.factoryKey }
    pins := { Pins.initial with rstExt := s.pins.rstExt, wakeN := s.pins.wakeN }
    mgt := keepPatches s.mgt
    pnl := { Pnl.initial with path := s.pnl.path }
    jrn := keepDevice s.jrn }
  .next (readStrap straps (whenDo retentionLost (oset Ob.PWR_RETLOSS 2) s1))

/-! ## The power sequence (R37, R457, R458) -/

/-- FUSE_LOAD: the pins take their fuse-loaded states (R34 to R36), and the sequencer enables VCORE. -/
def execFuseLoad (t : Nat) (s : State) : Host.Outcome State Fault Refusal :=
  let s := s.at t
  .next (if s.boot.stage = .aonReset then enableSupplies { s with pins := { s.pins with fused := true, pdisWeak := false } } else s)

/-- PGOOD_RISE. -/
def execPgoodRise (t : Nat) (s : State) : Host.Outcome State Fault Refusal :=
  let s := s.at t
  let s1 := { s with pins := { s.pins with pgood := s.pins.pen0 } }
  .next (if s.boot.stage = .waitPgood then
      { s1 with boot := { s1.boot with stage := .waitPen1, stageAt := s1.now }, pins := { s1.pins with pen1 := true } }
    else s1)

/-- A supply whose PEN is high lies within its window. -/
def supplyOk (which : Supply) (p : Pins) (b : Boot) : Boot :=
  match which with
  | .vdram => { b with vdramOk := b.vdramOk || p.pen1 }
  | .vlane => { b with vlaneOk := b.vlaneOk || p.pen1 }
  | .viocd => { b with viocdOk := b.viocdOk || p.pen2 }

/-- SUPPLY_IN_WINDOW. -/
def execSupplyInWindow (t : Nat) (which : Supply) (s : State) : Host.Outcome State Fault Refusal :=
  let s := s.at t
  let s1 := { s with boot := supplyOk which s.pins s.boot }
  .next (if s1.boot.stage = .waitPen1 ∧ s1.boot.vdramOk ∧ s1.boot.vlaneOk then
      { s1 with boot := { s1.boot with stage := .waitPen2, stageAt := s1.now }, pins := { s1.pins with pen2 := true } }
    else if s1.boot.stage = .waitPen2 ∧ s1.boot.viocdOk then { s1 with boot := { s1.boot with stage := .supplied, attempts := 0 } }
    else s1)

/-- What PWR_BOOTFAIL records of a supply that misses its limit (R458). -/
def failCode (st : StartStage) : Nat := if st = .waitPgood then 1 else if st = .waitPen1 then 2 else 3

/-- SUPPLY_START_TIMEOUT: a supply is not good 5 ms after its enable (R458). Every PEN goes low; after three failed attempts the start has failed. -/
def execSupplyStartTimeout (t : Nat) (s : State) : Host.Outcome State Fault Refusal :=
  let s := s.at t
  let st := s.boot.stage
  .next (if (st = .waitPgood ∨ st = .waitPen1 ∨ st = .waitPen2) ∧ s.boot.stageAt + 5000000 ≤ s.now then
      let last := decide (3 ≤ s.boot.attempts + 1)
      let s1 := { s with boot := { s.boot with attempts := s.boot.attempts + 1, stage := if last then .failed else .retryWait, stageAt := s.now }
                         pins := { s.pins with pen0 := false, pen1 := false, pen2 := false, pgood := false, padsCd18 := none } }
      if last then oset Ob.PWR_BOOTFAIL (failCode st) s1 else s1
    else s)

/-- SUPPLY_RETRY_TIMER: 100 ms have passed (R458). -/
def execSupplyRetryTimer (t : Nat) (s : State) : Host.Outcome State Fault Refusal :=
  let s := s.at t
  .next (if s.boot.stage = .retryWait ∧ s.boot.stageAt + 100000000 ≤ s.now then enableSupplies s else s)

/-! ## The controller die leaves reset (R456, R457) -/

/-- The fuse fields other than the pin states (R4, R371, R446, R456). A field that fails its CRC gives what a blank one
gives, and the boot self-test fails. -/
def loadFuses (f : FuseRead) (s : State) : State :=
  let ok := f.customerOk && !f.blank
  let s1 := { s with boot := { s.boot with
    factoryOk := f.factoryOk, customerOk := f.customerOk, blank := !ok
    fuseBands := if ok then 2 ^ f.bands.val else 1
    factoryKey := match s.boot.factoryKey with
      | some k => some k
      | none => if ok then f.key else none } }
  let s2 := oset Ob.SCAN_BANDS s1.boot.fuseBands s1
  if ok then
    oset Ob.PMB_ADDR f.pmbAddr.toNat (oset Ob.PMB_CLK f.pmbClk.val (oset Ob.PMB_PEC (b2n f.pmbPec)
      (oset Ob.PMB_VEXP (0xFFF0 + f.pmbVexp.val) s2)))
  else s2

/-- BOOT begins (R33, R453, R457): RST_N is released; after a wake from P3 the management pads are (R40); the first VCORE
request is 850 mV (R450). Bands that are DARK stay so (R455). -/
def enterBoot (f : FuseRead) (testMode : Bool) (s : State) : State :=
  let s1 := loadFuses f { s with boot := { s.boot with stage := .started, op := .boot, testMode := testMode }
                                 pins := { s.pins with rstDrive := false } }
  let s2 := if s1.boot.fromP3 then releasePads [0] (oset Ob.PWR_PADREL_MGT 1 s1) else s1
  refreshBands (askVcore 850 (oset Ob.SAF_ROMID Config.romId.toNat s2))

/-- DIE_LEAVES_RESET. -/
def execDieLeavesReset (t : Nat) (fuses : FuseRead) (testMode : Bool) (s : State) : Host.Outcome State Fault Refusal :=
  let s := s.at t
  .next (if s.boot.stage = .supplied then enterBoot fuses testMode s else s)

/-- The supplies that the state knows are good, for a reset by PFAIL (R451, R452). -/
def suppliesGood (s : State) : Bool :=
  !s.boot.resetLogged.contains .pfail || (s.pins.pgood && s.boot.vdramOk && s.boot.vlaneOk && s.boot.viocdOk)

/-- RESET_STRETCH_END: the stretch and its holding conditions have ended, at least RST_STRETCH after the reset began; `extLowUs` is how long RST_N was held low from
outside meanwhile, 0 for not at all (R452, R453). -/
def execResetStretchEnd (t : Nat) (fuses : FuseRead) (extLowUs : Nat) (testMode : Bool) (s : State) :
    Host.Outcome State Fault Refusal :=
  let s := s.at t
  .next (if s.boot.stage = .inReset ∧ s.boot.stageAt + s.boot.stretch ≤ s.now ∧ suppliesGood s then
      enterBoot fuses testMode (if extLowUs = 0 then s else oset Ob.RST_EXTLOW (min extLowUs 0xFFFFFFFF) s)
    else s)

end Sys2Proof.Machine
end

