-- ==== Sys2Proof/Machine/BootEnd.lean ====
section
/-!
DEFINITION. The end of BOOT (R25, R31, R168, R305, R344, R372 to R374, R390, R409, R457, R472, R473, R488, R489): the journal
restore, the check of the patch, and the entry to SETUP or SAFE-DARK.
-/

namespace Sys2Proof.Machine

/-! ## Patches (R372 to R374) -/

/-- What fails in a patch image, as SAF_PATCH_STAT codes it, against the active VERSION and FLOOR; 0 for none (R373). -/
def patchErr (img : List Byte) (active : Option PatchSlot) : Nat :=
  let f (i : Nat) := ofBE ((img.drop i).take 4)
  if f 0 ≠ 0x52565054 ∨ img.length ≠ 128 + f 16 ∨ f 16 % 4 ≠ 0 ∨ 262144 < img.length then 7
  else if f 4 ≠ Config.romId.toNat then 5
  else if Config.patchSigned img = false then 4
  else match active with
    | some a => if f 8 < a.version ∨ f 8 < a.floor then 6 else 0
    | none => 0

/-- The slot that an image fills. -/
def slotOfImage (img : List Byte) : PatchSlot := .mk img (ofBE ((img.drop 8).take 4)) (ofBE ((img.drop 12).take 4))

/-- A marked activation: the loaded patch becomes the active one, and the present one the fallback (R374). -/
def activatePatch (m : Mgt) : Mgt :=
  if m.patchPend then
    { m with patchRun := m.patchFb, patchFb := m.patchRun, patchLoaded := false, patchPend := false, patchEver := true }
  else m

/-- The objects of the loaded patch. -/
def showPatch (s : State) : State :=
  match s.mgt.patchFb with
  | some p => if s.mgt.patchLoaded then oset Ob.SAF_PATCH_LDVER p.version (oset Ob.SAF_PATCH_STAT 1 s) else s
  | none => s

/-- The patch that runs is verified, or the fallback runs (R374). True when neither verifies and a patch had been active. -/
def bootPatch (ok : Bool) (s : State) : State × Bool :=
  let s1 := showPatch { s with mgt := activatePatch s.mgt }
  match s1.mgt.patchRun with
  | none => (s1, false)
  | some a =>
    if ok then (oset Ob.SAF_PATCH_ACTVER a.version s1, false)
    else match s1.mgt.patchFb with
      | some f =>
        if !s1.mgt.patchLoaded ∧ patchErr f.image none = 0 then
          let s2 := oset Ob.SAF_PATCH_ACTVER f.version (oset Ob.SAF_PATCH_STAT 3 s1)
          (logEv 0x0F 1 0 f.version s2, false)
        else (s1, s1.mgt.patchEver)
      | none => (s1, s1.mgt.patchEver)

/-! ## The journal device (R472, R473) -/

/-- The layout of a device of `n` MiB: the largest listed size that is not larger; 0 for none. -/
def norLayout (n : Nat) : Nat := if 512 ≤ n then 512 else if 256 ≤ n then 256 else if 128 ≤ n then 128 else 0

/-- The partitions of a layout and the largest panel it holds. -/
def showPartitions (n : Nat) (dtr : Bool) (s : State) : State :=
  let ps := 27 * (n - 8) / 100
  let ring := n - 8 - 2 * ps
  let big := min (32 * (ps * 2 ^ 20 - 2490368) / 135) (4 * (ring * 2 ^ 20 - 16777216) / 27)
  oset Ob.JRN_NORSIZE n (oset Ob.JRN_PSIZE ps (oset Ob.JRN_RSIZE ring (oset Ob.JRN_MAXPIX big
    (oset Ob.JRN_DTR (b2n dtr) (oset Ob.JRN_FACTLOCK (b2n s.jrn.nv.asBuilt.isSome) s)))))

/-- What the journal gives when no generation is valid: the factory's maps, when its partition is locked (R489). -/
def noGeneration (nv : Nv) : Nv :=
  { Nv.blank with asBuilt := nv.asBuilt, asGrids := nv.asGrids
                  dom := nv.asGrids.zipIdx.foldl (fun m g => put domDefault m (Ob.CMP_GRID + g.2) g.1) []
                  defect := match nv.asBuilt with
                    | some (_, d) => d
                    | none => []
                  demura := match nv.asBuilt with
                    | some (d, _) => d
                    | none => [] }

/-- The older generation with the records after the newer one's fold point; ledger pieces, DOSE records and the factory
partition are not part of a generation (R474, R484, R488). -/
def olderGeneration (j : Jrn) : Nv :=
  { j.older with pieces := j.nv.pieces, doses := j.nv.doses, ages := j.nv.ages, asBuilt := j.nv.asBuilt, asGrids := j.nv.asGrids }

/-- The generation that BOOT finds is the active one, with no older one known. -/
def tookGeneration (nv : Nv) (s : State) : State := { s with jrn := { s.jrn with nv := nv, base := nv, older := .blank } }

/-- The generation that BOOT finds (R488, R489): 0 the newest, 1 the older one, 2 none. A device found blank is formatted. -/
def findGeneration (r : BootReport) (s : State) : State :=
  if r.jrnBlank then
    tookGeneration .blank { s with jrn := { s.jrn with used := 0, total := 0, erased := s.jrn.erased + 1, retired := [] } }
  else if r.jrnFault = 2 then tookGeneration (noGeneration s.jrn.nv) s
  else if r.jrnFault = 1 then tookGeneration (olderGeneration s.jrn) s
  else s

/-! ## What the restore brings back (R488) -/

/-- Journaled objects and DOMs, and the active region table. SAF_LAST is restored at power-on reset alone (R455). -/
def restoreObjects (por : Bool) (s : State) : State :=
  let nv := s.jrn.nv
  let mine (k : Nat) : Bool := por || !(decide (k = Ob.SAF_LAST_SM) || decide (k = Ob.SAF_LAST_EPOCH))
  let s1 := each (nv.obj.filter (fun e => mine e.1)) (fun e => oset e.1 e.2) s
  { s1 with mgt := { s1.mgt with canCfg := within s1.obj Ob.WNP_CANEN (Ob.WNP_CANEN + 8) }
            dom := nv.dom, scan := { s1.scan with regAct := nv.regions, tableAct := nv.dom } }

/-- The event log (R390). -/
def restoreLog (s : State) : State :=
  match look s.jrn.nv.logs 0 with
  | some [last, total] =>
    let es := (s.jrn.nv.logs.filter (fun e => decide (e.1 ≠ 0))).map (fun e =>
      let w := e.2.getD 0 0
      (e.1, EvEntry.mk (field w 48 16) (field w 44 4) (field w 36 8) (field w 32 4) (field w 0 32) (e.2.getD 1 0)))
    { s with evlog := { EvLog.initial with
      entries := es, next := last % 64 + 1, total := total
      seq := match look es last with
        | some e => e.seq
        | none => 0 } }
  | _ => s

/-- Without a grid in the journal, set 0 gives a gain of 1 everywhere and is the only one in use (R186). -/
def fillGrid (s : State) : State :=
  if (List.range 8).any (fun i => !(dget s (Ob.CMP_GRID + i)).isEmpty) then s
  else oset Ob.CMP_NSETS 1 (memRun (gridAt 0 0) (List.replicate 49368 (toBE 2 16384)).flatten s)

/-- The defect and spare map and the correction grids (R159, R186, R488). -/
def restoreMaps (s : State) : State := fillGrid <|
  each (List.range 8) (fun i st => memRun (gridAt i 0) (dget st (Ob.CMP_GRID + i)) st) (restoreDefect s)

/-- One DRAM row record (R168). -/
def applyRow (e : Nat × Nat × Nat) (s : State) : State :=
  let (row, action, target) := e
  if action = 1 ∨ action = 2 then
    let s1 := { s with fst := { s.fst with spared := s.fst.spared ++ [(action - 1, row)] } }
    oset (Ob.FST_SPARE_DIE0 + (action - 1)) (s1.fst.spared.filter (fun p => decide (p.1 = action - 1))).length s1
  else if action = 3 then
    oset Ob.FST_RELOC (s.fst.reloc.length + 1) { s with fst := { s.fst with reloc := s.fst.reloc ++ [row] } }
  else
    let s1 := retireRow row s
    let m := s1.safe.unusable ||| target
    oset Ob.FST_DARKBANDS m { s1 with scan := { s1.scan with plates := [] }, safe := { s1.safe with unusable := m } }

/-- The calibration state that the marker shows (R344, R346). -/
def restoreCal (s : State) : State :=
  match s.jrn.nv.mark with
  | none => s
  | some m =>
    let g (i : Nat) := m.getD i 0
    let bands : SMap CalBand := [0, 1, 2, 3].foldl (fun a b =>
      put (fun _ => CalBand.initial) a b { CalBand.initial with total := g (7 + b), done := g (3 + b) }) []
    let all := [0, 1, 2, 3].all (fun b => decide (g (3 + b) = g (7 + b)))
    let s1 := oset Ob.CAL_RUNID (g 0) (oset Ob.CAL_PARCRC (g 1) { s with cal := { s.cal with
      s := g 2, bands := bands, staging := s.jrn.nv.staging, state := if all then .complete else .abandoned } })
    if all then s1 else pendEvt 7 (logEv 0x10 0 0 0x0201 (oset Ob.CAL_CAUSE 1 s1))

/-- The generations of tags and groups, in the first BOOT after P3 (R99, R455, R488). -/
def restoreGens (s : State) : State :=
  each s.jrn.nv.gens (fun e st =>
    if e.1 < 8192 then setTag e.1 { Tag.none with gen := e.2, lastGen := e.2 } st
    else setGroup (e.1 - 8192) { Group.none with gen := e.2 } st) s

/-- The settings image of the retention area, after a wake from P3 (R31, R444, R445). -/
def restoreImage (lost : Bool) (s : State) : State :=
  if s.pwr.retImageOk ∧ !lost then each s.pwr.retImage (fun e => oset e.1 e.2) s else oset Ob.PWR_RETLOSS 1 s

/-- The raster objects in force: the journaled set when it meets R203, the defaults otherwise (R206). -/
def startRaster (s : State) : State :=
  { s with scan := { s.scan with inForce := if scanCfgErr s = 0 then rasterOf s else [] } }

/-- The CRC that SM15 compares with (R305, R306). -/
def startSeal (s : State) : State :=
  let c := if oflag s Ob.SAF_SEALED then oget s Ob.SAF_SEALCRC else recordCrc s
  { s with safe := { s.safe with sealCrc := c } }

/-- The faults that the restore finds (R489, R490). Which record is torn, the command does not tell: a free value. -/
def restoreFaults (r : BootReport) (s : State) : State :=
  if !s.jrn.present then jrnFault 1 0 s
  else
    let s1 := if r.jrnBlank then s
      else if r.jrnFault = 1 then jrnFault 4 s.jrn.nv.gen s
      else if r.jrnFault = 2 then jrnFault 5 0 s
      else s
    let s2 := if r.torn ∧ !r.jrnBlank then jrnFault 9 (freeOf s1 % 2 ^ 24) (tookFree s1) else s1
    if panelTooLarge s2 then jrnFault 2 (oget s2 Ob.SCAN_WIDTH * oget s2 Ob.SCAN_HEIGHT / 256) s2 else s2

/-- The restore of R488 up to its fifth step. -/
def restoreJournal (por : Bool) (r : BootReport) (s : State) : State :=
  let n := norLayout r.jrnDev
  if n = 0 then
    restoreFaults r (startSeal (startRaster (fillGrid { s with jrn := { s.jrn with present := false, mapsDone := true } })))
  else
    let s1 := findGeneration r { s with jrn := { s.jrn with present := true } }
    let s2 := restoreLog (restoreObjects por (showPartitions n r.jrnDtr s1))
    let nv := s2.jrn.nv
    let s3 := oset Ob.JRN_GEN nv.gen (oset Ob.JRN_DEMPTR nv.demPtr { s2 with
      gyl := { s2.gyl with gen := nv.gylGen, vec := nv.gylVec } })
    let s4 := each nv.dramRows applyRow (startSeal (startRaster s3))
    let s5 := restoreCal (restoreMaps s4)
    restoreFaults r (showRing (if s5.boot.gensLost then restoreGens s5 else s5))

/-! ## The end of BOOT (R25, R38, R40, R457) -/

/-- The counters of starts, and the entries that the boot writes (R49, R391, R478). -/
def bootEntries (por : Bool) (s : State) : State :=
  let s1 := cnt Ob.DEV_BOOTCNT (if por then cnt Ob.RST_CNT_POR s else s)
  let s2 := each s1.boot.resetLogged (fun r => logEv 0x02 0 0 r.code) { s1 with boot := { s1.boot with resetLogged := [] } }
  let code := oget s2 Ob.RST_STRAP_CODE
  let spread := min (oget s2 Ob.RST_STRAP_SPREAD) 4095
  let s3 := if s2.boot.strapWarn then
      logEv 0x08 1 0 (oget s2 Ob.RST_STRAP_MARGIN * 2 ^ 31 + spread * 2 ^ 16 + code) { s2 with boot := { s2.boot with strapWarn := false } }
    else s2
  jrnStatus (logEv 0x01 0 0 (oget s3 Ob.DEV_BOOTCNT) s3)

/-- BOOT ends in SETUP: VCORE no lower than the floor (R22), FAULT_N high, the latched pads released, the links train, the reserve is tested and the automatic
request is held (R38, R40, R65, R254, R311, R322). -/
def bootSetup (s : State) : State :=
  let s2 := padsAtSetup (changeOp .setup { s with pins := { s.pins with faultN := true } })
  let auto := oflag s2 Ob.PNL_AUTORAIL && !s2.boot.blank
  raiseToFloor { s2 with pnl := { s2.pnl with vresTest := true, vresV := oget s2 Ob.PNL_VRES_MV, auto := if auto then usedMask s2 else 0 } }

/-- The wall-wide wake by a master that has itself woken from P3 (R425). -/
def bootWake (s : State) : State :=
  if s.boot.fromP3 ∧ oflag s Ob.GYL_WAKEAUTO ∧ oget s Ob.GYL_ROLE = 1 then startPhrase s else s

/-- BOOT_END. The journal restore and the entries are made whichever way BOOT ends. In the factory test mode BOOT does not end
(R33). -/
def execBootEnd (t : Nat) (r : BootReport) (s : State) : Host.Outcome State Fault Refusal :=
  let s := s.at t
  .next (if s.boot.stage ≠ .started ∨ s.boot.op ≠ .boot ∨ s.boot.testMode then s
    else
      let por := s.boot.resetLogged.contains .por
      let s1 := restoreJournal por r { s with pins := { s.pins with pen3 := true } }
      let (s2, dead) := bootPatch r.patchOk s1
      let s3 := cntBy Ob.PWR_RETCORR r.retCorr (if s2.boot.fromP3 then restoreImage r.retLost s2 else s2)
      let s4 := bootEntries por { s3 with boot := { s3.boot with upSince := s3.now }, fst := { s3.fst with passFrom := s3.now } }
      let bad := !r.selfTest || !s4.boot.factoryOk || !s4.boot.customerOk || dead || s4.boot.unfit || deviceCause s4
      let s5 := gylStart (if bad then releasePads [2] (oset Ob.PWR_PADREL_AON 1 (pendEvt 1 (changeOp .safeDark s4))) else bootSetup s4)
      let s6 := wakesDone (if bad then s5 else bootWake s5)
      refreshBands { s6 with boot := { s6.boot with fromP3 := false, unfit := false, gensLost := false }
                             pwr := { s6.pwr with retImage := [], retImageOk := false } })

end Sys2Proof.Machine
end

