-- ==== Sys2Proof/Machine/BackTx.lean ====
section
/-!
DEFINITION. The back packets (R93 to R97): their order, their headers and their way onto the back lanes.
-/

namespace Sys2Proof.Machine

/-- TYPE of a back packet (R87) and its place in the priority order of R97. -/
def BackType.code : BackType → Nat
  | .linkstate => 0xC | .digest => 0xB | .nak => 0x9 | .ack => 0x8 | .seen => 0xA | .event => 0xD
def BackType.rank : BackType → Nat
  | .linkstate => 0 | .digest => 1 | .nak => 2 | .ack => 3 | .seen => 4 | .event => 5

/-- An answer to a transaction or a group. -/
def BackPkt.answer (p : BackPkt) : Bool := decide (p.type = .nak) || decide (p.type = .ack) || decide (p.type = .seen)

/-- `q`, which became ready earlier, has to be sent before `p` (R97): the answers of one tag keep their order, and a group's
answer follows those of its members. -/
def BackPkt.before (q p : BackPkt) : Bool :=
  q.answer && p.answer && decide (q.kind = 0) &&
  ((decide (p.kind = 0) && decide (q.tag = p.tag)) || (decide (p.kind = 1) && decide (q.group = p.group ∧ q.hi = 0 ∧ q.type ≠ .seen)))

/-- The packets that may be sent next, with their places: none ready before them has to go first. -/
def sendable : List BackPkt → List BackPkt → List BackPkt
  | _, [] => []
  | seen, p :: r => if seen.any (fun q => q.before p) then sendable (seen ++ [p]) r else p :: sendable (seen ++ [p]) r

/-- The packet sent next: DIGEST while it is due first, else the highest priority, oldest first. -/
def nextBack (s : State) : Option BackPkt :=
  let ps := sendable [] s.trx.back
  if s.pxl.digestDue then ps.find? (fun p => decide (p.type = .digest))
  else (List.range 6).findSome? (fun r => ps.find? (fun p => decide (p.type.rank = r)))

/-- The four header words of a back packet (R93). -/
def backHeader (p : BackPkt) (bseq : Nat) : List (BitVec 32) :=
  let top := if p.type = .linkstate ∨ p.type = .event then p.hi
    else p.gen * 2 ^ 25 + p.tag * 2 ^ 12 + p.group * 2 ^ 6 + p.kind * 2 ^ 5
  let n := (p.type.code * 2 ^ 28 + top) * 2 ^ 80 + p.w1 * 2 ^ 48 + p.w2 * 2 ^ 16 + bseq
  slotWords 4 (n * 2 ^ 16 + crc16 (toBE 14 n))

/-- The back lanes carry packets. -/
def backUp (s : State) : Bool := inSession s && decide (s.pxl.bmask ≠ 0) && !s.pxl.backAsleep && !(s.pxl.prbs && decide (s.pxl.prbsDir ≠ 0))

/-- A back packet leaves with the next BSEQ, and its words go onto the back lanes (R60, R61, R95). -/
def sendBack (p : BackPkt) (s : State) : State :=
  let n := s.trx.bseq
  let h := backHeader p n
  let s1 := modPxl (fun x => if p.type = .digest then { x with digestDue := false } else x) s
  sendStream [h ++ p.payload] { s1 with trx := { s1.trx with
    back := s1.trx.back.erase p, bseq := (n + 1) % 65536, lastSent := some (n, p), sentHead := h } }

/-- The next ready back packet leaves, if the back lanes carry packets. -/
def sendNext (s : State) : State :=
  if !backUp s then s
  else match nextBack s with
    | none => s
    | some p => sendBack p s

/-- A LINKSTATE that has to precede what follows is sent at once, with the packets due before it (R77, R79). -/
def flushLinkstate : Nat → State → State
  | 0, s => s
  | n + 1, s => if s.trx.back.any (fun p => decide (p.type = .linkstate)) then flushLinkstate n (sendNext s) else s

end Sys2Proof.Machine
end

