-- ==== Sys2Proof/Machine/Panel.lean ====
section
/-!
DEFINITION. Panel power (chapter 12): the band rail sets, the lampblack path, the reserve capacitor and the crack loops.
-/

namespace Sys2Proof.Machine

/-! ## Power-up (R310 to R313) -/

/-- The link of a band is READY or RUN. -/
def linkReady (s : State) (b : Nat) : Bool := decide ((dlkOf s b).state = .ready) || decide ((dlkOf s b).state = .run)

/-- The first condition of R311 that a power-up of band `b` fails, or 0. VRES below its minimum counts with condition 3
(R321, log entry 52). -/
def railErr (s : State) (b : Nat) : Nat :=
  if s.boot.op ≠ .setup then 1
  else if !s.pins.pen3 ∨ !linkReady s b then 2
  else if oget s Ob.PNL_VRESSTAT ≠ 1 ∨ oget s Ob.PNL_VRES_MV < oget s Ob.PNL_VRESMIN then 3
  else if (loopOf s 0).passes < 2 ∨ (loopOf s 1).passes < 2 then 4
  else if s.pnl.path.isSome ∨ (look s.pnl.cutPath b).isSome then 5
  else 0

/-- A band's stagger slot has arrived: OPENING, PDISa low (R310, R312). A band that still falls waits; outside SETUP, or
without PEN3, the request is over. -/
def openBand (b : Nat) (s : State) : State :=
  let r := railOf s b
  if s.boot.op ≠ .setup ∨ !s.pins.pen3 then setRail b { r with due := false } s
  else if r.due ∧ r.at_ ≤ s.now ∧ (r.state = .off ∨ r.state = .cut) then
    setRailPads b false false (setRail b { r with
      state := .opening, due := false, at_ := s.now + 1000 * oget s Ob.PNL_TPDOFF } s)
  else s

/-- A request for a list of bands is accepted: the first enters OPENING at once, the others at their slots (R312). -/
def acceptBands (bs : List Nat) (s : State) : State :=
  let s1 := each bs.zipIdx (fun e st =>
    let r := railOf st e.1
    let slot := s.now + e.2 * oget s Ob.PNL_SLOT * 1000000
    setRail e.1 { r with due := true, at_ := if r.state = .falling then r.at_ else slot } st) s
  match bs with
  | b :: _ => openBand b s1
  | [] => s1

/-- The own rule of PNL_RAILREQ (R311, R314): bits set are requested on, bits cleared go down in order. -/
def ownRailReq (v : Nat) (s : State) : State × Nat :=
  let ups := [0, 1, 2, 3].filter (fun b => bit v b && !railUp s b)
  if ups.isEmpty ∧ s.boot.op ≠ .setup then (s, St.state)
  else match ups.find? (fun b => decide (railErr s b ≠ 0)) with
    | some b => (oset Ob.PNL_RAILERR (railErr s b) s, St.refused)
    | none =>
      let s1 := railDown (15 - v % 16) (oset Ob.PNL_RAILREQ v s)
      (acceptBands ups s1, St.ok)

/-- RAIL_POWER_UP_REQ: the bits given are set in PNL_RAILREQ. -/
def execRailPowerUpReq (t : Nat) (h : Hdr) (bands : BitVec 4) (s : State) : Host.Outcome State Fault Refusal :=
  .next (writeRow h Ob.PNL_RAILREQ (oget s Ob.PNL_RAILREQ ||| bands.toNat) ownRailReq (s.at t))

/-- RAIL_DOWN_REQ: the bits given are cleared in PNL_RAILREQ. -/
def execRailDownReq (t : Nat) (h : Hdr) (bands : BitVec 4) (s : State) : Host.Outcome State Fault Refusal :=
  .next (writeRow h Ob.PNL_RAILREQ (oget s Ob.PNL_RAILREQ &&& (15 - bands.toNat)) ownRailReq (s.at t))

/-- The automatic request is due: every used band's link is READY or FAILED (R311). -/
def autoDue (s : State) : Bool :=
  (usedBands s).all (fun b => linkReady s b || decide ((dlkOf s b).state = .failed))

/-- The bands whose automatic request is made now: those held, and those refused for their link whenever it has become READY. -/
def autoBands (s : State) : List Nat :=
  (usedBands s).filter (fun b =>
    (bit s.pnl.auto b && autoDue s) || (bit s.pnl.auto (b + 4) && !bit s.pnl.auto (b + 8) && linkReady s b))

/-- A request made for a band ends the hold; one that fails for its link is made again each time the link becomes READY. -/
def autoMade (b e auto : Nat) : Nat :=
  let a := clearBit auto b
  if e = 2 then clearBit (setBit a (b + 4)) (b + 8) else setBit a (b + 8)

/-- AUTORAIL_REQUEST: band by band, a failed condition refuses the band (R311). -/
def execAutorailRequest (t : Nat) (s : State) : Host.Outcome State Fault Refusal :=
  let s := s.at t
  let bs := autoBands s
  let ok := bs.filter (fun b => decide (railErr s b = 0) && !railUp s b)
  let s1 := each bs (fun b st =>
    let e := railErr s b
    let st1 := { st with pnl := { st.pnl with auto := autoMade b e st.pnl.auto } }
    if e = 0 then oset Ob.PNL_RAILREQ (setBit (oget st1 Ob.PNL_RAILREQ) b) st1 else oset Ob.PNL_RAILERR e st1) s
  .next (if s.boot.op = .setup then acceptBands ok s1 else s)

/-- BAND_STAGGER_TIMER. -/
def execBandStaggerTimer (t : Nat) (band : Fin 4) (s : State) : Host.Outcome State Fault Refusal :=
  let s := s.at t
  .next (openBand band.val s)

/-- TPDOFF_EXPIRY: OPENING to RISING, PVENa high. -/
def execTpdoffExpiry (t : Nat) (band : Fin 4) (s : State) : Host.Outcome State Fault Refusal :=
  let s := s.at t
  let b := band.val
  let r := railOf s b
  .next (if r.state = .opening ∧ r.fallDue.isNone ∧ r.at_ ≤ s.now then
      setRailPads b true false (setRail b { r with state := .rising, at_ := s.now + 1000 * oget s Ob.PNL_TRISE } s)
    else s)

/-- TRISE_EXPIRY: RISING to ON; the rows with a selected spare are queued (R268), and a cut is over. -/
def execTriseExpiry (t : Nat) (band : Fin 4) (s : State) : Host.Outcome State Fault Refusal :=
  let s := s.at t
  let b := band.val
  let r := railOf s b
  .next (if r.state = .rising ∧ r.fallDue.isNone ∧ r.at_ ≤ s.now then
      let s1 := setRail b { r with state := .on, powerups := satInc 0xFFFF r.powerups } s
      queueSelected b (evc 0xCC (oset Ob.SAF_CUTBANDS (clearBit (oget s1 Ob.SAF_CUTBANDS) b) s1))
    else s)

/-! ## Rail-down and the lampblack path (R314 to R320) -/

/-- A step of a band's fall takes effect once its time has come. -/
def whenTime (b : Nat) (f : State → State) (s : State) : State := if (railOf s b).at_ ≤ s.now then f s else s

/-- DISCHARGE_DELAY_EXPIRY: the discharge delay of the sequence in force has elapsed. -/
def execDischargeDelayExpiry (t : Nat) (band : Fin 4) (s : State) : Host.Outcome State Fault Refusal :=
  let s := s.at t
  .next (whenTime band.val (discharged band.val) s)

/-- LAMPBLACK_PDIS_TIMER: the next step of a band's fall: PVENa low in a timed sequence, then PDISa high (R316, R318). -/
def execLampblackPdisTimer (t : Nat) (band : Fin 4) (s : State) : Host.Outcome State Fault Refusal :=
  let s := s.at t
  let b := band.val
  .next (whenTime b (if (railOf s b).fallDue.isSome then fallStep b else discharged b) s)

/-- The duration of a path in µs, as PNL_LB_DUR holds it. -/
def pathTook (p : LbPath) (s : State) : State := oset Ob.PNL_LB_DUR (min ((s.now - p.from_) / 1000) 0xFFFF) s

/-- The driver links of bands whose path is over are released at the next frame start: black lines flow again (R242, R311). -/
def releaseLinks (bs : List Nat) (s : State) : State := each bs releaseLink s

/-- A path is complete when the last PDISa has risen, and not before 1.0 ms (R316, R318). -/
def pathOver (s : State) (p : LbPath) : Bool :=
  decide (p.from_ + 1000000 ≤ s.now) && ((List.range 4).filter (bit p.bands)).all (fun b => decide (fallEnd s b ≤ s.now))

/-- LAMPBLACK_COMPLETE: every band of the path is discharged, and a pending reset proceeds (R316, R320, R452). -/
def execLampblackComplete (t : Nat) (s : State) : Host.Outcome State Fault Refusal :=
  let s := s.at t
  .next (match s.pnl.path with
    | some p =>
      if !pathOver s p then s
      else
      let s1 := each [0, 1, 2, 3] fallDone (pathTook p { s with pnl := { s.pnl with path := none } })
      if s1.boot.pending.isSome then proceedReset s1 else releaseLinks (usedBands s1) s1
    | none => match s.pnl.cutPath.find? (fun e => pathOver s e.2) with
      | some (b, p) => releaseLinks [b] (fallDone b (pathTook p { s with pnl := { s.pnl with cutPath := del s.pnl.cutPath b } }))
      | none => s)

/-- A comparator watches its supply in this state (R315): VIO_CD while PEN2 is high, PGOOD while PEN0 is high; while the supplies
start, each once it has come up (R458). -/
def watched (s : State) (src : PfailSrc) : Bool :=
  let up := decide (s.boot.stage = .started ∨ s.boot.stage = .inReset)
  match src with
  | .vaon => true
  | .vioAb => !inDeep s
  | .vcore => up || (s.pins.pen0 && s.pins.pgood)
  | .pgood => s.pins.pen0 && (up || s.pins.pgood)
  | .vdram => up || (s.pins.pen1 && s.boot.vdramOk)
  | .vlane => up || (s.pins.pen1 && s.boot.vlaneOk)
  | .vioCd => s.pins.pen2 && (up || s.boot.viocdOk)

/-- PFAIL_TRIGGER: the path on every band, a device-class reaction recorded as SM12, then a power-fail reset. -/
def execPfailTrigger (t : Nat) (source : PfailSrc) (s : State) : Host.Outcome State Fault Refusal :=
  let s := s.at t
  .next (if !watched s source then s
    else
      let s1 := if s.boot.pending = some .pfail ∨ (mechOf s 12).active then s else deviceReaction 12 false false (failure 12 s)
      resetTrigger .pfail { s1 with
        pins := { s1.pins with pgood := s1.pins.pgood && decide (source ≠ .pgood) }
        boot := { s1.boot with vdramOk := s1.boot.vdramOk && decide (source ≠ .vdram)
                               vlaneOk := s1.boot.vlaneOk && decide (source ≠ .vlane)
                               viocdOk := s1.boot.viocdOk && decide (source ≠ .vioCd) } })

/-- VRES_SUPPLY_SWITCH (R319). -/
def execVresSupplySwitch (t : Nat) (s : State) : Host.Outcome State Fault Refusal :=
  let s := s.at t
  .next { s with pins := { s.pins with vresOnly := true } }

/-- VRES_SUPPLY_END: PDISa reverts to its weak pull-ups, which keep the discharge switches on (R319). -/
def execVresSupplyEnd (t : Nat) (s : State) : Host.Outcome State Fault Refusal :=
  let s := s.at t
  .next (if s.pins.vresOnly then each [0, 1, 2, 3] fallDone { s with pins := { s.pins with pdisWeak := true } } else s)

/-- A write that would let a timed sequence exceed 4,000 µs is refused (R318). -/
def ownTimed (k v : Nat) (s : State) : State × Nat :=
  let s1 := oset k v s
  if oget s1 Ob.PNL_TPV + 3 * oget s1 Ob.PNL_TSTAG + oget s1 Ob.PNL_TPD ≤ 4000 then (plainWrite k v s, St.ok) else (s, St.refused)

/-! ## The reserve capacitor (R321, R322) -/

/-- The own rule of PNL_VRESTEST. -/
def ownVresTest (v : Nat) (s : State) : State × Nat :=
  if v = 0 then (s, St.ok)
  else if s.boot.op ≠ .setup then (s, St.state)
  else if [0, 1, 2, 3].any (fun b => decide ((railOf s b).state ≠ .off) && decide ((railOf s b).state ≠ .cut)) then
    (oset Ob.PNL_VRESSTAT 4 s, St.refused)
  else ({ s with pnl := { s.pnl with vresTest := true, vresV := oget s Ob.PNL_VRES_MV } }, St.ok)

/-- PNL_VRESTEST. -/
def execPnlVrestest (t : Nat) (h : Hdr) (v : BitVec 8) (s : State) : Host.Outcome State Fault Refusal :=
  .next (writeRow h Ob.PNL_VRESTEST v.toNat ownVresTest (s.at t))

/-- A value in µF that its object can show, or a free value where the rule states none that fits (log entry 53). -/
def showMicro (k : Nat) (v : Option Nat) (s : State) : State :=
  match v with
  | some c => if c < 0xFFFF then oset k c s else oset k (freeOf s % 2 ^ 16) (tookFree s)
  | none => oset k (freeOf s % 2 ^ 16) (tookFree s)

/-- VRES_TEST_DONE: C = 100 µC / ΔV against 1.2 × C_need, compared exactly (R322). -/
def execVresTestDone (t : Nat) (dropMv : Nat) (s : State) : Host.Outcome State Fault Refusal :=
  let s := s.at t
  let v := s.pnl.vresV
  .next (if !s.pnl.vresTest then s
    else
      let s1 := showMicro Ob.PNL_VRESCAP (if dropMv = 0 then none else some (100000 / dropMv))
        { s with pnl := { s.pnl with vresTest := false } }
      let s2 := showMicro Ob.PNL_VRESNEED (if v ≤ 5000 then none else some (15 * 10 ^ 9 / (v * v - 25 * 10 ^ 6))) s1
      let enough := decide (12 * 15 * 10 ^ 9 * dropMv ≤ 1000000 * (v * v - 25 * 10 ^ 6))
      oset Ob.PNL_VRESSTAT (if 5000 < v ∧ !enough then 2 else if v < oget s Ob.PNL_VRESMIN then 3 else 1) s2)

/-! ## The crack loops (R323 to R327) -/

/-- The panel temperature in 0.125 °C: the mean of the valid thermistors, or 25 °C (R325). -/
def crackTemp (s : State) : Int :=
  let v := validTherms s
  if v.isEmpty then 200 else v.foldl (· + ·) 0 / (v.length : Int)

/-- 8,000,000 × (1 + α × (T − 25 °C)). -/
def crackScale (s : State) : Int := 8000000 + toSigned 16 (oget s Ob.PNL_CRKTC) * (crackTemp s - 200)

/-- The resistance of step 1 in 0.1 Ω, from codes of 0.5 mV; V1 above 1.6 V reads open (R324, R333). -/
def crackOhms (v1 v2 : Nat) : Nat := if 3200 < v1 then 0xFFFFFFFF else 25 * (v1 - v2)

/-- The first cause that a loop's absolute limits fail (R325), or 0. -/
def crackAbs (r v1 : Nat) : Nat :=
  if r = 0xFFFFFFFF then 5 else if v1 < 2000 then 3 else if 50000 < r then 1 else if r < 200 then 2 else 0

/-- The first cause of R325 that a measurement fails, or 0. -/
def crackCause (s : State) (n r v1 : Nat) : Nat :=
  let base : Int := oget s (Ob.PNL_CRKBASE + n)
  let rel : Int := oget s Ob.PNL_CRKREL
  let a := crackAbs r v1
  let x : Int := (r : Int) * 800000000
  if a = 5 ∨ a = 3 ∨ a = 1 then a
  else if base ≠ 0 ∧ base * crackScale s * (100 + rel) < x then 1
  else if a = 2 then 2
  else if base ≠ 0 ∧ x < base * crackScale s * (100 - rel) then 2
  else 0

/-- A check of a loop that learns its baseline: after 8 good checks the mean is stored (R326). -/
def crackLearn (n r abs : Nat) (s : State) : State :=
  let l := loopOf s n
  if l.learn = 0 then s
  else
    let d := crackScale s
    let ok := decide (abs = 0) && decide (0 < d)
    let sum := if ok then (l.sum.1 * d.toNat + r * 8000000 * l.sum.2, l.sum.2 * d.toNat) else l.sum
    let bad := l.bad || !ok
    let s1 := setLoop n { l with learn := l.learn - 1, sum := sum, bad := bad } s
    if l.learn = 1 ∧ !bad ∧ !oflag s Ob.SAF_SEALED then plainWrite (Ob.PNL_CRKBASE + n) (sum.1 / (8 * sum.2) % 2 ^ 32) s1 else s1

/-- The cause of a loop's last measurement in PNL_CRKSTAT. -/
def showCrack (n cause : Nat) (s : State) : State :=
  let o := oget s Ob.PNL_CRKSTAT
  oset Ob.PNL_CRKSTAT (if n = 0 then o / 16 * 16 + cause else 16 * cause + o % 16) s

/-- A loop's measurement ends with a cause (R327): the second failing one in a row is SM13, with the CRACK path. -/
def crackJudge (n cause : Nat) (s : State) : State :=
  let l := loopOf s n
  let s1 := showCrack n cause (setLoop n { l with
    fails := if cause = 0 then 0 else l.fails + 1, passes := if cause = 0 then min 2 (l.passes + 1) else 0 } s)
  let s2 := if cause = 0 then s1 else evc 0xC8 s1
  let s3 := if cause ≠ 0 ∧ l.fails = 1 then startPath 2 (deviceReaction 13 true false (failure 13 s2)) else s2
  setMech 13 { mechOf s3 13 with active := (mechOf s3 13).active && crackBad s3 } s3

/-- The checks run (R324): from the end of fuse load, not in P3. -/
def crackRuns (s : State) : Bool := adcOn s && decide (s.boot.stage ≠ .waitVioAb)

/-- CRACK_CHECK_TIMER. -/
def execCrackCheckTimer (t : Nat) (s : State) : Host.Outcome State Fault Refusal :=
  let s := s.at t
  .next (if crackRuns s then { s with pnl := { s.pnl with checkOn := true, loop := 0, step2 := false } } else s)

/-- The conversions of a step for PNL are kept as those of inputs 4 to 7 (R324, R332): both pins of loop `n` in step 1, the sourcing
pin in step 2. -/
def crackConvs (n v1 v2 : Nat) (s : State) : State :=
  let s1 := noteConv (4 + 2 * n) v1 true s
  if s.pnl.step2 then s1 else noteConv (5 + 2 * n) v2 true s1

/-- CRACK_STEP_DONE: the resistance step, then the leakage step, of loop A and then of loop B. -/
def execCrackStepDone (t : Nat) (v1 v2 : BitVec 12) (s : State) : Host.Outcome State Fault Refusal :=
  let s := s.at t
  let n := s.pnl.loop
  let s := whenDo s.pnl.checkOn (crackConvs n v1.toNat v2.toNat) s
  .next (if !s.pnl.checkOn then s
    else if !s.pnl.step2 then
      let r := crackOhms v1.toNat v2.toNat
      oset (Ob.PNL_CRKR + n) r { s with pnl := { s.pnl with r1 := r, step2 := true } }
    else
      let r := s.pnl.r1
      let s1 := crackJudge n (crackCause s n r v1.toNat) (crackLearn n r (crackAbs r v1.toNat) s)
      if n = 0 then { s1 with pnl := { s1.pnl with loop := 1, step2 := false } }
      else evc 0xC7 { s1 with pnl := { s1.pnl with checkOn := false, step2 := false } })

/-- CRACK_CHECK_LATE: the loops that the check has not finished fail with cause 4. -/
def execCrackCheckLate (t : Nat) (s : State) : Host.Outcome State Fault Refusal :=
  let s := s.at t
  .next (if !s.pnl.checkOn then s
    else
      let s1 := { s with pnl := { s.pnl with checkOn := false, step2 := false } }
      evc 0xC7 (each ((List.range 2).drop s.pnl.loop) (fun n st => crackJudge n 4 (crackLearn n 0 4 st)) s1))

/-- The own rule of PNL_CRKLEARN (R326). -/
def ownCrkLearn (v : Nat) (s : State) : State × Nat :=
  if s.boot.op ≠ .setup then (s, St.state)
  else if oflag s Ob.SAF_SEALED then (s, St.locked)
  else (each ([0, 1].filter (bit v)) (fun n st => setLoop n { loopOf st n with learn := 8, sum := (0, 1), bad := false } st) s, St.ok)

/-- PNL_CRKLEARN. -/
def execPnlCrklearn (t : Nat) (h : Hdr) (v : BitVec 8) (s : State) : Host.Outcome State Fault Refusal :=
  .next (writeRow h Ob.PNL_CRKLEARN v.toNat ownCrkLearn (s.at t))

end Sys2Proof.Machine
end

