-- ==== Sys2Proof/Machine/Power.lean ====
section
/-!
DEFINITION. The power states: the sleep handshake, the wake sources and the ways out of P1, P2 and P3 (R429 to R445).
-/

namespace Sys2Proof.Machine

/-! ## The wake sources (R436, R438) -/

/-- WAKE_N acts as a source: its level while asserted in level mode, a held edge in edge mode. -/
def wakeNActs (s : State) : Bool :=
  bit (oget s Ob.PWR_WAKEEN) 0 && (s.pwr.edgeWake || (decide (oget s Ob.PWR_WAKEMODE = 0) && s.pins.wakeN))

/-- The lowest code among the level and persistent sources that stand (R439); `target` is the state left or aimed at. -/
def wakeStanding (s : State) (target : Nat) : Option Nat :=
  if wakeNActs s then some 1
  else if s.pwr.gylWake then some 2
  else if target < 3 ∧ bit (oget s Ob.PWR_WAKEEN) 2 ∧ s.pwr.fwdActive ∧ s.pxl.fwdAsleep then some 3
  else if target < 3 ∧ s.pwr.reqWake then some 4
  else if s.pwr.timerWake then some 5
  else if target < 3 ∧ s.pwr.safetyWake then some 6
  else none

/-- A source ends P3 (R439, R442): a wake by the phrase waits for its slot first (R426). -/
def p3Wake (src : Nat) (s : State) : State :=
  let s1 := cnt Ob.PWR_WAKECNT (lastWake false 3 src s)
  { s1 with boot := { s1.boot with fromP3 := true, stage := if src = 2 then .wakeSlot else .waitVioAb, stageAt := s1.now } }

/-- A source acts while the controller is in P3 with its supplies off. -/
def p3Sample (s : State) : State :=
  if s.boot.stage = .asleep ∧ !s.pwr.p3Off then
    match wakeStanding s 3 with
    | some src => p3Wake src s
    | none => s
  else s

/-- A standing source is sampled (R436). -/
def sampleWakes (s : State) : State :=
  if s.boot.stage = .started then
    match wakeStanding s s.pwr.target with
    | some src => wakeActs src s
    | none => s
  else p3Sample s

/-- WAKE_N (R436, R438). A low or an edge in steps 8 to 13 of a P3 entry is held, and so is one while its supplies go off; an edge in
steps 14 to 17 is lost, and a level is sampled at step 17. -/
def execWakeN (t : Nat) (low : Bool) (s : State) : Host.Outcome State Fault Refusal :=
  let s := s.at t
  let edge := low && !s.pins.wakeN
  let late := decide (s.pwr.entry = .inProgress ∧ s.pwr.target = 3 ∧ 8 ≤ s.pwr.step) || s.pwr.p3Off
  let s1 := { s with pins := { s.pins with wakeN := low } }
  let aiming := decide (s.pwr.entry = .inProgress)
  .next (if !bit (oget s Ob.PWR_WAKEEN) 0 then s1
    else if (if oget s Ob.PWR_WAKEMODE = 0 then !low else !edge) ∨ (aiming ∧ 14 ≤ s.pwr.step) then s1
    else if late then { s1 with pwr := { s1.pwr with edgeWake := true } }
    else if oget s Ob.PWR_WAKEMODE = 0 then sampleWakes s1
    else if s.boot.stage = .asleep then p3Wake 1 s1
    else wakeActs 1 s1)

/-- FORWARD_LANE_ACTIVITY: a level source while the forward direction sleeps (R78). -/
def execForwardLaneActivity (t : Nat) (active : Bool) (s : State) : Host.Outcome State Fault Refusal :=
  let s := s.at t
  .next (if s.boot.stage = .started then
      sampleWakes { s with pwr := { s.pwr with fwdActive := active && s.pxl.fwdAsleep } }
    else s)

/-- WAKE_PHRASE: the armed detector recognises the wall's phrase (R423, R424). -/
def execWakePhrase (t : Nat) (phrase : BitVec 32) (firstBitAt : Nat) (s : State) : Host.Outcome State Fault Refusal :=
  let s := s.at t
  let w := phrase.toNat
  let own := if s.boot.stage = .started then oget s Ob.GYL_WALLID else s.pwr.aonWall
  .next (if s.gyl.armed ∧ s.gyl.armedAt ≤ firstBitAt ∧ w / 2 ^ 16 = 0x55E6 ∧ field w 8 8 = own ∧ field w 0 8 + own = 255 then
      let s1 := evc 0xDF (cnt Ob.GYL_WAKEHEARD s)
      if bit (oget s Ob.PWR_WAKEEN) 1 then sampleWakes { s1 with pwr := { s1.pwr with gylWake := true } } else s1
    else s)

/-- P3_TIMER_EXPIRY: PWR_P3TIMER seconds after step 17, less the 5 % of the always-on oscillator (R438). -/
def execP3TimerExpiry (t : Nat) (s : State) : Host.Outcome State Fault Refusal :=
  let s := s.at t
  .next (if s.boot.stage = .asleep ∧ oget s Ob.PWR_P3TIMER ≠ 0 ∧
      s.pwr.p3At + 950000000 * oget s Ob.PWR_P3TIMER ≤ s.now then
      p3Sample { s with pwr := { s.pwr with timerWake := true } }
    else s)

/-! ## The sleep handshake (R432 to R435) -/

/-- A step is listed for the target. -/
def stepListed (target n : Nat) : Bool :=
  if target = 1 then decide (n = 4) || decide (14 ≤ n ∧ n ≤ 17)
  else if target = 2 then [1, 4, 5, 7, 9, 10, 11, 12, 14, 15, 16, 17].contains n
  else decide (1 ≤ n ∧ n ≤ 17)

/-- The step after another. -/
def stepAfter (target n : Nat) : Nat := ((List.range 18).find? (fun k => decide (n < k) && stepListed target k)).getD 17

/-- A tag or group, or the tile commit queue, that step 5 waits for. -/
def trxBusy (s : State) : Bool :=
  s.trx.groups.any (fun e => decide (e.2.state = .complete) || decide (e.2.state = .held) || decide (e.2.state = .committing)) ||
  !s.trx.queue.isEmpty ||
  s.trx.tags.any (fun e => decide (e.2.state = .copied) || decide (e.2.state = .verifying)) ||
  (decide (s.pwr.target = 3) && s.trx.tags.any (fun e => decide (e.2.state ≠ .free)))

/-- The block of the step asked refuses (R77, R432). Where no LINKCTL SLEEP can arrive, since the link trains, PXL refuses; a
DISABLED link has nothing to put to sleep. -/
def stepRefuses (s : State) (n : Nat) : Bool :=
  match n with
  | 1 => s.gyl.held.isSome || s.gyl.cmt.isSome
  | 2 => decide (s.cal.state = .running) || decide (s.cal.state = .committing)
  | 3 => s.mgt.can.transfer.isSome || s.mgt.spi.transfer.isSome
  | 4 => s.trx.groups.any (fun e => uncommitted e.2) || decide (s.pxl.link = .test) || decide (s.pxl.link = .reconfig) ||
      (decide (s.pxl.link ≠ .disabled) && !s.pxl.fwdAsleep)
  | 5 => trxBusy s
  | 6 => !s.jrn.present || bankAway s 2 || !hasBuffer s || ringFull s (s.jrn.buf.foldl (fun a r => a + recSize r) 0)
  | _ => false

/-- A step is asked: PXL announces the sleep of the forward direction, and PNL starts the orderly rail-down. -/
def askStep (n : Nat) (s : State) : State :=
  let s1 := { s with pwr := { s.pwr with step := n, stepAt := s.now } }
  if n = 4 then
    if inSession s1 ∧ s1.pxl.link ≠ .test ∧ s1.pxl.link ≠ .reconfig ∧ !s1.pxl.fwdAsleep then
      sendLinkstate 2 s1.pxl.fmask s1.pxl.lcn 0 0 0 (modPxl (fun p => { p with sleepReq := true }) s1)
    else s1
  else if n = 8 then railDown (usedMask s1) s1
  else s1

/-- The generations of the tags and, from 8,192, of the groups, as a GENS record carries them (R99). -/
def gensBytes (s : State) : List Byte :=
  let pair (k g : Nat) : List Byte := toBE 4 k ++ toBE 1 g
  s.trx.tags.flatMap (fun e => if e.2.gen = 0 then [] else pair e.1 e.2.gen) ++
  s.trx.groups.flatMap (fun e => if e.2.gen = 0 then [] else pair (8192 + e.1) e.2.gen)

/-- The P3 entry record: operating state, target, epoch and Gylor generation (R443). -/
def entryBytes (s : State) : List Byte :=
  toBE 1 s.boot.op.code ++ toBE 1 s.pwr.target ++ toBE 6 s.scan.epoch ++ toBE 2 s.gyl.gen

/-- Everything in the write buffer is programmed. -/
def drainBuffer (s : State) : State :=
  each s.jrn.buf (fun _ st => match st.jrn.buf with
    | r :: rest => programHead r rest st
    | [] => st) s

/-- Step 6 (R432): pending writes, the dose sums, the generations and the entry record. -/
def journalEntry (s : State) : State :=
  let s1 := if codes s then writeDose s else s
  drainBuffer (jrnAdd 0x0C 0 0 0 0 (entryBytes s1) (jrnAdd 0x0B 0 0 0 0 (gensBytes s1) s1))

/-- The objects of the settings image (R444). -/
def inImage (k : Nat) : Bool :=
  match rowAt (k / 256) (k % 256) with
  | some r => decide (r.acc = .rw) && decide (r.rng ≠ .counter) && !journaledKey k && decide (r.index ≠ 0x6000) && decide (r.index ≠ 0x6003)
  | none => false

/-- Step 13 (R443, R444): the P3 entry record and the settings image. -/
def writeRetention (s : State) : State :=
  { s with pwr := { s.pwr with
    retOp := s.boot.op.code, retEpoch := s.scan.epoch, retGyl := s.gyl.gen
    retImage := s.obj.filter (fun e => inImage e.1), retImageOk := true } }

/-- The release bits read 0 while pads are latched (R40). -/
def padrelZero (s : State) : State :=
  oset Ob.PWR_PADREL_MGT 0 (oset Ob.PWR_PADREL_PANEL 0 (oset Ob.PWR_PADREL_AON 0 s))

/-- The pads are latched (R39, R40). -/
def latchPads (s : State) : State := padrelZero (holdPads s)

/-- A back lane's clock is gated: its crossings see their peer in reset (R465). -/
def gateBack (n : Nat) (s : State) : State :=
  if bit s.pxl.bmask n ∧ s.pxl.backAsleep then
    let s1 := xflush (0x11 + n) s
    setCross (0x11 + n) { crossOf s1 (0x11 + n) with state := .peerReset } s1
  else s

/-- What the block of a step does when it accepts (R432). -/
def doStep (n : Nat) (s : State) : State :=
  let p3 := decide (s.pwr.target = 3)
  match n with
  | 3 => { s with mgt := { s.mgt with stopped := true } }
  | 4 => modPxl (fun p => { p with fwdAsleep := true }) s
  | 6 => journalEntry s
  | 7 => refreshBands (if p3 then s else each (usedBands s) (fun b => holdBlack b false) s)
  | 8 =>
    let s1 := each (usedBands s) fallDone { s with pins := { s.pins with pen3 := false } }
    { s1 with dlk := [] }
  | 10 =>
    let s1 := if backUp s then
        let a := sendLinkstate 2 s.pxl.fmask s.pxl.lcn 0 0 0 s
        flushLinkstate a.trx.back.length a
      else s
    modPxl (fun p => { p with backAsleep := true }) s1
  | 12 => { s with fst := { s.fst with selfRef := !p3, dieIdle := p3 } }
  | 13 => writeRetention s
  | 14 => { s with pwr := { s.pwr with aonWall := oget s Ob.GYL_WALLID, aonSlot := oget s Ob.GYL_WAKESLOT } }
  | 15 => gateBack 1 (gateBack 0 s)
  | 16 => if p3 then latchPads s else s
  | _ => s

/-- The controller leaves P0: the measurements of each band's current slice are discarded (R336). -/
def dropSlices (s : State) : State :=
  each (usedBands s) (fun b st => if calActive st b then setCalBand b (resetSlice (calBandOf st b)) st else st) s

/-- Step 17 has completed: the power state is reached, and the wake detectors are sampled (R431, R432, R436). -/
def stateReached (s : State) : State :=
  let s1 := dropSlices { s with pwr := { s.pwr with entry := .done } }
  if s.pwr.target = 1 then sampleWakes { s1 with pwr := { s1.pwr with state := .p1 } }
  else if s.pwr.target = 2 then
    sampleWakes (stepGoal (refreshBands { s1 with pwr := { s1.pwr with state := .p2, goal := some (oget s1 Ob.PWR_VP2) } }))
  else { s1 with pwr := { s1.pwr with state := .p3, p3Off := true, stepAt := s1.now, p3At := s1.now }, boot := { s1.boot with stage := .asleep } }

/-- The block of the step accepts: it stops, and the next is asked. -/
def acceptStep (n : Nat) (s : State) : State :=
  let s1 := doStep n { s with pwr := { s.pwr with stopped := setBit s.pwr.stopped n } }
  if n = 17 then stateReached s1 else askStep (stepAfter s1.pwr.target n) s1

/-- The time within which the block of a step answers, in ns (R432); none for the steps of PWR. -/
def stepLimit (s : State) (n : Nat) : Option Nat :=
  if n = 3 then some 10000000
  else if n = 6 then some 500000000
  else if n = 7 then some (10 ^ 12 / rget s Ob.SCAN_RATE + 1000000)
  else if n = 8 then some 10000000
  else if 9 ≤ n ∧ n ≤ 12 then some 100000
  else if n ≤ 13 then some 1000000
  else none

/-- The step has not been answered within its limit (R432). -/
def stepOverdue (s : State) (early : Nat) : Bool :=
  match stepLimit s s.pwr.step with
  | some l => decide (s.pwr.stepAt + l + early ≤ s.now)
  | none => false

/-- PNL accepts its step once every rail is down (R314, R432). -/
def railsDown (s : State) : Bool := (usedBands s).all (fun b => decide ((railOf s b).state = .off))

/-- HANDSHAKE_ANSWER. A block whose step never refuses accepts whatever it is asked, and an answer beyond the limit is a TIMEOUT
(R432). -/
def execHandshakeAnswer (t : Nat) (answer : SleepAnswer) (s : State) : Host.Outcome State Fault Refusal :=
  let s := s.at t
  let n := s.pwr.step
  let no : Bool := match answer with
    | .refuse _ => decide (n ≤ 6)
    | .accept => false
  .next (if s.pwr.entry ≠ .inProgress ∨ s.boot.stage ≠ .started then s
    else if stepOverdue s 1 then entryEnds 2 s
    else if no ∨ stepRefuses s n then entryEnds 1 s
    else if n = 8 ∧ !railsDown s then s
    else acceptStep n s)

/-- HANDSHAKE_TIMEOUT. -/
def execHandshakeTimeout (t : Nat) (s : State) : Host.Outcome State Fault Refusal :=
  let s := s.at t
  .next (if s.pwr.entry = .inProgress ∧ s.boot.stage = .started ∧ stepOverdue s 0 then entryEnds 2 s else s)

/-- The entry starts from its first step; a level wake that stands aborts it there (R436). -/
def startEntry (s : State) : State :=
  sampleWakes (askStep (stepAfter s.pwr.target 0) { s with pwr := { s.pwr with entry := .inProgress, stopped := 0 } })

/-- SLEEP_RETRY_TIMER: 10 ms after the rollback has completed (R435). -/
def execSleepRetryTimer (t : Nat) (s : State) : Host.Outcome State Fault Refusal :=
  let s := s.at t
  .next (if s.pwr.entry = .waitRetry ∧ s.boot.stage = .started ∧ s.pwr.stepAt + 10000000 ≤ s.now then
      startEntry { s with pwr := { s.pwr with retries := s.pwr.retries + 1 } }
    else s)

/-- The own rule of PWR_REQ (R424, R429). -/
def ownPwrReq (v : Nat) (s : State) : State × Nat :=
  let busy := decide (s.pwr.entry = .inProgress) || decide (s.pwr.entry = .waitRetry)
  if v = 0 then
    if busy then (entryEnds 6 s, St.ok)
    else if s.pwr.state = .p1 ∨ s.pwr.state = .p2 then (wakeActs 4 { s with pwr := { s.pwr with reqWake := true } }, St.ok)
    else (s, St.state)
  else if busy then (s, St.busy)
  else if s.pwr.state = .p0 ∧ (s.boot.op = .run ∨ (v = 3 ∧ s.boot.op = .setup)) then
    let s1 := evc 0xB8 { s with pwr := { s.pwr with target := v, retries := 0, edgeWake := false }
                                gyl := { s.gyl with armed := true, armedAt := s.now } }
    (startEntry s1, St.ok)
  else (s, St.state)

/-- PWR_REQ_P0. -/
def execPwrReqP0 (t : Nat) (h : Hdr) (s : State) : Host.Outcome State Fault Refusal :=
  .next (writeRow h Ob.PWR_REQ 0 ownPwrReq (s.at t))

/-- PWR_REQ_P1. -/
def execPwrReqP1 (t : Nat) (h : Hdr) (s : State) : Host.Outcome State Fault Refusal :=
  .next (writeRow h Ob.PWR_REQ 1 ownPwrReq (s.at t))

/-- PWR_REQ_P2. -/
def execPwrReqP2 (t : Nat) (h : Hdr) (s : State) : Host.Outcome State Fault Refusal :=
  .next (writeRow h Ob.PWR_REQ 2 ownPwrReq (s.at t))

/-- PWR_REQ_P3. -/
def execPwrReqP3 (t : Nat) (h : Hdr) (s : State) : Host.Outcome State Fault Refusal :=
  .next (writeRow h Ob.PWR_REQ 3 ownPwrReq (s.at t))

/-! ## P3 and the ways out (R39, R40, R432, R441, R442) -/

/-- The controller die loses its supply at the fall of PEN0 (R455): the always-on die keeps the latched pads and the wake
detectors, and the generations of tags and groups are in the journal (R99). -/
def dieOff (s : State) : State :=
  let k := clearDie s
  let s1 : State := { k with
    trx := Trx.initial
    boot := { k.boot with stage := .asleep, gensLost := true }
    pins := { k.pins with held := s.pins.held }
    pwr := { k.pwr with state := .p3, gylWake := s.pwr.gylWake, timerWake := s.pwr.timerWake
                        edgeWake := s.pwr.edgeWake, p3At := s.pwr.p3At, aonWall := s.pwr.aonWall, aonSlot := s.pwr.aonSlot }
    gyl := { k.gyl with armed := s.gyl.armed, armedAt := s.gyl.armedAt } }
  padrelZero s1

/-- P3_PEN_OFF_TIMER: PEN2, PEN1 and PEN0 fall in that order, 100 µs apart; a wake that stands then ends P3. -/
def execP3PenOffTimer (t : Nat) (s : State) : Host.Outcome State Fault Refusal :=
  let s := s.at t
  let fell (st : State) : State := { st with pwr := { st.pwr with stepAt := st.now } }
  .next (if !s.pwr.p3Off then s
    else if s.pins.pen2 then fell { s with pins := { s.pins with pen2 := false, padsCd18 := none } }
    else if s.now < s.pwr.stepAt + 100000 then s
    else if s.pins.pen1 then fell { s with pins := { s.pins with pen1 := false } }
    else p3Sample (dieOff { s with pins := { s.pins with pen0 := false, pgood := false } }))

/-- WAKE_SLOT_EXPIRY: the site number times the wake slot has passed since the phrase was recognised (R51, R426). -/
def execWakeSlotExpiry (t : Nat) (s : State) : Host.Outcome State Fault Refusal :=
  let s := s.at t
  .next (if s.boot.stage = .wakeSlot ∧ s.boot.stageAt + oget s Ob.RST_STRAP_SITE * s.pwr.aonSlot * 1000000 ≤ s.now then
      { s with boot := { s.boot with stage := .waitVioAb, stageAt := s.now } }
    else s)

/-- VIO_AB_PRESENT: the start-up sequence begins with PEN0 (R442). -/
def execVioAbPresent (t : Nat) (s : State) : Host.Outcome State Fault Refusal :=
  let s := s.at t
  let s1 := { s with pins := { s.pins with vioAb := true } }
  .next (if s.boot.stage = .waitVioAb then enableSupplies { s1 with pwr := { s1.pwr with state := .p0 } } else s1)

/-- VIO_AB_WAIT_TIMEOUT: VIO_AB is absent after 100 ms (R42), and it is back to P3, where a source that still stands acts again (R438,
R442). -/
def execVioAbWaitTimeout (t : Nat) (s : State) : Host.Outcome State Fault Refusal :=
  let s := s.at t
  .next (if s.boot.stage = .waitVioAb ∧ s.boot.stageAt + 100000000 ≤ s.now then
      let s1 := oset Ob.PWR_BOOTFAIL 4 s
      p3Sample { s1 with
        boot := { s1.boot with stage := .asleep, fromP3 := false }
        pins := { s1.pins with vioAb := false, padsAb18 := none }
        pwr := { s1.pwr with edgeWake := false } }
    else s)

/-- P2_WAKE_DONE: VCORE has reached the floor, or cannot (R447); the dies leave self-refresh, PPL and LAKE go on, the lanes relock, and the bands are released (R441). -/
def execP2WakeDone (t : Nat) (s : State) : Host.Outcome State Fault Refusal :=
  let s := s.at t
  .next (if s.pwr.state = .p2 ∧ s.pwr.waking ∧ (vcoreFloor s ≤ s.pwr.vack ∨ s.pwr.goal = none) then refreshBands (reachP0 (releaseHeld (wakeDram s))) else s)

/-- The own rule of a release bit of PWR_PADREL (R40): writing 1 releases the group, writing 0 has no effect. -/
def ownPadrel (k v : Nat) (s : State) : State × Nat :=
  if v = 0 then (s, St.ok) else (releasePads [k - Ob.PWR_PADREL_MGT] (oset k 1 s), St.ok)

/-- PWR_PADREL: bits 0 to 2 of the value name the groups from the management group on; the lowest bit set is the one
written, and 0 writes a 0 to the management group (log entry 60). -/
def execPwrPadrel (t : Nat) (h : Hdr) (v : BitVec 8) (s : State) : Host.Outcome State Fault Refusal :=
  let n := v.toNat
  let k := if bit n 0 ∨ n = 0 then Ob.PWR_PADREL_MGT else if bit n 1 then Ob.PWR_PADREL_PANEL else Ob.PWR_PADREL_AON
  .next (writeRow h k (if n = 0 then 0 else if n % 8 = 0 then n else 1) (ownPadrel k) (s.at t))

/-- PAD_CLASS_DECISION: above 2.5 V gives the 3.3 V class, which holds while the supply is on (R495). -/
def execPadClassDecision (t : Nat) (ab : Bool) (mv : Nat) (s : State) : Host.Outcome State Fault Refusal :=
  let s := s.at t
  let low := some (decide (mv ≤ 2500))
  .next { s with pins :=
    if ab then (if s.pins.padsAb18.isSome then s.pins else { s.pins with padsAb18 := low })
    else if s.pins.padsCd18.isSome ∨ !s.pins.pen2 then s.pins
    else { s.pins with padsCd18 := low } }

/-- VAON_OUT_OF_WINDOW: an SM12 failure (R497). -/
def execVaonOutOfWindow (t : Nat) (s : State) : Host.Outcome State Fault Refusal :=
  let s := s.at t
  .next (if s.boot.stage = .started then sm12Input 18 true true s else s)

end Sys2Proof.Machine
end

