-- ==== Sys2Proof/Machine/Pxl.lean ====
section
/-!
DEFINITION. The pixel link (chapter 03): markers, striping and the word stream, training, lane loss and rejoin, sleep and
the PRBS test.
-/

namespace Sys2Proof.Machine

/-! ## Rates -/

/-- Forward and back rates in Mbit/s by code (R54). -/
def fwdRate (c : Nat) : Nat := [1250, 2500, 5000, 10000, 12500, 16000].getD c 0
def backRate (c : Nat) : Nat := [1250, 2500, 4000].getD c 0

/-! ## The word stream (R60, R61, R86) -/

/-- The 128 bits of a header. -/
def headerBits (ws : List (BitVec 32)) : Nat := wordsVal ws

/-- The header passes HCRC (R88). -/
def hcrcOk (n : Nat) : Bool := decide (crc16 (toBE 14 (n / 2 ^ 16)) = n % 2 ^ 16)

/-- Length in words of a forward packet, 0 for a TYPE that R87 does not give a forward packet. -/
def packetWords (n : Nat) : Nat :=
  let ty := field n 124 4
  if ty = 1 then 5 + field n 69 12 else if 2 ≤ ty ∧ ty ≤ 6 then 4 else 0

/-- The fields of a TILE header (R86). -/
def tileHdrOf (n : Nat) : TileHdr where
  gen := field n 121 3
  tag := field n 108 13
  group := field n 102 6
  fmt := field n 99 3
  code := field n 97 2
  tx := field n 89 7
  ty := field n 81 8
  plen := field n 69 12
  srcf := field n 32 32

/-- The fields of a TOKEN header (R86, R91). -/
def tokenHdrOf (n : Nat) : TokenHdr where
  gen := field n 121 3
  tag := field n 108 13
  group := field n 102 6
  fmt := field n 99 3
  code := field n 97 2
  ingrp := bit n 96
  x0 := field n 89 7
  y0 := field n 81 8
  x1 := field n 74 7
  y1 := field n 66 8
  srcf := field n 32 32

/-- The fields of a GROUP_END header (R86, R91). -/
def groupEndOf (n : Nat) : GroupEndHdr where
  gen := field n 121 3
  group := field n 102 6
  count := field n 82 14
  abort := bit n 81
  atEpoch := bit n 80
  execLate := bit n 79
  epoch := field n 16 16 * 2 ^ 32 + field n 32 32

/-- OP and LOSTMASK of a LINKCTL header (R91). -/
def linkctlOp (n : Nat) : Nat := field n 92 4
def linkctlLost (n : Nat) : Nat := field n 90 2

/-- The last word of the TILE being received has arrived. -/
def wholeTile (s : State) : State :=
  { s with trx := { s.trx with incoming := s.trx.incoming.map (fun x => { x with whole := true }) } }

/-- A word that belongs to the TILE being received. -/
def bodyWord (s : State) : State :=
  if s.pxl.rxLeft = 1 then wholeTile (modPxl (fun p => { p with rxWords := [], rxLeft := 0 }) s)
  else modPxl (fun p => { p with rxLeft := p.rxLeft - 1 }) s

/-- One word of the packet stream, at offset `i` of its stripe block whose HDRPTR is `ptr`. A header that fails is lost, and
with it every word up to the next boundary (R89). -/
def streamWord (ptr : Nat) (iw : Nat × BitVec 32) (s : State) : State :=
  let s1 := if s.pxl.needPtr ∧ iw.1 = ptr then modPxl (fun p => { p with needPtr := false, rxWords := [], rxLeft := 0 }) s else s
  if s1.pxl.needPtr then s1
  else if s1.pxl.rxLeft ≠ 0 then bodyWord s1
  else if s1.pxl.rxWords.isEmpty ∧ iw.2 = 0 then s1
  else
    let ws := s1.pxl.rxWords ++ [iw.2]
    if ws.length < 4 then modPxl (fun p => { p with rxWords := ws }) s1
    else
      let n := headerBits ws
      if !hcrcOk n ∨ packetWords n = 0 then loseBoundary s1
      else
        let s2 := modPxl (fun p => { p with rxWords := [], rxLeft := packetWords n - 4 }) s1
        if field n 124 4 = 1 then tileHeaderIn (tileHdrOf n) s2 else s2

/-- HDRPTR of a stripe block: that of any of its valid markers (R58). -/
def stripePtr (s : State) (ns : List Nat) : Nat := (ns.findSome? (fun n => (laneOf s n).ptr)).getD 0xFFF

/-- When every active lane holds the block of one SEQ and LCN, its words are the next of the stream (R60, R62); a stripe
block that did not come whole before it is a discontinuity, and the packet that it cut is lost (R61). -/
def assemble (key : Nat) (s : State) : State :=
  let ns := lanesOf s.pxl.fmask
  if !(decide (s.pxl.link = .active) || fwdFree s) ∨ ns.isEmpty ∨ ns.any (fun n => decide ((laneOf s n).wordsSeq ≠ some key)) then s
  else
    let cols := ns.map (fun n => (laneOf s n).words)
    let ws := (List.range 128).flatMap (fun i => cols.map (fun c => c.getD i 0))
    let s1 := each ns (fun n st => setLane n { laneOf st n with wordsSeq := none, words := [] } st) s
    let s2 := if s.pxl.lastKey = some (key / 256 * 256 + (key + 255) % 256) then s1 else loseBoundary (forgetPartial s1)
    each (ws.zipIdx.map (fun p => (p.2, p.1))) (streamWord (stripePtr s ns)) (modPxl (fun p => { p with lastKey := some key }) s2)

/-! ## Lane loss (R70 to R73) -/

/-- The TILE whose header had been received, but not its last word, is NAKed LANE-LOSS; its group stays as it is (R71,
R106). -/
def nakInFlight (s : State) : State :=
  each (s.trx.incoming.filter (fun x => !x.whole)) (fun x st =>
    evc 0x39 (sendNak (.mk .nak 0 x.hdr.gen x.hdr.tag x.hdr.group 0 (nakWord 0x0F 0 0) x.hdr.srcf []) st)) (forgetPartial s)

/-- A lane that has to pass background training before it is good again (R74). -/
def Lane.retrain (l : Lane) : Lane :=
  { l with good := false, bg := .training, mlock := false, lastSeq := none, badRun := 0, stuffRun := 0, wordsSeq := none,
           words := [], newLcn := false, pendSeq := none, heldFail := 0, discard := true, testBad := false }

/-- A lane of a new active set, or one that stays outside it: a good lane that the set leaves out and a lane that failed while
it was offered are retrained (R60, R71, R74). -/
def Lane.placed (l : Lane) (was now : Bool) : Lane :=
  let l1 : Lane := { l with newLcn := false, pendSeq := none, wordsSeq := none, words := [] }
  if now then { l1 with bg := .off, heldFail := 0 } else if (was && l.good) || l.heldFail ≠ 0 then l1.retrain else l1

/-- The link goes on with the lowest good lanes that make up the largest width, and the next LCN (R60, R71). -/
def narrow (s : State) : State :=
  let good := (cfgLanes s).filter (fun n => (laneOf s n).good && decide ((laneOf s n).heldFail = 0))
  if good.isEmpty then dropLink 1 s
  else
    let keep := maskOf (widest good)
    let out := (lanesOf s.pxl.fmask).filter (fun n => (laneOf s n).good && !bit keep n)
    let s1 := loseBoundary (nakInFlight (each out resetLane s))
    let s2 := eachLane (fun n l => l.placed (bit s.pxl.fmask n) (bit keep n)) s1
    let s3 := setLink .reconfig (modPxl (fun p => { p with
      fmask := keep, lcn := (p.lcn + 1) % 16, pendMask := 0, pendLcn := 0, prevLcn := none }) s2)
    sendLinkstate 0 keep s3.pxl.lcn 0 0 0 s3

/-- Record the loss of an active lane and leave it to background training. -/
def markLost (n cause : Nat) (s : State) : State :=
  setLane n { (laneOf s n).retrain with lossCause := cause, cdr := decide (cause ≠ 1) && (laneOf s n).cdr }
    (evc n (cnt (Ob.PXL_ERR_LOSS + n) (resetLane n s)))

/-- An active lane is lost (R70, R71, R73). -/
def loseLane (n cause : Nat) (s : State) : State := narrow (markLost n cause s)

/-! ## Widening (R74) -/

/-- The lanes that a wider link could use: those active and those that passed background training. -/
def offerLanes (s : State) : List Nat := widest ((cfgLanes s).filter (fun n => (laneOf s n).good))

/-- Offer a wider link when one is possible and none is offered. -/
def offer (s : State) : State :=
  let ns := offerLanes s
  if s.pxl.link = .active ∧ s.pxl.pendMask = 0 ∧ s.pxl.prevLcn = none ∧ (lanesOf s.pxl.fmask).length < ns.length then
    let s1 := eachLane (fun _ l => { l with pendSeq := none, heldFail := 0 }) s
    let s2 := modPxl (fun p => { p with pendMask := maskOf ns, pendLcn := (p.lcn + 1) % 16 }) s1
    sendLinkstate 1 s2.pxl.pendMask s2.pxl.pendLcn 0 0 0 s2
  else s

/-- The pending configuration is put in force; lanes that failed meanwhile are then lost (R74). -/
def takeOffer (s : State) : State :=
  if s.pxl.pendMask = 0 then s
  else
    let m := s.pxl.pendMask
    let failed := (lanesOf m).filter (fun n => decide ((laneOf s n).heldFail ≠ 0))
    let s1 := eachLane (fun n l =>
      let l1 : Lane := { l with pendSeq := none, newLcn := false }
      if bit m n then { l1 with good := true, bg := .off } else if bit s.pxl.fmask n then l1.retrain else l1) s
    let s2 := loseBoundary (modPxl (fun p => { p with fmask := m, lcn := p.pendLcn, pendMask := 0, pendLcn := 0 }) s1)
    if failed.isEmpty then s2 else narrow (each failed (fun n => markLost n (laneOf s n).heldFail) s2)

/-- The pending configuration has shown itself on every lane of its mask that has not failed, with one SEQ (R74). -/
def offerSeen (s : State) : Bool :=
  let ns := (lanesOf s.pxl.pendMask).filter (fun n => decide ((laneOf s n).heldFail = 0))
  match ns.head? with
  | none => false
  | some n => (laneOf s n).pendSeq.isSome && ns.all (fun k => decide ((laneOf s k).pendSeq = (laneOf s n).pendSeq))

/-! ## Sessions (R69, R123) -/

/-- The tags as a number of 8,192 fields of `w` bits, tag 0 the most significant. -/
def tagFields (w : Nat) (f : Tag → Nat) (s : State) : Nat :=
  s.trx.tags.foldl (fun a e => a + f e.2 * 2 ^ (w * (8191 - e.1))) 0

/-- Whether DIGEST shows a tag in STAGED. -/
def digestStaged (s : State) (g : Tag) : Bool :=
  g.dropped || (decide (g.state = .staged) && (decide ((groupOf s g.group).state = .opened) || decide ((groupOf s g.group).state = .aborted)))

/-- Whether DIGEST shows a tag in COMMITTED. -/
def digestCommitted (g : Tag) : Bool :=
  decide (g.state = .queued) || decide (g.state = .held) || decide (g.state = .copied) || decide (g.state = .verifying)

/-- The payload of DIGEST with its CRC (R123). -/
def digestWords (s : State) : List (BitVec 32) :=
  let ws := slotWords 256 (tagFields 1 (fun g => b2n (digestStaged s g)) s) ++
    slotWords 256 (tagFields 1 (fun g => b2n (digestCommitted g)) s) ++
    slotWords 256 (tagFields 1 (fun g => b2n g.seenMark) s) ++
    slotWords 1024 (tagFields 4 (fun g => 2 * g.gen) s)
  ws ++ [BitVec.ofNat 32 (crc32 (wordBytes ws))]

/-- Queue a DIGEST (R94, R123). -/
def sendDigest (dropped accepted : Nat) (s : State) : State :=
  evc 0x3B (pushBack (.mk .digest 0 0 0 0 0 (s.pxl.session % 65536 * 65536 + dropped) accepted (digestWords s)) s)

/-- A link session starts: DIGEST is its first back packet, and the SRCFRAME history is empty (R97, R114, R123). -/
def startSession (s : State) : State :=
  let had := s.pxl.hadDrop
  let s1 := evc 0x3C { s with trx := { s.trx with accepted := 0, bseq := 0, back := [], history := [], lastSent := none } }
  let s2 := sendDigest (if had then s.pxl.dropped else 0) (if had then s.pxl.prevAcc else 0) s1
  modPxl (fun p => { p with digestDue := true, hadDrop := false, dropped := 0, prevAcc := 0, tx := none }) s2

/-- The awaited LCN has arrived on every active lane. -/
def lcnSeen (s : State) : Bool := (lanesOf s.pxl.fmask).all (fun n => (laneOf s n).newLcn)

/-- What the arrival of the awaited LCN on every active lane brings about (R69, R72, R73). -/
def lcnArrived (s : State) : State :=
  if !lcnSeen s then s
  else if s.pxl.link = .go then offer (startSession (loseBoundary (setLink .active s)))
  else if s.pxl.link = .reconfig then offer (setLink .active s)
  else if s.pxl.link = .active ∧ s.pxl.prevLcn.isSome then offer (loseBoundary (modPxl (fun p => { p with prevLcn := none }) s))
  else s

/-! ## Training (R66 to R69) -/

/-- The lanes that take part in training: those that locked in DETECT and passed every step kept. -/
def trainLanes (s : State) : List Nat := (cfgLanes s).filter (fun n => (laneOf s n).good)

/-- GO: the widest set of the lanes that passed, LCN 1 and a new session (R69). -/
def sendGo (s : State) : State :=
  let act := maskOf (widest (trainLanes s))
  if act = 0 then dropLink 1 s else
  let s1 := eachLane (fun n l =>
    if bit act n then { l with newLcn := false, wordsSeq := none, words := [] }
    else if n < oget s Ob.PXL_LANES then l.retrain else l) s
  let s2 := modPxl (fun p => { p with fmask := act, lcn := 1, session := satInc 0xFFFFFFFF p.session, awaitRes := false, idle := false }) s1
  sendTrain { ttype := 5, frate := s2.pxl.frate, brate := s2.pxl.brate, mask := act, bmask := s2.pxl.bmask, lcn := 1 }
    (setLink .go s2)

/-- Send STEP for the next rate of a direction; both ends go idle for 10 µs (R67). -/
def sendStep (fwd : Bool) (rate : Nat) (s : State) : State :=
  let s1 := modPxl (fun p => { p with stepRate := rate, idle := true, awaitRes := false })
    (setLink (if fwd then .stepFwd else .stepBack) s)
  sendTrain { ttype := 3, frate := if fwd then rate else s.pxl.frate, brate := if fwd then s.pxl.brate else rate,
              mask := 0, bmask := 0, lcn := 0 } s1

/-- The back direction steps to its target first, then the forward direction, then GO (R66 to R69). -/
def nextStep (s : State) : State :=
  if s.pxl.brate < s.pxl.btarget then sendStep false (s.pxl.brate + 1) s
  else if s.pxl.frate < s.pxl.ftarget then sendStep true (s.pxl.frate + 1) s
  else sendGo s

/-- The outcome of a step is kept (R68): 0 every lane passed, 1 the new rate on the lanes that passed, 2 the previous rate.
`r` and `p` are the new and the previous rate, `n` lanes of `m` passed. -/
def stepOutcome (r p n m : Nat) : Nat :=
  if n = m then 0 else if p * pow2Below m < r * pow2Below n then 1 else 2

/-- A forward step has been tested (R68). -/
def judgeFwd (passed : Nat) (s : State) : State :=
  let ns := trainLanes s
  let ok := ns.filter (bit passed)
  let r := s.pxl.stepRate
  let s1 := each ok (fun n st => setLane n { laneOf st n with lastRate := r } st) s
  let k := stepOutcome (fwdRate r) (fwdRate (r - 1)) ok.length ns.length
  if k = 0 then nextStep s1
  else if k = 1 then
    nextStep (modPxl (fun p => { p with ftarget := r })
      (eachLane (fun n l => if ns.contains n && !ok.contains n then { l with good := false } else l) s1))
  else sendStep true (r - 1) (modPxl (fun p => { p with ftarget := r - 1 }) s1)

/-- A back step has been reported by the source (R67, R68). -/
def judgeBack (passed : Nat) (s : State) : State :=
  let ns := [0, 1].filter (bit s.pxl.bmask)
  let ok := ns.filter (bit passed)
  let r := s.pxl.stepRate
  let s1 := modPxl (fun p => { p with awaitRes := false }) s
  let k := stepOutcome (backRate r) (backRate (r - 1)) ok.length ns.length
  if k = 0 then nextStep s1
  else if k = 1 then nextStep (modPxl (fun p => { p with btarget := r, bmask := maskOf ok }) s1)
  else sendStep false (r - 1) (modPxl (fun p => { p with btarget := r - 1 }) s1)

/-- NEGOTIATE: the lanes locked by now take part, and CAP is sent (R66). -/
def toNegotiate (s : State) : State :=
  let s1 := eachLane (fun n l => { l with good := l.mlock && decide (n < oget s Ob.PXL_LANES) }) s
  let s2 := modPxl (fun p => { p with lockWait := false, bmask := p.srcHello % 4 &&& cfgBack s }) s1
  sendTrain { ttype := 2, frate := oget s Ob.PXL_FWD_MAXRATE, brate := oget s Ob.PXL_BACK_MAXRATE, mask := cfgBack s,
              bmask := 0, lcn := 0 } (setLink .negotiate s2)

/-- The two conditions for leaving DETECT (R66). -/
def detectDone (s : State) : Bool :=
  decide (s.pxl.link = .detect) && (cfgLanes s).any (fun n => (laneOf s n).mlock && (laneOf s n).hello) &&
  decide (s.pxl.srcHello % 4 &&& cfgBack s ≠ 0)

/-- In DETECT, HELLO follows the lanes that lock, and NEGOTIATE follows once all have, or the wait of 1 ms starts (R66). -/
def tryDetect (s : State) : State :=
  if s.pxl.link ≠ .detect then s
  else
    let s1 := sendHello s
    if !detectDone s1 then modPxl (fun p => { p with lockWait := false }) s1
    else if (cfgLanes s1).all (fun n => (laneOf s1 n).mlock) then toNegotiate s1
    else modPxl (fun p => { p with lockWait := true }) s1

/-! ## Markers (R58, R59, R62, R70) -/

/-- SYNC, LANE, MCRC and TYPE are right (R58, R59). -/
def markerGood (lane : Nat) (m : MarkerIn) : Bool :=
  decide (m.sync = 0xC52B0E) && decide (m.lane = lane) && m.crcOk && decide (m.type ≤ 1)

/-- SEQ is one more than that of the marker before (R59). The count goes on over a marker that was invalid or missing (log
entry 46). -/
def seqNext (l : Lane) (q : Nat) : Bool :=
  match l.lastSeq with
  | some p => decide (q = (p + 1) % 256)
  | none => true

/-- The CTLE step of a lane after a search that found `found` (R63). -/
def setCtle (n found : Nat) (s : State) : State :=
  let f := oget s (Ob.PXL_CTLE_FORCE + n)
  oset (Ob.PXL_CTLE + n) (if f = 0xFF then found else f) s

/-- The 16 eye openings of a search that no command reports, in 1/64 UI: free values. -/
def freeEyes (s : State) : List Nat := (List.range 16).map (fun i => Config.freeValue (s.free + i) % 65)

/-- A second valid marker in a row gives marker lock, after a search of the CTLE steps at the current rate (R59, R63). -/
def searchLock (n : Nat) (m : MarkerIn) (s : State) : State :=
  let l := laneOf s n
  if !markerGood n m then setLane n { l with lastSeq := none } s
  else if l.lastSeq.isSome && seqNext l m.seq then
    let s1 := setLane n { l with cdr := true, mlock := true, lastSeq := some m.seq, badRun := 0, stuffRun := 0, discard := true } s
    if oget s (Ob.PXL_CTLE_FORCE + n) = 0xFF then setCtle n (widestEye (freeEyes s1)) { s1 with free := s1.free + 16 }
    else setCtle n 0 s1
  else setLane n { l with lastSeq := some m.seq } s

/-- A failure of a lane outside the active set: held while its offer is pending, else its training starts again later
(R74). -/
def failOutside (n cause : Nat) (s : State) : State :=
  let l := laneOf s n
  if bit s.pxl.pendMask n then
    setLane n { l with heldFail := if l.heldFail = 0 then cause else l.heldFail, mlock := false } s
  else if l.bg = .passed then setLane n { l with bg := .retryWait, good := false, mlock := false } (resetLane n s)
  else setLane n { l with mlock := false } s

/-- A lane fails by a cause of R70. -/
def failLane (n cause : Nat) (s : State) : State :=
  if bit s.pxl.fmask n ∧ (s.pxl.link = .active ∨ s.pxl.link = .reconfig) then loseLane n cause s else failOutside n cause s

/-- An expected marker is invalid or missing: counted, and the second in a row fails the lane (R70). A lane in training fails
its test (R67). -/
def badMarker (n : Nat) (s : State) : State :=
  let l := laneOf s n
  let s1 := evc (0x10 + n) (cnt (Ob.PXL_ERR_MARKER + n) s)
  let s2 := setLane n { l with badRun := l.badRun + 1, lastSeq := l.lastSeq.map (fun q => (q + 1) % 256), testBad := true } s1
  if 2 ≤ l.badRun + 1 then failLane n 2 s2 else s2

/-- The marker is valid (R59). -/
def markerOk (s : State) (n : Nat) (m : MarkerIn) : Bool := markerGood n m && seqNext (laneOf s n) m.seq

/-- The marker of a block on a locked lane: a valid one is judged for skew and for the LCNs that are awaited. -/
def judgeMarker (n : Nat) (m : MarkerIn) (skew : Int) (s : State) : State :=
  let l := laneOf s n
  if !markerOk s n m then badMarker n s
  else
    let data := decide (m.type = 0)
    let l1 : Lane := { l with
      badRun := 0, lastSeq := some m.seq, skew := skew
      newLcn := l.newLcn || (data && decide (m.lcn = s.pxl.lcn) && decide (skew.natAbs ≤ 64))
      pendSeq := if data ∧ s.pxl.pendMask ≠ 0 ∧ m.lcn = s.pxl.pendLcn ∧ bit s.pxl.pendMask n ∧ skew.natAbs ≤ 64 then some m.seq
                 else l.pendSeq }
    let s1 := setLane n l1 s
    if 64 < skew.natAbs then failLane n 3 s1 else s1

/-- The stuffing violations of a block: each is counted, and the second block in a row with one fails the lane (R57, R70). -/
def judgeStuff (n bad : Nat) (s : State) : State :=
  let l := laneOf s n
  if bad = 0 then setLane n { l with stuffRun := 0 } s
  else
    let s1 := iter (fun st => evc (0x20 + n) (cnt (Ob.PXL_ERR_STUFF + n) st)) bad s
    let s2 := setLane n { l with stuffRun := l.stuffRun + 1, testBad := true } s1
    if 2 ≤ l.stuffRun + 1 then failLane n 4 s2 else s2

/-- A block is kept when its LCN is the current one, that of a pending offer, or the previous one after the loss of a back
lane (R72). -/
def lcnKept (s : State) (lcn : Nat) : Bool :=
  decide (lcn = s.pxl.lcn) || (decide (s.pxl.pendMask ≠ 0) && decide (lcn = s.pxl.pendLcn)) || decide (s.pxl.prevLcn = some lcn)

/-- The payload of a block: descrambled, kept for its stripe block unless it is to be discarded (R56, R72). A single invalid
marker changes nothing else (R70): its block keeps its place in the count of SEQ, under the current LCN, and gives no
HDRPTR (log entry 46). -/
def keepPayload (n : Nat) (ok : Bool) (m : MarkerIn) (payload : List (BitVec 32)) (s : State) : State :=
  let l := laneOf s n
  let (ws, h) := descrambleAll l.hist.toNat payload
  let lcn := if ok then m.lcn else s.pxl.lcn
  let keep := l.mlock && !l.discard && (!ok || decide (m.type = 0)) && lcnKept s lcn && (bit s.pxl.fmask n || bit s.pxl.pendMask n)
  let s1 := setLane n { l with
    hist := BitVec.ofNat 23 h, discard := l.discard && !l.mlock
    wordsSeq := if keep then l.lastSeq.map (fun q => lcn * 256 + q) else none, words := if keep then ws else []
    ptr := if ok then some m.hdrPtr else none } s
  if l.mlock && l.discard && bit s.pxl.fmask n then loseBoundary s1 else s1

/-- Forward lanes receive blocks: awake, trained or training, and not under a PRBS test. -/
def fwdHears (s : State) (n : Nat) : Bool :=
  decide (n < oget s Ob.PXL_LANES) && decide (s.pxl.link ≠ .disabled) && (decide (s.pxl.link ≠ .test) || fwdFree s) &&
    !s.pxl.fwdAsleep && !(s.pxl.idle && decide (s.pxl.link = .stepFwd))

/-- What a block on lane `n` completes: training, the awaited LCN, an offer, a stripe block. -/
def blockDone (n : Nat) (s : State) : State :=
  let s1 := lcnArrived (tryDetect s)
  let s2 := if s1.pxl.link = .active ∧ offerSeen s1 then takeOffer s1 else s1
  match (laneOf s2 n).wordsSeq with
  | some key => assemble key s2
  | none => s2

/-- LANE_BLOCK_RECEIVED: the stretch of the line is destuffed (R57); then its marker, the stuffing, the payload, and what they
complete. -/
def execLaneBlockReceived (t : Nat) (lane : Fin 16) (line : LineBits) (skew : Int) (s : State) : Host.Outcome State Fault Refusal :=
  let s := s.at t
  let n := lane.val
  .next (if !fwdHears s n then s
    else
      let l := laneOf s n
      let d := destuff l.run line
      let m := MarkerIn.ofBits (lineTake d.out 0 64)
      let ok := markerOk s n m
      let s0 := setLane n { l with run := d.run } s
      let s1 := if l.mlock then judgeStuff n d.bad (judgeMarker n m skew s0) else searchLock n m s0
      blockDone n (keepPayload n ok m (payloadWords d.out) s1))

/-- MARKER_MISSING: no marker where one was expected (R70). -/
def execMarkerMissing (t : Nat) (lane : Fin 16) (s : State) : Host.Outcome State Fault Refusal :=
  let s := s.at t
  let n := lane.val
  .next (if !fwdHears s n ∨ !(laneOf s n).mlock then s
    else badMarker n (setLane n { laneOf s n with wordsSeq := none, words := [], ptr := none } s))

/-- CDR_LOSS_OF_LOCK. -/
def execCdrLossOfLock (t : Nat) (lane : Fin 16) (s : State) : Host.Outcome State Fault Refusal :=
  let s := s.at t
  let n := lane.val
  .next (if !fwdHears s n then s
    else tryDetect (failLane n 1 (setLane n { laneOf s n with cdr := false, mlock := false, lastSeq := none, testBad := true }
      (resetLane n s))))

/-! ## Training commands -/

/-- TCRC covers bits [63:8] of a training message (R64). -/
def trainCrc (m : TrainIn) : Nat :=
  crc8 (toBE 7 (m.ttype.toNat * 2 ^ 52 + m.lane.toNat * 2 ^ 48 + m.frate.toNat * 2 ^ 44 + m.brate.toNat * 2 ^ 40 + m.mask.toNat * 2 ^ 24 +
    m.bmask.toNat * 2 ^ 20 + m.lcn.toNat * 2 ^ 16 + m.tseq.toNat))

/-- A message is accepted: two identical copies in a row with correct TCRC (R64). -/
def trainOk (m : TrainIn) : Bool := decide (2 ≤ m.copies) && decide (trainCrc m = m.crc.toNat)

/-- TRAIN_MESSAGE_RECEIVED. An invalid message fails the test of its lane (R67). -/
def execTrainMessageReceived (t : Nat) (lane : Fin 16) (msg : TrainIn) (s : State) : Host.Outcome State Fault Refusal :=
  let s := s.at t
  let n := lane.val
  let tt := msg.ttype.toNat
  .next (if !fwdHears s n then s
    else if !trainOk msg then setLane n { laneOf s n with testBad := true } s
    else if tt = 1 then
      if s.pxl.link = .detect then
        tryDetect (modPxl (fun p => { p with srcHello := msg.mask.toNat }) (setLane n { laneOf s n with hello := true } s))
      else s
    else if tt = 2 ∧ s.pxl.link = .negotiate then
      nextStep (modPxl (fun p => { p with
        ftarget := min (oget s Ob.PXL_FWD_MAXRATE) msg.frate.toNat
        btarget := min (oget s Ob.PXL_BACK_MAXRATE) msg.brate.toNat }) s)
    else if tt = 4 ∧ s.pxl.link = .stepBack ∧ s.pxl.awaitRes ∧ msg.brate.toNat = s.pxl.stepRate then judgeBack msg.mask.toNat s
    else s)

/-- DETECT_LOCK_WAIT_END (R66). -/
def execDetectLockWaitEnd (t : Nat) (s : State) : Host.Outcome State Fault Refusal :=
  let s := s.at t
  .next (if s.pxl.lockWait ∧ detectDone s then toNegotiate s else s)

/-- CAP_TIMEOUT (R66). -/
def execCapTimeout (t : Nat) (s : State) : Host.Outcome State Fault Refusal :=
  let s := s.at t
  .next (if s.pxl.link = .negotiate then dropLink 7 s else s)

/-- STEP_IDLE_END: the stepping direction resumes at the new rate, or at the one it falls back to (R67, R68). -/
def execStepIdleEnd (t : Nat) (s : State) : Host.Outcome State Fault Refusal :=
  let s := s.at t
  let r := s.pxl.stepRate
  .next (if !s.pxl.idle then s
    else if s.pxl.link = .stepBack then
      let s1 := modPxl (fun p => { p with idle := false, brate := r, awaitRes := decide (p.brate < r) }) s
      if r < s.pxl.brate then nextStep s1 else s1
    else if s.pxl.link = .stepFwd then
      let s1 := modPxl (fun p => { p with idle := false, frate := r })
        (eachLane (fun _ l => { l with mlock := false, lastSeq := none, discard := true, testBad := false }) s)
      if r < s.pxl.frate then nextStep s1 else s1
    else s)

/-- A lane passes its acceptance test: it has locked, and no marker, message or stuffing was wrong (R67). -/
def Lane.passes (l : Lane) : Bool := l.mlock && !l.testBad

/-- ACCEPTANCE_TEST_DONE: each lane keeps the CTLE step with the widest of its 16 eye openings, and the controller judges it
(R63, R67, R68). The back direction's test ends at the source, which reports it with RESULT. -/
def execAcceptanceTestDone (t : Nat) (eyes : List (List Nat)) (s : State) : Host.Outcome State Fault Refusal :=
  let s := s.at t
  .next (if s.pxl.link = .stepFwd ∧ !s.pxl.idle then
      judgeFwd (maskOf ((trainLanes s).filter (fun n => (laneOf s n).passes)))
        (each (trainLanes s) (fun n st => setCtle n (widestEye (eyes.getD n [])) st) s)
    else s)

/-- RESULT_TIMEOUT: no back lane counts as passed (R67). -/
def execResultTimeout (t : Nat) (s : State) : Host.Outcome State Fault Refusal :=
  let s := s.at t
  .next (if s.pxl.link = .stepBack ∧ s.pxl.awaitRes then judgeBack 0 s else s)

/-- GO_TIMEOUT (R69, R75). -/
def execGoTimeout (t : Nat) (s : State) : Host.Outcome State Fault Refusal :=
  let s := s.at t
  .next (if s.pxl.link = .go then dropLink 3 s else s)

/-- RECONFIG_TIMEOUT: no valid block with the new LCN has arrived (R72, R73). -/
def execReconfigTimeout (t : Nat) (s : State) : Host.Outcome State Fault Refusal :=
  let s := s.at t
  let none_ := (lanesOf s.pxl.fmask).all (fun n => !(laneOf s n).newLcn)
  .next (if (s.pxl.link = .reconfig ∨ (s.pxl.link = .active ∧ s.pxl.prevLcn.isSome)) ∧ none_ then dropLink 4 s else s)

/-- The own rule of PXL_RETRAIN (R75). -/
def ownPxlRetrain (v : Nat) (s : State) : State × Nat :=
  (if v = 0 ∨ s.pxl.link = .disabled then s else dropLink 5 s, St.ok)

/-- PXL_RETRAIN. -/
def execPxlRetrain (t : Nat) (h : Hdr) (v : BitVec 8) (s : State) : Host.Outcome State Fault Refusal :=
  .next (writeRow h Ob.PXL_RETRAIN v.toNat ownPxlRetrain (s.at t))

/-- The own rule of PXL_ENABLE (R65). -/
def ownPxlEnable (v : Nat) (s : State) : State × Nat :=
  let s1 := oset Ob.PXL_ENABLE v s
  (if v = 0 then disableLink s1
   else if s1.boot.op = .setup ∨ s1.boot.op = .run then startLink s1 else s1, St.ok)

/-! ## Background retraining (R74) -/

/-- BACKGROUND_RETRAIN_DONE: judged as R67 states; a lane whose CDR did not lock has failed. -/
def execBackgroundRetrainDone (t : Nat) (lane : Fin 16) (eyes : List Nat) (s : State) :
    Host.Outcome State Fault Refusal :=
  let s := s.at t
  let n := lane.val
  let l := laneOf s n
  .next (if !inSession s ∨ l.bg ≠ .training ∨ oget s Ob.PXL_LANES ≤ n ∨ bit s.pxl.fmask n then s
    else if l.passes then
      offer (setCtle n (widestEye eyes) (setLane n { l with bg := .passed, good := true, lastRate := s.pxl.frate } s))
    else setLane n { l with bg := .retryWait } s)

/-- BACKGROUND_RETRY_TIMER. -/
def execBackgroundRetryTimer (t : Nat) (lane : Fin 16) (s : State) : Host.Outcome State Fault Refusal :=
  let s := s.at t
  let l := laneOf s lane.val
  .next (if inSession s ∧ l.bg = .retryWait then setLane lane.val { l with bg := .training, testBad := false } s else s)

/-! ## Relock and PRBS (R78 to R80) -/

/-- LANE_RELOCK_DONE: the link resumes with the next LCN and the same session; a lane that did not relock is lost, and when
none did the link drops (R78). -/
def execLaneRelockDone (t : Nat) (locked : BitVec 16) (s : State) : Host.Outcome State Fault Refusal :=
  let s := s.at t
  let ok := locked.toNat &&& s.pxl.fmask &&& maskOf (cfgLanes s)
  let lost := (lanesOf s.pxl.fmask).filter (fun n => !bit ok n)
  let s1 := modPxl (fun p => { p with relock := false, fwdAsleep := false, backAsleep := false, sleepReq := false }) s
  .next (if !s.pxl.relock then s
    else if !inSession s then (if s.pxl.link = .disabled then s1 else toDetect s1)
    else
      if ok = 0 then dropLink 6 s1
      else
        let s2 := loseBoundary (eachLane (fun n l => if bit ok n then
          { l with cdr := true, mlock := true, lastSeq := none, badRun := 0, stuffRun := 0, discard := true, newLcn := false } else l) s1)
        if lost.isEmpty then
          let s3 := setLink .active (modPxl (fun p => { p with lcn := (p.lcn + 1) % 16, pendMask := 0, prevLcn := none }) s2)
          offer (sendLinkstate 0 s3.pxl.fmask s3.pxl.lcn 0 0 0 s3)
        else narrow (each lost (fun n => markLost n 1) s2))

/-- The back lanes that a test puts under test, with the seed of each pattern: free, and not all zeros. -/
def prbsSeeds (s : State) (dir pat : Nat) : SMap Nat :=
  if dir = 0 then []
  else ([0, 1].filter (bit s.pxl.bmask)).map (fun n => (n, 1 + Config.freeValue (s.free + n) % (2 ^ prbsLen pat - 1)))

/-- The own rule of PXL_PRBS_START (R79, R80): LINKSTATE TEST leaves, and from the next marker boundary the lanes under test
carry the pattern. A direction that is not under test goes on. -/
def ownPrbsStart (v : Nat) (s : State) : State × Nat :=
  if v = 0 then (s, St.ok)
  else if s.boot.op ≠ .setup then (s, St.state)
  else if s.pxl.link ≠ .active ∨ s.trx.groups.any (fun e => uncommitted e.2) then (s, St.refused)
  else
    let dir := oget s Ob.PXL_PRBS_DIR
    let pat := oget s Ob.PXL_PRBS_PATTERN
    let s1 := each (List.range 16) (fun n st => oset (Ob.PXL_PRBS_ERR + n) 0 (oset (Ob.PXL_PRBS_RESYNC + n) 0 st)) s
    let s2 := sendLinkstate 3 s1.pxl.fmask s1.pxl.lcn (oget s Ob.PXL_PRBS_TIME) pat dir s1
    let s3 := flushLinkstate s2.trx.back.length s2
    let s4 := setLink .test (modPxl (fun p => { p with
      prbs := true, prbsDir := dir, prbsPat := pat, prbsTx := prbsSeeds s dir pat
      testBits := fwdRate p.frate * 1000 * oget s Ob.PXL_PRBS_TIME - prbsLen pat }) { s3 with free := s3.free + 2 })
    (if dir = 1 then s4 else loseBoundary (forgetPartial s4), St.ok)

/-- PXL_PRBS_START. -/
def execPxlPrbsStart (t : Nat) (h : Hdr) (v : BitVec 8) (s : State) : Host.Outcome State Fault Refusal :=
  .next (writeRow h Ob.PXL_PRBS_START v.toNat ownPrbsStart (s.at t))

/-- PRBS_TEST_END: the forward checkers have compared what their lanes received (R80), and both ends relock. -/
def execPrbsTestEnd (t : Nat) (received : List LineBits) (s : State) : Host.Outcome State Fault Refusal :=
  let s := s.at t
  .next (if !s.pxl.prbs then s
    else
      let fwd := decide (s.pxl.prbsDir ≠ 1)
      let s1 := if fwd then each (lanesOf s.pxl.fmask) (fun n st =>
          let c := checkBits s.pxl.prbsPat (received.getD n ⟨0, 0⟩)
          oset (Ob.PXL_PRBS_ERR + n) (min 0xFFFFFFFF c.errors) (oset (Ob.PXL_PRBS_RESYNC + n) (min 0xFFFF c.resyncs) st)) s
        else s
      modPxl (fun p => { p with prbs := false, relock := true, prbsTx := [] })
        (oset Ob.PXL_PRBS_BITS (if fwd then s.pxl.testBits else 0) s1))

/-! ## Configured lanes (R60, R76) -/

/-- The own rule of PXL_LANES. In a session it takes effect at once (log entry 83): lanes that are configured no longer
sleep, and an active one among them is gone as a lost lane is; those configured newly are retrained in the background. -/
def ownPxlLanes (v : Nat) (s : State) : State × Nat :=
  let old := oget s Ob.PXL_LANES
  let s1 := plainWrite Ob.PXL_LANES v s
  if !inSession s then (s1, St.ok)
  else
    let gone := (lanesOf s.pxl.fmask).filter (fun n => decide (v ≤ n))
    let s2 := eachLane (fun n l => if old ≤ n ∧ n < v then l.retrain else if v ≤ n then l.restart else l) (each gone resetLane s1)
    (if !gone.isEmpty ∧ (s.pxl.link = .active ∨ s.pxl.link = .reconfig) then narrow s2 else s2, St.ok)

end Sys2Proof.Machine
end

