-- ==== Sys2Proof/Machine/Trx.lean ====
section
/-!
DEFINITION. The tile transaction layer's commands (chapter 04): forward packets, LINKCTL, the decode instances, the commit
engine and the back packets.
-/

namespace Sys2Proof.Machine

/-! ## Forward packets -/

/-- TILE: its last word has arrived. Header checks that were made on its header stand (R85, R119). -/
def execTile (t : Nat) (hdr : BitVec 128) (payload : List (BitVec 32)) (crc : BitVec 32) (s : State) :
    Host.Outcome State Fault Refusal :=
  let s := s.at t
  let h := tileHdrOf hdr.toNat
  .next (if !linkUp s then s
    else
      let s1 := evc 0x30 (acceptPkt s)
      match s1.trx.incoming.find? (fun x => decide (x.hdr = h)) with
      | some x => knownTile x payload crc.toNat s1
      | none => newTile h payload crc.toNat s1)

/-- TOKEN: staged in its group, or applied and ACKed (R118). -/
def execToken (t : Nat) (hdr : BitVec 128) (s : State) : Host.Outcome State Fault Refusal :=
  let s := s.at t
  let k := tokenHdrOf hdr.toNat
  .next (if !linkUp s then s
    else
      let s1 := evc 0x31 (acceptPkt s)
      let e := tokenErr s1 k
      if e ≠ 0 then rejectPkt true k.tag k.gen e k.srcf (if k.ingrp then some k.group else none) s1
      else
        let s2 := takeToken k s1
        if k.ingrp then
          tryComplete k.group (joinGroup k.tag k.group [] (setTag k.tag { tagOf s2 k.tag with state := .staged } s2))
        else applyToken k.tag s2)

/-- GROUP_BEGIN (R102). -/
def execGroupBegin (t : Nat) (hdr : BitVec 128) (s : State) : Host.Outcome State Fault Refusal :=
  let s := s.at t
  let g := field hdr.toNat 102 6
  let gen := field hdr.toNat 121 3
  .next (if !linkUp s then s
    else
      let s1 := acceptPkt s
      let gr := groupOf s1 g
      let e := firstErr [need (decide (s1.boot.op = .run)) 0x0E, need (decide (gr.state = .free)) 0x20,
        need (decide (gr.gen ≠ gen)) 0x08]
      if e ≠ 0 then sendNak (.mk .nak 1 gen 0 g 0 (nakWord e 0 0) 0 []) s1
      else setGroup g { Group.none with gen := gen, state := .opened, begun := s1.now } s1)

/-- GROUP_END (R105): stray, or it ends its group. -/
def execGroupEnd (t : Nat) (hdr : BitVec 128) (s : State) : Host.Outcome State Fault Refusal :=
  let s := s.at t
  let f := groupEndOf hdr.toNat
  let g := f.group
  .next (if !linkUp s then s
    else
      let s1 := acceptPkt s
      let gr := groupOf s1 g
      if (gr.state ≠ .opened ∧ gr.state ≠ .aborted) ∨ gr.gen ≠ f.gen ∨ gr.ended then cnt Ob.TRX_STRAYEND s1
      else if gr.state = .aborted then nakGroup g gr.reason gr.detail s1
      else
        let s2 := setGroup g { gr with
          ended := true, count := f.count, execLate := f.execLate, atEpoch := if f.atEpoch then some f.epoch else none } s1
        if f.abort then abortGroup g 0x23 0 s2
        else if f.count ≠ gr.members.length ∨ 8192 < f.count then abortGroup g 0x21 0 s2
        else tryComplete g s2)

/-- An SM02 failure (R114, R115, R284): a safety event, the suspension of vermilion positions, and the loss of the SOURCE
reference (R411). -/
def sm02Fails (s : State) : State :=
  let s1 := safetyEvent 2 s
  sourceLost { s1 with safe := { s1.safe with sm02At := some s1.now } }

/-- SRCFRAME (R114). -/
def execSrcframe (t : Nat) (hdr : BitVec 128) (s : State) : Host.Outcome State Fault Refusal :=
  let s := s.at t
  let f := field hdr.toNat 32 32
  .next (if !linkUp s then s
    else
      let s1 := acceptPkt s
      if s1.trx.history.isEmpty ∨ newer f s1.trx.lastSrcf then
        sourceTick (evc 0x37 { s1 with trx := { s1.trx with
          history := ((f, s1.now / 1000 * 1000) :: s1.trx.history).take 256
          lastSrcf := f, gapFrom := s1.now, gapDone := false } })
      else
        sm02Fails (backEvent 2 s1.trx.lastSrcf f (evc 0x38 (cnt Ob.TRX_SRCF_REJECT s1))))

/-- Milliseconds since the last accepted SRCFRAME arrived. -/
def silentMs (s : State) : Nat := (s.now - s.gyl.srcAt) / 1000000

/-- SOURCE_SILENT: the gap has reached 50 ms in RUN in P0 (R115). Where no SRCFRAME has ever arrived, the time since it is a
free value (log entry 47). -/
def execSourceSilent (t : Nat) (s : State) : Host.Outcome State Fault Refusal :=
  let s := s.at t
  .next (if s.boot.op ≠ .run ∨ s.pwr.state ≠ .p0 ∨ s.trx.gapDone ∨ s.now < s.trx.gapFrom + 50000000 then s
    else
      let s1 := sm02Fails { s with trx := { s.trx with gapDone := true } }
      if s.gyl.srcAt = 0 then tookFree (backEvent 3 s.trx.lastSrcf (freeOf s1 % 2 ^ 32) s1)
      else backEvent 3 s.trx.lastSrcf (silentMs s) s1)

/-! ## LINKCTL and lost headers -/

/-- LINKCTL_SWITCH: the pending configuration is put in force (R74). -/
def execLinkctlSwitch (t : Nat) (s : State) : Host.Outcome State Fault Refusal :=
  let s := s.at t
  .next (if !linkUp s then s else takeOffer (acceptPkt s))

/-- LINKCTL_SLEEP: the source's answer to LINKSTATE SLEEP; the forward direction sleeps (R76, R77). -/
def execLinkctlSleep (t : Nat) (s : State) : Host.Outcome State Fault Refusal :=
  let s := s.at t
  .next (if !linkUp s then s
    else
      let s1 := acceptPkt s
      if s1.pxl.sleepReq then
        setLink .sleep (modPxl (fun p => { p with sleepReq := false, fwdAsleep := true })
          (loseBoundary (eachLane (fun _ l => { l with cdr := false, mlock := false, lastSeq := none })
            (each (List.range 16) resetLane s1))))
      else s1)

/-- The back lanes of a mask are lost (R73, R75). -/
def loseBack (lost : Nat) (s : State) : State :=
  let left := maskOf ([0, 1].filter (fun n => bit s.pxl.bmask n && !bit lost n))
  if left = s.pxl.bmask then s
  else if left = 0 then dropLink 2 s
  else
    let s1 := eachLane (fun _ l => { l with newLcn := false, pendSeq := none }) s
    let s2 := modPxl (fun p => { p with
      bmask := left, lcn := (p.lcn + 1) % 16, pendMask := 0, pendLcn := 0
      prevLcn := if p.link = .active then some p.lcn else none }) s1
    sendLinkstate 0 s2.pxl.fmask s2.pxl.lcn 0 0 0 s2

/-- LINKCTL_BACKLOSS: the back width falls to 1 with the next LCN, or the link drops (R73, R75). -/
def execLinkctlBackloss (t : Nat) (hdr : BitVec 128) (s : State) : Host.Outcome State Fault Refusal :=
  let s := s.at t
  .next (if !linkUp s then s
    else loseBack (linkctlLost hdr.toNat) (acceptPkt s))

/-- LINKCTL_DIGEST_REQ (R123). -/
def execLinkctlDigestReq (t : Nat) (s : State) : Host.Outcome State Fault Refusal :=
  let s := s.at t
  .next (if !linkUp s then s
    else
      let s1 := acceptPkt s
      sendDigest 0 s1.trx.accepted s1)

/-- LINKCTL_BADOP: an OP other than 1 to 4 is accepted, ignored and counted (R92). -/
def execLinkctlBadop (t : Nat) (hdr : BitVec 128) (s : State) : Host.Outcome State Fault Refusal :=
  let s := s.at t
  let op := linkctlOp hdr.toNat
  .next (if !linkUp s ∨ (1 ≤ op ∧ op ≤ 4) then s else cnt Ob.TRX_BADOP (acceptPkt s))

/-- HEADER_LOST (R89). -/
def execHeaderLost (t : Nat) (s : State) : Host.Outcome State Fault Refusal :=
  let s := s.at t
  .next (if !linkUp s then s
    else backEvent 1 0 s.trx.accepted (evc 0x36 (cnt Ob.TRX_HDRLOST (loseBoundary (forgetPartial s)))))

/-! ## Decode instances (R141 to R145) -/

/-- LAKE_TILE_DECODED: an instance has decoded the tile it decodes first. -/
def execLakeTileDecoded (t : Nat) (tag : BitVec 13) (s : State) : Host.Outcome State Fault Refusal :=
  let s := s.at t
  let k := tag.toNat
  let first := [0, 1].any (fun i => decide ((instHeld s i).head? = some k))
  .next (if first && (tagOf s k).decoding && decide ((tagOf s k).state = .receiving) then tileDecoded k s else s)

/-! ## Group timeout -/

/-- GROUP_TIMEOUT (R107). -/
def execGroupTimeout (t : Nat) (group : BitVec 6) (s : State) : Host.Outcome State Fault Refusal :=
  let s := s.at t
  let g := group.toNat
  let gr := groupOf s g
  .next (if s.now < gr.begun + 1000000 * oget s Ob.TRX_GRP_TIMEOUT then s
    else if gr.state = .aborted then nakGroup g gr.reason gr.detail s
    else if gr.state = .opened then abortGroup g 0x22 0 (setGroup g { gr with ended := true } s)
    else s)

/-! ## The commit engine (R108, R111 to R113, R219) -/

/-- Member TILEs whose position has become vermilion while their format does not qualify (R113). -/
def unfitTiles (s : State) (g : Nat) : List Nat :=
  (groupOf s g).members.filter (fun t =>
    let x := tagOf s t
    !x.token && decide ((classNow s x.tx x.ty).1 = 2) && !fmtQual x.fmt x.code)

/-- The run of a group is discarded (R113). -/
def discardRun (g first : Nat) (s : State) : State :=
  let ms := (groupOf s g).members
  let bad := unfitTiles s g
  let s1 := { s with trx := { s.trx with queue := s.trx.queue.filter (fun e => decide (e.group ≠ g)), run := none } }
  runEnded g (nakGroup g 0x26 first (each ms (fun t => nakTx t (if bad.contains t then 0x05 else 0x10) 0 0) s1))

/-- A group shares a tile row with a HELD group whose swaps are still to come (R108). -/
def waitsHeld (s : State) (g : Nat) : Bool :=
  let rows := ((groupOf s g).members.filter (fun t => !(tagOf s t).token)).map (fun t => (tagOf s t).ty)
  s.scan.pos.any (fun e => e.2.pendHeld && e.2.pend.isSome && rows.contains (e.1 / 120))

/-- The back side of a tile's position may still be fetched by the shadow checker (R219). -/
def waitsSwap (s : State) (t : Nat) : Bool :=
  let x := tagOf s t
  !x.token && (match (posOf s (posKey x.tx x.ty)).swapSlot with
    | some n => decide (s.scan.slotNo < n + 16)
    | none => false)

/-- The copy of an entry starts: a swap of its position that is still pending is overtaken (R218). -/
def startCopy (e : QEntry) (rest : List QEntry) (s : State) : State :=
  let x := tagOf s e.tag
  let s1 := if x.token then s else overtakePend (posKey x.tx x.ty) s
  { s1 with trx := { s1.trx with queue := rest, copying := some e } }

/-- COMMIT_ENGINE_POP: the next entry is popped and its copy starts, unless it has to wait. -/
def execCommitEnginePop (t : Nat) (s : State) : Host.Outcome State Fault Refusal :=
  let s := s.at t
  .next (if s.trx.copying.isSome then s
    else
      match s.trx.queue with
      | [] => s
      | e :: rest =>
        let starts := decide (s.trx.run ≠ some e.group)
        match (unfitTiles s e.group).head? with
        | some bad =>
          if starts then discardRun e.group bad s
          else if waitsSwap s e.tag then s
          else startCopy e rest s
        | none =>
          if starts ∧ (groupOf s e.group).atEpoch.isNone ∧ waitsHeld s e.group then s
          else if waitsSwap s e.tag then s
          else
            let s1 := startCopy e rest (setGroup e.group { groupOf s e.group with state := .committing } s)
            { s1 with trx := { s1.trx with run := some e.group } })

/-- COMMIT_COPY_DONE: the copy is complete; with the last entry the group commits (R112). -/
def execCommitCopyDone (t : Nat) (s : State) : Host.Outcome State Fault Refusal :=
  let s := s.at t
  .next (match s.trx.copying with
    | none => s
    | some e =>
      let s1 := { s with trx := { s.trx with copying := none } }
      let s2 := if (tagOf s1 e.tag).token then s1 else copyTile e.tag s1
      if e.last then runEnded e.group (commitGroup e.group { s2 with trx := { s2.trx with run := none } }) else s2)

/-! ## Back packets (R93 to R97) -/

/-- BACK_PACKET_SEND: the next ready back packet leaves (R97). -/
def execBackPacketSend (t : Nat) (s : State) : Host.Outcome State Fault Refusal :=
  .next (sendNext (s.at t))

end Sys2Proof.Machine
end

