-- ==== Sys2Proof/Machine/Cdc.lean ====
section
/-!
DEFINITION. The clock monitor and the resets of the clocked domains (R294, R459, R465 to R471).
-/

namespace Sys2Proof.Machine

/-- The subindex of a domain (R393). -/
def domainSub : Domain → Nat
  | .lane n => n.val + 1
  | .band n => n.val + 0x13
  | .raster => 0x17
  | .can => 0x18
  | .spi => 0x19
  | .pmbus => 0x1A
  | .qspi => 0x1B
  | .aon => 0x1C

/-- The monitor watches the domain (R468): not while it is gated or has timed out, nor a lane that is not locked. -/
def monitored (s : State) (d : Domain) : Bool :=
  decide (s.boot.stage = .started) &&
  (match d with
   | .lane n =>
     if n.val < 16 then decide (n.val < oget s Ob.PXL_LANES) && laneReady s n.val
     else decide (n.val - 16 < oget s Ob.PXL_BACK_LANES) && crossUp s (n.val + 1)
   | .band n => decide (n.val < bandCount s) && decide ((crossOf s (n.val + 0x13)).state ≠ .timeout)
   | d => decide ((crossOf s (domainSub d)).state ≠ .timeout))

/-- A domain's crossings enter a state. -/
def setXState (sub : Nat) (v : XState) (s : State) : State := setCross sub { crossOf s sub with state := v } s

/-- What a timeout records: its time, SM16 and CDC_TIMEOUT (R468, R469, R492). -/
def timedOut (sub : Nat) (s : State) : State :=
  let s1 := setCross sub { crossOf s sub with outAt := s.now } s
  evc 0xDC (cnt (Ob.CDC_TIMEOUT + sub - 1) (failure 16 s1))

/-- The crossings are in TIMEOUT, and the time until the reset of their domain has passed (R469). -/
def resetDue (sub wait : Nat) (s : State) : Bool :=
  decide ((crossOf s sub).state = .timeout) && decide ((crossOf s sub).outAt + wait ≤ s.now)

/-- SM16's cause stays while a band PLL, the raster timebase or the always-on oscillator has not come back. -/
def sm16Active (s : State) : Bool :=
  [0x13, 0x14, 0x15, 0x16, 0x17, 0x1C].any (fun k => decide ((crossOf s k).state = .timeout))

/-- CLOCK_MONITOR_TIMEOUT: SM16, the flush, and the reaction of the domain (R294, R468). A lane's reset is its loss. -/
def execClockMonitorTimeout (t : Nat) (domain : Domain) (s : State) : Host.Outcome State Fault Refusal :=
  let s := s.at t
  let k := domainSub domain
  let hold (st : State) : State := xflush k (setXState k .timeout (timedOut k st))
  .next (if !monitored s domain then s
    else match domain with
      | .lane n =>
        let s1 := timedOut k s
        if n.val < 16 then
          tryDetect (failLane n.val 1 (setLane n.val { laneOf s1 n.val with cdr := false, mlock := false, lastSeq := none }
            (resetLane n.val s1)))
        else
          let s2 := setXState k .peerReset (xflush k s1)
          if inSession s2 then loseBack (2 ^ (n.val - 16)) s2 else s2
      | .band b => bandReaction 16 b.val true false (setDlk b.val { dlkOf s b.val with state := .off, readyDue := false } (hold s))
      | .raster => deviceReaction 16 true false (hold s)
      | .aon => deviceReaction 16 true false (hold s)
      | .can => hold s
      | .spi => hold s
      | .qspi => hold s
      | .pmbus =>
        let s1 := hold s
        match s1.pwr.pmb with
        | some r => attemptFailed r s1
        | none => s1)

/-- INTERFACE_RESET_TIMER: a CAN, SPI, PMBus or QSPI domain is reset 100 µs after its timeout, with no second flush (R469). -/
def execInterfaceResetTimer (t : Nat) (domain : Domain) (s : State) : Host.Outcome State Fault Refusal :=
  let s := s.at t
  let k := domainSub domain
  let iface := decide (0x18 ≤ k ∧ k ≤ 0x1B)
  .next (if iface ∧ resetDue k 100000 s then setXState k .peerReset s else s)

/-- BAND_PLL_RESET_TIMER: SAF resets and relocks a band PLL 1 ms after its timeout; once locked, the link trains from DETECT
(R254, R469). -/
def execBandPllResetTimer (t : Nat) (band : Fin 4) (relocked : Bool) (s : State) : Host.Outcome State Fault Refusal :=
  let s := s.at t
  let k := band.val + 0x13
  .next (if resetDue k 1000000 s then
      let s1 := setXState k .peerReset s
      if relocked then
        let s2 := setMech 16 { mechOf s1 16 with active := sm16Active s1 } s1
        if s2.pins.pen3 then startTraining band.val false s2 else s2
      else s1
    else s)

/-- PEER_RESET_CLEAR: both indications have cleared, and both sides start from empty pointers (R465). -/
def execPeerResetClear (t : Nat) (domain : Domain) (s : State) : Host.Outcome State Fault Refusal :=
  let s := s.at t
  let k := domainSub domain
  .next (if (crossOf s k).state = .peerReset then setXState k .ready s else s)

end Sys2Proof.Machine
end

