-- ==== Sys2Proof/Machine/Mdl.lean ====
section
/-!
DEFINITION. The mordant ledger's row update (R257 to R265) and the shadow checker's report (R290 to R292).
-/

namespace Sys2Proof.Machine

/-! ## The ledger -/

/-- A row's update falls due in this frame (R258). -/
def updateDue (s : State) (b row : Nat) : Bool :=
  decide (s.boot.op = .run) && (decide (s.pwr.state = .p0) || decide (s.pwr.state = .p1)) && oflag s Ob.MDL_ENABLE
    && decide (row < bandH s) && decide (b < bandCount s) && decide (row % 16 = s.scan.epoch % 16) && decide (row ≤ s.scan.slot)
    && decide (get (fun _ => 0) s.wear.updated (8192 * b + row) ≠ s.scan.epoch + 1)

/-- The update of one live subpixel (R259 to R262), its counts, and WEAR's age limit (R265). -/
def updateSub (b row sub : Nat) (y8 : List Nat) (s : State) : State :=
  let y := panelRow s b row
  let a := ageOf s sub y
  if a = 0xFFFF then s
  else
    let c := sub % 3
    let live := decide ((bandScan s b).state = 0)
    let k := if live then y8.getD sub 0 else 0
    let tupd := oget s Ob.MDL_TUPD
    let duty := oget s (Ob.SCAN_DUTY + b)
    let j := sub / rget s Ob.DLK_NCH
    let writes := get (fun _ => 0) s.wear.confirm (32 * (8192 * b + row) + j)
    let emit (i : Nat) : Nat := tab8 (dget s (Ob.MDL_EMIT + c)) i
    let fresh := !(get (fun _ => false) s.wear.zeroed (subKey sub y))
    let (bias, clamped, age) := ledgerUpdate (tab8 (dget s (Ob.MDL_STRESS + c))) emit
      (fun i => relief (oget s (Ob.MDL_RELIEF + i)) (oget s Ob.MDL_TWIN)) (oget s (Ob.MDL_RECMAX + c)) tupd duty writes k
      (live && fresh) sub y s.scan.epoch (biasOf s sub y) a
    let s1 := map16 (ageAt sub y) age (mem16 (biasAt sub y) (ofSigned 16 bias) s)
    let s2 := if clamped then evc 0xC1 (cnt Ob.MDL_BSAT s1) else s1
    let s3 := if age = 0xFFFE ∧ a ≠ 0xFFFE then cnt Ob.MDL_ASAT s2 else s2
    let dose := if live && fresh then (interp65 emit k).toNat * duty * tupd else 0
    let i := posKey (subPos sub y).1 (subPos sub y).2 * 3 + c
    let s4 := { s3 with wear := { s3.wear with
      dose := upd (fun _ => 0) s3.wear.dose i (· + dose)
      bmax := max s3.wear.bmax bias.natAbs
      bexcess := if 16384 < bias.natAbs then s3.wear.bexcess + 1 else s3.wear.bexcess } }
    if oget s4 (Ob.WEAR_AGELIMIT + c) ≤ age ∧ !bit (defectOf s4 sub y) 0 then spendEmitter sub y b row false s4 else s4

/-- LEDGER_ROW_UPDATE: MDL updates a due band row after its image write (R258). -/
def execLedgerRowUpdate (t : Nat) (band : Fin 4) (row : Nat) (s : State) : Host.Outcome State Fault Refusal :=
  let s := s.at t
  let b := band.val
  .next (if !updateDue s b row then s
    else
      let k := 8192 * b + row
      let y8 := get (fun _ => []) s.wear.sample k
      let y := panelRow s b row
      let n := 2 * lineSubs s
      let s0 := readPoison (poisonIn s (biasAt 0 y) (biasAt 0 y + n) ++ poisonIn s (ageAt 0 y) (ageAt 0 y + n)) s
      let s1 := each (List.range (lineSubs s)) (fun sub => updateSub b row sub y8) s0
      let lo := subKey 0 y
      evc 0xC0 (cnt Ob.MDL_ROWS { s1 with wear := { s1.wear with
        confirm := splice s1.wear.confirm (32 * k) (32 * (k + 1)) []
        zeroed := splice s1.wear.zeroed lo (lo + 32768) []
        sample := del s1.wear.sample k
        updated := ins s1.wear.updated k (s1.scan.epoch + 1) } }))

/-! ## The shadow checker -/

/-- A value of the checker: pixel, component and the value. Components 0 to 2 are the codes, 3 to 5 the precharge indices. -/
def differs (x : Sent) (c : Nat × Nat × Nat) : Bool :=
  let (px, comp, v) := c
  if comp < 3 then decide (x.codes.getD (3 * px + comp) 0 ≠ v) else decide (x.idx.getD (3 * px + comp - 3) 0 ≠ v)

/-- What the checker computes for a pixel: stages 1 to 10 again, from the store, the latched parameters, the hatch decisions and the
codes of the row before (R290, R291). -/
def recompute (s : State) (l : Latch) (b : Nat) (x : Sent) (px : Nat) : List (Nat × Nat × Nat) :=
  let y := panelRow s b x.row
  let y8 := (pixelOut s l b y x.ovls x.sides px).map (·.1)
  y8.zipIdx.map (fun p => (px, p.2, codeSent l y (3 * px + p.2) p.1)) ++
  y8.zipIdx.map (fun p => (px, p.2 + 3, idxSent l x.before (3 * px + p.2) p.1))

/-- SHADOW_ROW_CHECKED: the checker recomputes the sampled pixels of a row and compares them with those sent; any difference fails
SM07 (R290 to R292). `codes` names the values at which a fault of the checker's own datapath gives another result. Writes that
waited for the row's check are made (R180). -/
def execShadowRowChecked (t : Nat) (band : Fin 4) (row : Nat) (codes : List (Fin 7680 × Fin 6 × BitVec 10)) (lag : Nat)
    (s : State) : Host.Outcome State Fault Refusal :=
  let s := s.at t
  let b := band.val
  let bs := bandScan s b
  .next (match bs.hist.find? (fun x => decide (x.row = row)) with
    | none => s
    | some x =>
      match latchFor s x.epoch with
      | none => s
      | some l =>
        let y := panelRow s b row
        let px := sampled s l y
        let fault (c : Nat × Nat × Nat) : Nat × Nat × Nat :=
          match codes.find? (fun f => decide (f.1.val = c.1) && decide (f.2.1.val = c.2.1)) with
          | some f => (c.1, c.2.1, f.2.2.toNat)
          | none => c
        let bad := ((px.flatMap (recompute s l b x)).map fault).filter (differs x)
        let s1 := releaseWrites (setBandScan b { bs with
          hist := bs.hist.filter (fun z => decide (z.row ≠ row))
          shadowDue := if x.epoch = s.scan.epoch then bs.shadowDue - px.length else bs.shadowDue
          shadowNext := if x.epoch = s.scan.epoch + 1 then bs.shadowNext - px.length else bs.shadowNext } s)
        let s2 := oset Ob.IND_SHADOW_LAG (max (oget s1 Ob.IND_SHADOW_LAG) (min lag 0xFFFF))
          { s1 with scan := { s1.scan with shadowPix := s1.scan.shadowPix + px.length } }
        let s3 := each bad (fun c st =>
          evc (0x68 + 8 * b + 3) (cnt (Ob.IND_SM07 + b)
            (oset Ob.IND_SHADOW_FIRST (c.1 * 2 ^ 19 + y * 2 ^ 6 + min c.2.1 3 * 16) st))) s2
        if bad.isEmpty then s3 else bandReaction 7 b false false (failure 7 s3))

end Sys2Proof.Machine
end

