-- ==== Sys2Proof/Machine/ReadObj.lean ====
section
/-!
DEFINITION. What an object reads as: the live objects that other state determines, the windows (R380, R394 to R397), and
the DOM objects (R365, R396). An object named nowhere here reads as it was last written or set.
-/

namespace Sys2Proof.Machine

/-! ## Codes -/

/-- PXL_LINK (R65). -/
def LinkState.code : LinkState → Nat
  | .disabled => 0 | .detect => 1 | .negotiate => 2 | .stepBack => 3 | .stepFwd => 4 | .go => 5 | .active => 6
  | .reconfig => 7 | .test => 8 | .sleep => 9

/-- The tag state codes (R98). -/
def TagState.code : TagState → Nat
  | .free => 0 | .receiving => 1 | .staged => 2 | .queued => 3 | .copied => 4 | .verifying => 5 | .held => 6

/-- The group state codes of TRX_GROUP. -/
def GroupState.code : GroupState → Nat
  | .free => 0 | .opened => 1 | .aborted => 2 | .complete => 3 | .held => 4 | .committing => 5

/-- The slot state codes (R149). -/
def JobState.code : JobState → Nat
  | .idle => 0 | .running => 1 | .waiting => 2 | .done => 3 | .outFull => 4 | .inEmpty => 5 | .noFit => 6 | .escape => 7
  | .decodeErr => 8 | .suspended => 9 | .cancelled => 10 | .fault => 11

/-- The driver link state codes (R253). -/
def DlkState.code : DlkState → Nat
  | .off => 0 | .detect => 1 | .negotiate => 2 | .step => 3 | .config => 4 | .ready => 5 | .run => 6 | .hold => 7
  | .failed => 8

/-- The rail state codes (R310). -/
def RailState.code : RailState → Nat
  | .off => 0 | .opening => 1 | .rising => 2 | .on => 3 | .falling => 4 | .cut => 5

/-- The crossing state codes of CDC_XSTAT. -/
def XState.code : XState → Nat
  | .ready => 0 | .peerReset => 1 | .flushing => 2 | .timeout => 3

/-- The calibration state codes (R344). -/
def CalState.code : CalState → Nat
  | .idle => 0 | .running => 1 | .abandoned => 2 | .complete => 3 | .committing => 4

/-- The bank state codes of BNK_STATE. -/
def BankPhase.code : BankPhase → Nat
  | .stable => 0 | .pending => 1 | .clearing => 2

/-- The power state codes of PWR_STATE; P3 is never read, as the controller die is off. -/
def PowerState.code : PowerState → Nat
  | .p0 => 0 | .p1 => 1 | .p2 => 2 | .p3 => 0

/-- The entry codes of PWR_ENTRY. -/
def EntryState.code : EntryState → Nat
  | .idle => 0 | .inProgress => 1 | .waitRetry => 2 | .done => 3 | .failed => 4 | .aborted => 5

/-! ## Positions -/

/-- A position lies on the configured panel. -/
def onPanel (s : State) (tx ty : Nat) : Bool := decide (tx < tileCols s) && decide (ty < tileRows s)

/-- The overlay and cause of a position in the current frame: its judgement, or before it what FRS finds at the frame
start (R282, R285), in bands of every state (R307). -/
def overlayNow (s : State) (tx ty : Nat) : Nat × Nat :=
  let judged := match (posOf s (posKey tx ty)).judged with
    | some (e, oc) => if e = s.scan.epoch then some (oc / 8, oc % 8) else none
    | none => none
  match judged, s.scan.latch with
  | some r, _ => r
  | none, some l => overlayOf l (overlayCauses s l tx ty s.scan.frameAt)
  | none, none => (0, 0)

/-- An element of the tile age table (R285). -/
def ageElem (s : State) (tx ty : Nat) : Nat :=
  if onPanel s tx ty then
    let o := overlayNow s tx ty
    shownClass s tx ty * 2 ^ 30 + o.1 * 2 ^ 28 + o.2 * 2 ^ 25 + b2n (posOf s (posKey tx ty)).shown.qual * 2 ^ 24 +
      (posOf s (posKey tx ty)).age
  else 0x00FFFFFF

/-- A position is suspended by SM02 (R284). -/
def suspended (s : State) (tx ty : Nat) : Bool :=
  decide (shownClass s tx ty = 2) &&
  (match (posOf s (posKey tx ty)).shown.vouched, s.safe.sm02At with
   | some v, some f => decide (v < f)
   | _, _ => false)

/-! ## Windows -/

/-- An element of TAG_STATE (R101). -/
def tagElem (g : Tag) : Nat := g.gen * 32 + b2n g.token * 16 + b2n g.seenMark * 8 + g.state.code

/-- An element of TRX_QWIN (R394). -/
def queueElem (s : State) (e : QEntry) : Nat :=
  let g := tagOf s e.tag
  b2n e.last * 2 ^ 31 + b2n g.token * 2 ^ 30 + g.gen * 2 ^ 27 + e.tag * 2 ^ 14 + e.group * 2 ^ 8

/-- Word `k` of a driver record, the most significant first. -/
def recWord (r : BitVec 192) (k : Nat) : Nat := field r.toNat (64 * (2 - k)) 64

/-- Driver `d` = 24 × band + driver is one the configuration uses. -/
def drvUsed (s : State) (d : Nat) : Bool := decide (d / 24 < bandCount s) && decide (d % 24 < rget s Ob.DLK_NDRV)

/-- The most recent record of a driver. -/
def lastRec (s : State) (d : Nat) : BitVec 192 := if drvUsed s d then (look s.drvRec d).getD 0 else 0

/-- READ of word `k` of driver `d` on a port: word 0 latches the record (R395). -/
def readRep (p : Port) (d k : Nat) (s : State) : State × Nat :=
  let v := portOf s p
  if k = 0 then
    (setPort p { v with repLatch := put (fun _ => 0) v.repLatch d (lastRec s d) } s, recWord (lastRec s d) 0)
  else (s, recWord (get (fun _ => 0) v.repLatch d) k)

/-- READ of a window element: its size in bytes and its value (R380, R394). -/
def readWin (p : Port) (base e : Nat) (s : State) : State × Nat × Nat :=
  if e = 0 then (s, 4, (windows.find? (fun w => decide (w.1 = base))).elim 0 (·.2.2))
  else if base = 0x7000 then (s, 4, ageElem s ((e - 1) % 120) ((e - 1) / 120))
  else if base = 0x7100 then (s, 1, tagElem (tagOf s (e - 1)))
  else if base = 0x7200 then
    let r := readRep p ((e - 1) / 3) ((e - 1) % 3) s
    (r.1, 8, r.2)
  else (s, 4, (s.trx.queue[e - 1]?).elim 0 (queueElem s))

/-! ## DRAM as an upload or a live window reads it -/

/-- Read `n` bytes at `a`: what a poisoned word delivers is not stated, a free value, and the read is counted (R161). -/
def readMem (a n : Nat) (s : State) : State × List Byte :=
  if anyPoison s a n then
    let f := freeOf s
    let bs := (List.range n).map (fun i =>
      if poisoned s (a + i) then BitVec.ofNat 8 (f / 256 ^ i) else memByte s (a + i))
    (tookFree (cnt Ob.FST_ECC_UNCORR s), bs)
  else (s, memBytes s a n)

/-- READ of element `m` of MDL_LEDWIN on a port (R397). -/
def readLed (p : Port) (m : Nat) (s : State) : State × Nat :=
  let y := oget s (Ob.MDL_LEDCUR_YCAN + 2 * portNo p)
  let sub := oget s (Ob.MDL_LEDCUR_YCAN + 2 * portNo p + 1) + m - 1
  if 23040 ≤ sub ∨ lineSubs s ≤ sub then (s, 0)
  else
    let (s1, b) := readMem (biasAt sub y) 2 s
    let (s2, a) := readMem (ageAt sub y) 2 s1
    (s2, ofBE b * 65536 + ofBE a)

/-! ## Live objects -/

/-- DEV_ERRREG (R388). -/
def errReg (s : State) : Nat :=
  let any (f : Nat → Nat → Bool) : Bool := (allPos s).any (fun p => f p.1 p.2)
  ofBits [
    decide (s.boot.op = .safeDark),
    [0, 1, 2, 3].any (fun b => decide (bandStateDue s b = 2)),
    any (fun x y => decide ((overlayNow s x y).1 ≠ 0)),
    any (suspended s),
    decide (s.pxl.link ≠ .active),
    (List.range (bandCount s)).any (fun b => decide ((dlkOf s b).state = .failed)),
    !oflag s Ob.SAF_SEALED,
    decide (oget s Ob.PNL_VRESSTAT ≠ 1),
    decide (s.cal.state = .abandoned),
    decide (2 ≤ oget s Ob.FST_REFRESH_STEP),
    any (fun x y => decide (shownClass s x y = 2) && decide (get (fun _ => 0) s.wear.dead (posKey x y) ≠ 0)),
    s.scan.urTimes.any (fun t => decide (s.now < t + 1000000000)),
    decide (oget s Ob.SAF_PATCH_STAT = 3),
    decide (oget s Ob.JRN_FAULT ≠ 0)]

/-- WNP_SESS of a port. -/
def sessWord (v : PortState) : Nat :=
  v.gen * 2 ^ 28 + v.level * 2 ^ 26 + b2n v.active * 2 ^ 25 + b2n v.transfer.isSome * 2 ^ 24 + outstanding v * 2 ^ 17

/-- Live objects of 0x1000 to 0x1FFF (R387 to R390, R350, R371). -/
def liveDev (s : State) (ix sub : Nat) : Option Nat :=
  if ix = 0x1000 then
    (if sub = 3 then some Config.stepping.toNat
     else if sub = 6 then some (min ((s.now - s.boot.upSince) / 1000000000) 0xFFFFFFFF) else none)
  else if ix = 0x1001 then some s.boot.op.code
  else if ix = 0x1002 then some (errReg s)
  else if ix = 0x1003 then some ((look s.evlog.entries sub).elim 0 EvEntry.word)
  else if ix = 0x1004 then some ((look s.evlog.entries sub).elim 0 (·.epoch))
  else if ix = 0x1005 then some (if sub = 1 then s.evlog.next else s.evlog.total)
  else if ix = 0x1100 ∧ sub = 4 then some (nodeAddr s)
  else if ix = 0x1101 then some (sessWord (if sub = 1 then s.mgt.can else s.mgt.spi))
  else if ix = 0x1201 ∧ sub = 1 then
    some (ofBits [!(dget s Ob.ACC_KEY).isEmpty, !(dget s (Ob.ACC_KEY + 1)).isEmpty, s.boot.factoryKey.isSome])
  else if ix = 0x1202 then some Config.uid.toNat
  else none

/-- PXL_LANESTAT of a lane. -/
def laneStat (s : State) (n : Nat) : Nat :=
  let l := laneOf s n
  ofSigned 8 (clampI (-128) 127 l.skew) * 2 ^ 24 + l.lastRate * 2 ^ 12 + l.lossCause * 2 ^ 8 + b2n (bit s.pxl.pendMask n) * 8 +
    b2n (bit s.pxl.fmask n) * 4 + b2n l.mlock * 2 + b2n l.cdr

/-- TRX_GROUP of a group id. -/
def groupWord (s : State) (g : Group) : Nat :=
  g.gen * 2 ^ 29 + g.state.code * 2 ^ 26 +
    (g.members.filter (fun t => decide ((tagOf s t).state ≠ .receiving))).length * 2 ^ 12

/-- Live objects of 0x2000 to 0x2FFF. -/
def liveLink (s : State) (ix sub : Nat) : Option Nat :=
  if ix = 0x2001 then
    some ([s.pxl.link.code, s.pxl.frate, s.pxl.brate, s.pxl.fmask, s.pxl.bmask, s.pxl.lcn, s.pxl.session, s.pxl.pendMask,
      s.pxl.downCause].getD (sub - 1) 0)
  else if ix = 0x2010 then some (laneStat s (sub - 1))
  else if ix = 0x2101 ∧ sub ≤ 7 then
    let age := match s.trx.history with
      | (_, t) :: _ => min ((s.now - t) / 1000) 0xFFFFFFFF
      | [] => 0xFFFFFFFF
    some ([(busyTags s).length, (s.trx.groups.filter (fun e => decide (e.2.state ≠ .free))).length, s.trx.queue.length,
      s.trx.lastSrcf, age, s.trx.accepted, s.trx.bseq].getD (sub - 1) 0)
  else if ix = 0x2120 then some (groupWord s (groupOf s (sub - 1)))
  else if ix = 0x2202 then some (get (fun _ => 0) s.scan.regAct (sub - 1))
  else if ix = 0x2203 then some (get (fun _ => 0) s.scan.regAct (sub + 127))
  else none

/-- LAKE_SLOT of a slot. -/
def slotWord (v : Slot) : Nat :=
  let c := v.ctx
  let pct := if c.finished then 100 else (c.brow * (c.wblk + 1) + c.bcol) * 100 / ((c.wblk + 1) * (c.hblk + 1))
  let pct := if v.state = .idle then 0 else pct
  v.state.code * 2 ^ 28 + (if v.state = .decodeErr then v.cause else 0) * 2 ^ 24 + pct * 2 ^ 16

/-- Live objects of 0x3000 to 0x3FFF. -/
def livePipe (s : State) (ix sub : Nat) : Option Nat :=
  let slackOf (k : Nat) : Option Int := if streamRuns s k then look s.pwr.slack k else none
  if ix = 0x3001 then
    some (if sub = 9 then ofSigned 16 (((List.range 8).filterMap slackOf).foldl min 0x7FFF)
      else (slackOf (sub - 1)).elim 0x7FFF (ofSigned 16))
  else if ix = 0x3111 then some (slotWord (slotOf s (sub - 1)))
  else if ix = 0x3112 then
    let c := (slotOf s 3).ctx
    let out (r : Nat) : Nat := if (slotOf s 3).state = .idle then 0 else r ^^^ 0xFFFFFFFF
    some ([c.inCnt, c.outCnt, out c.crcA, if c.dir = 1 then 0 else out c.crcB, c.escCnt].getD (sub - 1) 0)
  else if ix = 0x3201 then
    some (match s.scan.latch with
      | some l =>
        if sub ≤ 4 then
          let p := setPair l (sub - 1)
          p.1 * 2 ^ 24 + p.2.1 * 2 ^ 16 + p.2.2
        else ofSigned 16 (l.tb.getD (sub - 5) 0)
      | none => 0)
  else if ix = 0x3400 ∧ sub ≠ 1 then
    let m := ditherPhase s.scan.epoch
    some (if !s.scan.running then 0 else if sub = 2 then m else if sub = 3 then ditherRa m else ditherCb m)
  else none

/-- DLK_STATE of a band. -/
def dlkWord (d : DlkBand) : Nat :=
  d.state.code * 2 ^ 28 + d.cause * 2 ^ 24 + d.rate * 2 ^ 22 + d.chain * 2 ^ 20 + d.retries

/-- CRM_STATE of a blink group. -/
def crmWord (s : State) (g : Nat) : Nat :=
  match s.scan.latch with
  | some l =>
    let b := blinkState l (rget s Ob.SCAN_RATE) g
    b.1 * 2 ^ 20 + b.2.1 * 2 ^ 8 + b2n b.2.2
  | none => 0

/-- Live objects of 0x4000 to 0x4FFF. -/
def liveScan (s : State) (ix sub : Nat) : Option Nat :=
  if ix = 0x4001 then
    (if sub = 1 then some s.scan.epoch
     else if sub = 2 then some (if vtotal s = 0 then 0 else s.scan.frameP * 2000 / vtotal s)
     else if sub = 3 then some (2 * s.scan.frameP)
     else if sub = 4 then some s.scan.slot
     else if sub = 8 then some (scanCfgErr s) else none)
  else if ix = 0x4012 ∧ sub = 5 then
    some (min 255 (s.scan.urTimes.filter (fun t => decide (s.now < t + 1000000000))).length)
  else if ix = 0x4013 then some (bandScan s (sub - 1)).state
  else if ix = 0x4030 ∧ sub = 1 then some s.scan.selNow
  else if ix = 0x4030 ∧ sub = 5 then some (s.scan.pend.elim 0xFF (·.1))
  else if ix = 0x4031 then some (plateOf s (sub - 1) * 2 ^ 28)
  else if ix = 0x4100 ∧ sub = 8 then some (tMinOf (oget s))
  else if ix = 0x4100 ∧ sub = 9 then
    some (min 0xFFFF (recCapacity (oget s Ob.SCAN_RATE * oget s Ob.SCAN_VTOTAL) (dlkRate (oget s Ob.DLK_RATE)) (oget s Ob.DLK_NCH)
      (oget s Ob.SCAN_HEIGHT / bandCount s) (oget s Ob.SCAN_VTOTAL)))
  else if ix = 0x4101 then some (dlkWord (dlkOf s (sub - 1)))
  else if ix = 0x4200 ∧ sub = 6 then some (s.scan.slotNo % 4)
  else if ix = 0x4307 then some (crmWord s sub)
  else if ix = 0x4425 then some (min 0xFFFF (shortsOpen s (sub - 1)))
  else if ix = 0x4430 then
    let r := railOf s (sub - 1)
    some (r.state.code * 2 ^ 28 + r.lastDown * 2 ^ 24 + r.powerups)
  else none

/-- SAF_TABLE of a mechanism: ON always reads 1. -/
def mechWord (m : Mech) : Nat := m.lastClass * 2 ^ 30 + b2n m.active * 2 ^ 29 + 2 ^ 28 + m.bands * 2 ^ 24 + m.count

/-- The clock of a domain has run within the last 4 µs (R393). -/
def clockRuns (s : State) (k : Nat) : Bool :=
  if k ≤ 16 then (laneOf s (k - 1)).cdr && !s.pxl.fwdAsleep
  else if k = 0x19 then
    (match s.mgt.sckAt with
     | some t => decide (s.now < t + 4000)
     | none => false)
  else crossUp s k

/-- CDC_XSTAT of a domain (R393). -/
def xstat (s : State) (k : Nat) : Nat :=
  let c := crossOf s k
  let st := if k ≤ 16 then (if laneReady s (k - 1) then 0 else 1) else c.state.code
  st * 2 ^ 30 + b2n (clockRuns s k) * 2 ^ 29 + c.flushes

/-- Live objects of 0x5000 to 0x5FFF. -/
def liveSafe (s : State) (ix sub : Nat) : Option Nat :=
  let count (f : Nat → Nat → Bool) : Nat := ((allPos s).filter (fun p => f p.1 p.2)).length
  if ix = 0x5001 then
    (if sub = 1 then some (count (fun x y => decide ((overlayNow s x y).1 ≠ 0)))
     else if sub = 2 then
       some (count (fun x y => decide ((overlayNow s x y).1 ≠ 0) && decide (shownClass s x y = 2)))
     else if sub = 5 then some (b2n ((allPos s).any (fun p => suspended s p.1 p.2)))
     else if sub = 6 then some (vermPixels s s.scan.regAct)
     else if sub = 7 then some (vermCap s) else none)
  else if ix = 0x5200 then some (mechWord (mechOf s sub))
  else if ix = 0x5201 ∧ sub = 1 then some (b2n (!s.pins.faultN))
  else if ix = 0x5201 ∧ sub = 2 then some (ofBits ([0, 1, 2, 3].map (fun b => decide (bandStateDue s b = 2))))
  else if ix = 0x5331 ∧ sub = 4 then
    some ((allPos s).foldl (fun n p =>
      if shownClass s p.1 p.2 = 2 then n + get (fun _ => 0) s.wear.dead (posKey p.1 p.2) else n) 0)
  else if ix = 0x5331 ∧ sub = 6 then some (min 0xFFFF s.wear.queue.length)
  else if ix = 0x5F10 then some (xstat s sub)
  else none

/-- JRN_STATE (chapter 19): BOOT is over when it can be read. -/
def jrnState (s : State) : Nat :=
  if !s.jrn.present then 0 else if s.boot.op = .boot then 2 else if !s.jrn.mapsDone then 3
  else if s.jrn.persist then 6 else if s.jrn.compact then 5 else 4

/-- JRN_ERASEMAX: every format, every turn of the ring and every generation of an area erases its sectors once. -/
def eraseMax (s : State) : Nat :=
  s.jrn.erased + max (s.jrn.total / max 1 (ringBytes s) + 1) ((oget s Ob.JRN_GEN + 1) / 2)

/-- CAL_ADCVAL of an input. -/
def adcWord (s : State) (a : AdcIn) : Nat :=
  b2n a.valid * 2 ^ 31 + b2n a.trig * 2 ^ 30 + (if a.valid then min ((s.now - a.at_) / 10000) 0x3FFF else 0x3FFF) * 2 ^ 16 +
    a.code

/-- CAL_SLICE of a band. -/
def calWord (s : State) (c : CalBand) : Nat := c.flat * 2 ^ 32 + s.cal.s * 2 ^ 24 + c.done * 2 ^ 12 + c.total

/-- BNK_STATE of a bank. -/
def bankWord (b : Bank) : Nat :=
  b.phase.code * 2 ^ 28 + (if b.phase = .stable then 0 else b.next) * 2 ^ 24 + b.handovers * 2 ^ 16 + b.lastFail * 2 ^ 8

/-- Live objects of 0x6000 to 0x6FFF. -/
def liveSys (s : State) (ix sub : Nat) : Option Nat :=
  if ix = 0x6001 ∧ sub ≤ 5 then
    some ([s.pwr.state.code, s.pwr.entry.code, s.pwr.target, s.pwr.abortCause * 256 + s.pwr.abortStep,
      s.pwr.retries].getD (sub - 1) 0)
  else if ix = 0x6101 ∧ sub = 8 then some (ceilDiv (s.pwr.holdoffTo - s.now) 1000000000)
  else if ix = 0x6301 ∧ sub = 1 then some s.gyl.state
  else if ix = 0x6301 ∧ sub = 2 then some s.gyl.gen
  else if ix = 0x6303 then
    (if sub = 2 then some s.gyl.ref
     else if sub = 3 then some (b2n s.gyl.switching)
     else if sub = 4 then some (ofSigned 32 s.gyl.phase)
     else if sub = 8 then some s.gyl.srcK else none)
  else if ix = 0x6310 then
    let n := nodeOf s (sub - 1)
    some (n.state * 2 ^ 29 + min 31 n.missed * 2 ^ 24 + n.reason * 2 ^ 16 + n.gen)
  else if ix = 0x6401 ∧ sub = 1 then some (jrnState s)
  else if ix = 0x6401 ∧ sub = 8 then some (eraseMax s)
  else if ix = 0x6701 then some (adcWord s (adcOf s (sub - 1)))
  else if ix = 0x6713 ∧ sub = 2 then some s.cal.state.code
  else if ix = 0x6714 then some (calWord s (calBandOf s (sub - 1)))
  else if ix = 0x6800 then some (bankOf s (sub - 1)).owner
  else if ix = 0x6801 then some (bankWord (bankOf s (sub - 1)))
  else none

/-- What a scalar object reads as. -/
def objValue (s : State) (k : Nat) : Nat :=
  let ix := k / 256
  let sub := k % 256
  let live := match ix / 4096 with
    | 1 => liveDev s ix sub
    | 2 => liveLink s ix sub
    | 3 => livePipe s ix sub
    | 4 => liveScan s ix sub
    | 5 => liveSafe s ix sub
    | 6 => liveSys s ix sub
    | _ => none
  live.getD (oget s k)

/-! ## READ -/

/-- READ of an object (R361, R362, R378, R379): the checks in order, then a coherent value. -/
def runRead (p : Port) (ix sub : Nat) (s : State) : State × Answer :=
  match rowAt ix sub with
  | none =>
    match winAt ix sub with
    | some (base, e) =>
      let (s1, n, v) := readWin p base e s
      (s1, ⟨St.ok, toBE n v⟩)
    | none => if sub = 0 ∧ lastSub ix ≠ 0 then (s, ⟨St.ok, toBE 1 (lastSub ix)⟩) else (s, ⟨St.noObject, []⟩)
  | some r =>
    if r.ty = .dom then (s, ⟨St.type, []⟩)
    else if r.acc = .wo then (s, ⟨St.writeOnly, []⟩)
    else if (portOf s p).level < readLevel (key ix sub) then
      (violation p false (key ix sub) s, ⟨St.ok, toBE r.ty.bytes 0⟩)
    else if key ix sub = Ob.BNK_PEEK_DATA then
      let (s1, v) := peekRead s
      (s1, ⟨St.ok, toBE 8 v⟩)
    else if ix = 0x7300 then
      let (s1, v) := readLed p sub s
      (s1, ⟨St.ok, toBE 4 v⟩)
    else (s, ⟨St.ok, toBE r.ty.bytes (objValue s (key ix sub))⟩)

/-! ## DOM objects -/

/-- The elements of a sparse table, `n` of `w` bytes each. -/
def elems (w n : Nat) (m : SMap Nat) : List Byte := (List.range n).flatMap (fun i => toBE w (get (fun _ => 0) m i))

/-- Bits packed into bytes, bit 7 first. -/
def packBits (n : Nat) (f : Nat → Bool) : List Byte :=
  (List.range (ceilDiv n 8)).map (fun i =>
    BitVec.ofNat 8 (ofBits ((List.range 8).map (fun j => decide (8 * i + (7 - j) < n) && f (8 * i + (7 - j))))))

/-- A tile row has a swap pending. -/
def rowPending (s : State) (ty : Nat) : Bool :=
  (List.range 120).any (fun tx => (posOf s (posKey tx ty)).pend.isSome)

/-- DIAG_SNAP (R396). -/
def diagSnap (s : State) (sub : Nat) : List Byte :=
  if sub = 1 then (List.range 16200).flatMap (fun i => toBE 4 (ageElem s (i % 120) (i / 120)))
  else if sub = 2 then (List.range 8192).flatMap (fun t => toBE 1 (tagElem (tagOf s t)))
  else if sub = 3 then (List.range 96).flatMap (fun d => toBE 24 (lastRec s d).toNat)
  else if sub = 4 then
    let q := (s.trx.queue).map (queueElem s)
    (q ++ List.replicate (8192 - q.length) 0).flatMap (toBE 4)
  else (List.range 64).flatMap (fun i => toBE 8 ((look s.evlog.entries (i + 1)).elim 0 EvEntry.word) ++
    toBE 6 ((look s.evlog.entries (i + 1)).elim 0 (·.epoch)))

/-- A DOM object in DRAM: its address and length (R157, R186). -/
def domMem (k : Nat) : Option (Nat × Nat) :=
  if Ob.CMP_GRID ≤ k ∧ k < Ob.CMP_GRID + 8 then some (gridAt (k - Ob.CMP_GRID) 0, 98736)
  else if k = Ob.CMP_DEMURA then some (0x58000000, 0x0C000000)
  else if k = Ob.MDL_LEDGER then some (0x40000000, 0x18000000)
  else if k = Ob.WEAR_DEFMAP then some (0x6C000000, 0x03000000)
  else none

/-- The length of an uploaded DOM object. -/
def domSize (s : State) (k : Nat) : Nat :=
  match domMem k with
  | some (_, n) => n
  | none =>
    if Ob.LAKE_CTX ≤ k ∧ k < Ob.LAKE_CTX + 4 then 64
    else if k = Ob.SCAN_TILESEL then 2025
    else if k = Ob.SCAN_PENDROWS then 17
    else if k = Ob.WEAR_HEADSAT then 194400
    else if k = Ob.PWR_RETIMG then 4096
    else if k = Ob.CAL_TILEMEAN then 97200
    else if k / 256 = 0x7F00 then [64800, 8192, 2304, 32768, 896].getD (k % 256 - 1) 0
    else (dget s k).length

/-- `n` bytes from offset `a` of an uploaded DOM object. The spec does not state how the retention area spells its
contents: its copy is a free value (log entry 62). -/
def domRead (s : State) (k a n : Nat) : State × List Byte :=
  let cut (bs : List Byte) : State × List Byte := (s, (bs.drop a).take n)
  match domMem k with
  | some (base, _) => readMem (base + a) n s
  | none =>
    if Ob.LAKE_CTX ≤ k ∧ k < Ob.LAKE_CTX + 4 then cut (toBE 64 (slotOf s (k - Ob.LAKE_CTX)).ctx.bits)
    else if k = Ob.SCAN_TILESEL then cut (packBits 16200 (fun i => (posOf s i).sel))
    else if k = Ob.SCAN_PENDROWS then cut (packBits 135 (rowPending s))
    else if k = Ob.WEAR_HEADSAT then cut (elems 4 48600 s.wear.headsat)
    else if k = Ob.PWR_RETIMG then (tookFree s, ((toBE 4096 (freeOf s)).drop a).take n)
    else if k = Ob.CAL_TILEMEAN then cut (elems 2 48600 s.cal.tilemean)
    else if k / 256 = 0x7F00 then cut (diagSnap s (k % 256))
    else cut (dget s k)

end Sys2Proof.Machine
end

