-- ==== Sys2Proof/Machine/Writes.lean ====
section
/-!
DEFINITION. The own rule of every object that a WRITE can reach (R361 step 6, R363): what a write does beyond holding its
value.
-/

namespace Sys2Proof.Machine

/-! ## Notifications and the event log -/

/-- EVT_N after a change of mode or mask: PULSE mode leaves it high between pulses (R375). -/
def evtChanged (s : State) : State :=
  if oget s Ob.WNP_EVTMODE = 0 then refreshEvt s else { s with pins := { s.pins with evtN := false } }

/-- The own rule of WNP_EVTPEND: a 1 clears, bit 4 follows the SPI queue, and a cleared bit may send a frame again (R375 to
R377). -/
def ownEvtPend (v : Nat) (s : State) : State × Nat :=
  let clear := clearBit v 4
  let keep (n : Nat) : Nat := n - (n &&& clear)
  let s1 := oset Ob.WNP_EVTPEND (keep (oget s Ob.WNP_EVTPEND)) s
  (refreshEvt { s1 with mgt := { s1.mgt with evtSent := keep s1.mgt.evtSent } }, St.ok)

/-- The own rule of DEV_EVCLR: the log is emptied and begins again with LOGCLR (R390). -/
def ownEvClr (v : Nat) (s : State) : State × Nat :=
  if v = 0 then (s, St.ok)
  else (logEv 0x18 0 0 0 { s with evlog := { s.evlog with entries := [], next := 1, run := 0 } }, St.ok)

/-! ## Patches -/

/-- The own rule of SAF_PATCH_CMD (R374). -/
def ownPatchCmd (v : Nat) (s : State) : State × Nat :=
  if s.boot.op ≠ .setup then (s, St.state)
  else if v = 1 then
    if s.mgt.patchLoaded then (oset Ob.SAF_PATCH_STAT 2 { s with mgt := { s.mgt with patchPend := true } }, St.ok)
    else (s, St.refused)
  else if s.mgt.patchLoaded then
    (oset Ob.SAF_PATCH_LDVER 0xFFFFFFFF (oset Ob.SAF_PATCH_STAT 0
      { s with mgt := { s.mgt with patchFb := none, patchLoaded := false, patchPend := false } }), St.ok)
  else (s, St.ok)

/-! ## Objects whose values depend on one another -/

/-- The own rule of CMP_NSETS and CMP_SETTEMP: the sets in use increase by at least 8 (R187). -/
def ownSets (k v : Nat) (s : State) : State × Nat :=
  let s1 := oset k v s
  let temp (i : Nat) : Int := toSigned 16 (oget s1 (Ob.CMP_SETTEMP + i))
  if (List.range (oget s1 Ob.CMP_NSETS - 1)).all (fun i => decide (temp i + 8 ≤ temp (i + 1))) then (plainWrite k v s, St.ok)
  else (s, St.refused)

/-- The own rule of MDL_RELIEF: code 0 stays 0 and the table never decreases. -/
def ownRelief (i v : Nat) (s : State) : State × Nat :=
  let at_ (j : Nat) : Nat := oget s (Ob.MDL_RELIEF + j)
  if (i = 0 ∧ v ≠ 0) ∨ (0 < i ∧ v < at_ (i - 1)) ∨ (i < 15 ∧ at_ (i + 1) < v) then (s, St.refused)
  else (plainWrite (Ob.MDL_RELIEF + i) v s, St.ok)

/-- The own rule of GYL_SRCOFFS: below 1 / SCAN_RATE. -/
def ownSrcOffs (v : Nat) (s : State) : State × Nat :=
  if 1000000000 ≤ v * oget s Ob.SCAN_RATE then (s, St.range) else (plainWrite Ob.GYL_SRCOFFS v s, St.ok)

/-- The own rule of the staged region table (R279, R418). -/
def ownRegion (k v : Nat) (s : State) : State × Nat := if regionBusy s then (s, St.busy) else (plainWrite k v s, St.ok)

/-- A change of the given kind is prepared here and not yet applied or dropped (R418). -/
def prepared (s : State) (kind : Nat) : Bool :=
  match s.gyl.held with
  | some c => decide (c.kind = kind)
  | none => false

/-- The own rule of GYL_LAYOUTTAG (R418). -/
def ownLayoutTag (v : Nat) (s : State) : State × Nat :=
  if prepared s 3 then (s, St.busy) else (plainWrite Ob.GYL_LAYOUTTAG v s, St.ok)

/-! ## Every object -/

/-- The objects that drivers hold and that no raster change carries: a write sends CONFIG again (R243). -/
def driverObject (k : Nat) : Bool := decide (k = Ob.DLK_MTHR) || decide (k / 256 = 0x4130)

/-- The own rules of 0x1000 to 0x2FFF. -/
def ownLow (k v : Nat) (s : State) : Option (State × Nat) :=
  if k = Ob.DEV_STATE then some (ownDevState v s)
  else if k = Ob.DEV_EVCLR then some (ownEvClr v s)
  else if k = Ob.WNP_EVTMODE ∨ k = Ob.WNP_EVTMASK then some (evtChanged (plainWrite k v s), St.ok)
  else if k = Ob.WNP_EVTPEND then some (ownEvtPend v s)
  else if k = Ob.PXL_ENABLE then some (ownPxlEnable v s)
  else if k = Ob.PXL_LANES then some (ownPxlLanes v s)
  else if k = Ob.PXL_RETRAIN then some (ownPxlRetrain v s)
  else if k = Ob.PXL_PRBS_START then some (ownPrbsStart v s)
  else if k / 256 = 0x2200 ∨ k / 256 = 0x2201 then some (ownRegion k v s)
  else if k = Ob.FRS_REG_REQ then some (ownRegReq v s)
  else none

/-- The own rules of 0x3000 to 0x4FFF. -/
def ownMid (k v : Nat) (s : State) : Option (State × Nat) :=
  if k = Ob.LAKE_JOB_CMD then some (ownLakeCmd v s)
  else if k = Ob.CMP_NSETS ∨ (Ob.CMP_SETTEMP ≤ k ∧ k < Ob.CMP_SETTEMP + 8) then some (ownSets k v s)
  else if k = Ob.SCAN_SHOW_REQ then some (ownShowReq v s)
  else if k = Ob.DLK_RETRAIN then some (ownDlkRetrain v s)
  else if Ob.DLK_DRVREG_WRITE ≤ k ∧ k < Ob.DLK_DRVREG_WRITE + 4 then some (ownDrvreg (k - Ob.DLK_DRVREG_WRITE) v s)
  else if driverObject k then some (configChanged (plainWrite k v s), St.ok)
  else if k = Ob.PNL_RAILREQ then some (ownRailReq v s)
  else if k = Ob.PNL_TPV ∨ k = Ob.PNL_TPD ∨ k = Ob.PNL_TSTAG then some (ownTimed k v s)
  else if k = Ob.PNL_VRESTEST then some (ownVresTest v s)
  else if k = Ob.PNL_CRKLEARN then some (ownCrkLearn v s)
  else none

/-- The own rules of 0x5000 to 0x5FFF. -/
def ownHigh (k v : Nat) (s : State) : Option (State × Nat) :=
  if k = Ob.SAF_BANDCLR then some (ownBandClr v s)
  else if k = Ob.SAF_CLEAR then some (ownSafClear v s)
  else if k = Ob.SAF_SEALCMD then some (ownSealCmd v s)
  else if k = Ob.SAF_INJ_SM ∨ k = Ob.SAF_INJ_BAND then some (ownInject k v s)
  else if k = Ob.SAF_INJ_GO then some (ownInjGo v s)
  else if k = Ob.SAF_PATCH_CMD then some (ownPatchCmd v s)
  else if Ob.MDL_RELIEF ≤ k ∧ k < Ob.MDL_RELIEF + 16 then some (ownRelief (k - Ob.MDL_RELIEF) v s)
  else if k = Ob.WEAR_SATCLR then
    some (if v = 1 then { s with wear := { s.wear with headsat := [] } } else s, St.ok)
  else none

/-- The own rules of 0x6000 to 0x6FFF. -/
def ownTop (k v : Nat) (s : State) : Option (State × Nat) :=
  if k = Ob.PWR_REQ then some (ownPwrReq v s)
  else if k / 256 = 0x6010 then some (ownPadrel k v s)
  else if k = Ob.RST_SOFT then some (ownRstSoft v s)
  else if k = Ob.GYL_ROLE then some (ownGylRole v s)
  else if k = Ob.GYL_REALIGN then some (ownRealign v s)
  else if k = Ob.GYL_SNAPNOW then some (ownSnapNow v s)
  else if k = Ob.GYL_CMT_REQ then some (ownCmtReq v s)
  else if k = Ob.GYL_LAYOUTTAG then some (ownLayoutTag v s)
  else if k = Ob.GYL_SRCOFFS then some (ownSrcOffs v s)
  else if k = Ob.GYL_WAKENOW then some (ownWakeNow v s)
  else if k = Ob.JRN_CMD then some (ownJrnCmd v s)
  else if k = Ob.TLM_SNAPCMD then some (ownSnapCmd v s)
  else if k = Ob.EVC_CLEAR then some (ownEvcClear v s)
  else if Ob.EVC_SEL ≤ k ∧ k < Ob.EVC_SEL + 32 then some (ownEvcSel (k - Ob.EVC_SEL) v s)
  else if k = Ob.CAL_ADCTRIG then some (ownAdctrig v s)
  else if k = Ob.CAL_CMD then some (ownCalCmd v s)
  else if Ob.BNK_OWNER ≤ k ∧ k < Ob.BNK_OWNER + 16 then some (ownBnkOwner (k - Ob.BNK_OWNER) v s)
  else if k = Ob.BNK_PEEK_DATA then some (peekWrite (BitVec.ofNat 64 v) false s)
  else none

/-- The own rule of any object: the value is held where no rule says otherwise (R361, R363). -/
def ownWrite (k v : Nat) (s : State) : State × Nat :=
  let own := match k / 1048576 with
    | 1 => ownLow k v s
    | 2 => ownLow k v s
    | 3 => ownMid k v s
    | 4 => ownMid k v s
    | 5 => ownHigh k v s
    | _ => ownTop k v s
  own.getD (ownPlain k v s)

end Sys2Proof.Machine
end

