-- ==== Sys2Proof/Machine/Segs.lean ====
section
/-!
DEFINITION. Segmented transfers (R364 to R367): what a download may hold, where its bytes go, and what its end applies.
-/

namespace Sys2Proof.Machine

/-! ## The objects that can be downloaded -/

/-- Whether SIZE suits a download of the object (R364): the fixed size, or at most the maximum; a plate takes any (R223). -/
def sizeOk (k n : Nat) : Bool :=
  let ix := k / 256
  if ix = 0x1200 then decide (n = 32)
  else if ix = 0x3010 then decide (n = 2048)
  else if ix = 0x3012 ∨ ix = 0x3230 then decide (n = 2050)
  else if ix = 0x3310 then decide (n = 4225)
  else if k = Ob.LAKE_CTX + 3 then decide (n = 64)
  else if ix = 0x4428 ∨ ix = 0x6712 then decide (n = 130)
  else if ix = 0x5310 ∨ ix = 0x5311 then decide (n = 65)
  else if ix = 0x6703 then decide (n = 66)
  else if ix = 0x5220 then decide (n ≤ 262144)
  else match domMem k with
    | some (_, m) => decide (n = m)
    | none => true

/-- The tables held in two copies (R179). -/
def twoCopies (k : Nat) : Bool := [0x3010, 0x3012, 0x3230, 0x3310].contains (k / 256)

/-- A plate is selected for display in the current frame or from the next one. -/
def plateShown (s : State) (n : Nat) : Bool :=
  decide (s.scan.selNow = n + 1) || (match s.scan.latch with
    | some l => decide (l.sel = n + 1)
    | none => false)

/-- The prepared change of a participant shows this plate (R418). -/
def platePrepared (s : State) (n : Nat) : Bool :=
  match s.gyl.held with
  | some c => decide (c.kind = 2) && decide (c.arg = n + 1)
  | none => false

/-- The object's own rule at SEG_INIT of a download: OK, or the status it gives (R160, R371, R373, R418, R482, R483). -/
def downloadMay (s : State) (k : Nat) : Nat :=
  if k / 256 = 0x4040 then
    let n := k - Ob.SCAN_PLATEDATA
    if s.boot.op ≠ .setup ∧ s.boot.op ≠ .run then St.state
    else if plateShown s n then St.refused
    else if platePrepared s n then St.busy else St.ok
  else if k = Ob.ACC_KEY + 2 then (if s.boot.factoryKey.isSome then St.refused else St.ok)
  else if k = Ob.SAF_PATCH then (if s.boot.op = .setup ∨ s.boot.op = .run then St.ok else St.state)
  else if isMap k then
    (if bankAway s 2 ∨ !s.jrn.mapsDone ∨ (k = Ob.CMP_DEMURA ∧ (!s.cal.staging.isEmpty ∨ s.cal.state = .running)) then St.busy
     else St.ok)
  else St.ok

/-! ## Where the bytes go -/

/-- Store the bytes of a plate from offset `o`, each line's stretch at once at the plate's pitch; `n` stretches at most
(R223). -/
def plateStore (plate : Nat) : Nat → Nat → List Byte → State → State
  | 0, _, _, s => s
  | n + 1, o, bs, s =>
    let line := 4 * panelW s
    let y := o / line
    let k := line - o % line
    if bs.isEmpty then s
    else
      let s1 := if y < panelH s then memStore (plateWordAt plate 0 y + o % line) (bs.take k) s else s
      plateStore plate n (o + k) (bs.drop k) s1

/-- The rows whose SEL bits a written byte of the defect and spare map changes are queued for a spare-mask write. -/
def selChanged (a : Nat) (old new : Byte) (s : State) : State :=
  let y := (a - 0x6C000000) / 11520
  if bandH s = 0 ∨ panelH s ≤ y ∨ (bit old.toNat 7 = bit new.toNat 7 ∧ bit old.toNat 3 = bit new.toNat 3) then s
  else touchRow (y / bandH s) (y % bandH s) false s

/-- Store a segment of the defect and spare map. -/
def defectStore (a : Nat) (bs : List Byte) (s : State) : State :=
  let s1 := memStore a bs s
  each bs.zipIdx (fun e st => selChanged (a + e.2) (memByte s (a + e.2)) (memByte s1 (a + e.2)) st) s1

/-- A segment of a direct object arrives (R366); the age of a dead subpixel stays 0xFFFF (R158, R274). -/
def directStore (k o : Nat) (bs : List Byte) (s : State) : State :=
  if k / 256 = 0x4040 then plateStore (k - Ob.SCAN_PLATEDATA) ((bs.length + 3) / 4) o bs s
  else if k = Ob.CMP_DEMURA then mapStore (0x58000000 + o) bs s
  else if k = Ob.MDL_LEDGER then ageDead (mapStore (0x40000000 + o) bs s)
  else if k = Ob.WEAR_DEFMAP then defectStore (0x6C000000 + o) bs s
  else s

/-- Whether a download is written as its segments arrive (R366). -/
def isDirect (k : Nat) : Bool := isMap k || decide (k / 256 = 0x4040)

/-! ## What the end of a download applies -/

/-- A DOM object held on die takes its bytes and is journaled; an RWL object renews the reference CRC (R306, R381). -/
def domWrite (k : Nat) (bs : List Byte) (s : State) : State :=
  let s1 := jrnDom k (dset k bs s)
  if accOf k = .rwl then refCrc s1 else s1

/-- A two-copy table: the inactive copy is written, and the copies swap at the next frame start (R179). -/
def tableWrite (k : Nat) (bs : List Byte) (s : State) : State × Nat :=
  if (look s.scan.tableBusy k).isSome then (s, St.busy)
  else
    let s1 := domWrite k bs s
    ({ s1 with scan := { s1.scan with tableBusy := ins s1.scan.tableBusy k 1 } }, St.ok)

/-- A patch image is checked and written into the fallback slot (R373). -/
def patchWrite (bs : List Byte) (s : State) : State × Nat :=
  if s.boot.op ≠ .setup ∧ s.boot.op ≠ .run then (s, St.state)
  else
    let e := patchErr bs s.mgt.patchRun
    if e ≠ 0 then (oset Ob.SAF_PATCH_STAT e s, St.patch)
    else
      let p := slotOfImage bs
      (oset Ob.SAF_PATCH_LDVER p.version (oset Ob.SAF_PATCH_STAT 1
        { s with mgt := { s.mgt with patchFb := some p, patchLoaded := true, patchPend := false } }), St.ok)

/-- A downloaded map is made durable (R481, R483, R484). A map write that sets both spent bits declares the subpixel dead. -/
def mapWrite (k : Nat) (s : State) : State :=
  if k = Ob.WEAR_DEFMAP then
    let ds := (deadSubs s).filter (fun p => decide (ageOf s p.1 p.2 ≠ 0xFFFF))
    startCompact (countDead (each ds (fun p => declareDead p.1 p.2 false) s))
  else if k = Ob.MDL_LEDGER then
    oset Ob.JRN_LEDPIECE 0 { s with jrn := { s.jrn with fresh := true } }
  else if panelTooLarge s ∨ !s.jrn.present then s
  else startCompact { s with jrn := { s.jrn with persist := true } }

/-- A plate's transfer is complete: LOADED with exactly W × H words, else EMPTY (R222, R223). -/
def plateWrite (n size crc : Nat) (s : State) : State :=
  if size = panelW s * panelH s * 4 then oset (Ob.SCAN_PLATECRC + n) crc (setPlate n 2 s) else setPlate n 0 s

/-- The checks have passed: apply the download by the object's own rule (R366). -/
def applyDownload (x : Transfer) (crc : Nat) (s : State) : State × Nat :=
  let k := key x.index x.sub
  if accOf k = .rwl ∧ oflag s Ob.SAF_SEALED then (s, St.locked)
  else if k = Ob.ACC_KEY + 2 then ({ s with boot := { s.boot with factoryKey := some x.buf } }, St.ok)
  else if k / 256 = 0x4040 then (plateWrite (k - Ob.SCAN_PLATEDATA) x.size crc s, St.ok)
  else if isMap k then (mapWrite k s, St.ok)
  else if twoCopies k then tableWrite k x.buf s
  else if k = Ob.LAKE_CTX + 3 then loadCtx (ofBE x.buf) s
  else if k = Ob.SAF_PATCH then patchWrite x.buf s
  else if k / 256 = 0x3210 then (mapStore (gridAt (k - Ob.CMP_GRID) 0) x.buf (domWrite k x.buf s), St.ok)
  else if k / 256 = 0x6712 then (configChanged (domWrite k x.buf s), St.ok)
  else (domWrite k x.buf s, St.ok)

/-! ## The five requests -/

/-- MAXSEG of a port (R364). -/
def maxSeg : Port → Nat
  | .can => 48
  | .spi => 1016

/-- How the checks of SEG_INIT end, before the limits of R364. -/
def segGate (s : State) (p : Port) (k : Nat) (upload : Bool) : Gate :=
  match rowAt (k / 256) (k % 256) with
  | none =>
    if (k % 256 = 0 ∧ lastSub (k / 256) ≠ 0) ∨ (winAt (k / 256) (k % 256)).isSome then .fail St.type else .fail St.noObject
  | some r =>
    if r.ty ≠ .dom then .fail St.type
    else if !upload ∧ r.acc = .ro then .fail St.readOnly
    else if upload ∧ r.acc = .wo then .fail St.writeOnly
    else if (portOf s p).level < (if upload then readLevel k else writeLevel k 0) then .viol
    else if upload then .pass
    else if r.acc = .rws ∧ s.boot.op ≠ .setup then .fail St.state
    else if r.acc = .rwl ∧ oflag s Ob.SAF_SEALED then .fail St.locked
    else .pass

/-- A transfer runs on the object, from either port (R364). -/
def inTransfer (s : State) (ix sub : Nat) : Bool :=
  [s.mgt.can, s.mgt.spi].any (fun v => match v.transfer with
    | some x => decide (x.index = ix ∧ x.sub = sub)
    | none => false)

/-- Open a transfer: an upload of up to 64 KiB is copied, a plate becomes LOADING (R222, R365). -/
def openTransfer (p : Port) (ix sub : Nat) (upload viol : Bool) (size : Nat) (s : State) : State × Answer :=
  let k := key ix sub
  let snap := upload && !viol && decide (size ≤ 65536)
  let (s1, copy) := if snap then domRead s k 0 size else (s, [])
  let x : Transfer := .mk ix sub upload size 0 copy snap 0xFFFFFFFF viol s.now
  let s2 := setPort p { portOf s1 p with transfer := some x } s1
  let s3 := if !upload ∧ !viol ∧ ix = 0x4040 then setPlate (k - Ob.SCAN_PLATEDATA) 1 s2 else s2
  (s3, ⟨St.ok, toBE 4 size ++ toBE 2 (maxSeg p)⟩)

/-- SEG_INIT (R364). -/
def runSegInit (p : Port) (ix sub : Nat) (data : List Byte) (s : State) : State × Answer :=
  let no (st : Nat) : State × Answer := (s, ⟨st, []⟩)
  let k := key ix sub
  let dir := ofBE (data.take 1)
  let up := decide (dir = 1)
  let size := ofBE (data.drop 4)
  if data.length ≠ 8 then no St.length
  else if 1 < dir ∨ ofBE ((data.drop 1).take 3) ≠ 0 then no St.range
  else
    let busy := (portOf s p).transfer.isSome || inTransfer s ix sub
    match segGate s p k up with
    | .fail st => no st
    | .viol =>
      if busy then no St.segBusy
      else openTransfer p ix sub up true (if up then domSize s k else size) (violation p (!up) k s)
    | .pass =>
      if busy then no St.segBusy
      else if up then openTransfer p ix sub true false (domSize s k) s
      else if !sizeOk k size then no St.segSize
      else if downloadMay s k ≠ St.ok then no (downloadMay s k)
      else openTransfer p ix sub false false size s

/-- The session's transfer, if it is of this object and direction (R365). -/
def transferOf (s : State) (p : Port) (ix sub : Nat) : Option Transfer :=
  (portOf s p).transfer.filter (fun x => decide (x.index = ix ∧ x.sub = sub))

/-- A segment of `n` bytes at NEXT keeps the rule of R365. -/
def segmentOk (p : Port) (x : Transfer) (n : Nat) : Bool :=
  decide (n ≤ maxSeg p) && decide (x.next + n ≤ x.size) && (decide (n % 4 = 0) || decide (x.next + n = x.size))

/-- The transfer has moved `bs`. -/
def moved (p : Port) (x : Transfer) (bs : List Byte) (keep : Bool) (s : State) : State :=
  setPort p { portOf s p with transfer := some { x with
    at_ := s.now, next := x.next + bs.length, crc := crc32Run x.crc bs, buf := if keep then x.buf ++ bs else x.buf } } s

/-- SEG_DATA (R365, R366). -/
def runSegData (p : Port) (ix sub : Nat) (data : List Byte) (s : State) : State × Answer :=
  match (transferOf s p ix sub).filter (fun x => !x.upload) with
  | none => (s, ⟨St.segNone, []⟩)
  | some x =>
    let bs := data.drop 4
    if data.length < 4 then (s, ⟨St.length, []⟩)
    else if ofBE (data.take 4) ≠ x.next then (s, ⟨St.segOrder, toBE 4 x.next⟩)
    else if !segmentOk p x bs.length then (s, ⟨St.segSize, []⟩)
    else
      let k := key ix sub
      let s1 := if isDirect k ∧ !x.viol then directStore k x.next bs s else s
      (moved p x bs (!x.viol && !isDirect k) s1, ⟨St.ok, toBE 4 (x.next + bs.length)⟩)

/-- SEG_READ (R365). -/
def runSegRead (p : Port) (ix sub : Nat) (data : List Byte) (s : State) : State × Answer :=
  match (transferOf s p ix sub).filter (·.upload) with
  | none => (s, ⟨St.segNone, []⟩)
  | some x =>
    let n := ofBE (data.drop 4)
    if data.length ≠ 6 then (s, ⟨St.length, []⟩)
    else if ofBE (data.take 4) ≠ x.next then (s, ⟨St.segOrder, toBE 4 x.next⟩)
    else if !segmentOk p x n then (s, ⟨St.segSize, []⟩)
    else
      let (s1, bs) :=
        if x.viol then (s, List.replicate n 0)
        else if x.snap then (s, (x.buf.drop x.next).take n)
        else domRead s (key ix sub) x.next n
      (moved p x bs false s1, ⟨St.ok, bs⟩)

/-- SEG_END (R365, R366). -/
def runSegEnd (p : Port) (ix sub : Nat) (data : List Byte) (s : State) : State × Answer :=
  match transferOf s p ix sub with
  | none => (s, ⟨St.segNone, []⟩)
  | some x =>
    let crc := x.crc ^^^ 0xFFFFFFFF
    let s1 := setPort p { portOf s p with transfer := none } s
    if data.length ≠ (if x.upload then 0 else 4) then (s, ⟨St.length, []⟩)
    else if x.upload then (s1, ⟨St.ok, toBE 4 crc⟩)
    else if x.next ≠ x.size then (transferFails x s1, ⟨St.segSize, []⟩)
    else if ofBE data ≠ crc then (transferFails x s1, ⟨St.segCrc, []⟩)
    else if x.viol then (s1, ⟨St.ok, []⟩)
    else
      let (s2, st) := applyDownload x crc s1
      (s2, ⟨st, []⟩)

/-- SEG_ABORT (R367). -/
def runSegAbort (p : Port) (ix sub : Nat) (data : List Byte) (s : State) : State × Answer :=
  match transferOf s p ix sub with
  | none => (s, ⟨St.segNone, []⟩)
  | some _ => if data ≠ [] then (s, ⟨St.length, []⟩) else (abortTransfer p s, ⟨St.ok, []⟩)

end Sys2Proof.Machine
end

