-- ==== Sys2Proof/Machine/Wenip.lean ====
section
/-!
DEFINITION. Wenip (chapter 14): sessions, access levels, the twelve opcodes, and the two transports.
-/

namespace Sys2Proof.Machine

/-! ## Sessions (R350 to R352) -/

/-- The generation after another: 15 is followed by 1, and so is the 0 of a power-on reset. -/
def nextGen (g : Nat) : Nat := g % 15 + 1

/-- OPEN in any state of the port that serves it: a new session, and its response, which is never cached. -/
def openSession (h : Hdr) (s : State) : State :=
  let p := h.port
  let s1 := endWenip p (evc (0xB0 + portNo p) s)
  let g := nextGen (portOf s p).gen
  let a : Answer := ⟨St.ok, toBE 4 (oget s1 Ob.DEV_BOOTCNT) ++ toBE 1 s1.boot.op.code ++ toBE 1 0⟩
  queueResp p { respOf 1 h 0 0 a true s.now with gen := g }
    (setPort p { portOf s1 p with gen := g, active := true, level := 0, lastReq := s.now } s1)

/-- OPEN: it carries generation 0, names no object and has no data. -/
def serveOpen (h : Hdr) (ix sub : Nat) (data : List Byte) (s : State) : State :=
  let p := h.port
  let answer (st : Nat) (outst : Bool) : State → State := queueResp p (respOf 1 h ix sub ⟨st, []⟩ outst s.now)
  if !portServes s p ∨ portMax p < data.length then s
  else if h.gen ≠ 0 then evc 0xB4 (cnt (Ob.WNP_STALE + portNo p) s)
  else if 64 ≤ outstanding (portOf s p) then cnt Ob.WNP_QFULL (answer St.queueFull false s)
  else if ix ≠ 0 ∨ sub ≠ 0 then evc (0xB0 + portNo p) (answer St.noObject true s)
  else if data ≠ [] then evc (0xB0 + portNo p) (answer St.length true s)
  else openSession h s

/-! ## Elevation (R369, R370) -/

/-- The key of a level, if it is set: the Factory key is 32 zero bytes while its fuse field is blank (R371). -/
def keyOfLevel (s : State) (level : Nat) : Option (List Byte) :=
  if level = 3 then some (s.boot.factoryKey.getD (List.replicate 32 0))
  else
    let k := dget s (Ob.ACC_KEY + (level - 1))
    if k.isEmpty then none else some k

/-- CHALLENGE is blocked on the port. -/
def challengeBlocked (s : State) (p : Port) : Bool :=
  match (portOf s p).blocked with
  | some t => decide (s.now < t)
  | none => false

/-- An AUTH result: counted, and the fourth in a row blocks CHALLENGE on the port for 60 s. -/
def authFailed (p : Port) (s : State) : State × Answer :=
  let s1 := evc 0xB6 (pendEvt 6 (cnt Ob.ACC_FAILS s))
  let v := portOf s1 p
  let s2 :=
    if v.auths + 1 < 4 then setPort p { v with auths := v.auths + 1 } s1
    else
      let s3 := setPort p { v with auths := 0, blocked := some (s.now + 60000000000) } s1
      logEv 0x0E 1 0 (portNo p) (cnt Ob.ACC_LOCKOUTS s3)
  (s2, ⟨St.auth, []⟩)

/-- CHALLENGE: a nonce of 16 random bytes, a free value. -/
def runChallenge (p : Port) (data : List Byte) (s : State) : State × Answer :=
  let level := ofBE data
  if data.length ≠ 1 then (s, ⟨St.length, []⟩)
  else if level < 1 ∨ 3 < level then (s, ⟨St.range, []⟩)
  else if challengeBlocked s p then (pendEvt 6 s, ⟨St.authLockout, []⟩)
  else if keyOfLevel s level = none then authFailed p s
  else
    let bytes := toBE 16 (freeOf s)
    let n : Nonce := { bytes := bytes, level := level, at_ := s.now }
    (setPort p { portOf s p with nonce := some n } (tookFree s), ⟨St.ok, bytes⟩)

/-- The message under the MAC: the nonce, the unique id, the port, the generation and the level. -/
def macMessage (nonce : List Byte) (p : Port) (gen level : Nat) : List Byte :=
  nonce ++ toBE 8 Config.uid.toNat ++ toBE 1 (portNo p) ++ toBE 1 gen ++ toBE 1 level

/-- The nonce is of this level and not older than 10 s, and the MAC is the one of the level's key. -/
def macMatches (s : State) (p : Port) (level : Nat) (mac : List Byte) : Bool :=
  let v := portOf s p
  match v.nonce, keyOfLevel s level with
  | some n, some k =>
    decide (n.level = level) && decide (s.now ≤ n.at_ + 10000000000)
      && decide (hmac256 k (macMessage n.bytes p v.gen level) = mac)
  | _, _ => false

/-- ELEVATE: the nonce serves once. -/
def runElevate (p : Port) (data : List Byte) (s : State) : State × Answer :=
  let level := ofBE (data.take 1)
  if data.length ≠ 36 then (s, ⟨St.length, []⟩)
  else if level < 1 ∨ 3 < level ∨ ofBE ((data.drop 1).take 3) ≠ 0 then (s, ⟨St.range, []⟩)
  else
    let good := macMatches s p level (data.drop 4)
    let s1 := setPort p { portOf s p with nonce := none } s
    if good then (setPort p { portOf s1 p with level := level, auths := 0 } s1, ⟨St.ok, []⟩)
    else authFailed p s1

/-- DROP: to any lower level, at once; the present level changes nothing. -/
def runDrop (p : Port) (data : List Byte) (s : State) : State × Answer :=
  let level := ofBE data
  if data.length ≠ 1 then (s, ⟨St.length, []⟩)
  else if 3 < level then (s, ⟨St.range, []⟩)
  else if (portOf s p).level < level then (s, ⟨St.refused, []⟩)
  else (setPort p { portOf s p with level := level } s, ⟨St.ok, []⟩)

/-! ## Requests (R354, R361) -/

/-- READ. -/
def runReadReq (p : Port) (ix sub : Nat) (data : List Byte) (s : State) : State × Answer :=
  if data ≠ [] then (s, ⟨St.length, []⟩) else runRead p ix sub s

/-- CLOSE. -/
def runClose (p : Port) (data : List Byte) (s : State) : State × Answer :=
  if data ≠ [] then (s, ⟨St.length, []⟩) else (endWenip p s, ⟨St.ok, []⟩)

/-- An opcode for which the table names no object: INDEX and SUB must be 0 (R354). -/
def noObjectNamed (ix sub : Nat) (run : State → State × Answer) (s : State) : State × Answer :=
  if ix ≠ 0 ∨ sub ≠ 0 then (s, ⟨St.noObject, []⟩) else run s

/-- What a request other than OPEN does. -/
def runRequest (op : Nat) (p : Port) (ix sub : Nat) (data : List Byte) (s : State) : State × Answer :=
  match op with
  | 2 => noObjectNamed ix sub (runClose p data) s
  | 3 => runReadReq p ix sub data s
  | 4 => runWrite p (key ix sub) data (ownWrite (key ix sub)) s
  | 5 => runSegInit p ix sub data s
  | 6 => runSegData p ix sub data s
  | 7 => runSegRead p ix sub data s
  | 8 => runSegEnd p ix sub data s
  | 9 => runSegAbort p ix sub data s
  | 10 => noObjectNamed ix sub (runChallenge p data) s
  | 11 => noObjectNamed ix sub (runElevate p data) s
  | 12 => noObjectNamed ix sub (runDrop p data) s
  | _ => (s, ⟨St.opcode, []⟩)

/-- A request frame reaches its port. -/
def serve (op : Nat) (h : Hdr) (ix sub : Nat) (data : List Byte) (s : State) : State :=
  if op = 1 then serveOpen h ix sub data s else request op h ix sub data (runRequest op h.port ix sub data) s

/-- A request frame of the given opcode. -/
def serveFrame (op : Nat) (f : Frame) (s : State) : State := serve op f.hdr f.index.toNat f.sub.toNat f.data s

/-- OPEN. -/
def execOpenReq (t : Nat) (f : Frame) (s : State) : Host.Outcome State Fault Refusal := .next (serveFrame 1 f (s.at t))

/-- CLOSE. -/
def execClose (t : Nat) (f : Frame) (s : State) : Host.Outcome State Fault Refusal := .next (serveFrame 2 f (s.at t))

/-- READ. -/
def execRead (t : Nat) (f : Frame) (s : State) : Host.Outcome State Fault Refusal := .next (serveFrame 3 f (s.at t))

/-- WRITE. -/
def execWrite (t : Nat) (f : Frame) (s : State) : Host.Outcome State Fault Refusal := .next (serveFrame 4 f (s.at t))

/-- SEG_INIT. -/
def execSegInit (t : Nat) (f : Frame) (s : State) : Host.Outcome State Fault Refusal := .next (serveFrame 5 f (s.at t))

/-- SEG_DATA. -/
def execSegData (t : Nat) (f : Frame) (s : State) : Host.Outcome State Fault Refusal := .next (serveFrame 6 f (s.at t))

/-- SEG_READ. -/
def execSegRead (t : Nat) (f : Frame) (s : State) : Host.Outcome State Fault Refusal := .next (serveFrame 7 f (s.at t))

/-- SEG_END. -/
def execSegEnd (t : Nat) (f : Frame) (s : State) : Host.Outcome State Fault Refusal := .next (serveFrame 8 f (s.at t))

/-- SEG_ABORT. -/
def execSegAbort (t : Nat) (f : Frame) (s : State) : Host.Outcome State Fault Refusal := .next (serveFrame 9 f (s.at t))

/-- CHALLENGE. -/
def execChallenge (t : Nat) (f : Frame) (s : State) : Host.Outcome State Fault Refusal := .next (serveFrame 10 f (s.at t))

/-- ELEVATE. -/
def execElevate (t : Nat) (f : Frame) (s : State) : Host.Outcome State Fault Refusal := .next (serveFrame 11 f (s.at t))

/-- DROP. -/
def execDrop (t : Nat) (f : Frame) (s : State) : Host.Outcome State Fault Refusal := .next (serveFrame 12 f (s.at t))

/-- UNDEFINED_OPCODE: the frame is served by the opcode it carries, which answers OPCODE where R354 lists none. -/
def execUndefinedOpcode (t : Nat) (opcode : BitVec 8) (f : Frame) (s : State) : Host.Outcome State Fault Refusal :=
  .next (serveFrame opcode.toNat f (s.at t))

/-! ## Responses that leave (R356, R358 to R360) -/

/-- A response leaves its queue: its cache window starts, and the answer to a write of a CAN object starts its 10 ms. -/
def answered (p : Port) (r : Resp) (s : State) : State :=
  let v := portOf s p
  let mark (e : CacheEntry) : CacheEntry :=
    if e.tag = r.tag ∧ e.sent = none ∧ r.outst then { e with sent := some s.now } else e
  let s1 := setPort p { v with queue := v.queue.drop 1, cache := v.cache.map mark } s
  if r.canObj then { s1 with mgt := { s1.mgt with canDue := some (s1.now + 10000000) } } else s1

/-- The bytes of a frame that the controller sends: header, then data (R353). -/
def respBytes (r : Resp) : List Byte :=
  toBE 1 r.opcode ++ toBE 2 (16 * r.tag + r.gen) ++ toBE 2 r.index ++ toBE 1 r.sub ++ toBE 2 r.data.length ++ r.data

/-- The valid data lengths of a CAN FD frame. -/
def canLengths : List Nat := [0, 1, 2, 3, 4, 5, 6, 7, 8, 12, 16, 20, 24, 32, 48, 64]

/-- A frame of this node leaves on a channel of CAN: its identifier, and its data field padded to a valid length (R356). -/
def canSent (channel : Nat) (r : Resp) (s : State) : State :=
  let bs := respBytes r
  let n := (canLengths.find? (fun n => decide (bs.length ≤ n))).getD 64
  { s with mgt := { s.mgt with
    canTx := some (canGet s Ob.WNP_CANBASE + 4 * nodeAddr s + channel, bs ++ List.replicate (n - bs.length) 0) } }

/-- The bytes on SDO of a transaction of `n` bytes: the prefix, the response at the head with its CRC-16, and zeros (R357). -/
def sdoBytes (q : List Resp) (n : Nat) : List Byte :=
  let f := match q with
    | r :: _ => respBytes r ++ toBE 2 (crc16 (respBytes r))
    | [] => []
  let all := toBE 1 0xA5 ++ toBE 1 (min 255 q.length) ++ toBE 2 f.length ++ f
  all.take n ++ List.replicate (n - all.length) 0

/-- The length of a response frame on SPI: header, data and CRC-16 (R357). -/
def respLen (r : Resp) : Nat := 10 + r.data.length

/-- The response at the head has been clocked out in full, after the 4-byte prefix. -/
def clockedOut (clocked : Nat) (s : State) : State :=
  match s.mgt.spi.queue with
  | r :: _ => if 4 + respLen r ≤ clocked then answered .spi r s else s
  | [] => s

/-- The fields of a request frame's header, and its data (R353): the bytes after the prefix. -/
def frameHdr (b : List Byte) : Hdr where
  port := .spi
  tag := BitVec.ofNat 12 (ofBE ((b.drop 1).take 2) / 16)
  gen := BitVec.ofNat 4 (ofBE ((b.drop 1).take 2))

/-- The frame of QL bytes passes the checks of R358. -/
def spiFrameOk (bytes : List Byte) (ql : Nat) : Bool :=
  let f := (bytes.drop 4).take ql
  decide (bytes.head? = some 0x5A#8) && decide (4 + ql ≤ bytes.length) && decide (10 ≤ ql)
    && decide (ql = 10 + ofBE ((f.drop 6).take 2)) && decide (crc16 (f.take (ql - 2)) = ofBE (f.drop (ql - 2)))

/-- The request frame that the prefix announces is taken or discarded. -/
def takeSpi (bytes : List Byte) (s : State) : State :=
  let ql := ofBE ((bytes.drop 2).take 2)
  let f := (bytes.drop 4).take ql
  if bytes.length < 4 ∨ ql = 0 then s
  else if !spiFrameOk bytes ql then cnt Ob.WNP_SPIERR s
  else serve (ofBE (f.take 1)) (frameHdr f) (ofBE ((f.drop 3).take 2)) (ofBE ((f.drop 5).take 1)) ((f.drop 8).take (ql - 10)) s

/-- The clock of SPI has stopped after these bytes: what went out on SDO while the port serves. -/
def spiClocked (at_ : Nat) (bytes : List Byte) (s : State) : State :=
  let out := if portServes s .spi then sdoBytes s.mgt.spi.queue bytes.length else s.mgt.spiOut
  { s with mgt := { s.mgt with sckAt := some at_, spiOut := out } }

/-- SPI_TRANSACTION_END: CS_N rises after these bytes of SDI. -/
def execSpiTransactionEnd (t : Nat) (bytes : List Byte) (s : State) : Host.Outcome State Fault Refusal :=
  let s1 := s.at t
  let s2 := spiClocked s1.now bytes s1
  .next (if portServes s2 .spi then takeSpi bytes (clockedOut bytes.length s2) else s2)

/-- SPI_SCK_STALL: the transaction ends 4 µs after the last edge; a request frame in it is discarded, and the response
stays at the head (R468). -/
def execSpiSckStall (t : Nat) (bytes : List Byte) (s : State) : Host.Outcome State Fault Refusal :=
  let s1 := s.at t
  let s2 := spiClocked (s1.now - 4000) bytes s1
  let announced := decide (4 ≤ bytes.length ∧ ofBE ((bytes.drop 2).take 2) ≠ 0)
  .next (if portServes s2 .spi && announced then cnt Ob.WNP_SPIERR s2 else s2)

/-- CAN_RESPONSE_TRANSMITTED: the oldest response leaves, and with none the oldest EVENT frame, whose identifier is
higher (R356, R377). -/
def execCanResponseTransmitted (t : Nat) (s : State) : Host.Outcome State Fault Refusal :=
  let s := s.at t
  .next (if !s.mgt.canBus then s
    else match s.mgt.can.queue with
      | r :: _ => answered .can r (canSent 1 r s)
      | [] => match s.mgt.events with
        | e :: rest => canSent 2 e { s with mgt := { s.mgt with events := rest } }
        | [] => s)

/-- CAN_RESPONSE_DROP: 100 ms have passed since it was queued. -/
def execCanResponseDrop (t : Nat) (s : State) : Host.Outcome State Fault Refusal :=
  let s := s.at t
  .next (match s.mgt.can.queue with
    | r :: _ => if s.now < r.queued + 100000000 then s else cnt Ob.WNP_RSPDROP (answered .can r s)
    | [] => s)

/-! ## The CAN controller (R356) -/

/-- CAN_BUS_OFF. -/
def execCanBusOff (t : Nat) (s : State) : Host.Outcome State Fault Refusal :=
  let s := s.at t
  .next (if s.mgt.canBus then evc 0xB7 (cnt Ob.WNP_BUSOFF { s with mgt := { s.mgt with canBus := false } }) else s)

/-- CAN_BUS_OFF_RECOVERY: 128 occurrences of 11 consecutive recessive bits. -/
def execCanBusOffRecovery (t : Nat) (s : State) : Host.Outcome State Fault Refusal :=
  let s := s.at t
  .next { s with mgt := { s.mgt with canBus := true } }

/-- CAN_CONFIG_APPLY: 10 ms after the response, the CAN objects take effect. -/
def execCanConfigApply (t : Nat) (s : State) : Host.Outcome State Fault Refusal :=
  let s := s.at t
  .next (match s.mgt.canDue with
    | some at_ =>
      if at_ ≤ s.now then { s with mgt := { s.mgt with canCfg := within s.obj Ob.WNP_CANEN (Ob.WNP_CANEN + 8), canDue := none } }
      else s
    | none => s)

/-- CAN_FRAME_IGNORED: a channel 3, classical or remote frame. -/
def execCanFrameIgnored (t : Nat) (s : State) : Host.Outcome State Fault Refusal :=
  let s := s.at t
  .next (if portServes s .can then cnt Ob.WNP_CANIGN s else s)

/-! ## Timers -/

/-- CACHE_ENTRY_EXPIRY: 2 s after its response left, the entry is discarded (R360). -/
def execCacheEntryExpiry (t : Nat) (p : Port) (tag : BitVec 12) (s : State) : Host.Outcome State Fault Refusal :=
  let s := s.at t
  let v := portOf s p
  .next (setPort p { v with cache := v.cache.filter (fun e => decide (e.tag ≠ tag.toNat) || e.live s.now) } s)

/-- SEG_TIMEOUT: 10 s without a segment (R367). -/
def execSegTimeout (t : Nat) (p : Port) (s : State) : Host.Outcome State Fault Refusal :=
  let s := s.at t
  .next (match (portOf s p).transfer with
    | some x => if x.at_ + 10000000000 ≤ s.now then abortTransfer p s else s
    | none => s)

/-- LOCKOUT_EXPIRY (R370). -/
def execLockoutExpiry (t : Nat) (p : Port) (s : State) : Host.Outcome State Fault Refusal :=
  let s := s.at t
  .next (if challengeBlocked s p then s else setPort p { portOf s p with blocked := none } s)

/-- SESSION_IDLE_TIMEOUT: ACC_IDLE seconds without an accepted request; 0 disables the return (R370). -/
def execSessionIdleTimeout (t : Nat) (p : Port) (s : State) : Host.Outcome State Fault Refusal :=
  let s := s.at t
  .next (if (portOf s p).active ∧ oget s Ob.ACC_IDLE ≠ 0 ∧ (portOf s p).lastReq + oget s Ob.ACC_IDLE * 1000000000 ≤ s.now then setPort p { portOf s p with level := 0 } s else s)

/-! ## Writes with a row of their own -/

/-- WNP_EVTPEND_WRITE: a write of the U16 object (R376). -/
def execWnpEvtpendWrite (t : Nat) (h : Hdr) (v : BitVec 16) (s : State) : Host.Outcome State Fault Refusal :=
  .next (writeRow h Ob.WNP_EVTPEND v.toNat ownEvtPend (s.at t))

/-- DEV_EVCLR. -/
def execDevEvclr (t : Nat) (h : Hdr) (v : BitVec 8) (s : State) : Host.Outcome State Fault Refusal :=
  .next (writeRow h Ob.DEV_EVCLR v.toNat ownEvClr (s.at t))

/-- PATCH_ACTIVATE: SAF_PATCH_CMD 1. -/
def execPatchActivate (t : Nat) (h : Hdr) (s : State) : Host.Outcome State Fault Refusal :=
  .next (writeRow h Ob.SAF_PATCH_CMD 1 ownPatchCmd (s.at t))

/-- PATCH_DISCARD: SAF_PATCH_CMD 2. -/
def execPatchDiscard (t : Nat) (h : Hdr) (s : State) : Host.Outcome State Fault Refusal :=
  .next (writeRow h Ob.SAF_PATCH_CMD 2 ownPatchCmd (s.at t))

/-- BNK_PEEK_DATA: a READ, or a WRITE of a word that may collide with port A (R174). -/
def execBnkPeekData (t : Nat) (h : Hdr) (w : Option (BitVec 64)) (collided : Bool) (s : State) :
    Host.Outcome State Fault Refusal :=
  let k := Ob.BNK_PEEK_DATA
  .next (match w with
    | none => request 3 h (k / 256) (k % 256) [] (runRead h.port (k / 256) (k % 256)) (s.at t)
    | some v => writeRow h k v.toNat (fun n => peekWrite (BitVec.ofNat 64 n) collided) (s.at t))

end Sys2Proof.Machine
end

