-- ==== Sys2Proof/Machine/Dispatch.lean ====
section
/-!
DEFINITION. The meaning of every command: one arm per constructor, each a direct call of its meaning.
-/

namespace Sys2Proof.Machine

/-- The effect of a command on everything but the queue. -/
def exec (i : Instr) (s : State) : Host.Outcome State Fault Refusal :=
  match i with
  | .powerOnReset t retentionLost straps => Sys2Proof.Machine.execPowerOnReset t retentionLost straps s
  | .fuseLoad t => Sys2Proof.Machine.execFuseLoad t s
  | .pgoodRise t => Sys2Proof.Machine.execPgoodRise t s
  | .supplyInWindow t which => Sys2Proof.Machine.execSupplyInWindow t which s
  | .supplyStartTimeout t => Sys2Proof.Machine.execSupplyStartTimeout t s
  | .supplyRetryTimer t => Sys2Proof.Machine.execSupplyRetryTimer t s
  | .dieLeavesReset t fuses testMode => Sys2Proof.Machine.execDieLeavesReset t fuses testMode s
  | .bootEnd t report => Sys2Proof.Machine.execBootEnd t report s
  | .pinReset t lowUs => Sys2Proof.Machine.execPinReset t lowUs s
  | .rstSoft t hdr value => Sys2Proof.Machine.execRstSoft t hdr value s
  | .lockstepReset t => Sys2Proof.Machine.execLockstepReset t s
  | .resetStretchEnd t fuses extLowUs testMode => Sys2Proof.Machine.execResetStretchEnd t fuses extLowUs testMode s
  | .devStateRun t hdr => Sys2Proof.Machine.execDevStateRun t hdr s
  | .devStateSetup t hdr => Sys2Proof.Machine.execDevStateSetup t hdr s
  | .safClear t hdr value => Sys2Proof.Machine.execSafClear t hdr value s
  | .safBandclr t hdr value => Sys2Proof.Machine.execSafBandclr t hdr value s
  | .sealCfg t hdr => Sys2Proof.Machine.execSealCfg t hdr s
  | .unsealCfg t hdr => Sys2Proof.Machine.execUnsealCfg t hdr s
  | .safInjGo t hdr value => Sys2Proof.Machine.execSafInjGo t hdr value s
  | .configCrcCheck t corrupt => Sys2Proof.Machine.execConfigCrcCheck t corrupt s
  | .configReloadTimeout t => Sys2Proof.Machine.execConfigReloadTimeout t s
  | .lockstepMismatch t => Sys2Proof.Machine.execLockstepMismatch t s
  | .coreWatchdogExpiry t => Sys2Proof.Machine.execCoreWatchdogExpiry t s
  | .laneBlockReceived t lane line skew => Sys2Proof.Machine.execLaneBlockReceived t lane line skew s
  | .trainMessageReceived t lane msg => Sys2Proof.Machine.execTrainMessageReceived t lane msg s
  | .detectLockWaitEnd t => Sys2Proof.Machine.execDetectLockWaitEnd t s
  | .capTimeout t => Sys2Proof.Machine.execCapTimeout t s
  | .stepIdleEnd t => Sys2Proof.Machine.execStepIdleEnd t s
  | .acceptanceTestDone t eyes => Sys2Proof.Machine.execAcceptanceTestDone t eyes s
  | .resultTimeout t => Sys2Proof.Machine.execResultTimeout t s
  | .goTimeout t => Sys2Proof.Machine.execGoTimeout t s
  | .cdrLossOfLock t lane => Sys2Proof.Machine.execCdrLossOfLock t lane s
  | .reconfigTimeout t => Sys2Proof.Machine.execReconfigTimeout t s
  | .pxlRetrain t hdr value => Sys2Proof.Machine.execPxlRetrain t hdr value s
  | .backgroundRetrainDone t lane eyes => Sys2Proof.Machine.execBackgroundRetrainDone t lane eyes s
  | .backgroundRetryTimer t lane => Sys2Proof.Machine.execBackgroundRetryTimer t lane s
  | .forwardLaneActivity t active => Sys2Proof.Machine.execForwardLaneActivity t active s
  | .laneRelockDone t locked => Sys2Proof.Machine.execLaneRelockDone t locked s
  | .pxlPrbsStart t hdr value => Sys2Proof.Machine.execPxlPrbsStart t hdr value s
  | .prbsTestEnd t received => Sys2Proof.Machine.execPrbsTestEnd t received s
  | .tile t hdr payload crc => Sys2Proof.Machine.execTile t hdr payload crc s
  | .token t hdr => Sys2Proof.Machine.execToken t hdr s
  | .groupBegin t hdr => Sys2Proof.Machine.execGroupBegin t hdr s
  | .groupEnd t hdr => Sys2Proof.Machine.execGroupEnd t hdr s
  | .srcframe t hdr => Sys2Proof.Machine.execSrcframe t hdr s
  | .linkctlSwitch t => Sys2Proof.Machine.execLinkctlSwitch t s
  | .linkctlSleep t => Sys2Proof.Machine.execLinkctlSleep t s
  | .linkctlBackloss t hdr => Sys2Proof.Machine.execLinkctlBackloss t hdr s
  | .linkctlDigestReq t => Sys2Proof.Machine.execLinkctlDigestReq t s
  | .linkctlBadop t hdr => Sys2Proof.Machine.execLinkctlBadop t hdr s
  | .headerLost t => Sys2Proof.Machine.execHeaderLost t s
  | .lakeTileDecoded t tag => Sys2Proof.Machine.execLakeTileDecoded t tag s
  | .groupTimeout t group => Sys2Proof.Machine.execGroupTimeout t group s
  | .sourceSilent t => Sys2Proof.Machine.execSourceSilent t s
  | .commitEnginePop t => Sys2Proof.Machine.execCommitEnginePop t s
  | .commitCopyDone t => Sys2Proof.Machine.execCommitCopyDone t s
  | .backPacketSend t => Sys2Proof.Machine.execBackPacketSend t s
  | .frameStart t period slotCounts slot0Late => Sys2Proof.Machine.execFrameStart t period slotCounts slot0Late s
  | .rowSlotStart t => Sys2Proof.Machine.execRowSlotStart t s
  | .rowPrepareStart t band row => Sys2Proof.Machine.execRowPrepareStart t band row s
  | .lineComplete t band half row slack => Sys2Proof.Machine.execLineComplete t band half row slack s
  | .tableCopySynced t index sub => Sys2Proof.Machine.execTableCopySynced t index sub s
  | .scanShowReq t hdr value => Sys2Proof.Machine.execScanShowReq t hdr value s
  | .rowrepReceived t band header records => Sys2Proof.Machine.execRowrepReceived t band header records s
  | .statusFrameReceived t band header records => Sys2Proof.Machine.execStatusFrameReceived t band header records s
  | .dlkLockTimeout t band => Sys2Proof.Machine.execDlkLockTimeout t band s
  | .dlkStepTestDone t band result => Sys2Proof.Machine.execDlkStepTestDone t band result s
  | .dlkRetrain t hdr value => Sys2Proof.Machine.execDlkRetrain t hdr value s
  | .dlkFailedRetry t band => Sys2Proof.Machine.execDlkFailedRetry t band s
  | .dlkDrvregWrite t hdr band value => Sys2Proof.Machine.execDlkDrvregWrite t hdr band value s
  | .recoveryDelivery t band row pass => Sys2Proof.Machine.execRecoveryDelivery t band row pass s
  | .ledgerRowUpdate t band row => Sys2Proof.Machine.execLedgerRowUpdate t band row s
  | .shadowRowChecked t band row codes lag => Sys2Proof.Machine.execShadowRowChecked t band row codes lag s
  | .regionCommitReq t hdr value => Sys2Proof.Machine.execRegionCommitReq t hdr value s
  | .lakeStart t hdr => Sys2Proof.Machine.execLakeStart t hdr s
  | .lakeResume t hdr => Sys2Proof.Machine.execLakeResume t hdr s
  | .lakeRawblk t hdr => Sys2Proof.Machine.execLakeRawblk t hdr s
  | .lakeSuspend t hdr => Sys2Proof.Machine.execLakeSuspend t hdr s
  | .lakeCancel t hdr => Sys2Proof.Machine.execLakeCancel t hdr s
  | .lakeCtxWrite t hdr ctx => Sys2Proof.Machine.execLakeCtxWrite t hdr ctx s
  | .lakeBlockDone t => Sys2Proof.Machine.execLakeBlockDone t s
  | .lakeQuantumExpiry t => Sys2Proof.Machine.execLakeQuantumExpiry t s
  | .scrubStep t found overwritten => Sys2Proof.Machine.execScrubStep t found overwritten s
  | .dramTempRead t die0 die1 => Sys2Proof.Machine.execDramTempRead t die0 die1 s
  | .rowCopyDone t => Sys2Proof.Machine.execRowCopyDone t s
  | .bnkOwnerWrite t hdr bank value => Sys2Proof.Machine.execBnkOwnerWrite t hdr bank value s
  | .bankRelease t bank => Sys2Proof.Machine.execBankRelease t bank s
  | .bankReleaseTimeout t bank => Sys2Proof.Machine.execBankReleaseTimeout t bank s
  | .bankClearDone t bank => Sys2Proof.Machine.execBankClearDone t bank s
  | .bnkPeekData t hdr write collided => Sys2Proof.Machine.execBnkPeekData t hdr write collided s
  | .sramScrubStep t found other lost => Sys2Proof.Machine.execSramScrubStep t found other lost s
  | .railPowerUpReq t hdr bands => Sys2Proof.Machine.execRailPowerUpReq t hdr bands s
  | .railDownReq t hdr bands => Sys2Proof.Machine.execRailDownReq t hdr bands s
  | .autorailRequest t => Sys2Proof.Machine.execAutorailRequest t s
  | .bandStaggerTimer t band => Sys2Proof.Machine.execBandStaggerTimer t band s
  | .tpdoffExpiry t band => Sys2Proof.Machine.execTpdoffExpiry t band s
  | .triseExpiry t band => Sys2Proof.Machine.execTriseExpiry t band s
  | .dischargeDelayExpiry t band => Sys2Proof.Machine.execDischargeDelayExpiry t band s
  | .pfailTrigger t source => Sys2Proof.Machine.execPfailTrigger t source s
  | .lampblackPdisTimer t band => Sys2Proof.Machine.execLampblackPdisTimer t band s
  | .lampblackComplete t => Sys2Proof.Machine.execLampblackComplete t s
  | .vresSupplySwitch t => Sys2Proof.Machine.execVresSupplySwitch t s
  | .vresSupplyEnd t => Sys2Proof.Machine.execVresSupplyEnd t s
  | .pnlVrestest t hdr value => Sys2Proof.Machine.execPnlVrestest t hdr value s
  | .vresTestDone t dropMv => Sys2Proof.Machine.execVresTestDone t dropMv s
  | .crackCheckTimer t => Sys2Proof.Machine.execCrackCheckTimer t s
  | .crackStepDone t v1 v2 => Sys2Proof.Machine.execCrackStepDone t v1 v2 s
  | .crackCheckLate t => Sys2Proof.Machine.execCrackCheckLate t s
  | .pnlCrklearn t hdr value => Sys2Proof.Machine.execPnlCrklearn t hdr value s
  | .adcScheduled t input => Sys2Proof.Machine.execAdcScheduled t input s
  | .calAdctrig t hdr input => Sys2Proof.Machine.execCalAdctrig t hdr input s
  | .supplyConversionDone t code => Sys2Proof.Machine.execSupplyConversionDone t code s
  | .calrepReceived t band header words => Sys2Proof.Machine.execCalrepReceived t band header words s
  | .calStart t hdr => Sys2Proof.Machine.execCalStart t hdr s
  | .calResume t hdr => Sys2Proof.Machine.execCalResume t hdr s
  | .calAbort t hdr => Sys2Proof.Machine.execCalAbort t hdr s
  | .calCommit t hdr => Sys2Proof.Machine.execCalCommit t hdr s
  | .calDiscard t hdr => Sys2Proof.Machine.execCalDiscard t hdr s
  | .calCommitDone t => Sys2Proof.Machine.execCalCommitDone t s
  | .openReq t frame => Sys2Proof.Machine.execOpenReq t frame s
  | .close t frame => Sys2Proof.Machine.execClose t frame s
  | .read t frame => Sys2Proof.Machine.execRead t frame s
  | .write t frame => Sys2Proof.Machine.execWrite t frame s
  | .segInit t frame => Sys2Proof.Machine.execSegInit t frame s
  | .segData t frame => Sys2Proof.Machine.execSegData t frame s
  | .segRead t frame => Sys2Proof.Machine.execSegRead t frame s
  | .segEnd t frame => Sys2Proof.Machine.execSegEnd t frame s
  | .segAbort t frame => Sys2Proof.Machine.execSegAbort t frame s
  | .challenge t frame => Sys2Proof.Machine.execChallenge t frame s
  | .elevate t frame => Sys2Proof.Machine.execElevate t frame s
  | .drop t frame => Sys2Proof.Machine.execDrop t frame s
  | .undefinedOpcode t opcode frame => Sys2Proof.Machine.execUndefinedOpcode t opcode frame s
  | .spiTransactionEnd t bytes => Sys2Proof.Machine.execSpiTransactionEnd t bytes s
  | .canResponseDrop t => Sys2Proof.Machine.execCanResponseDrop t s
  | .canBusOffRecovery t => Sys2Proof.Machine.execCanBusOffRecovery t s
  | .canConfigApply t => Sys2Proof.Machine.execCanConfigApply t s
  | .cacheEntryExpiry t port tag => Sys2Proof.Machine.execCacheEntryExpiry t port tag s
  | .segTimeout t port => Sys2Proof.Machine.execSegTimeout t port s
  | .lockoutExpiry t port => Sys2Proof.Machine.execLockoutExpiry t port s
  | .sessionIdleTimeout t port => Sys2Proof.Machine.execSessionIdleTimeout t port s
  | .wnpEvtpendWrite t hdr value => Sys2Proof.Machine.execWnpEvtpendWrite t hdr value s
  | .devEvclr t hdr value => Sys2Proof.Machine.execDevEvclr t hdr value s
  | .patchActivate t hdr => Sys2Proof.Machine.execPatchActivate t hdr s
  | .patchDiscard t hdr => Sys2Proof.Machine.execPatchDiscard t hdr s
  | .syncWord t word => Sys2Proof.Machine.execSyncWord t word s
  | .syncWaitTimeout t => Sys2Proof.Machine.execSyncWaitTimeout t s
  | .rollTimer t => Sys2Proof.Machine.execRollTimer t s
  | .roll t frame => Sys2Proof.Machine.execRoll t frame s
  | .status t frame => Sys2Proof.Machine.execStatus t frame s
  | .prepare t frame => Sys2Proof.Machine.execPrepare t frame s
  | .ready t frame => Sys2Proof.Machine.execReady t frame s
  | .refuse t frame => Sys2Proof.Machine.execRefuse t frame s
  | .commit t frame => Sys2Proof.Machine.execCommit t frame s
  | .abort t frame => Sys2Proof.Machine.execAbort t frame s
  | .resendReq t frame => Sys2Proof.Machine.execResendReq t frame s
  | .vector t frame => Sys2Proof.Machine.execVector t frame s
  | .snap t frame => Sys2Proof.Machine.execSnap t frame s
  | .gylCmtReq t hdr value => Sys2Proof.Machine.execGylCmtReq t hdr value s
  | .gylRealign t hdr value => Sys2Proof.Machine.execGylRealign t hdr value s
  | .gylSnapnow t hdr value => Sys2Proof.Machine.execGylSnapnow t hdr value s
  | .snapPeriodTimer t => Sys2Proof.Machine.execSnapPeriodTimer t s
  | .gylWakenow t hdr value => Sys2Proof.Machine.execGylWakenow t hdr value s
  | .wakeRepeatTimer t => Sys2Proof.Machine.execWakeRepeatTimer t s
  | .wakePhrase t phrase firstBitAt => Sys2Proof.Machine.execWakePhrase t phrase firstBitAt s
  | .wakeSlotExpiry t => Sys2Proof.Machine.execWakeSlotExpiry t s
  | .pwrReqP0 t hdr => Sys2Proof.Machine.execPwrReqP0 t hdr s
  | .pwrReqP1 t hdr => Sys2Proof.Machine.execPwrReqP1 t hdr s
  | .pwrReqP2 t hdr => Sys2Proof.Machine.execPwrReqP2 t hdr s
  | .pwrReqP3 t hdr => Sys2Proof.Machine.execPwrReqP3 t hdr s
  | .handshakeAnswer t answer => Sys2Proof.Machine.execHandshakeAnswer t answer s
  | .handshakeTimeout t => Sys2Proof.Machine.execHandshakeTimeout t s
  | .sleepRetryTimer t => Sys2Proof.Machine.execSleepRetryTimer t s
  | .p3PenOffTimer t => Sys2Proof.Machine.execP3PenOffTimer t s
  | .wakeN t low => Sys2Proof.Machine.execWakeN t low s
  | .p3TimerExpiry t => Sys2Proof.Machine.execP3TimerExpiry t s
  | .p2WakeDone t => Sys2Proof.Machine.execP2WakeDone t s
  | .vioAbWaitTimeout t => Sys2Proof.Machine.execVioAbWaitTimeout t s
  | .pmbusAttemptDone t acked statusWord pgood => Sys2Proof.Machine.execPmbusAttemptDone t acked statusWord pgood s
  | .pmbusAttemptTimeout t => Sys2Proof.Machine.execPmbusAttemptTimeout t s
  | .pmbAlert t statusWord => Sys2Proof.Machine.execPmbAlert t statusWord s
  | .pmbHoldoffExpiry t => Sys2Proof.Machine.execPmbHoldoffExpiry t s
  | .pwrPadrel t hdr value => Sys2Proof.Machine.execPwrPadrel t hdr value s
  | .clockMonitorTimeout t domain => Sys2Proof.Machine.execClockMonitorTimeout t domain s
  | .interfaceResetTimer t domain => Sys2Proof.Machine.execInterfaceResetTimer t domain s
  | .bandPllResetTimer t band relocked => Sys2Proof.Machine.execBandPllResetTimer t band relocked s
  | .peerResetClear t domain => Sys2Proof.Machine.execPeerResetClear t domain s
  | .spiSckStall t bytes => Sys2Proof.Machine.execSpiSckStall t bytes s
  | .journalRecordWrite t ok => Sys2Proof.Machine.execJournalRecordWrite t ok s
  | .ringHoldDrop t => Sys2Proof.Machine.execRingHoldDrop t s
  | .compactionDone t ok => Sys2Proof.Machine.execCompactionDone t ok s
  | .jrnCmdCompact t hdr => Sys2Proof.Machine.execJrnCmdCompact t hdr s
  | .jrnCmdFormat t hdr => Sys2Proof.Machine.execJrnCmdFormat t hdr s
  | .jrnCmdLock t hdr => Sys2Proof.Machine.execJrnCmdLock t hdr s
  | .jrnCmdAsbuilt t hdr => Sys2Proof.Machine.execJrnCmdAsbuilt t hdr s
  | .ledgerPieceTimer t => Sys2Proof.Machine.execLedgerPieceTimer t s
  | .doseHourlyTimer t => Sys2Proof.Machine.execDoseHourlyTimer t s
  | .mapRestoreDone t badBands badPieces => Sys2Proof.Machine.execMapRestoreDone t badBands badPieces s
  | .tlmSnapcmd t hdr value => Sys2Proof.Machine.execTlmSnapcmd t hdr value s
  | .evcSelWrite t hdr counter value => Sys2Proof.Machine.execEvcSelWrite t hdr counter value s
  | .evcClear t hdr value => Sys2Proof.Machine.execEvcClear t hdr value s
  | .markerMissing t lane => Sys2Proof.Machine.execMarkerMissing t lane s
  | .vaonOutOfWindow t => Sys2Proof.Machine.execVaonOutOfWindow t s
  | .canResponseTransmitted t => Sys2Proof.Machine.execCanResponseTransmitted t s
  | .canBusOff t => Sys2Proof.Machine.execCanBusOff t s
  | .canFrameIgnored t => Sys2Proof.Machine.execCanFrameIgnored t s
  | .gylorFrameDiscarded t slot own => Sys2Proof.Machine.execGylorFrameDiscarded t slot own s
  | .replyWindowClose t => Sys2Proof.Machine.execReplyWindowClose t s
  | .vioAbPresent t => Sys2Proof.Machine.execVioAbPresent t s
  | .padClassDecision t ab mv => Sys2Proof.Machine.execPadClassDecision t ab mv s
  | .dramRefresh t die completed parityErr => Sys2Proof.Machine.execDramRefresh t die completed parityErr s
  | .mapWordRewrite t word value => Sys2Proof.Machine.execMapWordRewrite t word value s

end Sys2Proof.Machine
end

