-- ==== Sys2Proof/Safety.lean ====
section
/-!
DEFINITION. What a safe state of the RV8Q40 is, in the terms the statements use: the rail interlock of every band, the
canonical form of DRAM, and a run that neither faults nor is refused.
-/

namespace Sys2Proof.Machine

/-- R309: PVENa and PDISa of a band are never both high. -/
def BandPins.interlocked (p : BandPins) : Bool := !(p.pven && p.pdis)

/-- The rail interlock holds in every band, listed or not. -/
def railsInterlocked (m : SMap BandPins) : Bool := m.all (fun e => e.2.interlocked)

/-- The state is safe: the rails are interlocked and DRAM is in its canonical form. -/
def State.safe_ (s : State) : Bool := railsInterlocked s.pins.bands && Memory.wf s.mem

/-! ## The parts of the state -/

/-- The parts of the state besides the queue of commands and the local time: its fields, by their names. -/
inductive Part where
  | free | obj | dom | mem | poison | boot | pins | pwr | evlog | cross | pxl | trx | lake | fst | bnk | mgt | scan | dlk
  | drvRec | wear | safe | pnl | cal | gyl | jrn
deriving DecidableEq, Repr

/-- Every part that the list does not name is in `s` as it is in `a`. -/
structure State.sameBut (m : List Part) (a s : State) : Prop where
  free   : Part.free ∉ m → s.free = a.free
  obj    : Part.obj ∉ m → s.obj = a.obj
  dom    : Part.dom ∉ m → s.dom = a.dom
  mem    : Part.mem ∉ m → s.mem = a.mem
  poison : Part.poison ∉ m → s.poison = a.poison
  boot   : Part.boot ∉ m → s.boot = a.boot
  pins   : Part.pins ∉ m → s.pins = a.pins
  pwr    : Part.pwr ∉ m → s.pwr = a.pwr
  evlog  : Part.evlog ∉ m → s.evlog = a.evlog
  cross  : Part.cross ∉ m → s.cross = a.cross
  pxl    : Part.pxl ∉ m → s.pxl = a.pxl
  trx    : Part.trx ∉ m → s.trx = a.trx
  lake   : Part.lake ∉ m → s.lake = a.lake
  fst    : Part.fst ∉ m → s.fst = a.fst
  bnk    : Part.bnk ∉ m → s.bnk = a.bnk
  mgt    : Part.mgt ∉ m → s.mgt = a.mgt
  scan   : Part.scan ∉ m → s.scan = a.scan
  dlk    : Part.dlk ∉ m → s.dlk = a.dlk
  drvRec : Part.drvRec ∉ m → s.drvRec = a.drvRec
  wear   : Part.wear ∉ m → s.wear = a.wear
  safe   : Part.safe ∉ m → s.safe = a.safe
  pnl    : Part.pnl ∉ m → s.pnl = a.pnl
  cal    : Part.cal ∉ m → s.cal = a.cal
  gyl    : Part.gyl ∉ m → s.gyl = a.gyl
  jrn    : Part.jrn ∉ m → s.jrn = a.jrn

/-! ## The frame of every command -/

/-- The parts of the state that a command can change besides the local time; the frame of every command. -/
def footprint : Instr → List Part
  | .pmbAlert .. | .canFrameIgnored .. => [.obj]
  | .wakeSlotExpiry .. => [.boot]
  | .vresSupplySwitch .. | .padClassDecision .. => [.pins]
  | .interfaceResetTimer .. | .peerResetClear .. => [.cross]
  | .backgroundRetryTimer .. => [.pxl]
  | .bankReleaseTimeout .. => [.bnk]
  | .canBusOffRecovery .. | .canConfigApply .. => [.mgt]
  | .tableCopySynced .. => [.scan]
  | .recoveryDelivery .. => [.dlk]
  | .crackCheckTimer .. => [.pnl]
  | .adcScheduled .. => [.cal]
  | .rollTimer .. => [.gyl]
  | .pmbHoldoffExpiry .. => [.obj, .pwr]
  | .prbsTestEnd .. => [.obj, .pxl]
  | .groupBegin .. | .linkctlDigestReq .. | .linkctlBadop .. => [.obj, .trx]
  | .lakeQuantumExpiry .. => [.obj, .lake]
  | .spiSckStall .. | .canBusOff .. => [.obj, .mgt]
  | .roll .. | .ready .. | .refuse .. | .commit .. | .abort .. | .resendReq .. | .vector .. | .snap ..
  | .snapPeriodTimer .. | .wakeRepeatTimer .. => [.obj, .gyl]
  | .fuseLoad .. | .pgoodRise .. | .supplyInWindow .. | .supplyRetryTimer .. => [.boot, .pins]
  | .bandStaggerTimer .. | .tpdoffExpiry .. | .dischargeDelayExpiry .. | .lampblackPdisTimer .. | .vresSupplyEnd .. =>
    [.pins, .pnl]
  | .backPacketSend .. => [.pxl, .trx]
  | .syncWaitTimeout .. => [.scan, .gyl]
  | .dlkFailedRetry .. => [.dlk, .pnl]
  | .configCrcCheck .. => [.free, .obj, .safe]
  | .vresTestDone .. => [.free, .obj, .pnl]
  | .supplyStartTimeout .. => [.obj, .boot, .pins]
  | .p3TimerExpiry .. => [.obj, .boot, .pwr]
  | .canResponseDrop .. | .cacheEntryExpiry .. | .lockoutExpiry .. | .sessionIdleTimeout .. | .wnpEvtpendWrite ..
  | .patchActivate .. | .patchDiscard .. | .pwrPadrel .. | .tlmSnapcmd .. | .evcSelWrite .. | .evcClear ..
  | .canResponseTransmitted .. => [.obj, .pins, .mgt]
  | .autorailRequest .. => [.obj, .pins, .pnl]
  | .lineComplete .. => [.obj, .pwr, .scan]
  | .backgroundRetrainDone .. => [.obj, .pxl, .trx]
  | .rowCopyDone .. => [.obj, .fst, .jrn]
  | .status .. => [.obj, .scan, .gyl]
  | .triseExpiry .. => [.obj, .wear, .pnl]
  | .vioAbPresent .. => [.boot, .pins, .pwr]
  | .lakeBlockDone .. => [.obj, .mem, .poison, .lake]
  | .mapWordRewrite .. => [.obj, .mem, .poison, .fst]
  | .vioAbWaitTimeout .. => [.obj, .boot, .pins, .pwr]
  | .detectLockWaitEnd .. => [.obj, .pins, .pxl, .mgt]
  | .lakeCtxWrite .. => [.obj, .pins, .lake, .mgt]
  | .bnkOwnerWrite .. => [.obj, .pins, .bnk, .mgt]
  | .scanShowReq .. => [.obj, .pins, .mgt, .scan]
  | .dlkDrvregWrite .. => [.obj, .pins, .mgt, .dlk]
  | .railPowerUpReq .. | .railDownReq .. | .pnlVrestest .. | .pnlCrklearn .. => [.obj, .pins, .mgt, .pnl]
  | .calAdctrig .. => [.obj, .pins, .mgt, .cal]
  | .gylRealign .. | .gylSnapnow .. | .gylWakenow .. => [.obj, .pins, .mgt, .gyl]
  | .headerLost .. => [.obj, .pxl, .trx, .lake]
  | .token .. | .groupEnd .. | .groupTimeout .. | .commitEnginePop .. => [.obj, .trx, .lake, .scan]
  | .doseHourlyTimer .. => [.obj, .lake, .wear, .jrn]
  | .bandPllResetTimer .. => [.cross, .dlk, .safe, .pnl]
  | .dieLeavesReset .. | .resetStretchEnd .. => [.obj, .boot, .pins, .pwr, .scan]
  | .devEvclr .. | .ringHoldDrop .. => [.obj, .pins, .evlog, .mgt, .jrn]
  | .regionCommitReq .. | .segTimeout .. => [.obj, .pins, .mgt, .scan, .jrn]
  | .safBandclr .. => [.obj, .pins, .mgt, .safe, .gyl]
  | .lakeStart .. | .lakeResume .. | .lakeRawblk .. | .lakeSuspend .. | .lakeCancel .. =>
    [.obj, .mem, .poison, .pins, .lake, .mgt]
  | .commitCopyDone .. => [.obj, .mem, .poison, .trx, .lake, .scan]
  | .pinReset .. | .lockstepReset .. => [.obj, .boot, .pins, .pwr, .dlk, .pnl]
  | .compactionDone .. | .ledgerPieceTimer .. => [.obj, .pins, .evlog, .lake, .mgt, .jrn]
  | .journalRecordWrite .. => [.obj, .pins, .evlog, .mgt, .cal, .jrn]
  | .gylorFrameDiscarded .. | .replyWindowClose .. => [.obj, .pins, .evlog, .mgt, .gyl, .jrn]
  | .pxlPrbsStart .. => [.free, .obj, .pins, .pxl, .trx, .lake, .mgt]
  | .tile .. | .lakeTileDecoded .. => [.obj, .mem, .poison, .trx, .lake, .scan, .safe]
  | .rstSoft .. => [.obj, .boot, .pins, .pwr, .mgt, .dlk, .pnl]
  | .calCommitDone .. => [.obj, .pins, .evlog, .lake, .mgt, .cal, .jrn]
  | .sealCfg .. | .unsealCfg .. => [.obj, .pins, .evlog, .mgt, .scan, .safe, .jrn]
  | .calrepReceived .. => [.free, .obj, .pins, .evlog, .lake, .mgt, .cal, .jrn]
  | .jrnCmdCompact .. | .jrnCmdFormat .. | .jrnCmdLock .. | .jrnCmdAsbuilt .. =>
    [.obj, .mem, .poison, .pins, .fst, .mgt, .wear, .jrn]
  | .linkctlSleep .. => [.obj, .pins, .evlog, .cross, .pxl, .trx, .mgt, .jrn]
  | .srcframe .. => [.obj, .pins, .evlog, .trx, .mgt, .safe, .gyl, .jrn]
  | .rowPrepareStart .. => [.obj, .pins, .evlog, .mgt, .scan, .wear, .safe, .jrn]
  | .p2WakeDone .. => [.pins, .pwr, .pxl, .trx, .fst, .scan, .dlk, .gyl]
  | .sourceSilent .. => [.free, .obj, .pins, .evlog, .trx, .mgt, .safe, .gyl, .jrn]
  | .calStart .. | .calResume .. | .calAbort .. | .calCommit .. | .calDiscard .. =>
    [.obj, .mem, .poison, .pins, .evlog, .lake, .mgt, .cal, .jrn]
  | .trainMessageReceived .. | .capTimeout .. | .stepIdleEnd .. | .acceptanceTestDone .. | .resultTimeout ..
  | .goTimeout .. | .cdrLossOfLock .. | .reconfigTimeout .. | .pxlRetrain .. | .laneRelockDone ..
  | .linkctlSwitch .. | .linkctlBackloss .. | .markerMissing .. =>
    [.obj, .pins, .evlog, .cross, .pxl, .trx, .lake, .mgt, .jrn]
  | .bankRelease .. | .bankClearDone .. => [.obj, .pins, .evlog, .lake, .bnk, .mgt, .wear, .cal, .jrn]
  | .mapRestoreDone .. => [.obj, .mem, .poison, .pins, .evlog, .lake, .fst, .mgt, .wear, .jrn]
  | .ledgerRowUpdate .. => [.obj, .mem, .poison, .pins, .evlog, .fst, .mgt, .wear, .safe, .jrn]
  | .syncWord .. => [.obj, .mem, .poison, .pins, .evlog, .mgt, .scan, .safe, .gyl, .jrn]
  | .statusFrameReceived .. | .dlkLockTimeout .. | .dlkStepTestDone .. =>
    [.obj, .pins, .evlog, .trx, .lake, .mgt, .scan, .dlk, .safe, .jrn]
  | .dlkRetrain .. => [.obj, .pins, .evlog, .trx, .lake, .mgt, .scan, .dlk, .safe, .pnl, .jrn]
  | .shadowRowChecked .. => [.obj, .mem, .poison, .pins, .evlog, .trx, .lake, .fst, .mgt, .scan, .safe, .jrn]
  | .safClear .. => [.obj, .boot, .pins, .evlog, .cross, .pxl, .trx, .mgt, .scan, .dlk, .pnl, .jrn]
  | .handshakeTimeout .. => [.obj, .pins, .pwr, .evlog, .pxl, .fst, .mgt, .scan, .dlk, .pnl, .gyl, .jrn]
  | .prepare .. | .gylCmtReq .. => [.obj, .pins, .pwr, .evlog, .pxl, .trx, .fst, .mgt, .scan, .dlk, .pnl, .gyl, .jrn]
  | .laneBlockReceived .. =>
    [.free, .obj, .mem, .poison, .pins, .evlog, .cross, .pxl, .trx, .lake, .mgt, .scan, .safe, .jrn]
  | .forwardLaneActivity .. | .wakePhrase .. | .pwrReqP0 .. | .pwrReqP1 .. | .pwrReqP2 .. | .pwrReqP3 ..
  | .sleepRetryTimer .. | .wakeN .. =>
    [.obj, .boot, .pins, .pwr, .evlog, .pxl, .trx, .fst, .mgt, .scan, .dlk, .pnl, .gyl, .jrn]
  | .rowrepReceived .. =>
    [.obj, .mem, .poison, .pins, .evlog, .trx, .lake, .fst, .mgt, .scan, .dlk, .drvRec, .wear, .safe, .pnl, .jrn]
  | .rowSlotStart .. =>
    [.obj, .mem, .poison, .pins, .evlog, .trx, .lake, .fst, .mgt, .scan, .dlk, .wear, .safe, .pnl, .cal, .jrn]
  | .handshakeAnswer .. =>
    [.obj, .boot, .pins, .pwr, .evlog, .cross, .pxl, .trx, .lake, .fst, .mgt, .scan, .dlk, .wear, .pnl, .cal, .gyl,
     .jrn]
  | .safInjGo .. | .configReloadTimeout .. | .lockstepMismatch .. | .coreWatchdogExpiry .. | .dramTempRead ..
  | .pfailTrigger .. | .crackStepDone .. | .crackCheckLate .. | .supplyConversionDone .. | .pmbusAttemptDone ..
  | .pmbusAttemptTimeout .. | .clockMonitorTimeout .. | .vaonOutOfWindow .. | .dramRefresh .. =>
    [.obj, .boot, .pins, .pwr, .evlog, .cross, .pxl, .trx, .lake, .fst, .mgt, .scan, .dlk, .safe, .pnl, .cal, .gyl,
     .jrn]
  | .devStateRun .. | .devStateSetup .. =>
    [.obj, .boot, .pins, .pwr, .evlog, .cross, .pxl, .trx, .lake, .fst, .mgt, .scan, .dlk, .wear, .safe, .pnl, .cal,
     .gyl, .jrn]
  | .scrubStep .. =>
    [.free, .obj, .mem, .poison, .boot, .pins, .pwr, .evlog, .cross, .pxl, .trx, .lake, .fst, .mgt, .scan, .dlk,
     .safe, .pnl, .cal, .gyl, .jrn]
  | .bnkPeekData .. | .sramScrubStep .. =>
    [.free, .obj, .boot, .pins, .pwr, .evlog, .cross, .pxl, .trx, .lake, .fst, .bnk, .mgt, .scan, .dlk, .wear,
     .safe, .pnl, .cal, .gyl, .jrn]
  | .bootEnd .. =>
    [.free, .obj, .dom, .mem, .poison, .boot, .pins, .pwr, .evlog, .cross, .pxl, .trx, .lake, .fst, .mgt, .scan,
     .dlk, .wear, .safe, .pnl, .cal, .gyl, .jrn]
  | .frameStart .. | .openReq .. | .close .. | .read .. | .write .. | .segInit .. | .segData .. | .segRead ..
  | .segEnd .. | .segAbort .. | .challenge .. | .elevate .. | .drop .. | .undefinedOpcode ..
  | .spiTransactionEnd .. =>
    [.free, .obj, .dom, .mem, .poison, .boot, .pins, .pwr, .evlog, .cross, .pxl, .trx, .lake, .fst, .bnk, .mgt,
     .scan, .dlk, .wear, .safe, .pnl, .cal, .gyl, .jrn]
  | .powerOnReset .. | .lampblackComplete .. | .p3PenOffTimer .. =>
    [.free, .obj, .dom, .mem, .poison, .boot, .pins, .pwr, .evlog, .cross, .pxl, .trx, .lake, .fst, .bnk, .mgt,
     .scan, .dlk, .drvRec, .wear, .safe, .pnl, .cal, .gyl, .jrn]

/-! ## Requests that are taken -/

/-- A request frame of `n` data bytes is taken and run (R351, R352, R359, R360): its port serves, its session is open and
names its generation, no cache entry holds its tag and fewer than 64 requests are outstanding. -/
def taken (s : State) (h : Hdr) (n : Nat) : Bool :=
  portServes s h.port && decide (n ≤ portMax h.port) && (portOf s h.port).active
    && decide (h.gen.toNat = (portOf s h.port).gen) && decide (h.gen ≠ 0)
    && ((portOf s h.port).cache.find? (fun e => decide (e.tag = h.tag.toNat) && e.live s.now)).isNone
    && decide (outstanding (portOf s h.port) < 64)

/-- Bytes of an object's type. -/
def objBytes (k : Nat) : Nat :=
  match rowAt (k / 256) (k % 256) with
  | some r => r.ty.bytes
  | none => 1

/-- A write of value `v` to object `k` is taken, and passes the checks of R361. -/
def writeTaken (s : State) (h : Hdr) (k v : Nat) : Bool :=
  taken s h (objBytes k) && decide (writeGate s h.port k (objBytes k) v = .pass) && decide (v < 256 ^ objBytes k)

/-- The state in which a taken request runs: it has been counted, and the session is no longer idle (R370, R492). -/
def counted (s : State) (h : Hdr) : State :=
  evc (0xB0 + portNo h.port) (setPort h.port { portOf s h.port with lastReq := s.now } s)

/-- The newest response of a port: its opcode, its tag, its status and the data after the status. -/
def lastAnswer (s : State) (p : Port) : Option (Nat × Nat × Nat × List Byte) :=
  (portOf s p).queue.getLast?.map (fun r => (r.opcode, r.tag, ofBE (r.data.take 1), r.data.drop 1))

/-- The controller die has entered BOOT with the fuses `f` read and the test mode pin at `mode` (R4, R33, R446, R453, R456). -/
abbrev bootBegun (f : FuseRead) (mode : Bool) (s s' : State) : Prop :=
  s'.boot.stage = .started ∧ s'.boot.op = .boot ∧ s'.pins.rstDrive = false ∧ s'.boot.testMode = mode ∧
  s'.boot.factoryOk = f.factoryOk ∧ s'.boot.customerOk = f.customerOk ∧ s'.boot.blank = !(f.customerOk && !f.blank) ∧
  s'.boot.fuseBands = (if f.customerOk && !f.blank then 2 ^ f.bands.val else 1) ∧
  oget s' Ob.SCAN_BANDS = s'.boot.fuseBands ∧ oget s' Ob.SAF_ROMID = Config.romId.toNat ∧
  (f.customerOk = true → f.blank = false → oget s' Ob.PMB_ADDR = f.pmbAddr.toNat ∧ oget s' Ob.PMB_CLK = f.pmbClk.val) ∧
  s'.safe.dark = s.safe.dark ∧ s'.boot.resetLogged = s.boot.resetLogged

/-- The marker of a block on lane `n` (R55, R57, R58), and the stuffing violations of the block. -/
abbrev blockMarker (s : State) (n : Nat) (line : LineBits) : MarkerIn :=
  MarkerIn.ofBits (lineTake (destuff (laneOf s n).run line).out 0 64)
abbrev blockBad (s : State) (n : Nat) (line : LineBits) : Nat := (destuff (laneOf s n).run line).bad

/-- Where a link that drops goes (R65, R75). -/
abbrev downLink (s : State) : LinkState := if oflag s Ob.PXL_ENABLE then .detect else .disabled

/-- The NAK of a TILE whose header fails a check (R94, R119). -/
abbrev nakPkt (h : TileHdr) (reason : Nat) : BackPkt := .mk .nak 0 h.gen h.tag h.group 0 (nakWord reason 0 0) h.srcf []

/-- The values of a row at which the shadow checker differs from what was sent: it computes the sampled pixels again, and `codes`
names the values that a fault of its own replaces (R290, R291). -/
def shadowDiffs (s : State) (l : Latch) (b : Nat) (x : Sent) (codes : List (Fin 7680 × Fin 6 × BitVec 10)) :
    List (Nat × Nat × Nat) :=
  (((sampled s l (panelRow s b x.row)).flatMap (recompute s l b x)).map (fun c =>
    match codes.find? (fun f => decide (f.1.val = c.1) && decide (f.2.1.val = c.2.1)) with
    | some f => (c.1, c.2.1, f.2.2.toNat)
    | none => c)).filter (differs x)

/-- The signatures of the recovery codes that the drivers of a band are to return for a row (R248, R262). -/
abbrev recoverySigs (s : State) (b row : Nat) : List Nat :=
  ((List.range (rget s Ob.DLK_NDRV)).map (recCodes s (panelRow s b row))).map recSig

/-- A frame of the cascade is of this type and length, sound, and for this node (R403, R404). -/
abbrev gylFor (s : State) (type len : Nat) (f : GylIn) : Prop :=
  gylOk type len f = true ∧ (f.header.toNat / 2 ^ 8 % 256 = 255 ∨ f.header.toNat / 2 ^ 8 % 256 = nodeAddr s)

/-- The node that a frame of the cascade names as its sender (R403). -/
abbrev gylSrc (f : GylIn) : Nat := f.header.toNat / 2 ^ 16 % 256

/-- What this node puts on a pair at a time: a frame and its line code (R403). -/
abbrev gylOut (s : State) (at_ type dst : Nat) (data : List Byte) : GylTx :=
  .mk at_ type dst data (manchester (gylBytes type (nodeAddr s) dst data))

/-- A step answers a next state. -/
def completes (o : Host.Outcome State Fault Refusal) : Bool :=
  match o with
  | .next _ => true
  | .fault _ => false
  | .refused _ => false

end Sys2Proof.Machine
end

