-- ==== Sys2Proof/Certificates/Slice0/Obligations.lean ====
section
/-! DEFINITION. The statements for the provers: what the commands of each family do, what each leaves unchanged, and what holds
of the whole machine. A clause whose rule is the model's own choice names its log entry. -/

open Sys2Proof Sys2Proof.Machine

/-! ## Power, resets and safety -/

/-- The power sequence: FUSE_LOAD drives the pins and PEN0, PGOOD_RISE enables PEN1, VDRAM and VLANE together enable PEN2,
and VIO_CD makes the supplies complete. A supply that is not good within 5 ms takes every PEN low; after the third
attempt the start has failed and PWR_BOOTFAIL names the supply, before that SUPPLY_RETRY_TIMER starts again after 100
ms. A power-on reset empties DRAM, the DOMs, the transaction tables and the driver records, gives every object its
reset value but the strap record, PWR_RETLOSS and JRN_SEQ, reads the site number from the lower median of the
conversions, and keeps the journal device, the patches and the fused key. -/
def Obligations.PowerComesOn : Prop :=
  (∀ (t : Nat) (s : State),
     (s.boot.stage = .aonReset → ∃ s', exec (.fuseLoad t) s = .next s' ∧ s'.pins.fused = true ∧ s'.pins.pen0 = true ∧
       s'.pins.pen1 = false ∧ s'.pins.pen2 = false ∧ s'.boot.stage = .waitPgood ∧ s'.boot.stageAt = max s.now t) ∧
     (s.boot.stage = .waitPgood → ∃ s', exec (.pgoodRise t) s = .next s' ∧ s'.pins.pgood = s.pins.pen0 ∧
       s'.pins.pen1 = true ∧ s'.boot.stage = .waitPen1 ∧ s'.boot.stageAt = max s.now t) ∧
     (s.boot.stage = .waitPen1 → s.pins.pen1 = true →
       (s.boot.vdramOk = true → ∃ s', exec (.supplyInWindow t .vlane) s = .next s' ∧ s'.pins.pen2 = true ∧
         s'.boot.vlaneOk = true ∧ s'.boot.stage = .waitPen2) ∧
       (s.boot.vlaneOk = true → ∃ s', exec (.supplyInWindow t .vdram) s = .next s' ∧ s'.pins.pen2 = true ∧
         s'.boot.vdramOk = true ∧ s'.boot.stage = .waitPen2) ∧
       (s.boot.vlaneOk = false → ∃ s', exec (.supplyInWindow t .vdram) s = .next s' ∧ s'.pins = s.pins ∧
         s'.boot.vdramOk = true ∧ s'.boot.stage = .waitPen1)) ∧
     (s.boot.stage = .waitPen2 → s.pins.pen2 = true → ∃ s', exec (.supplyInWindow t .viocd) s = .next s' ∧
       s'.boot.viocdOk = true ∧ s'.boot.stage = .supplied ∧ s'.boot.attempts = 0) ∧
     (s.boot.stage = .waitPgood ∨ s.boot.stage = .waitPen1 ∨ s.boot.stage = .waitPen2 →
       s.boot.stageAt + 5000000 ≤ max s.now t →
       ∃ s', exec (.supplyStartTimeout t) s = .next s' ∧ s'.pins.pen0 = false ∧ s'.pins.pen1 = false ∧ s'.pins.pen2 = false ∧
         s'.boot.attempts = s.boot.attempts + 1 ∧ s'.boot.stage = (if 2 ≤ s.boot.attempts then .failed else .retryWait) ∧
         (2 ≤ s.boot.attempts → oget s' Ob.PWR_BOOTFAIL = failCode s.boot.stage)) ∧
     (s.boot.stage = .retryWait → s.boot.stageAt + 100000000 ≤ max s.now t →
       ∃ s', exec (.supplyRetryTimer t) s = .next s' ∧ s'.pins.pen0 = true ∧ s'.pins.pen1 = false ∧
         s'.boot.stage = .waitPgood ∧ s'.boot.stageAt = max s.now t)) ∧
  (∀ (t : Nat) (lost : Bool) (straps : List (BitVec 12)) (s : State),
     ∃ s', exec (.powerOnReset t lost straps) s = .next s' ∧ s'.boot.stage = .aonReset ∧ s'.boot.op = .boot ∧ s'.mem = [] ∧
       s'.dom = [] ∧ s'.trx = Trx.initial ∧ s'.drvRec = [] ∧ s'.pxl = Pxl.initial ∧ s'.lake = Lake.initial ∧
       s'.scan.epoch = 0 ∧ s'.jrn.nv = s.jrn.nv ∧ s'.mgt.patchRun = s.mgt.patchRun ∧ s'.boot.factoryKey = s.boot.factoryKey ∧
       oget s' Ob.RST_STRAP_CODE = lowerMedian (straps.map (·.toNat)) ∧
       oget s' Ob.RST_STRAP_SITE = lowerMedian (straps.map (·.toNat)) / 256 ∧
       oget s' Ob.PWR_RETLOSS = (if lost then 2 else 0) ∧
       ∀ k, k ∉ [Ob.RST_STRAP_CODE, Ob.RST_STRAP_SITE, Ob.RST_STRAP_MARGIN, Ob.RST_STRAP_SPREAD, Ob.PWR_RETLOSS, Ob.JRN_SEQ] →
         oget s' k = oget State.reset k)

/-- RST_N from outside, RST_SOFT and the lockstep reset start the lampblack path of a running controller; the reset waits
for the end of the path, and the source is counted, entered as RST_LAST and kept for the event log. RST_N held low
while the controller drives it is no source, and after a failed start it starts the supplies again. -/
def Obligations.ResetsStartThePath : Prop :=
  ∀ (t : Nat) (s : State),
    (s.boot.stage = .started → s.boot.pending = none → s.pnl.path = none →
      (∀ lowUs, 0 < lowUs → s.pins.rstDrive = false →
        ∃ s', exec (.pinReset t lowUs) s = .next s' ∧ s'.boot.pending = some .pin ∧ s'.pnl.path.isSome = true ∧
          s'.boot.resetLogged = s.boot.resetLogged ++ [.pin] ∧ oget s' Ob.RST_LAST = 3 ∧
          oget s' Ob.RST_EXTLOW = min lowUs 0xFFFFFFFF) ∧
      (∀ h v, writeTaken (s.at t) h Ob.RST_SOFT (BitVec.toNat v) = true →
        ∃ s', exec (.rstSoft t h v) s = .next s' ∧ s'.boot.pending = some .soft ∧ s'.pnl.path.isSome = true ∧
          s'.boot.resetLogged = s.boot.resetLogged ++ [.soft] ∧ oget s' Ob.RST_LAST = 4) ∧
      (∀ e, s.boot.lockstepAt = some e → e ≤ max s.now t → ∃ s', exec (.lockstepReset t) s = .next s' ∧
        s'.boot.pending = some .lockstep ∧ s'.pnl.path.isSome = true ∧ s'.boot.lockstepAt = none ∧
        s'.boot.resetLogged = s.boot.resetLogged ++ [.lockstep] ∧ oget s' Ob.RST_LAST = 5)) ∧
    (∀ lowUs, 0 < lowUs → s.boot.stage = .failed → ∃ s', exec (.pinReset t lowUs) s = .next s' ∧
      s'.boot.stage = .waitPgood ∧ s'.boot.attempts = 0 ∧ s'.pins.pen0 = true) ∧
    (∀ lowUs, s.boot.stage ≠ .failed → s.pins.rstDrive = true → exec (.pinReset t lowUs) s = .next (s.at t))

/-- The controller die leaves reset into BOOT, at the first start with all supplies good and after a system reset when the
stretch and its holding conditions have ended: RST_N is released, the test mode pin is read, the band count and the
PMBus settings come from a customer fuse field that is neither blank nor bad, and the bands that are DARK stay so
(`bootBegun`). BOOT ends in SAFE-DARK when the self-test fails, a fuse field fails its CRC or a device-class failure
was recorded in BOOT, and in SETUP with FAULT_N high and the reserve test due when nothing of that stands, the patch
verifies and no device-class cause is present. With the test mode pin high BOOT does not end. -/
def Obligations.DieBootsAndLeavesBoot : Prop :=
  (∀ (t : Nat) (f : FuseRead) (mode : Bool) (s : State),
     (s.boot.stage = .supplied → ∃ s', exec (.dieLeavesReset t f mode) s = .next s' ∧ bootBegun f mode s s') ∧
     (∀ low, s.boot.stage = .inReset → s.boot.stageAt + s.boot.stretch ≤ max s.now t → suppliesGood s = true →
       ∃ s', exec (.resetStretchEnd t f low mode) s = .next s' ∧ bootBegun f mode s s' ∧
         (low ≠ 0 → oget s' Ob.RST_EXTLOW = min low 0xFFFFFFFF))) ∧
  (∀ (t : Nat) (r : BootReport) (s : State), s.boot.stage = .started → s.boot.op = .boot →
     (s.boot.testMode = true → exec (.bootEnd t r) s = .next (s.at t)) ∧
     (s.boot.testMode = false →
       ∃ s', exec (.bootEnd t r) s = .next s' ∧ s'.boot.stage = .started ∧ s'.boot.fromP3 = false ∧
         s'.boot.unfit = false ∧ s'.boot.resetLogged = [] ∧ s'.pins.pen3 = true ∧ s'.boot.upSince = max s.now t ∧
         (s'.boot.op = .setup ∨ s'.boot.op = .safeDark) ∧
         (r.selfTest = false ∨ s.boot.factoryOk = false ∨ s.boot.customerOk = false ∨ s.boot.unfit = true →
           s'.boot.op = .safeDark) ∧
         (r.selfTest = true → s.boot.factoryOk = true → s.boot.customerOk = true → s.boot.unfit = false → r.patchOk = true →
           deviceCause s = false → s'.boot.op = .setup ∧ s'.pins.faultN = true ∧ s'.pnl.vresTest = true)))

/-- An accepted write of RUN to DEV_STATE takes SETUP to RUN when no condition of DEV_RUNERR stands; otherwise the state
stays and DEV_RUNERR holds the first condition. An accepted write of SETUP takes RUN to SETUP. SEAL in SETUP seals the
configuration under the CRC of the record in force, and UNSEAL opens it again; each change is counted, and a SEAL of a
sealed or an UNSEAL of an open configuration changes neither flag nor count. -/
def Obligations.StateAndSealRequests : Prop :=
  (∀ (t : Nat) (h : Hdr) (s : State), s.pwr.state = .p0 → stateHeld s = false →
     (s.boot.op = .setup → writeTaken (s.at t) h Ob.DEV_STATE 2 = true →
       runErr (counted (s.at t) h) = 0 → ∃ s', exec (.devStateRun t h) s = .next s' ∧ s'.boot.op = .run) ∧
     (s.boot.op = .setup → writeTaken (s.at t) h Ob.DEV_STATE 2 = true →
       runErr (counted (s.at t) h) ≠ 0 → ∃ s', exec (.devStateRun t h) s = .next s' ∧ s'.boot.op = .setup ∧
         oget s' Ob.DEV_RUNERR = runErr (counted (s.at t) h)) ∧
     (s.boot.op = .run → writeTaken (s.at t) h Ob.DEV_STATE 1 = true →
       ∃ s', exec (.devStateSetup t h) s = .next s' ∧ s'.boot.op = .setup)) ∧
  (∀ (t : Nat) (h : Hdr) (s : State), s.boot.op = .setup →
     (writeTaken (s.at t) h Ob.SAF_SEALCMD 1 = true → oflag s Ob.SAF_SEALED = false →
       ∃ s', exec (.sealCfg t h) s = .next s' ∧ oflag s' Ob.SAF_SEALED = true ∧
         s'.safe.sealCrc = recordCrc (counted (s.at t) h) ∧ oget s' Ob.SAF_SEALCRC = recordCrc (counted (s.at t) h) ∧
         oget s' Ob.SAF_SEALCNT = satInc 0xFFFFFFFF (oget s Ob.SAF_SEALCNT) ∧
         s'.mem = s.mem ∧ s'.boot = s.boot ∧ s'.scan = s.scan) ∧
     (writeTaken (s.at t) h Ob.SAF_SEALCMD 2 = true → oflag s Ob.SAF_SEALED = true →
       ∃ s', exec (.unsealCfg t h) s = .next s' ∧ oflag s' Ob.SAF_SEALED = false ∧
         oget s' Ob.SAF_SEALCNT = satInc 0xFFFFFFFF (oget s Ob.SAF_SEALCNT) ∧
         s'.mem = s.mem ∧ s'.boot = s.boot ∧ s'.scan = s.scan) ∧
     (writeTaken (s.at t) h Ob.SAF_SEALCMD 1 = true → oflag s Ob.SAF_SEALED = true →
       ∃ s', exec (.sealCfg t h) s = .next s' ∧ oflag s' Ob.SAF_SEALED = true ∧
         oget s' Ob.SAF_SEALCNT = oget s Ob.SAF_SEALCNT ∧ s'.safe = s.safe) ∧
     (writeTaken (s.at t) h Ob.SAF_SEALCMD 2 = true → oflag s Ob.SAF_SEALED = false →
       ∃ s', exec (.unsealCfg t h) s = .next s' ∧ oflag s' Ob.SAF_SEALED = false ∧
         oget s' Ob.SAF_SEALCNT = oget s Ob.SAF_SEALCNT ∧ s'.safe = s.safe))

/-- An accepted SAF_BANDCLR marks exactly the DARK bands it names that no condition of SAF_CLRSTAT holds back; no band
changes its state before the next frame start. SAF_CLEAR in SAFE-DARK with no device-class cause present and sound
crack loops returns to SETUP and releases FAULT_N; with a cause the state and FAULT_N stay and SAF_CLRSTAT holds 1.
Outside SAFE-DARK, and with the value 0, it changes neither. -/
def Obligations.DarknessIsCleared : Prop :=
  (∀ (t : Nat) (h : Hdr) (v : BitVec 8) (s : State), writeTaken (s.at t) h Ob.SAF_BANDCLR v.toNat = true →
     ∃ s', exec (.safBandclr t h v) s = .next s' ∧ s'.scan = s.scan ∧ s'.safe.dark = s.safe.dark ∧
       s'.safe.clearDue = ((usedBands s).filter (fun b => bit v.toNat b && decide ((bandScan s b).state = 2) &&
         decide (clearErr (counted (s.at t) h) b = 0))).foldl setBit s.safe.clearDue) ∧
  (∀ (t : Nat) (h : Hdr) (v : BitVec 8) (s : State), writeTaken (s.at t) h Ob.SAF_CLEAR v.toNat = true →
     (v ≠ 0 → s.boot.op = .safeDark → deviceCause s = false → crackBad s = false →
       ∃ s', exec (.safClear t h v) s = .next s' ∧ s'.boot.op = .setup ∧ s'.pins.faultN = true ∧
         oget s' Ob.SAF_CLRSTAT = 0) ∧
     (v ≠ 0 → s.boot.op = .safeDark → deviceCause s = true ∨ crackBad s = true →
       ∃ s', exec (.safClear t h v) s = .next s' ∧ s'.boot.op = .safeDark ∧
         s'.pins.faultN = s.pins.faultN ∧ oget s' Ob.SAF_CLRSTAT = 1) ∧
     (v = 0 ∨ s.boot.op ≠ .safeDark → ∃ s', exec (.safClear t h v) s = .next s' ∧ s'.boot.op = s.boot.op ∧
       s'.pins.faultN = s.pins.faultN))

/-- A lockstep mismatch and an expiry of the core watchdog are device-class failures of SM10, and a configuration that is
not repaired in time is one of SM15: outside BOOT and SAFE-DARK the machine is in SAFE-DARK after them, with FAULT_N
low, the mechanism's record at class 3, and for SM10 the lockstep reset due 10 ms later. -/
def Obligations.DeviceFailuresDarken : Prop :=
  ∀ (t : Nat) (s : State), s.boot.stage = .started → s.boot.op ≠ .boot →
    (∃ s', exec (.lockstepMismatch t) s = .next s' ∧ s'.boot.op = .safeDark ∧ s'.boot.lockstepAt.isSome = true ∧
      (mechOf s' 10).lastClass = 3 ∧ (mechOf s' 10).active = true ∧
      (mechOf s' 10).count = satInc 0xFFFF (mechOf s 10).count) ∧
    (∃ s', exec (.coreWatchdogExpiry t) s = .next s' ∧ s'.boot.op = .safeDark ∧ s'.boot.lockstepAt.isSome = true ∧
      (mechOf s' 10).lastClass = 3 ∧ (mechOf s' 10).active = true ∧
      (mechOf s' 10).count = satInc 0xFFFF (mechOf s 10).count) ∧
    (s.safe.corrupt = true → ∃ s', exec (.configReloadTimeout t) s = .next s' ∧ s'.boot.op = .safeDark ∧
      s'.safe.corrupt = false ∧ s'.safe.reload = false ∧ (mechOf s' 15).lastClass = 3) ∧
    (s.boot.op ≠ .safeDark → s.boot.lockstepAt = none →
      ∃ s', exec (.lockstepMismatch t) s = .next s' ∧ s'.pins.faultN = false ∧
        s'.boot.lockstepAt = some (max s.now t + 10000000))

/-- The check of the live configuration finds it sound when nothing is corrupt and its CRC is the seal CRC; a corrupt
record, and a CRC that differs, are marked for a reload and counted for SM15. An injection in SETUP counts a failure of
the mechanism that SAF_INJ_SM names: SM01, SM02 and SM06 inject an overlay cause, SM03 counts alone, SM15 marks the
record for a reload, a band-class mechanism takes its band DARK and any other takes the device to SAFE-DARK. SAF_INJ_SM
0 and a band that is not present inject nothing. -/
def Obligations.ConfigurationIsCheckedAndInjected : Prop :=
  (∀ (t : Nat) (s : State), configRuns s = true → s.safe.corrupt = false →
     (recordCrc (s.at t) = s.safe.sealCrc → ∃ s', exec (.configCrcCheck t false) s = .next s' ∧
       oget s' Ob.SAF_LIVECRC = recordCrc (s.at t) ∧ s'.safe = s.safe) ∧
     (recordCrc (s.at t) ≠ s.safe.sealCrc → ∃ s', exec (.configCrcCheck t false) s = .next s' ∧
       s'.safe.corrupt = true ∧ s'.safe.reload = true ∧ (mechOf s' 15).count = satInc 0xFFFF (mechOf s 15).count) ∧
     (∃ s', exec (.configCrcCheck t true) s = .next s' ∧ s'.safe.corrupt = true ∧ s'.safe.reload = true ∧
       (mechOf s' 15).count = satInc 0xFFFF (mechOf s 15).count)) ∧
  (∀ (t : Nat) (h : Hdr) (v : BitVec 8) (s : State), writeTaken (s.at t) h Ob.SAF_INJ_GO v.toNat = true → v ≠ 0 →
     s.boot.op = .setup → s.boot.stage = .started →
     let n := oget s Ob.SAF_INJ_SM
     let b := oget s Ob.SAF_INJ_BAND
     let band : Bool := [4, 5, 7, 8, 9, 14].contains n
     (n ≠ 0 → (band = true → b < bandCount s) →
       ∃ s', exec (.safInjGo t h v) s = .next s' ∧ (mechOf s' n).count = satInc 0xFFFF (mechOf s n).count ∧
         (n = 1 ∨ n = 2 ∨ n = 6 → s'.safe.inj.isSome = true ∧ (mechOf s' n).lastClass = 1) ∧
         (n = 15 → s'.safe.corrupt = true ∧ s'.safe.reload = true) ∧
         (n = 3 ∨ n = 15 → s'.mem = s.mem ∧ s'.boot = s.boot ∧ s'.scan = s.scan) ∧
         (band = true → bit s'.safe.dark b = true ∧ s'.boot.op = .setup) ∧
         (n = 10 ∨ n = 11 ∨ n = 12 ∨ n = 13 → s'.boot.op = .safeDark ∧ (mechOf s' n).lastClass = 3)) ∧
     (n = 0 ∨ band = true ∧ bandCount s ≤ b →
       ∃ s', exec (.safInjGo t h v) s = .next s' ∧ s'.safe = s.safe ∧ s'.boot = s.boot ∧ s'.scan = s.scan))

/-! ## The forward and back link -/

/-- A CAP timeout, a GO timeout, a RECONFIG timeout with no block of the new LCN and PXL_RETRAIN drop the link to DETECT,
or to DISABLED where it is not enabled, and the drop's cause is the one of the event. PXL_RETRAIN of a DISABLED link
changes nothing in it. Training: HELLO tells the lanes the source hears; CAP sets the rates both ends can do and the
next step begins; at the end of a step's idle time the tried rate is in force; RESULT of every back lane goes on to the
next rate, and a back step that no report confirms and a forward step that no lane passes are tried again one rate
lower; a forward step that every lane passes goes on, at the target rates with GO. A message that is not accepted fails
the test of its lane. -/
def Obligations.LinkTrainsAndDrops : Prop :=
  (∀ (t : Nat) (s : State),
     (s.pxl.link = .negotiate → ∃ s', exec (.capTimeout t) s = .next s' ∧
       s'.pxl.link = downLink s ∧ s'.pxl.downCause = 7) ∧
     (s.pxl.link = .go → ∃ s', exec (.goTimeout t) s = .next s' ∧
       s'.pxl.link = downLink s ∧ s'.pxl.downCause = 3) ∧
     (s.pxl.link = .reconfig ∨ (s.pxl.link = .active ∧ s.pxl.prevLcn.isSome = true) →
       (lanesOf s.pxl.fmask).all (fun n => !(laneOf s n).newLcn) = true →
       ∃ s', exec (.reconfigTimeout t) s = .next s' ∧ s'.pxl.link = downLink s ∧ s'.pxl.downCause = 4 ∧
         s'.pxl.hadDrop = true) ∧
     (∀ h v, writeTaken (s.at t) h Ob.PXL_RETRAIN (BitVec.toNat v) = true → v ≠ 0 → s.pxl.link ≠ .disabled →
       ∃ s', exec (.pxlRetrain t h v) s = .next s' ∧ s'.pxl.link = downLink s ∧ s'.pxl.downCause = 5) ∧
     (∀ h v, writeTaken (s.at t) h Ob.PXL_RETRAIN (BitVec.toNat v) = true → v = 0 ∨ s.pxl.link = .disabled →
       ∃ s', exec (.pxlRetrain t h v) s = .next s' ∧ s'.pxl = s.pxl)) ∧
  (∀ (t : Nat) (s : State),
     (∀ (lane : Fin 16) (m : TrainIn), fwdHears s lane.val = true →
       (trainOk m = false → ∃ s', exec (.trainMessageReceived t lane m) s = .next s' ∧
         (laneOf s' lane.val).testBad = true ∧ s'.pxl.link = s.pxl.link) ∧
       (trainOk m = true → m.ttype = 1 → s.pxl.link = .detect → ∃ s', exec (.trainMessageReceived t lane m) s = .next s' ∧
         s'.pxl.srcHello = m.mask.toNat ∧ (laneOf s' lane.val).hello = true) ∧
       (trainOk m = true → m.ttype = 2 → s.pxl.link = .negotiate →
         s.pxl.brate < min (oget s Ob.PXL_BACK_MAXRATE) m.brate.toNat →
         ∃ s', exec (.trainMessageReceived t lane m) s = .next s' ∧
           s'.pxl.ftarget = min (oget s Ob.PXL_FWD_MAXRATE) m.frate.toNat ∧
           s'.pxl.btarget = min (oget s Ob.PXL_BACK_MAXRATE) m.brate.toNat ∧
           s'.pxl.link = .stepBack ∧ s'.pxl.stepRate = s.pxl.brate + 1 ∧ s'.pxl.idle = true) ∧
       (trainOk m = true → m.ttype = 4 → s.pxl.link = .stepBack → s.pxl.awaitRes = true → m.brate.toNat = s.pxl.stepRate →
         ([0, 1].filter (bit s.pxl.bmask)).all (bit m.mask.toNat) = true → s.pxl.brate < s.pxl.btarget →
         ∃ s', exec (.trainMessageReceived t lane m) s = .next s' ∧ s'.pxl.link = .stepBack ∧ s'.pxl.awaitRes = false ∧
           s'.pxl.stepRate = s.pxl.brate + 1 ∧ s'.pxl.idle = true)) ∧
     (s.pxl.lockWait = true → detectDone s = true → ∃ s', exec (.detectLockWaitEnd t) s = .next s' ∧
       s'.pxl.link = .negotiate ∧ s'.pxl.lockWait = false) ∧
     (s.pxl.idle = true → s.pxl.link = .stepBack → s.pxl.brate ≤ s.pxl.stepRate → ∃ s', exec (.stepIdleEnd t) s = .next s' ∧
       s'.pxl.brate = s.pxl.stepRate ∧ s'.pxl.idle = false ∧ s'.pxl.awaitRes = decide (s.pxl.brate < s.pxl.stepRate)) ∧
     (s.pxl.idle = true → s.pxl.link = .stepFwd → s.pxl.frate ≤ s.pxl.stepRate → ∃ s', exec (.stepIdleEnd t) s = .next s' ∧
       s'.pxl.frate = s.pxl.stepRate ∧ s'.pxl.idle = false) ∧
     (s.pxl.link = .stepBack → s.pxl.awaitRes = true → bit s.pxl.bmask 0 = true ∨ bit s.pxl.bmask 1 = true →
       ∃ s', exec (.resultTimeout t) s = .next s' ∧ s'.pxl.link = .stepBack ∧ s'.pxl.stepRate = s.pxl.stepRate - 1 ∧
         s'.pxl.btarget = s.pxl.stepRate - 1 ∧ s'.pxl.idle = true) ∧
     (∀ eyes, s.pxl.link = .stepFwd → s.pxl.idle = false → (trainLanes s).length ≠ 0 →
       (trainLanes s).all (fun n => !(laneOf s n).passes) = true →
       ∃ s', exec (.acceptanceTestDone t eyes) s = .next s' ∧ s'.pxl.link = .stepFwd ∧
         s'.pxl.ftarget = s.pxl.stepRate - 1 ∧ s'.pxl.stepRate = s.pxl.stepRate - 1 ∧ s'.pxl.idle = true) ∧
     (∀ eyes, s.pxl.link = .stepFwd → s.pxl.idle = false → (trainLanes s).all (fun n => (laneOf s n).passes) = true →
       s.pxl.btarget ≤ s.pxl.brate → s.pxl.frate < s.pxl.ftarget →
       ∃ s', exec (.acceptanceTestDone t eyes) s = .next s' ∧ s'.pxl.link = .stepFwd ∧
         s'.pxl.stepRate = s.pxl.frate + 1 ∧ s'.pxl.idle = true) ∧
     (∀ eyes, s.pxl.link = .stepFwd → s.pxl.idle = false → (trainLanes s).length ≠ 0 →
       (trainLanes s).all (fun n => (laneOf s n).passes) = true →
       s.pxl.btarget ≤ s.pxl.brate → s.pxl.ftarget ≤ s.pxl.frate →
       ∃ s', exec (.acceptanceTestDone t eyes) s = .next s' ∧ s'.pxl.link = .go ∧ s'.pxl.lcn = 1 ∧
         s'.pxl.fmask = maskOf (widest (trainLanes s)) ∧ s'.pxl.session = satInc 0xFFFFFFFF s.pxl.session))

/-- A block with a valid marker and no stuffing violation keeps its lane: its SEQ and skew are taken and the runs of bad
markers and violations end, in training and in a session whose other lanes' blocks are still to come. An invalid or a
missing marker is counted, and as the second in a row on the only active lane drops the link. A lane whose clock
recovery loses lock is out of marker lock. A background retraining that passes leaves the lane good at the link's rate;
one that fails waits for the retry timer, which starts it again. -/
def Obligations.LanesFollowAndRetrain : Prop :=
  (∀ (t : Nat) (lane : Fin 16) (s : State), fwdHears s lane.val = true →
     (∀ line skew, (laneOf s lane.val).mlock = true → markerOk s lane.val (blockMarker s lane.val line) = true →
       blockBad s lane.val line = 0 → Int.natAbs skew ≤ 64 → s.pxl.link = .negotiate → bit s.pxl.fmask lane.val = false →
       bit s.pxl.pendMask lane.val = false →
       ∃ s', exec (.laneBlockReceived t lane line skew) s = .next s' ∧
         (laneOf s' lane.val).lastSeq = some (blockMarker s lane.val line).seq ∧ (laneOf s' lane.val).badRun = 0 ∧
         (laneOf s' lane.val).stuffRun = 0 ∧ (laneOf s' lane.val).skew = skew ∧
         s'.mem = s.mem ∧ s'.pins = s.pins ∧ s'.trx = s.trx) ∧
     (∀ line skew k, (laneOf s lane.val).mlock = true → markerOk s lane.val (blockMarker s lane.val line) = true →
       blockBad s lane.val line = 0 → Int.natAbs skew ≤ 64 → s.pxl.link = .active → s.pxl.pendMask = 0 → s.pxl.prevLcn = none →
       (laneOf s lane.val).discard = false → k < 16 → k ≠ lane.val → bit s.pxl.fmask k = true → (laneOf s k).wordsSeq = none →
       bit s.pxl.fmask lane.val = true → (blockMarker s lane.val line).type = 0 → (blockMarker s lane.val line).lcn = s.pxl.lcn →
       ∃ s', exec (.laneBlockReceived t lane line skew) s = .next s' ∧
         (laneOf s' lane.val).lastSeq = some (blockMarker s lane.val line).seq ∧ (laneOf s' lane.val).badRun = 0 ∧
         (laneOf s' lane.val).wordsSeq = some (s.pxl.lcn * 256 + (blockMarker s lane.val line).seq) ∧
         (laneOf s' lane.val).words =
           (descrambleAll (laneOf s lane.val).hist.toNat (payloadWords (destuff (laneOf s lane.val).run line).out)).1 ∧
         s'.mem = s.mem ∧ s'.trx = s.trx) ∧
     (∀ line skew, (laneOf s lane.val).mlock = true → markerOk s lane.val (blockMarker s lane.val line) = false →
       blockBad s lane.val line = 0 → s.pxl.link = .negotiate → (laneOf s lane.val).badRun = 0 →
       bit s.pxl.fmask lane.val = false → bit s.pxl.pendMask lane.val = false →
       ∃ s', exec (.laneBlockReceived t lane line skew) s = .next s' ∧ (laneOf s' lane.val).badRun = 1 ∧
         (laneOf s' lane.val).testBad = true ∧
         oget s' (Ob.PXL_ERR_MARKER + lane.val) = satInc 0xFFFFFFFF (oget s (Ob.PXL_ERR_MARKER + lane.val)) ∧
         s'.mem = s.mem ∧ s'.trx = s.trx) ∧
     ((laneOf s lane.val).mlock = true → (laneOf s lane.val).badRun = 0 →
       ∃ s', exec (.markerMissing t lane) s = .next s' ∧ (laneOf s' lane.val).badRun = 1 ∧
         (laneOf s' lane.val).mlock = true ∧
         oget s' (Ob.PXL_ERR_MARKER + lane.val) = satInc 0xFFFFFFFF (oget s (Ob.PXL_ERR_MARKER + lane.val)) ∧
         s'.mem = s.mem ∧ s'.trx = s.trx) ∧
     ((laneOf s lane.val).mlock = true → (laneOf s lane.val).badRun ≠ 0 → s.pxl.link = .active →
       bit s.pxl.fmask lane.val = true → (cfgLanes s).all (fun n => decide (n = lane.val) || !(laneOf s n).good) = true →
       ∃ s', exec (.markerMissing t lane) s = .next s' ∧ s'.pxl.link = downLink s ∧ s'.pxl.downCause = 1) ∧
     (s.pxl.link = .negotiate → ∃ s', exec (.cdrLossOfLock t lane) s = .next s' ∧ (laneOf s' lane.val).cdr = false ∧
       (laneOf s' lane.val).mlock = false ∧ s'.mem = s.mem ∧ s'.pxl.link = .negotiate) ∧
     (s.pxl.link = .active → bit s.pxl.fmask lane.val = true →
       (cfgLanes s).all (fun n => decide (n = lane.val) || !(laneOf s n).good) = true →
       ∃ s', exec (.cdrLossOfLock t lane) s = .next s' ∧ s'.pxl.link = downLink s ∧ s'.pxl.downCause = 1)) ∧
  (∀ (t : Nat) (lane : Fin 16) (eyes : List Nat) (s : State), inSession s = true →
     ((laneOf s lane.val).bg = .training → lane.val < oget s Ob.PXL_LANES → bit s.pxl.fmask lane.val = false →
       ((laneOf s lane.val).passes = true → ∃ s', exec (.backgroundRetrainDone t lane eyes) s = .next s' ∧
         (laneOf s' lane.val).bg = .passed ∧ (laneOf s' lane.val).good = true ∧
         (laneOf s' lane.val).lastRate = s.pxl.frate ∧ s'.mem = s.mem) ∧
       ((laneOf s lane.val).passes = false → ∃ s', exec (.backgroundRetrainDone t lane eyes) s = .next s' ∧
         (laneOf s' lane.val).bg = .retryWait ∧ s'.trx = s.trx ∧ s'.obj = s.obj)) ∧
     ((laneOf s lane.val).bg = .retryWait → ∃ s', exec (.backgroundRetryTimer t lane) s = .next s' ∧
       (laneOf s' lane.val).bg = .training ∧ (laneOf s' lane.val).testBad = false ∧ s'.trx = s.trx ∧ s'.obj = s.obj))

/-- Activity on the forward lanes is kept as a wake source while the forward direction sleeps, and ends P1 where it is
enabled; before the controller runs it has no effect. A relock of every active lane returns the link to ACTIVE under
the next LCN, a relock of some takes it to RECONFIG without the others, one of none drops the link, and without a
session training starts again. A pattern test of an idle ACTIVE link starts in SETUP; elsewhere it is turned away; it
ends with the bits and errors counted and the lanes to be locked again. -/
def Obligations.LinkSleepsAndTests : Prop :=
  ∀ (t : Nat) (s : State),
    (∀ active, s.boot.stage = .started → s.pwr.state = .p0 → s.pwr.entry ≠ .inProgress → s.pwr.entry ≠ .waitRetry →
      exec (.forwardLaneActivity t active) s =
        .next { s.at t with pwr := { (s.at t).pwr with fwdActive := active && s.pxl.fwdAsleep } }) ∧
    (∀ active, s.boot.stage ≠ .started → exec (.forwardLaneActivity t active) s = .next (s.at t)) ∧
    (s.boot.stage = .started → s.pwr.state = .p1 → s.pwr.entry = .done → s.pxl.fwdAsleep = true → s.pwr.target < 3 →
      bit (oget s Ob.PWR_WAKEEN) 2 = true → wakeNActs s = false → s.pwr.gylWake = false →
      ∃ s', exec (.forwardLaneActivity t true) s = .next s' ∧ s'.pwr.state = .p0 ∧ s'.pxl.relock = true ∧
        oget s' Ob.PWR_LASTWAKE = 0x13) ∧
    (∀ locked : BitVec 16, s.pxl.relock = true → inSession s = true →
      locked.toNat &&& s.pxl.fmask &&& maskOf (cfgLanes s) ≠ 0 →
      (lanesOf s.pxl.fmask).all (bit (locked.toNat &&& s.pxl.fmask &&& maskOf (cfgLanes s))) = true →
      ∃ s', exec (.laneRelockDone t locked) s = .next s' ∧ s'.pxl.link = .active ∧ s'.pxl.relock = false ∧
        s'.pxl.fwdAsleep = false ∧ s'.pxl.backAsleep = false ∧ s'.pxl.lcn = (s.pxl.lcn + 1) % 16 ∧ s'.pxl.fmask = s.pxl.fmask) ∧
    (∀ (locked : BitVec 16) (k n : Fin 16), s.pxl.relock = true → inSession s = true →
      bit (locked.toNat &&& s.pxl.fmask &&& maskOf (cfgLanes s)) k.val = true →
      (laneOf s k.val).good = true → (laneOf s k.val).heldFail = 0 →
      bit s.pxl.fmask n.val = true → bit (locked.toNat &&& maskOf (cfgLanes s)) n.val = false →
      ∃ s', exec (.laneRelockDone t locked) s = .next s' ∧ s'.pxl.link = .reconfig ∧ s'.pxl.relock = false ∧
        s'.pxl.lcn = (s.pxl.lcn + 1) % 16 ∧ bit s'.pxl.fmask n.val = false ∧ (laneOf s' n.val).lossCause = 1) ∧
    (∀ locked : BitVec 16, s.pxl.relock = true → inSession s = true →
      locked.toNat &&& s.pxl.fmask &&& maskOf (cfgLanes s) = 0 →
      ∃ s', exec (.laneRelockDone t locked) s = .next s' ∧ s'.pxl.link = downLink s ∧ s'.pxl.downCause = 6) ∧
    (∀ locked : BitVec 16, s.pxl.relock = true → inSession s = false → s.pxl.link ≠ .disabled →
      ∃ s', exec (.laneRelockDone t locked) s = .next s' ∧ s'.pxl.link = downLink s ∧ s'.pxl.relock = false ∧
        s'.pxl.fwdAsleep = false) ∧
    (∀ h v, writeTaken (s.at t) h Ob.PXL_PRBS_START (BitVec.toNat v) = true → v ≠ 0 → s.boot.op = .setup →
      s.pxl.link = .active → s.trx.groups.any (fun e => uncommitted e.2) = false →
      ∃ s', exec (.pxlPrbsStart t h v) s = .next s' ∧ s'.pxl.link = .test ∧ s'.pxl.prbs = true ∧
        s'.pxl.prbsDir = oget s Ob.PXL_PRBS_DIR ∧ s'.pxl.prbsPat = oget s Ob.PXL_PRBS_PATTERN ∧ s'.mem = s.mem) ∧
    (∀ h v, writeTaken (s.at t) h Ob.PXL_PRBS_START (BitVec.toNat v) = true →
      s.boot.op ≠ .setup ∨ s.pxl.link ≠ .active ∨ s.trx.groups.any (fun e => uncommitted e.2) = true →
      ∃ s', exec (.pxlPrbsStart t h v) s = .next s' ∧ s'.pxl = s.pxl) ∧
    (∀ received, s.pxl.prbs = true → ∃ s', exec (.prbsTestEnd t received) s = .next s' ∧ s'.pxl.prbs = false ∧
      s'.pxl.relock = true ∧ s'.pxl.link = s.pxl.link ∧
      oget s' Ob.PXL_PRBS_BITS = if s.pxl.prbsDir ≠ 1 then s.pxl.testBits else 0) ∧
    (∀ received (n : Fin 16), s.pxl.prbs = true → s.pxl.prbsDir ≠ 1 → bit s.pxl.fmask n.val = true →
      ∃ s', exec (.prbsTestEnd t received) s = .next s' ∧ oget s' (Ob.PXL_PRBS_ERR + n.val) =
        min 0xFFFFFFFF (checkBits s.pxl.prbsPat (List.getD received n.val ⟨0, 0⟩)).errors)

/-! ## Transactions -/

/-- A TILE whose header passes every check joins its group. A raw tile whose checksum holds is staged; a LAKE tile is
handed to a decode instance with room and waits for its decoding; when that succeeds and the checksum holds, it is
staged, and when it fails, it is NAKed DECODE. A TILE that the word stream announced ends with what its header checks
found: staged, decoding, or NAKed with the reason found then. -/
def Obligations.TilesJoinTheirGroup : Prop :=
  ∀ (t : Nat) (s : State),
    (∀ (hdr : BitVec 128) payload crc, linkUp s = true → s.trx.incoming = [] →
      tileErr (evc 0x30 (acceptPkt (s.at t))) (tileHdrOf hdr.toNat) = 0 →
      ((tileHdrOf hdr.toNat).fmt = 3 → lakeHasBank s = true → (instHeld s (instFor s)).length < 2 →
        ∃ s', exec (.tile t hdr payload crc) s = .next s' ∧ (tagOf s' (tileHdrOf hdr.toNat).tag).state = .receiving ∧
          (tagOf s' (tileHdrOf hdr.toNat).tag).decoding = true ∧
          (tagOf s' (tileHdrOf hdr.toNat).tag).gen = (tileHdrOf hdr.toNat).gen ∧
          (tagOf s' (tileHdrOf hdr.toNat).tag).srcf = (tileHdrOf hdr.toNat).srcf ∧
          (tagOf s' (tileHdrOf hdr.toNat).tag).payload = payload ∧
          (groupOf s' (tileHdrOf hdr.toNat).group).members =
            (groupOf s (tileHdrOf hdr.toNat).group).members ++ [(tileHdrOf hdr.toNat).tag] ∧ s'.mem = s.mem) ∧
      ((tileHdrOf hdr.toNat).fmt ≠ 3 → crc32 (wordBytes payload) = BitVec.toNat crc →
        ∃ s', exec (.tile t hdr payload crc) s = .next s' ∧ (tagOf s' (tileHdrOf hdr.toNat).tag).state = .staged ∧
          (tagOf s' (tileHdrOf hdr.toNat).tag).gen = (tileHdrOf hdr.toNat).gen ∧
          (tagOf s' (tileHdrOf hdr.toNat).tag).srcf = (tileHdrOf hdr.toNat).srcf ∧
          (groupOf s' (tileHdrOf hdr.toNat).group).members =
            (groupOf s (tileHdrOf hdr.toNat).group).members ++ [(tileHdrOf hdr.toNat).tag])) ∧
    (∀ (hdr : BitVec 128) payload crc, linkUp s = true → s.trx.incoming = [] →
      tileErr (evc 0x30 (acceptPkt (s.at t))) (tileHdrOf hdr.toNat) ≠ 0 →
      ∃ s', exec (.tile t hdr payload crc) s = .next s' ∧ s'.mem = s.mem ∧
        s'.trx.back[s.trx.back.length]? = some (nakPkt (tileHdrOf hdr.toNat)
          (tileErr (evc 0x30 (acceptPkt (s.at t))) (tileHdrOf hdr.toNat)))) ∧
    (∀ (hdr : BitVec 128) payload crc x rest, linkUp s = true → s.trx.incoming = x :: rest → x.hdr = tileHdrOf hdr.toNat →
      x.reason ≠ 0 → ∃ s', exec (.tile t hdr payload crc) s = .next s' ∧ s'.mem = s.mem ∧ s'.trx.incoming = rest ∧
        s'.trx.back[s.trx.back.length]? = some (nakPkt x.hdr x.reason)) ∧
    (∀ (hdr : BitVec 128) payload crc x rest, linkUp s = true → s.trx.incoming = x :: rest → x.hdr = tileHdrOf hdr.toNat →
      x.reason = 0 → x.hdr.fmt ≠ 3 → crc32 (wordBytes payload) = BitVec.toNat crc → memberOpen s x.hdr.tag = true →
      (groupOf s (tagOf s x.hdr.tag).group).ended = false →
      ∃ s', exec (.tile t hdr payload crc) s = .next s' ∧ (tagOf s' x.hdr.tag).state = .staged ∧ s'.trx.incoming = rest) ∧
    (∀ (hdr : BitVec 128) payload crc x rest, linkUp s = true → s.trx.incoming = x :: rest → x.hdr = tileHdrOf hdr.toNat →
      x.reason = 0 → x.hdr.fmt = 3 → lakeHasBank s = true →
      ∃ s', exec (.tile t hdr payload crc) s = .next s' ∧ (tagOf s' x.hdr.tag).decoding = true ∧
        (tagOf s' x.hdr.tag).payload = payload ∧ s'.trx.incoming = rest) ∧
    (∀ (k : BitVec 13), (tagOf s k.toNat).state = .receiving → (tagOf s k.toNat).decoding = true → lakeHasBank s = true →
      [0, 1].any (fun i => decide ((instHeld s i).head? = some k.toNat)) = true →
      (∀ px, decodeTile (tagOf s k.toNat).code (tagOf s k.toNat).payload = .ok px →
        wordsCrc (pixelWords px) = (tagOf s k.toNat).crc → memberOpen s k.toNat = true →
        (groupOf s (tagOf s k.toNat).group).ended = false →
        ∃ s', exec (.lakeTileDecoded t k) s = .next s' ∧ (tagOf s' k.toNat).state = .staged ∧
          (tagOf s' k.toNat).decoding = false ∧ (tagOf s' k.toNat).gen = (tagOf s k.toNat).gen) ∧
      (∀ block cause, decodeTile (tagOf s k.toNat).code (tagOf s k.toNat).payload = .error (block, cause) →
        ∃ s', exec (.lakeTileDecoded t k) s = .next s' ∧ (tagOf s' k.toNat).state = .free ∧
          oget s' Ob.LAKE_DECERR_TAG = k.toNat ∧ oget s' Ob.LAKE_DECERR_BLOCK = block ∧
          oget s' Ob.LAKE_DECERR_CAUSE = cause))

/-- GROUP_BEGIN opens a free group under a new generation; a TOKEN that passes its checks is staged in its group, or
without one is applied and ACKed; GROUP_END with the right count closes its group to further members and queues it when
every member is staged, one with ABORT or a wrong count frees the group again under a NAK, and a stray one is counted.
-/
def Obligations.GroupsOpenAndEnd : Prop :=
  ∀ (t : Nat) (hdr : BitVec 128) (s : State), linkUp s = true →
    let g := field hdr.toNat 102 6
    let k := tokenHdrOf hdr.toNat
    let e := groupEndOf hdr.toNat
    let gr := groupOf s e.group
    (s.boot.op = .run → (groupOf s g).state = .free → (groupOf s g).gen ≠ field hdr.toNat 121 3 →
      ∃ s', exec (.groupBegin t hdr) s = .next s' ∧
        groupOf s' g = { Group.none with gen := field hdr.toNat 121 3, state := .opened, begun := max s.now t } ∧ s'.mem = s.mem) ∧
    (s.boot.op ≠ .run → ∃ s', exec (.groupBegin t hdr) s = .next s' ∧ s'.trx.groups = s.trx.groups ∧
      s'.trx.back.length = s.trx.back.length + 1 ∧ s'.mem = s.mem) ∧
    (tokenErr (evc 0x31 (acceptPkt (s.at t))) k = 0 → k.ingrp = true → ∃ s', exec (.token t hdr) s = .next s' ∧
      (tagOf s' k.tag).state = .staged ∧ (tagOf s' k.tag).gen = k.gen ∧ (tagOf s' k.tag).token = true ∧
      (groupOf s' k.group).members = (groupOf s k.group).members ++ [k.tag] ∧ s'.mem = s.mem) ∧
    (tokenErr (evc 0x31 (acceptPkt (s.at t))) k = 0 → k.ingrp = false → ∃ s', exec (.token t hdr) s = .next s' ∧
      (tagOf s' k.tag).state = .free ∧ (tagOf s' k.tag).gen = k.gen ∧ s'.trx.back.length = s.trx.back.length + 1 ∧
      s'.mem = s.mem) ∧
    (gr.state = .opened → gr.gen = e.gen → gr.ended = false → e.abort = false → e.count = gr.members.length → e.count ≤ 8192 →
      gr.members.all (fun m => decide ((tagOf s m).state = .staged)) = false →
      ∃ s', exec (.groupEnd t hdr) s = .next s' ∧ (groupOf s' e.group).ended = true ∧
        (groupOf s' e.group).state = .opened ∧ s'.mem = s.mem ∧
        (groupOf s' e.group).atEpoch = if e.atEpoch then some e.epoch else none) ∧
    (gr.state = .opened → gr.gen = e.gen → gr.ended = false → e.abort = false → e.count = gr.members.length → e.count ≤ 8192 →
      e.atEpoch = false → gr.members ≠ [] → gr.members.all (fun m => decide ((tagOf s m).state = .staged)) = true →
      ∃ s', exec (.groupEnd t hdr) s = .next s' ∧ (groupOf s' e.group).state = .complete ∧
        s'.trx.queue = s.trx.queue ++ runOf s e.group ∧ s'.mem = s.mem) ∧
    (gr.state = .opened → gr.gen = e.gen → gr.ended = false → e.abort = true ∨ e.count ≠ gr.members.length →
      ∃ s', exec (.groupEnd t hdr) s = .next s' ∧ s'.mem = s.mem ∧
        groupOf s' e.group = { Group.none with gen := e.gen }) ∧
    ((gr.state ≠ .opened ∧ gr.state ≠ .aborted) ∨ gr.gen ≠ e.gen ∨ gr.ended = true →
      ∃ s', exec (.groupEnd t hdr) s = .next s' ∧ s'.trx.groups = s.trx.groups ∧
        oget s' Ob.TRX_STRAYEND = satInc 0xFFFFFFFF (oget s Ob.TRX_STRAYEND) ∧ s'.mem = s.mem)

/-- A newer SRCFRAME is the last source frame and heads the history with its time in us; one that is not newer is counted
and changes neither; a source that stays silent for 50 ms in RUN and P0 is marked once. The commit engine takes the
entry at the head of the queue for copying when nothing makes it wait, and its group is COMMITTING; a run of a group
with a tile that has become unfit is discarded before it starts. The copy of a TOKEN writes no pixel, that of a TILE
writes its back side, and with the last entry the group commits and its id is FREE. The packet of the back queue that
is due next leaves under the next back sequence number. -/
def Obligations.SourcesAndCommitsGoOn : Prop :=
  (∀ (t : Nat) (hdr : BitVec 128) (s : State),
     let f := field hdr.toNat 32 32
     (linkUp s = true → s.trx.history = [] ∨ newer f s.trx.lastSrcf = true →
       ∃ s', exec (.srcframe t hdr) s = .next s' ∧ s'.trx.lastSrcf = f ∧ s'.trx.gapFrom = max s.now t ∧
         s'.trx.gapDone = false ∧ s'.trx.history.head? = some (f, max s.now t / 1000 * 1000) ∧ s'.mem = s.mem) ∧
     (linkUp s = true → s.trx.history ≠ [] → newer f s.trx.lastSrcf = false →
       ∃ s', exec (.srcframe t hdr) s = .next s' ∧ s'.trx.lastSrcf = s.trx.lastSrcf ∧ s'.trx.history = s.trx.history ∧
         oget s' Ob.TRX_SRCF_REJECT = satInc 0xFFFFFFFF (oget s Ob.TRX_SRCF_REJECT) ∧ s'.mem = s.mem) ∧
     (s.boot.op = .run → s.pwr.state = .p0 → s.trx.gapDone = false → s.trx.gapFrom + 50000000 ≤ max s.now t →
       ∃ s', exec (.sourceSilent t) s = .next s' ∧ s'.trx.gapDone = true ∧ s'.trx.lastSrcf = s.trx.lastSrcf ∧
         s'.safe.sm02At = some (max s.now t) ∧ s'.mem = s.mem) ∧
     (s.boot.op ≠ .run ∨ s.trx.gapDone = true → exec (.sourceSilent t) s = .next (s.at t))) ∧
  (∀ (t : Nat) (s : State),
     (∀ e rest, s.trx.copying = none → s.trx.queue = e :: rest →
       (s.trx.run = some e.group ∨ (groupOf s e.group).atEpoch.isSome = true ∨ waitsHeld s e.group = false) →
       unfitTiles (s.at t) e.group = [] → waitsSwap (s.at t) e.tag = false →
       ∃ s', exec (.commitEnginePop t) s = .next s' ∧ s'.trx.copying = some e ∧ s'.trx.queue = rest ∧
         s'.trx.run = some e.group ∧ (groupOf s' e.group).state = .committing ∧ s'.mem = s.mem) ∧
     (∀ e rest, s.trx.copying = none → s.trx.queue = e :: rest → s.trx.run ≠ some e.group → s.trx.zeros = [] →
       unfitTiles (s.at t) e.group ≠ [] →
       ∃ s', exec (.commitEnginePop t) s = .next s' ∧ (groupOf s' e.group).state = .free ∧ s'.trx.run = none ∧
         s'.trx.queue = s.trx.queue.filter (fun q => decide (q.group ≠ e.group)) ∧ s'.mem = s.mem) ∧
     (∀ e, s.trx.copying = some e → e.last = false → ∃ s', exec (.commitCopyDone t) s = .next s' ∧ s'.trx.copying = none ∧
       ((tagOf s e.tag).token = true → s'.mem = s.mem ∧ s'.scan = s.scan) ∧
       ((tagOf s e.tag).token = false → s'.mem = (copyTile e.tag (s.at t)).mem)) ∧
     (∀ e, s.trx.copying = some e → e.last = true → s.trx.zeros = [] → ∃ s', exec (.commitCopyDone t) s = .next s' ∧
       s'.trx.copying = none ∧ s'.trx.run = none ∧ (groupOf s' e.group).state = .free) ∧
     (∀ p, backUp s = true → nextBack (s.at t) = some p → ∃ s', exec (.backPacketSend t) s = .next s' ∧
       s'.trx.lastSent = some (s.trx.bseq, p) ∧ s'.trx.bseq = (s.trx.bseq + 1) % 65536 ∧
       s'.trx.back = s.trx.back.erase p ∧ s'.trx.sentHead = backHeader p s.trx.bseq ∧ s'.mem = s.mem))

/-- The link control packets: SWITCH puts a pending offer in force, and with an offered lane that failed meanwhile the link
goes on without it under a further LCN; SLEEP puts a link that asked for it to sleep; BACKLOSS of some back lanes goes
on with the others under the next LCN, of all drops the link, and of lanes that are not active changes nothing; a
digest request is answered and an undefined OP counted; a lost header is counted and the stream waits for the next
header pointer. A link that is not up takes none of them. -/
def Obligations.LinkControlPackets : Prop :=
  ∀ (t : Nat) (hdr : BitVec 128) (s : State),
    (linkUp s = true →
      (s.pxl.pendMask ≠ 0 → (lanesOf s.pxl.pendMask).all (fun n => decide ((laneOf s n).heldFail = 0)) = true →
        ∃ s', exec (.linkctlSwitch t) s = .next s' ∧ s'.pxl.fmask = s.pxl.pendMask ∧ s'.pxl.lcn = s.pxl.pendLcn ∧
          s'.pxl.pendMask = 0 ∧ s'.pxl.link = s.pxl.link ∧ s'.mem = s.mem) ∧
      (∀ k n : Fin 16, bit s.pxl.pendMask k.val = true → k.val < oget s Ob.PXL_LANES → (laneOf s k.val).heldFail = 0 →
        bit s.pxl.pendMask n.val = true → (laneOf s n.val).heldFail ≠ 0 →
        ∃ s', exec (.linkctlSwitch t) s = .next s' ∧ s'.pxl.link = .reconfig ∧ s'.pxl.lcn = (s.pxl.pendLcn + 1) % 16 ∧
          s'.pxl.pendMask = 0 ∧ bit s'.pxl.fmask n.val = false ∧ s'.mem = s.mem) ∧
      (s.pxl.pendMask = 0 → exec (.linkctlSwitch t) s = .next (acceptPkt (s.at t))) ∧
      (s.pxl.sleepReq = true → ∃ s', exec (.linkctlSleep t) s = .next s' ∧ s'.pxl.link = .sleep ∧ s'.pxl.fwdAsleep = true ∧
        s'.pxl.sleepReq = false ∧ s'.mem = s.mem) ∧
      (s.pxl.sleepReq = false → exec (.linkctlSleep t) s = .next (acceptPkt (s.at t))) ∧
      (let left := maskOf ([0, 1].filter (fun n => bit s.pxl.bmask n && !bit (linkctlLost hdr.toNat) n))
       (left ≠ s.pxl.bmask → left ≠ 0 → ∃ s', exec (.linkctlBackloss t hdr) s = .next s' ∧ s'.pxl.bmask = left ∧
         s'.pxl.lcn = (s.pxl.lcn + 1) % 16 ∧ s'.pxl.link = s.pxl.link ∧ s'.pxl.pendMask = 0 ∧ s'.mem = s.mem) ∧
       (left ≠ s.pxl.bmask → left = 0 → ∃ s', exec (.linkctlBackloss t hdr) s = .next s' ∧ s'.pxl.link = downLink s ∧
         s'.pxl.downCause = 2 ∧ s'.mem = s.mem) ∧
       (left = s.pxl.bmask → exec (.linkctlBackloss t hdr) s = .next (acceptPkt (s.at t)))) ∧
      (∃ s', exec (.linkctlDigestReq t) s = .next s' ∧ s'.trx.back.length = s.trx.back.length + 1 ∧
        s'.trx.accepted = satInc 0xFFFFFFFF s.trx.accepted ∧ s'.pxl = s.pxl ∧ s'.mem = s.mem) ∧
      (linkctlOp hdr.toNat = 0 ∨ 5 ≤ linkctlOp hdr.toNat → ∃ s', exec (.linkctlBadop t hdr) s = .next s' ∧
        oget s' Ob.TRX_BADOP = satInc 0xFFFFFFFF (oget s Ob.TRX_BADOP) ∧ s'.pxl = s.pxl ∧ s'.mem = s.mem) ∧
      (∃ s', exec (.headerLost t) s = .next s' ∧ s'.pxl.needPtr = true ∧
        oget s' Ob.TRX_HDRLOST = satInc 0xFFFFFFFF (oget s Ob.TRX_HDRLOST) ∧ s'.mem = s.mem)) ∧
    (linkUp s = false → ∀ c ∈ [Instr.linkctlSwitch t, .linkctlSleep t, .linkctlBackloss t hdr, .linkctlDigestReq t,
        .linkctlBadop t hdr, .headerLost t, .srcframe t hdr, .groupBegin t hdr, .groupEnd t hdr, .token t hdr],
      exec c s = .next (s.at t))

/-! ## Scan and driver links -/

/-- A frame begins where the raster may start one: slot 0, and the scan epoch steps on but for the raster's first frame. A
row slot steps the slot counter on up to the frame's last slot, and none starts before the raster runs or past that
slot. A row of a band that is LIVE in the row's frame is prepared within five slots of its own and joins the band's
prepared rows with neither half complete; when a half completes the line, that half is marked, PPL_SLACK shows its
slack and the smallest slack of the frame is kept. Neither writes the memory, and a row that is not due is not
prepared. -/
def Obligations.FramesSlotsAndRowsRun : Prop :=
  (∀ (t : Nat) (s : State),
     (∀ period counts late, frameMay (s.at t) = true → ∃ s', exec (.frameStart t period counts late) s = .next s' ∧
       s'.scan.running = true ∧ s'.scan.slot = 0 ∧ s'.scan.frameAt = max s.now t ∧
       s'.scan.epoch = if s.scan.running then (s.scan.epoch + 1) % 2 ^ 48 else s.scan.epoch) ∧
     (∀ period counts late, frameMay (s.at t) = false → exec (.frameStart t period counts late) s = .next (s.at t)) ∧
     (scans s = true → s.scan.running = true → s.scan.slot + 1 < vtotal s → ∃ s', exec (.rowSlotStart t) s = .next s' ∧
       s'.scan.slot = s.scan.slot + 1 ∧ s'.scan.slotNo = s.scan.slotNo + 1 ∧ s'.scan.epoch = s.scan.epoch ∧
       s'.boot = s.boot ∧ s'.pxl = s.pxl ∧ s'.gyl = s.gyl ∧ s'.poison = s.poison) ∧
     (scans s = false ∨ s.scan.running = false ∨ vtotal s ≤ s.scan.slot + 1 → exec (.rowSlotStart t) s = .next (s.at t))) ∧
  (∀ (t : Nat) (band : Fin 4) (row : Nat) (s : State),
     (∀ l, scans s = true → s.scan.running = true → row < bandH s → slotsTo s row ≤ 5 →
       liveIn s band.val (if s.scan.slot < row then s.scan.epoch else s.scan.epoch + 1) = true → rowLatch s row = some l →
       ∃ s', exec (.rowPrepareStart t band row) s = .next s' ∧
         (bandScan s' band.val).preps.getLast?.map (fun p => (p.row, p.epoch, p.left, p.right)) =
           some (row, l.epoch, false, false) ∧ s'.mem = s.mem ∧ s'.boot = s.boot ∧ s'.trx = s.trx ∧ s'.dlk = s.dlk) ∧
     (scans s = false ∨ s.scan.running = false ∨ bandH s ≤ row ∨ 5 < slotsTo s row ∨
       liveIn s band.val (if s.scan.slot < row then s.scan.epoch else s.scan.epoch + 1) = false →
       exec (.rowPrepareStart t band row) s = .next (s.at t)) ∧
     (∀ half slack, scans s = true → (bandScan s band.val).preps.any (fun p => decide (p.row = row)) = true →
       ∃ s', exec (.lineComplete t band half row slack) s = .next s' ∧
       (bandScan s' band.val).preps = (bandScan s band.val).preps.map (fun p =>
         if p.row = row then { p with left := p.left || !half, right := p.right || half } else p) ∧
       s'.scan.lastSlack = min s.scan.lastSlack slack ∧
       oget s' (Ob.PPL_SLACK + (2 * band.val + b2n half)) = ofSigned 16 slack ∧ s'.mem = s.mem ∧ s'.boot = s.boot ∧
       s'.trx = s.trx ∧ s'.dlk = s.dlk))

/-- A table whose copy is synced is no longer busy; an accepted show request and an accepted region commit are pending for
the later of the epoch written and the first frame they can reach, under status 1, and what is in force stays until
then; a show request of a plate that is not LOADED and one while another is pending are refused under status 4 and 5.
-/
def Obligations.RequestsWaitForTheirFrame : Prop :=
  ∀ (t : Nat) (s : State),
    (∀ (index : BitVec 16) (sub : BitVec 8), look s.scan.tableBusy (key index.toNat sub.toNat) = some 2 →
      ∃ s', exec (.tableCopySynced t index sub) s = .next s' ∧
        look s'.scan.tableBusy (key index.toNat sub.toNat) = none ∧ s'.obj = s.obj ∧ s'.mem = s.mem ∧
        s'.scan.tableAct = s.scan.tableAct) ∧
    (∀ (h : Hdr) (v : BitVec 8), writeTaken (s.at t) h Ob.SCAN_SHOW_REQ v.toNat = true → s.scan.pend = none →
      v.toNat % 16 ≤ 6 → (v.toNat % 16 = 0 ∨ plateOf s (v.toNat % 16 - 1) = 2) →
      (s.scan.epoch + 1 < oget s Ob.SCAN_SHOW_EPOCH ∨ bit v.toNat 7 = true) →
      oget s Ob.SCAN_SHOW_EPOCH ≤ s.scan.epoch + oget s Ob.TRX_EPOCH_AHEAD →
      ∃ s', exec (.scanShowReq t h v) s = .next s' ∧ oget s' Ob.SCAN_SHOW_STAT = 1 ∧ s'.scan.selNow = s.scan.selNow ∧
        s'.scan.pend = some (v.toNat % 16, max (oget s Ob.SCAN_SHOW_EPOCH) (firstFrame s), false) ∧ s'.mem = s.mem) ∧
    (∀ (h : Hdr) (v : BitVec 8), writeTaken (s.at t) h Ob.SCAN_SHOW_REQ v.toNat = true → v.toNat % 16 ≤ 6 →
      (v.toNat % 16 ≠ 0 → plateOf s (v.toNat % 16 - 1) ≠ 2 → ∃ s', exec (.scanShowReq t h v) s = .next s' ∧
        oget s' Ob.SCAN_SHOW_STAT = 4 ∧ s'.scan = s.scan) ∧
      (v.toNat % 16 = 0 → s.scan.pend.isSome = true → ∃ s', exec (.scanShowReq t h v) s = .next s' ∧
        oget s' Ob.SCAN_SHOW_STAT = 5 ∧ s'.scan = s.scan)) ∧
    (∀ (h : Hdr) (v : BitVec 8), writeTaken (s.at t) h Ob.FRS_REG_REQ v.toNat = true → s.scan.pendReg = none →
      bit v.toNat 0 = true → (s.scan.epoch + 1 < oget s Ob.FRS_REG_EPOCH ∨ bit v.toNat 7 = true) →
      oget s Ob.FRS_REG_EPOCH ≤ s.scan.epoch + oget s Ob.TRX_EPOCH_AHEAD →
      regionErr (counted (s.at t) h) (stagedRegions (counted (s.at t) h)) = none →
      capOk (oset Ob.FRS_REG_ERRIDX 0xFFFF (counted (s.at t) h))
        (stagedRegions (oset Ob.FRS_REG_ERRIDX 0xFFFF (counted (s.at t) h))) = true →
      ∃ s', exec (.regionCommitReq t h v) s = .next s' ∧ oget s' Ob.FRS_REG_STAT = 1 ∧
        oget s' Ob.FRS_REG_ERRIDX = 0xFFFF ∧ s'.scan.regAct = s.scan.regAct ∧ s'.mem = s.mem ∧
        s'.scan.pendReg.map (·.1) = some (max (oget s Ob.FRS_REG_EPOCH) (firstFrame s)) ∧
        (oflag s Ob.SAF_SEALED = false → s'.scan.pendReg.map (·.2) = some none))

/-- A band's link trains. STATUS of every driver locked moves DETECT to NEGOTIATE, and a driver not locked in time fails
the link with cause 1; in NEGOTIATE a missing driver fails it with cause 2, one that cannot do the rates with cause 3,
and capable drivers start the first step; a step passed raises the lanes' rate, the last one of the chain leads to
CONFIG, and a step failed fails the link with cause 4 for the lanes and 5 for the chain. DLK_RETRAIN and the retry of a
failed link start again at DETECT and are counted. -/
def Obligations.DriverLinksTrain : Prop :=
  ∀ (t : Nat) (band : Fin 4) (s : State),
    (∀ header records, headOk 0xA (BitVec.toNat header) = true → (dlkOf s band.val).state = .detect →
      (List.range (rget s Ob.DLK_NDRV)).all (fun j =>
        (((statusRecs records).find? (fun p => decide (p.2.drv = j))).map (fun p => decide (1 ≤ p.2.lstate))).getD false) = true →
      ∃ s', exec (.statusFrameReceived t band header records) s = .next s' ∧ (dlkOf s' band.val).state = .negotiate ∧
        s'.scan = s.scan ∧ s'.mem = s.mem) ∧
    (∀ header records, headOk 0xA (BitVec.toNat header) = true → (dlkOf s band.val).state = .negotiate →
      ((statusRecs records).length ≠ rget s Ob.DLK_NDRV →
        ∃ s', exec (.statusFrameReceived t band header records) s = .next s' ∧ (dlkOf s' band.val).state = .failed ∧
          (dlkOf s' band.val).cause = 2) ∧
      ((statusRecs records).length = rget s Ob.DLK_NDRV →
        (List.range (rget s Ob.DLK_NDRV)).all (fun j => (statusRecs records).any (fun p => decide (p.2.drv = j))) = true →
        (statusRecs records).any (fun p => decide (p.2.nchMax < rget s Ob.DLK_NCH)) = true →
        ∃ s', exec (.statusFrameReceived t band header records) s = .next s' ∧ (dlkOf s' band.val).state = .failed ∧
          (dlkOf s' band.val).cause = 3) ∧
      ((statusRecs records).length = rget s Ob.DLK_NDRV →
        (List.range (rget s Ob.DLK_NDRV)).all (fun j => (statusRecs records).any (fun p => decide (p.2.drv = j))) = true →
        (statusRecs records).all (fun p => decide (rget s Ob.DLK_RATE ≤ p.2.maxRate) &&
          decide (rget s Ob.DLK_CHAINRATE ≤ p.2.chainMax) && decide (rget s Ob.DLK_NCH ≤ p.2.nchMax) &&
          decide (bandH s ≤ p.2.rstore)) = true → (dlkOf s band.val).rate < rget s Ob.DLK_RATE →
        ∃ s', exec (.statusFrameReceived t band header records) s = .next s' ∧ (dlkOf s' band.val).state = .step ∧
          (dlkOf s' band.val).chainStep = false)) ∧
    ((dlkOf s band.val).state = .detect → ∃ s', exec (.dlkLockTimeout t band) s = .next s' ∧
      (dlkOf s' band.val).state = .failed ∧ (dlkOf s' band.val).cause = 1) ∧
    ((dlkOf s band.val).state = .step →
      ((dlkOf s band.val).chainStep = false → (dlkOf s band.val).rate + 1 < rget s Ob.DLK_RATE →
        ∃ s', exec (.dlkStepTestDone t band .passed) s = .next s' ∧ (dlkOf s' band.val).state = .step ∧
          (dlkOf s' band.val).rate = (dlkOf s band.val).rate + 1 ∧ s'.scan = s.scan ∧ s'.obj = s.obj) ∧
      ((dlkOf s band.val).chainStep = true → rget s Ob.DLK_RATE ≤ (dlkOf s band.val).rate →
        rget s Ob.DLK_CHAINRATE ≤ (dlkOf s band.val).chain + 1 →
        ∃ s', exec (.dlkStepTestDone t band .passed) s = .next s' ∧ (dlkOf s' band.val).state = .config ∧
          (dlkOf s' band.val).chain = (dlkOf s band.val).chain + 1 ∧ (dlkOf s' band.val).readyDue = true) ∧
      (∃ s', exec (.dlkStepTestDone t band .failed) s = .next s' ∧ (dlkOf s' band.val).state = .failed ∧
        (dlkOf s' band.val).cause = if (dlkOf s band.val).chainStep then 5 else 4)) ∧
    ((dlkOf s band.val).state = .failed → s.pins.pen3 = true → onPath s band.val = false →
      ∃ s', exec (.dlkFailedRetry t band) s = .next s' ∧
      (dlkOf s' band.val).state = .detect ∧ (dlkOf s' band.val).retries = satInc 0xFFFF (dlkOf s band.val).retries ∧
      s'.obj = s.obj ∧ s'.mem = s.mem) ∧
    (∀ (h : Hdr) (v : BitVec 8), writeTaken (s.at t) h Ob.DLK_RETRAIN v.toNat = true →
      (s.pins.pen3 = true → band.val < bandCount s → bit v.toNat band.val = true →
        ∃ s', exec (.dlkRetrain t h v) s = .next s' ∧
          (dlkOf s' band.val).state = .detect ∧ (dlkOf s' band.val).retries = satInc 0xFFFF (dlkOf s band.val).retries) ∧
      (s.pins.pen3 = false → ∃ s', exec (.dlkRetrain t h v) s = .next s' ∧ s'.dlk = s.dlk))

/-- A report with a sound header takes its slot out of the slots awaited, and the record of a driver with a sound RCRC is
kept; a report without one is lost. DLK_DRVREG_WRITE in SETUP writes the register named in every driver named. A
recovery delivery that is due keeps the signatures of its row under its pass, and one that is not has no effect. -/
def Obligations.DriverLinksCarry : Prop :=
  ∀ (t : Nat) (band : Fin 4) (s : State),
    (∀ (header : BitVec 64) records x, linkSends s band.val = true → headOk 9 header.toNat = true →
      reportedSlot s band.val (field header.toNat 46 14) (field header.toNat 30 16) = some x →
      ∃ s', exec (.rowrepReceived t band header records) s = .next s' ∧
        (∀ y ∈ (bandScan s' band.val).sent, y.number ≠ x.number) ∧ s'.boot = s.boot ∧ s'.gyl = s.gyl ∧
        ∀ r, records = [r] → (Rec.ofBits r).rcrcOk = true → (Rec.ofBits r).drv < 24 →
          look s'.drvRec (24 * band.val + (Rec.ofBits r).drv) = some r) ∧
    (∀ (header : BitVec 64) records, linkSends s band.val = false ∨ headOk 9 header.toNat = false →
      exec (.rowrepReceived t band header records) s = .next (s.at t)) ∧
    (∀ (h : Hdr) (v : BitVec 32), writeTaken (s.at t) h (Ob.DLK_DRVREG_WRITE + band.val) v.toNat = true →
      (s.boot.op = .setup → linkSends s band.val = true → ∃ s', exec (.dlkDrvregWrite t h band v) s = .next s' ∧
        (∀ j < 24, j < rget s Ob.DLK_NDRV → bit v.toNat j = true → get (fun _ => 0) (dlkOf s' band.val).regs
          (65536 * j + oget s Ob.DLK_DRVREG_ADDR) = oget s Ob.DLK_DRVREG_DATA) ∧
        s'.mem = s.mem ∧ s'.scan = s.scan) ∧
      (s.boot.op ≠ .setup ∨ linkSends s band.val = false → ∃ s', exec (.dlkDrvregWrite t h band v) s = .next s' ∧
        s'.dlk = s.dlk)) ∧
    (∀ row (pass : BitVec 48), mayDeliver s band.val row pass.toNat = true →
      ∃ s', exec (.recoveryDelivery t band row pass) s = .next s' ∧ s'.mem = s.mem ∧ s'.scan = s.scan ∧ s'.obj = s.obj ∧
        look (dlkOf s' band.val).deliv row = some (.mk pass.toNat (recoverySigs s band.val row))) ∧
    (∀ row (pass : BitVec 48), mayDeliver s band.val row pass.toNat = false →
      exec (.recoveryDelivery t band row pass) s = .next (s.at t))

/-- A row due for its wear update is updated once in its epoch and counted in MDL_ROWS, and one that is not due is left.
The shadow check of a row takes it out of the rows awaited, keeps the largest lag and counts its pixels; where the
checker differs from what was sent, SM07 has failed and the band, if it was not DARK, is. -/
def Obligations.RowsAreUpdatedAndChecked : Prop :=
  ∀ (t : Nat) (band : Fin 4) (row : Nat) (s : State),
    (updateDue s band.val row = true → ∃ s', exec (.ledgerRowUpdate t band row) s = .next s' ∧
      get (fun _ => 0) s'.wear.updated (8192 * band.val + row) = s.scan.epoch + 1 ∧
      oget s' Ob.MDL_ROWS = satInc 0xFFFFFFFF (oget s Ob.MDL_ROWS) ∧ s'.scan = s.scan ∧ s'.boot = s.boot ∧
      s'.dlk = s.dlk ∧ s'.trx = s.trx) ∧
    (updateDue s band.val row = false → exec (.ledgerRowUpdate t band row) s = .next (s.at t)) ∧
    (∀ codes lag x l, (bandScan s band.val).hist.find? (fun z => decide (z.row = row)) = some x →
      latchFor s x.epoch = some l →
      (shadowDiffs s l band.val x codes = [] → ∃ s', exec (.shadowRowChecked t band row codes lag) s = .next s' ∧
        (bandScan s' band.val).hist = (bandScan s band.val).hist.filter (fun z => decide (z.row ≠ row)) ∧
        s'.scan.shadowPix = s.scan.shadowPix + (sampled s l (panelRow s band.val row)).length ∧
        oget s' Ob.IND_SHADOW_LAG = max (oget s Ob.IND_SHADOW_LAG) (min lag 0xFFFF) ∧ s'.safe = s.safe ∧
        (s.fst.held = [] → s'.mem = s.mem)) ∧
      (shadowDiffs s l band.val x codes ≠ [] → band.val < bandCount s →
        ∃ s', exec (.shadowRowChecked t band row codes lag) s = .next s' ∧
          (bandScan s' band.val).hist = (bandScan s band.val).hist.filter (fun z => decide (z.row ≠ row)) ∧
          (mechOf s' 7).count = satInc 0xFFFF (mechOf s 7).count ∧ bit s'.safe.dark band.val = true))

/-! ## Lake, the frame store and the banks -/

/-- The job commands act on slot 3: START takes the job of the objects, RESUME goes on with a new coded buffer, RAWBLK
passes the block that escaped or stops the slot with FAULT where it cannot be read, SUSPEND and CANCEL wait for the
block boundary of a running job and act at once on a waiting one, and a context written whole leaves the slot suspended
with it. A descriptor or a context that does not pass its checks leaves the slot as it is. -/
def Obligations.LakeJobsFollowTheirCommands : Prop :=
  ∀ (t : Nat) (h : Hdr) (s : State),
    (writeTaken (s.at t) h Ob.LAKE_JOB_CMD 1 = true →
      (lakeHasBank s = true → [JobState.idle, .done, .cancelled, .decodeErr, .fault].contains (slotOf s 3).state = true →
        jobOk s = true → (jobCtx s).finished = false → (jobCtx s).slot / 8 ≤ oget s Ob.LAKE_JOB_CODELEN →
        ∃ s', exec (.lakeStart t h) s = .next s' ∧ (slotOf s' 3).ctx = jobCtx s ∧ (slotOf s' 3).codePos = 0 ∧
          (slotOf s' 3).codeAddr = oget s Ob.LAKE_JOB_CODEADDR ∧ s'.mem = s.mem ∧
          (slotOf s' 3).state = if s.lake.current.isNone then .running else .waiting) ∧
      (lakeHasBank s = false ∨ jobOk s = false → ∃ s', exec (.lakeStart t h) s = .next s' ∧ s'.lake = s.lake ∧
        s'.mem = s.mem)) ∧
    (writeTaken (s.at t) h Ob.LAKE_JOB_CMD 2 = true → lakeHasBank s = true →
      [JobState.outFull, .inEmpty, .noFit, .suspended].contains (slotOf s 3).state = true →
      strideOk (slotOf s 3).ctx.elem (8 * ((slotOf s 3).ctx.wblk + 1)) (slotOf s 3).stride = true →
      jobPlaced (slotOf s 3).ctx.dir (slotOf s 3).rastAddr (rastExtent (slotOf s 3).ctx.elem
        (8 * ((slotOf s 3).ctx.wblk + 1)) (4 * ((slotOf s 3).ctx.hblk + 1)) (slotOf s 3).stride)
        (oget s Ob.LAKE_JOB_CODEADDR) (oget s Ob.LAKE_JOB_CODELEN) = true → (slotOf s 3).ctx.finished = false →
      (slotOf s 3).ctx.slot / 8 ≤ oget s Ob.LAKE_JOB_CODELEN →
      ∃ s', exec (.lakeResume t h) s = .next s' ∧ (slotOf s' 3).ctx = (slotOf s 3).ctx ∧ (slotOf s' 3).codePos = 0 ∧
        (slotOf s' 3).codeAddr = oget s Ob.LAKE_JOB_CODEADDR ∧ s'.mem = s.mem ∧
        (slotOf s' 3).state = if s.lake.current.isNone then .running else .waiting) ∧
    (writeTaken (s.at t) h Ob.LAKE_JOB_CMD 3 = true → lakeHasBank s = true → (slotOf s 3).state = .escape →
      oget s Ob.LAKE_JOB_RAWADDR + 32 * (elemFmt (slotOf s 3).ctx.elem).bytes ≤ dramTop →
      (poisonIn s (oget s Ob.LAKE_JOB_RAWADDR)
          (oget s Ob.LAKE_JOB_RAWADDR + 32 * (elemFmt (slotOf s 3).ctx.elem).bytes) ++ rastShut s (slotOf s 3) = [] →
        ∃ s', exec (.lakeRawblk t h) s = .next s' ∧ (slotOf s' 3).state ≠ .escape ∧
          (slotOf s' 3).codePos = (slotOf s 3).codePos + (slotOf s 3).ctx.slot / 8) ∧
      (poisonIn s (oget s Ob.LAKE_JOB_RAWADDR)
          (oget s Ob.LAKE_JOB_RAWADDR + 32 * (elemFmt (slotOf s 3).ctx.elem).bytes) ++ rastShut s (slotOf s 3) ≠ [] →
        ∃ s', exec (.lakeRawblk t h) s = .next s' ∧ (slotOf s' 3).state = .fault ∧
          (slotOf s' 3).codePos = (slotOf s 3).codePos ∧ s'.mem = s.mem)) ∧
    (writeTaken (s.at t) h Ob.LAKE_JOB_CMD 4 = true →
      ((slotOf s 3).state = .running → ∃ s', exec (.lakeSuspend t h) s = .next s' ∧
        slotOf s' 3 = { slotOf s 3 with suspend := true } ∧ s'.mem = s.mem) ∧
      ((slotOf s 3).state = .waiting → ∃ s', exec (.lakeSuspend t h) s = .next s' ∧
        (slotOf s' 3).state = .suspended ∧ (slotOf s' 3).ctx = (slotOf s 3).ctx ∧ s'.mem = s.mem)) ∧
    (writeTaken (s.at t) h Ob.LAKE_JOB_CMD 5 = true →
      ((slotOf s 3).state = .running → ∃ s', exec (.lakeCancel t h) s = .next s' ∧
        slotOf s' 3 = { slotOf s 3 with cancel := true } ∧ s'.mem = s.mem) ∧
      ((slotOf s 3).state ≠ .running → (slotOf s 3).state ≠ .idle → ∃ s', exec (.lakeCancel t h) s = .next s' ∧
        (slotOf s' 3).state = .cancelled ∧ (slotOf s' 3).ctx = (slotOf s 3).ctx ∧ s'.mem = s.mem)) ∧
    (∀ ctx : BitVec 512, taken (s.at t) h 4 = true → 2 ≤ (portOf s h.port).level →
      [JobState.idle, .done, .cancelled, .decodeErr, .fault].contains (slotOf s 3).state = true →
      (ctxOk ctx.toNat = true → ∃ s', exec (.lakeCtxWrite t h ctx) s = .next s' ∧ (slotOf s' 3).state = .suspended ∧
        (slotOf s' 3).ctx = LakeCtx.ofBits ctx.toNat ∧ s'.mem = s.mem) ∧
      (ctxOk ctx.toNat = false → ∃ s', exec (.lakeCtxWrite t h ctx) s = .next s' ∧ s'.lake = s.lake ∧ s'.mem = s.mem))

/-- A block of the current job, while its turn lasts. An encoder writes the block's code at the place the job has reached,
or an escape and stops with NOFIT; a decoder writes its pixels, stops at an escape, and at a code that is no block
stops with the cause; the job goes on by one slot of code. Data that cannot be read stops the job with FAULT. When the
turn of LAKE_QUANTUM blocks is over, the next job that runs is the current one with a new turn. -/
def Obligations.LakeEngineRunsBlocks : Prop :=
  ∀ (t n : Nat) (s : State), lakeRuns s = true → s.lake.current = some n →
    (s.lake.quantum ≠ 0 → (slotOf s n).state = .running →
      ((slotOf s n).ctx.dir = 0 → rastBad s (slotOf s n) = [] →
        edgePoison s ((slotOf s n).codeAddr + (slotOf s n).codePos) ((slotOf s n).ctx.slot / 8) = [] →
        (∀ bits rec_, encodeBlock (elemFmt (slotOf s n).ctx.elem) (slotOf s n).ctx.slot (decide ((slotOf s n).ctx.mode = 0))
            (slotOf s n).ctx.qmax (slotOf s n).ctx.hist (rastBlock s (slotOf s n)) = some (bits, rec_) →
          ∃ s', exec (.lakeBlockDone t) s = .next s' ∧
            s'.mem = (memRun ((slotOf s n).codeAddr + (slotOf s n).codePos) (toBE ((slotOf s n).ctx.slot / 8) bits) s).mem ∧
            (slotOf s' n).codePos = (slotOf s n).codePos + (slotOf s n).ctx.slot / 8) ∧
        (encodeBlock (elemFmt (slotOf s n).ctx.elem) (slotOf s n).ctx.slot (decide ((slotOf s n).ctx.mode = 0))
            (slotOf s n).ctx.qmax (slotOf s n).ctx.hist (rastBlock s (slotOf s n)) = none →
          ∃ s', exec (.lakeBlockDone t) s = .next s' ∧ (slotOf s' n).state = .noFit ∧
            s'.mem = (memRun ((slotOf s n).codeAddr + (slotOf s n).codePos)
              (toBE ((slotOf s n).ctx.slot / 8) (escapeBlock (slotOf s n).ctx.slot)) s).mem ∧
            (slotOf s' n).codePos = (slotOf s n).codePos + (slotOf s n).ctx.slot / 8)) ∧
      ((slotOf s n).ctx.dir = 0 → rastBad s (slotOf s n) ≠ [] →
        ∃ s', exec (.lakeBlockDone t) s = .next s' ∧ (slotOf s' n).state = .fault ∧ s'.mem = s.mem) ∧
      (∀ r, (slotOf s n).ctx.dir ≠ 0 →
        poisonIn s ((slotOf s n).codeAddr + (slotOf s n).codePos)
          ((slotOf s n).codeAddr + (slotOf s n).codePos + (slotOf s n).ctx.slot / 8) = [] →
        decodeBlock (elemFmt (slotOf s n).ctx.elem) (slotOf s n).ctx.slot (decide ((slotOf s n).ctx.mode = 0)) false
          (slotOf s n).ctx.hist (memBE s ((slotOf s n).codeAddr + (slotOf s n).codePos) ((slotOf s n).ctx.slot / 8)) = r →
        (∀ blk, r = .block blk → rastShut s (slotOf s n) = [] →
          ∃ s', exec (.lakeBlockDone t) s = .next s' ∧ s'.mem = (putBlock (slotOf s n) blk s).mem ∧
            (slotOf s' n).codePos = (slotOf s n).codePos + (slotOf s n).ctx.slot / 8) ∧
        (r = .escape → ∃ s', exec (.lakeBlockDone t) s = .next s' ∧ (slotOf s' n).state = .escape ∧
          (slotOf s' n).codePos = (slotOf s n).codePos ∧ s'.mem = s.mem) ∧
        (∀ k, r = .fail k → ∃ s', exec (.lakeBlockDone t) s = .next s' ∧ (slotOf s' n).state = .decodeErr ∧
          (slotOf s' n).cause = k ∧ s'.mem = s.mem))) ∧
    (s.lake.quantum = 0 →
      exec (.lakeBlockDone t) s = .next (s.at t) ∧
      (∀ m, nextSlot s n = some m → ∃ s', exec (.lakeQuantumExpiry t) s = .next s' ∧ s'.lake.current = some m ∧
        (slotOf s' m).state = .running ∧ s'.lake.quantum = oget s Ob.LAKE_QUANTUM ∧ s'.mem = s.mem ∧
        (n ≠ m → (slotOf s n).state = .running → (slotOf s' n).state = .waiting))) ∧
    (s.lake.quantum ≠ 0 → exec (.lakeQuantumExpiry t) s = .next (s.at t))

/-- While the scrub runs, the scrub of a word goes on to the next word, from the last to the first; a word corrected, one
found uncorrectable and a poisoned one are counted. The hotter die gives the refresh step; a die that answers no
temperature or completes no refresh is lost under FST_DIELOSS 5 or 6, and one with two parity errors within 10 us under
1 or 2, each a device-class failure. A row copied is spared. A word of the maps that the firmware rewrites is written
whole, or held while a line that it feeds lies between its two fetches. -/
def Obligations.FrameStoreIsMaintained : Prop :=
  ∀ (t : Nat) (s : State),
    (scrubRuns s = true → ∀ overwritten,
      (poisoned s s.fst.scrubAddr = false →
        (∃ s', exec (.scrubStep t .clean overwritten) s = .next s' ∧ s'.mem = s.mem ∧ s'.poison = s.poison ∧
          s'.fst.scrubAddr = (if dramTop ≤ s.fst.scrubAddr + 8 then 0 else s.fst.scrubAddr + 8) ∧
          oget s' Ob.FST_SCRUB_ADDR = s'.fst.scrubAddr) ∧
        (∃ s', exec (.scrubStep t .correctable overwritten) s = .next s' ∧
          s'.fst.scrubAddr = (if dramTop ≤ s.fst.scrubAddr + 8 then 0 else s.fst.scrubAddr + 8) ∧
          oget s' Ob.FST_ECC_CORR = satInc 0xFFFFFFFF (oget s Ob.FST_ECC_CORR)) ∧
        (∃ s', exec (.scrubStep t .uncorrectable overwritten) s = .next s' ∧ oget s' Ob.FST_ECC_LAST = s.fst.scrubAddr ∧
          s'.fst.scrubAddr = (if dramTop ≤ s.fst.scrubAddr + 8 then 0 else s.fst.scrubAddr + 8) ∧
          oget s' Ob.FST_ECC_UNCORR = satInc 0xFFFFFFFF (oget s Ob.FST_ECC_UNCORR))) ∧
      (poisoned s s.fst.scrubAddr = true → ∀ found, ∃ s', exec (.scrubStep t found overwritten) s = .next s' ∧
        s'.mem = s.mem ∧ s'.poison = s.poison ∧
        s'.fst.scrubAddr = (if dramTop ≤ s.fst.scrubAddr + 8 then 0 else s.fst.scrubAddr + 8) ∧
        oget s' Ob.FST_ECC_UNCORR = satInc 0xFFFFFFFF (oget s Ob.FST_ECC_UNCORR))) ∧
    (scrubRuns s = false → ∀ found overwritten, exec (.scrubStep t found overwritten) s = .next (s.at t)) ∧
    (s.boot.stage = .started → ∀ v0 v1 : Int, -360 ≤ v0 → v0 ≤ 1240 → -360 ≤ v1 → v1 ≤ 1240 →
      ∃ s', exec (.dramTempRead t (some v0) (some v1)) s = .next s' ∧ oget s' Ob.FST_TEMP_DIE0 = ofSigned 16 v0 ∧
        oget s' Ob.FST_TEMP_DIE1 = ofSigned 16 v1 ∧ s'.boot = s.boot ∧ s'.mem = s.mem ∧
        oget s' Ob.FST_REFRESH_STEP = refreshStep (oget s Ob.FST_REFRESH_STEP) (max v0 v1)) ∧
    (s.boot.stage = .started → s.boot.op ≠ .boot →
      (∀ d1, ∃ s', exec (.dramTempRead t none d1) s = .next s' ∧ oget s' Ob.FST_DIELOSS = 5 ∧ s'.boot.op = .safeDark) ∧
      (∀ v0, ∃ s', exec (.dramTempRead t (some v0) none) s = .next s' ∧ oget s' Ob.FST_DIELOSS = 6 ∧
        s'.boot.op = .safeDark)) ∧
    (∀ d r rest, s.fst.copying = (d, r) :: rest → ∃ s', exec (.rowCopyDone t) s = .next s' ∧ s'.fst.copying = rest ∧
      s'.fst.spared = s.fst.spared ++ [(d, r)] ∧ s'.mem = s.mem ∧ s'.poison = s.poison) ∧
    (∀ die, exec (.dramRefresh t die true false) s = .next (s.at t)) ∧
    (s.boot.stage = .started → s.boot.op ≠ .boot → ∀ die : Fin 2,
      (∀ parity, ∃ s', exec (.dramRefresh t die false parity) s = .next s' ∧
        oget s' Ob.FST_DIELOSS = 5 + die.val ∧ s'.boot.op = .safeDark) ∧
      (∀ e, look s.fst.parityAt die.val = some e → max s.now t ≤ e + 10000 →
        ∃ s', exec (.dramRefresh t die true true) s = .next s' ∧
          oget s' Ob.FST_DIELOSS = 1 + die.val ∧ s'.boot.op = .safeDark) ∧
      (look s.fst.parityAt die.val = none → ∃ s', exec (.dramRefresh t die true true) s = .next s' ∧
        look s'.fst.parityAt die.val = some (max s.now t) ∧ s'.boot = s.boot ∧ s'.obj = s.obj)) ∧
    (∀ w, 8 * w < dramTop → ∀ v : BitVec 64, s.boot.stage = .started → repaired (8 * w) = true →
      (holdsWord s w || s.fst.held.any (fun e => decide (e.1 / 8 = w)) = false →
        ∃ s', exec (.mapWordRewrite t w v) s = .next s' ∧ s'.mem = (memRun (8 * w) (toBE 8 v.toNat) s).mem ∧
          s'.poison = (memRun (8 * w) (toBE 8 v.toNat) s).poison ∧ s.sameBut [.mem, .poison] s') ∧
      (holdsWord s w || s.fst.held.any (fun e => decide (e.1 / 8 = w)) = true →
        ∃ s', exec (.mapWordRewrite t w v) s = .next s' ∧ s'.fst.held = s.fst.held ++ [(8 * w, toBE 8 v.toNat)] ∧
          s.sameBut [.fst] s'))

/-- An accepted write of BNK_OWNER leaves the bank pending; when its owner releases it, it is cleared, where the write asks
for that, and handed over; a release that does not come leaves the owner as it was. A bank that is handed over with the
clear, or to a master that keeps its words there, holds zeros, and else what it held. A peek writes a word of a bank of
13 to 15, is lost under BNK_PEEK_STAT 2 when it collides, is refused under 3 in any other bank, and reads a word
without writing any, under BNK_PEEK_STAT 1 a poisoned one. The scrub of a clean word of a bank goes on to the next and
counts a pass after the last; corrected and uncorrectable words are counted. -/
def Obligations.BanksAreOwnedPeekedAndScrubbed : Prop :=
  (∀ (t : Nat) (bank : Fin 16) (s : State),
     (∀ (h : Hdr) (v : BitVec 8), writeTaken (s.at t) h (Ob.BNK_OWNER + bank.val) v.toNat = true → v.toNat % 16 ≤ 11 →
       (handoverAllowed s bank.val = true → (bankOf s bank.val).phase = .stable →
         ∃ s', exec (.bnkOwnerWrite t h bank v) s = .next s' ∧ s'.mem = s.mem ∧ s'.bnk.sram = s.bnk.sram ∧
           bankOf s' bank.val =
             { bankOf s bank.val with phase := .pending, next := v.toNat % 16, clear := bit v.toNat 7 }) ∧
       (handoverAllowed s bank.val = false ∨ (bankOf s bank.val).phase ≠ .stable →
         ∃ s', exec (.bnkOwnerWrite t h bank v) s = .next s' ∧ s'.mem = s.mem ∧ s'.bnk = s.bnk)) ∧
     ((bankOf s bank.val).phase = .pending → (bankOf s bank.val).clear = true →
       ∃ s', exec (.bankRelease t bank) s = .next s' ∧ s'.obj = s.obj ∧ s'.bnk.sram = s.bnk.sram ∧
         bankOf s' bank.val = { bankOf s bank.val with phase := .clearing }) ∧
     ((bankOf s bank.val).phase = .pending → (bankOf s bank.val).clear = false →
       ∃ s', exec (.bankRelease t bank) s = .next s' ∧ (bankOf s' bank.val).owner = (bankOf s bank.val).next ∧
         (bankOf s' bank.val).phase = .stable ∧
         (bankOf s' bank.val).handovers = satInc 255 (bankOf s bank.val).handovers) ∧
     ((bankOf s bank.val).phase = .pending → ∃ s', exec (.bankReleaseTimeout t bank) s = .next s' ∧
       (bankOf s' bank.val).owner = (bankOf s bank.val).owner ∧ (bankOf s' bank.val).phase = .stable ∧
       (bankOf s' bank.val).lastFail = 1 ∧ s'.obj = s.obj ∧ s'.bnk.sram = s.bnk.sram) ∧
     ((bankOf s bank.val).phase = .clearing → ∃ s', exec (.bankClearDone t bank) s = .next s' ∧
       (bankOf s' bank.val).owner = (bankOf s bank.val).next ∧ (bankOf s' bank.val).phase = .stable ∧
       (s.bnk.sram.Pairwise (fun a b => a.1 < b.1) → ∀ w, w < 2 ^ 19 → get (fun _ => 0) s'.bnk.sram (bank.val * 2 ^ 19 + w) =
         if (bankOf s bank.val).clear || keepsWords bank.val (bankOf s bank.val).next then 0
         else get (fun _ => 0) s.bnk.sram (bank.val * 2 ^ 19 + w))) ∧
     ((bankOf s bank.val).phase = .stable →
       exec (.bankRelease t bank) s = .next (s.at t) ∧ exec (.bankReleaseTimeout t bank) s = .next (s.at t) ∧
       exec (.bankClearDone t bank) s = .next (s.at t))) ∧
  (∀ (t : Nat) (s : State),
     (∀ (h : Hdr) (v : BitVec 64), writeTaken (s.at t) h Ob.BNK_PEEK_DATA v.toNat = true →
       (13 ≤ peekBank s → ∃ s', exec (.bnkPeekData t h (some v) false) s = .next s' ∧ oget s' Ob.BNK_PEEK_STAT = 0 ∧
         get (fun _ => 0) s'.bnk.sram (peekWord s) = v ∧ s'.mem = s.mem ∧ s'.bnk.banks = s.bnk.banks) ∧
       (13 ≤ peekBank s → ∃ s', exec (.bnkPeekData t h (some v) true) s = .next s' ∧ oget s' Ob.BNK_PEEK_STAT = 2 ∧
         oget s' Ob.BNK_LOSTWR = satInc 0xFFFFFFFF (oget s Ob.BNK_LOSTWR) ∧ s'.bnk = s.bnk ∧ s'.mem = s.mem) ∧
       (peekBank s < 13 → ∀ collided, ∃ s', exec (.bnkPeekData t h (some v) collided) s = .next s' ∧
         oget s' Ob.BNK_PEEK_STAT = 3 ∧ s'.bnk = s.bnk ∧ s'.mem = s.mem)) ∧
     (∀ (h : Hdr) collided, taken (s.at t) h 0 = true → readLevel Ob.BNK_PEEK_DATA ≤ (portOf s h.port).level →
       ((look s.bnk.poison (peekWord s)).getD false = false →
         ∃ s', exec (.bnkPeekData t h none collided) s = .next s' ∧ oget s' Ob.BNK_PEEK_STAT = 0 ∧ s'.bnk = s.bnk ∧
           s'.mem = s.mem ∧ (∀ w, look s.bnk.sram (peekWord s) = some w →
             (lastAnswer s' h.port).map (fun a => a.2.2) = some (St.ok, toBE 8 w.toNat))) ∧
       ((look s.bnk.poison (peekWord s)).getD false = true →
         ∃ s', exec (.bnkPeekData t h none collided) s = .next s' ∧ oget s' Ob.BNK_PEEK_STAT = 1 ∧
           oget s' Ob.BNK_UNCORR = satInc 0xFFFFFFFF (oget s Ob.BNK_UNCORR) ∧ s'.mem = s.mem)) ∧
     (s.boot.stage = .started → ∀ other,
       ((look s.bnk.poison s.bnk.scrub).getD false = false → ∀ lost,
         ∃ s', exec (.sramScrubStep t .clean other lost) s = .next s' ∧ s'.bnk.banks = s.bnk.banks ∧ s'.bnk.sram = s.bnk.sram ∧
           s'.bnk.scrub = (if s.bnk.scrub + 1 = 2 ^ 23 then 0 else s.bnk.scrub + 1) ∧
           (s.bnk.scrub + 1 = 2 ^ 23 → oget s' Ob.BNK_SCRUBPASS = satInc 0xFFFFFFFF (oget s Ob.BNK_SCRUBPASS))) ∧
       ((look s.bnk.poison s.bnk.scrub).getD false = false → ∀ lost,
         ∃ s', exec (.sramScrubStep t .correctable other lost) s = .next s' ∧ s'.bnk.sram = s.bnk.sram ∧
           s'.bnk.scrub = (if s.bnk.scrub + 1 = 2 ^ 23 then 0 else s.bnk.scrub + 1) ∧
           oget s' Ob.BNK_CORR = satInc 0xFFFFFFFF (oget s Ob.BNK_CORR) ∧
           (lost = true → oget s' Ob.BNK_LOSTWR = satInc 0xFFFFFFFF (oget s Ob.BNK_LOSTWR))) ∧
       (∀ lost, ∃ s', exec (.sramScrubStep t .uncorrectable other lost) s = .next s' ∧
         s'.bnk.scrub = (if s.bnk.scrub + 1 = 2 ^ 23 then 0 else s.bnk.scrub + 1) ∧
         oget s' Ob.BNK_UNCORR = satInc 0xFFFFFFFF (oget s Ob.BNK_UNCORR))) ∧
     (s.boot.stage ≠ .started → ∀ found other lost, exec (.sramScrubStep t found other lost) s = .next (s.at t)))

/-! ## The panel -/

/-- In SETUP an accepted request that turns one band on opens it, with a failed condition it is refused under its code in
PNL_RAILERR; one that turns a band off takes its output low at once and its fall is due. The band an automatic request
is due for is opened like one that was asked for. -/
def Obligations.RailsFollowTheirRequests : Prop :=
  ∀ (t : Nat) (band : Fin 4) (s : State), s.boot.op = .setup →
    (∀ (h : Hdr) (bands : BitVec 4) v, v = oget s Ob.PNL_RAILREQ ||| bands.toNat →
      writeTaken (s.at t) h Ob.PNL_RAILREQ v = true → bit v band.val = true → (railOf s band.val).state = .off →
      (∀ c < 4, bit v c = true → c ≠ band.val → railUp s c = true) →
      (railErr s band.val = 0 → ∃ s', exec (.railPowerUpReq t h bands) s = .next s' ∧
        (railOf s' band.val).state = .opening ∧ oget s' Ob.PNL_RAILREQ = v ∧ (padsOf s' band.val).pven = false ∧
        s'.mem = s.mem ∧ s'.boot = s.boot) ∧
      (railErr s band.val ≠ 0 → ∃ s', exec (.railPowerUpReq t h bands) s = .next s' ∧
        oget s' Ob.PNL_RAILERR = railErr s band.val ∧ oget s' Ob.PNL_RAILREQ = oget s Ob.PNL_RAILREQ ∧ s'.pnl = s.pnl)) ∧
    (∀ (h : Hdr) (bands : BitVec 4) v, v = oget s Ob.PNL_RAILREQ &&& (15 - bands.toNat) →
      writeTaken (s.at t) h Ob.PNL_RAILREQ v = true → bit bands.toNat band.val = true → band.val < bandCount s →
      (railOf s band.val).state = .on → (railOf s band.val).fallDue = none → (∀ c < 4, bit v c = true → railUp s c = true) →
      ∃ s', exec (.railDownReq t h bands) s = .next s' ∧ (railOf s' band.val).fallDue = some 1 ∧
        max s.now t + 1000 * oget s Ob.PNL_TPV ≤ (railOf s' band.val).at_ ∧ (padsOf s' band.val).goe = false ∧
        oget s' Ob.PNL_RAILREQ = v ∧ s'.mem = s.mem ∧ s'.boot = s.boot) ∧
    (autoBands (s.at t) = [band.val] → (railOf s band.val).state = .off →
      (railErr s band.val = 0 → ∃ s', exec (.autorailRequest t) s = .next s' ∧ (railOf s' band.val).state = .opening ∧
        oget s' Ob.PNL_RAILREQ = setBit (oget s Ob.PNL_RAILREQ) band.val ∧ s'.mem = s.mem ∧ s'.boot = s.boot) ∧
      (railErr s band.val ≠ 0 → ∃ s', exec (.autorailRequest t) s = .next s' ∧ (railOf s' band.val).state = .off ∧
        oget s' Ob.PNL_RAILERR = railErr s band.val ∧ oget s' Ob.PNL_RAILREQ = oget s Ob.PNL_RAILREQ))

/-- The sequence of one band's rails, each step at its time. At its stagger slot the band opens with both switches off, or
its request is over outside SETUP; RISING closes PVEN; ON counts the power-up and ends the band's cut. A fall that is
due takes PVEN low, and a falling band ends in OFF, or in CUT where it was cut, with PDIS high. A timer that comes
early has no effect. -/
def Obligations.RailsRiseAndFall : Prop :=
  ∀ (t : Nat) (band : Fin 4) (s : State),
    ((railOf s band.val).due = true → (railOf s band.val).at_ ≤ max s.now t → s.boot.op = .setup → s.pins.pen3 = true →
      (railOf s band.val).state = .off ∨ (railOf s band.val).state = .cut →
      ∃ s', exec (.bandStaggerTimer t band) s = .next s' ∧ (railOf s' band.val).state = .opening ∧
        (railOf s' band.val).due = false ∧ (railOf s' band.val).at_ = max s.now t + 1000 * oget s Ob.PNL_TPDOFF ∧
        (padsOf s' band.val).pven = false ∧ (padsOf s' band.val).pdis = false ∧ s'.obj = s.obj ∧ s'.mem = s.mem) ∧
    (s.boot.op ≠ .setup ∨ s.pins.pen3 = false → ∃ s', exec (.bandStaggerTimer t band) s = .next s' ∧
      (railOf s' band.val).due = false ∧ (railOf s' band.val).state = (railOf s band.val).state ∧ s'.pins = s.pins) ∧
    ((railOf s band.val).state = .opening → (railOf s band.val).fallDue = none → (railOf s band.val).at_ ≤ max s.now t →
      ∃ s', exec (.tpdoffExpiry t band) s = .next s' ∧ (railOf s' band.val).state = .rising ∧
        (padsOf s' band.val).pven = true ∧ (padsOf s' band.val).pdis = false ∧ s'.obj = s.obj ∧ s'.mem = s.mem) ∧
    ((railOf s band.val).state = .rising → (railOf s band.val).fallDue = none → (railOf s band.val).at_ ≤ max s.now t →
      ∃ s', exec (.triseExpiry t band) s = .next s' ∧
        (railOf s' band.val).state = .on ∧ (railOf s' band.val).powerups = satInc 0xFFFF (railOf s band.val).powerups ∧
        bit (oget s' Ob.SAF_CUTBANDS) band.val = false ∧ s'.pins = s.pins ∧ s'.mem = s.mem) ∧
    ((railOf s band.val).state = .falling → (railOf s band.val).at_ ≤ max s.now t →
      ∃ s', exec (.dischargeDelayExpiry t band) s = .next s' ∧
        (railOf s' band.val).state = (if (railOf s band.val).toCut then .cut else .off) ∧
        (padsOf s' band.val).pven = false ∧ (padsOf s' band.val).pdis = true ∧ s'.obj = s.obj ∧ s'.mem = s.mem) ∧
    (∀ d, (railOf s band.val).fallDue = some d → railUp s band.val = true → (railOf s band.val).at_ ≤ max s.now t →
      ∃ s', exec (.lampblackPdisTimer t band) s = .next s' ∧ (railOf s' band.val).state = .falling ∧
        (railOf s' band.val).lastDown = d ∧ (railOf s' band.val).at_ = max s.now t + 1000 * oget s Ob.PNL_TPD ∧
        (padsOf s' band.val).pven = false ∧ (padsOf s' band.val).pdis = false ∧ s'.obj = s.obj ∧ s'.mem = s.mem) ∧
    ((railOf s band.val).state = .falling → (railOf s band.val).fallDue = none → (railOf s band.val).at_ ≤ max s.now t →
      ∃ s', exec (.lampblackPdisTimer t band) s = .next s' ∧
        (railOf s' band.val).state = (if (railOf s band.val).toCut then .cut else .off) ∧
        (padsOf s' band.val).pven = false ∧ (padsOf s' band.val).pdis = true ∧ s'.obj = s.obj ∧ s'.mem = s.mem) ∧
    (max s.now t < (railOf s band.val).at_ →
      exec (.tpdoffExpiry t band) s = .next (s.at t) ∧ exec (.triseExpiry t band) s = .next (s.at t) ∧
      exec (.dischargeDelayExpiry t band) s = .next (s.at t) ∧ exec (.lampblackPdisTimer t band) s = .next (s.at t))

/-- A supply failure that is watched starts the lampblack path of a running controller and waits for its end with a reset,
and one that is not watched has no effect. When a path is over, every band that falls, or has to, is discharged with
PDIS high, and the reset that waits is entered; before that the command has no effect. On the reserve alone the
discharge switches go weak and close at once. -/
def Obligations.LampblackEnds : Prop :=
  ∀ (t : Nat) (s : State),
    (∀ source, s.boot.stage = .started → watched s source = true → s.boot.pending = none → s.pnl.path = none →
      ∃ s', exec (.pfailTrigger t source) s = .next s' ∧ s'.boot.pending = some .pfail ∧ s'.pnl.path.isSome = true ∧
        s'.pins.faultN = false) ∧
    (∀ source, watched s source = false → exec (.pfailTrigger t source) s = .next (s.at t)) ∧
    (∀ p, s.pnl.path = some p → pathOver (s.at t) p = true → s.boot.pending = none →
      ∃ s', exec (.lampblackComplete t) s = .next s' ∧
      s'.pnl.path = none ∧ s'.boot = s.boot ∧ s'.mem = s.mem ∧
      ∀ b < 4, (railOf s b).state = .falling ∨ (railUp s b = true ∧ (railOf s b).fallDue.isSome = true) →
        (railOf s' b).state = (if (railOf s b).toCut then .cut else .off) ∧ (padsOf s' b).pdis = true ∧
          (padsOf s' b).pven = false) ∧
    (∀ p r, s.pnl.path = some p → pathOver (s.at t) p = true → s.boot.pending = some r → s.boot.stage = .started →
      ∃ s', exec (.lampblackComplete t) s = .next s' ∧ s'.boot.stage = .inReset ∧ s'.boot.pending = none ∧
        s'.pins.rstDrive = true ∧ s'.mem = []) ∧
    (∀ b p, s.pnl.path = none → s.pnl.cutPath.find? (fun e => pathOver (s.at t) e.2) = some (b, p) →
      ∃ s', exec (.lampblackComplete t) s = .next s' ∧
        s'.pnl.cutPath = del s.pnl.cutPath b ∧ s'.boot = s.boot ∧ s'.mem = s.mem) ∧
    (∀ p, s.pnl.path = some p → pathOver (s.at t) p = false → exec (.lampblackComplete t) s = .next (s.at t)) ∧
    (∃ s', exec (.vresSupplySwitch t) s = .next s' ∧ s'.pins = { s.pins with vresOnly := true } ∧ s'.pnl = s.pnl ∧
      s'.obj = s.obj ∧ s'.mem = s.mem) ∧
    (s.pins.vresOnly = true → ∃ s', exec (.vresSupplyEnd t) s = .next s' ∧ s'.pins.pdisWeak = true ∧ s'.boot = s.boot ∧
      s'.obj = s.obj ∧ s'.mem = s.mem ∧
      ∀ b < 4, (railOf s b).state = .falling → (padsOf s' b).pdis = true ∧ (padsOf s' b).pven = false) ∧
    (s.pins.vresOnly = false → exec (.vresSupplyEnd t) s = .next (s.at t))

/-- A test of the reserve runs in SETUP with every rail down, and with a rail up it is refused under status 4; the value 0
asks for nothing. Its end shows the verdict on the reserve, and the capacity where the drop gives one that PNL_VRESCAP
can show. A check of the crack loops starts with loop 0; its first step keeps the resistance, its second judges the
loop and goes on to the next one, or ends the check. A sound loop has no failure and one passing check more, a failing
one a failure more and no pass; a check that comes too late fails the loops not yet judged. Learning starts over eight
checks in SETUP while the configuration is not sealed. -/
def Obligations.ReserveAndLoopsAreTested : Prop :=
  (∀ (t : Nat) (s : State),
     (∀ (h : Hdr) (v : BitVec 8), writeTaken (s.at t) h Ob.PNL_VRESTEST v.toNat = true →
       (v ≠ 0 → s.boot.op = .setup → (∀ b < 4, (railOf s b).state = .off ∨ (railOf s b).state = .cut) →
         ∃ s', exec (.pnlVrestest t h v) s = .next s' ∧ s'.pnl.vresTest = true ∧ s'.pnl.vresV = oget s Ob.PNL_VRES_MV ∧
           s'.mem = s.mem ∧ s'.boot = s.boot) ∧
       (v ≠ 0 → s.boot.op = .setup → ∀ b < 4, (railOf s b).state ≠ .off → (railOf s b).state ≠ .cut →
         ∃ s', exec (.pnlVrestest t h v) s = .next s' ∧ s'.pnl = s.pnl ∧
         oget s' Ob.PNL_VRESSTAT = 4 ∧ s'.mem = s.mem ∧ s'.boot = s.boot) ∧
       (v = 0 ∨ s.boot.op ≠ .setup → ∃ s', exec (.pnlVrestest t h v) s = .next s' ∧ s'.pnl = s.pnl ∧
         s'.mem = s.mem ∧ s'.boot = s.boot)) ∧
     (∀ dropMv, s.pnl.vresTest = true → ∃ s', exec (.vresTestDone t dropMv) s = .next s' ∧
       s'.pnl.vresTest = false ∧ (1 < dropMv → oget s' Ob.PNL_VRESCAP = 100000 / dropMv) ∧ s'.mem = s.mem ∧ s'.boot = s.boot ∧
       oget s' Ob.PNL_VRESSTAT =
         if 5000 < s.pnl.vresV ∧ 1000000 * (s.pnl.vresV * s.pnl.vresV - 25000000) < 180000000000 * dropMv then 2
         else if s.pnl.vresV < oget s Ob.PNL_VRESMIN then 3 else 1) ∧
     (∀ dropMv, s.pnl.vresTest = false → exec (.vresTestDone t dropMv) s = .next (s.at t))) ∧
  (∀ (t : Nat) (s : State),
     (crackRuns s = true → ∃ s', exec (.crackCheckTimer t) s = .next s' ∧ s'.pnl.checkOn = true ∧ s'.pnl.loop = 0 ∧
       s'.pnl.step2 = false ∧ s'.pnl.loops = s.pnl.loops ∧ s'.obj = s.obj) ∧
     (crackRuns s = false → exec (.crackCheckTimer t) s = .next (s.at t)) ∧
     (∀ v1 v2 : BitVec 12, s.pnl.checkOn = true → s.pnl.loop ≤ 1 →
       (s.pnl.step2 = false → ∃ s', exec (.crackStepDone t v1 v2) s = .next s' ∧
         oget s' (Ob.PNL_CRKR + s.pnl.loop) = crackOhms v1.toNat v2.toNat ∧ s'.pnl.r1 = crackOhms v1.toNat v2.toNat ∧
         s'.pnl.step2 = true ∧ s'.pnl.loops = s.pnl.loops ∧ s'.mem = s.mem) ∧
       (s.pnl.step2 = true → ∃ s', exec (.crackStepDone t v1 v2) s = .next s' ∧ s'.pnl.step2 = false ∧
         (s.pnl.loop = 0 → s'.pnl.loop = 1 ∧ s'.pnl.checkOn = true) ∧ (s.pnl.loop = 1 → s'.pnl.checkOn = false) ∧
         s'.mem = s.mem ∧
         (crackCause (s.at t) s.pnl.loop s.pnl.r1 v1.toNat = 0 → (loopOf s' s.pnl.loop).fails = 0 ∧
           (loopOf s' s.pnl.loop).passes = min 2 ((loopOf s s.pnl.loop).passes + 1)) ∧
         (crackCause (s.at t) s.pnl.loop s.pnl.r1 v1.toNat ≠ 0 → (loopOf s' s.pnl.loop).passes = 0 ∧
           (loopOf s' s.pnl.loop).fails = (loopOf s s.pnl.loop).fails + 1))) ∧
     (s.pnl.checkOn = true → s.pnl.loop ≤ 1 → ∃ s', exec (.crackCheckLate t) s = .next s' ∧ s'.pnl.checkOn = false ∧
       (loopOf s' 1).fails = (loopOf s 1).fails + 1 ∧ (loopOf s' 1).passes = 0 ∧ s'.mem = s.mem) ∧
     (s.pnl.checkOn = false → exec (.crackCheckLate t) s = .next (s.at t)) ∧
     (∀ (h : Hdr) (v : BitVec 8), writeTaken (s.at t) h Ob.PNL_CRKLEARN v.toNat = true →
       (∀ n, s.boot.op = .setup → oflag s Ob.SAF_SEALED = false → n < 2 → bit v.toNat n = true →
         ∃ s', exec (.pnlCrklearn t h v) s = .next s' ∧
           (loopOf s' n).learn = 8 ∧ (loopOf s' n).fails = (loopOf s n).fails ∧ s'.mem = s.mem ∧ s'.boot = s.boot) ∧
       (s.boot.op ≠ .setup ∨ oflag s Ob.SAF_SEALED = true → ∃ s', exec (.pnlCrklearn t h v) s = .next s' ∧ s'.pnl = s.pnl)))

/-! ## Conversions and calibration -/

/-- A scheduled conversion starts when the converter is idle and waits when it is busy; an input without a schedule has
none. A trigger starts a conversion of its input when the converter is idle, waits when it is busy, and merges with one
that waits. A conversion that ends keeps its code, its kind and its time and is counted; the lowest queued trigger goes
before the oldest scheduled conversion; and a thermistor's code shows its temperature. A calibration report whose
header is good is taken by the slot that awaits it, once. Where a driver's record is missing or bad the sample is to be
taken again; where all of them are good, and other samples are still out, the sample is added and counts. Any other
report, and one while the band may not be measured, has no effect. -/
def Obligations.ConversionsAndReportsAreKept : Prop :=
  (∀ (t : Nat) (s : State),
     (∀ input : Fin 16, adcOn s = true → input.val < 4 ∨ 8 ≤ input.val →
       (s.cal.conv = none → exec (.adcScheduled t input) s =
         .next { s.at t with cal := { s.cal with conv := some (input.val, false) } }) ∧
       (s.cal.conv ≠ none → input.val ∉ s.cal.sched → exec (.adcScheduled t input) s =
         .next { s.at t with cal := { s.cal with sched := s.cal.sched ++ [input.val] } })) ∧
     (∀ input : Fin 16, adcOn s = false ∨ (4 ≤ input.val ∧ input.val < 8) →
       exec (.adcScheduled t input) s = .next (s.at t)) ∧
     (∀ (h : Hdr) (v : BitVec 8), writeTaken (s.at t) h Ob.CAL_ADCTRIG v.toNat = true →
       (s.cal.conv = none → ∃ s', exec (.calAdctrig t h v) s = .next s' ∧
         s'.cal = { s.cal with conv := some (v.toNat, true) } ∧ s'.mem = s.mem) ∧
       (s.cal.conv ≠ none → (adcOf s v.toNat).queued = false → ∃ s', exec (.calAdctrig t h v) s = .next s' ∧
         s'.cal.conv = s.cal.conv ∧ (adcOf s' v.toNat).queued = true ∧ s'.mem = s.mem) ∧
       (s.cal.conv ≠ none → (adcOf s v.toNat).queued = true → ∃ s', exec (.calAdctrig t h v) s = .next s' ∧
         s'.cal = s.cal ∧ oget s' Ob.CAL_ADCMERGE = satInc 0xFFFFFFFF (oget s Ob.CAL_ADCMERGE) ∧ s'.mem = s.mem)) ∧
     (∀ (code : BitVec 12) i triggered, adcOn s = true → s.cal.conv = some (i, triggered) → i < 16 →
       ∃ s', exec (.supplyConversionDone t code) s = .next s' ∧ (adcOf s' i).valid = true ∧
         (adcOf s' i).code = code.toNat ∧ (adcOf s' i).trig = triggered ∧ (adcOf s' i).at_ = max s.now t ∧ s'.mem = s.mem ∧
         oget s' Ob.CAL_ADCCONV = satInc 0xFFFFFFFF (oget s Ob.CAL_ADCCONV) ∧
         (∀ k, (List.range 16).find? (fun k => (adcOf s k).queued) = some k →
           s'.cal.conv = some (k, true) ∧ s'.cal.sched = s.cal.sched) ∧
         ((List.range 16).find? (fun k => (adcOf s k).queued) = none →
           s'.cal.conv = s.cal.sched.head?.map (fun k => (k, false)) ∧ s'.cal.sched = s.cal.sched.drop 1) ∧
         (i < 4 → oget s' (Ob.CAL_THMTEMP + i) =
           thermOf (oget s Ob.CAL_THMLO) (oget s Ob.CAL_THMHI) (dget s Ob.CAL_THMTAB) code.toNat)) ∧
     (∀ code, s.cal.conv = none → exec (.supplyConversionDone t code) s = .next (s.at t))) ∧
  (∀ (t : Nat) (band : Fin 4) (header : BitVec 64) (words : List (BitVec 32)) (records : List (Nat × Option (List Nat)))
     (w : CalWait) (s : State),
     records = calRecs (ceilDiv (rget s Ob.DLK_NCH) 64) 24 words →
     (headOk 0xB header.toNat = true → calMay (s.at t) band.val = true →
       (calBandOf s band.val).wait.find? (fun w => decide (w.slot = field header.toNat 46 14) &&
         decide (w.epoch % 65536 = field header.toNat 30 16)) = some w →
       ((∃ j, j < rget s Ob.DLK_NDRV ∧ (records.find? (fun r => decide (r.1 = j))).bind (·.2) = none) →
         ∃ s', exec (.calrepReceived t band header words) s = .next s' ∧
           (calBandOf s' band.val).redo = (calBandOf s band.val).redo ++ [w.gap] ∧
           (calBandOf s' band.val).wait = (calBandOf s band.val).wait.filter (· ≠ w) ∧
           (calBandOf s' band.val).taken = (calBandOf s band.val).taken ∧
           (calBandOf s' band.val).acc = (calBandOf s band.val).acc ∧ s'.mem = s.mem) ∧
       ((calBandOf s band.val).redo ≠ [] → (∀ j, j < rget s Ob.DLK_NDRV →
           (records.find? (fun r => decide (r.1 = j))).bind (·.2) ≠ none) →
         ∃ s', exec (.calrepReceived t band header words) s = .next s' ∧
           (calBandOf s' band.val).taken = (calBandOf s band.val).taken + 1 ∧
           (calBandOf s' band.val).wait = (calBandOf s band.val).wait.filter (· ≠ w) ∧
           (calBandOf s' band.val).redo = (calBandOf s band.val).redo ∧ s'.mem = s.mem)) ∧
     (headOk 0xB header.toNat = false ∨ calMay (s.at t) band.val = false ∨
       (calBandOf s band.val).wait.find? (fun w => decide (w.slot = field header.toNat 46 14) &&
         decide (w.epoch % 65536 = field header.toNat 30 16)) = none →
       exec (.calrepReceived t band header words) s = .next (s.at t)))

/-- The calibration commands, where none of the reasons of CAL_RESULT holds: START, with a band selected, begins a run
under the next number with nothing staged; RESUME runs again under the number of the run; ABORT abandons under cause 5,
COMMIT waits for the journal and DISCARD erases; the journal's end of a commit, with no poison in DRAM, counts the
generation and leaves the calibration IDLE. With a reason, CAL_RESULT shows it and the calibration stays. -/
def Obligations.CalibrationFollowsItsCommands : Prop :=
  ∀ (t : Nat) (h : Hdr) (s : State),
    (writeTaken (s.at t) h Ob.CAL_CMD 1 = true → calErr (counted (s.at t) h) 1 = 0 → calTotals s (calS s) (fun _ => 0) ≠ [] →
      ∃ s', exec (.calStart t h) s = .next s' ∧ s'.cal.state = .running ∧ oget s' Ob.CAL_RESULT = 0 ∧
        s'.cal.staging = [] ∧ s'.cal.bands = calTotals s (calS s) (fun _ => 0) ∧ s'.cal.s = calS s ∧
        oget s' Ob.CAL_ESTTIME = calSeconds s ∧
        oget s' Ob.CAL_RUNID = (oget s Ob.CAL_RUNID + 1) % 2 ^ 32 ∧ s'.mem = s.mem) ∧
    (writeTaken (s.at t) h Ob.CAL_CMD 2 = true → calErr (counted (s.at t) h) 2 = 0 →
      ∃ s', exec (.calResume t h) s = .next s' ∧ s'.cal.state = .running ∧ oget s' Ob.CAL_RESULT = 0 ∧
        s'.cal.staging = s.cal.staging ∧ oget s' Ob.CAL_RUNID = oget s Ob.CAL_RUNID ∧ s'.mem = s.mem) ∧
    (writeTaken (s.at t) h Ob.CAL_CMD 3 = true → calErr (counted (s.at t) h) 3 = 0 →
      ∃ s', exec (.calAbort t h) s = .next s' ∧ s'.cal.state = .abandoned ∧ oget s' Ob.CAL_CAUSE = 5 ∧
        oget s' Ob.CAL_RESULT = 0 ∧ s'.cal.staging = s.cal.staging ∧ s'.mem = s.mem) ∧
    (writeTaken (s.at t) h Ob.CAL_CMD 4 = true → calErr (counted (s.at t) h) 4 = 0 →
      ∃ s', exec (.calCommit t h) s = .next s' ∧ s'.cal.state = .committing ∧ s'.jrn.commitCal = true ∧
        oget s' Ob.CAL_RESULT = 0 ∧ s'.cal.staging = s.cal.staging ∧ oget s' Ob.CAL_GEN = oget s Ob.CAL_GEN) ∧
    (writeTaken (s.at t) h Ob.CAL_CMD 5 = true → calErr (counted (s.at t) h) 5 = 0 →
      ∃ s', exec (.calDiscard t h) s = .next s' ∧ s'.cal.state = .idle ∧ s'.cal.staging = [] ∧
        oget s' Ob.CAL_RESULT = 0 ∧ s'.mem = s.mem) ∧
    (∀ (n : Nat) (c : Instr), (n, c) ∈ [(1, Instr.calStart t h), (2, .calResume t h), (3, .calAbort t h), (4, .calCommit t h),
        (5, .calDiscard t h)] → writeTaken (s.at t) h Ob.CAL_CMD n = true → calErr (counted (s.at t) h) n ≠ 0 →
      ∃ s', exec c s = .next s' ∧ s'.cal = s.cal ∧ oget s' Ob.CAL_RESULT = calErr (counted (s.at t) h) n ∧
        s'.mem = s.mem ∧ s'.jrn = s.jrn) ∧
    (s.cal.state = .committing → s.poison = [] → ∃ s', exec (.calCommitDone t) s = .next s' ∧ s'.cal.state = .idle ∧
      s'.cal.staging = [] ∧ oget s' Ob.CAL_GEN = satInc 0xFFFFFFFF (oget s Ob.CAL_GEN) ∧
      oget s' Ob.WEAR_SINCECAL = 0 ∧ s'.mem = s.mem) ∧
    (s.cal.state ≠ .committing → exec (.calCommitDone t) s = .next (s.at t))

/-! ## Sessions and requests -/

/-- OPEN begins a session at Viewer level under the next generation, with nothing left of the session before, and answers
the boot counter and the state. One with a generation is counted as stale, one on a full port is answered QUEUE-FULL,
one that names an object NO-OBJECT and one with data LENGTH; no session changes, and a port that does not serve ignores
it. CLOSE ends the session of its port. -/
def Obligations.SessionsOpenAndClose : Prop :=
  ∀ (t : Nat) (f : Frame) (s : State),
    (f.index = 0 → f.sub = 0 → f.data = [] → portServes (s.at t) f.hdr.port = true → f.hdr.gen = 0 →
      outstanding (portOf s f.hdr.port) < 64 →
      ∃ s', exec (.openReq t f) s = .next s' ∧ (portOf s' f.hdr.port).active = true ∧
        (portOf s' f.hdr.port).gen = nextGen (portOf s f.hdr.port).gen ∧ (portOf s' f.hdr.port).level = 0 ∧
        (portOf s' f.hdr.port).transfer = none ∧ (portOf s' f.hdr.port).nonce = none ∧
        (portOf s' f.hdr.port).cache = [] ∧ (portOf s' f.hdr.port).queue.length = 1 ∧ s'.mem = s.mem ∧
        (portOf s' f.hdr.port).lastReq = max s.now t ∧
        lastAnswer s' f.hdr.port = some (129, f.hdr.tag.toNat, St.ok,
          toBE 4 (oget s Ob.DEV_BOOTCNT) ++ toBE 1 s.boot.op.code ++ toBE 1 0)) ∧
    (portServes (s.at t) f.hdr.port = false ∨ portMax f.hdr.port < f.data.length →
      exec (.openReq t f) s = .next (s.at t)) ∧
    (portServes (s.at t) f.hdr.port = true → f.data.length ≤ portMax f.hdr.port →
      (f.hdr.gen ≠ 0 → ∃ s', exec (.openReq t f) s = .next s' ∧ s.sameBut [.obj] s' ∧
        oget s' (Ob.WNP_STALE + portNo f.hdr.port) = satInc 0xFFFFFFFF (oget s (Ob.WNP_STALE + portNo f.hdr.port))) ∧
      (f.hdr.gen = 0 → 64 ≤ outstanding (portOf s f.hdr.port) → ∃ s', exec (.openReq t f) s = .next s' ∧
        lastAnswer s' f.hdr.port = some (129, f.hdr.tag.toNat, St.queueFull, []) ∧ s.sameBut [.obj, .mgt, .pins] s' ∧
        (portOf s' f.hdr.port).gen = (portOf s f.hdr.port).gen) ∧
      (f.hdr.gen = 0 → outstanding (portOf s f.hdr.port) < 64 → f.index ≠ 0 ∨ f.sub ≠ 0 →
        ∃ s', exec (.openReq t f) s = .next s' ∧ s.sameBut [.obj, .mgt, .pins] s' ∧
        lastAnswer s' f.hdr.port = some (129, f.hdr.tag.toNat, St.noObject, []) ∧
        (portOf s' f.hdr.port).gen = (portOf s f.hdr.port).gen) ∧
      (f.hdr.gen = 0 → outstanding (portOf s f.hdr.port) < 64 → f.index = 0 → f.sub = 0 → f.data ≠ [] →
        ∃ s', exec (.openReq t f) s = .next s' ∧ s.sameBut [.obj, .mgt, .pins] s' ∧
        lastAnswer s' f.hdr.port = some (129, f.hdr.tag.toNat, St.length, []) ∧
        (portOf s' f.hdr.port).gen = (portOf s f.hdr.port).gen)) ∧
    (f.index = 0 → f.sub = 0 → f.data = [] → taken (s.at t) f.hdr 0 = true → ∃ s', exec (.close t f) s = .next s' ∧
      (portOf s' f.hdr.port).active = false ∧ (portOf s' f.hdr.port).level = 0 ∧
      (portOf s' f.hdr.port).transfer = none ∧ (portOf s' f.hdr.port).nonce = none ∧
      (portOf s' f.hdr.port).cache = [] ∧ (portOf s' f.hdr.port).queue.length = 1 ∧ s'.mem = s.mem ∧
      lastAnswer s' f.hdr.port = some (130, f.hdr.tag.toNat, St.ok, []))

/-- A READ that is taken answers the value of its object at a sufficient level, and zeros below its level, whatever the
object holds. Subindex 0 of an array answers its last subindex and a window its element; a domain answers TYPE, a
write-only object WRITE-ONLY, an object that does not exist NO-OBJECT, and a READ with data LENGTH. Except for a
window, the two latches and the port nothing changes but the event output and the counters of the request. -/
def Obligations.ReadsAnswer : Prop :=
  ∀ (t k : Nat) (f : Frame) (s : State), k = key f.index.toNat f.sub.toNat →
    taken (s.at t) f.hdr f.data.length = true →
    (∀ r : Row, f.data = [] → rowAt f.index.toNat f.sub.toNat = some r →
      (r.ty ≠ .dom → r.acc ≠ .wo → f.index.toNat ≠ 0x7300 → k ≠ Ob.BNK_PEEK_DATA →
        readLevel k ≤ (portOf s f.hdr.port).level → ∃ s', exec (.read t f) s = .next s' ∧
        lastAnswer s' f.hdr.port = some (131, f.hdr.tag.toNat, St.ok,
          toBE r.ty.bytes (objValue (counted (s.at t) f.hdr) k)) ∧
        s.sameBut [.obj, .mgt, .pins] s' ∧
        ∀ j, (j < Ob.EVC_VAL ∨ Ob.EVC_VAL + 32 ≤ j) → j ≠ Ob.WNP_EVTPEND → oget s' j = oget s j) ∧
      (r.ty ≠ .dom → r.acc ≠ .wo → (portOf s f.hdr.port).level < readLevel k → ∃ s', exec (.read t f) s = .next s' ∧
        lastAnswer s' f.hdr.port = some (131, f.hdr.tag.toNat, St.ok, toBE r.ty.bytes 0) ∧
        oget s' Ob.DIAG_VIOLCNT = satInc 0xFFFFFFFF (oget s Ob.DIAG_VIOLCNT) ∧ s.sameBut [.obj, .mgt, .pins] s') ∧
      (r.ty ≠ .dom → r.acc ≠ .wo → f.index.toNat = 0x7300 → ∃ s', exec (.read t f) s = .next s' ∧
        lastAnswer s' f.hdr.port = some (131, f.hdr.tag.toNat, St.ok,
          toBE 4 (readLed f.hdr.port f.sub.toNat (counted (s.at t) f.hdr)).2) ∧ s'.mem = s.mem) ∧
      (r.ty = .dom → ∃ s', exec (.read t f) s = .next s' ∧
        lastAnswer s' f.hdr.port = some (131, f.hdr.tag.toNat, St.type, []) ∧ s.sameBut [.obj, .mgt, .pins] s') ∧
      (r.ty ≠ .dom → r.acc = .wo → ∃ s', exec (.read t f) s = .next s' ∧
        lastAnswer s' f.hdr.port = some (131, f.hdr.tag.toNat, St.writeOnly, []) ∧ s.sameBut [.obj, .mgt, .pins] s')) ∧
    (f.data = [] → rowAt f.index.toNat f.sub.toNat = none →
      (∀ base e, winAt f.index.toNat f.sub.toNat = some (base, e) → ∃ s', exec (.read t f) s = .next s' ∧
        lastAnswer s' f.hdr.port = some (131, f.hdr.tag.toNat, St.ok,
          toBE (readWin f.hdr.port base e (counted (s.at t) f.hdr)).2.1
            (readWin f.hdr.port base e (counted (s.at t) f.hdr)).2.2) ∧ s'.mem = s.mem) ∧
      (winAt f.index.toNat f.sub.toNat = none → f.sub = 0 → lastSub f.index.toNat ≠ 0 →
        ∃ s', exec (.read t f) s = .next s' ∧ s.sameBut [.obj, .mgt, .pins] s' ∧
        lastAnswer s' f.hdr.port = some (131, f.hdr.tag.toNat, St.ok, toBE 1 (lastSub f.index.toNat))) ∧
      (winAt f.index.toNat f.sub.toNat = none → f.sub ≠ 0 ∨ lastSub f.index.toNat = 0 →
        ∃ s', exec (.read t f) s = .next s' ∧ s.sameBut [.obj, .mgt, .pins] s' ∧
        lastAnswer s' f.hdr.port = some (131, f.hdr.tag.toNat, St.noObject, []))) ∧
    (f.data ≠ [] → ∃ s', exec (.read t f) s = .next s' ∧ s.sameBut [.obj, .mgt, .pins] s' ∧
      lastAnswer s' f.hdr.port = some (131, f.hdr.tag.toNat, St.length, []))

/-- A WRITE that passes its checks stores the value of an object without a rule of its own and changes no other, and one of
an object with a rule of its own answers the status that the rule gives; a WRITE that fails a check answers the status
of the check and changes no object; one below the level of its object is answered OK and changes nothing but the
violation's counters. -/
def Obligations.WritesStoreOrFail : Prop :=
  ∀ (t k v : Nat) (f : Frame) (s : State), k = key f.index.toNat f.sub.toNat → v = ofBE f.data →
    taken (s.at t) f.hdr f.data.length = true →
    (writeGate (s.at t) f.hdr.port k f.data.length v = .pass → ownWrite k v = ownPlain k v → accOf k = .rw →
      (k < Ob.EVC_VAL ∨ Ob.EVC_VAL + 32 ≤ k) → k ≠ Ob.WNP_EVTPEND → ∃ s', exec (.write t f) s = .next s' ∧ oget s' k = v ∧
      lastAnswer s' f.hdr.port = some (132, f.hdr.tag.toNat, St.ok, []) ∧ s.sameBut [.obj, .mgt, .pins] s' ∧
      ∀ j, j ≠ k → (j < Ob.EVC_VAL ∨ Ob.EVC_VAL + 32 ≤ j) → j ≠ Ob.WNP_EVTPEND → oget s' j = oget s j) ∧
    (∀ s1 st, writeGate (s.at t) f.hdr.port k f.data.length v = .pass → ownWrite k v (counted (s.at t) f.hdr) = (s1, st) →
      (portOf s1 f.hdr.port).active = true → (portOf s1 f.hdr.port).gen = (portOf s f.hdr.port).gen → st < 256 →
      ∃ s', exec (.write t f) s = .next s' ∧ lastAnswer s' f.hdr.port = some (132, f.hdr.tag.toNat, st, []) ∧
        s1.sameBut [.obj, .mgt, .pins] s') ∧
    (∀ st, writeGate (s.at t) f.hdr.port k f.data.length v = .fail st → st < 256 → ∃ s', exec (.write t f) s = .next s' ∧
      lastAnswer s' f.hdr.port = some (132, f.hdr.tag.toNat, st, []) ∧ s.sameBut [.obj, .mgt, .pins] s' ∧
      ∀ j, (j < Ob.EVC_VAL ∨ Ob.EVC_VAL + 32 ≤ j) → j ≠ Ob.WNP_EVTPEND → oget s' j = oget s j) ∧
    (writeGate (s.at t) f.hdr.port k f.data.length v = .viol → ∃ s', exec (.write t f) s = .next s' ∧
      lastAnswer s' f.hdr.port = some (132, f.hdr.tag.toNat, St.ok, []) ∧ s.sameBut [.obj, .mgt, .pins] s' ∧
      oget s' Ob.DIAG_VIOLCNT = satInc 0xFFFFFFFF (oget s Ob.DIAG_VIOLCNT))

/-- An opcode outside the table is answered with the status OPCODE, and a frame of an opcode of the table is served by it.
CHALLENGE keeps a nonce for the level it names and answers it; while it is blocked, or where the level has no key, it
is answered AUTH-LOCKOUT or AUTH. An ELEVATE whose MAC holds raises the level and uses the nonce up, and one whose MAC
does not hold keeps the level; DROP lowers the level, and one above the level is REFUSED. A wrong length, a level out
of range or a named object is answered LENGTH, RANGE or NO-OBJECT. None of them touches the panel. -/
def Obligations.LevelsAreEarned : Prop :=
  ∀ (t : Nat) (f : Frame) (s : State),
    (∀ (n : Nat) (c : Instr), (n, c) ∈ [(1, Instr.openReq t f), (2, .close t f), (3, .read t f), (4, .write t f),
      (5, .segInit t f), (6, .segData t f), (7, .segRead t f), (8, .segEnd t f), (9, .segAbort t f), (10, .challenge t f),
      (11, .elevate t f), (12, .drop t f)] → exec (.undefinedOpcode t (BitVec.ofNat 8 n) f) s = exec c s) ∧
    (taken (s.at t) f.hdr f.data.length = true →
    (∀ op : BitVec 8, op = 0 ∨ 12 < op.toNat → ∃ s', exec (.undefinedOpcode t op f) s = .next s' ∧
      lastAnswer s' f.hdr.port = some (128 + op.toNat % 128, f.hdr.tag.toNat, St.opcode, []) ∧
      s.sameBut [.obj, .mgt, .pins] s') ∧
    (∀ (n : Nat) (c : Instr), (n, c) ∈ [(10, Instr.challenge t f), (11, .elevate t f), (12, .drop t f)] →
      f.index ≠ 0 ∨ f.sub ≠ 0 → ∃ s', exec c s = .next s' ∧ s.sameBut [.obj, .mgt, .pins] s' ∧
        lastAnswer s' f.hdr.port = some (128 + n, f.hdr.tag.toNat, St.noObject, [])) ∧
    (f.index = 0 → f.sub = 0 →
      (∀ level, f.data = [level] → 1 ≤ level.toNat → level.toNat ≤ 3 →
        (challengeBlocked (s.at t) f.hdr.port = false → keyOfLevel s level.toNat ≠ none →
          ∃ s', exec (.challenge t f) s = .next s' ∧
          (portOf s' f.hdr.port).nonce = some { bytes := toBE 16 (freeOf s), level := level.toNat, at_ := (s.at t).now } ∧
          (portOf s' f.hdr.port).level = (portOf s f.hdr.port).level ∧
          lastAnswer s' f.hdr.port = some (138, f.hdr.tag.toNat, St.ok, toBE 16 (freeOf s)) ∧
          s.sameBut [.free, .obj, .mgt, .pins] s') ∧
        (challengeBlocked (s.at t) f.hdr.port = true → ∃ s', exec (.challenge t f) s = .next s' ∧
          lastAnswer s' f.hdr.port = some (138, f.hdr.tag.toNat, St.authLockout, []) ∧
          (portOf s' f.hdr.port).nonce = (portOf s f.hdr.port).nonce ∧ s.sameBut [.obj, .mgt, .pins] s') ∧
        (challengeBlocked (s.at t) f.hdr.port = false → keyOfLevel s level.toNat = none →
          ∃ s', exec (.challenge t f) s = .next s' ∧
          lastAnswer s' f.hdr.port = some (138, f.hdr.tag.toNat, St.auth, []) ∧
          (portOf s' f.hdr.port).level = (portOf s f.hdr.port).level ∧
          (portOf s' f.hdr.port).nonce = (portOf s f.hdr.port).nonce ∧ s'.mem = s.mem ∧ s'.pnl = s.pnl)) ∧
      (∀ level, f.data = [level] → level = 0 ∨ 3 < level.toNat → ∃ s', exec (.challenge t f) s = .next s' ∧
        lastAnswer s' f.hdr.port = some (138, f.hdr.tag.toNat, St.range, []) ∧ s.sameBut [.obj, .mgt, .pins] s') ∧
      (∀ level mac, f.data = level :: 0#8 :: 0#8 :: 0#8 :: mac → mac.length = 32 → 1 ≤ level.toNat → level.toNat ≤ 3 →
        (macMatches (s.at t) f.hdr.port level.toNat mac = true → ∃ s', exec (.elevate t f) s = .next s' ∧
          (portOf s' f.hdr.port).level = level.toNat ∧ (portOf s' f.hdr.port).nonce = none ∧
          (portOf s' f.hdr.port).auths = 0 ∧ lastAnswer s' f.hdr.port = some (139, f.hdr.tag.toNat, St.ok, []) ∧
          s.sameBut [.obj, .mgt, .pins] s') ∧
        (macMatches (s.at t) f.hdr.port level.toNat mac = false → ∃ s', exec (.elevate t f) s = .next s' ∧
          (portOf s' f.hdr.port).level = (portOf s f.hdr.port).level ∧ (portOf s' f.hdr.port).nonce = none ∧
          lastAnswer s' f.hdr.port = some (139, f.hdr.tag.toNat, St.auth, []) ∧ s'.mem = s.mem ∧ s'.boot = s.boot ∧
          s'.pnl = s.pnl)) ∧
      (f.data.length = 36 → ofBE (f.data.take 1) < 1 ∨ 3 < ofBE (f.data.take 1) ∨ ofBE ((f.data.drop 1).take 3) ≠ 0 →
        ∃ s', exec (.elevate t f) s = .next s' ∧ s.sameBut [.obj, .mgt, .pins] s' ∧
        lastAnswer s' f.hdr.port = some (139, f.hdr.tag.toNat, St.range, []) ∧
        (portOf s' f.hdr.port).nonce = (portOf s f.hdr.port).nonce) ∧
      (f.data.length ≠ 36 → ∃ s', exec (.elevate t f) s = .next s' ∧ s.sameBut [.obj, .mgt, .pins] s' ∧
        lastAnswer s' f.hdr.port = some (139, f.hdr.tag.toNat, St.length, []) ∧
        (portOf s' f.hdr.port).nonce = (portOf s f.hdr.port).nonce) ∧
      (f.data.length ≠ 1 →
        (∃ s', exec (.challenge t f) s = .next s' ∧ s.sameBut [.obj, .mgt, .pins] s' ∧
          lastAnswer s' f.hdr.port = some (138, f.hdr.tag.toNat, St.length, [])) ∧
        (∃ s', exec (.drop t f) s = .next s' ∧ s.sameBut [.obj, .mgt, .pins] s' ∧
          lastAnswer s' f.hdr.port = some (140, f.hdr.tag.toNat, St.length, []))) ∧
      (∀ level, f.data = [level] →
        (level.toNat ≤ 3 → level.toNat ≤ (portOf s f.hdr.port).level →
          ∃ s', exec (.drop t f) s = .next s' ∧ (portOf s' f.hdr.port).level = level.toNat ∧
          lastAnswer s' f.hdr.port = some (140, f.hdr.tag.toNat, St.ok, []) ∧ s.sameBut [.obj, .mgt, .pins] s') ∧
        (level.toNat ≤ 3 → (portOf s f.hdr.port).level < level.toNat → ∃ s', exec (.drop t f) s = .next s' ∧
          lastAnswer s' f.hdr.port = some (140, f.hdr.tag.toNat, St.refused, []) ∧
          (portOf s' f.hdr.port).level = (portOf s f.hdr.port).level ∧ s.sameBut [.obj, .mgt, .pins] s') ∧
        (3 < level.toNat → ∃ s', exec (.drop t f) s = .next s' ∧
          lastAnswer s' f.hdr.port = some (140, f.hdr.tag.toNat, St.range, []) ∧
          (portOf s' f.hdr.port).level = (portOf s f.hdr.port).level ∧ s.sameBut [.obj, .mgt, .pins] s'))))

/-- A request in a session runs once. Where its tag holds a response under the same digest, a response that was sent is
sent once more and one that waits still waits; a request under another digest is answered TAG-CONFLICT. A stale frame
is counted, and a full port answers QUEUE-FULL. In each of these cases nothing but the port and the counters changes,
whatever is asked for. -/
def Obligations.RequestsRunOnce : Prop :=
  ∀ (t op : Nat) (f : Frame) (c : Instr) (s : State),
    (op, c) ∈ [(2, Instr.close t f), (3, .read t f), (4, .write t f), (5, .segInit t f), (6, .segData t f), (7, .segRead t f),
      (8, .segEnd t f), (9, .segAbort t f), (10, .challenge t f), (11, .elevate t f), (12, .drop t f)] →
    (portServes (s.at t) f.hdr.port = false ∨ portMax f.hdr.port < f.data.length → exec c s = .next (s.at t)) ∧
    (portServes (s.at t) f.hdr.port = true → f.data.length ≤ portMax f.hdr.port →
    ((portOf s f.hdr.port).active = false ∨ f.hdr.gen.toNat ≠ (portOf s f.hdr.port).gen ∨ f.hdr.gen = 0 →
      ∃ s', exec c s = .next s' ∧ s.sameBut [.obj] s' ∧
        oget s' (Ob.WNP_STALE + portNo f.hdr.port) = satInc 0xFFFFFFFF (oget s (Ob.WNP_STALE + portNo f.hdr.port))) ∧
    ((portOf s f.hdr.port).active = true → f.hdr.gen.toNat = (portOf s f.hdr.port).gen → f.hdr.gen ≠ 0 →
      ((portOf s f.hdr.port).cache.find? (fun e => decide (e.tag = f.hdr.tag.toNat) && e.live (s.at t).now) = none →
        64 ≤ outstanding (portOf s f.hdr.port) → ∃ s', exec c s = .next s' ∧ s.sameBut [.obj, .mgt, .pins] s' ∧
        lastAnswer s' f.hdr.port = some (128 + op, f.hdr.tag.toNat, St.queueFull, []) ∧
        (portOf s' f.hdr.port).cache = (portOf s f.hdr.port).cache ∧
        oget s' Ob.WNP_QFULL = satInc 0xFFFFFFFF (oget s Ob.WNP_QFULL)) ∧
      (∀ e : CacheEntry, (portOf s f.hdr.port).cache.find? (fun e =>
          decide (e.tag = f.hdr.tag.toNat) && e.live (s.at t).now) = some e →
        ∃ s', exec c s = .next s' ∧ s.sameBut [.obj, .mgt, .pins] s' ∧
        (portOf s' f.hdr.port).level = (portOf s f.hdr.port).level ∧
        (portOf s' f.hdr.port).transfer = (portOf s f.hdr.port).transfer ∧
        (portOf s' f.hdr.port).cache = (portOf s f.hdr.port).cache ∧
        (e.digest = digestOf op f.index.toNat f.sub.toNat f.data → e.sent = none → s' = s.at t) ∧
        (e.digest = digestOf op f.index.toNat f.sub.toNat f.data → e.sent ≠ none →
          (portOf s' f.hdr.port).queue =
            (portOf s f.hdr.port).queue ++ [{ e.resp with outst := true, queued := (s.at t).now }] ∧
          oget s' Ob.WNP_CACHEHIT = satInc 0xFFFFFFFF (oget s Ob.WNP_CACHEHIT)) ∧
        (e.digest ≠ digestOf op f.index.toNat f.sub.toNat f.data →
          lastAnswer s' f.hdr.port = some (128 + op, f.hdr.tag.toNat, St.tagConflict,
            toBE 4 (digestOf op f.index.toNat f.sub.toNat f.data))))))

/-! ## Transfers, ports, timers -/

/-- A SEG_INIT that passes its checks opens the port's transfer with nothing moved and answers its size and the largest
segment; below the level of its object it opens a transfer of nothing and is counted as a violation; where a check
fails it answers the status of the check and opens none. A SEG_DATA in order is staged, or goes into the ledger's map;
one out of order is answered SEG-ORDER with the offset expected, one of a wrong size SEG-SIZE, and one without a
download SEG-NONE. -/
def Obligations.TransfersOpenAndFill : Prop :=
  ∀ (t k : Nat) (f : Frame) (s : State), k = key f.index.toNat f.sub.toNat →
    taken (s.at t) f.hdr f.data.length = true →
    (∀ size, f.data = 0#8 :: 0#8 :: 0#8 :: 0#8 :: toBE 4 size → size < 2 ^ 32 →
      (segGate (s.at t) f.hdr.port k false = .pass → (portOf s f.hdr.port).transfer = none →
        inTransfer s f.index.toNat f.sub.toNat = false →
        (sizeOk k size = true → downloadMay (s.at t) k = St.ok → f.index ≠ 0x4040 →
          ∃ s', exec (.segInit t f) s = .next s' ∧ (portOf s' f.hdr.port).transfer =
            some (.mk f.index.toNat f.sub.toNat false size 0 [] false 0xFFFFFFFF false (max s.now t)) ∧
          lastAnswer s' f.hdr.port = some (133, f.hdr.tag.toNat, St.ok, toBE 4 size ++ toBE 2 (maxSeg f.hdr.port)) ∧
          s.sameBut [.obj, .mgt, .pins] s') ∧
        (downloadMay (s.at t) k = St.ok → f.index = 0x4040 → ∃ s', exec (.segInit t f) s = .next s' ∧
          plateOf s' (k - Ob.SCAN_PLATEDATA) = 1 ∧ (portOf s' f.hdr.port).transfer =
            some (.mk f.index.toNat f.sub.toNat false size 0 [] false 0xFFFFFFFF false (max s.now t)) ∧ s'.mem = s.mem) ∧
        (sizeOk k size = false → ∃ s', exec (.segInit t f) s = .next s' ∧ s.sameBut [.obj, .mgt, .pins] s' ∧
          lastAnswer s' f.hdr.port = some (133, f.hdr.tag.toNat, St.segSize, []) ∧
          (portOf s' f.hdr.port).transfer = none) ∧
        (sizeOk k size = true → downloadMay (s.at t) k ≠ St.ok → ∃ s', exec (.segInit t f) s = .next s' ∧
          lastAnswer s' f.hdr.port = some (133, f.hdr.tag.toNat, downloadMay (s.at t) k, []) ∧
          s.sameBut [.obj, .mgt, .pins] s' ∧ (portOf s' f.hdr.port).transfer = none))) ∧
    (∀ any, f.data = 1#8 :: 0#8 :: 0#8 :: 0#8 :: any → any.length = 4 → segGate (s.at t) f.hdr.port k true = .pass →
      (portOf s f.hdr.port).transfer = none → inTransfer s f.index.toNat f.sub.toNat = false →
      ∃ s', exec (.segInit t f) s = .next s' ∧ s'.mem = s.mem ∧ s'.dom = s.dom ∧ s'.scan = s.scan ∧
        (portOf s' f.hdr.port).transfer.map (fun x => (x.index, x.sub, x.upload, x.size, x.next, x.viol)) =
          some (f.index.toNat, f.sub.toNat, true, domSize s k, 0, false)) ∧
    (∀ (up : Bool) any, f.data = BitVec.ofNat 8 (b2n up) :: 0#8 :: 0#8 :: 0#8 :: any → any.length = 4 →
      (∀ st, segGate (s.at t) f.hdr.port k up = .fail st → st < 256 → ∃ s', exec (.segInit t f) s = .next s' ∧
        lastAnswer s' f.hdr.port = some (133, f.hdr.tag.toNat, st, []) ∧ s.sameBut [.obj, .mgt, .pins] s' ∧
        (portOf s' f.hdr.port).transfer = (portOf s f.hdr.port).transfer) ∧
      (segGate (s.at t) f.hdr.port k up = .pass ∨ segGate (s.at t) f.hdr.port k up = .viol →
        (portOf s f.hdr.port).transfer ≠ none ∨ inTransfer s f.index.toNat f.sub.toNat = true →
        ∃ s', exec (.segInit t f) s = .next s' ∧ s.sameBut [.obj, .mgt, .pins] s' ∧
        lastAnswer s' f.hdr.port = some (133, f.hdr.tag.toNat, St.segBusy, []) ∧
        (portOf s' f.hdr.port).transfer = (portOf s f.hdr.port).transfer) ∧
      (segGate (s.at t) f.hdr.port k up = .viol → (portOf s f.hdr.port).transfer = none →
        inTransfer s f.index.toNat f.sub.toNat = false → ∃ s', exec (.segInit t f) s = .next s' ∧
        (portOf s' f.hdr.port).transfer.map (·.viol) = some true ∧ s.sameBut [.obj, .mgt, .pins] s' ∧
        oget s' Ob.DIAG_VIOLCNT = satInc 0xFFFFFFFF (oget s Ob.DIAG_VIOLCNT))) ∧
    (∀ x bs, (portOf s f.hdr.port).transfer = some x → x.upload = false → x.index = f.index.toNat → x.sub = f.sub.toNat →
      x.next < 2 ^ 32 → f.data = toBE 4 x.next ++ bs →
      (segmentOk f.hdr.port x bs.length = true → isDirect k = false ∨ x.viol = true →
        ∃ s', exec (.segData t f) s = .next s' ∧ (portOf s' f.hdr.port).transfer =
          some { x with at_ := max s.now t, next := x.next + bs.length, crc := crc32Run x.crc bs,
                        buf := if x.viol then x.buf else x.buf ++ bs } ∧
        lastAnswer s' f.hdr.port = some (134, f.hdr.tag.toNat, St.ok, toBE 4 (x.next + bs.length)) ∧
        s.sameBut [.obj, .mgt, .pins] s') ∧
      (segmentOk f.hdr.port x bs.length = true → isDirect k = true → x.viol = false → ∃ s', exec (.segData t f) s = .next s' ∧
        (directStore k x.next bs (counted (s.at t) f.hdr)).sameBut [.obj, .mgt, .pins] s' ∧
        lastAnswer s' f.hdr.port = some (134, f.hdr.tag.toNat, St.ok, toBE 4 (x.next + bs.length)) ∧
        (portOf s' f.hdr.port).transfer.map (fun x => (x.next, x.crc)) = some (x.next + bs.length, crc32Run x.crc bs)) ∧
      (segmentOk f.hdr.port x bs.length = false → ∃ s', exec (.segData t f) s = .next s' ∧
        (portOf s' f.hdr.port).transfer = some x ∧ s.sameBut [.obj, .mgt, .pins] s' ∧
        lastAnswer s' f.hdr.port = some (134, f.hdr.tag.toNat, St.segSize, []))) ∧
    (∀ x off, (portOf s f.hdr.port).transfer = some x → x.upload = false → x.index = f.index.toNat → x.sub = f.sub.toNat →
      4 ≤ f.data.length → ofBE (f.data.take 4) = off → off ≠ x.next → ∃ s', exec (.segData t f) s = .next s' ∧
        (portOf s' f.hdr.port).transfer = some x ∧ s.sameBut [.obj, .mgt, .pins] s' ∧
        lastAnswer s' f.hdr.port = some (134, f.hdr.tag.toNat, St.segOrder, toBE 4 x.next)) ∧
    ((portOf s f.hdr.port).transfer = none → ∃ s', exec (.segData t f) s = .next s' ∧ s.sameBut [.obj, .mgt, .pins] s' ∧
      lastAnswer s' f.hdr.port = some (134, f.hdr.tag.toNat, St.segNone, []))

/-- SEG_READ answers the next bytes of a copied object, and out of order SEG-ORDER; SEG_END of an upload answers its
checksum. SEG_END of a download that is short or whose checksum fails leaves the object as it was; one whose checksum
holds answers what the object's own rule gives, a table of two copies waiting for its frame. SEG_ABORT, and 10 s
without a segment, end the transfer and are counted. Without a transfer of the object each answers SEG-NONE. -/
def Obligations.TransfersReadAndEnd : Prop :=
  ∀ (t k : Nat) (f : Frame) (s : State), k = key f.index.toNat f.sub.toNat →
    (∀ x, (portOf s f.hdr.port).transfer = some x →
      (x.at_ + 10000000000 ≤ max s.now t → ∃ s', exec (.segTimeout t f.hdr.port) s = .next s' ∧
        (portOf s' f.hdr.port).transfer = none ∧ s'.mem = s.mem ∧
        oget s' Ob.WNP_SEGABORT = satInc 0xFFFFFFFF (oget s Ob.WNP_SEGABORT)) ∧
      (max s.now t < x.at_ + 10000000000 → exec (.segTimeout t f.hdr.port) s = .next (s.at t))) ∧
    (taken (s.at t) f.hdr f.data.length = true →
      (∀ (n : Nat) (c : Instr), (n, c) ∈ [(7, Instr.segRead t f), (8, .segEnd t f), (9, .segAbort t f)] →
        transferOf s f.hdr.port f.index.toNat f.sub.toNat = none → ∃ s', exec c s = .next s' ∧
        lastAnswer s' f.hdr.port = some (128 + n, f.hdr.tag.toNat, St.segNone, []) ∧ s.sameBut [.obj, .mgt, .pins] s') ∧
      (∀ x, (portOf s f.hdr.port).transfer = some x → x.index = f.index.toNat → x.sub = f.sub.toNat →
        (∀ n, x.upload = true → x.next < 2 ^ 32 → n < 2 ^ 16 → f.data = toBE 4 x.next ++ toBE 2 n →
          (segmentOk f.hdr.port x n = true → x.viol = false → x.snap = true → n = ((x.buf.drop x.next).take n).length →
            ∃ s', exec (.segRead t f) s = .next s' ∧ s.sameBut [.obj, .mgt, .pins] s' ∧
            lastAnswer s' f.hdr.port = some (135, f.hdr.tag.toNat, St.ok, (x.buf.drop x.next).take n) ∧
            (portOf s' f.hdr.port).transfer.map (·.next) = some (x.next + n)) ∧
          (segmentOk f.hdr.port x n = true → x.viol = true → ∃ s', exec (.segRead t f) s = .next s' ∧
            s.sameBut [.obj, .mgt, .pins] s' ∧
            lastAnswer s' f.hdr.port = some (135, f.hdr.tag.toNat, St.ok, List.replicate n 0)) ∧
          (segmentOk f.hdr.port x n = false → ∃ s', exec (.segRead t f) s = .next s' ∧ s.sameBut [.obj, .mgt, .pins] s' ∧
            lastAnswer s' f.hdr.port = some (135, f.hdr.tag.toNat, St.segSize, []))) ∧
        (x.upload = true → f.data.length = 6 → ofBE (f.data.take 4) ≠ x.next → ∃ s', exec (.segRead t f) s = .next s' ∧
          s.sameBut [.obj, .mgt, .pins] s' ∧ (portOf s' f.hdr.port).transfer = some x ∧
          lastAnswer s' f.hdr.port = some (135, f.hdr.tag.toNat, St.segOrder, toBE 4 x.next)) ∧
        (x.upload = true → f.data = [] → ∃ s', exec (.segEnd t f) s = .next s' ∧ s.sameBut [.obj, .mgt, .pins] s' ∧
          (portOf s' f.hdr.port).transfer = none ∧
          lastAnswer s' f.hdr.port = some (136, f.hdr.tag.toNat, St.ok, toBE 4 (x.crc ^^^ 0xFFFFFFFF))) ∧
        (x.upload = false → f.data.length = 4 →
          (x.next ≠ x.size → ∃ s', exec (.segEnd t f) s = .next s' ∧ (portOf s' f.hdr.port).transfer = none ∧
            s'.dom = s.dom ∧ s'.mem = s.mem ∧ lastAnswer s' f.hdr.port = some (136, f.hdr.tag.toNat, St.segSize, [])) ∧
          (x.next = x.size → ofBE f.data ≠ x.crc ^^^ 0xFFFFFFFF → ∃ s', exec (.segEnd t f) s = .next s' ∧
            (portOf s' f.hdr.port).transfer = none ∧ s'.dom = s.dom ∧ s'.mem = s.mem ∧
            lastAnswer s' f.hdr.port = some (136, f.hdr.tag.toNat, St.segCrc, [])) ∧
          (x.next = x.size → ofBE f.data = x.crc ^^^ 0xFFFFFFFF → x.viol = true → ∃ s', exec (.segEnd t f) s = .next s' ∧
            (portOf s' f.hdr.port).transfer = none ∧ s.sameBut [.obj, .mgt, .pins] s' ∧
            lastAnswer s' f.hdr.port = some (136, f.hdr.tag.toNat, St.ok, [])) ∧
          (x.next = x.size → ofBE f.data = x.crc ^^^ 0xFFFFFFFF → x.viol = false →
            twoCopies k = true → oflag s Ob.SAF_SEALED = false → look s.scan.tableBusy k = none →
            ∃ s', exec (.segEnd t f) s = .next s' ∧ (portOf s' f.hdr.port).transfer = none ∧ dget s' k = x.buf ∧
            look s'.scan.tableBusy k = some 1 ∧ s'.scan.tableAct = s.scan.tableAct ∧ s'.mem = s.mem ∧
            lastAnswer s' f.hdr.port = some (136, f.hdr.tag.toNat, St.ok, [])) ∧
          (∀ c s2 st, c = counted (s.at t) f.hdr → x.next = x.size → ofBE f.data = x.crc ^^^ 0xFFFFFFFF → x.viol = false →
            applyDownload x (x.crc ^^^ 0xFFFFFFFF)
              (setPort f.hdr.port { portOf c f.hdr.port with transfer := none } c) = (s2, st) → st < 256 →
            (portOf s2 f.hdr.port).active = true → (portOf s2 f.hdr.port).gen = (portOf s f.hdr.port).gen →
            ∃ s', exec (.segEnd t f) s = .next s' ∧ lastAnswer s' f.hdr.port = some (136, f.hdr.tag.toNat, st, []) ∧
            s2.sameBut [.obj, .mgt, .pins] s')) ∧
        (f.data = [] → ∃ s', exec (.segAbort t f) s = .next s' ∧ (portOf s' f.hdr.port).transfer = none ∧ s'.mem = s.mem ∧
          oget s' Ob.WNP_SEGABORT = satInc 0xFFFFFFFF (oget s Ob.WNP_SEGABORT) ∧
          lastAnswer s' f.hdr.port = some (137, f.hdr.tag.toNat, St.ok, []))))

/-- The bytes of an SPI transaction that hold a sound frame serve exactly the request they spell; a frame that is announced
and not sound is counted and not served. A transaction without a request that clocks the oldest response out takes it
from the queue and sends it on SDO behind the prefix, and one that is too short leaves it. A port that does not serve
keeps what it has; a stalled clock discards the request announced. On the bus the oldest response leaves the CAN queue
before any EVENT frame, under this node's identifier; off the bus none leaves. A response queued for 100 ms is dropped
and counted. Bus-off stops the port and its recovery starts it again; a change of the configuration takes effect when
its 10 ms are over; other nodes' frames are counted while the port serves. -/
def Obligations.PortsCarryFrames : Prop :=
  (∀ (t : Nat) (s : State),
     (portServes (s.at t) .spi = true →
       (∀ (op : BitVec 8) (tag : BitVec 12) (gen : BitVec 4) (ix : BitVec 16) (sub any : BitVec 8) data body bytes more,
         data.length < 4096 →
         body = toBE 1 op.toNat ++ toBE 2 (16 * tag.toNat + gen.toNat) ++ toBE 2 ix.toNat ++ toBE 1 sub.toNat ++
           toBE 2 data.length ++ data →
         bytes = (0x5A#8 :: any :: toBE 2 (10 + data.length) ++ body ++ toBE 2 (crc16 body)) ++ more →
         exec (.spiTransactionEnd t bytes) s = .next (serve op.toNat { port := .spi, tag := tag, gen := gen } ix.toNat
           sub.toNat data (clockedOut bytes.length (spiClocked (max s.now t) bytes (s.at t))))) ∧
       (∀ bytes ql, 4 ≤ bytes.length → ql = ofBE ((bytes.drop 2).take 2) → ql ≠ 0 → spiFrameOk bytes ql = false →
         ∃ s', exec (.spiTransactionEnd t bytes) s = .next s' ∧ s.sameBut [.obj, .mgt, .pins] s' ∧
         oget s' Ob.WNP_SPIERR = satInc 0xFFFFFFFF (oget s Ob.WNP_SPIERR)) ∧
       (∀ r rest bytes, s.mgt.spi.queue = r :: rest → bytes.length < 4 ∨ ofBE ((bytes.drop 2).take 2) = 0 →
         (4 + respLen r ≤ bytes.length → ∃ s', exec (.spiTransactionEnd t bytes) s = .next s' ∧ s'.mgt.spi.queue = rest ∧
           s'.mgt.spiOut.take (4 + respLen r) =
             0xA5#8 :: toBE 1 (min 255 (r :: rest).length) ++ toBE 2 (respLen r) ++
               (respBytes r ++ toBE 2 (crc16 (respBytes r))) ∧
           s'.mgt.spi.level = s.mgt.spi.level ∧ s.sameBut [.obj, .mgt, .pins] s') ∧
         (bytes.length < 4 + respLen r → ∃ s', exec (.spiTransactionEnd t bytes) s = .next s' ∧
           s'.mgt.spi = s.mgt.spi ∧ s.sameBut [.mgt] s'))) ∧
     (portServes (s.at t) .spi = false → ∀ bytes, ∃ s', exec (.spiTransactionEnd t bytes) s = .next s' ∧
       s'.mgt = { s.mgt with sckAt := some (max s.now t) } ∧ s.sameBut [.mgt] s') ∧
     (∀ bytes, ∃ s', exec (.spiSckStall t bytes) s = .next s' ∧ s'.mgt.spi = s.mgt.spi ∧ s.sameBut [.obj, .mgt] s' ∧
       s'.mgt.sckAt = some (max s.now t - 4000) ∧
       (portServes (s.at t) .spi = true → 4 ≤ bytes.length → ofBE ((bytes.drop 2).take 2) ≠ 0 →
         oget s' Ob.WNP_SPIERR = satInc 0xFFFFFFFF (oget s Ob.WNP_SPIERR)))) ∧
  (∀ (t : Nat) (s : State),
     (∀ r rest, s.mgt.canBus = true → s.mgt.can.queue = r :: rest → ∃ s', exec (.canResponseTransmitted t) s = .next s' ∧
       s'.mgt.can.queue = rest ∧ s'.mgt.events = s.mgt.events ∧ s.sameBut [.mgt] s' ∧
       s'.mgt.canTx.map (·.1) = some (canGet s Ob.WNP_CANBASE + 4 * nodeAddr s + 1) ∧
       ((respBytes r).length ≤ 64 → s'.mgt.canTx.map (fun f => f.2.take (respBytes r).length) = some (respBytes r))) ∧
     (∀ e rest, s.mgt.canBus = true → s.mgt.can.queue = [] → s.mgt.events = e :: rest →
       ∃ s', exec (.canResponseTransmitted t) s = .next s' ∧ s'.mgt.events = rest ∧ s'.mgt.can = s.mgt.can ∧
       s'.mgt.canTx.map (·.1) = some (canGet s Ob.WNP_CANBASE + 4 * nodeAddr s + 2) ∧ s.sameBut [.mgt] s') ∧
     (s.mgt.canBus = false ∨ (s.mgt.can.queue = [] ∧ s.mgt.events = []) →
       exec (.canResponseTransmitted t) s = .next (s.at t)) ∧
     (∀ r rest, s.mgt.can.queue = r :: rest →
       (r.queued + 100000000 ≤ max s.now t → ∃ s', exec (.canResponseDrop t) s = .next s' ∧ s'.mgt.can.queue = rest ∧
         oget s' Ob.WNP_RSPDROP = satInc 0xFFFFFFFF (oget s Ob.WNP_RSPDROP) ∧ s.sameBut [.obj, .mgt] s') ∧
       (max s.now t < r.queued + 100000000 → exec (.canResponseDrop t) s = .next (s.at t))) ∧
     (s.mgt.canBus = true → ∃ s', exec (.canBusOff t) s = .next s' ∧ s'.mgt = { s.mgt with canBus := false } ∧
       oget s' Ob.WNP_BUSOFF = satInc 0xFFFFFFFF (oget s Ob.WNP_BUSOFF) ∧ s.sameBut [.obj, .mgt] s') ∧
     (s.mgt.canBus = false → exec (.canBusOff t) s = .next (s.at t)) ∧
     (exec (.canBusOffRecovery t) s = .next { s.at t with mgt := { s.mgt with canBus := true } }) ∧
     (∀ due, s.mgt.canDue = some due →
       (due ≤ max s.now t → exec (.canConfigApply t) s = .next { s.at t with mgt := { s.mgt with
         canDue := none, canCfg := within s.obj Ob.WNP_CANEN (Ob.WNP_CANEN + 8) } }) ∧
       (max s.now t < due → exec (.canConfigApply t) s = .next (s.at t))) ∧
     (portServes (s.at t) .can = true → ∃ s', exec (.canFrameIgnored t) s = .next s' ∧
       oget s' Ob.WNP_CANIGN = satInc 0xFFFFFFFF (oget s Ob.WNP_CANIGN) ∧ s.sameBut [.obj] s') ∧
     (portServes (s.at t) .can = false → exec (.canFrameIgnored t) s = .next (s.at t)))

/-- A cache entry goes at its expiry, once 2 s have passed since it was sent; the end of a lockout lets CHALLENGE in again;
a session idle for ACC_IDLE seconds falls to Viewer level, and not before. A write of WNP_EVTPEND clears the pending
events it names; a write of DEV_EVCLR other than 0 leaves the log with its own entry. In SETUP a loaded patch becomes
active at the next start, or is discarded; with none loaded activation is refused, and outside SETUP neither is done.
-/
def Obligations.TimersEventsAndPatches : Prop :=
  ∀ (t : Nat) (p : Port) (h : Hdr) (s : State),
    (∀ tag : BitVec 12, ∃ s', exec (.cacheEntryExpiry t p tag) s = .next s' ∧ (portOf s' p).cache =
      (portOf s p).cache.filter (fun e => decide (e.tag ≠ tag.toNat) || e.live (max s.now t)) ∧
      (portOf s' p).queue = (portOf s p).queue ∧ s.sameBut [.obj, .mgt, .pins] s') ∧
    (∀ u, (portOf s p).blocked = some u →
      (u ≤ max s.now t → ∃ s', exec (.lockoutExpiry t p) s = .next s' ∧ (portOf s' p).blocked = none ∧
        (portOf s' p).level = (portOf s p).level ∧ s.sameBut [.obj, .mgt, .pins] s') ∧
      (max s.now t < u → exec (.lockoutExpiry t p) s = .next (s.at t))) ∧
    ((portOf s p).active = true → oget s Ob.ACC_IDLE ≠ 0 →
      (portOf s p).lastReq + oget s Ob.ACC_IDLE * 1000000000 ≤ max s.now t →
      ∃ s', exec (.sessionIdleTimeout t p) s = .next s' ∧ (portOf s' p).level = 0 ∧ (portOf s' p).active = true ∧
      s.sameBut [.obj, .mgt, .pins] s') ∧
    ((portOf s p).active = false ∨ oget s Ob.ACC_IDLE = 0 ∨
      max s.now t < (portOf s p).lastReq + oget s Ob.ACC_IDLE * 1000000000 →
      exec (.sessionIdleTimeout t p) s = .next (s.at t)) ∧
    (∀ v : BitVec 16, writeTaken (s.at t) h Ob.WNP_EVTPEND v.toNat = true → ∃ s', exec (.wnpEvtpendWrite t h v) s = .next s' ∧
      (∀ n, n ≠ 4 → bit (oget s' Ob.WNP_EVTPEND) n = (bit (oget s Ob.WNP_EVTPEND) n && !bit v.toNat n)) ∧
      s.sameBut [.obj, .mgt, .pins] s') ∧
    (∀ v : BitVec 8, writeTaken (s.at t) h Ob.DEV_EVCLR v.toNat = true →
      (v ≠ 0 → ∃ s', exec (.devEvclr t h v) s = .next s' ∧
        s'.evlog.next = 2 ∧ s'.evlog.entries.length = 1 ∧ s'.evlog.total = satInc 0xFFFFFFFF s.evlog.total ∧
        s'.mem = s.mem ∧ s'.boot = s.boot) ∧
      (v = 0 → ∃ s', exec (.devEvclr t h v) s = .next s' ∧ s.sameBut [.obj, .mgt, .pins] s')) ∧
    (writeTaken (s.at t) h Ob.SAF_PATCH_CMD 1 = true →
      (s.boot.op = .setup → s.mgt.patchLoaded = true → ∃ s', exec (.patchActivate t h) s = .next s' ∧
        s'.mgt.patchPend = true ∧ oget s' Ob.SAF_PATCH_STAT = 2 ∧ s'.mgt.patchRun = s.mgt.patchRun ∧
        s.sameBut [.obj, .mgt, .pins] s') ∧
      (s.boot.op ≠ .setup ∨ s.mgt.patchLoaded = false → ∃ s', exec (.patchActivate t h) s = .next s' ∧
        s'.mgt.patchPend = s.mgt.patchPend ∧ s.sameBut [.obj, .mgt, .pins] s' ∧ lastAnswer s' h.port =
          some (132, h.tag.toNat, if s.boot.op ≠ .setup then St.state else St.refused, []))) ∧
    (writeTaken (s.at t) h Ob.SAF_PATCH_CMD 2 = true →
      (s.boot.op = .setup → s.mgt.patchLoaded = true → ∃ s', exec (.patchDiscard t h) s = .next s' ∧
        s'.mgt.patchLoaded = false ∧ s'.mgt.patchPend = false ∧
        s'.mgt.patchFb = none ∧ oget s' Ob.SAF_PATCH_STAT = 0 ∧ s'.mgt.patchRun = s.mgt.patchRun ∧
        s.sameBut [.obj, .mgt, .pins] s') ∧
      (s.boot.op ≠ .setup ∨ s.mgt.patchLoaded = false → ∃ s', exec (.patchDiscard t h) s = .next s' ∧
        s'.mgt.patchFb = s.mgt.patchFb ∧ s'.mgt.patchLoaded = s.mgt.patchLoaded ∧ s.sameBut [.obj, .mgt, .pins] s'))

/-! ## The wall -/

/-- A follower keeps every sound sync word as its last one; a usable word names the master and the wall's generation, and
while the follower waits for it, its epoch is the raster's. A word that fails its CRC is counted, and breaks the run
unless the reference is held. A wait of 500 ms for the first word ends at epoch 0. A master that hears another node's
word, or the third bad one of its own, is in conflict. A frame that is not sound, on a node that takes part, is counted
and nothing else. A master's roll goes out in the master's part of the frame and opens its reply window, or waits for
the next frame where this one cannot carry it. A follower answers a roll with its status in its slot. The master keeps
the node's state and generation, and while it waits to start, a node in step gives it the epoch. A bad reply is counted
against its slot, and three in a row mark the node. When the window closes, a node silent in the roll has missed one
more. -/
def Obligations.WallsSyncAndRoll : Prop :=
  (∀ (t : Nat) (s : State),
     (∀ (word : BitVec 96) (w : Sync), w = syncOf word.toNat → isFollower s = true →
       (syncOk word.toNat = true → ∃ s', exec (.syncWord t word) s = .next s' ∧ s'.boot = s.boot ∧
         s'.gyl.lastSync = some w ∧ s'.gyl.syncAt = max s.now t - oget s Ob.GYL_FSDELAY ∧ s'.gyl.gotFirst = true ∧
         (∀ p, s.gyl.lastSync = some p → p.node = w.node → w.epoch = p.epoch + 1 →
           withinHalf s (max s.now t - oget s Ob.GYL_FSDELAY - s.gyl.syncAt) 1 = true →
           oget s' Ob.GYL_MASTER = w.node ∧ oget s' Ob.GYL_GENBUS = w.gen ∧
           (s.gyl.waitSync = true → s'.gyl.waitSync = false ∧ s'.scan.epoch = w.epoch ∧ s'.scan.running = false))) ∧
       (syncOk word.toNat = false → ∃ s', exec (.syncWord t word) s = .next s' ∧ s.sameBut [.obj, .gyl] s' ∧
         s'.gyl = { s.gyl with run := if s.gyl.run < 8 then 0 else s.gyl.run } ∧
         oget s' Ob.GYL_CRCERR = satInc 0xFFFFFFFF (oget s Ob.GYL_CRCERR))) ∧
     (∀ (word : BitVec 96), isMaster s = true →
       (syncOk word.toNat = true → (syncOf word.toNat).node ≠ nodeAddr s → ∃ s', exec (.syncWord t word) s = .next s' ∧
         s'.gyl.state = 6 ∧ s'.gyl.rollOpen = false ∧ s'.gyl.prepOpen = false ∧ s'.mem = s.mem ∧ s'.boot = s.boot) ∧
       (syncOk word.toNat = true → (syncOf word.toNat).node = nodeAddr s →
         exec (.syncWord t word) s = .next { s.at t with gyl := { s.gyl with selfBad := 0 } }) ∧
       (syncOk word.toNat = false → ∃ s', exec (.syncWord t word) s = .next s' ∧ s'.gyl.selfBad = s.gyl.selfBad + 1 ∧
         s'.gyl.state = (if 3 ≤ s.gyl.selfBad + 1 then 6 else 5) ∧ s'.mem = s.mem ∧ s'.boot = s.boot)) ∧
     (oget s Ob.GYL_ROLE = 0 ∨ gylOn s = false → ∀ word, exec (.syncWord t word) s = .next (s.at t)) ∧
     (s.gyl.waitSync = true → s.gyl.waitFrom + 500000000 ≤ max s.now t → exec (.syncWaitTimeout t) s =
       .next { s.at t with gyl := { s.gyl with waitSync := false }, scan := { s.scan with epoch := 0 } }) ∧
     (s.gyl.waitSync = false ∨ max s.now t < s.gyl.waitFrom + 500000000 → exec (.syncWaitTimeout t) s = .next (s.at t)) ∧
     (∀ slot, isFollower s = true → ∃ s', exec (.gylorFrameDiscarded t slot false) s = .next s' ∧ s.sameBut [.obj] s' ∧
       oget s' Ob.GYL_CRCERR = satInc 0xFFFFFFFF (oget s Ob.GYL_CRCERR)) ∧
     (∀ (type len : Nat) (f : GylIn) (c : Instr), (type, len, c) ∈ [(1, 2, Instr.roll t f), (2, 14, .status t f),
         (3, 22, .prepare t f), (4, 10, .ready t f), (5, 10, .refuse t f), (6, 8, .commit t f), (7, 10, .abort t f),
         (8, 2, .resendReq t f), (9, 14, .vector t f), (10, 6, .snap t f)] →
       (gylOn s = true → oget s Ob.GYL_ROLE ≠ 0 → gylOk type len f = false → ∃ s', exec c s = .next s' ∧
         s.sameBut [.obj] s' ∧ oget s' Ob.GYL_CRCERR = satInc 0xFFFFFFFF (oget s Ob.GYL_CRCERR)) ∧
       (gylOn s = false ∨ oget s Ob.GYL_ROLE = 0 → exec c s = .next (s.at t)) ∧
       (gylOk type len f = true → f.header.toNat / 2 ^ 8 % 256 ≠ 255 → f.header.toNat / 2 ^ 8 % 256 ≠ nodeAddr s →
         exec c s = .next (s.at t)))) ∧
  (∀ (t : Nat) (s : State),
     (isMaster s = true →
       (windowFits (s.at t) 2 = true → ∃ s', exec (.rollTimer t) s = .next s' ∧ s.sameBut [.gyl] s' ∧
         s'.gyl = { s.gyl with
           rollOpen := true, rollGot := 0, badSlots := 0, rollDue := false
           windowEnd := masterAt (s.at t) + gylTime 2 + 644000
           tx := gylOut s (masterAt (s.at t)) 1 255 (toBE 2 s.gyl.gen) :: s.gyl.tx }) ∧
       (windowFits (s.at t) 2 = false →
         exec (.rollTimer t) s = .next { s.at t with gyl := { s.gyl with rollDue := true } })) ∧
     (isMaster s = false → exec (.rollTimer t) s = .next (s.at t)) ∧
     (∀ f, isFollower s = true → gylFor s 1 2 f → ∃ s', exec (.roll t f) s = .next s' ∧ s.sameBut [.gyl] s' ∧
       s'.gyl = { s.gyl with
         tx := gylOut s (replyAt (s.at t)) 2 (gylSrc f) (statusData (replyAt (s.at t)) (s.at t)) :: s.gyl.tx }) ∧
     (∀ f, isMaster s = true → gylFor s 2 14 f → gylSrc f < 64 →
       (s.gyl.masterWait = false → ∃ s', exec (.status t f) s = .next s' ∧
         nodeOf s' (gylSrc f) = { nodeOf s (gylSrc f) with
           state := payAt f.data 0 1 % 8, missed := 0, gen := payAt f.data 2 2, bad := 0 } ∧
         (∀ n, n ≠ gylSrc f → nodeOf s' n = nodeOf s n) ∧
         bit s'.gyl.rollGot (gylSrc f) = true ∧ s'.scan = s.scan ∧ s.sameBut [.obj, .gyl] s') ∧
       (s.gyl.masterWait = true → payAt f.data 0 1 = 2 →
         (List.range (gylSrc f)).any (fun k => bit s.gyl.rollGot k && decide ((nodeOf s k).state = 2)) = false →
         ∃ s', exec (.status t f) s = .next s' ∧ s'.scan = { s.scan with epoch := (payAt f.data 4 6 + 1) % 2 ^ 48 } ∧
         s.sameBut [.obj, .scan, .gyl] s')) ∧
     (∀ n : Fin 64, isMaster s = true → s.gyl.rollOpen = true → bit s.gyl.badSlots n.val = false →
       ∃ s', exec (.gylorFrameDiscarded t (some n) false) s = .next s' ∧ (nodeOf s' n.val).bad = (nodeOf s n.val).bad + 1 ∧
         (nodeOf s' n.val).state = (if 3 ≤ (nodeOf s n.val).bad + 1 then 5 else (nodeOf s n.val).state) ∧
         bit s'.gyl.badSlots n.val = true ∧ s'.mem = s.mem ∧ s'.boot = s.boot) ∧
     (∀ n, s.gyl.windowEnd ≤ max s.now t → s.gyl.rollOpen = true → nodeOf s n ≠ Node.absent →
       ∃ s', exec (.replyWindowClose t) s = .next s' ∧
       s'.gyl.rollOpen = false ∧ s'.gyl.masterWait = false ∧ s.sameBut [.gyl] s' ∧
       (bit s.gyl.rollGot n = true → (nodeOf s' n).missed = 0 ∧ (nodeOf s' n).state = (nodeOf s n).state) ∧
       (bit s.gyl.rollGot n = false → (nodeOf s' n).missed = min 31 ((nodeOf s n).missed + 1) ∧
         (nodeOf s' n).state = if 3 ≤ (nodeOf s' n).missed ∧ (nodeOf s n).state ≠ 5 then 0 else (nodeOf s n).state)) ∧
     (max s.now t < s.gyl.windowEnd → exec (.replyWindowClose t) s = .next (s.at t)))

/-- A master's request that passes its checks is prepared with every node in step, and one that fails a check is answered
REFUSED with the status of the check. The answers of the participants are kept; when the reply window closes with every
answer READY the change is committed, three times, and aborted when one refuses. A follower's request for the state
vector is answered. -/
def Obligations.ChangesAreMastered : Prop :=
  ∀ (t : Nat) (s : State),
    (∀ (h : Hdr) (v : BitVec 8), writeTaken (s.at t) h Ob.GYL_CMT_REQ v.toNat = true → v ≠ 0 → bit v.toNat 7 = false →
      (isMaster s = true → s.gyl.cmt = none → bit s.pwr.stopped 1 = false → s.scan.epoch + 1 < oget s Ob.GYL_CMT_EPOCH →
        s.scan.epoch + oget s Ob.GYL_LEAD ≤ oget s Ob.GYL_CMT_EPOCH →
        oget s Ob.GYL_CMT_EPOCH ≤ s.scan.epoch + oget s Ob.TRX_EPOCH_AHEAD → ∃ s', exec (.gylCmtReq t h v) s = .next s' ∧
        s'.gyl.cmt = some (.mk (oget s Ob.GYL_CMT_EPOCH) ((s.gyl.gen + 1) % 65536) (oget s Ob.GYL_CMT_KIND)
          (oget s Ob.GYL_CMT_ARG)) ∧ s'.gyl.cmtSent = false ∧ oget s' Ob.GYL_CMT_STAT = 1 ∧
        s'.gyl.cmtParts = inStepMask s ||| 2 ^ nodeAddr s ∧ s'.gyl.prepOpen = (s.gyl.prepOpen || windowFits (s.at t) 22) ∧
        s'.mem = s.mem) ∧
      (isMaster s = false → ∃ s', exec (.gylCmtReq t h v) s = .next s' ∧ oget s' Ob.GYL_CMT_STAT = 8 ∧ s'.gyl = s.gyl) ∧
      (isMaster s = true → s.gyl.cmt ≠ none ∨ bit s.pwr.stopped 1 = true → ∃ s', exec (.gylCmtReq t h v) s = .next s' ∧
        oget s' Ob.GYL_CMT_STAT = 7 ∧ s'.gyl = s.gyl) ∧
      (isMaster s = true → s.gyl.cmt = none → bit s.pwr.stopped 1 = false → oget s Ob.GYL_CMT_EPOCH ≤ s.scan.epoch + 1 →
        ∃ s', exec (.gylCmtReq t h v) s = .next s' ∧ oget s' Ob.GYL_CMT_STAT = 5 ∧ s'.gyl = s.gyl)) ∧
    (∀ f, gylFor s 4 10 f → gylOn s = true → oget s Ob.GYL_ROLE ≠ 0 →
      (cmtMatches (gylSrc f) f.data s = true → exec (.ready t f) s =
        .next { s.at t with gyl := { s.gyl with cmtReady := s.gyl.cmtReady ||| 2 ^ gylSrc f } }) ∧
      (cmtMatches (gylSrc f) f.data s = false → exec (.ready t f) s = .next (s.at t))) ∧
    (∀ f, gylFor s 5 10 f → isMaster s = true → gylSrc f < 64 →
      (cmtMatches (gylSrc f) f.data s = true → s.gyl.cmtRefused = none → ∃ s', exec (.refuse t f) s = .next s' ∧
        s'.gyl.cmtRefused = some (gylSrc f, payAt f.data 8 1) ∧ (nodeOf s' (gylSrc f)).reason = payAt f.data 8 1 ∧
        s.sameBut [.gyl] s') ∧
      (cmtMatches (gylSrc f) f.data s = false → ∃ s', exec (.refuse t f) s = .next s' ∧
        s'.gyl.cmtRefused = s.gyl.cmtRefused ∧ (nodeOf s' (gylSrc f)).reason = payAt f.data 8 1 ∧ s.sameBut [.gyl] s')) ∧
    (∀ c, s.gyl.windowEnd ≤ max s.now t → s.gyl.rollOpen = false → s.gyl.prepOpen = true → s.gyl.cmt = some c →
      s.gyl.cmtSent = false →
      (s.gyl.cmtRefused = none → s.gyl.cmtReady &&& s.gyl.cmtParts = s.gyl.cmtParts → s.scan.epoch + 1 < c.epoch →
        ∃ s', exec (.replyWindowClose t) s = .next s' ∧ s'.gyl.cmtSent = true ∧ s'.gyl.heldOk = true ∧
          oget s' Ob.GYL_CMT_STAT = 2 ∧ s'.mem = s.mem ∧
          s'.gyl.tx = [100000, 50000, 0].map (fun d =>
            gylOut s (masterAt (s.at t) + d) 6 255 (toBE 6 c.epoch ++ toBE 2 c.gen)) ++ s.gyl.tx) ∧
      (∀ n r, s.gyl.cmtRefused = some (n, r) → ∃ s', exec (.replyWindowClose t) s = .next s' ∧ s'.gyl.cmt = none ∧
        s'.gyl.held = none ∧ oget s' Ob.GYL_CMT_STAT = 4 ∧ oget s' Ob.GYL_CMT_NODE = n ∧
        oget s' Ob.GYL_CMT_REASON = r ∧ s'.mem = s.mem)) ∧
    (∀ f, gylFor s 8 2 f → isMaster s = true → ∃ s', exec (.resendReq t f) s = .next s' ∧ s.sameBut [.obj, .gyl] s' ∧
      s'.gyl.tx.drop 1 = s.gyl.tx ∧ s'.gyl.tx.head?.map (fun x => (x.at_, x.type, x.dst)) =
        some (masterAt (s.at t), 9, gylSrc f) ∧
      oget s' Ob.GYL_RESENDS = satInc 0xFFFFFFFF (oget s Ob.GYL_RESENDS))

/-- A follower that a PREPARE names decides, answers in its slot and remembers its answer, and answers a repeat the same;
another node does nothing. COMMIT confirms the change it holds, and ABORT drops it with the reason shown; without such
a change COMMIT does nothing. A follower that lags keeps the state vector sent to it, and one in step ignores it. -/
def Obligations.ChangesAreFollowed : Prop :=
  ∀ (t : Nat) (s : State), isFollower s = true →
    (∀ (f : GylIn) (c : Change), gylFor s 3 22 f →
      c = Change.mk (cmtE f.data) (cmtGen f.data) (payAt f.data 8 1) (payAt f.data 10 4) →
      (bit (payAt f.data 14 8) (nodeAddr s) = true → s.gyl.answer = none → ∀ r x, decideChange c (s.at t) = (r, x) →
        (r ≠ 0 → ∃ s', exec (.prepare t f) s = .next s' ∧ s.sameBut [.obj, .gyl] s' ∧
          oget s' Ob.GYL_CMT_REASON = r ∧ s'.gyl = { s.gyl with
            answer := some (c, r, x)
            tx := gylOut s (replyAt (s.at t)) 5 (gylSrc f) (toBE 6 c.epoch ++ toBE 2 c.gen ++ toBE 1 r ++ toBE 1 x) ::
              s.gyl.tx }) ∧
        (r = 0 → s.pwr.state = .p0 → ∃ s', exec (.prepare t f) s = .next s' ∧ s'.mem = s.mem ∧ s'.boot = s.boot ∧
          s'.gyl = { s.gyl with
            answer := some (c, 0, x), held := some c, heldOk := false
            tx := gylOut s (replyAt (s.at t)) 4 (gylSrc f) (toBE 6 c.epoch ++ toBE 2 c.gen ++
              toBE 1 (b2n (decide (s.boot.op = .safeDark))) ++ toBE 1 0) :: s.gyl.tx })) ∧
      (∀ r x, bit (payAt f.data 14 8) (nodeAddr s) = true → s.gyl.answer = some (c, r, x) →
        ∃ s', exec (.prepare t f) s = .next s' ∧ s.sameBut [.obj, .gyl] s' ∧ s'.gyl.answer = s.gyl.answer ∧
          s'.gyl.held = s.gyl.held ∧ s'.gyl.tx.drop 1 = s.gyl.tx ∧
          s'.gyl.tx.head?.map (fun x => (x.at_, x.type, x.dst)) =
            some (replyAt (s.at t), if r = 0 then 4 else 5, gylSrc f)) ∧
      (bit (payAt f.data 14 8) (nodeAddr s) = false → exec (.prepare t f) s = .next (s.at t))) ∧
    (∀ f, gylFor s 6 8 f →
      (heldMatches f.data s = true → exec (.commit t f) s = .next { s.at t with gyl := { s.gyl with heldOk := true } }) ∧
      (heldMatches f.data s = false → exec (.commit t f) s = .next (s.at t))) ∧
    (∀ f, gylFor s 7 10 f → ∃ s', exec (.abort t f) s = .next s' ∧ s.sameBut [.obj, .gyl] s' ∧
      oget s' Ob.GYL_CMT_REASON = payAt f.data 8 1 ∧ s'.gyl.answer = none ∧
      (heldMatches f.data s = true → s'.gyl.held = none ∧ s'.gyl.heldOk = false) ∧
      (heldMatches f.data s = false → s'.gyl.held = s.gyl.held ∧ s'.gyl.heldOk = s.gyl.heldOk)) ∧
    (∀ f, gylFor s 9 14 f →
      (s.gyl.state = 1 ∨ s.gyl.state = 3 ∨ s.gyl.state = 4 → ∃ s', exec (.vector t f) s = .next s' ∧ s.sameBut [.gyl] s' ∧
        s'.gyl = { s.gyl with vecPend := some (payAt f.data 0 2, firstFrame (s.at t),
          [(1, payAt f.data 3 1), (2, payAt f.data 4 1), (3, payAt f.data 6 4), (4, payAt f.data 10 4)].filter (fun e =>
            bit (payAt f.data 2 1) (e.1 - 1))) }) ∧
      (s.gyl.state ≠ 1 → s.gyl.state ≠ 3 → s.gyl.state ≠ 4 → exec (.vector t f) s = .next (s.at t)))

/-- A snapshot is armed for its epoch, or counted late. A realignment, a snapshot and a wake are asked for by writes, and
the snapshot by its period too; on another node they are refused, and a master's snapshot waits for its period. The
wake phrase is repeated until no node is awaited or its time is over. A phrase heard in full is counted, and where it
is enabled it is a wake source. The wait for a wake slot ends at its time; with the first supply present, the start-up
sequence begins. -/
def Obligations.WallsSnapAndWake : Prop :=
  ∀ (t : Nat) (s : State),
    (∀ f, isFollower s = true → gylFor s 10 6 f →
      (s.scan.epoch + 1 < payAt f.data 0 6 →
        exec (.snap t f) s = .next { s.at t with gyl := { s.gyl with snap := some (payAt f.data 0 6) } }) ∧
      (payAt f.data 0 6 ≤ s.scan.epoch + 1 → ∃ s', exec (.snap t f) s = .next s' ∧
        oget s' Ob.GYL_SNAPLATE = satInc 0xFFFFFFFF (oget s Ob.GYL_SNAPLATE) ∧ s.sameBut [.obj] s')) ∧
    (∀ (h : Hdr) (v : BitVec 8), writeTaken (s.at t) h Ob.GYL_REALIGN v.toNat = true → v ≠ 0 →
      (s.boot.op = .setup → isFollower s = true → ∃ s', exec (.gylRealign t h v) s = .next s' ∧
        s'.gyl = { s.gyl with realign := true } ∧ s.sameBut [.obj, .gyl, .mgt, .pins] s') ∧
      (s.boot.op ≠ .setup ∨ isFollower s = false → ∃ s', exec (.gylRealign t h v) s = .next s' ∧ s'.gyl = s.gyl ∧
        s.sameBut [.obj, .mgt, .pins] s')) ∧
    (∀ (h : Hdr) (v : BitVec 8), writeTaken (s.at t) h Ob.GYL_SNAPNOW v.toNat = true → v ≠ 0 →
      (isMaster s = true → bit s.pwr.stopped 1 = false → 1 < oget s Ob.GYL_LEAD →
        ∃ s', exec (.gylSnapnow t h v) s = .next s' ∧ s.sameBut [.obj, .gyl, .mgt, .pins] s' ∧
        s'.gyl = { s.gyl with
          snap := some (s.scan.epoch + oget s Ob.GYL_LEAD)
          tx := gylOut s (masterAt (s.at t)) 10 255 (toBE 6 (s.scan.epoch + oget s Ob.GYL_LEAD)) :: s.gyl.tx }) ∧
      (isMaster s = false ∨ bit s.pwr.stopped 1 = true → ∃ s', exec (.gylSnapnow t h v) s = .next s' ∧ s'.gyl = s.gyl ∧
        s.sameBut [.obj, .mgt, .pins] s')) ∧
    (isMaster s = true → bit s.pwr.stopped 1 = false → 1 < oget s Ob.GYL_LEAD → oget s Ob.GYL_SNAPPER ≠ 0 →
      s.gyl.snapFrom + oget s Ob.GYL_SNAPPER ≤ s.scan.epoch → ∃ s', exec (.snapPeriodTimer t) s = .next s' ∧
        s.sameBut [.gyl] s' ∧ s'.gyl = { s.gyl with
          snapFrom := s.scan.epoch, snap := some (s.scan.epoch + oget s Ob.GYL_LEAD)
          tx := gylOut s (masterAt (s.at t)) 10 255 (toBE 6 (s.scan.epoch + oget s Ob.GYL_LEAD)) :: s.gyl.tx }) ∧
    (isMaster s = false ∨ bit s.pwr.stopped 1 = true ∨ oget s Ob.GYL_SNAPPER = 0 ∨
      s.scan.epoch < s.gyl.snapFrom + oget s Ob.GYL_SNAPPER → exec (.snapPeriodTimer t) s = .next (s.at t)) ∧
    (∀ (h : Hdr) (v : BitVec 8), writeTaken (s.at t) h Ob.GYL_WAKENOW v.toNat = true → v ≠ 0 →
      (isMaster s = true → ∃ s', exec (.gylWakenow t h v) s = .next s' ∧
        oget s' Ob.GYL_WAKESENT = satInc 0xFFFFFFFF (oget s Ob.GYL_WAKESENT) ∧ s'.gyl.wakeRep = true ∧
        s'.gyl.wakeFrom = max s.now t ∧ s'.gyl.wakeWait = presentMask s ∧ s.sameBut [.obj, .gyl, .mgt, .pins] s') ∧
      (isMaster s = false → ∃ s', exec (.gylWakenow t h v) s = .next s' ∧ s'.gyl = s.gyl ∧
        s.sameBut [.obj, .mgt, .pins] s')) ∧
    (isMaster s = true → s.gyl.wakeRep = true →
      (s.gyl.wakeWait = 0 ∨ s.gyl.wakeFrom + 1000000 * oget s Ob.GYL_WAKEREP ≤ max s.now t →
        exec (.wakeRepeatTimer t) s = .next { s.at t with gyl := { s.gyl with wakeRep := false } }) ∧
      (s.gyl.wakeWait ≠ 0 → max s.now t < s.gyl.wakeFrom + 1000000 * oget s Ob.GYL_WAKEREP →
        ∃ s', exec (.wakeRepeatTimer t) s = .next s' ∧ s'.gyl.wakeRep = true ∧ s'.gyl.tx.drop 1 = s.gyl.tx ∧
        oget s' Ob.GYL_WAKESENT = satInc 0xFFFFFFFF (oget s Ob.GYL_WAKESENT) ∧ s.sameBut [.obj, .gyl] s')) ∧
    (∀ (phrase : BitVec 32) firstBitAt, s.boot.stage = .started → s.gyl.armed = true → s.gyl.armedAt ≤ firstBitAt →
      phrase.toNat / 2 ^ 16 = 0x55E6 → field phrase.toNat 8 8 = oget s Ob.GYL_WALLID →
      field phrase.toNat 0 8 + oget s Ob.GYL_WALLID = 255 →
      (bit (oget s Ob.PWR_WAKEEN) 1 = false → ∃ s', exec (.wakePhrase t phrase firstBitAt) s = .next s' ∧
        oget s' Ob.GYL_WAKEHEARD = satInc 0xFFFFFFFF (oget s Ob.GYL_WAKEHEARD) ∧ s.sameBut [.obj] s') ∧
      (bit (oget s Ob.PWR_WAKEEN) 1 = true → wakeNActs s = false → s.pwr.entry = .done → s.pwr.state = .p1 →
        ∃ s', exec (.wakePhrase t phrase firstBitAt) s = .next s' ∧ s'.pwr.state = .p0 ∧
        oget s' Ob.PWR_LASTWAKE = 18 ∧ s'.mem = s.mem ∧ s'.boot = s.boot)) ∧
    (∀ phrase firstBitAt, s.gyl.armed = false ∨ firstBitAt < s.gyl.armedAt →
      exec (.wakePhrase t phrase firstBitAt) s = .next (s.at t)) ∧
    (s.boot.stage = .wakeSlot →
      (s.boot.stageAt + oget s Ob.RST_STRAP_SITE * s.pwr.aonSlot * 1000000 ≤ max s.now t →
        exec (.wakeSlotExpiry t) s =
          .next { s.at t with boot := { s.boot with stage := .waitVioAb, stageAt := max s.now t } }) ∧
      (max s.now t < s.boot.stageAt + oget s Ob.RST_STRAP_SITE * s.pwr.aonSlot * 1000000 →
        exec (.wakeSlotExpiry t) s = .next (s.at t))) ∧
    (s.boot.stage = .waitVioAb → ∃ s', exec (.vioAbPresent t) s = .next s' ∧ s'.boot.stage = .waitPgood ∧
      s'.pins.pen0 = true ∧ s'.pins.pen1 = false ∧ s'.pins.pen2 = false ∧ s'.pins.vioAb = true ∧ s'.pwr.state = .p0 ∧
      s.sameBut [.boot, .pins, .pwr] s') ∧
    (s.boot.stage ≠ .waitVioAb →
      exec (.vioAbPresent t) s = .next { s.at t with pins := { s.pins with vioAb := true } })

/-! ## Sleep, VCORE and clocks -/

/-- A request of P1 or P2 in RUN, or of P3 in RUN or SETUP, begins the entry at the first step of its list, with the wake
detector armed, while no wake source stands; during an entry it is answered BUSY, and in another state STATE. A request
of P0 ends the entry as aborted by cause 6, wakes from P1 at once and begins to wake from P2; in P0 it is answered
STATE. -/
def Obligations.PowerRequestsBeginAndEnd : Prop :=
  ∀ (t : Nat) (h : Hdr) (s : State),
    (s.pwr.entry ≠ .inProgress → s.pwr.entry ≠ .waitRetry → s.pwr.state = .p0 →
      (writeTaken (s.at t) h Ob.PWR_REQ 1 = true → s.boot.op = .run →
        wakeStanding { s.at t with pwr := { s.pwr with edgeWake := false } } 1 = none →
        ∃ s', exec (.pwrReqP1 t h) s = .next s' ∧ s'.pwr.entry = .inProgress ∧ s'.pwr.target = 1 ∧
        s'.pwr.step = 4 ∧ s'.pwr.stopped = 0 ∧ s'.pwr.state = .p0 ∧ s'.gyl.armed = true ∧ s'.mem = s.mem ∧
        s'.boot = s.boot) ∧
      (writeTaken (s.at t) h Ob.PWR_REQ 2 = true → s.boot.op = .run →
        wakeStanding { s.at t with pwr := { s.pwr with edgeWake := false } } 2 = none →
        ∃ s', exec (.pwrReqP2 t h) s = .next s' ∧ s'.pwr.entry = .inProgress ∧ s'.pwr.target = 2 ∧
        s'.pwr.step = 1 ∧ s'.pwr.stopped = 0 ∧ s'.pwr.state = .p0 ∧ s'.gyl.armed = true ∧ s'.mem = s.mem ∧
        s'.boot = s.boot) ∧
      (writeTaken (s.at t) h Ob.PWR_REQ 3 = true → s.boot.op = .run ∨ s.boot.op = .setup →
        wakeStanding { s.at t with pwr := { s.pwr with edgeWake := false } } 3 = none →
        ∃ s', exec (.pwrReqP3 t h) s = .next s' ∧ s'.pwr.entry = .inProgress ∧ s'.pwr.target = 3 ∧
        s'.pwr.step = 1 ∧ s'.pwr.stopped = 0 ∧ s'.pwr.state = .p0 ∧ s'.gyl.armed = true ∧ s'.mem = s.mem ∧
        s'.boot = s.boot)) ∧
    (∀ (v : Nat) (c : Instr), (v, c) ∈ [(1, Instr.pwrReqP1 t h), (2, .pwrReqP2 t h), (3, .pwrReqP3 t h)] →
      writeTaken (s.at t) h Ob.PWR_REQ v = true →
      (s.pwr.entry = .inProgress ∨ s.pwr.entry = .waitRetry → ∃ s', exec c s = .next s' ∧
        lastAnswer s' h.port = some (132, h.tag.toNat, St.busy, []) ∧ s.sameBut [.obj, .mgt, .pins] s') ∧
      (s.pwr.entry ≠ .inProgress → s.pwr.entry ≠ .waitRetry →
        s.pwr.state ≠ .p0 ∨ (s.boot.op ≠ .run ∧ (v ≠ 3 ∨ s.boot.op ≠ .setup)) → ∃ s', exec c s = .next s' ∧
        lastAnswer s' h.port = some (132, h.tag.toNat, St.state, []) ∧ s.sameBut [.obj, .mgt, .pins] s')) ∧
    (writeTaken (s.at t) h Ob.PWR_REQ 0 = true →
      (s.pwr.entry = .inProgress ∨ s.pwr.entry = .waitRetry → ∃ s', exec (.pwrReqP0 t h) s = .next s' ∧
        s'.pwr.entry = .aborted ∧ s'.pwr.abortCause = 6 ∧ s'.pwr.abortStep = s.pwr.step ∧ s'.pwr.stopped = 0 ∧
        oget s' Ob.PWR_ABORTS = satInc 0xFFFFFFFF (oget s Ob.PWR_ABORTS) ∧ s'.mem = s.mem ∧ s'.boot = s.boot) ∧
      (s.pwr.entry ≠ .inProgress → s.pwr.entry ≠ .waitRetry →
        (s.pwr.state = .p1 → ∃ s', exec (.pwrReqP0 t h) s = .next s' ∧ s'.pwr.state = .p0 ∧
          oget s' Ob.PWR_WAKECNT = satInc 0xFFFFFFFF (oget s Ob.PWR_WAKECNT) ∧ s'.mem = s.mem ∧ s'.boot = s.boot) ∧
        (s.pwr.state = .p2 → s.pwr.waking = false → ∃ s', exec (.pwrReqP0 t h) s = .next s' ∧ s'.pwr.state = .p2 ∧
          s'.pwr.waking = true ∧ oget s' Ob.PWR_WAKECNT = satInc 0xFFFFFFFF (oget s Ob.PWR_WAKECNT) ∧
          s'.mem = s.mem ∧ s'.boot = s.boot) ∧
        (s.pwr.state = .p0 ∨ s.pwr.state = .p3 → ∃ s', exec (.pwrReqP0 t h) s = .next s' ∧
          lastAnswer s' h.port = some (132, h.tag.toNat, St.state, []) ∧ s.sameBut [.obj, .mgt, .pins] s')))

/-- A step of an entry that is accepted in time gives way to the next of its list, the rails of step 8 being down first,
and the last step reaches the state. A step that is refused, by the answer or by what its block holds, or not answered
in its time ends the entry, which is tried again after 10 ms, up to eight times; an answer beyond step 6 cannot refuse.
-/
def Obligations.HandshakesStep : Prop :=
  ∀ (t : Nat) (s : State), s.boot.stage = .started →
    (s.pwr.entry = .inProgress → stepOverdue (s.at t) 1 = false →
      (1 ≤ s.pwr.step → s.pwr.step < 17 → stepRefuses (s.at t) s.pwr.step = false → s.pwr.step ≠ 8 ∨ railsDown s = true →
        ∃ s', exec (.handshakeAnswer t .accept) s = .next s' ∧ s'.pwr.step = stepAfter s.pwr.target s.pwr.step ∧
        s'.pwr.stopped = setBit s.pwr.stopped s.pwr.step ∧ s'.pwr.entry = .inProgress ∧ s'.pwr.stepAt = max s.now t ∧
        (s.pwr.step = 3 → s'.mgt.stopped = true) ∧ (s.pwr.step = 4 → s'.pxl.fwdAsleep = true) ∧
        (s.pwr.step = 8 → s'.pins.pen3 = false) ∧ (s.pwr.step = 10 → s'.pxl.backAsleep = true) ∧
        (s.pwr.step = 12 → s'.fst.selfRef = decide (s.pwr.target ≠ 3)) ∧
        s'.mem = s.mem ∧ s'.boot = s.boot) ∧
      (s.pwr.step = 8 → railsDown s = false → exec (.handshakeAnswer t .accept) s = .next (s.at t)) ∧
      (s.pwr.step = 17 → s.pwr.target = 1 → wakeStanding (s.at t) 1 = none →
        ∃ s', exec (.handshakeAnswer t .accept) s = .next s' ∧ s'.pwr.state = .p1 ∧ s'.pwr.entry = .done ∧
        s'.mem = s.mem ∧ s'.boot = s.boot) ∧
      (s.pwr.step = 17 → s.pwr.target = 2 → wakeStanding (s.at t) 2 = none →
        ∃ s', exec (.handshakeAnswer t .accept) s = .next s' ∧ s'.pwr.state = .p2 ∧ s'.pwr.entry = .done ∧
        s'.mem = s.mem ∧ s'.boot = s.boot) ∧
      (s.pwr.step = 17 → s.pwr.target = 3 → ∃ s', exec (.handshakeAnswer t .accept) s = .next s' ∧
        s'.pwr.state = .p3 ∧ s'.pwr.entry = .done ∧ s'.pwr.p3Off = true ∧ s'.boot.stage = .asleep ∧ s'.mem = s.mem) ∧
      (∀ cause, s.pwr.step ≤ 6 → s.pwr.retries < 8 →
        ∃ s', exec (.handshakeAnswer t (.refuse cause)) s = .next s' ∧ s'.pwr.entry = .waitRetry ∧ s'.pwr.abortCause = 1 ∧
        s'.pwr.abortStep = s.pwr.step ∧ s'.pwr.stopped = 0 ∧ s'.mem = s.mem ∧ s'.boot = s.boot) ∧
      (stepRefuses (s.at t) s.pwr.step = true → s.pwr.retries < 8 → ∃ s', exec (.handshakeAnswer t .accept) s = .next s' ∧
        s'.pwr.entry = .waitRetry ∧ s'.pwr.abortCause = 1 ∧ s'.pwr.abortStep = s.pwr.step ∧ s'.mem = s.mem ∧
        s'.boot = s.boot) ∧
      (∀ cause, 6 < s.pwr.step → exec (.handshakeAnswer t (.refuse cause)) s = exec (.handshakeAnswer t .accept) s)) ∧
    (s.pwr.entry = .inProgress → stepOverdue (s.at t) 0 = true →
      (s.pwr.retries < 8 → ∃ s', exec (.handshakeTimeout t) s = .next s' ∧
        s'.pwr.entry = .waitRetry ∧ s'.pwr.abortCause = 2 ∧ s'.pwr.abortStep = s.pwr.step ∧ s'.pwr.stopped = 0 ∧
        s'.mem = s.mem ∧ s'.boot = s.boot) ∧
      (8 ≤ s.pwr.retries → ∃ s', exec (.handshakeTimeout t) s = .next s' ∧
        s'.pwr.entry = .failed ∧ s'.pwr.abortCause = 2 ∧ s'.gyl.armed = false ∧ s'.mem = s.mem ∧ s'.boot = s.boot)) ∧
    (s.pwr.entry ≠ .inProgress ∨ stepOverdue (s.at t) 0 = false → exec (.handshakeTimeout t) s = .next (s.at t)) ∧
    (s.pwr.entry ≠ .inProgress → ∀ a, exec (.handshakeAnswer t a) s = .next (s.at t)) ∧
    (s.pwr.entry = .waitRetry → s.pwr.stepAt + 10000000 ≤ max s.now t → wakeStanding (s.at t) s.pwr.target = none →
      ∃ s', exec (.sleepRetryTimer t) s = .next s' ∧ s'.pwr.entry = .inProgress ∧ s'.pwr.retries = s.pwr.retries + 1 ∧
      s'.pwr.step = stepAfter s.pwr.target 0 ∧ s'.mem = s.mem ∧ s'.boot = s.boot) ∧
    (s.pwr.entry ≠ .waitRetry ∨ max s.now t < s.pwr.stepAt + 10000000 → exec (.sleepRetryTimer t) s = .next (s.at t))

/-- In P3 the supplies fall in turn, 100 µs apart, and the die loses its state with its last supply while its pads stay
held. WAKE_N ends P1 where its level is enabled, and begins to end P3; where it is not enabled only the pin is known.
The timer of P3 wakes from it, a wake from P2 ends in P0 with DRAM awake once VCORE has its floor, and a wake whose I/O
supply stays away for 100 ms is given up under boot failure 4. Before its time each of them has no effect. -/
def Obligations.SleepsEnd : Prop :=
  ∀ (t : Nat) (s : State),
    (s.pwr.p3Off = true →
      (s.pins.pen2 = true → exec (.p3PenOffTimer t) s = .next { s.at t with
        pins := { s.pins with pen2 := false, padsCd18 := none }, pwr := { s.pwr with stepAt := max s.now t } }) ∧
      (s.pins.pen2 = false → s.pwr.stepAt + 100000 ≤ max s.now t →
        (s.pins.pen1 = true → exec (.p3PenOffTimer t) s = .next { s.at t with
          pins := { s.pins with pen1 := false }, pwr := { s.pwr with stepAt := max s.now t } }) ∧
        (s.pins.pen1 = false → ∃ s', exec (.p3PenOffTimer t) s = .next s' ∧ s'.pins.pen0 = false ∧
          s'.pins.held = s.pins.held ∧ s'.mem = [] ∧ s'.pwr.state = .p3 ∧ s'.pwr.p3Off = false ∧
          s'.jrn.nv = s.jrn.nv)) ∧
      (s.pins.pen2 = false → max s.now t < s.pwr.stepAt + 100000 → exec (.p3PenOffTimer t) s = .next (s.at t))) ∧
    (s.pwr.p3Off = false → exec (.p3PenOffTimer t) s = .next (s.at t)) ∧
    (∀ low, bit (oget s Ob.PWR_WAKEEN) 0 = false →
      exec (.wakeN t low) s = .next { s.at t with pins := { s.pins with wakeN := low } }) ∧
    (bit (oget s Ob.PWR_WAKEEN) 0 = true → oget s Ob.PWR_WAKEMODE = 0 →
      (s.boot.stage = .started → s.pwr.entry = .done → s.pwr.state = .p1 → s.pwr.p3Off = false →
        ∃ s', exec (.wakeN t true) s = .next s' ∧ s'.pwr.state = .p0 ∧ oget s' Ob.PWR_LASTWAKE = 17 ∧
        s'.pins.wakeN = true ∧ s'.mem = s.mem ∧ s'.boot = s.boot) ∧
      (s.boot.stage = .asleep → s.pwr.entry ≠ .inProgress → s.pwr.p3Off = false →
        ∃ s', exec (.wakeN t true) s = .next s' ∧ s'.boot.stage = .waitVioAb ∧ s'.boot.fromP3 = true ∧
        oget s' Ob.PWR_LASTWAKE = 49 ∧ s'.mem = s.mem)) ∧
    (s.boot.stage = .asleep → s.pwr.p3Off = false → oget s Ob.PWR_P3TIMER ≠ 0 →
      s.pwr.p3At + 950000000 * oget s Ob.PWR_P3TIMER ≤ max s.now t → ∃ s', exec (.p3TimerExpiry t) s = .next s' ∧
      (s'.boot.stage = .wakeSlot ∨ s'.boot.stage = .waitVioAb) ∧ s'.boot.fromP3 = true ∧ s'.mem = s.mem ∧
      s'.pins = s.pins) ∧
    (s.boot.stage ≠ .asleep ∨ oget s Ob.PWR_P3TIMER = 0 ∨
      max s.now t < s.pwr.p3At + 950000000 * oget s Ob.PWR_P3TIMER → exec (.p3TimerExpiry t) s = .next (s.at t)) ∧
    (s.pwr.state = .p2 → s.pwr.waking = true →
      (vcoreFloor s ≤ s.pwr.vack ∨ s.pwr.goal = none → ∃ s', exec (.p2WakeDone t) s = .next s' ∧ s'.pwr.state = .p0 ∧
        s'.pwr.waking = false ∧ s'.fst.selfRef = false ∧ s'.mem = s.mem ∧ s'.boot = s.boot ∧ s'.obj = s.obj) ∧
      (s.pwr.vack < vcoreFloor s → s.pwr.goal ≠ none → exec (.p2WakeDone t) s = .next (s.at t))) ∧
    (s.boot.stage = .waitVioAb →
      (s.boot.stageAt + 100000000 ≤ max s.now t → ∃ s', exec (.vioAbWaitTimeout t) s = .next s' ∧
        oget s' Ob.PWR_BOOTFAIL = 4 ∧ s'.pwr.edgeWake = false ∧ s'.pins.vioAb = false ∧ s'.pins.pen0 = s.pins.pen0 ∧
        s'.mem = s.mem) ∧
      (max s.now t < s.boot.stageAt + 100000000 → exec (.vioAbWaitTimeout t) s = .next (s.at t)))

/-- A PMBus attempt that is acknowledged in its 2 ms with a good status and good power puts the request in force; another,
and one that is late or not done in its time, is tried again, up to twice. A lowering that fails then is given up for
ten seconds, and a raise that fails is a device-class reaction. An alert is counted with its status; when the time
without lowering is over the steps that are wanted go on. -/
def Obligations.VcoreSteps : Prop :=
  ∀ (t : Nat) (s : State),
    (∀ r, s.pwr.pmb = some r →
      (r.at_ ≤ max s.now t → max s.now t ≤ r.at_ + 2000000 → ∀ w : BitVec 16, w.toNat &&& oget s Ob.PMB_STATMASK = 0 →
        ∃ s', exec (.pmbusAttemptDone t true w true) s = .next s' ∧
        s'.pwr.vack = r.target ∧ oget s' Ob.PMB_VACK = r.target ∧ oget s' Ob.PMB_STATUS = w.toNat ∧
        oget s' Ob.PMB_STEPS = satInc 0xFFFFFFFF (oget s Ob.PMB_STEPS) ∧ s'.mem = s.mem) ∧
      (∀ acked (w : BitVec 16) pgood, r.at_ ≤ max s.now t → r.tries < 2 →
        max s.now t ≤ r.at_ + 2000000 → acked = false ∨ w.toNat &&& oget s Ob.PMB_STATMASK ≠ 0 ∨ pgood = false →
        ∃ s', exec (.pmbusAttemptDone t acked w pgood) s = .next s' ∧
        s'.pwr = { s.pwr with pmb := some { r with tries := r.tries + 1, at_ := max s.now t } } ∧ s.sameBut [.obj, .pwr] s' ∧
        oget s' Ob.PMB_RETRY = satInc 0xFFFFFFFF (oget s Ob.PMB_RETRY)) ∧
      (∀ acked (w : BitVec 16) pgood, r.at_ + 2000000 < max s.now t → r.tries < 2 →
        ∃ s', exec (.pmbusAttemptDone t acked w pgood) s = .next s' ∧
        s'.pwr = { s.pwr with pmb := some { r with tries := r.tries + 1, at_ := max s.now t } } ∧ s.sameBut [.obj, .pwr] s') ∧
      (∀ acked w pgood, max s.now t < r.at_ → exec (.pmbusAttemptDone t acked w pgood) s = .next (s.at t)) ∧
      (max s.now t < r.at_ + 2000000 → exec (.pmbusAttemptTimeout t) s = .next (s.at t)) ∧
      (r.at_ + 2000000 ≤ max s.now t →
        (r.tries < 2 → ∃ s', exec (.pmbusAttemptTimeout t) s = .next s' ∧ s.sameBut [.obj, .pwr] s' ∧
          s'.pwr = { s.pwr with pmb := some { r with tries := r.tries + 1, at_ := max s.now t } } ∧
          oget s' Ob.PMB_RETRY = satInc 0xFFFFFFFF (oget s Ob.PMB_RETRY)) ∧
        (2 ≤ r.tries → r.raise = false → s.pwr.raiseDue = false → s.pwr.goal = none → slackShort s = false →
          ∃ s', exec (.pmbusAttemptTimeout t) s = .next s' ∧
          s'.pwr.pmb = none ∧ s'.pwr.vack = s.pwr.vack ∧ oget s' Ob.PMB_VREQ = s.pwr.vack ∧
          s'.pwr.holdoffTo = max s.now t + 10000000000 ∧ s'.boot = s.boot ∧ s'.mem = s.mem) ∧
        (2 ≤ r.tries → r.raise = true → s.boot.stage = .started → s.boot.op ≠ .boot →
          ∃ s', exec (.pmbusAttemptTimeout t) s = .next s' ∧ s'.boot.op = .safeDark ∧ s'.pwr.vack = s.pwr.vack))) ∧
    (s.pwr.pmb = none → exec (.pmbusAttemptTimeout t) s = .next (s.at t) ∧
      ∀ acked w pgood, exec (.pmbusAttemptDone t acked w pgood) s = .next (s.at t)) ∧
    (∀ w : BitVec 16, s.boot.stage = .started → ∃ s', exec (.pmbAlert t w) s = .next s' ∧
      oget s' Ob.PMB_STATUS = w.toNat ∧ oget s' Ob.PMB_ALERTS = satInc 0xFFFFFFFF (oget s Ob.PMB_ALERTS) ∧
      s.sameBut [.obj] s') ∧
    (∀ g, s.pwr.holdoffTo ≤ max s.now t → s.pwr.goal = some g → g < s.pwr.vack → s.pwr.pmb = none →
      ∃ s', exec (.pmbHoldoffExpiry t) s = .next s' ∧ oget s' Ob.PMB_VREQ = max g (s.pwr.vack - 10) ∧
      s'.pwr.pmb = some (.mk (max g (s.pwr.vack - 10)) 0 false (max (max s.now t) s.pwr.pmbFree)) ∧
      s'.pwr.vack = s.pwr.vack ∧ s.sameBut [.obj, .pwr] s') ∧
    (max s.now t < s.pwr.holdoffTo ∨ s.pwr.goal = none → exec (.pmbHoldoffExpiry t) s = .next (s.at t))

/-- A clock that is lost while it is watched is counted; a lost band clock turns the band's link off, the loss of the
raster's or the always-on clock ends in SAFE-DARK, and an interface's or a band's crossing comes back through the reset
of its peer, an interface's after 100 µs and a band's after 1 ms. VAON out of its window is a device-class failure of
SM12. A pad class is decided once, and the pads of a group are released for good. -/
def Obligations.ClocksAndPadsAreWatched : Prop :=
  ∀ (t : Nat) (s : State),
    (∀ d, monitored (s.at t) d = true → ∃ s', exec (.clockMonitorTimeout t d) s = .next s' ∧ s'.mem = s.mem ∧
      oget s' (Ob.CDC_TIMEOUT + domainSub d - 1) = satInc 0xFFFFFFFF (oget s (Ob.CDC_TIMEOUT + domainSub d - 1)) ∧
      (d = .can ∨ d = .spi ∨ d = .qspi → (crossOf s' (domainSub d)).state = .timeout ∧ s'.boot = s.boot) ∧
      (∀ b, d = .band b → (dlkOf s' b.val).state = .off ∧ (crossOf s' (domainSub d)).state = .timeout) ∧
      (d = .raster ∨ d = .aon → s.boot.op ≠ .boot → s'.boot.op = .safeDark)) ∧
    (∀ d, monitored (s.at t) d = false → exec (.clockMonitorTimeout t d) s = .next (s.at t)) ∧
    (∀ d, 0x18 ≤ domainSub d → domainSub d ≤ 0x1B →
      (resetDue (domainSub d) 100000 (s.at t) = true → ∃ s', exec (.interfaceResetTimer t d) s = .next s' ∧
        (crossOf s' (domainSub d)).state = .peerReset ∧ s.sameBut [.cross] s') ∧
      (resetDue (domainSub d) 100000 (s.at t) = false → exec (.interfaceResetTimer t d) s = .next (s.at t))) ∧
    (∀ band : Fin 4,
      (resetDue (band.val + 0x13) 1000000 (s.at t) = true →
        (s.pins.pen3 = true → ∃ s', exec (.bandPllResetTimer t band true) s = .next s' ∧
          (crossOf s' (band.val + 0x13)).state = .peerReset ∧ (dlkOf s' band.val).state = .detect ∧ s'.obj = s.obj ∧
          s'.mem = s.mem) ∧
        (∃ s', exec (.bandPllResetTimer t band false) s = .next s' ∧
          (crossOf s' (band.val + 0x13)).state = .peerReset ∧ s.sameBut [.cross] s')) ∧
      (resetDue (band.val + 0x13) 1000000 (s.at t) = false →
        ∀ relocked, exec (.bandPllResetTimer t band relocked) s = .next (s.at t))) ∧
    (∀ d,
      ((crossOf s (domainSub d)).state = .peerReset → ∃ s', exec (.peerResetClear t d) s = .next s' ∧
        (crossOf s' (domainSub d)).state = .ready ∧ s.sameBut [.cross] s') ∧
      ((crossOf s (domainSub d)).state ≠ .peerReset → exec (.peerResetClear t d) s = .next (s.at t))) ∧
    (s.boot.stage = .started → s.boot.op ≠ .boot → (mechOf s 12).active = false →
      ∃ s', exec (.vaonOutOfWindow t) s = .next s' ∧ s'.boot.op = .safeDark ∧ (adcOf s' 18).bad = true ∧
        s'.mem = s.mem) ∧
    (s.boot.stage ≠ .started → exec (.vaonOutOfWindow t) s = .next (s.at t)) ∧
    (∀ mv,
      (s.pins.padsAb18 = none → exec (.padClassDecision t true mv) s =
        .next { s.at t with pins := { s.pins with padsAb18 := some (decide (mv ≤ 2500)) } }) ∧
      (s.pins.padsCd18 = none → s.pins.pen2 = true → exec (.padClassDecision t false mv) s =
        .next { s.at t with pins := { s.pins with padsCd18 := some (decide (mv ≤ 2500)) } }) ∧
      (s.pins.padsAb18 ≠ none → exec (.padClassDecision t true mv) s = .next (s.at t))) ∧
    (∀ (h : Hdr) (v : BitVec 8) (n k : Nat),
      (n = 0 ∧ bit v.toNat 0 = true) ∨ (n = 1 ∧ bit v.toNat 0 = false ∧ bit v.toNat 1 = true) ∨ (n = 2 ∧ v = 4) →
      k = Ob.PWR_PADREL_MGT + n → writeTaken (s.at t) h k 1 = true →
      ∃ s', exec (.pwrPadrel t h v) s = .next s' ∧ oget s' k = 1 ∧ s'.pins.held = (releasePads [n] s).pins.held ∧
        s.sameBut [.obj, .pins, .mgt] s') ∧
    (∀ h : Hdr, writeTaken (s.at t) h Ob.PWR_PADREL_MGT 0 = true → ∃ s', exec (.pwrPadrel t h 0) s = .next s' ∧
      s'.pins.held = s.pins.held ∧ s.sameBut [.obj, .pins, .mgt] s')

/-! ## The journal and counters -/

/-- A record is programmed when the ring has room, under the next total; a program that fails retires the sector of the
head under fault 3; where the ring is full the record stays and a compaction is wanted, and with no device nothing is
done. A record held for ten seconds is dropped and counted under fault 7, and none before. A compaction that succeeds,
with no poison in DRAM, makes the next generation of the snapshot and empties the ring of what stood before its fold
point; one that fails is tried again under fault 3, and the snapshot stays. Without one, or while a commit of the
calibration or bank 2 away holds it, nothing is done. -/
def Obligations.RecordsAndSnapshotsAreKept : Prop :=
  (∀ (t : Nat) (r : JRec) (rest : List JRec) (s : State), s.jrn.buf = r :: rest →
     (s.jrn.present = true → hasBuffer s = true → crossUp (s.at t) 0x1B = true →
       (ringFull s (recSize r) = false →
         (∃ s', exec (.journalRecordWrite t true) s = .next s' ∧ s'.jrn.buf = rest ∧ s'.jrn.head = recHeader r ∧
           s'.jrn.total = s.jrn.total + recSize r ∧ s'.mem = s.mem ∧ s'.boot = s.boot) ∧
         (∃ s', exec (.journalRecordWrite t false) s = .next s' ∧ s'.jrn.retired = headSector s :: s.jrn.retired ∧
           oget s' Ob.JRN_FAULT = 3 ∧ s'.jrn.buf.take 1 = [r] ∧ s'.mem = s.mem ∧ s'.boot = s.boot)) ∧
       (ringFull s (recSize r) = true → ∀ ok, ∃ s', exec (.journalRecordWrite t ok) s = .next s' ∧ s'.jrn.buf = s.jrn.buf ∧
         (s'.jrn.compact = true ∨ s'.jrn.again = true) ∧ s.sameBut [.jrn] s')) ∧
     (s.jrn.present = false → ∀ ok, exec (.journalRecordWrite t ok) s = .next (s.at t)) ∧
     (r.at_ + 10000000000 ≤ max s.now t → ∃ s', exec (.ringHoldDrop t) s = .next s' ∧ oget s' Ob.JRN_FAULT = 7 ∧
       oget s' Ob.JRN_DROPPED = satInc 0xFFFFFFFF (oget s Ob.JRN_DROPPED) ∧
       s'.jrn.buf.take rest.length = rest ∧ s'.jrn.nv = s.jrn.nv ∧ s'.mem = s.mem) ∧
     (max s.now t < r.at_ + 10000000000 → exec (.ringHoldDrop t) s = .next (s.at t))) ∧
  (∀ (t : Nat) (s : State),
     (s.jrn.compact = true → s.jrn.commitCal = false → bankAway s 2 = false →
       (s.jrn.again = false → s.poison = [] → ∃ s', exec (.compactionDone t true) s = .next s' ∧ s'.jrn.compact = false ∧
         s'.jrn.used = s.jrn.since ∧ s'.jrn.nv.gen = (s.jrn.nv.gen + 1) % 2 ^ 32 ∧
         oget s' Ob.JRN_GEN = (s.jrn.nv.gen + 1) % 2 ^ 32 ∧ s'.mem = s.mem ∧ s'.boot = s.boot) ∧
       (∃ s', exec (.compactionDone t false) s = .next s' ∧ s'.jrn.compact = true ∧ s'.jrn.nv = s.jrn.nv ∧
         oget s' Ob.JRN_FAULT = 3 ∧ s'.mem = s.mem ∧ s'.boot = s.boot)) ∧
     (s.jrn.compact = false ∨ s.jrn.commitCal = true ∨ bankAway s 2 = true →
       ∀ ok, exec (.compactionDone t ok) s = .next (s.at t)))

/-- The commands of JRN_CMD. A compaction begins; in SETUP a format empties the ring and the snapshot, as far as the
factory partition is open, the lock keeps the as-built record, once, and the as-built record is restored and made the
snapshot. A command but the first outside SETUP is answered STATE, one that codes BUSY while bank 2 is away, and
without a device REFUSED; none of these does anything. A piece of the ledger that is due, with no poison in DRAM, joins
the records where it fits its bound, and the next piece is due; a dose record is made at each hour of uptime and
empties the doses of their whole units; the maps are restored once. Before their time the pieces and the doses wait. -/
def Obligations.JournalKeepsItsContent : Prop :=
  (∀ (t : Nat) (h : Hdr) (s : State),
     (s.jrn.present = true →
       (writeTaken (s.at t) h Ob.JRN_CMD 1 = true → bankAway s 2 = false → ∃ s', exec (.jrnCmdCompact t h) s = .next s' ∧
         s'.jrn.compact = true ∧ (s.jrn.compact = true → s'.jrn.again = true) ∧ s'.jrn.nv = s.jrn.nv ∧ s'.mem = s.mem) ∧
       (s.boot.op = .setup →
         (writeTaken (s.at t) h Ob.JRN_CMD 2 = true → ∃ s', exec (.jrnCmdFormat t h) s = .next s' ∧
           s'.jrn.nv = { Nv.blank with
             asBuilt := if oflag s Ob.JRN_FACTLOCK then s.jrn.nv.asBuilt else none
             asGrids := if oflag s Ob.JRN_FACTLOCK then s.jrn.nv.asGrids else [] } ∧
           s'.jrn.used = 0 ∧ s'.jrn.retired = [] ∧ oget s' Ob.JRN_GEN = 0 ∧ s'.mem = s.mem) ∧
         (writeTaken (s.at t) h Ob.JRN_CMD 3 = true →
           (oflag s Ob.JRN_FACTLOCK = false → ∃ s', exec (.jrnCmdLock t h) s = .next s' ∧
             oflag s' Ob.JRN_FACTLOCK = true ∧ s'.jrn.nv.asBuilt = some (demuraImage s, defectImage s) ∧ s'.mem = s.mem) ∧
           (oflag s Ob.JRN_FACTLOCK = true → ∃ s', exec (.jrnCmdLock t h) s = .next s' ∧ s'.jrn = s.jrn ∧
             lastAnswer s' h.port = some (132, h.tag.toNat, St.refused, []))) ∧
         (writeTaken (s.at t) h Ob.JRN_CMD 4 = true → bankAway s 2 = false →
           (s.jrn.nv.asBuilt ≠ none → ∃ s', exec (.jrnCmdAsbuilt t h) s = .next s' ∧ s'.jrn.persist = true ∧
             s'.boot = s.boot ∧ s'.jrn.nv = s.jrn.nv ∧ (s.jrn.compact = false → s'.jrn.compact = true)) ∧
           (s.jrn.nv.asBuilt = none → ∃ s', exec (.jrnCmdAsbuilt t h) s = .next s' ∧ s'.jrn = s.jrn ∧ s'.mem = s.mem ∧
             lastAnswer s' h.port = some (132, h.tag.toNat, St.refused, []))))) ∧
     (∀ (n : Nat) (c : Instr), (n, c) ∈ [(1, Instr.jrnCmdCompact t h), (2, .jrnCmdFormat t h), (3, .jrnCmdLock t h),
         (4, .jrnCmdAsbuilt t h)] → writeTaken (s.at t) h Ob.JRN_CMD n = true →
       (n ≠ 1 → s.boot.op ≠ .setup → ∃ s', exec c s = .next s' ∧ s.sameBut [.obj, .mgt, .pins] s' ∧
         lastAnswer s' h.port = some (132, h.tag.toNat, St.state, [])) ∧
       (n = 1 ∨ (n = 4 ∧ s.boot.op = .setup) → bankAway s 2 = true → ∃ s', exec c s = .next s' ∧
         s.sameBut [.obj, .mgt, .pins] s' ∧ lastAnswer s' h.port = some (132, h.tag.toNat, St.busy, [])) ∧
       (n = 1 ∨ s.boot.op = .setup → bankAway s 2 = false → s.jrn.present = false → ∃ s', exec c s = .next s' ∧
         s.sameBut [.obj, .mgt, .pins] s' ∧ lastAnswer s' h.port = some (132, h.tag.toNat, St.refused, [])))) ∧
  (∀ (t : Nat) (s : State),
     (codes s = true → s.jrn.mapsDone = true → pieceDue (s.at t) = true → s.poison = [] →
       ringFull s (2 * pieceCoded s (oget s Ob.JRN_LEDPIECE)) = false →
       ∃ s', exec (.ledgerPieceTimer t) s = .next s' ∧ s'.mem = s.mem ∧ s'.jrn.nv = s.jrn.nv ∧
         oget s' Ob.JRN_LEDPIECE = (if pieceCount s ≤ oget s Ob.JRN_LEDPIECE + 1 then 0 else oget s Ob.JRN_LEDPIECE + 1) ∧
         s'.jrn.ledAt = max s.now t ∧ s'.jrn.buf.length = s.jrn.buf.length + 1 ∧
         (pieceCoded s (oget s Ob.JRN_LEDPIECE) * 8 ≤ 128 * ceilDiv (lineSubs s) 16 * 9 →
           s'.jrn.buf.getLast?.map (fun r => (r.type, r.key, r.value)) =
             some (8, oget s Ob.JRN_LEDPIECE, pieceCoded s (oget s Ob.JRN_LEDPIECE)))) ∧
     (codes s = false ∨ pieceDue (s.at t) = false ∨ s.jrn.mapsDone = false →
       exec (.ledgerPieceTimer t) s = .next (s.at t)) ∧
     (codes s = true → max s.jrn.doseAt s.boot.upSince + 3600000000000 ≤ max s.now t →
       ∃ s', exec (.doseHourlyTimer t) s = .next s' ∧ s'.jrn.buf.length = s.jrn.buf.length + 1 ∧
       s'.jrn.buf.getLast?.map (fun r => (r.type, r.data)) =
         some (7, (doseUnits s).flatMap (fun e => toBE 4 e.1 ++ toBE 4 e.2)) ∧
       s'.wear.dose = (s.wear.dose.map (fun e => (e.1, e.2 % 2 ^ 40))).filter (fun e => decide (e.2 ≠ 0)) ∧
       s'.jrn.doseAt = max s.now t ∧ s'.mem = s.mem) ∧
     (codes s = false ∨ max s.now t < max s.jrn.doseAt s.boot.upSince + 3600000000000 →
       exec (.doseHourlyTimer t) s = .next (s.at t)) ∧
     (∀ bad pieces, s.boot.stage = .started → s.boot.op ≠ .boot → s.jrn.mapsDone = false →
       s.jrn.present = true ∨ s.jrn.redo ≠ [] →
       ∃ s', exec (.mapRestoreDone t bad pieces) s = .next s' ∧ s'.jrn.mapsDone = true ∧ s'.jrn.redo = [] ∧
         s'.boot = s.boot ∧ s'.scan = s.scan) ∧
     (∀ bad pieces, s.boot.stage ≠ .started ∨ s.boot.op = .boot ∨ s.jrn.mapsDone = true →
       exec (.mapRestoreDone t bad pieces) s = .next (s.at t)))

/-- A snapshot of telemetry is asked for by the value 1; a counter that is given a source starts at zero, and EVC_CLEAR
clears the counters it names. No other object changes. -/
def Obligations.CountersFollowTheirWrites : Prop :=
  ∀ (t : Nat) (h : Hdr) (s : State),
    (∀ v : BitVec 8, writeTaken (s.at t) h Ob.TLM_SNAPCMD v.toNat = true →
      ∃ s', exec (.tlmSnapcmd t h v) s = .next s' ∧
        oget s' Ob.TLM_SNAPCMD = (if v = 1 then 1 else oget s Ob.TLM_SNAPCMD) ∧ s.sameBut [.obj, .mgt, .pins] s' ∧
        ∀ k, (k < Ob.EVC_VAL ∨ Ob.EVC_VAL + 32 ≤ k) → k ≠ Ob.TLM_SNAPCMD → k ≠ Ob.WNP_EVTPEND → oget s' k = oget s k) ∧
    (∀ (counter : Fin 32) (v : BitVec 8), writeTaken (s.at t) h (Ob.EVC_SEL + counter.val) v.toNat = true →
      ∃ s', exec (.evcSelWrite t h counter v) s = .next s' ∧ oget s' (Ob.EVC_SEL + counter.val) = v.toNat ∧
        oget s' (Ob.EVC_VAL + counter.val) = 0 ∧ s.sameBut [.obj, .mgt, .pins] s' ∧
        ∀ k, (k < Ob.EVC_VAL ∨ Ob.EVC_VAL + 32 ≤ k) → k ≠ Ob.EVC_SEL + counter.val → k ≠ Ob.WNP_EVTPEND → oget s' k = oget s k) ∧
    (∀ v : BitVec 32, writeTaken (s.at t) h Ob.EVC_CLEAR v.toNat = true →
      ∃ s', exec (.evcClear t h v) s = .next s' ∧ (∀ n < 32, bit v.toNat n = true → oget s' (Ob.EVC_VAL + n) = 0) ∧
        s.sameBut [.obj, .mgt, .pins] s' ∧
        ∀ k, (k < Ob.EVC_VAL ∨ Ob.EVC_VAL + 32 ≤ k) → k ≠ Ob.WNP_EVTPEND → oget s' k = oget s k)

/-! ## Rules stated word for word -/

/-- R107: when TRX_GRP_TIMEOUT has passed since its GROUP_BEGIN, an OPEN group is aborted with the reason GROUP-TIMEOUT and
its group NAK is sent at once; an ABORTED group receives the NAK it was waiting for; both are ended. Before that, and
in any other state, the timer has no effect. -/
def Obligations.GroupsTimeOut : Prop :=
  ∀ (t : Nat) (g : BitVec 6) (s : State),
    ((groupOf s g.toNat).begun + 1000000 * oget s Ob.TRX_GRP_TIMEOUT ≤ max s.now t →
      ((groupOf s g.toNat).state = .opened → ∃ s', exec (.groupTimeout t g) s = .next s' ∧
        groupOf s' g.toNat = { Group.none with gen := (groupOf s g.toNat).gen } ∧ s'.mem = s.mem ∧
        s'.trx.back.getLast? = some (.mk .nak 1 (groupOf s g.toNat).gen 0 g.toNat 0 (nakWord 0x22 0 0) 0 [])) ∧
      ((groupOf s g.toNat).state = .aborted → ∃ s', exec (.groupTimeout t g) s = .next s' ∧
        groupOf s' g.toNat = { Group.none with gen := (groupOf s g.toNat).gen } ∧ s'.mem = s.mem ∧
        s'.trx.back = s.trx.back ++ [.mk .nak 1 (groupOf s g.toNat).gen 0 g.toNat 0
          (nakWord (groupOf s g.toNat).reason 0 (groupOf s g.toNat).detail) 0 []]) ∧
      ((groupOf s g.toNat).state ≠ .opened → (groupOf s g.toNat).state ≠ .aborted →
        exec (.groupTimeout t g) s = .next (s.at t))) ∧
    (max s.now t < (groupOf s g.toNat).begun + 1000000 * oget s Ob.TRX_GRP_TIMEOUT →
      exec (.groupTimeout t g) s = .next (s.at t))

/-- R395: a READ of word 0 of a driver in DLK_REPWIN latches the driver's newest record for the port that reads, and
answers its first word; words 1 and 2 are read from that latch, which stays. No latch holds anything but zeros before.
-/
def Obligations.RecordWordsAreLatched : Prop :=
  (∀ p : Port, (portOf State.reset p).repLatch = []) ∧ (∀ k, recWord 0 k = 0) ∧
  ∀ (t e : Nat) (f : Frame) (s : State), f.data = [] → taken (s.at t) f.hdr 0 = true →
    rowAt f.index.toNat f.sub.toNat = none → winAt f.index.toNat f.sub.toNat = some (0x7200, e) → e ≠ 0 →
    ((e - 1) % 3 = 0 → ∃ s', exec (.read t f) s = .next s' ∧
      get (fun _ => 0) (portOf s' f.hdr.port).repLatch ((e - 1) / 3) = lastRec s ((e - 1) / 3) ∧
      (∀ d, d ≠ (e - 1) / 3 → get (fun _ => 0) (portOf s' f.hdr.port).repLatch d =
        get (fun _ => 0) (portOf s f.hdr.port).repLatch d) ∧
      lastAnswer s' f.hdr.port = some (131, f.hdr.tag.toNat, St.ok, toBE 8 (recWord (lastRec s ((e - 1) / 3)) 0)) ∧
      s.sameBut [.obj, .mgt, .pins] s') ∧
    ((e - 1) % 3 ≠ 0 → ∃ s', exec (.read t f) s = .next s' ∧
      (portOf s' f.hdr.port).repLatch = (portOf s f.hdr.port).repLatch ∧
      lastAnswer s' f.hdr.port = some (131, f.hdr.tag.toNat, St.ok,
        toBE 8 (recWord (get (fun _ => 0) (portOf s f.hdr.port).repLatch ((e - 1) / 3)) ((e - 1) % 3))) ∧
      s.sameBut [.obj, .mgt, .pins] s')

/-- R304: while SAF_SEALED is 0 and an active region, or FRS_DEFCLASS, is not Plain, a controller in SETUP does not go to
RUN: the write that asks for it is answered REFUSED, and a wall's change that asks for it is refused. -/
def Obligations.UnsealedRunsPlain : Prop :=
  ∀ (t : Nat) (h : Hdr) (s : State), s.boot.op = .setup → oflag s Ob.SAF_SEALED = false →
    (oget s Ob.FRS_DEFCLASS ≠ 0 ∨ ∃ e ∈ s.scan.regAct, bit e.2 63 = true ∧ field e.2 61 2 ≠ 0) →
    (∃ s', exec (.devStateRun t h) s = .next s' ∧ s'.boot.op = .setup ∧
      (writeTaken (s.at t) h Ob.DEV_STATE 2 = true → s.pwr.state = .p0 → stateHeld s = false →
        lastAnswer s' h.port = some (132, h.tag.toNat, St.refused, []))) ∧
    (∀ c : Change, c.kind = 1 → c.arg = 2 → (decideChange c s).1 ≠ 0)

/-! ## The whole machine -/

/-- A step takes the command at the front of the queue and runs it on the state with the queue's rest; on an empty queue
the model's own tick passes, and nothing but the time changes (log entry 1). -/
def Obligations.StepRunsTheFrontCommand : Prop :=
  (∀ (c : Instr) (q : List Instr) (s : State), s.pending = c :: q → step s = exec c { s with pending := q }) ∧
  (∀ s : State, s.pending = [] → step s = .next { s with now := s.now + 2 })

/-- The state after reset is safe: no rail of a band has both its switches on, and DRAM lists nothing. No command waits,
and nothing has started. -/
def Obligations.ResetIsSafe : Prop :=
  State.reset.safe_ = true ∧ State.reset.mem = [] ∧ State.reset.pending = [] ∧ State.reset.pwr.state = .p0 ∧
  State.reset.boot.op = .boot ∧ State.reset.scan.epoch = 0 ∧ ∀ b, (padsOf State.reset b).pven = false

/-- Every step, whatever the command, keeps every band's PVEN and PDIS from being high together, and keeps DRAM in its
canonical form. -/
def Obligations.StepKeepsSafe : Prop :=
  ∀ s s' : State, s.safe_ = true → step s = .next s' → s'.safe_ = true

/-- The frame of every command: it changes no part of the state but those of its row of `footprint`, it leaves the queue of
commands alone, and time does not go back. -/
def Obligations.CommandsChangeOnlyTheirParts : Prop :=
  ∀ (c : Instr) (s s' : State), exec c s = .next s' →
    s.sameBut (footprint c) s' ∧ s'.pending = s.pending ∧ s.now ≤ s'.now

/-- Every command completes in every state, but the rewrite of a word that lies outside DRAM: that one alone stops, with
the fault that names it. -/
def Obligations.CommandsComplete : Prop :=
  (∀ (c : Instr) (s : State), (∀ t w v, c = .mapWordRewrite t w v → 8 * w < dramTop) → completes (exec c s) = true) ∧
  (∀ (t w : Nat) (v : BitVec 64) (s : State), dramTop ≤ 8 * w → exec (.mapWordRewrite t w v) s = .fault .outsideDram)
end

