-- ==== Sys2Proof/Laws/Store.lean ====
section
/-!
SUPPORT. The laws of the sorted stores: what a read gives after a write, and that every operation keeps the canonical
form.
-/

namespace Sys2Proof.Machine

/-! ## Reads after writes -/

@[simp] theorem look_ins_same {α : Type} (m : SMap α) (k : Nat) (v : α) : look (ins m k v) k = some v := by
  induction m with
  | nil => simp [ins, look]
  | cons e r ih =>
    obtain ⟨j, u⟩ := e
    unfold ins
    split
    · simp [look]
    · split
      · simp [look]
      · next _ hk => simp [look, ih, Ne.symm hk]

theorem look_ins_ne {α : Type} (m : SMap α) {k j : Nat} (v : α) (h : j ≠ k) : look (ins m k v) j = look m j := by
  induction m with
  | nil => simp [ins, look, Ne.symm h]
  | cons e r ih =>
    obtain ⟨i, u⟩ := e
    unfold ins
    split
    · simp [look, Ne.symm h]
    · split
      · next h2 => subst h2; simp [look, Ne.symm h]
      · simp [look, ih]

@[simp] theorem look_del_same {α : Type} (m : SMap α) (k : Nat) : look (del m k) k = none := by
  induction m with
  | nil => simp [del, look]
  | cons e r ih =>
    obtain ⟨j, u⟩ := e
    unfold del
    split
    · exact ih
    · simp [look, *]

theorem look_del_ne {α : Type} (m : SMap α) {k j : Nat} (h : j ≠ k) : look (del m k) j = look m j := by
  induction m with
  | nil => simp [del]
  | cons e r ih =>
    obtain ⟨i, u⟩ := e
    unfold del
    split
    · next h2 => subst h2; simp [look, Ne.symm h, ih]
    · simp [look, ih]

@[simp] theorem get_nil {α : Type} (d : Nat → α) (k : Nat) : get d [] k = d k := rfl

@[simp] theorem get_put_same {α : Type} [DecidableEq α] (d : Nat → α) (m : SMap α) (k : Nat) (v : α) :
    get d (put d m k v) k = v := by
  unfold get put
  split
  · next h => simp [h]
  · simp

theorem get_put_ne {α : Type} [DecidableEq α] (d : Nat → α) (m : SMap α) {k j : Nat} (v : α) (h : j ≠ k) :
    get d (put d m k v) j = get d m j := by
  unfold get put
  split
  · rw [look_del_ne m h]
  · rw [look_ins_ne m v h]

/-! ## The canonical form -/

/-- Every key of the store is above `p`, when one is given. -/
def aboveAll {α : Type} (p : Option Nat) (m : SMap α) : Prop := ∀ q, p = some q → ∀ e ∈ m, q < e.1

theorem risingFrom_iff {α : Type} (p : Option Nat) (m : SMap α) :
    risingFrom p m = true ↔ aboveAll p m ∧ m.Pairwise (fun a b => a.1 < b.1) := by
  induction m generalizing p with
  | nil => simp [risingFrom, aboveAll]
  | cons e r ih =>
    obtain ⟨k, v⟩ := e
    cases p with
    | none =>
      simp only [risingFrom, ih, aboveAll, List.pairwise_cons]
      constructor
      · intro ⟨h1, h2⟩
        exact ⟨by simp, fun a ha => h1 k rfl a ha, h2⟩
      · intro ⟨_, h1, h2⟩
        exact ⟨fun q hq a ha => by cases hq; exact h1 a ha, h2⟩
    | some q =>
      simp only [risingFrom, Bool.and_eq_true, decide_eq_true_eq, ih, aboveAll, List.pairwise_cons]
      constructor
      · intro ⟨h0, h1, h2⟩
        refine ⟨fun p hp a ha => ?_, fun a ha => h1 k rfl a ha, h2⟩
        cases hp
        rcases List.mem_cons.1 ha with rfl | ha
        · exact h0
        · exact lt_trans h0 (h1 k rfl a ha)
      · intro ⟨h0, h1, h2⟩
        exact ⟨h0 q rfl (k, v) (by simp), fun p hp a ha => by cases hp; exact h1 a ha, h2⟩

/-- The canonical form in the words of lists. -/
theorem canon_iff {α : Type} [DecidableEq α] (d : Nat → α) (m : SMap α) :
    canon d m = true ↔ m.Pairwise (fun a b => a.1 < b.1) ∧ ∀ e ∈ m, e.2 ≠ d e.1 := by
  simp [canon, risingFrom_iff, aboveAll]

theorem canon_nil {α : Type} [DecidableEq α] (d : Nat → α) : canon d [] = true := by simp [canon, risingFrom]

theorem canon_sublist {α : Type} [DecidableEq α] {d : Nat → α} {m m' : SMap α} (h : m'.Sublist m) (hm : canon d m = true) :
    canon d m' = true := by
  rw [canon_iff] at *
  exact ⟨hm.1.sublist h, fun e he => hm.2 e (h.subset he)⟩

theorem del_sublist {α : Type} (m : SMap α) (k : Nat) : (del m k).Sublist m := by
  induction m with
  | nil => simp [del]
  | cons e r ih =>
    obtain ⟨j, u⟩ := e
    unfold del
    split
    · exact ih.cons _
    · exact ih.cons_cons _

theorem mem_ins {α : Type} (m : SMap α) (k : Nat) (v : α) (e : Nat × α) (h : e ∈ ins m k v) : e = (k, v) ∨ e ∈ m := by
  induction m with
  | nil => simpa [ins] using h
  | cons f r ih =>
    obtain ⟨j, u⟩ := f
    unfold ins at h
    split at h
    · simp only [List.mem_cons] at h ⊢; tauto
    · split at h
      · simp only [List.mem_cons] at h ⊢; tauto
      · simp only [List.mem_cons] at h ⊢
        rcases h with h | h
        · tauto
        · rcases ih h with h | h <;> tauto

theorem ins_pairwise {α : Type} (m : SMap α) (k : Nat) (v : α) (h : m.Pairwise (fun a b => a.1 < b.1)) :
    (ins m k v).Pairwise (fun a b => a.1 < b.1) := by
  induction m with
  | nil => simp [ins]
  | cons f r ih =>
    obtain ⟨j, u⟩ := f
    obtain ⟨h1, h2⟩ := List.pairwise_cons.1 h
    unfold ins
    split
    · next hk =>
      refine List.pairwise_cons.2 ⟨fun e he => ?_, h⟩
      rcases List.mem_cons.1 he with rfl | he
      · exact hk
      · exact lt_trans hk (h1 e he)
    · split
      · next hk => subst hk; exact List.pairwise_cons.2 ⟨h1, h2⟩
      · next hk hk' =>
        refine List.pairwise_cons.2 ⟨fun e he => ?_, ih h2⟩
        rcases mem_ins r k v e he with rfl | he
        · simp only; omega
        · exact h1 e he

/-- A write keeps the canonical form. -/
theorem canon_put {α : Type} [DecidableEq α] {d : Nat → α} {m : SMap α} (k : Nat) (v : α) (h : canon d m = true) :
    canon d (put d m k v) = true := by
  unfold put
  split
  · exact canon_sublist (del_sublist m k) h
  · next hv =>
    rw [canon_iff] at *
    refine ⟨ins_pairwise m k v h.1, fun e he => ?_⟩
    rcases mem_ins m k v e he with rfl | he
    · exact hv
    · exact h.2 e he

theorem canon_upd {α : Type} [DecidableEq α] {d : Nat → α} {m : SMap α} (k : Nat) (f : α → α) (h : canon d m = true) :
    canon d (upd d m k f) = true := canon_put k _ h

theorem canon_fromKey {α : Type} [DecidableEq α] {d : Nat → α} {m : SMap α} (lo : Nat) (h : canon d m = true) :
    canon d (fromKey m lo) = true := canon_sublist (List.dropWhile_sublist _) h

theorem lt_of_mem_takeWhile {α : Type} (m : SMap α) (lo : Nat) (e : Nat × α)
    (he : e ∈ m.takeWhile (fun e => decide (e.1 < lo))) : e.1 < lo := by
  simpa using List.mem_takeWhile_imp he

theorem le_of_mem_fromKey {α : Type} (m : SMap α) (h : m.Pairwise (fun a b => a.1 < b.1)) (hi : Nat) (e : Nat × α)
    (he : e ∈ fromKey m hi) : hi ≤ e.1 := by
  induction m with
  | nil => simp [fromKey] at he
  | cons f r ih =>
    obtain ⟨h1, h2⟩ := List.pairwise_cons.1 h
    unfold fromKey at he
    rw [List.dropWhile_cons] at he
    split at he
    · exact ih h2 he
    · next hk =>
      simp only [decide_eq_true_eq, not_lt] at hk
      rcases List.mem_cons.1 he with rfl | he
      · exact hk
      · exact le_of_lt (lt_of_le_of_lt hk (h1 e he))

/-- A stretch replaced by canonical entries of its own keys keeps the canonical form. -/
theorem canon_splice {α : Type} [DecidableEq α] {d : Nat → α} {m mid : SMap α} {lo hi : Nat} (h : canon d m = true)
    (hmid : canon d mid = true) (hlo : ∀ e ∈ mid, lo ≤ e.1) (hhi : ∀ e ∈ mid, e.1 < hi) (hle : lo ≤ hi) :
    canon d (splice m lo hi mid) = true := by
  rw [canon_iff] at *
  have hfs : (fromKey m hi).Sublist m := List.dropWhile_sublist _
  have hts : (m.takeWhile (fun e => decide (e.1 < lo))).Sublist m := List.takeWhile_sublist _
  constructor
  · unfold splice
    refine List.pairwise_append.2 ⟨List.pairwise_append.2 ⟨h.1.sublist hts, hmid.1, ?_⟩, h.1.sublist hfs, ?_⟩
    · intro a ha b hb
      exact lt_of_lt_of_le (lt_of_mem_takeWhile m lo a ha) (hlo b hb)
    · intro a ha b hb
      have hb' := le_of_mem_fromKey m h.1 hi b hb
      rcases List.mem_append.1 ha with ha | ha
      · exact lt_of_lt_of_le (lt_of_mem_takeWhile m lo a ha) (le_trans hle hb')
      · exact lt_of_lt_of_le (hhi a ha) hb'
  · intro e he
    unfold splice at he
    rcases List.mem_append.1 he with he | he
    · rcases List.mem_append.1 he with he | he
      · exact h.2 e (hts.subset he)
      · exact hmid.2 e he
    · exact h.2 e (hfs.subset he)

/-! ## Folds -/

/-- A property that the operation keeps for every element is kept by the whole. -/
theorem foldl_keeps {σ ι : Type} (P : σ → Prop) (f : σ → ι → σ) (xs : List ι) (hf : ∀ x ∈ xs, ∀ s, P s → P (f s x)) (s : σ)
    (h : P s) : P (xs.foldl f s) := by
  induction xs generalizing s with
  | nil => exact h
  | cons x r ih =>
    exact ih (fun y hy t ht => hf y (List.mem_cons_of_mem x hy) t ht) _ (hf x List.mem_cons_self s h)

/-- The same for repeated application. -/
theorem iter_keeps {σ : Type} (P : σ → Prop) (f : σ → σ) (hf : ∀ s, P s → P (f s)) (n : Nat) (s : σ) (h : P s) :
    P (iter f n s) := by
  induction n generalizing s with
  | zero => exact h
  | succ n ih => exact ih _ (hf s h)

end Sys2Proof.Machine
end

