-- ==== Sys2Proof/Laws/State.lean ====
section
/-!
SUPPORT. What each update leaves unchanged: one lemma per field of the state and update, for simp. A proof cites these
instead of unfolding an update.
-/

namespace Sys2Proof.Machine

/-- Counting an event changes the objects alone. -/
theorem evc_eq (c : Nat) (s : State) : ∃ o, evc c s = { s with obj := o } := by
  unfold evc each
  refine foldl_keeps (fun t => ∃ o, t = { s with obj := o }) _ _ ?_ s ⟨s.obj, rfl⟩
  rintro e _ t ⟨o, rfl⟩
  dsimp only
  split
  · exact ⟨_, rfl⟩
  · exact ⟨o, rfl⟩

/-- Reporting poisoned words changes the objects alone. -/
theorem readPoison_eq (ws : List Nat) (s : State) : ∃ o, readPoison ws s = { s with obj := o } := by
  unfold readPoison each
  refine foldl_keeps (fun t => ∃ o, t = { s with obj := o }) _ _ ?_ s ⟨s.obj, rfl⟩
  rintro w _ t ⟨o, rfl⟩
  obtain ⟨o', h⟩ := evc_eq 0xA1 (oset Ob.FST_ECC_LAST (8 * w) (cnt Ob.FST_ECC_UNCORR { s with obj := o }))
  exact ⟨o', h⟩

/-! ### State.at -/

@[simp] theorem State.at_pending (t : Nat) (s : State) : (s.at t).pending = s.pending := rfl
@[simp] theorem State.at_free (t : Nat) (s : State) : (s.at t).free = s.free := rfl
@[simp] theorem State.at_obj (t : Nat) (s : State) : (s.at t).obj = s.obj := rfl
@[simp] theorem State.at_dom (t : Nat) (s : State) : (s.at t).dom = s.dom := rfl
@[simp] theorem State.at_mem (t : Nat) (s : State) : (s.at t).mem = s.mem := rfl
@[simp] theorem State.at_poison (t : Nat) (s : State) : (s.at t).poison = s.poison := rfl
@[simp] theorem State.at_boot (t : Nat) (s : State) : (s.at t).boot = s.boot := rfl
@[simp] theorem State.at_pins (t : Nat) (s : State) : (s.at t).pins = s.pins := rfl
@[simp] theorem State.at_pwr (t : Nat) (s : State) : (s.at t).pwr = s.pwr := rfl
@[simp] theorem State.at_evlog (t : Nat) (s : State) : (s.at t).evlog = s.evlog := rfl
@[simp] theorem State.at_cross (t : Nat) (s : State) : (s.at t).cross = s.cross := rfl
@[simp] theorem State.at_pxl (t : Nat) (s : State) : (s.at t).pxl = s.pxl := rfl
@[simp] theorem State.at_trx (t : Nat) (s : State) : (s.at t).trx = s.trx := rfl
@[simp] theorem State.at_lake (t : Nat) (s : State) : (s.at t).lake = s.lake := rfl
@[simp] theorem State.at_fst (t : Nat) (s : State) : (s.at t).fst = s.fst := rfl
@[simp] theorem State.at_bnk (t : Nat) (s : State) : (s.at t).bnk = s.bnk := rfl
@[simp] theorem State.at_mgt (t : Nat) (s : State) : (s.at t).mgt = s.mgt := rfl
@[simp] theorem State.at_scan (t : Nat) (s : State) : (s.at t).scan = s.scan := rfl
@[simp] theorem State.at_dlk (t : Nat) (s : State) : (s.at t).dlk = s.dlk := rfl
@[simp] theorem State.at_drvRec (t : Nat) (s : State) : (s.at t).drvRec = s.drvRec := rfl
@[simp] theorem State.at_wear (t : Nat) (s : State) : (s.at t).wear = s.wear := rfl
@[simp] theorem State.at_safe (t : Nat) (s : State) : (s.at t).safe = s.safe := rfl
@[simp] theorem State.at_pnl (t : Nat) (s : State) : (s.at t).pnl = s.pnl := rfl
@[simp] theorem State.at_cal (t : Nat) (s : State) : (s.at t).cal = s.cal := rfl
@[simp] theorem State.at_gyl (t : Nat) (s : State) : (s.at t).gyl = s.gyl := rfl
@[simp] theorem State.at_jrn (t : Nat) (s : State) : (s.at t).jrn = s.jrn := rfl

/-! ### tookFree -/

@[simp] theorem tookFree_pending (s : State) : (tookFree s).pending = s.pending := rfl
@[simp] theorem tookFree_now (s : State) : (tookFree s).now = s.now := rfl
@[simp] theorem tookFree_obj (s : State) : (tookFree s).obj = s.obj := rfl
@[simp] theorem tookFree_dom (s : State) : (tookFree s).dom = s.dom := rfl
@[simp] theorem tookFree_mem (s : State) : (tookFree s).mem = s.mem := rfl
@[simp] theorem tookFree_poison (s : State) : (tookFree s).poison = s.poison := rfl
@[simp] theorem tookFree_boot (s : State) : (tookFree s).boot = s.boot := rfl
@[simp] theorem tookFree_pins (s : State) : (tookFree s).pins = s.pins := rfl
@[simp] theorem tookFree_pwr (s : State) : (tookFree s).pwr = s.pwr := rfl
@[simp] theorem tookFree_evlog (s : State) : (tookFree s).evlog = s.evlog := rfl
@[simp] theorem tookFree_cross (s : State) : (tookFree s).cross = s.cross := rfl
@[simp] theorem tookFree_pxl (s : State) : (tookFree s).pxl = s.pxl := rfl
@[simp] theorem tookFree_trx (s : State) : (tookFree s).trx = s.trx := rfl
@[simp] theorem tookFree_lake (s : State) : (tookFree s).lake = s.lake := rfl
@[simp] theorem tookFree_fst (s : State) : (tookFree s).fst = s.fst := rfl
@[simp] theorem tookFree_bnk (s : State) : (tookFree s).bnk = s.bnk := rfl
@[simp] theorem tookFree_mgt (s : State) : (tookFree s).mgt = s.mgt := rfl
@[simp] theorem tookFree_scan (s : State) : (tookFree s).scan = s.scan := rfl
@[simp] theorem tookFree_dlk (s : State) : (tookFree s).dlk = s.dlk := rfl
@[simp] theorem tookFree_drvRec (s : State) : (tookFree s).drvRec = s.drvRec := rfl
@[simp] theorem tookFree_wear (s : State) : (tookFree s).wear = s.wear := rfl
@[simp] theorem tookFree_safe (s : State) : (tookFree s).safe = s.safe := rfl
@[simp] theorem tookFree_pnl (s : State) : (tookFree s).pnl = s.pnl := rfl
@[simp] theorem tookFree_cal (s : State) : (tookFree s).cal = s.cal := rfl
@[simp] theorem tookFree_gyl (s : State) : (tookFree s).gyl = s.gyl := rfl
@[simp] theorem tookFree_jrn (s : State) : (tookFree s).jrn = s.jrn := rfl

/-! ### oset -/

@[simp] theorem oset_pending (k v : Nat) (s : State) : (oset k v s).pending = s.pending := rfl
@[simp] theorem oset_now (k v : Nat) (s : State) : (oset k v s).now = s.now := rfl
@[simp] theorem oset_free (k v : Nat) (s : State) : (oset k v s).free = s.free := rfl
@[simp] theorem oset_dom (k v : Nat) (s : State) : (oset k v s).dom = s.dom := rfl
@[simp] theorem oset_mem (k v : Nat) (s : State) : (oset k v s).mem = s.mem := rfl
@[simp] theorem oset_poison (k v : Nat) (s : State) : (oset k v s).poison = s.poison := rfl
@[simp] theorem oset_boot (k v : Nat) (s : State) : (oset k v s).boot = s.boot := rfl
@[simp] theorem oset_pins (k v : Nat) (s : State) : (oset k v s).pins = s.pins := rfl
@[simp] theorem oset_pwr (k v : Nat) (s : State) : (oset k v s).pwr = s.pwr := rfl
@[simp] theorem oset_evlog (k v : Nat) (s : State) : (oset k v s).evlog = s.evlog := rfl
@[simp] theorem oset_cross (k v : Nat) (s : State) : (oset k v s).cross = s.cross := rfl
@[simp] theorem oset_pxl (k v : Nat) (s : State) : (oset k v s).pxl = s.pxl := rfl
@[simp] theorem oset_trx (k v : Nat) (s : State) : (oset k v s).trx = s.trx := rfl
@[simp] theorem oset_lake (k v : Nat) (s : State) : (oset k v s).lake = s.lake := rfl
@[simp] theorem oset_fst (k v : Nat) (s : State) : (oset k v s).fst = s.fst := rfl
@[simp] theorem oset_bnk (k v : Nat) (s : State) : (oset k v s).bnk = s.bnk := rfl
@[simp] theorem oset_mgt (k v : Nat) (s : State) : (oset k v s).mgt = s.mgt := rfl
@[simp] theorem oset_scan (k v : Nat) (s : State) : (oset k v s).scan = s.scan := rfl
@[simp] theorem oset_dlk (k v : Nat) (s : State) : (oset k v s).dlk = s.dlk := rfl
@[simp] theorem oset_drvRec (k v : Nat) (s : State) : (oset k v s).drvRec = s.drvRec := rfl
@[simp] theorem oset_wear (k v : Nat) (s : State) : (oset k v s).wear = s.wear := rfl
@[simp] theorem oset_safe (k v : Nat) (s : State) : (oset k v s).safe = s.safe := rfl
@[simp] theorem oset_pnl (k v : Nat) (s : State) : (oset k v s).pnl = s.pnl := rfl
@[simp] theorem oset_cal (k v : Nat) (s : State) : (oset k v s).cal = s.cal := rfl
@[simp] theorem oset_gyl (k v : Nat) (s : State) : (oset k v s).gyl = s.gyl := rfl
@[simp] theorem oset_jrn (k v : Nat) (s : State) : (oset k v s).jrn = s.jrn := rfl

/-! ### cnt -/

@[simp] theorem cnt_pending (k : Nat) (s : State) : (cnt k s).pending = s.pending := rfl
@[simp] theorem cnt_now (k : Nat) (s : State) : (cnt k s).now = s.now := rfl
@[simp] theorem cnt_free (k : Nat) (s : State) : (cnt k s).free = s.free := rfl
@[simp] theorem cnt_dom (k : Nat) (s : State) : (cnt k s).dom = s.dom := rfl
@[simp] theorem cnt_mem (k : Nat) (s : State) : (cnt k s).mem = s.mem := rfl
@[simp] theorem cnt_poison (k : Nat) (s : State) : (cnt k s).poison = s.poison := rfl
@[simp] theorem cnt_boot (k : Nat) (s : State) : (cnt k s).boot = s.boot := rfl
@[simp] theorem cnt_pins (k : Nat) (s : State) : (cnt k s).pins = s.pins := rfl
@[simp] theorem cnt_pwr (k : Nat) (s : State) : (cnt k s).pwr = s.pwr := rfl
@[simp] theorem cnt_evlog (k : Nat) (s : State) : (cnt k s).evlog = s.evlog := rfl
@[simp] theorem cnt_cross (k : Nat) (s : State) : (cnt k s).cross = s.cross := rfl
@[simp] theorem cnt_pxl (k : Nat) (s : State) : (cnt k s).pxl = s.pxl := rfl
@[simp] theorem cnt_trx (k : Nat) (s : State) : (cnt k s).trx = s.trx := rfl
@[simp] theorem cnt_lake (k : Nat) (s : State) : (cnt k s).lake = s.lake := rfl
@[simp] theorem cnt_fst (k : Nat) (s : State) : (cnt k s).fst = s.fst := rfl
@[simp] theorem cnt_bnk (k : Nat) (s : State) : (cnt k s).bnk = s.bnk := rfl
@[simp] theorem cnt_mgt (k : Nat) (s : State) : (cnt k s).mgt = s.mgt := rfl
@[simp] theorem cnt_scan (k : Nat) (s : State) : (cnt k s).scan = s.scan := rfl
@[simp] theorem cnt_dlk (k : Nat) (s : State) : (cnt k s).dlk = s.dlk := rfl
@[simp] theorem cnt_drvRec (k : Nat) (s : State) : (cnt k s).drvRec = s.drvRec := rfl
@[simp] theorem cnt_wear (k : Nat) (s : State) : (cnt k s).wear = s.wear := rfl
@[simp] theorem cnt_safe (k : Nat) (s : State) : (cnt k s).safe = s.safe := rfl
@[simp] theorem cnt_pnl (k : Nat) (s : State) : (cnt k s).pnl = s.pnl := rfl
@[simp] theorem cnt_cal (k : Nat) (s : State) : (cnt k s).cal = s.cal := rfl
@[simp] theorem cnt_gyl (k : Nat) (s : State) : (cnt k s).gyl = s.gyl := rfl
@[simp] theorem cnt_jrn (k : Nat) (s : State) : (cnt k s).jrn = s.jrn := rfl

/-! ### cntBy -/

@[simp] theorem cntBy_pending (k n : Nat) (s : State) : (cntBy k n s).pending = s.pending := rfl
@[simp] theorem cntBy_now (k n : Nat) (s : State) : (cntBy k n s).now = s.now := rfl
@[simp] theorem cntBy_free (k n : Nat) (s : State) : (cntBy k n s).free = s.free := rfl
@[simp] theorem cntBy_dom (k n : Nat) (s : State) : (cntBy k n s).dom = s.dom := rfl
@[simp] theorem cntBy_mem (k n : Nat) (s : State) : (cntBy k n s).mem = s.mem := rfl
@[simp] theorem cntBy_poison (k n : Nat) (s : State) : (cntBy k n s).poison = s.poison := rfl
@[simp] theorem cntBy_boot (k n : Nat) (s : State) : (cntBy k n s).boot = s.boot := rfl
@[simp] theorem cntBy_pins (k n : Nat) (s : State) : (cntBy k n s).pins = s.pins := rfl
@[simp] theorem cntBy_pwr (k n : Nat) (s : State) : (cntBy k n s).pwr = s.pwr := rfl
@[simp] theorem cntBy_evlog (k n : Nat) (s : State) : (cntBy k n s).evlog = s.evlog := rfl
@[simp] theorem cntBy_cross (k n : Nat) (s : State) : (cntBy k n s).cross = s.cross := rfl
@[simp] theorem cntBy_pxl (k n : Nat) (s : State) : (cntBy k n s).pxl = s.pxl := rfl
@[simp] theorem cntBy_trx (k n : Nat) (s : State) : (cntBy k n s).trx = s.trx := rfl
@[simp] theorem cntBy_lake (k n : Nat) (s : State) : (cntBy k n s).lake = s.lake := rfl
@[simp] theorem cntBy_fst (k n : Nat) (s : State) : (cntBy k n s).fst = s.fst := rfl
@[simp] theorem cntBy_bnk (k n : Nat) (s : State) : (cntBy k n s).bnk = s.bnk := rfl
@[simp] theorem cntBy_mgt (k n : Nat) (s : State) : (cntBy k n s).mgt = s.mgt := rfl
@[simp] theorem cntBy_scan (k n : Nat) (s : State) : (cntBy k n s).scan = s.scan := rfl
@[simp] theorem cntBy_dlk (k n : Nat) (s : State) : (cntBy k n s).dlk = s.dlk := rfl
@[simp] theorem cntBy_drvRec (k n : Nat) (s : State) : (cntBy k n s).drvRec = s.drvRec := rfl
@[simp] theorem cntBy_wear (k n : Nat) (s : State) : (cntBy k n s).wear = s.wear := rfl
@[simp] theorem cntBy_safe (k n : Nat) (s : State) : (cntBy k n s).safe = s.safe := rfl
@[simp] theorem cntBy_pnl (k n : Nat) (s : State) : (cntBy k n s).pnl = s.pnl := rfl
@[simp] theorem cntBy_cal (k n : Nat) (s : State) : (cntBy k n s).cal = s.cal := rfl
@[simp] theorem cntBy_gyl (k n : Nat) (s : State) : (cntBy k n s).gyl = s.gyl := rfl
@[simp] theorem cntBy_jrn (k n : Nat) (s : State) : (cntBy k n s).jrn = s.jrn := rfl

/-! ### dset -/

@[simp] theorem dset_pending (k : Nat) (bs : List Byte) (s : State) : (dset k bs s).pending = s.pending := rfl
@[simp] theorem dset_now (k : Nat) (bs : List Byte) (s : State) : (dset k bs s).now = s.now := rfl
@[simp] theorem dset_free (k : Nat) (bs : List Byte) (s : State) : (dset k bs s).free = s.free := rfl
@[simp] theorem dset_obj (k : Nat) (bs : List Byte) (s : State) : (dset k bs s).obj = s.obj := rfl
@[simp] theorem dset_mem (k : Nat) (bs : List Byte) (s : State) : (dset k bs s).mem = s.mem := rfl
@[simp] theorem dset_poison (k : Nat) (bs : List Byte) (s : State) : (dset k bs s).poison = s.poison := rfl
@[simp] theorem dset_boot (k : Nat) (bs : List Byte) (s : State) : (dset k bs s).boot = s.boot := rfl
@[simp] theorem dset_pins (k : Nat) (bs : List Byte) (s : State) : (dset k bs s).pins = s.pins := rfl
@[simp] theorem dset_pwr (k : Nat) (bs : List Byte) (s : State) : (dset k bs s).pwr = s.pwr := rfl
@[simp] theorem dset_evlog (k : Nat) (bs : List Byte) (s : State) : (dset k bs s).evlog = s.evlog := rfl
@[simp] theorem dset_cross (k : Nat) (bs : List Byte) (s : State) : (dset k bs s).cross = s.cross := rfl
@[simp] theorem dset_pxl (k : Nat) (bs : List Byte) (s : State) : (dset k bs s).pxl = s.pxl := rfl
@[simp] theorem dset_trx (k : Nat) (bs : List Byte) (s : State) : (dset k bs s).trx = s.trx := rfl
@[simp] theorem dset_lake (k : Nat) (bs : List Byte) (s : State) : (dset k bs s).lake = s.lake := rfl
@[simp] theorem dset_fst (k : Nat) (bs : List Byte) (s : State) : (dset k bs s).fst = s.fst := rfl
@[simp] theorem dset_bnk (k : Nat) (bs : List Byte) (s : State) : (dset k bs s).bnk = s.bnk := rfl
@[simp] theorem dset_mgt (k : Nat) (bs : List Byte) (s : State) : (dset k bs s).mgt = s.mgt := rfl
@[simp] theorem dset_scan (k : Nat) (bs : List Byte) (s : State) : (dset k bs s).scan = s.scan := rfl
@[simp] theorem dset_dlk (k : Nat) (bs : List Byte) (s : State) : (dset k bs s).dlk = s.dlk := rfl
@[simp] theorem dset_drvRec (k : Nat) (bs : List Byte) (s : State) : (dset k bs s).drvRec = s.drvRec := rfl
@[simp] theorem dset_wear (k : Nat) (bs : List Byte) (s : State) : (dset k bs s).wear = s.wear := rfl
@[simp] theorem dset_safe (k : Nat) (bs : List Byte) (s : State) : (dset k bs s).safe = s.safe := rfl
@[simp] theorem dset_pnl (k : Nat) (bs : List Byte) (s : State) : (dset k bs s).pnl = s.pnl := rfl
@[simp] theorem dset_cal (k : Nat) (bs : List Byte) (s : State) : (dset k bs s).cal = s.cal := rfl
@[simp] theorem dset_gyl (k : Nat) (bs : List Byte) (s : State) : (dset k bs s).gyl = s.gyl := rfl
@[simp] theorem dset_jrn (k : Nat) (bs : List Byte) (s : State) : (dset k bs s).jrn = s.jrn := rfl

/-! ### memRun -/

@[simp] theorem memRun_pending (a : Nat) (bs : List Byte) (s : State) : (memRun a bs s).pending = s.pending := rfl
@[simp] theorem memRun_now (a : Nat) (bs : List Byte) (s : State) : (memRun a bs s).now = s.now := rfl
@[simp] theorem memRun_free (a : Nat) (bs : List Byte) (s : State) : (memRun a bs s).free = s.free := rfl
@[simp] theorem memRun_obj (a : Nat) (bs : List Byte) (s : State) : (memRun a bs s).obj = s.obj := rfl
@[simp] theorem memRun_dom (a : Nat) (bs : List Byte) (s : State) : (memRun a bs s).dom = s.dom := rfl
@[simp] theorem memRun_boot (a : Nat) (bs : List Byte) (s : State) : (memRun a bs s).boot = s.boot := rfl
@[simp] theorem memRun_pins (a : Nat) (bs : List Byte) (s : State) : (memRun a bs s).pins = s.pins := rfl
@[simp] theorem memRun_pwr (a : Nat) (bs : List Byte) (s : State) : (memRun a bs s).pwr = s.pwr := rfl
@[simp] theorem memRun_evlog (a : Nat) (bs : List Byte) (s : State) : (memRun a bs s).evlog = s.evlog := rfl
@[simp] theorem memRun_cross (a : Nat) (bs : List Byte) (s : State) : (memRun a bs s).cross = s.cross := rfl
@[simp] theorem memRun_pxl (a : Nat) (bs : List Byte) (s : State) : (memRun a bs s).pxl = s.pxl := rfl
@[simp] theorem memRun_trx (a : Nat) (bs : List Byte) (s : State) : (memRun a bs s).trx = s.trx := rfl
@[simp] theorem memRun_lake (a : Nat) (bs : List Byte) (s : State) : (memRun a bs s).lake = s.lake := rfl
@[simp] theorem memRun_fst (a : Nat) (bs : List Byte) (s : State) : (memRun a bs s).fst = s.fst := rfl
@[simp] theorem memRun_bnk (a : Nat) (bs : List Byte) (s : State) : (memRun a bs s).bnk = s.bnk := rfl
@[simp] theorem memRun_mgt (a : Nat) (bs : List Byte) (s : State) : (memRun a bs s).mgt = s.mgt := rfl
@[simp] theorem memRun_scan (a : Nat) (bs : List Byte) (s : State) : (memRun a bs s).scan = s.scan := rfl
@[simp] theorem memRun_dlk (a : Nat) (bs : List Byte) (s : State) : (memRun a bs s).dlk = s.dlk := rfl
@[simp] theorem memRun_drvRec (a : Nat) (bs : List Byte) (s : State) : (memRun a bs s).drvRec = s.drvRec := rfl
@[simp] theorem memRun_wear (a : Nat) (bs : List Byte) (s : State) : (memRun a bs s).wear = s.wear := rfl
@[simp] theorem memRun_safe (a : Nat) (bs : List Byte) (s : State) : (memRun a bs s).safe = s.safe := rfl
@[simp] theorem memRun_pnl (a : Nat) (bs : List Byte) (s : State) : (memRun a bs s).pnl = s.pnl := rfl
@[simp] theorem memRun_cal (a : Nat) (bs : List Byte) (s : State) : (memRun a bs s).cal = s.cal := rfl
@[simp] theorem memRun_gyl (a : Nat) (bs : List Byte) (s : State) : (memRun a bs s).gyl = s.gyl := rfl
@[simp] theorem memRun_jrn (a : Nat) (bs : List Byte) (s : State) : (memRun a bs s).jrn = s.jrn := rfl

/-! ### readPoison -/

@[simp] theorem readPoison_pending (ws : List Nat) (s : State) : (readPoison ws s).pending = s.pending := by
  obtain ⟨o, h⟩ := readPoison_eq ws s; rw [h]
@[simp] theorem readPoison_now (ws : List Nat) (s : State) : (readPoison ws s).now = s.now := by
  obtain ⟨o, h⟩ := readPoison_eq ws s; rw [h]
@[simp] theorem readPoison_free (ws : List Nat) (s : State) : (readPoison ws s).free = s.free := by
  obtain ⟨o, h⟩ := readPoison_eq ws s; rw [h]
@[simp] theorem readPoison_dom (ws : List Nat) (s : State) : (readPoison ws s).dom = s.dom := by
  obtain ⟨o, h⟩ := readPoison_eq ws s; rw [h]
@[simp] theorem readPoison_mem (ws : List Nat) (s : State) : (readPoison ws s).mem = s.mem := by
  obtain ⟨o, h⟩ := readPoison_eq ws s; rw [h]
@[simp] theorem readPoison_poison (ws : List Nat) (s : State) : (readPoison ws s).poison = s.poison := by
  obtain ⟨o, h⟩ := readPoison_eq ws s; rw [h]
@[simp] theorem readPoison_boot (ws : List Nat) (s : State) : (readPoison ws s).boot = s.boot := by
  obtain ⟨o, h⟩ := readPoison_eq ws s; rw [h]
@[simp] theorem readPoison_pins (ws : List Nat) (s : State) : (readPoison ws s).pins = s.pins := by
  obtain ⟨o, h⟩ := readPoison_eq ws s; rw [h]
@[simp] theorem readPoison_pwr (ws : List Nat) (s : State) : (readPoison ws s).pwr = s.pwr := by
  obtain ⟨o, h⟩ := readPoison_eq ws s; rw [h]
@[simp] theorem readPoison_evlog (ws : List Nat) (s : State) : (readPoison ws s).evlog = s.evlog := by
  obtain ⟨o, h⟩ := readPoison_eq ws s; rw [h]
@[simp] theorem readPoison_cross (ws : List Nat) (s : State) : (readPoison ws s).cross = s.cross := by
  obtain ⟨o, h⟩ := readPoison_eq ws s; rw [h]
@[simp] theorem readPoison_pxl (ws : List Nat) (s : State) : (readPoison ws s).pxl = s.pxl := by
  obtain ⟨o, h⟩ := readPoison_eq ws s; rw [h]
@[simp] theorem readPoison_trx (ws : List Nat) (s : State) : (readPoison ws s).trx = s.trx := by
  obtain ⟨o, h⟩ := readPoison_eq ws s; rw [h]
@[simp] theorem readPoison_lake (ws : List Nat) (s : State) : (readPoison ws s).lake = s.lake := by
  obtain ⟨o, h⟩ := readPoison_eq ws s; rw [h]
@[simp] theorem readPoison_fst (ws : List Nat) (s : State) : (readPoison ws s).fst = s.fst := by
  obtain ⟨o, h⟩ := readPoison_eq ws s; rw [h]
@[simp] theorem readPoison_bnk (ws : List Nat) (s : State) : (readPoison ws s).bnk = s.bnk := by
  obtain ⟨o, h⟩ := readPoison_eq ws s; rw [h]
@[simp] theorem readPoison_mgt (ws : List Nat) (s : State) : (readPoison ws s).mgt = s.mgt := by
  obtain ⟨o, h⟩ := readPoison_eq ws s; rw [h]
@[simp] theorem readPoison_scan (ws : List Nat) (s : State) : (readPoison ws s).scan = s.scan := by
  obtain ⟨o, h⟩ := readPoison_eq ws s; rw [h]
@[simp] theorem readPoison_dlk (ws : List Nat) (s : State) : (readPoison ws s).dlk = s.dlk := by
  obtain ⟨o, h⟩ := readPoison_eq ws s; rw [h]
@[simp] theorem readPoison_drvRec (ws : List Nat) (s : State) : (readPoison ws s).drvRec = s.drvRec := by
  obtain ⟨o, h⟩ := readPoison_eq ws s; rw [h]
@[simp] theorem readPoison_wear (ws : List Nat) (s : State) : (readPoison ws s).wear = s.wear := by
  obtain ⟨o, h⟩ := readPoison_eq ws s; rw [h]
@[simp] theorem readPoison_safe (ws : List Nat) (s : State) : (readPoison ws s).safe = s.safe := by
  obtain ⟨o, h⟩ := readPoison_eq ws s; rw [h]
@[simp] theorem readPoison_pnl (ws : List Nat) (s : State) : (readPoison ws s).pnl = s.pnl := by
  obtain ⟨o, h⟩ := readPoison_eq ws s; rw [h]
@[simp] theorem readPoison_cal (ws : List Nat) (s : State) : (readPoison ws s).cal = s.cal := by
  obtain ⟨o, h⟩ := readPoison_eq ws s; rw [h]
@[simp] theorem readPoison_gyl (ws : List Nat) (s : State) : (readPoison ws s).gyl = s.gyl := by
  obtain ⟨o, h⟩ := readPoison_eq ws s; rw [h]
@[simp] theorem readPoison_jrn (ws : List Nat) (s : State) : (readPoison ws s).jrn = s.jrn := by
  obtain ⟨o, h⟩ := readPoison_eq ws s; rw [h]

/-! ### memPart -/

@[simp] theorem memPart_pending (a : Nat) (bs : List Byte) (s : State) : (memPart a bs s).pending = s.pending := by unfold memPart; split <;> simp
@[simp] theorem memPart_now (a : Nat) (bs : List Byte) (s : State) : (memPart a bs s).now = s.now := by unfold memPart; split <;> simp
@[simp] theorem memPart_free (a : Nat) (bs : List Byte) (s : State) : (memPart a bs s).free = s.free := by unfold memPart; split <;> simp
@[simp] theorem memPart_dom (a : Nat) (bs : List Byte) (s : State) : (memPart a bs s).dom = s.dom := by unfold memPart; split <;> simp
@[simp] theorem memPart_poison (a : Nat) (bs : List Byte) (s : State) : (memPart a bs s).poison = s.poison := by unfold memPart; split <;> simp
@[simp] theorem memPart_boot (a : Nat) (bs : List Byte) (s : State) : (memPart a bs s).boot = s.boot := by unfold memPart; split <;> simp
@[simp] theorem memPart_pins (a : Nat) (bs : List Byte) (s : State) : (memPart a bs s).pins = s.pins := by unfold memPart; split <;> simp
@[simp] theorem memPart_pwr (a : Nat) (bs : List Byte) (s : State) : (memPart a bs s).pwr = s.pwr := by unfold memPart; split <;> simp
@[simp] theorem memPart_evlog (a : Nat) (bs : List Byte) (s : State) : (memPart a bs s).evlog = s.evlog := by unfold memPart; split <;> simp
@[simp] theorem memPart_cross (a : Nat) (bs : List Byte) (s : State) : (memPart a bs s).cross = s.cross := by unfold memPart; split <;> simp
@[simp] theorem memPart_pxl (a : Nat) (bs : List Byte) (s : State) : (memPart a bs s).pxl = s.pxl := by unfold memPart; split <;> simp
@[simp] theorem memPart_trx (a : Nat) (bs : List Byte) (s : State) : (memPart a bs s).trx = s.trx := by unfold memPart; split <;> simp
@[simp] theorem memPart_lake (a : Nat) (bs : List Byte) (s : State) : (memPart a bs s).lake = s.lake := by unfold memPart; split <;> simp
@[simp] theorem memPart_fst (a : Nat) (bs : List Byte) (s : State) : (memPart a bs s).fst = s.fst := by unfold memPart; split <;> simp
@[simp] theorem memPart_bnk (a : Nat) (bs : List Byte) (s : State) : (memPart a bs s).bnk = s.bnk := by unfold memPart; split <;> simp
@[simp] theorem memPart_mgt (a : Nat) (bs : List Byte) (s : State) : (memPart a bs s).mgt = s.mgt := by unfold memPart; split <;> simp
@[simp] theorem memPart_scan (a : Nat) (bs : List Byte) (s : State) : (memPart a bs s).scan = s.scan := by unfold memPart; split <;> simp
@[simp] theorem memPart_dlk (a : Nat) (bs : List Byte) (s : State) : (memPart a bs s).dlk = s.dlk := by unfold memPart; split <;> simp
@[simp] theorem memPart_drvRec (a : Nat) (bs : List Byte) (s : State) : (memPart a bs s).drvRec = s.drvRec := by unfold memPart; split <;> simp
@[simp] theorem memPart_wear (a : Nat) (bs : List Byte) (s : State) : (memPart a bs s).wear = s.wear := by unfold memPart; split <;> simp
@[simp] theorem memPart_safe (a : Nat) (bs : List Byte) (s : State) : (memPart a bs s).safe = s.safe := by unfold memPart; split <;> simp
@[simp] theorem memPart_pnl (a : Nat) (bs : List Byte) (s : State) : (memPart a bs s).pnl = s.pnl := by unfold memPart; split <;> simp
@[simp] theorem memPart_cal (a : Nat) (bs : List Byte) (s : State) : (memPart a bs s).cal = s.cal := by unfold memPart; split <;> simp
@[simp] theorem memPart_gyl (a : Nat) (bs : List Byte) (s : State) : (memPart a bs s).gyl = s.gyl := by unfold memPart; split <;> simp
@[simp] theorem memPart_jrn (a : Nat) (bs : List Byte) (s : State) : (memPart a bs s).jrn = s.jrn := by unfold memPart; split <;> simp

/-! ### refreshEvt -/

@[simp] theorem refreshEvt_pending (s : State) : (refreshEvt s).pending = s.pending := by unfold refreshEvt; dsimp only; split <;> rfl
@[simp] theorem refreshEvt_now (s : State) : (refreshEvt s).now = s.now := by unfold refreshEvt; dsimp only; split <;> rfl
@[simp] theorem refreshEvt_free (s : State) : (refreshEvt s).free = s.free := by unfold refreshEvt; dsimp only; split <;> rfl
@[simp] theorem refreshEvt_obj (s : State) : (refreshEvt s).obj = s.obj := by unfold refreshEvt; dsimp only; split <;> rfl
@[simp] theorem refreshEvt_dom (s : State) : (refreshEvt s).dom = s.dom := by unfold refreshEvt; dsimp only; split <;> rfl
@[simp] theorem refreshEvt_mem (s : State) : (refreshEvt s).mem = s.mem := by unfold refreshEvt; dsimp only; split <;> rfl
@[simp] theorem refreshEvt_poison (s : State) : (refreshEvt s).poison = s.poison := by unfold refreshEvt; dsimp only; split <;> rfl
@[simp] theorem refreshEvt_boot (s : State) : (refreshEvt s).boot = s.boot := by unfold refreshEvt; dsimp only; split <;> rfl
@[simp] theorem refreshEvt_pwr (s : State) : (refreshEvt s).pwr = s.pwr := by unfold refreshEvt; dsimp only; split <;> rfl
@[simp] theorem refreshEvt_evlog (s : State) : (refreshEvt s).evlog = s.evlog := by unfold refreshEvt; dsimp only; split <;> rfl
@[simp] theorem refreshEvt_cross (s : State) : (refreshEvt s).cross = s.cross := by unfold refreshEvt; dsimp only; split <;> rfl
@[simp] theorem refreshEvt_pxl (s : State) : (refreshEvt s).pxl = s.pxl := by unfold refreshEvt; dsimp only; split <;> rfl
@[simp] theorem refreshEvt_trx (s : State) : (refreshEvt s).trx = s.trx := by unfold refreshEvt; dsimp only; split <;> rfl
@[simp] theorem refreshEvt_lake (s : State) : (refreshEvt s).lake = s.lake := by unfold refreshEvt; dsimp only; split <;> rfl
@[simp] theorem refreshEvt_fst (s : State) : (refreshEvt s).fst = s.fst := by unfold refreshEvt; dsimp only; split <;> rfl
@[simp] theorem refreshEvt_bnk (s : State) : (refreshEvt s).bnk = s.bnk := by unfold refreshEvt; dsimp only; split <;> rfl
@[simp] theorem refreshEvt_mgt (s : State) : (refreshEvt s).mgt = s.mgt := by unfold refreshEvt; dsimp only; split <;> rfl
@[simp] theorem refreshEvt_scan (s : State) : (refreshEvt s).scan = s.scan := by unfold refreshEvt; dsimp only; split <;> rfl
@[simp] theorem refreshEvt_dlk (s : State) : (refreshEvt s).dlk = s.dlk := by unfold refreshEvt; dsimp only; split <;> rfl
@[simp] theorem refreshEvt_drvRec (s : State) : (refreshEvt s).drvRec = s.drvRec := by unfold refreshEvt; dsimp only; split <;> rfl
@[simp] theorem refreshEvt_wear (s : State) : (refreshEvt s).wear = s.wear := by unfold refreshEvt; dsimp only; split <;> rfl
@[simp] theorem refreshEvt_safe (s : State) : (refreshEvt s).safe = s.safe := by unfold refreshEvt; dsimp only; split <;> rfl
@[simp] theorem refreshEvt_pnl (s : State) : (refreshEvt s).pnl = s.pnl := by unfold refreshEvt; dsimp only; split <;> rfl
@[simp] theorem refreshEvt_cal (s : State) : (refreshEvt s).cal = s.cal := by unfold refreshEvt; dsimp only; split <;> rfl
@[simp] theorem refreshEvt_gyl (s : State) : (refreshEvt s).gyl = s.gyl := by unfold refreshEvt; dsimp only; split <;> rfl
@[simp] theorem refreshEvt_jrn (s : State) : (refreshEvt s).jrn = s.jrn := by unfold refreshEvt; dsimp only; split <;> rfl

/-! ### setPos -/

@[simp] theorem setPos_pending (k : Nat) (v : Pos) (s : State) : (setPos k v s).pending = s.pending := rfl
@[simp] theorem setPos_now (k : Nat) (v : Pos) (s : State) : (setPos k v s).now = s.now := rfl
@[simp] theorem setPos_free (k : Nat) (v : Pos) (s : State) : (setPos k v s).free = s.free := rfl
@[simp] theorem setPos_obj (k : Nat) (v : Pos) (s : State) : (setPos k v s).obj = s.obj := rfl
@[simp] theorem setPos_dom (k : Nat) (v : Pos) (s : State) : (setPos k v s).dom = s.dom := rfl
@[simp] theorem setPos_mem (k : Nat) (v : Pos) (s : State) : (setPos k v s).mem = s.mem := rfl
@[simp] theorem setPos_poison (k : Nat) (v : Pos) (s : State) : (setPos k v s).poison = s.poison := rfl
@[simp] theorem setPos_boot (k : Nat) (v : Pos) (s : State) : (setPos k v s).boot = s.boot := rfl
@[simp] theorem setPos_pins (k : Nat) (v : Pos) (s : State) : (setPos k v s).pins = s.pins := rfl
@[simp] theorem setPos_pwr (k : Nat) (v : Pos) (s : State) : (setPos k v s).pwr = s.pwr := rfl
@[simp] theorem setPos_evlog (k : Nat) (v : Pos) (s : State) : (setPos k v s).evlog = s.evlog := rfl
@[simp] theorem setPos_cross (k : Nat) (v : Pos) (s : State) : (setPos k v s).cross = s.cross := rfl
@[simp] theorem setPos_pxl (k : Nat) (v : Pos) (s : State) : (setPos k v s).pxl = s.pxl := rfl
@[simp] theorem setPos_trx (k : Nat) (v : Pos) (s : State) : (setPos k v s).trx = s.trx := rfl
@[simp] theorem setPos_lake (k : Nat) (v : Pos) (s : State) : (setPos k v s).lake = s.lake := rfl
@[simp] theorem setPos_fst (k : Nat) (v : Pos) (s : State) : (setPos k v s).fst = s.fst := rfl
@[simp] theorem setPos_bnk (k : Nat) (v : Pos) (s : State) : (setPos k v s).bnk = s.bnk := rfl
@[simp] theorem setPos_mgt (k : Nat) (v : Pos) (s : State) : (setPos k v s).mgt = s.mgt := rfl
@[simp] theorem setPos_dlk (k : Nat) (v : Pos) (s : State) : (setPos k v s).dlk = s.dlk := rfl
@[simp] theorem setPos_drvRec (k : Nat) (v : Pos) (s : State) : (setPos k v s).drvRec = s.drvRec := rfl
@[simp] theorem setPos_wear (k : Nat) (v : Pos) (s : State) : (setPos k v s).wear = s.wear := rfl
@[simp] theorem setPos_safe (k : Nat) (v : Pos) (s : State) : (setPos k v s).safe = s.safe := rfl
@[simp] theorem setPos_pnl (k : Nat) (v : Pos) (s : State) : (setPos k v s).pnl = s.pnl := rfl
@[simp] theorem setPos_cal (k : Nat) (v : Pos) (s : State) : (setPos k v s).cal = s.cal := rfl
@[simp] theorem setPos_gyl (k : Nat) (v : Pos) (s : State) : (setPos k v s).gyl = s.gyl := rfl
@[simp] theorem setPos_jrn (k : Nat) (v : Pos) (s : State) : (setPos k v s).jrn = s.jrn := rfl

/-! ### setBandScan -/

@[simp] theorem setBandScan_pending (k : Nat) (v : BandScan) (s : State) : (setBandScan k v s).pending = s.pending := rfl
@[simp] theorem setBandScan_now (k : Nat) (v : BandScan) (s : State) : (setBandScan k v s).now = s.now := rfl
@[simp] theorem setBandScan_free (k : Nat) (v : BandScan) (s : State) : (setBandScan k v s).free = s.free := rfl
@[simp] theorem setBandScan_obj (k : Nat) (v : BandScan) (s : State) : (setBandScan k v s).obj = s.obj := rfl
@[simp] theorem setBandScan_dom (k : Nat) (v : BandScan) (s : State) : (setBandScan k v s).dom = s.dom := rfl
@[simp] theorem setBandScan_mem (k : Nat) (v : BandScan) (s : State) : (setBandScan k v s).mem = s.mem := rfl
@[simp] theorem setBandScan_poison (k : Nat) (v : BandScan) (s : State) : (setBandScan k v s).poison = s.poison := rfl
@[simp] theorem setBandScan_boot (k : Nat) (v : BandScan) (s : State) : (setBandScan k v s).boot = s.boot := rfl
@[simp] theorem setBandScan_pins (k : Nat) (v : BandScan) (s : State) : (setBandScan k v s).pins = s.pins := rfl
@[simp] theorem setBandScan_pwr (k : Nat) (v : BandScan) (s : State) : (setBandScan k v s).pwr = s.pwr := rfl
@[simp] theorem setBandScan_evlog (k : Nat) (v : BandScan) (s : State) : (setBandScan k v s).evlog = s.evlog := rfl
@[simp] theorem setBandScan_cross (k : Nat) (v : BandScan) (s : State) : (setBandScan k v s).cross = s.cross := rfl
@[simp] theorem setBandScan_pxl (k : Nat) (v : BandScan) (s : State) : (setBandScan k v s).pxl = s.pxl := rfl
@[simp] theorem setBandScan_trx (k : Nat) (v : BandScan) (s : State) : (setBandScan k v s).trx = s.trx := rfl
@[simp] theorem setBandScan_lake (k : Nat) (v : BandScan) (s : State) : (setBandScan k v s).lake = s.lake := rfl
@[simp] theorem setBandScan_fst (k : Nat) (v : BandScan) (s : State) : (setBandScan k v s).fst = s.fst := rfl
@[simp] theorem setBandScan_bnk (k : Nat) (v : BandScan) (s : State) : (setBandScan k v s).bnk = s.bnk := rfl
@[simp] theorem setBandScan_mgt (k : Nat) (v : BandScan) (s : State) : (setBandScan k v s).mgt = s.mgt := rfl
@[simp] theorem setBandScan_dlk (k : Nat) (v : BandScan) (s : State) : (setBandScan k v s).dlk = s.dlk := rfl
@[simp] theorem setBandScan_drvRec (k : Nat) (v : BandScan) (s : State) : (setBandScan k v s).drvRec = s.drvRec := rfl
@[simp] theorem setBandScan_wear (k : Nat) (v : BandScan) (s : State) : (setBandScan k v s).wear = s.wear := rfl
@[simp] theorem setBandScan_safe (k : Nat) (v : BandScan) (s : State) : (setBandScan k v s).safe = s.safe := rfl
@[simp] theorem setBandScan_pnl (k : Nat) (v : BandScan) (s : State) : (setBandScan k v s).pnl = s.pnl := rfl
@[simp] theorem setBandScan_cal (k : Nat) (v : BandScan) (s : State) : (setBandScan k v s).cal = s.cal := rfl
@[simp] theorem setBandScan_gyl (k : Nat) (v : BandScan) (s : State) : (setBandScan k v s).gyl = s.gyl := rfl
@[simp] theorem setBandScan_jrn (k : Nat) (v : BandScan) (s : State) : (setBandScan k v s).jrn = s.jrn := rfl

/-! ### setDlk -/

@[simp] theorem setDlk_pending (k : Nat) (v : DlkBand) (s : State) : (setDlk k v s).pending = s.pending := rfl
@[simp] theorem setDlk_now (k : Nat) (v : DlkBand) (s : State) : (setDlk k v s).now = s.now := rfl
@[simp] theorem setDlk_free (k : Nat) (v : DlkBand) (s : State) : (setDlk k v s).free = s.free := rfl
@[simp] theorem setDlk_obj (k : Nat) (v : DlkBand) (s : State) : (setDlk k v s).obj = s.obj := rfl
@[simp] theorem setDlk_dom (k : Nat) (v : DlkBand) (s : State) : (setDlk k v s).dom = s.dom := rfl
@[simp] theorem setDlk_mem (k : Nat) (v : DlkBand) (s : State) : (setDlk k v s).mem = s.mem := rfl
@[simp] theorem setDlk_poison (k : Nat) (v : DlkBand) (s : State) : (setDlk k v s).poison = s.poison := rfl
@[simp] theorem setDlk_boot (k : Nat) (v : DlkBand) (s : State) : (setDlk k v s).boot = s.boot := rfl
@[simp] theorem setDlk_pins (k : Nat) (v : DlkBand) (s : State) : (setDlk k v s).pins = s.pins := rfl
@[simp] theorem setDlk_pwr (k : Nat) (v : DlkBand) (s : State) : (setDlk k v s).pwr = s.pwr := rfl
@[simp] theorem setDlk_evlog (k : Nat) (v : DlkBand) (s : State) : (setDlk k v s).evlog = s.evlog := rfl
@[simp] theorem setDlk_cross (k : Nat) (v : DlkBand) (s : State) : (setDlk k v s).cross = s.cross := rfl
@[simp] theorem setDlk_pxl (k : Nat) (v : DlkBand) (s : State) : (setDlk k v s).pxl = s.pxl := rfl
@[simp] theorem setDlk_trx (k : Nat) (v : DlkBand) (s : State) : (setDlk k v s).trx = s.trx := rfl
@[simp] theorem setDlk_lake (k : Nat) (v : DlkBand) (s : State) : (setDlk k v s).lake = s.lake := rfl
@[simp] theorem setDlk_fst (k : Nat) (v : DlkBand) (s : State) : (setDlk k v s).fst = s.fst := rfl
@[simp] theorem setDlk_bnk (k : Nat) (v : DlkBand) (s : State) : (setDlk k v s).bnk = s.bnk := rfl
@[simp] theorem setDlk_mgt (k : Nat) (v : DlkBand) (s : State) : (setDlk k v s).mgt = s.mgt := rfl
@[simp] theorem setDlk_scan (k : Nat) (v : DlkBand) (s : State) : (setDlk k v s).scan = s.scan := rfl
@[simp] theorem setDlk_drvRec (k : Nat) (v : DlkBand) (s : State) : (setDlk k v s).drvRec = s.drvRec := rfl
@[simp] theorem setDlk_wear (k : Nat) (v : DlkBand) (s : State) : (setDlk k v s).wear = s.wear := rfl
@[simp] theorem setDlk_safe (k : Nat) (v : DlkBand) (s : State) : (setDlk k v s).safe = s.safe := rfl
@[simp] theorem setDlk_pnl (k : Nat) (v : DlkBand) (s : State) : (setDlk k v s).pnl = s.pnl := rfl
@[simp] theorem setDlk_cal (k : Nat) (v : DlkBand) (s : State) : (setDlk k v s).cal = s.cal := rfl
@[simp] theorem setDlk_gyl (k : Nat) (v : DlkBand) (s : State) : (setDlk k v s).gyl = s.gyl := rfl
@[simp] theorem setDlk_jrn (k : Nat) (v : DlkBand) (s : State) : (setDlk k v s).jrn = s.jrn := rfl

/-! ### setRail -/

@[simp] theorem setRail_pending (k : Nat) (v : Rail) (s : State) : (setRail k v s).pending = s.pending := rfl
@[simp] theorem setRail_now (k : Nat) (v : Rail) (s : State) : (setRail k v s).now = s.now := rfl
@[simp] theorem setRail_free (k : Nat) (v : Rail) (s : State) : (setRail k v s).free = s.free := rfl
@[simp] theorem setRail_obj (k : Nat) (v : Rail) (s : State) : (setRail k v s).obj = s.obj := rfl
@[simp] theorem setRail_dom (k : Nat) (v : Rail) (s : State) : (setRail k v s).dom = s.dom := rfl
@[simp] theorem setRail_mem (k : Nat) (v : Rail) (s : State) : (setRail k v s).mem = s.mem := rfl
@[simp] theorem setRail_poison (k : Nat) (v : Rail) (s : State) : (setRail k v s).poison = s.poison := rfl
@[simp] theorem setRail_boot (k : Nat) (v : Rail) (s : State) : (setRail k v s).boot = s.boot := rfl
@[simp] theorem setRail_pins (k : Nat) (v : Rail) (s : State) : (setRail k v s).pins = s.pins := rfl
@[simp] theorem setRail_pwr (k : Nat) (v : Rail) (s : State) : (setRail k v s).pwr = s.pwr := rfl
@[simp] theorem setRail_evlog (k : Nat) (v : Rail) (s : State) : (setRail k v s).evlog = s.evlog := rfl
@[simp] theorem setRail_cross (k : Nat) (v : Rail) (s : State) : (setRail k v s).cross = s.cross := rfl
@[simp] theorem setRail_pxl (k : Nat) (v : Rail) (s : State) : (setRail k v s).pxl = s.pxl := rfl
@[simp] theorem setRail_trx (k : Nat) (v : Rail) (s : State) : (setRail k v s).trx = s.trx := rfl
@[simp] theorem setRail_lake (k : Nat) (v : Rail) (s : State) : (setRail k v s).lake = s.lake := rfl
@[simp] theorem setRail_fst (k : Nat) (v : Rail) (s : State) : (setRail k v s).fst = s.fst := rfl
@[simp] theorem setRail_bnk (k : Nat) (v : Rail) (s : State) : (setRail k v s).bnk = s.bnk := rfl
@[simp] theorem setRail_mgt (k : Nat) (v : Rail) (s : State) : (setRail k v s).mgt = s.mgt := rfl
@[simp] theorem setRail_scan (k : Nat) (v : Rail) (s : State) : (setRail k v s).scan = s.scan := rfl
@[simp] theorem setRail_dlk (k : Nat) (v : Rail) (s : State) : (setRail k v s).dlk = s.dlk := rfl
@[simp] theorem setRail_drvRec (k : Nat) (v : Rail) (s : State) : (setRail k v s).drvRec = s.drvRec := rfl
@[simp] theorem setRail_wear (k : Nat) (v : Rail) (s : State) : (setRail k v s).wear = s.wear := rfl
@[simp] theorem setRail_safe (k : Nat) (v : Rail) (s : State) : (setRail k v s).safe = s.safe := rfl
@[simp] theorem setRail_cal (k : Nat) (v : Rail) (s : State) : (setRail k v s).cal = s.cal := rfl
@[simp] theorem setRail_gyl (k : Nat) (v : Rail) (s : State) : (setRail k v s).gyl = s.gyl := rfl
@[simp] theorem setRail_jrn (k : Nat) (v : Rail) (s : State) : (setRail k v s).jrn = s.jrn := rfl

/-! ### setPads -/

@[simp] theorem setPads_pending (k : Nat) (v : BandPins) (s : State) : (setPads k v s).pending = s.pending := rfl
@[simp] theorem setPads_now (k : Nat) (v : BandPins) (s : State) : (setPads k v s).now = s.now := rfl
@[simp] theorem setPads_free (k : Nat) (v : BandPins) (s : State) : (setPads k v s).free = s.free := rfl
@[simp] theorem setPads_obj (k : Nat) (v : BandPins) (s : State) : (setPads k v s).obj = s.obj := rfl
@[simp] theorem setPads_dom (k : Nat) (v : BandPins) (s : State) : (setPads k v s).dom = s.dom := rfl
@[simp] theorem setPads_mem (k : Nat) (v : BandPins) (s : State) : (setPads k v s).mem = s.mem := rfl
@[simp] theorem setPads_poison (k : Nat) (v : BandPins) (s : State) : (setPads k v s).poison = s.poison := rfl
@[simp] theorem setPads_boot (k : Nat) (v : BandPins) (s : State) : (setPads k v s).boot = s.boot := rfl
@[simp] theorem setPads_pwr (k : Nat) (v : BandPins) (s : State) : (setPads k v s).pwr = s.pwr := rfl
@[simp] theorem setPads_evlog (k : Nat) (v : BandPins) (s : State) : (setPads k v s).evlog = s.evlog := rfl
@[simp] theorem setPads_cross (k : Nat) (v : BandPins) (s : State) : (setPads k v s).cross = s.cross := rfl
@[simp] theorem setPads_pxl (k : Nat) (v : BandPins) (s : State) : (setPads k v s).pxl = s.pxl := rfl
@[simp] theorem setPads_trx (k : Nat) (v : BandPins) (s : State) : (setPads k v s).trx = s.trx := rfl
@[simp] theorem setPads_lake (k : Nat) (v : BandPins) (s : State) : (setPads k v s).lake = s.lake := rfl
@[simp] theorem setPads_fst (k : Nat) (v : BandPins) (s : State) : (setPads k v s).fst = s.fst := rfl
@[simp] theorem setPads_bnk (k : Nat) (v : BandPins) (s : State) : (setPads k v s).bnk = s.bnk := rfl
@[simp] theorem setPads_mgt (k : Nat) (v : BandPins) (s : State) : (setPads k v s).mgt = s.mgt := rfl
@[simp] theorem setPads_scan (k : Nat) (v : BandPins) (s : State) : (setPads k v s).scan = s.scan := rfl
@[simp] theorem setPads_dlk (k : Nat) (v : BandPins) (s : State) : (setPads k v s).dlk = s.dlk := rfl
@[simp] theorem setPads_drvRec (k : Nat) (v : BandPins) (s : State) : (setPads k v s).drvRec = s.drvRec := rfl
@[simp] theorem setPads_wear (k : Nat) (v : BandPins) (s : State) : (setPads k v s).wear = s.wear := rfl
@[simp] theorem setPads_safe (k : Nat) (v : BandPins) (s : State) : (setPads k v s).safe = s.safe := rfl
@[simp] theorem setPads_pnl (k : Nat) (v : BandPins) (s : State) : (setPads k v s).pnl = s.pnl := rfl
@[simp] theorem setPads_cal (k : Nat) (v : BandPins) (s : State) : (setPads k v s).cal = s.cal := rfl
@[simp] theorem setPads_gyl (k : Nat) (v : BandPins) (s : State) : (setPads k v s).gyl = s.gyl := rfl
@[simp] theorem setPads_jrn (k : Nat) (v : BandPins) (s : State) : (setPads k v s).jrn = s.jrn := rfl

/-! ### setMech -/

@[simp] theorem setMech_pending (k : Nat) (v : Mech) (s : State) : (setMech k v s).pending = s.pending := rfl
@[simp] theorem setMech_now (k : Nat) (v : Mech) (s : State) : (setMech k v s).now = s.now := rfl
@[simp] theorem setMech_free (k : Nat) (v : Mech) (s : State) : (setMech k v s).free = s.free := rfl
@[simp] theorem setMech_obj (k : Nat) (v : Mech) (s : State) : (setMech k v s).obj = s.obj := rfl
@[simp] theorem setMech_dom (k : Nat) (v : Mech) (s : State) : (setMech k v s).dom = s.dom := rfl
@[simp] theorem setMech_mem (k : Nat) (v : Mech) (s : State) : (setMech k v s).mem = s.mem := rfl
@[simp] theorem setMech_poison (k : Nat) (v : Mech) (s : State) : (setMech k v s).poison = s.poison := rfl
@[simp] theorem setMech_boot (k : Nat) (v : Mech) (s : State) : (setMech k v s).boot = s.boot := rfl
@[simp] theorem setMech_pins (k : Nat) (v : Mech) (s : State) : (setMech k v s).pins = s.pins := rfl
@[simp] theorem setMech_pwr (k : Nat) (v : Mech) (s : State) : (setMech k v s).pwr = s.pwr := rfl
@[simp] theorem setMech_evlog (k : Nat) (v : Mech) (s : State) : (setMech k v s).evlog = s.evlog := rfl
@[simp] theorem setMech_cross (k : Nat) (v : Mech) (s : State) : (setMech k v s).cross = s.cross := rfl
@[simp] theorem setMech_pxl (k : Nat) (v : Mech) (s : State) : (setMech k v s).pxl = s.pxl := rfl
@[simp] theorem setMech_trx (k : Nat) (v : Mech) (s : State) : (setMech k v s).trx = s.trx := rfl
@[simp] theorem setMech_lake (k : Nat) (v : Mech) (s : State) : (setMech k v s).lake = s.lake := rfl
@[simp] theorem setMech_fst (k : Nat) (v : Mech) (s : State) : (setMech k v s).fst = s.fst := rfl
@[simp] theorem setMech_bnk (k : Nat) (v : Mech) (s : State) : (setMech k v s).bnk = s.bnk := rfl
@[simp] theorem setMech_mgt (k : Nat) (v : Mech) (s : State) : (setMech k v s).mgt = s.mgt := rfl
@[simp] theorem setMech_scan (k : Nat) (v : Mech) (s : State) : (setMech k v s).scan = s.scan := rfl
@[simp] theorem setMech_dlk (k : Nat) (v : Mech) (s : State) : (setMech k v s).dlk = s.dlk := rfl
@[simp] theorem setMech_drvRec (k : Nat) (v : Mech) (s : State) : (setMech k v s).drvRec = s.drvRec := rfl
@[simp] theorem setMech_wear (k : Nat) (v : Mech) (s : State) : (setMech k v s).wear = s.wear := rfl
@[simp] theorem setMech_pnl (k : Nat) (v : Mech) (s : State) : (setMech k v s).pnl = s.pnl := rfl
@[simp] theorem setMech_cal (k : Nat) (v : Mech) (s : State) : (setMech k v s).cal = s.cal := rfl
@[simp] theorem setMech_gyl (k : Nat) (v : Mech) (s : State) : (setMech k v s).gyl = s.gyl := rfl
@[simp] theorem setMech_jrn (k : Nat) (v : Mech) (s : State) : (setMech k v s).jrn = s.jrn := rfl

/-! ### setTag -/

@[simp] theorem setTag_pending (k : Nat) (v : Tag) (s : State) : (setTag k v s).pending = s.pending := rfl
@[simp] theorem setTag_now (k : Nat) (v : Tag) (s : State) : (setTag k v s).now = s.now := rfl
@[simp] theorem setTag_free (k : Nat) (v : Tag) (s : State) : (setTag k v s).free = s.free := rfl
@[simp] theorem setTag_obj (k : Nat) (v : Tag) (s : State) : (setTag k v s).obj = s.obj := rfl
@[simp] theorem setTag_dom (k : Nat) (v : Tag) (s : State) : (setTag k v s).dom = s.dom := rfl
@[simp] theorem setTag_mem (k : Nat) (v : Tag) (s : State) : (setTag k v s).mem = s.mem := rfl
@[simp] theorem setTag_poison (k : Nat) (v : Tag) (s : State) : (setTag k v s).poison = s.poison := rfl
@[simp] theorem setTag_boot (k : Nat) (v : Tag) (s : State) : (setTag k v s).boot = s.boot := rfl
@[simp] theorem setTag_pins (k : Nat) (v : Tag) (s : State) : (setTag k v s).pins = s.pins := rfl
@[simp] theorem setTag_pwr (k : Nat) (v : Tag) (s : State) : (setTag k v s).pwr = s.pwr := rfl
@[simp] theorem setTag_evlog (k : Nat) (v : Tag) (s : State) : (setTag k v s).evlog = s.evlog := rfl
@[simp] theorem setTag_cross (k : Nat) (v : Tag) (s : State) : (setTag k v s).cross = s.cross := rfl
@[simp] theorem setTag_pxl (k : Nat) (v : Tag) (s : State) : (setTag k v s).pxl = s.pxl := rfl
@[simp] theorem setTag_lake (k : Nat) (v : Tag) (s : State) : (setTag k v s).lake = s.lake := rfl
@[simp] theorem setTag_fst (k : Nat) (v : Tag) (s : State) : (setTag k v s).fst = s.fst := rfl
@[simp] theorem setTag_bnk (k : Nat) (v : Tag) (s : State) : (setTag k v s).bnk = s.bnk := rfl
@[simp] theorem setTag_mgt (k : Nat) (v : Tag) (s : State) : (setTag k v s).mgt = s.mgt := rfl
@[simp] theorem setTag_scan (k : Nat) (v : Tag) (s : State) : (setTag k v s).scan = s.scan := rfl
@[simp] theorem setTag_dlk (k : Nat) (v : Tag) (s : State) : (setTag k v s).dlk = s.dlk := rfl
@[simp] theorem setTag_drvRec (k : Nat) (v : Tag) (s : State) : (setTag k v s).drvRec = s.drvRec := rfl
@[simp] theorem setTag_wear (k : Nat) (v : Tag) (s : State) : (setTag k v s).wear = s.wear := rfl
@[simp] theorem setTag_safe (k : Nat) (v : Tag) (s : State) : (setTag k v s).safe = s.safe := rfl
@[simp] theorem setTag_pnl (k : Nat) (v : Tag) (s : State) : (setTag k v s).pnl = s.pnl := rfl
@[simp] theorem setTag_cal (k : Nat) (v : Tag) (s : State) : (setTag k v s).cal = s.cal := rfl
@[simp] theorem setTag_gyl (k : Nat) (v : Tag) (s : State) : (setTag k v s).gyl = s.gyl := rfl
@[simp] theorem setTag_jrn (k : Nat) (v : Tag) (s : State) : (setTag k v s).jrn = s.jrn := rfl

/-! ### setGroup -/

@[simp] theorem setGroup_pending (k : Nat) (v : Group) (s : State) : (setGroup k v s).pending = s.pending := rfl
@[simp] theorem setGroup_now (k : Nat) (v : Group) (s : State) : (setGroup k v s).now = s.now := rfl
@[simp] theorem setGroup_free (k : Nat) (v : Group) (s : State) : (setGroup k v s).free = s.free := rfl
@[simp] theorem setGroup_obj (k : Nat) (v : Group) (s : State) : (setGroup k v s).obj = s.obj := rfl
@[simp] theorem setGroup_dom (k : Nat) (v : Group) (s : State) : (setGroup k v s).dom = s.dom := rfl
@[simp] theorem setGroup_mem (k : Nat) (v : Group) (s : State) : (setGroup k v s).mem = s.mem := rfl
@[simp] theorem setGroup_poison (k : Nat) (v : Group) (s : State) : (setGroup k v s).poison = s.poison := rfl
@[simp] theorem setGroup_boot (k : Nat) (v : Group) (s : State) : (setGroup k v s).boot = s.boot := rfl
@[simp] theorem setGroup_pins (k : Nat) (v : Group) (s : State) : (setGroup k v s).pins = s.pins := rfl
@[simp] theorem setGroup_pwr (k : Nat) (v : Group) (s : State) : (setGroup k v s).pwr = s.pwr := rfl
@[simp] theorem setGroup_evlog (k : Nat) (v : Group) (s : State) : (setGroup k v s).evlog = s.evlog := rfl
@[simp] theorem setGroup_cross (k : Nat) (v : Group) (s : State) : (setGroup k v s).cross = s.cross := rfl
@[simp] theorem setGroup_pxl (k : Nat) (v : Group) (s : State) : (setGroup k v s).pxl = s.pxl := rfl
@[simp] theorem setGroup_lake (k : Nat) (v : Group) (s : State) : (setGroup k v s).lake = s.lake := rfl
@[simp] theorem setGroup_fst (k : Nat) (v : Group) (s : State) : (setGroup k v s).fst = s.fst := rfl
@[simp] theorem setGroup_bnk (k : Nat) (v : Group) (s : State) : (setGroup k v s).bnk = s.bnk := rfl
@[simp] theorem setGroup_mgt (k : Nat) (v : Group) (s : State) : (setGroup k v s).mgt = s.mgt := rfl
@[simp] theorem setGroup_scan (k : Nat) (v : Group) (s : State) : (setGroup k v s).scan = s.scan := rfl
@[simp] theorem setGroup_dlk (k : Nat) (v : Group) (s : State) : (setGroup k v s).dlk = s.dlk := rfl
@[simp] theorem setGroup_drvRec (k : Nat) (v : Group) (s : State) : (setGroup k v s).drvRec = s.drvRec := rfl
@[simp] theorem setGroup_wear (k : Nat) (v : Group) (s : State) : (setGroup k v s).wear = s.wear := rfl
@[simp] theorem setGroup_safe (k : Nat) (v : Group) (s : State) : (setGroup k v s).safe = s.safe := rfl
@[simp] theorem setGroup_pnl (k : Nat) (v : Group) (s : State) : (setGroup k v s).pnl = s.pnl := rfl
@[simp] theorem setGroup_cal (k : Nat) (v : Group) (s : State) : (setGroup k v s).cal = s.cal := rfl
@[simp] theorem setGroup_gyl (k : Nat) (v : Group) (s : State) : (setGroup k v s).gyl = s.gyl := rfl
@[simp] theorem setGroup_jrn (k : Nat) (v : Group) (s : State) : (setGroup k v s).jrn = s.jrn := rfl

/-! ### setLane -/

@[simp] theorem setLane_pending (k : Nat) (v : Lane) (s : State) : (setLane k v s).pending = s.pending := rfl
@[simp] theorem setLane_now (k : Nat) (v : Lane) (s : State) : (setLane k v s).now = s.now := rfl
@[simp] theorem setLane_free (k : Nat) (v : Lane) (s : State) : (setLane k v s).free = s.free := rfl
@[simp] theorem setLane_obj (k : Nat) (v : Lane) (s : State) : (setLane k v s).obj = s.obj := rfl
@[simp] theorem setLane_dom (k : Nat) (v : Lane) (s : State) : (setLane k v s).dom = s.dom := rfl
@[simp] theorem setLane_mem (k : Nat) (v : Lane) (s : State) : (setLane k v s).mem = s.mem := rfl
@[simp] theorem setLane_poison (k : Nat) (v : Lane) (s : State) : (setLane k v s).poison = s.poison := rfl
@[simp] theorem setLane_boot (k : Nat) (v : Lane) (s : State) : (setLane k v s).boot = s.boot := rfl
@[simp] theorem setLane_pins (k : Nat) (v : Lane) (s : State) : (setLane k v s).pins = s.pins := rfl
@[simp] theorem setLane_pwr (k : Nat) (v : Lane) (s : State) : (setLane k v s).pwr = s.pwr := rfl
@[simp] theorem setLane_evlog (k : Nat) (v : Lane) (s : State) : (setLane k v s).evlog = s.evlog := rfl
@[simp] theorem setLane_cross (k : Nat) (v : Lane) (s : State) : (setLane k v s).cross = s.cross := rfl
@[simp] theorem setLane_trx (k : Nat) (v : Lane) (s : State) : (setLane k v s).trx = s.trx := rfl
@[simp] theorem setLane_lake (k : Nat) (v : Lane) (s : State) : (setLane k v s).lake = s.lake := rfl
@[simp] theorem setLane_fst (k : Nat) (v : Lane) (s : State) : (setLane k v s).fst = s.fst := rfl
@[simp] theorem setLane_bnk (k : Nat) (v : Lane) (s : State) : (setLane k v s).bnk = s.bnk := rfl
@[simp] theorem setLane_mgt (k : Nat) (v : Lane) (s : State) : (setLane k v s).mgt = s.mgt := rfl
@[simp] theorem setLane_scan (k : Nat) (v : Lane) (s : State) : (setLane k v s).scan = s.scan := rfl
@[simp] theorem setLane_dlk (k : Nat) (v : Lane) (s : State) : (setLane k v s).dlk = s.dlk := rfl
@[simp] theorem setLane_drvRec (k : Nat) (v : Lane) (s : State) : (setLane k v s).drvRec = s.drvRec := rfl
@[simp] theorem setLane_wear (k : Nat) (v : Lane) (s : State) : (setLane k v s).wear = s.wear := rfl
@[simp] theorem setLane_safe (k : Nat) (v : Lane) (s : State) : (setLane k v s).safe = s.safe := rfl
@[simp] theorem setLane_pnl (k : Nat) (v : Lane) (s : State) : (setLane k v s).pnl = s.pnl := rfl
@[simp] theorem setLane_cal (k : Nat) (v : Lane) (s : State) : (setLane k v s).cal = s.cal := rfl
@[simp] theorem setLane_gyl (k : Nat) (v : Lane) (s : State) : (setLane k v s).gyl = s.gyl := rfl
@[simp] theorem setLane_jrn (k : Nat) (v : Lane) (s : State) : (setLane k v s).jrn = s.jrn := rfl

/-! ### setSlot -/

@[simp] theorem setSlot_pending (k : Nat) (v : Slot) (s : State) : (setSlot k v s).pending = s.pending := rfl
@[simp] theorem setSlot_now (k : Nat) (v : Slot) (s : State) : (setSlot k v s).now = s.now := rfl
@[simp] theorem setSlot_free (k : Nat) (v : Slot) (s : State) : (setSlot k v s).free = s.free := rfl
@[simp] theorem setSlot_obj (k : Nat) (v : Slot) (s : State) : (setSlot k v s).obj = s.obj := rfl
@[simp] theorem setSlot_dom (k : Nat) (v : Slot) (s : State) : (setSlot k v s).dom = s.dom := rfl
@[simp] theorem setSlot_mem (k : Nat) (v : Slot) (s : State) : (setSlot k v s).mem = s.mem := rfl
@[simp] theorem setSlot_poison (k : Nat) (v : Slot) (s : State) : (setSlot k v s).poison = s.poison := rfl
@[simp] theorem setSlot_boot (k : Nat) (v : Slot) (s : State) : (setSlot k v s).boot = s.boot := rfl
@[simp] theorem setSlot_pins (k : Nat) (v : Slot) (s : State) : (setSlot k v s).pins = s.pins := rfl
@[simp] theorem setSlot_pwr (k : Nat) (v : Slot) (s : State) : (setSlot k v s).pwr = s.pwr := rfl
@[simp] theorem setSlot_evlog (k : Nat) (v : Slot) (s : State) : (setSlot k v s).evlog = s.evlog := rfl
@[simp] theorem setSlot_cross (k : Nat) (v : Slot) (s : State) : (setSlot k v s).cross = s.cross := rfl
@[simp] theorem setSlot_pxl (k : Nat) (v : Slot) (s : State) : (setSlot k v s).pxl = s.pxl := rfl
@[simp] theorem setSlot_trx (k : Nat) (v : Slot) (s : State) : (setSlot k v s).trx = s.trx := rfl
@[simp] theorem setSlot_fst (k : Nat) (v : Slot) (s : State) : (setSlot k v s).fst = s.fst := rfl
@[simp] theorem setSlot_bnk (k : Nat) (v : Slot) (s : State) : (setSlot k v s).bnk = s.bnk := rfl
@[simp] theorem setSlot_mgt (k : Nat) (v : Slot) (s : State) : (setSlot k v s).mgt = s.mgt := rfl
@[simp] theorem setSlot_scan (k : Nat) (v : Slot) (s : State) : (setSlot k v s).scan = s.scan := rfl
@[simp] theorem setSlot_dlk (k : Nat) (v : Slot) (s : State) : (setSlot k v s).dlk = s.dlk := rfl
@[simp] theorem setSlot_drvRec (k : Nat) (v : Slot) (s : State) : (setSlot k v s).drvRec = s.drvRec := rfl
@[simp] theorem setSlot_wear (k : Nat) (v : Slot) (s : State) : (setSlot k v s).wear = s.wear := rfl
@[simp] theorem setSlot_safe (k : Nat) (v : Slot) (s : State) : (setSlot k v s).safe = s.safe := rfl
@[simp] theorem setSlot_pnl (k : Nat) (v : Slot) (s : State) : (setSlot k v s).pnl = s.pnl := rfl
@[simp] theorem setSlot_cal (k : Nat) (v : Slot) (s : State) : (setSlot k v s).cal = s.cal := rfl
@[simp] theorem setSlot_gyl (k : Nat) (v : Slot) (s : State) : (setSlot k v s).gyl = s.gyl := rfl
@[simp] theorem setSlot_jrn (k : Nat) (v : Slot) (s : State) : (setSlot k v s).jrn = s.jrn := rfl

/-! ### setBank -/

@[simp] theorem setBank_pending (k : Nat) (v : Bank) (s : State) : (setBank k v s).pending = s.pending := rfl
@[simp] theorem setBank_now (k : Nat) (v : Bank) (s : State) : (setBank k v s).now = s.now := rfl
@[simp] theorem setBank_free (k : Nat) (v : Bank) (s : State) : (setBank k v s).free = s.free := rfl
@[simp] theorem setBank_obj (k : Nat) (v : Bank) (s : State) : (setBank k v s).obj = s.obj := rfl
@[simp] theorem setBank_dom (k : Nat) (v : Bank) (s : State) : (setBank k v s).dom = s.dom := rfl
@[simp] theorem setBank_mem (k : Nat) (v : Bank) (s : State) : (setBank k v s).mem = s.mem := rfl
@[simp] theorem setBank_poison (k : Nat) (v : Bank) (s : State) : (setBank k v s).poison = s.poison := rfl
@[simp] theorem setBank_boot (k : Nat) (v : Bank) (s : State) : (setBank k v s).boot = s.boot := rfl
@[simp] theorem setBank_pins (k : Nat) (v : Bank) (s : State) : (setBank k v s).pins = s.pins := rfl
@[simp] theorem setBank_pwr (k : Nat) (v : Bank) (s : State) : (setBank k v s).pwr = s.pwr := rfl
@[simp] theorem setBank_evlog (k : Nat) (v : Bank) (s : State) : (setBank k v s).evlog = s.evlog := rfl
@[simp] theorem setBank_cross (k : Nat) (v : Bank) (s : State) : (setBank k v s).cross = s.cross := rfl
@[simp] theorem setBank_pxl (k : Nat) (v : Bank) (s : State) : (setBank k v s).pxl = s.pxl := rfl
@[simp] theorem setBank_trx (k : Nat) (v : Bank) (s : State) : (setBank k v s).trx = s.trx := rfl
@[simp] theorem setBank_lake (k : Nat) (v : Bank) (s : State) : (setBank k v s).lake = s.lake := rfl
@[simp] theorem setBank_fst (k : Nat) (v : Bank) (s : State) : (setBank k v s).fst = s.fst := rfl
@[simp] theorem setBank_mgt (k : Nat) (v : Bank) (s : State) : (setBank k v s).mgt = s.mgt := rfl
@[simp] theorem setBank_scan (k : Nat) (v : Bank) (s : State) : (setBank k v s).scan = s.scan := rfl
@[simp] theorem setBank_dlk (k : Nat) (v : Bank) (s : State) : (setBank k v s).dlk = s.dlk := rfl
@[simp] theorem setBank_drvRec (k : Nat) (v : Bank) (s : State) : (setBank k v s).drvRec = s.drvRec := rfl
@[simp] theorem setBank_wear (k : Nat) (v : Bank) (s : State) : (setBank k v s).wear = s.wear := rfl
@[simp] theorem setBank_safe (k : Nat) (v : Bank) (s : State) : (setBank k v s).safe = s.safe := rfl
@[simp] theorem setBank_pnl (k : Nat) (v : Bank) (s : State) : (setBank k v s).pnl = s.pnl := rfl
@[simp] theorem setBank_cal (k : Nat) (v : Bank) (s : State) : (setBank k v s).cal = s.cal := rfl
@[simp] theorem setBank_gyl (k : Nat) (v : Bank) (s : State) : (setBank k v s).gyl = s.gyl := rfl
@[simp] theorem setBank_jrn (k : Nat) (v : Bank) (s : State) : (setBank k v s).jrn = s.jrn := rfl

/-! ### setCross -/

@[simp] theorem setCross_pending (k : Nat) (v : Crossing) (s : State) : (setCross k v s).pending = s.pending := rfl
@[simp] theorem setCross_now (k : Nat) (v : Crossing) (s : State) : (setCross k v s).now = s.now := rfl
@[simp] theorem setCross_free (k : Nat) (v : Crossing) (s : State) : (setCross k v s).free = s.free := rfl
@[simp] theorem setCross_obj (k : Nat) (v : Crossing) (s : State) : (setCross k v s).obj = s.obj := rfl
@[simp] theorem setCross_dom (k : Nat) (v : Crossing) (s : State) : (setCross k v s).dom = s.dom := rfl
@[simp] theorem setCross_mem (k : Nat) (v : Crossing) (s : State) : (setCross k v s).mem = s.mem := rfl
@[simp] theorem setCross_poison (k : Nat) (v : Crossing) (s : State) : (setCross k v s).poison = s.poison := rfl
@[simp] theorem setCross_boot (k : Nat) (v : Crossing) (s : State) : (setCross k v s).boot = s.boot := rfl
@[simp] theorem setCross_pins (k : Nat) (v : Crossing) (s : State) : (setCross k v s).pins = s.pins := rfl
@[simp] theorem setCross_pwr (k : Nat) (v : Crossing) (s : State) : (setCross k v s).pwr = s.pwr := rfl
@[simp] theorem setCross_evlog (k : Nat) (v : Crossing) (s : State) : (setCross k v s).evlog = s.evlog := rfl
@[simp] theorem setCross_pxl (k : Nat) (v : Crossing) (s : State) : (setCross k v s).pxl = s.pxl := rfl
@[simp] theorem setCross_trx (k : Nat) (v : Crossing) (s : State) : (setCross k v s).trx = s.trx := rfl
@[simp] theorem setCross_lake (k : Nat) (v : Crossing) (s : State) : (setCross k v s).lake = s.lake := rfl
@[simp] theorem setCross_fst (k : Nat) (v : Crossing) (s : State) : (setCross k v s).fst = s.fst := rfl
@[simp] theorem setCross_bnk (k : Nat) (v : Crossing) (s : State) : (setCross k v s).bnk = s.bnk := rfl
@[simp] theorem setCross_mgt (k : Nat) (v : Crossing) (s : State) : (setCross k v s).mgt = s.mgt := rfl
@[simp] theorem setCross_scan (k : Nat) (v : Crossing) (s : State) : (setCross k v s).scan = s.scan := rfl
@[simp] theorem setCross_dlk (k : Nat) (v : Crossing) (s : State) : (setCross k v s).dlk = s.dlk := rfl
@[simp] theorem setCross_drvRec (k : Nat) (v : Crossing) (s : State) : (setCross k v s).drvRec = s.drvRec := rfl
@[simp] theorem setCross_wear (k : Nat) (v : Crossing) (s : State) : (setCross k v s).wear = s.wear := rfl
@[simp] theorem setCross_safe (k : Nat) (v : Crossing) (s : State) : (setCross k v s).safe = s.safe := rfl
@[simp] theorem setCross_pnl (k : Nat) (v : Crossing) (s : State) : (setCross k v s).pnl = s.pnl := rfl
@[simp] theorem setCross_cal (k : Nat) (v : Crossing) (s : State) : (setCross k v s).cal = s.cal := rfl
@[simp] theorem setCross_gyl (k : Nat) (v : Crossing) (s : State) : (setCross k v s).gyl = s.gyl := rfl
@[simp] theorem setCross_jrn (k : Nat) (v : Crossing) (s : State) : (setCross k v s).jrn = s.jrn := rfl

/-! ### setAdc -/

@[simp] theorem setAdc_pending (k : Nat) (v : AdcIn) (s : State) : (setAdc k v s).pending = s.pending := rfl
@[simp] theorem setAdc_now (k : Nat) (v : AdcIn) (s : State) : (setAdc k v s).now = s.now := rfl
@[simp] theorem setAdc_free (k : Nat) (v : AdcIn) (s : State) : (setAdc k v s).free = s.free := rfl
@[simp] theorem setAdc_obj (k : Nat) (v : AdcIn) (s : State) : (setAdc k v s).obj = s.obj := rfl
@[simp] theorem setAdc_dom (k : Nat) (v : AdcIn) (s : State) : (setAdc k v s).dom = s.dom := rfl
@[simp] theorem setAdc_mem (k : Nat) (v : AdcIn) (s : State) : (setAdc k v s).mem = s.mem := rfl
@[simp] theorem setAdc_poison (k : Nat) (v : AdcIn) (s : State) : (setAdc k v s).poison = s.poison := rfl
@[simp] theorem setAdc_boot (k : Nat) (v : AdcIn) (s : State) : (setAdc k v s).boot = s.boot := rfl
@[simp] theorem setAdc_pins (k : Nat) (v : AdcIn) (s : State) : (setAdc k v s).pins = s.pins := rfl
@[simp] theorem setAdc_pwr (k : Nat) (v : AdcIn) (s : State) : (setAdc k v s).pwr = s.pwr := rfl
@[simp] theorem setAdc_evlog (k : Nat) (v : AdcIn) (s : State) : (setAdc k v s).evlog = s.evlog := rfl
@[simp] theorem setAdc_cross (k : Nat) (v : AdcIn) (s : State) : (setAdc k v s).cross = s.cross := rfl
@[simp] theorem setAdc_pxl (k : Nat) (v : AdcIn) (s : State) : (setAdc k v s).pxl = s.pxl := rfl
@[simp] theorem setAdc_trx (k : Nat) (v : AdcIn) (s : State) : (setAdc k v s).trx = s.trx := rfl
@[simp] theorem setAdc_lake (k : Nat) (v : AdcIn) (s : State) : (setAdc k v s).lake = s.lake := rfl
@[simp] theorem setAdc_fst (k : Nat) (v : AdcIn) (s : State) : (setAdc k v s).fst = s.fst := rfl
@[simp] theorem setAdc_bnk (k : Nat) (v : AdcIn) (s : State) : (setAdc k v s).bnk = s.bnk := rfl
@[simp] theorem setAdc_mgt (k : Nat) (v : AdcIn) (s : State) : (setAdc k v s).mgt = s.mgt := rfl
@[simp] theorem setAdc_scan (k : Nat) (v : AdcIn) (s : State) : (setAdc k v s).scan = s.scan := rfl
@[simp] theorem setAdc_dlk (k : Nat) (v : AdcIn) (s : State) : (setAdc k v s).dlk = s.dlk := rfl
@[simp] theorem setAdc_drvRec (k : Nat) (v : AdcIn) (s : State) : (setAdc k v s).drvRec = s.drvRec := rfl
@[simp] theorem setAdc_wear (k : Nat) (v : AdcIn) (s : State) : (setAdc k v s).wear = s.wear := rfl
@[simp] theorem setAdc_safe (k : Nat) (v : AdcIn) (s : State) : (setAdc k v s).safe = s.safe := rfl
@[simp] theorem setAdc_pnl (k : Nat) (v : AdcIn) (s : State) : (setAdc k v s).pnl = s.pnl := rfl
@[simp] theorem setAdc_gyl (k : Nat) (v : AdcIn) (s : State) : (setAdc k v s).gyl = s.gyl := rfl
@[simp] theorem setAdc_jrn (k : Nat) (v : AdcIn) (s : State) : (setAdc k v s).jrn = s.jrn := rfl

/-! ### setCalBand -/

@[simp] theorem setCalBand_pending (k : Nat) (v : CalBand) (s : State) : (setCalBand k v s).pending = s.pending := rfl
@[simp] theorem setCalBand_now (k : Nat) (v : CalBand) (s : State) : (setCalBand k v s).now = s.now := rfl
@[simp] theorem setCalBand_free (k : Nat) (v : CalBand) (s : State) : (setCalBand k v s).free = s.free := rfl
@[simp] theorem setCalBand_obj (k : Nat) (v : CalBand) (s : State) : (setCalBand k v s).obj = s.obj := rfl
@[simp] theorem setCalBand_dom (k : Nat) (v : CalBand) (s : State) : (setCalBand k v s).dom = s.dom := rfl
@[simp] theorem setCalBand_mem (k : Nat) (v : CalBand) (s : State) : (setCalBand k v s).mem = s.mem := rfl
@[simp] theorem setCalBand_poison (k : Nat) (v : CalBand) (s : State) : (setCalBand k v s).poison = s.poison := rfl
@[simp] theorem setCalBand_boot (k : Nat) (v : CalBand) (s : State) : (setCalBand k v s).boot = s.boot := rfl
@[simp] theorem setCalBand_pins (k : Nat) (v : CalBand) (s : State) : (setCalBand k v s).pins = s.pins := rfl
@[simp] theorem setCalBand_pwr (k : Nat) (v : CalBand) (s : State) : (setCalBand k v s).pwr = s.pwr := rfl
@[simp] theorem setCalBand_evlog (k : Nat) (v : CalBand) (s : State) : (setCalBand k v s).evlog = s.evlog := rfl
@[simp] theorem setCalBand_cross (k : Nat) (v : CalBand) (s : State) : (setCalBand k v s).cross = s.cross := rfl
@[simp] theorem setCalBand_pxl (k : Nat) (v : CalBand) (s : State) : (setCalBand k v s).pxl = s.pxl := rfl
@[simp] theorem setCalBand_trx (k : Nat) (v : CalBand) (s : State) : (setCalBand k v s).trx = s.trx := rfl
@[simp] theorem setCalBand_lake (k : Nat) (v : CalBand) (s : State) : (setCalBand k v s).lake = s.lake := rfl
@[simp] theorem setCalBand_fst (k : Nat) (v : CalBand) (s : State) : (setCalBand k v s).fst = s.fst := rfl
@[simp] theorem setCalBand_bnk (k : Nat) (v : CalBand) (s : State) : (setCalBand k v s).bnk = s.bnk := rfl
@[simp] theorem setCalBand_mgt (k : Nat) (v : CalBand) (s : State) : (setCalBand k v s).mgt = s.mgt := rfl
@[simp] theorem setCalBand_scan (k : Nat) (v : CalBand) (s : State) : (setCalBand k v s).scan = s.scan := rfl
@[simp] theorem setCalBand_dlk (k : Nat) (v : CalBand) (s : State) : (setCalBand k v s).dlk = s.dlk := rfl
@[simp] theorem setCalBand_drvRec (k : Nat) (v : CalBand) (s : State) : (setCalBand k v s).drvRec = s.drvRec := rfl
@[simp] theorem setCalBand_wear (k : Nat) (v : CalBand) (s : State) : (setCalBand k v s).wear = s.wear := rfl
@[simp] theorem setCalBand_safe (k : Nat) (v : CalBand) (s : State) : (setCalBand k v s).safe = s.safe := rfl
@[simp] theorem setCalBand_pnl (k : Nat) (v : CalBand) (s : State) : (setCalBand k v s).pnl = s.pnl := rfl
@[simp] theorem setCalBand_gyl (k : Nat) (v : CalBand) (s : State) : (setCalBand k v s).gyl = s.gyl := rfl
@[simp] theorem setCalBand_jrn (k : Nat) (v : CalBand) (s : State) : (setCalBand k v s).jrn = s.jrn := rfl

/-! ### setNode -/

@[simp] theorem setNode_pending (k : Nat) (v : Node) (s : State) : (setNode k v s).pending = s.pending := rfl
@[simp] theorem setNode_now (k : Nat) (v : Node) (s : State) : (setNode k v s).now = s.now := rfl
@[simp] theorem setNode_free (k : Nat) (v : Node) (s : State) : (setNode k v s).free = s.free := rfl
@[simp] theorem setNode_obj (k : Nat) (v : Node) (s : State) : (setNode k v s).obj = s.obj := rfl
@[simp] theorem setNode_dom (k : Nat) (v : Node) (s : State) : (setNode k v s).dom = s.dom := rfl
@[simp] theorem setNode_mem (k : Nat) (v : Node) (s : State) : (setNode k v s).mem = s.mem := rfl
@[simp] theorem setNode_poison (k : Nat) (v : Node) (s : State) : (setNode k v s).poison = s.poison := rfl
@[simp] theorem setNode_boot (k : Nat) (v : Node) (s : State) : (setNode k v s).boot = s.boot := rfl
@[simp] theorem setNode_pins (k : Nat) (v : Node) (s : State) : (setNode k v s).pins = s.pins := rfl
@[simp] theorem setNode_pwr (k : Nat) (v : Node) (s : State) : (setNode k v s).pwr = s.pwr := rfl
@[simp] theorem setNode_evlog (k : Nat) (v : Node) (s : State) : (setNode k v s).evlog = s.evlog := rfl
@[simp] theorem setNode_cross (k : Nat) (v : Node) (s : State) : (setNode k v s).cross = s.cross := rfl
@[simp] theorem setNode_pxl (k : Nat) (v : Node) (s : State) : (setNode k v s).pxl = s.pxl := rfl
@[simp] theorem setNode_trx (k : Nat) (v : Node) (s : State) : (setNode k v s).trx = s.trx := rfl
@[simp] theorem setNode_lake (k : Nat) (v : Node) (s : State) : (setNode k v s).lake = s.lake := rfl
@[simp] theorem setNode_fst (k : Nat) (v : Node) (s : State) : (setNode k v s).fst = s.fst := rfl
@[simp] theorem setNode_bnk (k : Nat) (v : Node) (s : State) : (setNode k v s).bnk = s.bnk := rfl
@[simp] theorem setNode_mgt (k : Nat) (v : Node) (s : State) : (setNode k v s).mgt = s.mgt := rfl
@[simp] theorem setNode_scan (k : Nat) (v : Node) (s : State) : (setNode k v s).scan = s.scan := rfl
@[simp] theorem setNode_dlk (k : Nat) (v : Node) (s : State) : (setNode k v s).dlk = s.dlk := rfl
@[simp] theorem setNode_drvRec (k : Nat) (v : Node) (s : State) : (setNode k v s).drvRec = s.drvRec := rfl
@[simp] theorem setNode_wear (k : Nat) (v : Node) (s : State) : (setNode k v s).wear = s.wear := rfl
@[simp] theorem setNode_safe (k : Nat) (v : Node) (s : State) : (setNode k v s).safe = s.safe := rfl
@[simp] theorem setNode_pnl (k : Nat) (v : Node) (s : State) : (setNode k v s).pnl = s.pnl := rfl
@[simp] theorem setNode_cal (k : Nat) (v : Node) (s : State) : (setNode k v s).cal = s.cal := rfl
@[simp] theorem setNode_jrn (k : Nat) (v : Node) (s : State) : (setNode k v s).jrn = s.jrn := rfl

/-! ### setLoop -/

@[simp] theorem setLoop_pending (k : Nat) (v : Loop) (s : State) : (setLoop k v s).pending = s.pending := rfl
@[simp] theorem setLoop_now (k : Nat) (v : Loop) (s : State) : (setLoop k v s).now = s.now := rfl
@[simp] theorem setLoop_free (k : Nat) (v : Loop) (s : State) : (setLoop k v s).free = s.free := rfl
@[simp] theorem setLoop_obj (k : Nat) (v : Loop) (s : State) : (setLoop k v s).obj = s.obj := rfl
@[simp] theorem setLoop_dom (k : Nat) (v : Loop) (s : State) : (setLoop k v s).dom = s.dom := rfl
@[simp] theorem setLoop_mem (k : Nat) (v : Loop) (s : State) : (setLoop k v s).mem = s.mem := rfl
@[simp] theorem setLoop_poison (k : Nat) (v : Loop) (s : State) : (setLoop k v s).poison = s.poison := rfl
@[simp] theorem setLoop_boot (k : Nat) (v : Loop) (s : State) : (setLoop k v s).boot = s.boot := rfl
@[simp] theorem setLoop_pins (k : Nat) (v : Loop) (s : State) : (setLoop k v s).pins = s.pins := rfl
@[simp] theorem setLoop_pwr (k : Nat) (v : Loop) (s : State) : (setLoop k v s).pwr = s.pwr := rfl
@[simp] theorem setLoop_evlog (k : Nat) (v : Loop) (s : State) : (setLoop k v s).evlog = s.evlog := rfl
@[simp] theorem setLoop_cross (k : Nat) (v : Loop) (s : State) : (setLoop k v s).cross = s.cross := rfl
@[simp] theorem setLoop_pxl (k : Nat) (v : Loop) (s : State) : (setLoop k v s).pxl = s.pxl := rfl
@[simp] theorem setLoop_trx (k : Nat) (v : Loop) (s : State) : (setLoop k v s).trx = s.trx := rfl
@[simp] theorem setLoop_lake (k : Nat) (v : Loop) (s : State) : (setLoop k v s).lake = s.lake := rfl
@[simp] theorem setLoop_fst (k : Nat) (v : Loop) (s : State) : (setLoop k v s).fst = s.fst := rfl
@[simp] theorem setLoop_bnk (k : Nat) (v : Loop) (s : State) : (setLoop k v s).bnk = s.bnk := rfl
@[simp] theorem setLoop_mgt (k : Nat) (v : Loop) (s : State) : (setLoop k v s).mgt = s.mgt := rfl
@[simp] theorem setLoop_scan (k : Nat) (v : Loop) (s : State) : (setLoop k v s).scan = s.scan := rfl
@[simp] theorem setLoop_dlk (k : Nat) (v : Loop) (s : State) : (setLoop k v s).dlk = s.dlk := rfl
@[simp] theorem setLoop_drvRec (k : Nat) (v : Loop) (s : State) : (setLoop k v s).drvRec = s.drvRec := rfl
@[simp] theorem setLoop_wear (k : Nat) (v : Loop) (s : State) : (setLoop k v s).wear = s.wear := rfl
@[simp] theorem setLoop_safe (k : Nat) (v : Loop) (s : State) : (setLoop k v s).safe = s.safe := rfl
@[simp] theorem setLoop_cal (k : Nat) (v : Loop) (s : State) : (setLoop k v s).cal = s.cal := rfl
@[simp] theorem setLoop_gyl (k : Nat) (v : Loop) (s : State) : (setLoop k v s).gyl = s.gyl := rfl
@[simp] theorem setLoop_jrn (k : Nat) (v : Loop) (s : State) : (setLoop k v s).jrn = s.jrn := rfl

/-! ### pushBack -/

@[simp] theorem pushBack_pending (q : BackPkt) (s : State) : (pushBack q s).pending = s.pending := rfl
@[simp] theorem pushBack_now (q : BackPkt) (s : State) : (pushBack q s).now = s.now := rfl
@[simp] theorem pushBack_free (q : BackPkt) (s : State) : (pushBack q s).free = s.free := rfl
@[simp] theorem pushBack_obj (q : BackPkt) (s : State) : (pushBack q s).obj = s.obj := rfl
@[simp] theorem pushBack_dom (q : BackPkt) (s : State) : (pushBack q s).dom = s.dom := rfl
@[simp] theorem pushBack_mem (q : BackPkt) (s : State) : (pushBack q s).mem = s.mem := rfl
@[simp] theorem pushBack_poison (q : BackPkt) (s : State) : (pushBack q s).poison = s.poison := rfl
@[simp] theorem pushBack_boot (q : BackPkt) (s : State) : (pushBack q s).boot = s.boot := rfl
@[simp] theorem pushBack_pins (q : BackPkt) (s : State) : (pushBack q s).pins = s.pins := rfl
@[simp] theorem pushBack_pwr (q : BackPkt) (s : State) : (pushBack q s).pwr = s.pwr := rfl
@[simp] theorem pushBack_evlog (q : BackPkt) (s : State) : (pushBack q s).evlog = s.evlog := rfl
@[simp] theorem pushBack_cross (q : BackPkt) (s : State) : (pushBack q s).cross = s.cross := rfl
@[simp] theorem pushBack_pxl (q : BackPkt) (s : State) : (pushBack q s).pxl = s.pxl := rfl
@[simp] theorem pushBack_lake (q : BackPkt) (s : State) : (pushBack q s).lake = s.lake := rfl
@[simp] theorem pushBack_fst (q : BackPkt) (s : State) : (pushBack q s).fst = s.fst := rfl
@[simp] theorem pushBack_bnk (q : BackPkt) (s : State) : (pushBack q s).bnk = s.bnk := rfl
@[simp] theorem pushBack_mgt (q : BackPkt) (s : State) : (pushBack q s).mgt = s.mgt := rfl
@[simp] theorem pushBack_scan (q : BackPkt) (s : State) : (pushBack q s).scan = s.scan := rfl
@[simp] theorem pushBack_dlk (q : BackPkt) (s : State) : (pushBack q s).dlk = s.dlk := rfl
@[simp] theorem pushBack_drvRec (q : BackPkt) (s : State) : (pushBack q s).drvRec = s.drvRec := rfl
@[simp] theorem pushBack_wear (q : BackPkt) (s : State) : (pushBack q s).wear = s.wear := rfl
@[simp] theorem pushBack_safe (q : BackPkt) (s : State) : (pushBack q s).safe = s.safe := rfl
@[simp] theorem pushBack_pnl (q : BackPkt) (s : State) : (pushBack q s).pnl = s.pnl := rfl
@[simp] theorem pushBack_cal (q : BackPkt) (s : State) : (pushBack q s).cal = s.cal := rfl
@[simp] theorem pushBack_gyl (q : BackPkt) (s : State) : (pushBack q s).gyl = s.gyl := rfl
@[simp] theorem pushBack_jrn (q : BackPkt) (s : State) : (pushBack q s).jrn = s.jrn := rfl

/-! ### modPxl -/

@[simp] theorem modPxl_pending (f : Pxl → Pxl) (s : State) : (modPxl f s).pending = s.pending := rfl
@[simp] theorem modPxl_now (f : Pxl → Pxl) (s : State) : (modPxl f s).now = s.now := rfl
@[simp] theorem modPxl_free (f : Pxl → Pxl) (s : State) : (modPxl f s).free = s.free := rfl
@[simp] theorem modPxl_obj (f : Pxl → Pxl) (s : State) : (modPxl f s).obj = s.obj := rfl
@[simp] theorem modPxl_dom (f : Pxl → Pxl) (s : State) : (modPxl f s).dom = s.dom := rfl
@[simp] theorem modPxl_mem (f : Pxl → Pxl) (s : State) : (modPxl f s).mem = s.mem := rfl
@[simp] theorem modPxl_poison (f : Pxl → Pxl) (s : State) : (modPxl f s).poison = s.poison := rfl
@[simp] theorem modPxl_boot (f : Pxl → Pxl) (s : State) : (modPxl f s).boot = s.boot := rfl
@[simp] theorem modPxl_pins (f : Pxl → Pxl) (s : State) : (modPxl f s).pins = s.pins := rfl
@[simp] theorem modPxl_pwr (f : Pxl → Pxl) (s : State) : (modPxl f s).pwr = s.pwr := rfl
@[simp] theorem modPxl_evlog (f : Pxl → Pxl) (s : State) : (modPxl f s).evlog = s.evlog := rfl
@[simp] theorem modPxl_cross (f : Pxl → Pxl) (s : State) : (modPxl f s).cross = s.cross := rfl
@[simp] theorem modPxl_trx (f : Pxl → Pxl) (s : State) : (modPxl f s).trx = s.trx := rfl
@[simp] theorem modPxl_lake (f : Pxl → Pxl) (s : State) : (modPxl f s).lake = s.lake := rfl
@[simp] theorem modPxl_fst (f : Pxl → Pxl) (s : State) : (modPxl f s).fst = s.fst := rfl
@[simp] theorem modPxl_bnk (f : Pxl → Pxl) (s : State) : (modPxl f s).bnk = s.bnk := rfl
@[simp] theorem modPxl_mgt (f : Pxl → Pxl) (s : State) : (modPxl f s).mgt = s.mgt := rfl
@[simp] theorem modPxl_scan (f : Pxl → Pxl) (s : State) : (modPxl f s).scan = s.scan := rfl
@[simp] theorem modPxl_dlk (f : Pxl → Pxl) (s : State) : (modPxl f s).dlk = s.dlk := rfl
@[simp] theorem modPxl_drvRec (f : Pxl → Pxl) (s : State) : (modPxl f s).drvRec = s.drvRec := rfl
@[simp] theorem modPxl_wear (f : Pxl → Pxl) (s : State) : (modPxl f s).wear = s.wear := rfl
@[simp] theorem modPxl_safe (f : Pxl → Pxl) (s : State) : (modPxl f s).safe = s.safe := rfl
@[simp] theorem modPxl_pnl (f : Pxl → Pxl) (s : State) : (modPxl f s).pnl = s.pnl := rfl
@[simp] theorem modPxl_cal (f : Pxl → Pxl) (s : State) : (modPxl f s).cal = s.cal := rfl
@[simp] theorem modPxl_gyl (f : Pxl → Pxl) (s : State) : (modPxl f s).gyl = s.gyl := rfl
@[simp] theorem modPxl_jrn (f : Pxl → Pxl) (s : State) : (modPxl f s).jrn = s.jrn := rfl

/-! ### evc -/

@[simp] theorem evc_pending (c : Nat) (s : State) : (evc c s).pending = s.pending := by
  obtain ⟨o, h⟩ := evc_eq c s; rw [h]
@[simp] theorem evc_now (c : Nat) (s : State) : (evc c s).now = s.now := by
  obtain ⟨o, h⟩ := evc_eq c s; rw [h]
@[simp] theorem evc_free (c : Nat) (s : State) : (evc c s).free = s.free := by
  obtain ⟨o, h⟩ := evc_eq c s; rw [h]
@[simp] theorem evc_dom (c : Nat) (s : State) : (evc c s).dom = s.dom := by
  obtain ⟨o, h⟩ := evc_eq c s; rw [h]
@[simp] theorem evc_mem (c : Nat) (s : State) : (evc c s).mem = s.mem := by
  obtain ⟨o, h⟩ := evc_eq c s; rw [h]
@[simp] theorem evc_poison (c : Nat) (s : State) : (evc c s).poison = s.poison := by
  obtain ⟨o, h⟩ := evc_eq c s; rw [h]
@[simp] theorem evc_boot (c : Nat) (s : State) : (evc c s).boot = s.boot := by
  obtain ⟨o, h⟩ := evc_eq c s; rw [h]
@[simp] theorem evc_pins (c : Nat) (s : State) : (evc c s).pins = s.pins := by
  obtain ⟨o, h⟩ := evc_eq c s; rw [h]
@[simp] theorem evc_pwr (c : Nat) (s : State) : (evc c s).pwr = s.pwr := by
  obtain ⟨o, h⟩ := evc_eq c s; rw [h]
@[simp] theorem evc_evlog (c : Nat) (s : State) : (evc c s).evlog = s.evlog := by
  obtain ⟨o, h⟩ := evc_eq c s; rw [h]
@[simp] theorem evc_cross (c : Nat) (s : State) : (evc c s).cross = s.cross := by
  obtain ⟨o, h⟩ := evc_eq c s; rw [h]
@[simp] theorem evc_pxl (c : Nat) (s : State) : (evc c s).pxl = s.pxl := by
  obtain ⟨o, h⟩ := evc_eq c s; rw [h]
@[simp] theorem evc_trx (c : Nat) (s : State) : (evc c s).trx = s.trx := by
  obtain ⟨o, h⟩ := evc_eq c s; rw [h]
@[simp] theorem evc_lake (c : Nat) (s : State) : (evc c s).lake = s.lake := by
  obtain ⟨o, h⟩ := evc_eq c s; rw [h]
@[simp] theorem evc_fst (c : Nat) (s : State) : (evc c s).fst = s.fst := by
  obtain ⟨o, h⟩ := evc_eq c s; rw [h]
@[simp] theorem evc_bnk (c : Nat) (s : State) : (evc c s).bnk = s.bnk := by
  obtain ⟨o, h⟩ := evc_eq c s; rw [h]
@[simp] theorem evc_mgt (c : Nat) (s : State) : (evc c s).mgt = s.mgt := by
  obtain ⟨o, h⟩ := evc_eq c s; rw [h]
@[simp] theorem evc_scan (c : Nat) (s : State) : (evc c s).scan = s.scan := by
  obtain ⟨o, h⟩ := evc_eq c s; rw [h]
@[simp] theorem evc_dlk (c : Nat) (s : State) : (evc c s).dlk = s.dlk := by
  obtain ⟨o, h⟩ := evc_eq c s; rw [h]
@[simp] theorem evc_drvRec (c : Nat) (s : State) : (evc c s).drvRec = s.drvRec := by
  obtain ⟨o, h⟩ := evc_eq c s; rw [h]
@[simp] theorem evc_wear (c : Nat) (s : State) : (evc c s).wear = s.wear := by
  obtain ⟨o, h⟩ := evc_eq c s; rw [h]
@[simp] theorem evc_safe (c : Nat) (s : State) : (evc c s).safe = s.safe := by
  obtain ⟨o, h⟩ := evc_eq c s; rw [h]
@[simp] theorem evc_pnl (c : Nat) (s : State) : (evc c s).pnl = s.pnl := by
  obtain ⟨o, h⟩ := evc_eq c s; rw [h]
@[simp] theorem evc_cal (c : Nat) (s : State) : (evc c s).cal = s.cal := by
  obtain ⟨o, h⟩ := evc_eq c s; rw [h]
@[simp] theorem evc_gyl (c : Nat) (s : State) : (evc c s).gyl = s.gyl := by
  obtain ⟨o, h⟩ := evc_eq c s; rw [h]
@[simp] theorem evc_jrn (c : Nat) (s : State) : (evc c s).jrn = s.jrn := by
  obtain ⟨o, h⟩ := evc_eq c s; rw [h]

/-! ### pendEvt -/

@[simp] theorem pendEvt_pending (b : Nat) (s : State) : (pendEvt b s).pending = s.pending := by unfold pendEvt; dsimp only; split <;> simp
@[simp] theorem pendEvt_now (b : Nat) (s : State) : (pendEvt b s).now = s.now := by unfold pendEvt; dsimp only; split <;> simp
@[simp] theorem pendEvt_free (b : Nat) (s : State) : (pendEvt b s).free = s.free := by unfold pendEvt; dsimp only; split <;> simp
@[simp] theorem pendEvt_dom (b : Nat) (s : State) : (pendEvt b s).dom = s.dom := by unfold pendEvt; dsimp only; split <;> simp
@[simp] theorem pendEvt_mem (b : Nat) (s : State) : (pendEvt b s).mem = s.mem := by unfold pendEvt; dsimp only; split <;> simp
@[simp] theorem pendEvt_poison (b : Nat) (s : State) : (pendEvt b s).poison = s.poison := by unfold pendEvt; dsimp only; split <;> simp
@[simp] theorem pendEvt_boot (b : Nat) (s : State) : (pendEvt b s).boot = s.boot := by unfold pendEvt; dsimp only; split <;> simp
@[simp] theorem pendEvt_pwr (b : Nat) (s : State) : (pendEvt b s).pwr = s.pwr := by unfold pendEvt; dsimp only; split <;> simp
@[simp] theorem pendEvt_evlog (b : Nat) (s : State) : (pendEvt b s).evlog = s.evlog := by unfold pendEvt; dsimp only; split <;> simp
@[simp] theorem pendEvt_cross (b : Nat) (s : State) : (pendEvt b s).cross = s.cross := by unfold pendEvt; dsimp only; split <;> simp
@[simp] theorem pendEvt_pxl (b : Nat) (s : State) : (pendEvt b s).pxl = s.pxl := by unfold pendEvt; dsimp only; split <;> simp
@[simp] theorem pendEvt_trx (b : Nat) (s : State) : (pendEvt b s).trx = s.trx := by unfold pendEvt; dsimp only; split <;> simp
@[simp] theorem pendEvt_lake (b : Nat) (s : State) : (pendEvt b s).lake = s.lake := by unfold pendEvt; dsimp only; split <;> simp
@[simp] theorem pendEvt_fst (b : Nat) (s : State) : (pendEvt b s).fst = s.fst := by unfold pendEvt; dsimp only; split <;> simp
@[simp] theorem pendEvt_bnk (b : Nat) (s : State) : (pendEvt b s).bnk = s.bnk := by unfold pendEvt; dsimp only; split <;> simp
@[simp] theorem pendEvt_scan (b : Nat) (s : State) : (pendEvt b s).scan = s.scan := by unfold pendEvt; dsimp only; split <;> simp
@[simp] theorem pendEvt_dlk (b : Nat) (s : State) : (pendEvt b s).dlk = s.dlk := by unfold pendEvt; dsimp only; split <;> simp
@[simp] theorem pendEvt_drvRec (b : Nat) (s : State) : (pendEvt b s).drvRec = s.drvRec := by unfold pendEvt; dsimp only; split <;> simp
@[simp] theorem pendEvt_wear (b : Nat) (s : State) : (pendEvt b s).wear = s.wear := by unfold pendEvt; dsimp only; split <;> simp
@[simp] theorem pendEvt_safe (b : Nat) (s : State) : (pendEvt b s).safe = s.safe := by unfold pendEvt; dsimp only; split <;> simp
@[simp] theorem pendEvt_pnl (b : Nat) (s : State) : (pendEvt b s).pnl = s.pnl := by unfold pendEvt; dsimp only; split <;> simp
@[simp] theorem pendEvt_cal (b : Nat) (s : State) : (pendEvt b s).cal = s.cal := by unfold pendEvt; dsimp only; split <;> simp
@[simp] theorem pendEvt_gyl (b : Nat) (s : State) : (pendEvt b s).gyl = s.gyl := by unfold pendEvt; dsimp only; split <;> simp
@[simp] theorem pendEvt_jrn (b : Nat) (s : State) : (pendEvt b s).jrn = s.jrn := by unfold pendEvt; dsimp only; split <;> simp

/-! ### setLink -/

@[simp] theorem setLink_pending (v : LinkState) (s : State) : (setLink v s).pending = s.pending := by unfold setLink; split <;> simp
@[simp] theorem setLink_now (v : LinkState) (s : State) : (setLink v s).now = s.now := by unfold setLink; split <;> simp
@[simp] theorem setLink_free (v : LinkState) (s : State) : (setLink v s).free = s.free := by unfold setLink; split <;> simp
@[simp] theorem setLink_dom (v : LinkState) (s : State) : (setLink v s).dom = s.dom := by unfold setLink; split <;> simp
@[simp] theorem setLink_mem (v : LinkState) (s : State) : (setLink v s).mem = s.mem := by unfold setLink; split <;> simp
@[simp] theorem setLink_poison (v : LinkState) (s : State) : (setLink v s).poison = s.poison := by unfold setLink; split <;> simp
@[simp] theorem setLink_boot (v : LinkState) (s : State) : (setLink v s).boot = s.boot := by unfold setLink; split <;> simp
@[simp] theorem setLink_pwr (v : LinkState) (s : State) : (setLink v s).pwr = s.pwr := by unfold setLink; split <;> simp
@[simp] theorem setLink_evlog (v : LinkState) (s : State) : (setLink v s).evlog = s.evlog := by unfold setLink; split <;> simp
@[simp] theorem setLink_cross (v : LinkState) (s : State) : (setLink v s).cross = s.cross := by unfold setLink; split <;> simp
@[simp] theorem setLink_trx (v : LinkState) (s : State) : (setLink v s).trx = s.trx := by unfold setLink; split <;> simp
@[simp] theorem setLink_lake (v : LinkState) (s : State) : (setLink v s).lake = s.lake := by unfold setLink; split <;> simp
@[simp] theorem setLink_fst (v : LinkState) (s : State) : (setLink v s).fst = s.fst := by unfold setLink; split <;> simp
@[simp] theorem setLink_bnk (v : LinkState) (s : State) : (setLink v s).bnk = s.bnk := by unfold setLink; split <;> simp
@[simp] theorem setLink_scan (v : LinkState) (s : State) : (setLink v s).scan = s.scan := by unfold setLink; split <;> simp
@[simp] theorem setLink_dlk (v : LinkState) (s : State) : (setLink v s).dlk = s.dlk := by unfold setLink; split <;> simp
@[simp] theorem setLink_drvRec (v : LinkState) (s : State) : (setLink v s).drvRec = s.drvRec := by unfold setLink; split <;> simp
@[simp] theorem setLink_wear (v : LinkState) (s : State) : (setLink v s).wear = s.wear := by unfold setLink; split <;> simp
@[simp] theorem setLink_safe (v : LinkState) (s : State) : (setLink v s).safe = s.safe := by unfold setLink; split <;> simp
@[simp] theorem setLink_pnl (v : LinkState) (s : State) : (setLink v s).pnl = s.pnl := by unfold setLink; split <;> simp
@[simp] theorem setLink_cal (v : LinkState) (s : State) : (setLink v s).cal = s.cal := by unfold setLink; split <;> simp
@[simp] theorem setLink_gyl (v : LinkState) (s : State) : (setLink v s).gyl = s.gyl := by unfold setLink; split <;> simp
@[simp] theorem setLink_jrn (v : LinkState) (s : State) : (setLink v s).jrn = s.jrn := by unfold setLink; split <;> simp

/-! ### scanEvent -/

@[simp] theorem scanEvent_pending (kind band code : Nat) (s : State) : (scanEvent kind band code s).pending = s.pending := by unfold scanEvent; dsimp only; split <;> simp
@[simp] theorem scanEvent_now (kind band code : Nat) (s : State) : (scanEvent kind band code s).now = s.now := by unfold scanEvent; dsimp only; split <;> simp
@[simp] theorem scanEvent_free (kind band code : Nat) (s : State) : (scanEvent kind band code s).free = s.free := by unfold scanEvent; dsimp only; split <;> simp
@[simp] theorem scanEvent_dom (kind band code : Nat) (s : State) : (scanEvent kind band code s).dom = s.dom := by unfold scanEvent; dsimp only; split <;> simp
@[simp] theorem scanEvent_mem (kind band code : Nat) (s : State) : (scanEvent kind band code s).mem = s.mem := by unfold scanEvent; dsimp only; split <;> simp
@[simp] theorem scanEvent_poison (kind band code : Nat) (s : State) : (scanEvent kind band code s).poison = s.poison := by unfold scanEvent; dsimp only; split <;> simp
@[simp] theorem scanEvent_boot (kind band code : Nat) (s : State) : (scanEvent kind band code s).boot = s.boot := by unfold scanEvent; dsimp only; split <;> simp
@[simp] theorem scanEvent_pwr (kind band code : Nat) (s : State) : (scanEvent kind band code s).pwr = s.pwr := by unfold scanEvent; dsimp only; split <;> simp
@[simp] theorem scanEvent_evlog (kind band code : Nat) (s : State) : (scanEvent kind band code s).evlog = s.evlog := by unfold scanEvent; dsimp only; split <;> simp
@[simp] theorem scanEvent_cross (kind band code : Nat) (s : State) : (scanEvent kind band code s).cross = s.cross := by unfold scanEvent; dsimp only; split <;> simp
@[simp] theorem scanEvent_pxl (kind band code : Nat) (s : State) : (scanEvent kind band code s).pxl = s.pxl := by unfold scanEvent; dsimp only; split <;> simp
@[simp] theorem scanEvent_trx (kind band code : Nat) (s : State) : (scanEvent kind band code s).trx = s.trx := by unfold scanEvent; dsimp only; split <;> simp
@[simp] theorem scanEvent_lake (kind band code : Nat) (s : State) : (scanEvent kind band code s).lake = s.lake := by unfold scanEvent; dsimp only; split <;> simp
@[simp] theorem scanEvent_fst (kind band code : Nat) (s : State) : (scanEvent kind band code s).fst = s.fst := by unfold scanEvent; dsimp only; split <;> simp
@[simp] theorem scanEvent_bnk (kind band code : Nat) (s : State) : (scanEvent kind band code s).bnk = s.bnk := by unfold scanEvent; dsimp only; split <;> simp
@[simp] theorem scanEvent_mgt (kind band code : Nat) (s : State) : (scanEvent kind band code s).mgt = s.mgt := by unfold scanEvent; dsimp only; split <;> simp
@[simp] theorem scanEvent_scan (kind band code : Nat) (s : State) : (scanEvent kind band code s).scan = s.scan := by unfold scanEvent; dsimp only; split <;> simp
@[simp] theorem scanEvent_dlk (kind band code : Nat) (s : State) : (scanEvent kind band code s).dlk = s.dlk := by unfold scanEvent; dsimp only; split <;> simp
@[simp] theorem scanEvent_drvRec (kind band code : Nat) (s : State) : (scanEvent kind band code s).drvRec = s.drvRec := by unfold scanEvent; dsimp only; split <;> simp
@[simp] theorem scanEvent_wear (kind band code : Nat) (s : State) : (scanEvent kind band code s).wear = s.wear := by unfold scanEvent; dsimp only; split <;> simp
@[simp] theorem scanEvent_safe (kind band code : Nat) (s : State) : (scanEvent kind band code s).safe = s.safe := by unfold scanEvent; dsimp only; split <;> simp
@[simp] theorem scanEvent_pnl (kind band code : Nat) (s : State) : (scanEvent kind band code s).pnl = s.pnl := by unfold scanEvent; dsimp only; split <;> simp
@[simp] theorem scanEvent_cal (kind band code : Nat) (s : State) : (scanEvent kind band code s).cal = s.cal := by unfold scanEvent; dsimp only; split <;> simp
@[simp] theorem scanEvent_gyl (kind band code : Nat) (s : State) : (scanEvent kind band code s).gyl = s.gyl := by unfold scanEvent; dsimp only; split <;> simp
@[simp] theorem scanEvent_jrn (kind band code : Nat) (s : State) : (scanEvent kind band code s).jrn = s.jrn := by unfold scanEvent; dsimp only; split <;> simp

/-! ### jrnAdd -/

@[simp] theorem jrnAdd_pending (ty fl arg k v : Nat) (data : List Byte) (s : State) : (jrnAdd ty fl arg k v data s).pending = s.pending := rfl
@[simp] theorem jrnAdd_now (ty fl arg k v : Nat) (data : List Byte) (s : State) : (jrnAdd ty fl arg k v data s).now = s.now := rfl
@[simp] theorem jrnAdd_free (ty fl arg k v : Nat) (data : List Byte) (s : State) : (jrnAdd ty fl arg k v data s).free = s.free := rfl
@[simp] theorem jrnAdd_dom (ty fl arg k v : Nat) (data : List Byte) (s : State) : (jrnAdd ty fl arg k v data s).dom = s.dom := rfl
@[simp] theorem jrnAdd_mem (ty fl arg k v : Nat) (data : List Byte) (s : State) : (jrnAdd ty fl arg k v data s).mem = s.mem := rfl
@[simp] theorem jrnAdd_poison (ty fl arg k v : Nat) (data : List Byte) (s : State) : (jrnAdd ty fl arg k v data s).poison = s.poison := rfl
@[simp] theorem jrnAdd_boot (ty fl arg k v : Nat) (data : List Byte) (s : State) : (jrnAdd ty fl arg k v data s).boot = s.boot := rfl
@[simp] theorem jrnAdd_pins (ty fl arg k v : Nat) (data : List Byte) (s : State) : (jrnAdd ty fl arg k v data s).pins = s.pins := rfl
@[simp] theorem jrnAdd_pwr (ty fl arg k v : Nat) (data : List Byte) (s : State) : (jrnAdd ty fl arg k v data s).pwr = s.pwr := rfl
@[simp] theorem jrnAdd_evlog (ty fl arg k v : Nat) (data : List Byte) (s : State) : (jrnAdd ty fl arg k v data s).evlog = s.evlog := rfl
@[simp] theorem jrnAdd_cross (ty fl arg k v : Nat) (data : List Byte) (s : State) : (jrnAdd ty fl arg k v data s).cross = s.cross := rfl
@[simp] theorem jrnAdd_pxl (ty fl arg k v : Nat) (data : List Byte) (s : State) : (jrnAdd ty fl arg k v data s).pxl = s.pxl := rfl
@[simp] theorem jrnAdd_trx (ty fl arg k v : Nat) (data : List Byte) (s : State) : (jrnAdd ty fl arg k v data s).trx = s.trx := rfl
@[simp] theorem jrnAdd_lake (ty fl arg k v : Nat) (data : List Byte) (s : State) : (jrnAdd ty fl arg k v data s).lake = s.lake := rfl
@[simp] theorem jrnAdd_fst (ty fl arg k v : Nat) (data : List Byte) (s : State) : (jrnAdd ty fl arg k v data s).fst = s.fst := rfl
@[simp] theorem jrnAdd_bnk (ty fl arg k v : Nat) (data : List Byte) (s : State) : (jrnAdd ty fl arg k v data s).bnk = s.bnk := rfl
@[simp] theorem jrnAdd_mgt (ty fl arg k v : Nat) (data : List Byte) (s : State) : (jrnAdd ty fl arg k v data s).mgt = s.mgt := rfl
@[simp] theorem jrnAdd_scan (ty fl arg k v : Nat) (data : List Byte) (s : State) : (jrnAdd ty fl arg k v data s).scan = s.scan := rfl
@[simp] theorem jrnAdd_dlk (ty fl arg k v : Nat) (data : List Byte) (s : State) : (jrnAdd ty fl arg k v data s).dlk = s.dlk := rfl
@[simp] theorem jrnAdd_drvRec (ty fl arg k v : Nat) (data : List Byte) (s : State) : (jrnAdd ty fl arg k v data s).drvRec = s.drvRec := rfl
@[simp] theorem jrnAdd_wear (ty fl arg k v : Nat) (data : List Byte) (s : State) : (jrnAdd ty fl arg k v data s).wear = s.wear := rfl
@[simp] theorem jrnAdd_safe (ty fl arg k v : Nat) (data : List Byte) (s : State) : (jrnAdd ty fl arg k v data s).safe = s.safe := rfl
@[simp] theorem jrnAdd_pnl (ty fl arg k v : Nat) (data : List Byte) (s : State) : (jrnAdd ty fl arg k v data s).pnl = s.pnl := rfl
@[simp] theorem jrnAdd_cal (ty fl arg k v : Nat) (data : List Byte) (s : State) : (jrnAdd ty fl arg k v data s).cal = s.cal := rfl
@[simp] theorem jrnAdd_gyl (ty fl arg k v : Nat) (data : List Byte) (s : State) : (jrnAdd ty fl arg k v data s).gyl = s.gyl := rfl

/-! ### jrnObj -/

@[simp] theorem jrnObj_pending (k : Nat) (s : State) : (jrnObj k s).pending = s.pending := rfl
@[simp] theorem jrnObj_now (k : Nat) (s : State) : (jrnObj k s).now = s.now := rfl
@[simp] theorem jrnObj_free (k : Nat) (s : State) : (jrnObj k s).free = s.free := rfl
@[simp] theorem jrnObj_dom (k : Nat) (s : State) : (jrnObj k s).dom = s.dom := rfl
@[simp] theorem jrnObj_mem (k : Nat) (s : State) : (jrnObj k s).mem = s.mem := rfl
@[simp] theorem jrnObj_poison (k : Nat) (s : State) : (jrnObj k s).poison = s.poison := rfl
@[simp] theorem jrnObj_boot (k : Nat) (s : State) : (jrnObj k s).boot = s.boot := rfl
@[simp] theorem jrnObj_pins (k : Nat) (s : State) : (jrnObj k s).pins = s.pins := rfl
@[simp] theorem jrnObj_pwr (k : Nat) (s : State) : (jrnObj k s).pwr = s.pwr := rfl
@[simp] theorem jrnObj_evlog (k : Nat) (s : State) : (jrnObj k s).evlog = s.evlog := rfl
@[simp] theorem jrnObj_cross (k : Nat) (s : State) : (jrnObj k s).cross = s.cross := rfl
@[simp] theorem jrnObj_pxl (k : Nat) (s : State) : (jrnObj k s).pxl = s.pxl := rfl
@[simp] theorem jrnObj_trx (k : Nat) (s : State) : (jrnObj k s).trx = s.trx := rfl
@[simp] theorem jrnObj_lake (k : Nat) (s : State) : (jrnObj k s).lake = s.lake := rfl
@[simp] theorem jrnObj_fst (k : Nat) (s : State) : (jrnObj k s).fst = s.fst := rfl
@[simp] theorem jrnObj_bnk (k : Nat) (s : State) : (jrnObj k s).bnk = s.bnk := rfl
@[simp] theorem jrnObj_mgt (k : Nat) (s : State) : (jrnObj k s).mgt = s.mgt := rfl
@[simp] theorem jrnObj_scan (k : Nat) (s : State) : (jrnObj k s).scan = s.scan := rfl
@[simp] theorem jrnObj_dlk (k : Nat) (s : State) : (jrnObj k s).dlk = s.dlk := rfl
@[simp] theorem jrnObj_drvRec (k : Nat) (s : State) : (jrnObj k s).drvRec = s.drvRec := rfl
@[simp] theorem jrnObj_wear (k : Nat) (s : State) : (jrnObj k s).wear = s.wear := rfl
@[simp] theorem jrnObj_safe (k : Nat) (s : State) : (jrnObj k s).safe = s.safe := rfl
@[simp] theorem jrnObj_pnl (k : Nat) (s : State) : (jrnObj k s).pnl = s.pnl := rfl
@[simp] theorem jrnObj_cal (k : Nat) (s : State) : (jrnObj k s).cal = s.cal := rfl
@[simp] theorem jrnObj_gyl (k : Nat) (s : State) : (jrnObj k s).gyl = s.gyl := rfl

/-! ### jrnDom -/

@[simp] theorem jrnDom_pending (k : Nat) (s : State) : (jrnDom k s).pending = s.pending := rfl
@[simp] theorem jrnDom_now (k : Nat) (s : State) : (jrnDom k s).now = s.now := rfl
@[simp] theorem jrnDom_free (k : Nat) (s : State) : (jrnDom k s).free = s.free := rfl
@[simp] theorem jrnDom_dom (k : Nat) (s : State) : (jrnDom k s).dom = s.dom := rfl
@[simp] theorem jrnDom_mem (k : Nat) (s : State) : (jrnDom k s).mem = s.mem := rfl
@[simp] theorem jrnDom_poison (k : Nat) (s : State) : (jrnDom k s).poison = s.poison := rfl
@[simp] theorem jrnDom_boot (k : Nat) (s : State) : (jrnDom k s).boot = s.boot := rfl
@[simp] theorem jrnDom_pins (k : Nat) (s : State) : (jrnDom k s).pins = s.pins := rfl
@[simp] theorem jrnDom_pwr (k : Nat) (s : State) : (jrnDom k s).pwr = s.pwr := rfl
@[simp] theorem jrnDom_evlog (k : Nat) (s : State) : (jrnDom k s).evlog = s.evlog := rfl
@[simp] theorem jrnDom_cross (k : Nat) (s : State) : (jrnDom k s).cross = s.cross := rfl
@[simp] theorem jrnDom_pxl (k : Nat) (s : State) : (jrnDom k s).pxl = s.pxl := rfl
@[simp] theorem jrnDom_trx (k : Nat) (s : State) : (jrnDom k s).trx = s.trx := rfl
@[simp] theorem jrnDom_lake (k : Nat) (s : State) : (jrnDom k s).lake = s.lake := rfl
@[simp] theorem jrnDom_fst (k : Nat) (s : State) : (jrnDom k s).fst = s.fst := rfl
@[simp] theorem jrnDom_bnk (k : Nat) (s : State) : (jrnDom k s).bnk = s.bnk := rfl
@[simp] theorem jrnDom_mgt (k : Nat) (s : State) : (jrnDom k s).mgt = s.mgt := rfl
@[simp] theorem jrnDom_scan (k : Nat) (s : State) : (jrnDom k s).scan = s.scan := rfl
@[simp] theorem jrnDom_dlk (k : Nat) (s : State) : (jrnDom k s).dlk = s.dlk := rfl
@[simp] theorem jrnDom_drvRec (k : Nat) (s : State) : (jrnDom k s).drvRec = s.drvRec := rfl
@[simp] theorem jrnDom_wear (k : Nat) (s : State) : (jrnDom k s).wear = s.wear := rfl
@[simp] theorem jrnDom_safe (k : Nat) (s : State) : (jrnDom k s).safe = s.safe := rfl
@[simp] theorem jrnDom_pnl (k : Nat) (s : State) : (jrnDom k s).pnl = s.pnl := rfl
@[simp] theorem jrnDom_cal (k : Nat) (s : State) : (jrnDom k s).cal = s.cal := rfl
@[simp] theorem jrnDom_gyl (k : Nat) (s : State) : (jrnDom k s).gyl = s.gyl := rfl

/-! ### jrnStatus -/

@[simp] theorem jrnStatus_pending (s : State) : (jrnStatus s).pending = s.pending := rfl
@[simp] theorem jrnStatus_now (s : State) : (jrnStatus s).now = s.now := rfl
@[simp] theorem jrnStatus_free (s : State) : (jrnStatus s).free = s.free := rfl
@[simp] theorem jrnStatus_dom (s : State) : (jrnStatus s).dom = s.dom := rfl
@[simp] theorem jrnStatus_mem (s : State) : (jrnStatus s).mem = s.mem := rfl
@[simp] theorem jrnStatus_poison (s : State) : (jrnStatus s).poison = s.poison := rfl
@[simp] theorem jrnStatus_boot (s : State) : (jrnStatus s).boot = s.boot := rfl
@[simp] theorem jrnStatus_pins (s : State) : (jrnStatus s).pins = s.pins := rfl
@[simp] theorem jrnStatus_pwr (s : State) : (jrnStatus s).pwr = s.pwr := rfl
@[simp] theorem jrnStatus_evlog (s : State) : (jrnStatus s).evlog = s.evlog := rfl
@[simp] theorem jrnStatus_cross (s : State) : (jrnStatus s).cross = s.cross := rfl
@[simp] theorem jrnStatus_pxl (s : State) : (jrnStatus s).pxl = s.pxl := rfl
@[simp] theorem jrnStatus_trx (s : State) : (jrnStatus s).trx = s.trx := rfl
@[simp] theorem jrnStatus_lake (s : State) : (jrnStatus s).lake = s.lake := rfl
@[simp] theorem jrnStatus_fst (s : State) : (jrnStatus s).fst = s.fst := rfl
@[simp] theorem jrnStatus_bnk (s : State) : (jrnStatus s).bnk = s.bnk := rfl
@[simp] theorem jrnStatus_mgt (s : State) : (jrnStatus s).mgt = s.mgt := rfl
@[simp] theorem jrnStatus_scan (s : State) : (jrnStatus s).scan = s.scan := rfl
@[simp] theorem jrnStatus_dlk (s : State) : (jrnStatus s).dlk = s.dlk := rfl
@[simp] theorem jrnStatus_drvRec (s : State) : (jrnStatus s).drvRec = s.drvRec := rfl
@[simp] theorem jrnStatus_wear (s : State) : (jrnStatus s).wear = s.wear := rfl
@[simp] theorem jrnStatus_safe (s : State) : (jrnStatus s).safe = s.safe := rfl
@[simp] theorem jrnStatus_pnl (s : State) : (jrnStatus s).pnl = s.pnl := rfl
@[simp] theorem jrnStatus_cal (s : State) : (jrnStatus s).cal = s.cal := rfl
@[simp] theorem jrnStatus_gyl (s : State) : (jrnStatus s).gyl = s.gyl := rfl

/-! ### logEv -/

@[simp] theorem logEv_pending (code sev bands data : Nat) (s : State) : (logEv code sev bands data s).pending = s.pending := by simp [logEv]
@[simp] theorem logEv_now (code sev bands data : Nat) (s : State) : (logEv code sev bands data s).now = s.now := by simp [logEv]
@[simp] theorem logEv_free (code sev bands data : Nat) (s : State) : (logEv code sev bands data s).free = s.free := by simp [logEv]
@[simp] theorem logEv_dom (code sev bands data : Nat) (s : State) : (logEv code sev bands data s).dom = s.dom := by simp [logEv]
@[simp] theorem logEv_mem (code sev bands data : Nat) (s : State) : (logEv code sev bands data s).mem = s.mem := by simp [logEv]
@[simp] theorem logEv_poison (code sev bands data : Nat) (s : State) : (logEv code sev bands data s).poison = s.poison := by simp [logEv]
@[simp] theorem logEv_boot (code sev bands data : Nat) (s : State) : (logEv code sev bands data s).boot = s.boot := by simp [logEv]
@[simp] theorem logEv_pwr (code sev bands data : Nat) (s : State) : (logEv code sev bands data s).pwr = s.pwr := by simp [logEv]
@[simp] theorem logEv_cross (code sev bands data : Nat) (s : State) : (logEv code sev bands data s).cross = s.cross := by simp [logEv]
@[simp] theorem logEv_pxl (code sev bands data : Nat) (s : State) : (logEv code sev bands data s).pxl = s.pxl := by simp [logEv]
@[simp] theorem logEv_trx (code sev bands data : Nat) (s : State) : (logEv code sev bands data s).trx = s.trx := by simp [logEv]
@[simp] theorem logEv_lake (code sev bands data : Nat) (s : State) : (logEv code sev bands data s).lake = s.lake := by simp [logEv]
@[simp] theorem logEv_fst (code sev bands data : Nat) (s : State) : (logEv code sev bands data s).fst = s.fst := by simp [logEv]
@[simp] theorem logEv_bnk (code sev bands data : Nat) (s : State) : (logEv code sev bands data s).bnk = s.bnk := by simp [logEv]
@[simp] theorem logEv_scan (code sev bands data : Nat) (s : State) : (logEv code sev bands data s).scan = s.scan := by simp [logEv]
@[simp] theorem logEv_dlk (code sev bands data : Nat) (s : State) : (logEv code sev bands data s).dlk = s.dlk := by simp [logEv]
@[simp] theorem logEv_drvRec (code sev bands data : Nat) (s : State) : (logEv code sev bands data s).drvRec = s.drvRec := by simp [logEv]
@[simp] theorem logEv_wear (code sev bands data : Nat) (s : State) : (logEv code sev bands data s).wear = s.wear := by simp [logEv]
@[simp] theorem logEv_safe (code sev bands data : Nat) (s : State) : (logEv code sev bands data s).safe = s.safe := by simp [logEv]
@[simp] theorem logEv_pnl (code sev bands data : Nat) (s : State) : (logEv code sev bands data s).pnl = s.pnl := by simp [logEv]
@[simp] theorem logEv_cal (code sev bands data : Nat) (s : State) : (logEv code sev bands data s).cal = s.cal := by simp [logEv]
@[simp] theorem logEv_gyl (code sev bands data : Nat) (s : State) : (logEv code sev bands data s).gyl = s.gyl := by simp [logEv]

/-! ### backEvent -/

@[simp] theorem backEvent_pending (code w1 w2 : Nat) (s : State) : (backEvent code w1 w2 s).pending = s.pending := by simp [backEvent]
@[simp] theorem backEvent_now (code w1 w2 : Nat) (s : State) : (backEvent code w1 w2 s).now = s.now := by simp [backEvent]
@[simp] theorem backEvent_free (code w1 w2 : Nat) (s : State) : (backEvent code w1 w2 s).free = s.free := by simp [backEvent]
@[simp] theorem backEvent_dom (code w1 w2 : Nat) (s : State) : (backEvent code w1 w2 s).dom = s.dom := by simp [backEvent]
@[simp] theorem backEvent_mem (code w1 w2 : Nat) (s : State) : (backEvent code w1 w2 s).mem = s.mem := by simp [backEvent]
@[simp] theorem backEvent_poison (code w1 w2 : Nat) (s : State) : (backEvent code w1 w2 s).poison = s.poison := by simp [backEvent]
@[simp] theorem backEvent_boot (code w1 w2 : Nat) (s : State) : (backEvent code w1 w2 s).boot = s.boot := by simp [backEvent]
@[simp] theorem backEvent_pins (code w1 w2 : Nat) (s : State) : (backEvent code w1 w2 s).pins = s.pins := by simp [backEvent]
@[simp] theorem backEvent_pwr (code w1 w2 : Nat) (s : State) : (backEvent code w1 w2 s).pwr = s.pwr := by simp [backEvent]
@[simp] theorem backEvent_evlog (code w1 w2 : Nat) (s : State) : (backEvent code w1 w2 s).evlog = s.evlog := by simp [backEvent]
@[simp] theorem backEvent_cross (code w1 w2 : Nat) (s : State) : (backEvent code w1 w2 s).cross = s.cross := by simp [backEvent]
@[simp] theorem backEvent_pxl (code w1 w2 : Nat) (s : State) : (backEvent code w1 w2 s).pxl = s.pxl := by simp [backEvent]
@[simp] theorem backEvent_lake (code w1 w2 : Nat) (s : State) : (backEvent code w1 w2 s).lake = s.lake := by simp [backEvent]
@[simp] theorem backEvent_fst (code w1 w2 : Nat) (s : State) : (backEvent code w1 w2 s).fst = s.fst := by simp [backEvent]
@[simp] theorem backEvent_bnk (code w1 w2 : Nat) (s : State) : (backEvent code w1 w2 s).bnk = s.bnk := by simp [backEvent]
@[simp] theorem backEvent_mgt (code w1 w2 : Nat) (s : State) : (backEvent code w1 w2 s).mgt = s.mgt := by simp [backEvent]
@[simp] theorem backEvent_scan (code w1 w2 : Nat) (s : State) : (backEvent code w1 w2 s).scan = s.scan := by simp [backEvent]
@[simp] theorem backEvent_dlk (code w1 w2 : Nat) (s : State) : (backEvent code w1 w2 s).dlk = s.dlk := by simp [backEvent]
@[simp] theorem backEvent_drvRec (code w1 w2 : Nat) (s : State) : (backEvent code w1 w2 s).drvRec = s.drvRec := by simp [backEvent]
@[simp] theorem backEvent_wear (code w1 w2 : Nat) (s : State) : (backEvent code w1 w2 s).wear = s.wear := by simp [backEvent]
@[simp] theorem backEvent_safe (code w1 w2 : Nat) (s : State) : (backEvent code w1 w2 s).safe = s.safe := by simp [backEvent]
@[simp] theorem backEvent_pnl (code w1 w2 : Nat) (s : State) : (backEvent code w1 w2 s).pnl = s.pnl := by simp [backEvent]
@[simp] theorem backEvent_cal (code w1 w2 : Nat) (s : State) : (backEvent code w1 w2 s).cal = s.cal := by simp [backEvent]
@[simp] theorem backEvent_gyl (code w1 w2 : Nat) (s : State) : (backEvent code w1 w2 s).gyl = s.gyl := by simp [backEvent]
@[simp] theorem backEvent_jrn (code w1 w2 : Nat) (s : State) : (backEvent code w1 w2 s).jrn = s.jrn := by simp [backEvent]

/-! ### setPort -/

@[simp] theorem setPort_pending (q : Port) (v : PortState) (s : State) : (setPort q v s).pending = s.pending := by
  cases q
  · rfl
  · simp only [setPort]; split <;> simp
@[simp] theorem setPort_now (q : Port) (v : PortState) (s : State) : (setPort q v s).now = s.now := by
  cases q
  · rfl
  · simp only [setPort]; split <;> simp
@[simp] theorem setPort_free (q : Port) (v : PortState) (s : State) : (setPort q v s).free = s.free := by
  cases q
  · rfl
  · simp only [setPort]; split <;> simp
@[simp] theorem setPort_dom (q : Port) (v : PortState) (s : State) : (setPort q v s).dom = s.dom := by
  cases q
  · rfl
  · simp only [setPort]; split <;> simp
@[simp] theorem setPort_mem (q : Port) (v : PortState) (s : State) : (setPort q v s).mem = s.mem := by
  cases q
  · rfl
  · simp only [setPort]; split <;> simp
@[simp] theorem setPort_poison (q : Port) (v : PortState) (s : State) : (setPort q v s).poison = s.poison := by
  cases q
  · rfl
  · simp only [setPort]; split <;> simp
@[simp] theorem setPort_boot (q : Port) (v : PortState) (s : State) : (setPort q v s).boot = s.boot := by
  cases q
  · rfl
  · simp only [setPort]; split <;> simp
@[simp] theorem setPort_pwr (q : Port) (v : PortState) (s : State) : (setPort q v s).pwr = s.pwr := by
  cases q
  · rfl
  · simp only [setPort]; split <;> simp
@[simp] theorem setPort_evlog (q : Port) (v : PortState) (s : State) : (setPort q v s).evlog = s.evlog := by
  cases q
  · rfl
  · simp only [setPort]; split <;> simp
@[simp] theorem setPort_cross (q : Port) (v : PortState) (s : State) : (setPort q v s).cross = s.cross := by
  cases q
  · rfl
  · simp only [setPort]; split <;> simp
@[simp] theorem setPort_pxl (q : Port) (v : PortState) (s : State) : (setPort q v s).pxl = s.pxl := by
  cases q
  · rfl
  · simp only [setPort]; split <;> simp
@[simp] theorem setPort_trx (q : Port) (v : PortState) (s : State) : (setPort q v s).trx = s.trx := by
  cases q
  · rfl
  · simp only [setPort]; split <;> simp
@[simp] theorem setPort_lake (q : Port) (v : PortState) (s : State) : (setPort q v s).lake = s.lake := by
  cases q
  · rfl
  · simp only [setPort]; split <;> simp
@[simp] theorem setPort_fst (q : Port) (v : PortState) (s : State) : (setPort q v s).fst = s.fst := by
  cases q
  · rfl
  · simp only [setPort]; split <;> simp
@[simp] theorem setPort_bnk (q : Port) (v : PortState) (s : State) : (setPort q v s).bnk = s.bnk := by
  cases q
  · rfl
  · simp only [setPort]; split <;> simp
@[simp] theorem setPort_scan (q : Port) (v : PortState) (s : State) : (setPort q v s).scan = s.scan := by
  cases q
  · rfl
  · simp only [setPort]; split <;> simp
@[simp] theorem setPort_dlk (q : Port) (v : PortState) (s : State) : (setPort q v s).dlk = s.dlk := by
  cases q
  · rfl
  · simp only [setPort]; split <;> simp
@[simp] theorem setPort_drvRec (q : Port) (v : PortState) (s : State) : (setPort q v s).drvRec = s.drvRec := by
  cases q
  · rfl
  · simp only [setPort]; split <;> simp
@[simp] theorem setPort_wear (q : Port) (v : PortState) (s : State) : (setPort q v s).wear = s.wear := by
  cases q
  · rfl
  · simp only [setPort]; split <;> simp
@[simp] theorem setPort_safe (q : Port) (v : PortState) (s : State) : (setPort q v s).safe = s.safe := by
  cases q
  · rfl
  · simp only [setPort]; split <;> simp
@[simp] theorem setPort_pnl (q : Port) (v : PortState) (s : State) : (setPort q v s).pnl = s.pnl := by
  cases q
  · rfl
  · simp only [setPort]; split <;> simp
@[simp] theorem setPort_cal (q : Port) (v : PortState) (s : State) : (setPort q v s).cal = s.cal := by
  cases q
  · rfl
  · simp only [setPort]; split <;> simp
@[simp] theorem setPort_gyl (q : Port) (v : PortState) (s : State) : (setPort q v s).gyl = s.gyl := by
  cases q
  · rfl
  · simp only [setPort]; split <;> simp
@[simp] theorem setPort_jrn (q : Port) (v : PortState) (s : State) : (setPort q v s).jrn = s.jrn := by
  cases q
  · rfl
  · simp only [setPort]; split <;> simp

/-! ### queueResp -/

@[simp] theorem queueResp_pending (q : Port) (r : Resp) (s : State) : (queueResp q r s).pending = s.pending := by simp [queueResp]
@[simp] theorem queueResp_now (q : Port) (r : Resp) (s : State) : (queueResp q r s).now = s.now := by simp [queueResp]
@[simp] theorem queueResp_free (q : Port) (r : Resp) (s : State) : (queueResp q r s).free = s.free := by simp [queueResp]
@[simp] theorem queueResp_dom (q : Port) (r : Resp) (s : State) : (queueResp q r s).dom = s.dom := by simp [queueResp]
@[simp] theorem queueResp_mem (q : Port) (r : Resp) (s : State) : (queueResp q r s).mem = s.mem := by simp [queueResp]
@[simp] theorem queueResp_poison (q : Port) (r : Resp) (s : State) : (queueResp q r s).poison = s.poison := by simp [queueResp]
@[simp] theorem queueResp_boot (q : Port) (r : Resp) (s : State) : (queueResp q r s).boot = s.boot := by simp [queueResp]
@[simp] theorem queueResp_pwr (q : Port) (r : Resp) (s : State) : (queueResp q r s).pwr = s.pwr := by simp [queueResp]
@[simp] theorem queueResp_evlog (q : Port) (r : Resp) (s : State) : (queueResp q r s).evlog = s.evlog := by simp [queueResp]
@[simp] theorem queueResp_cross (q : Port) (r : Resp) (s : State) : (queueResp q r s).cross = s.cross := by simp [queueResp]
@[simp] theorem queueResp_pxl (q : Port) (r : Resp) (s : State) : (queueResp q r s).pxl = s.pxl := by simp [queueResp]
@[simp] theorem queueResp_trx (q : Port) (r : Resp) (s : State) : (queueResp q r s).trx = s.trx := by simp [queueResp]
@[simp] theorem queueResp_lake (q : Port) (r : Resp) (s : State) : (queueResp q r s).lake = s.lake := by simp [queueResp]
@[simp] theorem queueResp_fst (q : Port) (r : Resp) (s : State) : (queueResp q r s).fst = s.fst := by simp [queueResp]
@[simp] theorem queueResp_bnk (q : Port) (r : Resp) (s : State) : (queueResp q r s).bnk = s.bnk := by simp [queueResp]
@[simp] theorem queueResp_scan (q : Port) (r : Resp) (s : State) : (queueResp q r s).scan = s.scan := by simp [queueResp]
@[simp] theorem queueResp_dlk (q : Port) (r : Resp) (s : State) : (queueResp q r s).dlk = s.dlk := by simp [queueResp]
@[simp] theorem queueResp_drvRec (q : Port) (r : Resp) (s : State) : (queueResp q r s).drvRec = s.drvRec := by simp [queueResp]
@[simp] theorem queueResp_wear (q : Port) (r : Resp) (s : State) : (queueResp q r s).wear = s.wear := by simp [queueResp]
@[simp] theorem queueResp_safe (q : Port) (r : Resp) (s : State) : (queueResp q r s).safe = s.safe := by simp [queueResp]
@[simp] theorem queueResp_pnl (q : Port) (r : Resp) (s : State) : (queueResp q r s).pnl = s.pnl := by simp [queueResp]
@[simp] theorem queueResp_cal (q : Port) (r : Resp) (s : State) : (queueResp q r s).cal = s.cal := by simp [queueResp]
@[simp] theorem queueResp_gyl (q : Port) (r : Resp) (s : State) : (queueResp q r s).gyl = s.gyl := by simp [queueResp]
@[simp] theorem queueResp_jrn (q : Port) (r : Resp) (s : State) : (queueResp q r s).jrn = s.jrn := by simp [queueResp]

/-! ### failure -/

@[simp] theorem failure_pending (n : Nat) (s : State) : (failure n s).pending = s.pending := by simp [failure]
@[simp] theorem failure_now (n : Nat) (s : State) : (failure n s).now = s.now := by simp [failure]
@[simp] theorem failure_free (n : Nat) (s : State) : (failure n s).free = s.free := by simp [failure]
@[simp] theorem failure_dom (n : Nat) (s : State) : (failure n s).dom = s.dom := by simp [failure]
@[simp] theorem failure_mem (n : Nat) (s : State) : (failure n s).mem = s.mem := by simp [failure]
@[simp] theorem failure_poison (n : Nat) (s : State) : (failure n s).poison = s.poison := by simp [failure]
@[simp] theorem failure_boot (n : Nat) (s : State) : (failure n s).boot = s.boot := by simp [failure]
@[simp] theorem failure_pins (n : Nat) (s : State) : (failure n s).pins = s.pins := by simp [failure]
@[simp] theorem failure_pwr (n : Nat) (s : State) : (failure n s).pwr = s.pwr := by simp [failure]
@[simp] theorem failure_evlog (n : Nat) (s : State) : (failure n s).evlog = s.evlog := by simp [failure]
@[simp] theorem failure_cross (n : Nat) (s : State) : (failure n s).cross = s.cross := by simp [failure]
@[simp] theorem failure_pxl (n : Nat) (s : State) : (failure n s).pxl = s.pxl := by simp [failure]
@[simp] theorem failure_trx (n : Nat) (s : State) : (failure n s).trx = s.trx := by simp [failure]
@[simp] theorem failure_lake (n : Nat) (s : State) : (failure n s).lake = s.lake := by simp [failure]
@[simp] theorem failure_fst (n : Nat) (s : State) : (failure n s).fst = s.fst := by simp [failure]
@[simp] theorem failure_bnk (n : Nat) (s : State) : (failure n s).bnk = s.bnk := by simp [failure]
@[simp] theorem failure_mgt (n : Nat) (s : State) : (failure n s).mgt = s.mgt := by simp [failure]
@[simp] theorem failure_scan (n : Nat) (s : State) : (failure n s).scan = s.scan := by simp [failure]
@[simp] theorem failure_dlk (n : Nat) (s : State) : (failure n s).dlk = s.dlk := by simp [failure]
@[simp] theorem failure_drvRec (n : Nat) (s : State) : (failure n s).drvRec = s.drvRec := by simp [failure]
@[simp] theorem failure_wear (n : Nat) (s : State) : (failure n s).wear = s.wear := by simp [failure]
@[simp] theorem failure_pnl (n : Nat) (s : State) : (failure n s).pnl = s.pnl := by simp [failure]
@[simp] theorem failure_cal (n : Nat) (s : State) : (failure n s).cal = s.cal := by simp [failure]
@[simp] theorem failure_gyl (n : Nat) (s : State) : (failure n s).gyl = s.gyl := by simp [failure]
@[simp] theorem failure_jrn (n : Nat) (s : State) : (failure n s).jrn = s.jrn := by simp [failure]

/-! ### recordLast -/

@[simp] theorem recordLast_pending (n : Nat) (b : Bool) (s : State) : (recordLast n b s).pending = s.pending := by simp [recordLast]
@[simp] theorem recordLast_now (n : Nat) (b : Bool) (s : State) : (recordLast n b s).now = s.now := by simp [recordLast]
@[simp] theorem recordLast_free (n : Nat) (b : Bool) (s : State) : (recordLast n b s).free = s.free := by simp [recordLast]
@[simp] theorem recordLast_dom (n : Nat) (b : Bool) (s : State) : (recordLast n b s).dom = s.dom := by simp [recordLast]
@[simp] theorem recordLast_mem (n : Nat) (b : Bool) (s : State) : (recordLast n b s).mem = s.mem := by simp [recordLast]
@[simp] theorem recordLast_poison (n : Nat) (b : Bool) (s : State) : (recordLast n b s).poison = s.poison := by simp [recordLast]
@[simp] theorem recordLast_boot (n : Nat) (b : Bool) (s : State) : (recordLast n b s).boot = s.boot := by simp [recordLast]
@[simp] theorem recordLast_pins (n : Nat) (b : Bool) (s : State) : (recordLast n b s).pins = s.pins := by simp [recordLast]
@[simp] theorem recordLast_pwr (n : Nat) (b : Bool) (s : State) : (recordLast n b s).pwr = s.pwr := by simp [recordLast]
@[simp] theorem recordLast_evlog (n : Nat) (b : Bool) (s : State) : (recordLast n b s).evlog = s.evlog := by simp [recordLast]
@[simp] theorem recordLast_cross (n : Nat) (b : Bool) (s : State) : (recordLast n b s).cross = s.cross := by simp [recordLast]
@[simp] theorem recordLast_pxl (n : Nat) (b : Bool) (s : State) : (recordLast n b s).pxl = s.pxl := by simp [recordLast]
@[simp] theorem recordLast_trx (n : Nat) (b : Bool) (s : State) : (recordLast n b s).trx = s.trx := by simp [recordLast]
@[simp] theorem recordLast_lake (n : Nat) (b : Bool) (s : State) : (recordLast n b s).lake = s.lake := by simp [recordLast]
@[simp] theorem recordLast_fst (n : Nat) (b : Bool) (s : State) : (recordLast n b s).fst = s.fst := by simp [recordLast]
@[simp] theorem recordLast_bnk (n : Nat) (b : Bool) (s : State) : (recordLast n b s).bnk = s.bnk := by simp [recordLast]
@[simp] theorem recordLast_mgt (n : Nat) (b : Bool) (s : State) : (recordLast n b s).mgt = s.mgt := by simp [recordLast]
@[simp] theorem recordLast_scan (n : Nat) (b : Bool) (s : State) : (recordLast n b s).scan = s.scan := by simp [recordLast]
@[simp] theorem recordLast_dlk (n : Nat) (b : Bool) (s : State) : (recordLast n b s).dlk = s.dlk := by simp [recordLast]
@[simp] theorem recordLast_drvRec (n : Nat) (b : Bool) (s : State) : (recordLast n b s).drvRec = s.drvRec := by simp [recordLast]
@[simp] theorem recordLast_wear (n : Nat) (b : Bool) (s : State) : (recordLast n b s).wear = s.wear := by simp [recordLast]
@[simp] theorem recordLast_safe (n : Nat) (b : Bool) (s : State) : (recordLast n b s).safe = s.safe := by simp [recordLast]
@[simp] theorem recordLast_pnl (n : Nat) (b : Bool) (s : State) : (recordLast n b s).pnl = s.pnl := by simp [recordLast]
@[simp] theorem recordLast_cal (n : Nat) (b : Bool) (s : State) : (recordLast n b s).cal = s.cal := by simp [recordLast]
@[simp] theorem recordLast_gyl (n : Nat) (b : Bool) (s : State) : (recordLast n b s).gyl = s.gyl := by simp [recordLast]

end Sys2Proof.Machine
end

