-- ==== Sys2Proof/Laws/Memory.lean ====
section
/-!
SUPPORT. Every operation on DRAM keeps its canonical form.
-/

namespace Sys2Proof.Machine

theorem zipIdx_keys {α : Type} (bs : List α) (n : Nat) : (bs.zipIdx n).Pairwise (fun a b => a.2 < b.2) := by
  induction bs generalizing n with
  | nil => simp
  | cons b r ih =>
    refine List.pairwise_cons.2 ⟨fun e he => ?_, ih (n + 1)⟩
    have := List.le_snd_of_mem_zipIdx he
    simp only at this ⊢
    omega

/-- The entries of a stretch are canonical and lie in it. -/
theorem cellsOf_canon (a : Nat) (bs : List Byte) : canon blankByte (cellsOf a bs) = true := by
  rw [canon_iff]
  constructor
  · unfold cellsOf
    rw [List.pairwise_map]
    refine List.Pairwise.imp ?_ ((zipIdx_keys bs 0).sublist List.filter_sublist)
    intro x y h
    simpa using h
  · intro e he
    simp only [cellsOf, List.mem_map, List.mem_filter, decide_eq_true_eq] at he
    obtain ⟨p, ⟨_, hp⟩, rfl⟩ := he
    simpa [blankByte] using hp

theorem cellsOf_bounds (a : Nat) (bs : List Byte) (e : Host.Cell) (he : e ∈ cellsOf a bs) : a ≤ e.1 ∧ e.1 < a + bs.length := by
  simp only [cellsOf, List.mem_map, List.mem_filter, decide_eq_true_eq] at he
  obtain ⟨p, ⟨hp, _⟩, rfl⟩ := he
  have := List.snd_lt_of_mem_zipIdx hp
  simp only at this ⊢
  omega

/-- Replacing a stretch of DRAM keeps the canonical form. -/
theorem memSplice_wf {m : List Host.Cell} (a : Nat) (bs : List Byte) (h : Memory.wf m = true) :
    Memory.wf (memSplice m a bs) = true :=
  canon_splice h (cellsOf_canon a bs) (fun e he => (cellsOf_bounds a bs e he).1) (fun e he => (cellsOf_bounds a bs e he).2)
    (by omega)

theorem memRun_wf (a : Nat) (bs : List Byte) (s : State) (h : Memory.wf s.mem = true) : Memory.wf (memRun a bs s).mem = true :=
  memSplice_wf a bs h

theorem memPart_wf (a : Nat) (bs : List Byte) (s : State) (h : Memory.wf s.mem = true) :
    Memory.wf (memPart a bs s).mem = true := by
  unfold memPart
  split
  · simpa using h
  · exact memSplice_wf a bs h

theorem fromKey_wf {m : List Host.Cell} (lo : Nat) (h : Memory.wf m = true) : Memory.wf (fromKey m lo) = true :=
  canon_fromKey lo h

theorem mem_put {m : List Host.Cell} {k : Nat} {v : Byte} {e : Host.Cell} (h : e ∈ put blankByte m k v) :
    e = (k, v) ∨ e ∈ m := by
  unfold put at h
  split at h
  · exact .inr ((del_sublist m k).subset h)
  · exact mem_ins m k v e h

/-- The entries of a journaled map are canonical and lie in their stretch. -/
theorem mapCells_laws (lo hi : Nat) (m : SMap Byte) :
    canon blankByte (mapCells lo hi m) = true ∧ ∀ e ∈ mapCells lo hi m, lo ≤ e.1 ∧ e.1 < hi := by
  unfold mapCells
  have hb : ∀ e ∈ m.filter (fun e => decide (e.1 + lo < hi)), e.1 + lo < hi := by simp
  generalize m.filter (fun e => decide (e.1 + lo < hi)) = l at hb
  induction l with
  | nil => exact ⟨canon_nil _, by simp⟩
  | cons a r ih =>
    have ih' := ih (fun e he => hb e (List.mem_cons_of_mem _ he))
    refine ⟨canon_put _ _ ih'.1, fun e he => ?_⟩
    rcases mem_put he with rfl | h
    · exact ⟨by omega, hb a (by simp)⟩
    · exact ih'.2 e h

theorem loadMap_wf {lo hi : Nat} (m : SMap Byte) (s : State) (hle : lo ≤ hi) (h : Memory.wf s.mem = true) :
    Memory.wf (loadMap lo hi m s).mem = true :=
  canon_splice h (mapCells_laws lo hi m).1 (fun e he => ((mapCells_laws lo hi m).2 e he).1)
    (fun e he => ((mapCells_laws lo hi m).2 e he).2) hle

theorem nil_wf : Memory.wf [] = true := by decide

end Sys2Proof.Machine
end

