-- ==== Sys2Proof/Laws/Objects.lean ====
section
/-!
SUPPORT. What a read gives after an update: objects, ports, and the tables of bands, lanes, tags and the like.
-/

namespace Sys2Proof.Machine

/-! ## Objects -/

theorem oget_oset (j k v : Nat) (s : State) : oget (oset k v s) j = if j = k then v else oget s j := by
  unfold oget oset
  split
  · next h => subst h; simp
  · next h => exact get_put_ne _ _ _ h

@[simp] theorem oget_oset_same (k v : Nat) (s : State) : oget (oset k v s) k = v := by simp [oget_oset]

theorem oget_oset_ne {j k : Nat} (v : Nat) (s : State) (h : j ≠ k) : oget (oset k v s) j = oget s j := by
  simp [oget_oset, h]

/-- Equal objects read alike. -/
theorem oget_congr {s t : State} (h : t.obj = s.obj) (k : Nat) : oget t k = oget s k := by unfold oget; rw [h]

@[simp] theorem oget_cnt_same (k : Nat) (s : State) : oget (cnt k s) k = satInc 0xFFFFFFFF (oget s k) := by simp [cnt]

theorem oget_cnt_ne {j k : Nat} (s : State) (h : j ≠ k) : oget (cnt k s) j = oget s j := by simp [cnt, oget_oset, h]

/-- An event counter's value is not one of the objects of a block. -/
def notCounter (k : Nat) : Bool := decide (k < Ob.EVC_VAL) || decide (Ob.EVC_VAL + 32 ≤ k)

theorem look_ne_of_fromKey {α : Type} (m : SMap α) (lo hi : Nat) (e : Nat × α) (h : e ∈ within m lo hi) : e.1 < hi := by
  unfold within at h
  simpa using List.mem_takeWhile_imp h

/-- Counting an event changes the values of event counters alone. -/
theorem oget_evc (c k : Nat) (s : State) (h : notCounter k = true) : oget (evc c s) k = oget s k := by
  unfold evc each
  refine foldl_keeps (fun t => oget t k = oget s k) _ _ ?_ s rfl
  intro e he t ht
  dsimp only
  split
  · next hc =>
    have hb := look_ne_of_fromKey _ _ _ e he
    have hlt (x y : Nat) (hx : x < y + 32) : x - y < 32 := by omega
    have hn := hlt _ _ hb
    rw [oget_oset_ne, ht]
    intro hk
    rw [hk] at h
    have hout (x y : Nat) (hx : y < 32) : ¬ (x + y < x ∨ x + 32 ≤ x + y) := by omega
    unfold notCounter at h
    rw [Bool.or_eq_true, decide_eq_true_eq, decide_eq_true_eq] at h
    exact hout _ _ hn h
  · exact ht

theorem oget_at (t k : Nat) (s : State) : oget (s.at t) k = oget s k := rfl

theorem oget_pendEvt {k : Nat} (b : Nat) (s : State) (h : k ≠ Ob.WNP_EVTPEND) : oget (pendEvt b s) k = oget s k := by
  have hr (t : State) : oget (refreshEvt t) k = oget t k := oget_congr (by simp) k
  unfold pendEvt
  rw [hr]
  dsimp only
  split
  · exact oget_oset_ne _ _ h
  · exact oget_oset_ne _ _ h

theorem oget_setPort {k : Nat} (q : Port) (v : PortState) (s : State) (h : k ≠ Ob.WNP_EVTPEND) :
    oget (setPort q v s) k = oget s k := by
  have hr (t : State) : oget (refreshEvt t) k = oget t k := oget_congr (by simp) k
  cases q
  · rfl
  · simp only [setPort]
    split
    · rw [hr, oget_oset_ne _ _ h]; rfl
    · rw [oget_pendEvt _ _ h]; rfl

theorem oget_jrnAdd {k : Nat} (ty fl arg j v : Nat) (data : List Byte) (s : State) (h : k ≠ Ob.JRN_SEQ) :
    oget (jrnAdd ty fl arg j v data s) k = oget s k := oget_oset_ne _ _ h

theorem oget_logEv {k : Nat} (code sev bands data : Nat) (s : State) (hc : notCounter k = true) (h : k ≠ Ob.JRN_SEQ)
    (h' : k ≠ Ob.WNP_EVTPEND) : oget (logEv code sev bands data s) k = oget s k := by
  unfold logEv
  dsimp only
  rw [oget_pendEvt _ _ h', oget_evc _ _ _ hc, oget_jrnAdd _ _ _ _ _ _ _ h]
  rfl

/-! ## Ports -/

@[simp] theorem portOf_setPort_same (q : Port) (v : PortState) (s : State) : portOf (setPort q v s) q = v := by
  cases q
  · rfl
  · simp only [setPort, portOf]
    split
    · simp
    · unfold pendEvt
      dsimp only
      split <;> simp

theorem portOf_at (t : Nat) (s : State) (q : Port) : portOf (s.at t) q = portOf s q := by cases q <;> rfl

/-- Equal management states have equal ports. -/
theorem portOf_congr {s t : State} (h : t.mgt = s.mgt) (q : Port) : portOf t q = portOf s q := by cases q <;> simp [portOf, h]

/-! ## Tables -/

@[simp] theorem railOf_setRail (b : Nat) (v : Rail) (s : State) : railOf (setRail b v s) b = v := by simp [railOf, setRail]
@[simp] theorem padsOf_setPads (b : Nat) (v : BandPins) (s : State) : padsOf (setPads b v s) b = v := by simp [padsOf, setPads]
@[simp] theorem posOf_setPos (k : Nat) (v : Pos) (s : State) : posOf (setPos k v s) k = v := by simp [posOf, setPos]
@[simp] theorem bandScan_setBandScan (b : Nat) (v : BandScan) (s : State) : bandScan (setBandScan b v s) b = v := by
  simp [bandScan, setBandScan]
@[simp] theorem dlkOf_setDlk (b : Nat) (v : DlkBand) (s : State) : dlkOf (setDlk b v s) b = v := by simp [dlkOf, setDlk]
@[simp] theorem mechOf_setMech (n : Nat) (v : Mech) (s : State) : mechOf (setMech n v s) n = v := by simp [mechOf, setMech]
@[simp] theorem tagOf_setTag (k : Nat) (v : Tag) (s : State) : tagOf (setTag k v s) k = v := by simp [tagOf, setTag]
@[simp] theorem groupOf_setGroup (g : Nat) (v : Group) (s : State) : groupOf (setGroup g v s) g = v := by
  simp [groupOf, setGroup]
@[simp] theorem laneOf_setLane (n : Nat) (v : Lane) (s : State) : laneOf (setLane n v s) n = v := by simp [laneOf, setLane]
@[simp] theorem slotOf_setSlot (n : Nat) (v : Slot) (s : State) : slotOf (setSlot n v s) n = v := by simp [slotOf, setSlot]
@[simp] theorem bankOf_setBank (n : Nat) (v : Bank) (s : State) : bankOf (setBank n v s) n = v := by simp [bankOf, setBank]
@[simp] theorem crossOf_setCross (n : Nat) (v : Crossing) (s : State) : crossOf (setCross n v s) n = v := by
  simp [crossOf, setCross]
@[simp] theorem adcOf_setAdc (n : Nat) (v : AdcIn) (s : State) : adcOf (setAdc n v s) n = v := by simp [adcOf, setAdc]
@[simp] theorem calBandOf_setCalBand (b : Nat) (v : CalBand) (s : State) : calBandOf (setCalBand b v s) b = v := by
  simp [calBandOf, setCalBand]
@[simp] theorem nodeOf_setNode (n : Nat) (v : Node) (s : State) : nodeOf (setNode n v s) n = v := by simp [nodeOf, setNode]
@[simp] theorem loopOf_setLoop (n : Nat) (v : Loop) (s : State) : loopOf (setLoop n v s) n = v := by simp [loopOf, setLoop]

end Sys2Proof.Machine
end

