-- ==== Sys2Proof/Laws/Request.lean ====
section
/-!
SUPPORT. What a Wenip request that is taken does (R359 to R361): it runs on the counted state, its answer is queued, and
nothing but its port, its event output and the event counters changes besides.
-/

namespace Sys2Proof.Machine

@[simp] theorem portOf_evc (c : Nat) (s : State) (q : Port) : portOf (evc c s) q = portOf s q := portOf_congr (by simp) q

@[simp] theorem evc_now_eq (c : Nat) (s : State) : (evc c s).now = s.now := by simp

/-- The answer to a taken request. -/
def answerTaken (op : Nat) (h : Hdr) (ix sub : Nat) (data : List Byte) (gen : Nat) (sa : State × Answer) : State :=
  let p := h.port
  let s1 := sa.1
  let v1 := portOf s1 p
  let r := respOf op h ix sub sa.2 true s1.now
  if v1.active ∧ v1.gen = gen then
    let keep := v1.cache.filter (fun e => decide (e.tag ≠ h.tag.toNat) && e.live s1.now)
    setPort p { v1 with queue := v1.queue ++ [r], cache := keep ++ [.mk h.tag.toNat (digestOf op ix sub data) r none] } s1
  else if op = 2 ∧ s1.boot.op ≠ .boot then queueResp p r s1
  else s1

/-- A taken request runs, and its answer is queued. -/
theorem request_taken (op : Nat) (h : Hdr) (ix sub : Nat) (data : List Byte) (run : State → State × Answer) (s : State)
    (ht : taken s h data.length = true) :
    request op h ix sub data run s = answerTaken op h ix sub data (portOf s h.port).gen (run (counted s h)) := by
  simp only [taken, Bool.and_eq_true, decide_eq_true_eq, Option.isNone_iff_eq_none] at ht
  obtain ⟨⟨⟨⟨⟨⟨h1, h2⟩, h3⟩, h4⟩, h5⟩, h6⟩, h7⟩ := ht
  have e1 : ¬((!portServes s h.port) = true ∨ portMax h.port < data.length) := by simp [h1]; exact h2
  have e2 : ¬((!(portOf s h.port).active) = true ∨ h.gen.toNat ≠ (portOf s h.port).gen ∨ h.gen = 0) := by
    rintro (h | h | h)
    · simp [h3] at h
    · exact h h4
    · exact h5 h
  have e3 : ¬64 ≤ outstanding (portOf s h.port) := by omega
  unfold request
  dsimp only
  rw [if_neg e1, if_neg e2, h6]
  dsimp only
  rw [if_neg e3]
  rfl

/-! ### The fields that an answer leaves as the run left them -/

theorem answerTaken_cases (op : Nat) (h : Hdr) (ix sub : Nat) (data : List Byte) (gen : Nat) (sa : State × Answer) :
    (∃ v, answerTaken op h ix sub data gen sa = setPort h.port v sa.1) ∨ answerTaken op h ix sub data gen sa = sa.1 := by
  unfold answerTaken
  dsimp only
  split
  · exact .inl ⟨_, rfl⟩
  · split
    · exact .inl ⟨_, rfl⟩
    · exact .inr rfl

@[simp] theorem answerTaken_pending (op : Nat) (h : Hdr) (ix sub : Nat) (data : List Byte) (gen : Nat) (sa : State × Answer) :
    (answerTaken op h ix sub data gen sa).pending = sa.1.pending := by
  rcases answerTaken_cases op h ix sub data gen sa with ⟨v, e⟩ | e <;> simp [e]

@[simp] theorem answerTaken_now (op : Nat) (h : Hdr) (ix sub : Nat) (data : List Byte) (gen : Nat) (sa : State × Answer) :
    (answerTaken op h ix sub data gen sa).now = sa.1.now := by
  rcases answerTaken_cases op h ix sub data gen sa with ⟨v, e⟩ | e <;> simp [e]

@[simp] theorem answerTaken_free (op : Nat) (h : Hdr) (ix sub : Nat) (data : List Byte) (gen : Nat) (sa : State × Answer) :
    (answerTaken op h ix sub data gen sa).free = sa.1.free := by
  rcases answerTaken_cases op h ix sub data gen sa with ⟨v, e⟩ | e <;> simp [e]

@[simp] theorem answerTaken_dom (op : Nat) (h : Hdr) (ix sub : Nat) (data : List Byte) (gen : Nat) (sa : State × Answer) :
    (answerTaken op h ix sub data gen sa).dom = sa.1.dom := by
  rcases answerTaken_cases op h ix sub data gen sa with ⟨v, e⟩ | e <;> simp [e]

@[simp] theorem answerTaken_mem (op : Nat) (h : Hdr) (ix sub : Nat) (data : List Byte) (gen : Nat) (sa : State × Answer) :
    (answerTaken op h ix sub data gen sa).mem = sa.1.mem := by
  rcases answerTaken_cases op h ix sub data gen sa with ⟨v, e⟩ | e <;> simp [e]

@[simp] theorem answerTaken_poison (op : Nat) (h : Hdr) (ix sub : Nat) (data : List Byte) (gen : Nat) (sa : State × Answer) :
    (answerTaken op h ix sub data gen sa).poison = sa.1.poison := by
  rcases answerTaken_cases op h ix sub data gen sa with ⟨v, e⟩ | e <;> simp [e]

@[simp] theorem answerTaken_boot (op : Nat) (h : Hdr) (ix sub : Nat) (data : List Byte) (gen : Nat) (sa : State × Answer) :
    (answerTaken op h ix sub data gen sa).boot = sa.1.boot := by
  rcases answerTaken_cases op h ix sub data gen sa with ⟨v, e⟩ | e <;> simp [e]

@[simp] theorem answerTaken_pwr (op : Nat) (h : Hdr) (ix sub : Nat) (data : List Byte) (gen : Nat) (sa : State × Answer) :
    (answerTaken op h ix sub data gen sa).pwr = sa.1.pwr := by
  rcases answerTaken_cases op h ix sub data gen sa with ⟨v, e⟩ | e <;> simp [e]

@[simp] theorem answerTaken_evlog (op : Nat) (h : Hdr) (ix sub : Nat) (data : List Byte) (gen : Nat) (sa : State × Answer) :
    (answerTaken op h ix sub data gen sa).evlog = sa.1.evlog := by
  rcases answerTaken_cases op h ix sub data gen sa with ⟨v, e⟩ | e <;> simp [e]

@[simp] theorem answerTaken_cross (op : Nat) (h : Hdr) (ix sub : Nat) (data : List Byte) (gen : Nat) (sa : State × Answer) :
    (answerTaken op h ix sub data gen sa).cross = sa.1.cross := by
  rcases answerTaken_cases op h ix sub data gen sa with ⟨v, e⟩ | e <;> simp [e]

@[simp] theorem answerTaken_pxl (op : Nat) (h : Hdr) (ix sub : Nat) (data : List Byte) (gen : Nat) (sa : State × Answer) :
    (answerTaken op h ix sub data gen sa).pxl = sa.1.pxl := by
  rcases answerTaken_cases op h ix sub data gen sa with ⟨v, e⟩ | e <;> simp [e]

@[simp] theorem answerTaken_trx (op : Nat) (h : Hdr) (ix sub : Nat) (data : List Byte) (gen : Nat) (sa : State × Answer) :
    (answerTaken op h ix sub data gen sa).trx = sa.1.trx := by
  rcases answerTaken_cases op h ix sub data gen sa with ⟨v, e⟩ | e <;> simp [e]

@[simp] theorem answerTaken_lake (op : Nat) (h : Hdr) (ix sub : Nat) (data : List Byte) (gen : Nat) (sa : State × Answer) :
    (answerTaken op h ix sub data gen sa).lake = sa.1.lake := by
  rcases answerTaken_cases op h ix sub data gen sa with ⟨v, e⟩ | e <;> simp [e]

@[simp] theorem answerTaken_fst (op : Nat) (h : Hdr) (ix sub : Nat) (data : List Byte) (gen : Nat) (sa : State × Answer) :
    (answerTaken op h ix sub data gen sa).fst = sa.1.fst := by
  rcases answerTaken_cases op h ix sub data gen sa with ⟨v, e⟩ | e <;> simp [e]

@[simp] theorem answerTaken_bnk (op : Nat) (h : Hdr) (ix sub : Nat) (data : List Byte) (gen : Nat) (sa : State × Answer) :
    (answerTaken op h ix sub data gen sa).bnk = sa.1.bnk := by
  rcases answerTaken_cases op h ix sub data gen sa with ⟨v, e⟩ | e <;> simp [e]

@[simp] theorem answerTaken_scan (op : Nat) (h : Hdr) (ix sub : Nat) (data : List Byte) (gen : Nat) (sa : State × Answer) :
    (answerTaken op h ix sub data gen sa).scan = sa.1.scan := by
  rcases answerTaken_cases op h ix sub data gen sa with ⟨v, e⟩ | e <;> simp [e]

@[simp] theorem answerTaken_dlk (op : Nat) (h : Hdr) (ix sub : Nat) (data : List Byte) (gen : Nat) (sa : State × Answer) :
    (answerTaken op h ix sub data gen sa).dlk = sa.1.dlk := by
  rcases answerTaken_cases op h ix sub data gen sa with ⟨v, e⟩ | e <;> simp [e]

@[simp] theorem answerTaken_drvRec (op : Nat) (h : Hdr) (ix sub : Nat) (data : List Byte) (gen : Nat) (sa : State × Answer) :
    (answerTaken op h ix sub data gen sa).drvRec = sa.1.drvRec := by
  rcases answerTaken_cases op h ix sub data gen sa with ⟨v, e⟩ | e <;> simp [e]

@[simp] theorem answerTaken_wear (op : Nat) (h : Hdr) (ix sub : Nat) (data : List Byte) (gen : Nat) (sa : State × Answer) :
    (answerTaken op h ix sub data gen sa).wear = sa.1.wear := by
  rcases answerTaken_cases op h ix sub data gen sa with ⟨v, e⟩ | e <;> simp [e]

@[simp] theorem answerTaken_safe (op : Nat) (h : Hdr) (ix sub : Nat) (data : List Byte) (gen : Nat) (sa : State × Answer) :
    (answerTaken op h ix sub data gen sa).safe = sa.1.safe := by
  rcases answerTaken_cases op h ix sub data gen sa with ⟨v, e⟩ | e <;> simp [e]

@[simp] theorem answerTaken_pnl (op : Nat) (h : Hdr) (ix sub : Nat) (data : List Byte) (gen : Nat) (sa : State × Answer) :
    (answerTaken op h ix sub data gen sa).pnl = sa.1.pnl := by
  rcases answerTaken_cases op h ix sub data gen sa with ⟨v, e⟩ | e <;> simp [e]

@[simp] theorem answerTaken_cal (op : Nat) (h : Hdr) (ix sub : Nat) (data : List Byte) (gen : Nat) (sa : State × Answer) :
    (answerTaken op h ix sub data gen sa).cal = sa.1.cal := by
  rcases answerTaken_cases op h ix sub data gen sa with ⟨v, e⟩ | e <;> simp [e]

@[simp] theorem answerTaken_gyl (op : Nat) (h : Hdr) (ix sub : Nat) (data : List Byte) (gen : Nat) (sa : State × Answer) :
    (answerTaken op h ix sub data gen sa).gyl = sa.1.gyl := by
  rcases answerTaken_cases op h ix sub data gen sa with ⟨v, e⟩ | e <;> simp [e]

@[simp] theorem answerTaken_jrn (op : Nat) (h : Hdr) (ix sub : Nat) (data : List Byte) (gen : Nat) (sa : State × Answer) :
    (answerTaken op h ix sub data gen sa).jrn = sa.1.jrn := by
  rcases answerTaken_cases op h ix sub data gen sa with ⟨v, e⟩ | e <;> simp [e]

theorem oget_answerTaken {k : Nat} (op : Nat) (h : Hdr) (ix sub : Nat) (data : List Byte) (gen : Nat) (sa : State × Answer)
    (hk : k ≠ Ob.WNP_EVTPEND) : oget (answerTaken op h ix sub data gen sa) k = oget sa.1 k := by
  rcases answerTaken_cases op h ix sub data gen sa with ⟨v, e⟩ | e <;> rw [e]
  exact oget_setPort _ _ _ hk

/-! ## Writes -/

theorem toBE_length (n v : Nat) : (toBE n v).length = n := by
  induction n generalizing v with
  | zero => rfl
  | succ n ih => simp [toBE, ih]

theorem ofBE_foldl (bs : List Byte) (a : Nat) :
    bs.foldl (fun a b => 256 * a + b.toNat) a = a * 256 ^ bs.length + ofBE bs := by
  induction bs generalizing a with
  | nil => simp [ofBE]
  | cons b r ih =>
    simp only [ofBE, List.foldl_cons, List.length_cons]
    rw [ih, ih (256 * 0 + b.toNat)]
    ring

/-- The bytes of a number spell it. -/
theorem ofBE_toBE (n v : Nat) (h : v < 256 ^ n) : ofBE (toBE n v) = v := by
  induction n generalizing v with
  | zero => simp [toBE, ofBE]; omega
  | succ n ih =>
    have hd : v / 256 ^ n < 256 := by
      rw [Nat.div_lt_iff_lt_mul (by positivity)]; rw [pow_succ] at h; linarith
    have hm : ∀ (m : Nat), toBE n v = toBE n (v % 256 ^ n) := by
      intro _
      have : ∀ (k w : Nat), k ≤ n → toBE k w = toBE k (w % 256 ^ n) := by
        intro k
        induction k with
        | zero => intros; rfl
        | succ k ihk =>
          intro w hk
          simp only [toBE]
          rw [ihk w (by omega), ← ihk w (by omega)]
          congr 1
          have h1 : w % 256 ^ n / 256 ^ k % 256 = w / 256 ^ k % 256 := by
            have hsplit : 256 ^ n = 256 ^ k * (256 * 256 ^ (n - k - 1)) := by
              rw [← mul_assoc, ← pow_succ, ← pow_add]; congr 1; omega
            rw [hsplit, Nat.mod_mul_right_div_self, Nat.mod_mul_right_mod]
          apply BitVec.eq_of_toNat_eq
          simp only [BitVec.toNat_ofNat]
          omega
      exact this n v (le_refl n)
    simp only [toBE, ofBE, List.foldl_cons]
    rw [ofBE_foldl, hm 0, ih _ (Nat.mod_lt _ (by positivity)), toBE_length]
    have : (BitVec.ofNat 8 (v / 256 ^ n)).toNat = v / 256 ^ n := by
      simp only [BitVec.toNat_ofNat]; exact Nat.mod_eq_of_lt hd
    rw [this]
    have := Nat.div_add_mod v (256 ^ n)
    simp only [mul_zero, zero_add]
    linarith

/-- A write that is taken applies the object's own rule to the counted state; its status is the answer. -/
theorem writeRow_taken (h : Hdr) (k v : Nat) (own : Nat → State → State × Nat) (s : State) (ht : writeTaken s h k v = true) :
    ∃ gen, writeRow h k v own s = answerTaken 4 h (k / 256) (k % 256) (toBE (objBytes k) v) gen
      ((own v (counted s h)).1, ⟨(own v (counted s h)).2, []⟩) := by
  simp only [writeTaken, Bool.and_eq_true, decide_eq_true_eq] at ht
  obtain ⟨⟨h1, h2⟩, h3⟩ := ht
  refine ⟨(portOf s h.port).gen, ?_⟩
  have hg : writeGate (counted s h) h.port k (objBytes k) v = .pass := by
    rw [← h2]
    have hob : oflag (counted s h) Ob.SAF_SEALED = oflag s Ob.SAF_SEALED := by
      have he : oget (counted s h) Ob.SAF_SEALED = oget s Ob.SAF_SEALED :=
        (oget_evc _ _ _ (by decide)).trans (oget_setPort _ _ _ (by decide))
      simp [oflag, he]
    unfold writeGate
    rw [hob]
    simp [counted]
  have hrow : writeRow h k v own s =
      request 4 h (k / 256) (k % 256) (toBE (objBytes k) v) (runWrite h.port k (toBE (objBytes k) v) own) s := rfl
  rw [hrow, request_taken _ _ _ _ _ _ _ (by rw [toBE_length]; exact h1)]
  unfold runWrite
  rw [toBE_length, ofBE_toBE _ _ h3, hg]

end Sys2Proof.Machine
end

