-- ==== Sys2Proof/Laws/Kept.lean ====
section
/-!
SUPPORT. What every operation of the model keeps: the queue of commands, a time that never runs back, a safe state, and
every part of the state that it has no business with. One lemma per operation, each resting on those of the operations it
calls: `kept_f` names the parts that `f` may change.
-/

namespace Sys2Proof.Machine

/-- One list of parts within another. -/
def Sub (x m : List Part) : Prop := ∀ e ∈ x, e ∈ m

theorem Sub.trans {x y m : List Part} (h : (x.all fun e => y.any fun f => e.ctorIdx == f.ctorIdx) = true) (hm : Sub y m) :
    Sub x m := by
  intro e he
  rw [List.all_eq_true] at h
  have := h e he
  rw [List.any_eq_true] at this
  obtain ⟨f, hf, hef⟩ := this
  have : e = f := by
    cases e <;> cases f <;> first
      | rfl
      | exact absurd hef (by decide)
  subst this
  exact hm _ hf

/-- What a run from `s0` to `s` has kept, when it may change the parts `m`. -/
structure Kept (m : List Part) (s0 s : State) : Prop where
  pending : s.pending = s0.pending
  now     : s0.now ≤ s.now
  safe    : s0.safe_ = true → railsInterlocked s.pins.bands = true ∧ Memory.wf s.mem = true
  rest    : State.sameBut m s0 s

/-- Nothing has run yet. -/
theorem Kept.start (m : List Part) (s : State) : Kept m s s where
  pending := rfl
  now := le_refl _
  safe h := by simpa [State.safe_] using h
  rest := by constructor <;> exact fun _ => rfl

/-- The same of the next state of an outcome. -/
def KeptO (m : List Part) (s0 : State) (o : Host.Outcome State Fault Refusal) : Prop := ∀ s', o = .next s' → Kept m s0 s'

/-- The same of a state with something beside it. -/
def KeptP {α : Type} (m : List Part) (s0 : State) (r : State × α) : Prop := Kept m s0 r.1

/-- The same where there may be none. -/
def KeptQ {α : Type} (m : List Part) (s0 : State) (o : Option (State × α)) : Prop := ∀ r, o = some r → KeptP m s0 r

variable {m : List Part} {s0 s : State}

/-! ## The shapes of a definition -/

theorem kept_ite {c : Prop} [Decidable c] {a b : State} (ha : Kept m s0 a) (hb : Kept m s0 b) :
    Kept m s0 (if c then a else b) := by
  split
  · exact ha
  · exact hb

/-- A named state inside a definition. -/
theorem kept_named {a : State} {C : State → Prop} (ha : Kept m s0 a) (hb : ∀ x, Kept m s0 x → C x) : let x := a; C x :=
  hb a ha

/-- A named state with something beside it. -/
theorem kept_namedP {α : Type} {a : State × α} {C : State × α → Prop} (ha : KeptP m s0 a)
    (hb : ∀ x, KeptP m s0 x → C x) :
    let x := a; C x := hb a ha

/-- A named value of another type. -/
theorem kept_value {α : Sort*} {a : α} {C : α → Prop} (hb : ∀ x, C x) : let x := a; C x := hb a

theorem kept_fst {α : Type} {r : State × α} (h : KeptP m s0 r) : Kept m s0 r.1 := h

theorem kept_eqP {α : Type} {r : State × α} {a : State} {b : α} (e : r = (a, b)) (h : KeptP m s0 r) : Kept m s0 a := by
  subst e; exact h

theorem keptP_mk {α : Type} {a : State} {b : α} (h : Kept m s0 a) : KeptP m s0 (a, b) := h

theorem keptP_ite {α : Type} {c : Prop} [Decidable c] {a b : State × α} (ha : KeptP m s0 a) (hb : KeptP m s0 b) :
    KeptP m s0 (if c then a else b) := by
  split
  · exact ha
  · exact hb

theorem keptO_next {a : State} (h : Kept m s0 a) : KeptO m s0 (.next a) := by
  intro s' e; cases e; exact h

theorem keptO_fault {r : Fault} : KeptO m s0 (.fault r) := by intro s' e; cases e

theorem keptO_refused {r : Refusal} : KeptO m s0 (.refused r) := by intro s' e; cases e

theorem keptO_ite {c : Prop} [Decidable c] {a b : Host.Outcome State Fault Refusal} (ha : KeptO m s0 a)
    (hb : KeptO m s0 b) : KeptO m s0 (if c then a else b) := by
  split
  · exact ha
  · exact hb

theorem keptQ_some {α : Type} {r : State × α} (h : KeptP m s0 r) : KeptQ m s0 (some r) := by
  intro r' e; cases e; exact h

theorem keptQ_none {α : Type} : KeptQ m s0 (none : Option (State × α)) := by intro r' e; cases e

theorem keptQ_ite {α : Type} {c : Prop} [Decidable c] {a b : Option (State × α)} (ha : KeptQ m s0 a) (hb : KeptQ m s0 b) :
    KeptQ m s0 (if c then a else b) := by
  split
  · exact ha
  · exact hb

theorem keptQ_getD {α : Type} {o : Option (State × α)} {r : State × α} (ho : KeptQ m s0 o) (hr : KeptP m s0 r) :
    KeptP m s0 (o.getD r) := by
  cases o with
  | none => exact hr
  | some x => exact ho x rfl

theorem kept_foldl {α : Type} {f : State → α → State} {xs : List α} (hf : ∀ x a, Kept m s0 a → Kept m s0 (f a x))
    (h : Kept m s0 s) : Kept m s0 (xs.foldl f s) :=
  foldl_keeps (Kept m s0) f xs (fun x _ a ha => hf x a ha) s h

theorem keptP_foldl {α β : Type} {f : State × β → α → State × β} {xs : List α} {r : State × β}
    (hf : ∀ x a, KeptP m s0 a → KeptP m s0 (f a x)) (h : KeptP m s0 r) : KeptP m s0 (xs.foldl f r) :=
  foldl_keeps (KeptP m s0) f xs (fun x _ a ha => hf x a ha) r h

theorem kept_foldlP {α β : Type} {f : State × β → α → State × β} {xs : List α} {r : State × β}
    (hf : ∀ x a, KeptP m s0 a → KeptP m s0 (f a x)) (h : KeptP m s0 r) : Kept m s0 (xs.foldl f r).1 :=
  keptP_foldl hf h

theorem kept_each {α : Type} {f : α → State → State} {xs : List α} (hf : ∀ x a, Kept m s0 a → Kept m s0 (f x a))
    (h : Kept m s0 s) : Kept m s0 (each xs f s) := kept_foldl hf h

theorem kept_iter {f : State → State} {k : Nat} (hf : ∀ a, Kept m s0 a → Kept m s0 (f a)) (h : Kept m s0 s) :
    Kept m s0 (iter f k s) := iter_keeps (Kept m s0) f hf k s h

theorem kept_whenDo {c : Bool} {f : State → State} (hf : ∀ a, Kept m s0 a → Kept m s0 (f a)) (h : Kept m s0 s) :
    Kept m s0 (whenDo c f s) := by
  unfold whenDo
  exact kept_ite (hf s h) h

/-! ## One field, or several, of a record -/

/-- A state that is written out as a record. -/
def KeptL (m : List Part) (s0 c : State) : Prop := Kept m s0 c

theorem kept_lit {pending now free obj dom mem poison boot pins pwr evlog cross pxl trx lake fst bnk mgt scan dlk
      drvRec wear safe pnl cal gyl jrn} :
    Kept m s0 (State.mk pending now free obj dom mem poison boot pins pwr evlog cross pxl trx lake fst bnk mgt scan
      dlk drvRec wear safe pnl cal gyl jrn) = KeptL m s0 (State.mk pending now free obj dom mem poison boot pins pwr
      evlog cross pxl trx lake fst bnk mgt scan dlk drvRec wear safe pnl cal gyl jrn) := rfl

theorem kept_set_free {v2} (hm : Sub [.free] m)
    (h : Kept m s0 s) :
    KeptL m s0 { s with free := v2 } :=
  {
    pending := h.pending
    now := h.now
    safe := h.safe
    rest := { h.rest with
      free := fun e => absurd (hm _ (by simp)) e } }

theorem kept_set_obj {v3} (hm : Sub [.obj] m)
    (h : Kept m s0 s) :
    KeptL m s0 { s with obj := v3 } :=
  {
    pending := h.pending
    now := h.now
    safe := h.safe
    rest := { h.rest with
      obj := fun e => absurd (hm _ (by simp)) e } }

theorem kept_set_dom {v4} (hm : Sub [.dom] m)
    (h : Kept m s0 s) :
    KeptL m s0 { s with dom := v4 } :=
  {
    pending := h.pending
    now := h.now
    safe := h.safe
    rest := { h.rest with
      dom := fun e => absurd (hm _ (by simp)) e } }

theorem kept_set_poison {v6} (hm : Sub [.poison] m)
    (h : Kept m s0 s) :
    KeptL m s0 { s with poison := v6 } :=
  {
    pending := h.pending
    now := h.now
    safe := h.safe
    rest := { h.rest with
      poison := fun e => absurd (hm _ (by simp)) e } }

theorem kept_set_boot {v7} (hm : Sub [.boot] m)
    (h : Kept m s0 s) :
    KeptL m s0 { s with boot := v7 } :=
  {
    pending := h.pending
    now := h.now
    safe := h.safe
    rest := { h.rest with
      boot := fun e => absurd (hm _ (by simp)) e } }

theorem kept_set_pins {v8} (hm : Sub [.pins] m) (hb : v8.bands = s.pins.bands)
    (h : Kept m s0 s) :
    KeptL m s0 { s with pins := v8 } :=
  {
    pending := h.pending
    now := h.now
    safe := by simpa [hb] using h.safe
    rest := { h.rest with
      pins := fun e => absurd (hm _ (by simp)) e } }

theorem kept_set_pwr {v9} (hm : Sub [.pwr] m)
    (h : Kept m s0 s) :
    KeptL m s0 { s with pwr := v9 } :=
  {
    pending := h.pending
    now := h.now
    safe := h.safe
    rest := { h.rest with
      pwr := fun e => absurd (hm _ (by simp)) e } }

theorem kept_set_evlog {v10} (hm : Sub [.evlog] m)
    (h : Kept m s0 s) :
    KeptL m s0 { s with evlog := v10 } :=
  {
    pending := h.pending
    now := h.now
    safe := h.safe
    rest := { h.rest with
      evlog := fun e => absurd (hm _ (by simp)) e } }

theorem kept_set_cross {v11} (hm : Sub [.cross] m)
    (h : Kept m s0 s) :
    KeptL m s0 { s with cross := v11 } :=
  {
    pending := h.pending
    now := h.now
    safe := h.safe
    rest := { h.rest with
      cross := fun e => absurd (hm _ (by simp)) e } }

theorem kept_set_pxl {v12} (hm : Sub [.pxl] m)
    (h : Kept m s0 s) :
    KeptL m s0 { s with pxl := v12 } :=
  {
    pending := h.pending
    now := h.now
    safe := h.safe
    rest := { h.rest with
      pxl := fun e => absurd (hm _ (by simp)) e } }

theorem kept_set_trx {v13} (hm : Sub [.trx] m)
    (h : Kept m s0 s) :
    KeptL m s0 { s with trx := v13 } :=
  {
    pending := h.pending
    now := h.now
    safe := h.safe
    rest := { h.rest with
      trx := fun e => absurd (hm _ (by simp)) e } }

theorem kept_set_lake {v14} (hm : Sub [.lake] m)
    (h : Kept m s0 s) :
    KeptL m s0 { s with lake := v14 } :=
  {
    pending := h.pending
    now := h.now
    safe := h.safe
    rest := { h.rest with
      lake := fun e => absurd (hm _ (by simp)) e } }

theorem kept_set_fst {v15} (hm : Sub [.fst] m)
    (h : Kept m s0 s) :
    KeptL m s0 { s with fst := v15 } :=
  {
    pending := h.pending
    now := h.now
    safe := h.safe
    rest := { h.rest with
      fst := fun e => absurd (hm _ (by simp)) e } }

theorem kept_set_bnk {v16} (hm : Sub [.bnk] m)
    (h : Kept m s0 s) :
    KeptL m s0 { s with bnk := v16 } :=
  {
    pending := h.pending
    now := h.now
    safe := h.safe
    rest := { h.rest with
      bnk := fun e => absurd (hm _ (by simp)) e } }

theorem kept_set_mgt {v17} (hm : Sub [.mgt] m)
    (h : Kept m s0 s) :
    KeptL m s0 { s with mgt := v17 } :=
  {
    pending := h.pending
    now := h.now
    safe := h.safe
    rest := { h.rest with
      mgt := fun e => absurd (hm _ (by simp)) e } }

theorem kept_set_scan {v18} (hm : Sub [.scan] m)
    (h : Kept m s0 s) :
    KeptL m s0 { s with scan := v18 } :=
  {
    pending := h.pending
    now := h.now
    safe := h.safe
    rest := { h.rest with
      scan := fun e => absurd (hm _ (by simp)) e } }

theorem kept_set_dlk {v19} (hm : Sub [.dlk] m)
    (h : Kept m s0 s) :
    KeptL m s0 { s with dlk := v19 } :=
  {
    pending := h.pending
    now := h.now
    safe := h.safe
    rest := { h.rest with
      dlk := fun e => absurd (hm _ (by simp)) e } }

theorem kept_set_drvRec {v20} (hm : Sub [.drvRec] m)
    (h : Kept m s0 s) :
    KeptL m s0 { s with drvRec := v20 } :=
  {
    pending := h.pending
    now := h.now
    safe := h.safe
    rest := { h.rest with
      drvRec := fun e => absurd (hm _ (by simp)) e } }

theorem kept_set_wear {v21} (hm : Sub [.wear] m)
    (h : Kept m s0 s) :
    KeptL m s0 { s with wear := v21 } :=
  {
    pending := h.pending
    now := h.now
    safe := h.safe
    rest := { h.rest with
      wear := fun e => absurd (hm _ (by simp)) e } }

theorem kept_set_safe {v22} (hm : Sub [.safe] m)
    (h : Kept m s0 s) :
    KeptL m s0 { s with safe := v22 } :=
  {
    pending := h.pending
    now := h.now
    safe := h.safe
    rest := { h.rest with
      safe := fun e => absurd (hm _ (by simp)) e } }

theorem kept_set_pnl {v23} (hm : Sub [.pnl] m)
    (h : Kept m s0 s) :
    KeptL m s0 { s with pnl := v23 } :=
  {
    pending := h.pending
    now := h.now
    safe := h.safe
    rest := { h.rest with
      pnl := fun e => absurd (hm _ (by simp)) e } }

theorem kept_set_cal {v24} (hm : Sub [.cal] m)
    (h : Kept m s0 s) :
    KeptL m s0 { s with cal := v24 } :=
  {
    pending := h.pending
    now := h.now
    safe := h.safe
    rest := { h.rest with
      cal := fun e => absurd (hm _ (by simp)) e } }

theorem kept_set_gyl {v25} (hm : Sub [.gyl] m)
    (h : Kept m s0 s) :
    KeptL m s0 { s with gyl := v25 } :=
  {
    pending := h.pending
    now := h.now
    safe := h.safe
    rest := { h.rest with
      gyl := fun e => absurd (hm _ (by simp)) e } }

theorem kept_set_jrn {v26} (hm : Sub [.jrn] m)
    (h : Kept m s0 s) :
    KeptL m s0 { s with jrn := v26 } :=
  {
    pending := h.pending
    now := h.now
    safe := h.safe
    rest := { h.rest with
      jrn := fun e => absurd (hm _ (by simp)) e } }

theorem kept_set_poison_fst {v6 v15} (hm : Sub [.poison, .fst] m)
    (h : Kept m s0 s) :
    KeptL m s0 { s with poison := v6, fst := v15 } :=
  {
    pending := h.pending
    now := h.now
    safe := h.safe
    rest := { h.rest with
      poison := fun e => absurd (hm _ (by simp)) e
      fst := fun e => absurd (hm _ (by simp)) e } }

theorem kept_set_boot_pins {v7 v8} (hm : Sub [.boot, .pins] m) (hb : v8.bands = s.pins.bands)
    (h : Kept m s0 s) :
    KeptL m s0 { s with boot := v7, pins := v8 } :=
  {
    pending := h.pending
    now := h.now
    safe := by simpa [hb] using h.safe
    rest := { h.rest with
      boot := fun e => absurd (hm _ (by simp)) e
      pins := fun e => absurd (hm _ (by simp)) e } }

theorem kept_set_boot_pwr {v7 v9} (hm : Sub [.boot, .pwr] m)
    (h : Kept m s0 s) :
    KeptL m s0 { s with boot := v7, pwr := v9 } :=
  {
    pending := h.pending
    now := h.now
    safe := h.safe
    rest := { h.rest with
      boot := fun e => absurd (hm _ (by simp)) e
      pwr := fun e => absurd (hm _ (by simp)) e } }

theorem kept_set_boot_fst {v7 v15} (hm : Sub [.boot, .fst] m)
    (h : Kept m s0 s) :
    KeptL m s0 { s with boot := v7, fst := v15 } :=
  {
    pending := h.pending
    now := h.now
    safe := h.safe
    rest := { h.rest with
      boot := fun e => absurd (hm _ (by simp)) e
      fst := fun e => absurd (hm _ (by simp)) e } }

theorem kept_set_boot_safe {v7 v22} (hm : Sub [.boot, .safe] m)
    (h : Kept m s0 s) :
    KeptL m s0 { s with boot := v7, safe := v22 } :=
  {
    pending := h.pending
    now := h.now
    safe := h.safe
    rest := { h.rest with
      boot := fun e => absurd (hm _ (by simp)) e
      safe := fun e => absurd (hm _ (by simp)) e } }

theorem kept_set_boot_pnl {v7 v23} (hm : Sub [.boot, .pnl] m)
    (h : Kept m s0 s) :
    KeptL m s0 { s with boot := v7, pnl := v23 } :=
  {
    pending := h.pending
    now := h.now
    safe := h.safe
    rest := { h.rest with
      boot := fun e => absurd (hm _ (by simp)) e
      pnl := fun e => absurd (hm _ (by simp)) e } }

theorem kept_set_pins_pwr {v8 v9} (hm : Sub [.pins, .pwr] m) (hb : v8.bands = s.pins.bands)
    (h : Kept m s0 s) :
    KeptL m s0 { s with pins := v8, pwr := v9 } :=
  {
    pending := h.pending
    now := h.now
    safe := by simpa [hb] using h.safe
    rest := { h.rest with
      pins := fun e => absurd (hm _ (by simp)) e
      pwr := fun e => absurd (hm _ (by simp)) e } }

theorem kept_set_pwr_scan {v9 v18} (hm : Sub [.pwr, .scan] m)
    (h : Kept m s0 s) :
    KeptL m s0 { s with pwr := v9, scan := v18 } :=
  {
    pending := h.pending
    now := h.now
    safe := h.safe
    rest := { h.rest with
      pwr := fun e => absurd (hm _ (by simp)) e
      scan := fun e => absurd (hm _ (by simp)) e } }

theorem kept_set_pwr_gyl {v9 v25} (hm : Sub [.pwr, .gyl] m)
    (h : Kept m s0 s) :
    KeptL m s0 { s with pwr := v9, gyl := v25 } :=
  {
    pending := h.pending
    now := h.now
    safe := h.safe
    rest := { h.rest with
      pwr := fun e => absurd (hm _ (by simp)) e
      gyl := fun e => absurd (hm _ (by simp)) e } }

theorem kept_set_bnk_scan {v16 v18} (hm : Sub [.bnk, .scan] m)
    (h : Kept m s0 s) :
    KeptL m s0 { s with bnk := v16, scan := v18 } :=
  {
    pending := h.pending
    now := h.now
    safe := h.safe
    rest := { h.rest with
      bnk := fun e => absurd (hm _ (by simp)) e
      scan := fun e => absurd (hm _ (by simp)) e } }

theorem kept_set_mgt_jrn {v17 v26} (hm : Sub [.mgt, .jrn] m)
    (h : Kept m s0 s) :
    KeptL m s0 { s with mgt := v17, jrn := v26 } :=
  {
    pending := h.pending
    now := h.now
    safe := h.safe
    rest := { h.rest with
      mgt := fun e => absurd (hm _ (by simp)) e
      jrn := fun e => absurd (hm _ (by simp)) e } }

theorem kept_set_scan_safe {v18 v22} (hm : Sub [.scan, .safe] m)
    (h : Kept m s0 s) :
    KeptL m s0 { s with scan := v18, safe := v22 } :=
  {
    pending := h.pending
    now := h.now
    safe := h.safe
    rest := { h.rest with
      scan := fun e => absurd (hm _ (by simp)) e
      safe := fun e => absurd (hm _ (by simp)) e } }

theorem kept_set_scan_gyl {v18 v25} (hm : Sub [.scan, .gyl] m)
    (h : Kept m s0 s) :
    KeptL m s0 { s with scan := v18, gyl := v25 } :=
  {
    pending := h.pending
    now := h.now
    safe := h.safe
    rest := { h.rest with
      scan := fun e => absurd (hm _ (by simp)) e
      gyl := fun e => absurd (hm _ (by simp)) e } }

theorem kept_set_scan_jrn {v18 v26} (hm : Sub [.scan, .jrn] m)
    (h : Kept m s0 s) :
    KeptL m s0 { s with scan := v18, jrn := v26 } :=
  {
    pending := h.pending
    now := h.now
    safe := h.safe
    rest := { h.rest with
      scan := fun e => absurd (hm _ (by simp)) e
      jrn := fun e => absurd (hm _ (by simp)) e } }

theorem kept_set_cal_jrn {v24 v26} (hm : Sub [.cal, .jrn] m)
    (h : Kept m s0 s) :
    KeptL m s0 { s with cal := v24, jrn := v26 } :=
  {
    pending := h.pending
    now := h.now
    safe := h.safe
    rest := { h.rest with
      cal := fun e => absurd (hm _ (by simp)) e
      jrn := fun e => absurd (hm _ (by simp)) e } }

theorem kept_set_obj_dom_scan {v3 v4 v18} (hm : Sub [.obj, .dom, .scan] m)
    (h : Kept m s0 s) :
    KeptL m s0 { s with obj := v3, dom := v4, scan := v18 } :=
  {
    pending := h.pending
    now := h.now
    safe := h.safe
    rest := { h.rest with
      obj := fun e => absurd (hm _ (by simp)) e
      dom := fun e => absurd (hm _ (by simp)) e
      scan := fun e => absurd (hm _ (by simp)) e } }

theorem kept_set_dom_mgt_scan {v4 v17 v18} (hm : Sub [.dom, .mgt, .scan] m)
    (h : Kept m s0 s) :
    KeptL m s0 { s with dom := v4, mgt := v17, scan := v18 } :=
  {
    pending := h.pending
    now := h.now
    safe := h.safe
    rest := { h.rest with
      dom := fun e => absurd (hm _ (by simp)) e
      mgt := fun e => absurd (hm _ (by simp)) e
      scan := fun e => absurd (hm _ (by simp)) e } }

theorem kept_set_boot_pins_pwr {v7 v8 v9} (hm : Sub [.boot, .pins, .pwr] m) (hb : v8.bands = s.pins.bands)
    (h : Kept m s0 s) :
    KeptL m s0 { s with boot := v7, pins := v8, pwr := v9 } :=
  {
    pending := h.pending
    now := h.now
    safe := by simpa [hb] using h.safe
    rest := { h.rest with
      boot := fun e => absurd (hm _ (by simp)) e
      pins := fun e => absurd (hm _ (by simp)) e
      pwr := fun e => absurd (hm _ (by simp)) e } }

theorem kept_set_pwr_pxl_trx {v9 v12 v13} (hm : Sub [.pwr, .pxl, .trx] m)
    (h : Kept m s0 s) :
    KeptL m s0 { s with pwr := v9, pxl := v12, trx := v13 } :=
  {
    pending := h.pending
    now := h.now
    safe := h.safe
    rest := { h.rest with
      pwr := fun e => absurd (hm _ (by simp)) e
      pxl := fun e => absurd (hm _ (by simp)) e
      trx := fun e => absurd (hm _ (by simp)) e } }

theorem kept_set_pwr_pxl_mgt {v9 v12 v17} (hm : Sub [.pwr, .pxl, .mgt] m)
    (h : Kept m s0 s) :
    KeptL m s0 { s with pwr := v9, pxl := v12, mgt := v17 } :=
  {
    pending := h.pending
    now := h.now
    safe := h.safe
    rest := { h.rest with
      pwr := fun e => absurd (hm _ (by simp)) e
      pxl := fun e => absurd (hm _ (by simp)) e
      mgt := fun e => absurd (hm _ (by simp)) e } }

theorem kept_set_boot_pins_pwr_trx_gyl {v7 v8 v9 v13 v25} (hm : Sub [.boot, .pins, .pwr, .trx, .gyl] m) (hb : v8.bands = s.pins.bands)
    (h : Kept m s0 s) :
    KeptL m s0 { s with boot := v7, pins := v8, pwr := v9, trx := v13, gyl := v25 } :=
  {
    pending := h.pending
    now := h.now
    safe := by simpa [hb] using h.safe
    rest := { h.rest with
      boot := fun e => absurd (hm _ (by simp)) e
      pins := fun e => absurd (hm _ (by simp)) e
      pwr := fun e => absurd (hm _ (by simp)) e
      trx := fun e => absurd (hm _ (by simp)) e
      gyl := fun e => absurd (hm _ (by simp)) e } }

/-! ## The operations that write the queue, the time, the pads or DRAM -/

theorem kept_State_at (t : Nat) (h : Kept m s0 s) : Kept m s0 (s.at t) where
  pending := h.pending
  now := le_trans h.now (Nat.le_max_left _ _)
  safe := h.safe
  rest := { h.rest with }

theorem kept_memRun (a : Nat) (bs : List Byte) (hm : Sub [.mem, .poison] m) (h : Kept m s0 s) :
    Kept m s0 (memRun a bs s) where
  pending := h.pending
  now := h.now
  safe hs := ⟨(h.safe hs).1, memRun_wf a bs s (h.safe hs).2⟩
  rest := { h.rest with mem := fun e => absurd (hm _ (by simp)) e, poison := fun e => absurd (hm _ (by simp)) e }

theorem kept_memPart (a : Nat) (bs : List Byte) (hm : Sub [.obj, .mem] m) (h : Kept m s0 s) :
    Kept m s0 (memPart a bs s) where
  pending := by simpa using h.pending
  now := by simpa using h.now
  safe hs := ⟨by simpa using (h.safe hs).1, memPart_wf a bs s (h.safe hs).2⟩
  rest := by
    unfold memPart
    split
    · obtain ⟨o, e⟩ := readPoison_eq [a / 8] s
      rw [e]
      exact { h.rest with obj := fun e => absurd (hm _ (by simp)) e }
    · exact { h.rest with mem := fun e => absurd (hm _ (by simp)) e }

theorem kept_loadMap {lo hi : Nat} (x : SMap Byte) (hle : lo ≤ hi) (hm : Sub [.mem, .poison] m) (h : Kept m s0 s) :
    Kept m s0 (loadMap lo hi x s) where
  pending := h.pending
  now := h.now
  safe hs := ⟨(h.safe hs).1, loadMap_wf x s hle (h.safe hs).2⟩
  rest := { h.rest with mem := fun e => absurd (hm _ (by simp)) e, poison := fun e => absurd (hm _ (by simp)) e }

theorem rails_put {m : SMap BandPins} (b : Nat) {v : BandPins} (hv : v.interlocked = true) (h : railsInterlocked m = true) :
    railsInterlocked (put (fun _ => BandPins.fused) m b v) = true := by
  unfold railsInterlocked at *
  rw [List.all_eq_true] at *
  intro e he
  unfold put at he
  split at he
  · exact h e ((del_sublist m b).subset he)
  · rcases mem_ins m b v e he with rfl | h'
    · exact hv
    · exact h e h'

/-- The pads of a band of a safe state are interlocked. -/
theorem padsOf_interlocked {s : State} (h : railsInterlocked s.pins.bands = true) (b : Nat) :
    (padsOf s b).interlocked = true := by
  unfold padsOf get
  cases hl : look s.pins.bands b with
  | none => rfl
  | some v =>
    unfold railsInterlocked at h
    rw [List.all_eq_true] at h
    have : ∀ (m : SMap BandPins), look m b = some v → (b, v) ∈ m := by
      intro m
      induction m with
      | nil => simp [look]
      | cons e r ih =>
        obtain ⟨k, u⟩ := e
        simp only [look]
        split
        · rintro hh; cases hh; simp_all
        · intro hh; exact List.mem_cons_of_mem _ (ih hh)
    exact h _ (this _ hl)

theorem kept_setPads (b : Nat) (v : BandPins) (hv : railsInterlocked s.pins.bands = true → v.interlocked = true)
    (hm : Sub [.pins] m) (h : Kept m s0 s) : Kept m s0 (setPads b v s) where
  pending := h.pending
  now := h.now
  safe hs := ⟨rails_put b (hv (h.safe hs).1) (h.safe hs).1, (h.safe hs).2⟩
  rest := { h.rest with pins := fun e => absurd (hm _ (by simp)) e }

/-- Writing back the rail pads of a band keeps the interlock, whatever GOE and GBB become. -/
theorem kept_setPads_same (b : Nat) (goe gbb : Bool) (hm : Sub [.pins] m) (h : Kept m s0 s) :
    Kept m s0 (setPads b { goe := goe, gbb := gbb, pven := (padsOf s b).pven, pdis := (padsOf s b).pdis } s) :=
  kept_setPads b _ (fun hp => padsOf_interlocked hp b) hm h

end Sys2Proof.Machine
end

