-- ==== Sys2Proof/Laws/KeptShared.lean ====
section
/-!
SUPPORT. What is kept (Laws/Kept.lean) by the operations of the shared operations: objects, events, crossings, links,
ports, safety, wear, rails, readback, commits, requests and frames.
-/

set_option linter.unusedTactic false
set_option linter.unreachableTactic false

namespace Sys2Proof.Machine

variable {m : List Part} {s0 s : State}

theorem kept_pushBack (x1) (hm : Sub [.trx] m) (h : Kept m s0 s) : Kept m s0 (pushBack x1 s) := by
  unfold pushBack
  repeat' with_reducible first
    | assumption | intro _ | exact Sub.trans (by decide) hm
    | (extract_lets +onlyGivenNames x; revert x; first
        | refine kept_named (m := m) (s0 := s0) ?_ ?_ | refine kept_namedP (m := m) (s0 := s0) ?_ ?_
        | refine kept_value ?_) | (simp -zeta only [kept_lit]) | apply kept_set_trx

theorem kept_oset (x1) (x2) (hm : Sub [.obj] m) (h : Kept m s0 s) : Kept m s0 (oset x1 x2 s) := by
  unfold oset
  repeat' with_reducible first
    | assumption | intro _ | exact Sub.trans (by decide) hm | (simp -zeta only [kept_lit]) | apply kept_set_obj

theorem kept_evc (x1) (hm : Sub [.obj] m) (h : Kept m s0 s) : Kept m s0 (evc x1 s) := by
  unfold evc
  repeat' with_reducible first
    | assumption | intro _ | exact Sub.trans (by decide) hm | apply kept_oset | apply kept_fst | apply kept_ite
    | apply kept_each

theorem kept_backEvent (x1) (x2) (x3) (hm : Sub [.obj, .trx] m) (h : Kept m s0 s) : Kept m s0 (backEvent x1 x2 x3 s) := by
  unfold backEvent
  repeat' with_reducible first
    | assumption | intro _ | exact Sub.trans (by decide) hm | apply kept_pushBack | apply kept_evc

theorem kept_cnt (x1) (hm : Sub [.obj] m) (h : Kept m s0 s) : Kept m s0 (cnt x1 s) := by
  unfold cnt
  repeat' with_reducible first
    | assumption | intro _ | exact Sub.trans (by decide) hm | apply kept_oset

theorem kept_cntBy (x1) (x2) (hm : Sub [.obj] m) (h : Kept m s0 s) : Kept m s0 (cntBy x1 x2 s) := by
  unfold cntBy
  repeat' with_reducible first
    | assumption | intro _ | exact Sub.trans (by decide) hm | apply kept_oset

theorem kept_dset (x1) (x2) (hm : Sub [.dom] m) (h : Kept m s0 s) : Kept m s0 (dset x1 x2 s) := by
  unfold dset
  repeat' with_reducible first
    | assumption | intro _ | exact Sub.trans (by decide) hm | (simp -zeta only [kept_lit]) | apply kept_set_dom

theorem kept_jrnAdd (x1) (x2) (x3) (x4) (x5) (x6) (hm : Sub [.obj, .jrn] m) (h : Kept m s0 s) : Kept m s0 (jrnAdd x1 x2
    x3 x4 x5 x6 s) := by
  unfold jrnAdd
  repeat' with_reducible first
    | assumption | intro _ | exact Sub.trans (by decide) hm | apply kept_oset
    | (extract_lets +onlyGivenNames x; revert x; first
        | refine kept_named (m := m) (s0 := s0) ?_ ?_ | refine kept_namedP (m := m) (s0 := s0) ?_ ?_
        | refine kept_value ?_) | (simp -zeta only [kept_lit]) | apply kept_set_jrn

theorem kept_jrnDom (x1) (hm : Sub [.obj, .jrn] m) (h : Kept m s0 s) : Kept m s0 (jrnDom x1 s) := by
  unfold jrnDom
  repeat' with_reducible first
    | assumption | intro _ | exact Sub.trans (by decide) hm | apply kept_jrnAdd

theorem kept_jrnObj (x1) (hm : Sub [.obj, .jrn] m) (h : Kept m s0 s) : Kept m s0 (jrnObj x1 s) := by
  unfold jrnObj
  repeat' with_reducible first
    | assumption | intro _ | exact Sub.trans (by decide) hm | apply kept_jrnAdd

theorem kept_jrnStatusOf (x1) (x2) (hm : Sub [.obj, .jrn] m) (h : Kept m s0 s) : Kept m s0 (jrnStatusOf x1 x2 s) := by
  unfold jrnStatusOf
  repeat' with_reducible first
    | assumption | intro _ | exact Sub.trans (by decide) hm | apply kept_jrnAdd

theorem kept_jrnStatus (hm : Sub [.obj, .jrn] m) (h : Kept m s0 s) : Kept m s0 (jrnStatus s) := by
  unfold jrnStatus
  repeat' with_reducible first
    | assumption | intro _ | exact Sub.trans (by decide) hm | apply kept_jrnStatusOf

theorem kept_refreshEvt (hm : Sub [.pins] m) (h : Kept m s0 s) : Kept m s0 (refreshEvt s) := by
  unfold refreshEvt
  repeat' with_reducible first
    | assumption | intro _ | exact Sub.trans (by decide) hm | apply kept_ite
    | (extract_lets +onlyGivenNames x; revert x; first
        | refine kept_named (m := m) (s0 := s0) ?_ ?_ | refine kept_namedP (m := m) (s0 := s0) ?_ ?_
        | refine kept_value ?_) | (simp -zeta only [kept_lit]) | apply kept_set_pins

theorem kept_pendEvt (x1) (hm : Sub [.obj, .pins, .mgt] m) (h : Kept m s0 s) : Kept m s0 (pendEvt x1 s) := by
  unfold pendEvt
  repeat' with_reducible first
    | assumption | intro _ | exact Sub.trans (by decide) hm | apply kept_oset | apply kept_refreshEvt | apply kept_ite
    | (extract_lets +onlyGivenNames x; revert x; first
        | refine kept_named (m := m) (s0 := s0) ?_ ?_ | refine kept_namedP (m := m) (s0 := s0) ?_ ?_
        | refine kept_value ?_) | (simp -zeta only [kept_lit]) | apply kept_set_mgt

theorem kept_logEv (x1) (x2) (x3) (x4) (hm : Sub [.obj, .pins, .evlog, .mgt, .jrn] m) (h : Kept m s0 s) : Kept m s0
    (logEv x1 x2 x3 x4 s) := by
  unfold logEv
  repeat' with_reducible first
    | assumption | intro _ | exact Sub.trans (by decide) hm | apply kept_pendEvt | apply kept_jrnAdd | apply kept_evc
    | apply kept_ite
    | (extract_lets +onlyGivenNames x; revert x; first
        | refine kept_named (m := m) (s0 := s0) ?_ ?_ | refine kept_namedP (m := m) (s0 := s0) ?_ ?_
        | refine kept_value ?_) | (simp -zeta only [kept_lit]) | apply kept_set_evlog

theorem kept_readPoison (x1) (hm : Sub [.obj] m) (h : Kept m s0 s) : Kept m s0 (readPoison x1 s) := by
  unfold readPoison
  repeat' with_reducible first
    | assumption | intro _ | exact Sub.trans (by decide) hm | apply kept_oset | apply kept_evc | apply kept_cnt
    | apply kept_each

theorem kept_mem16 (x1) (x2) (hm : Sub [.obj, .mem] m) (h : Kept m s0 s) : Kept m s0 (mem16 x1 x2 s) := by
  unfold mem16
  repeat' with_reducible first
    | assumption | intro _ | exact Sub.trans (by decide) hm | apply kept_memPart

theorem kept_scanEvent (x1) (x2) (x3) (hm : Sub [.obj, .pins] m) (h : Kept m s0 s) : Kept m s0 (scanEvent x1 x2 x3 s) :=
    by
  unfold scanEvent
  repeat' with_reducible first
    | assumption | intro _ | exact Sub.trans (by decide) hm | apply kept_evc | apply kept_ite
    | (extract_lets +onlyGivenNames x; revert x; first
        | refine kept_named (m := m) (s0 := s0) ?_ ?_ | refine kept_namedP (m := m) (s0 := s0) ?_ ?_
        | refine kept_value ?_) | (simp -zeta only [kept_lit]) | apply kept_set_pins

theorem kept_setAdc (x1) (x2) (hm : Sub [.cal] m) (h : Kept m s0 s) : Kept m s0 (setAdc x1 x2 s) := by
  unfold setAdc
  repeat' with_reducible first
    | assumption | intro _ | exact Sub.trans (by decide) hm
    | (extract_lets +onlyGivenNames x; revert x; first
        | refine kept_named (m := m) (s0 := s0) ?_ ?_ | refine kept_namedP (m := m) (s0 := s0) ?_ ?_
        | refine kept_value ?_) | (simp -zeta only [kept_lit]) | apply kept_set_cal

theorem kept_setBandScan (x1) (x2) (hm : Sub [.scan] m) (h : Kept m s0 s) : Kept m s0 (setBandScan x1 x2 s) := by
  unfold setBandScan
  repeat' with_reducible first
    | assumption | intro _ | exact Sub.trans (by decide) hm
    | (extract_lets +onlyGivenNames x; revert x; first
        | refine kept_named (m := m) (s0 := s0) ?_ ?_ | refine kept_namedP (m := m) (s0 := s0) ?_ ?_
        | refine kept_value ?_) | (simp -zeta only [kept_lit]) | apply kept_set_scan

theorem kept_setBank (x1) (x2) (hm : Sub [.bnk] m) (h : Kept m s0 s) : Kept m s0 (setBank x1 x2 s) := by
  unfold setBank
  repeat' with_reducible first
    | assumption | intro _ | exact Sub.trans (by decide) hm
    | (extract_lets +onlyGivenNames x; revert x; first
        | refine kept_named (m := m) (s0 := s0) ?_ ?_ | refine kept_namedP (m := m) (s0 := s0) ?_ ?_
        | refine kept_value ?_) | (simp -zeta only [kept_lit]) | apply kept_set_bnk

theorem kept_setCalBand (x1) (x2) (hm : Sub [.cal] m) (h : Kept m s0 s) : Kept m s0 (setCalBand x1 x2 s) := by
  unfold setCalBand
  repeat' with_reducible first
    | assumption | intro _ | exact Sub.trans (by decide) hm
    | (extract_lets +onlyGivenNames x; revert x; first
        | refine kept_named (m := m) (s0 := s0) ?_ ?_ | refine kept_namedP (m := m) (s0 := s0) ?_ ?_
        | refine kept_value ?_) | (simp -zeta only [kept_lit]) | apply kept_set_cal

theorem kept_setCross (x1) (x2) (hm : Sub [.cross] m) (h : Kept m s0 s) : Kept m s0 (setCross x1 x2 s) := by
  unfold setCross
  repeat' with_reducible first
    | assumption | intro _ | exact Sub.trans (by decide) hm | (simp -zeta only [kept_lit]) | apply kept_set_cross

theorem kept_setDefect (x1) (x2) (x3) (hm : Sub [.obj, .mem] m) (h : Kept m s0 s) : Kept m s0 (setDefect x1 x2 x3 s) := by
  unfold setDefect
  repeat' with_reducible first
    | assumption | intro _ | exact Sub.trans (by decide) hm | apply kept_memPart

theorem kept_setDlk (x1) (x2) (hm : Sub [.dlk] m) (h : Kept m s0 s) : Kept m s0 (setDlk x1 x2 s) := by
  unfold setDlk
  repeat' with_reducible first
    | assumption | intro _ | exact Sub.trans (by decide) hm | (simp -zeta only [kept_lit]) | apply kept_set_dlk

theorem kept_setGroup (x1) (x2) (hm : Sub [.trx] m) (h : Kept m s0 s) : Kept m s0 (setGroup x1 x2 s) := by
  unfold setGroup
  repeat' with_reducible first
    | assumption | intro _ | exact Sub.trans (by decide) hm
    | (extract_lets +onlyGivenNames x; revert x; first
        | refine kept_named (m := m) (s0 := s0) ?_ ?_ | refine kept_namedP (m := m) (s0 := s0) ?_ ?_
        | refine kept_value ?_) | (simp -zeta only [kept_lit]) | apply kept_set_trx

theorem kept_setLane (x1) (x2) (hm : Sub [.pxl] m) (h : Kept m s0 s) : Kept m s0 (setLane x1 x2 s) := by
  unfold setLane
  repeat' with_reducible first
    | assumption | intro _ | exact Sub.trans (by decide) hm
    | (extract_lets +onlyGivenNames x; revert x; first
        | refine kept_named (m := m) (s0 := s0) ?_ ?_ | refine kept_namedP (m := m) (s0 := s0) ?_ ?_
        | refine kept_value ?_) | (simp -zeta only [kept_lit]) | apply kept_set_pxl

theorem kept_setLoop (x1) (x2) (hm : Sub [.pnl] m) (h : Kept m s0 s) : Kept m s0 (setLoop x1 x2 s) := by
  unfold setLoop
  repeat' with_reducible first
    | assumption | intro _ | exact Sub.trans (by decide) hm
    | (extract_lets +onlyGivenNames x; revert x; first
        | refine kept_named (m := m) (s0 := s0) ?_ ?_ | refine kept_namedP (m := m) (s0 := s0) ?_ ?_
        | refine kept_value ?_) | (simp -zeta only [kept_lit]) | apply kept_set_pnl

theorem kept_setMech (x1) (x2) (hm : Sub [.safe] m) (h : Kept m s0 s) : Kept m s0 (setMech x1 x2 s) := by
  unfold setMech
  repeat' with_reducible first
    | assumption | intro _ | exact Sub.trans (by decide) hm
    | (extract_lets +onlyGivenNames x; revert x; first
        | refine kept_named (m := m) (s0 := s0) ?_ ?_ | refine kept_namedP (m := m) (s0 := s0) ?_ ?_
        | refine kept_value ?_) | (simp -zeta only [kept_lit]) | apply kept_set_safe

theorem kept_setNode (x1) (x2) (hm : Sub [.gyl] m) (h : Kept m s0 s) : Kept m s0 (setNode x1 x2 s) := by
  unfold setNode
  repeat' with_reducible first
    | assumption | intro _ | exact Sub.trans (by decide) hm
    | (extract_lets +onlyGivenNames x; revert x; first
        | refine kept_named (m := m) (s0 := s0) ?_ ?_ | refine kept_namedP (m := m) (s0 := s0) ?_ ?_
        | refine kept_value ?_) | (simp -zeta only [kept_lit]) | apply kept_set_gyl

theorem kept_setPos (x1) (x2) (hm : Sub [.scan] m) (h : Kept m s0 s) : Kept m s0 (setPos x1 x2 s) := by
  unfold setPos
  repeat' with_reducible first
    | assumption | intro _ | exact Sub.trans (by decide) hm
    | (extract_lets +onlyGivenNames x; revert x; first
        | refine kept_named (m := m) (s0 := s0) ?_ ?_ | refine kept_namedP (m := m) (s0 := s0) ?_ ?_
        | refine kept_value ?_) | (simp -zeta only [kept_lit]) | apply kept_set_scan

theorem kept_setRail (x1) (x2) (hm : Sub [.pnl] m) (h : Kept m s0 s) : Kept m s0 (setRail x1 x2 s) := by
  unfold setRail
  repeat' with_reducible first
    | assumption | intro _ | exact Sub.trans (by decide) hm
    | (extract_lets +onlyGivenNames x; revert x; first
        | refine kept_named (m := m) (s0 := s0) ?_ ?_ | refine kept_namedP (m := m) (s0 := s0) ?_ ?_
        | refine kept_value ?_) | (simp -zeta only [kept_lit]) | apply kept_set_pnl

theorem kept_setSlot (x1) (x2) (hm : Sub [.lake] m) (h : Kept m s0 s) : Kept m s0 (setSlot x1 x2 s) := by
  unfold setSlot
  repeat' with_reducible first
    | assumption | intro _ | exact Sub.trans (by decide) hm
    | (extract_lets +onlyGivenNames x; revert x; first
        | refine kept_named (m := m) (s0 := s0) ?_ ?_ | refine kept_namedP (m := m) (s0 := s0) ?_ ?_
        | refine kept_value ?_) | (simp -zeta only [kept_lit]) | apply kept_set_lake

theorem kept_setTag (x1) (x2) (hm : Sub [.trx] m) (h : Kept m s0 s) : Kept m s0 (setTag x1 x2 s) := by
  unfold setTag
  repeat' with_reducible first
    | assumption | intro _ | exact Sub.trans (by decide) hm
    | (extract_lets +onlyGivenNames x; revert x; first
        | refine kept_named (m := m) (s0 := s0) ?_ ?_ | refine kept_namedP (m := m) (s0 := s0) ?_ ?_
        | refine kept_value ?_) | (simp -zeta only [kept_lit]) | apply kept_set_trx

theorem kept_tookFree (hm : Sub [.free] m) (h : Kept m s0 s) : Kept m s0 (tookFree s) := by
  unfold tookFree
  repeat' with_reducible first
    | assumption | intro _ | exact Sub.trans (by decide) hm | (simp -zeta only [kept_lit]) | apply kept_set_free

theorem kept_askVcore (x1) (hm : Sub [.obj, .pwr] m) (h : Kept m s0 s) : Kept m s0 (askVcore x1 s) := by
  unfold askVcore
  repeat' with_reducible first
    | assumption | intro _ | exact Sub.trans (by decide) hm | apply kept_oset | apply kept_ite
    | (extract_lets +onlyGivenNames x; revert x; first
        | refine kept_named (m := m) (s0 := s0) ?_ ?_ | refine kept_namedP (m := m) (s0 := s0) ?_ ?_
        | refine kept_value ?_) | (simp -zeta only [kept_lit]) | apply kept_set_pwr

theorem kept_stepGoal (hm : Sub [.obj, .pwr] m) (h : Kept m s0 s) : Kept m s0 (stepGoal s) := by
  unfold stepGoal
  repeat' with_reducible first
    | assumption | intro _ | exact Sub.trans (by decide) hm | apply kept_askVcore | apply kept_ite
    | (extract_lets +onlyGivenNames x; revert x; first
        | refine kept_named (m := m) (s0 := s0) ?_ ?_ | refine kept_namedP (m := m) (s0 := s0) ?_ ?_
        | refine kept_value ?_) | (simp -zeta only [kept_lit]) | apply kept_set_pwr | (apply kept_eqP (by assumption))
    | split

theorem kept_raiseToFloor (hm : Sub [.obj, .pwr] m) (h : Kept m s0 s) : Kept m s0 (raiseToFloor s) := by
  unfold raiseToFloor
  repeat' with_reducible first
    | assumption | intro _ | exact Sub.trans (by decide) hm | apply kept_stepGoal | apply kept_ite
    | (extract_lets +onlyGivenNames x; revert x; first
        | refine kept_named (m := m) (s0 := s0) ?_ ?_ | refine kept_namedP (m := m) (s0 := s0) ?_ ?_
        | refine kept_value ?_) | (simp -zeta only [kept_lit]) | apply kept_set_pwr

theorem kept_sendOperation (hm : Sub [.pwr] m) (h : Kept m s0 s) : Kept m s0 (sendOperation s) := by
  unfold sendOperation
  repeat' with_reducible first
    | assumption | intro _ | exact Sub.trans (by decide) hm | apply kept_ite
    | (extract_lets +onlyGivenNames x; revert x; first
        | refine kept_named (m := m) (s0 := s0) ?_ ?_ | refine kept_namedP (m := m) (s0 := s0) ?_ ?_
        | refine kept_value ?_) | (simp -zeta only [kept_lit]) | apply kept_set_pwr

theorem kept_xflush (x1) (hm : Sub [.obj, .pins, .evlog, .cross, .mgt, .jrn] m) (h : Kept m s0 s) : Kept m s0 (xflush x1
    s) := by
  unfold xflush
  repeat' with_reducible first
    | assumption | intro _ | exact Sub.trans (by decide) hm | apply kept_evc | apply kept_setCross | apply kept_logEv
    | apply kept_ite

theorem kept_resetLane (x1) (hm : Sub [.obj, .pins, .evlog, .cross, .mgt, .jrn] m) (h : Kept m s0 s) : Kept m s0
    (resetLane x1 s) := by
  unfold resetLane
  repeat' with_reducible first
    | assumption | intro _ | exact Sub.trans (by decide) hm | apply kept_xflush | apply kept_ite

theorem kept_sendNak (x1) (hm : Sub [.obj, .trx] m) (h : Kept m s0 s) : Kept m s0 (sendNak x1 s) := by
  unfold sendNak
  repeat' with_reducible first
    | assumption | intro _ | exact Sub.trans (by decide) hm | apply kept_pushBack | apply kept_evc | apply kept_cnt

theorem kept_nakGroup (x1) (x2) (x3) (hm : Sub [.obj, .trx] m) (h : Kept m s0 s) : Kept m s0 (nakGroup x1 x2 x3 s) := by
  unfold nakGroup
  repeat' with_reducible first
    | assumption | intro _ | exact Sub.trans (by decide) hm | apply kept_sendNak | apply kept_setGroup

theorem kept_dropDecode (x1) (hm : Sub [.lake] m) (h : Kept m s0 s) : Kept m s0 (dropDecode x1 s) := by
  unfold dropDecode
  repeat' with_reducible first
    | assumption | intro _ | exact Sub.trans (by decide) hm | apply kept_fst
    | (extract_lets +onlyGivenNames x; revert x; first
        | refine kept_named (m := m) (s0 := s0) ?_ ?_ | refine kept_namedP (m := m) (s0 := s0) ?_ ?_
        | refine kept_value ?_) | (simp -zeta only [kept_lit]) | apply kept_set_lake

theorem kept_freeTag (x1) (x2) (hm : Sub [.trx, .lake] m) (h : Kept m s0 s) : Kept m s0 (freeTag x1 x2 s) := by
  unfold freeTag
  repeat' with_reducible first
    | assumption | intro _ | exact Sub.trans (by decide) hm | apply kept_dropDecode | apply kept_setTag

theorem kept_detachTag (x1) (hm : Sub [.scan] m) (h : Kept m s0 s) : Kept m s0 (detachTag x1 s) := by
  unfold detachTag
  repeat' with_reducible first
    | assumption | intro _ | exact Sub.trans (by decide) hm | apply kept_setPos | apply kept_ite

theorem kept_nakTx (x1) (x2) (x3) (x4) (hm : Sub [.obj, .trx, .lake, .scan] m) (h : Kept m s0 s) : Kept m s0 (nakTx x1
    x2 x3 x4 s) := by
  unfold nakTx
  repeat' with_reducible first
    | assumption | intro _ | exact Sub.trans (by decide) hm | apply kept_sendNak | apply kept_freeTag
    | apply kept_detachTag

theorem kept_abortGroup (x1) (x2) (x3) (hm : Sub [.obj, .trx, .lake, .scan] m) (h : Kept m s0 s) : Kept m s0 (abortGroup
    x1 x2 x3 s) := by
  unfold abortGroup
  repeat' with_reducible first
    | assumption | intro _ | exact Sub.trans (by decide) hm | apply kept_nakGroup | apply kept_nakTx | apply kept_setGroup
    | apply kept_ite
    | (extract_lets +onlyGivenNames x; revert x; first
        | refine kept_named (m := m) (s0 := s0) ?_ ?_ | refine kept_namedP (m := m) (s0 := s0) ?_ ?_
        | refine kept_value ?_) | apply kept_each

theorem kept_darkNaks (x1) (hm : Sub [.obj, .trx, .lake, .scan] m) (h : Kept m s0 s) : Kept m s0 (darkNaks x1 s) := by
  unfold darkNaks
  repeat' with_reducible first
    | assumption | intro _ | exact Sub.trans (by decide) hm | apply kept_nakTx | apply kept_fst
    | (extract_lets +onlyGivenNames x; revert x; first
        | refine kept_named (m := m) (s0 := s0) ?_ ?_ | refine kept_namedP (m := m) (s0 := s0) ?_ ?_
        | refine kept_value ?_) | apply kept_each

theorem kept_discardDrop (hm : Sub [.pxl, .trx, .lake] m) (h : Kept m s0 s) : Kept m s0 (discardDrop s) := by
  unfold discardDrop
  repeat' with_reducible first
    | assumption | intro _ | exact Sub.trans (by decide) hm | apply kept_freeTag | apply kept_setTag | apply kept_setGroup
    | apply kept_fst
    | (extract_lets +onlyGivenNames x; revert x; first
        | refine kept_named (m := m) (s0 := s0) ?_ ?_ | refine kept_namedP (m := m) (s0 := s0) ?_ ?_
        | refine kept_value ?_) | apply kept_each | (simp -zeta only [kept_lit]) | apply kept_set_pxl

theorem kept_seenTx (x1) (x2) (hm : Sub [.obj, .trx, .lake, .scan] m) (h : Kept m s0 s) : Kept m s0 (seenTx x1 x2 s) := by
  unfold seenTx
  repeat' with_reducible first
    | assumption | intro _ | exact Sub.trans (by decide) hm | apply kept_freeTag | apply kept_detachTag
    | apply kept_pushBack | apply kept_evc

theorem kept_stateNaks (hm : Sub [.obj, .trx, .lake, .scan] m) (h : Kept m s0 s) : Kept m s0 (stateNaks s) := by
  unfold stateNaks
  repeat' with_reducible first
    | assumption | intro _ | exact Sub.trans (by decide) hm | apply kept_nakGroup | apply kept_nakTx | apply kept_fst
    | apply kept_ite
    | (extract_lets +onlyGivenNames x; revert x; first
        | refine kept_named (m := m) (s0 := s0) ?_ ?_ | refine kept_namedP (m := m) (s0 := s0) ?_ ?_
        | refine kept_value ?_) | apply kept_each | (simp -zeta only [kept_lit]) | apply kept_set_trx

theorem kept_eachLane (x1) (hm : Sub [.pxl] m) (h : Kept m s0 s) : Kept m s0 (eachLane x1 s) := by
  unfold eachLane
  repeat' with_reducible first
    | assumption | intro _ | exact Sub.trans (by decide) hm | apply kept_setLane | apply kept_each

theorem kept_modPxl (x1) (hm : Sub [.pxl] m) (h : Kept m s0 s) : Kept m s0 (modPxl x1 s) := by
  unfold modPxl
  repeat' with_reducible first
    | assumption | intro _ | exact Sub.trans (by decide) hm | (simp -zeta only [kept_lit]) | apply kept_set_pxl

theorem kept_clearLink (hm : Sub [.obj, .pins, .evlog, .cross, .pxl, .mgt, .jrn] m) (h : Kept m s0 s) : Kept m s0
    (clearLink s) := by
  unfold clearLink
  repeat' with_reducible first
    | assumption | intro _ | exact Sub.trans (by decide) hm | apply kept_eachLane | apply kept_resetLane
    | apply kept_modPxl
    | (extract_lets +onlyGivenNames x; revert x; first
        | refine kept_named (m := m) (s0 := s0) ?_ ?_ | refine kept_namedP (m := m) (s0 := s0) ?_ ?_
        | refine kept_value ?_) | apply kept_each

theorem kept_setLink (x1) (hm : Sub [.obj, .pins, .pxl, .mgt] m) (h : Kept m s0 s) : Kept m s0 (setLink x1 s) := by
  unfold setLink
  repeat' with_reducible first
    | assumption | intro _ | exact Sub.trans (by decide) hm | apply kept_pendEvt | apply kept_modPxl | apply kept_ite

theorem kept_leaveGroup (x1) (hm : Sub [.trx] m) (h : Kept m s0 s) : Kept m s0 (leaveGroup x1 s) := by
  unfold leaveGroup
  repeat' with_reducible first
    | assumption | intro _ | exact Sub.trans (by decide) hm | apply kept_setGroup | apply kept_ite

theorem kept_forgetTile (x1) (hm : Sub [.trx, .lake] m) (h : Kept m s0 s) : Kept m s0 (forgetTile x1 s) := by
  unfold forgetTile
  repeat' with_reducible first
    | assumption | intro _ | exact Sub.trans (by decide) hm | apply kept_leaveGroup | apply kept_dropDecode
    | apply kept_setTag | apply kept_ite

theorem kept_forgetThose (x1) (hm : Sub [.trx, .lake] m) (h : Kept m s0 s) : Kept m s0 (forgetThose x1 s) := by
  unfold forgetThose
  repeat' with_reducible first
    | assumption | intro _ | exact Sub.trans (by decide) hm | apply kept_forgetTile
    | (extract_lets +onlyGivenNames x; revert x; first
        | refine kept_named (m := m) (s0 := s0) ?_ ?_ | refine kept_namedP (m := m) (s0 := s0) ?_ ?_
        | refine kept_value ?_) | apply kept_each | (simp -zeta only [kept_lit]) | apply kept_set_trx

theorem kept_endSession (hm : Sub [.pxl, .trx, .lake] m) (h : Kept m s0 s) : Kept m s0 (endSession s) := by
  unfold endSession
  repeat' with_reducible first
    | assumption | intro _ | exact Sub.trans (by decide) hm | apply kept_discardDrop | apply kept_forgetThose
    | apply kept_modPxl | apply kept_ite

theorem kept_disableLink (hm : Sub [.obj, .pins, .evlog, .cross, .pxl, .trx, .lake, .mgt, .jrn] m) (h : Kept m s0 s) :
    Kept m s0 (disableLink s) := by
  unfold disableLink
  repeat' with_reducible first
    | assumption | intro _ | exact Sub.trans (by decide) hm | apply kept_setLink | apply kept_clearLink
    | apply kept_endSession | apply kept_modPxl

theorem kept_freshLine (hm : Sub [.pxl] m) (h : Kept m s0 s) : Kept m s0 (freshLine s) := by
  unfold freshLine
  repeat' with_reducible first
    | assumption | intro _ | exact Sub.trans (by decide) hm | apply kept_modPxl

theorem kept_sendLane (x1) (x2) (x3) (hm : Sub [.pxl] m) (h : Kept m s0 s) : Kept m s0 (sendLane x1 x2 x3 s) := by
  unfold sendLane
  repeat' with_reducible first
    | assumption | intro _ | exact Sub.trans (by decide) hm | apply kept_modPxl

theorem kept_sendBlocks (x1) (x2) (x3) (x4) (hm : Sub [.pxl] m) (h : Kept m s0 s) : Kept m s0 (sendBlocks x1 x2 x3 x4 s)
    := by
  unfold sendBlocks
  repeat' with_reducible first
    | assumption | intro _ | exact Sub.trans (by decide) hm | apply kept_sendLane | apply kept_modPxl
    | (extract_lets +onlyGivenNames x; revert x; first
        | refine kept_named (m := m) (s0 := s0) ?_ ?_ | refine kept_namedP (m := m) (s0 := s0) ?_ ?_
        | refine kept_value ?_) | apply kept_each

theorem kept_sendTrain (x1) (hm : Sub [.pxl] m) (h : Kept m s0 s) : Kept m s0 (sendTrain x1 s) := by
  unfold sendTrain
  repeat' with_reducible first
    | assumption | intro _ | exact Sub.trans (by decide) hm | apply kept_freshLine | apply kept_modPxl
    | apply kept_sendBlocks | apply kept_ite

theorem kept_sendHello (hm : Sub [.pxl] m) (h : Kept m s0 s) : Kept m s0 (sendHello s) := by
  unfold sendHello
  repeat' with_reducible first
    | assumption | intro _ | exact Sub.trans (by decide) hm | apply kept_sendTrain

theorem kept_toDetect (hm : Sub [.obj, .pins, .evlog, .cross, .pxl, .mgt, .jrn] m) (h : Kept m s0 s) : Kept m s0
    (toDetect s) := by
  unfold toDetect
  repeat' with_reducible first
    | assumption | intro _ | exact Sub.trans (by decide) hm | apply kept_setLink | apply kept_clearLink
    | apply kept_sendHello | apply kept_modPxl | apply kept_ite

theorem kept_dropLink (x1) (hm : Sub [.obj, .pins, .evlog, .cross, .pxl, .trx, .lake, .mgt, .jrn] m) (h : Kept m s0 s) :
    Kept m s0 (dropLink x1 s) := by
  unfold dropLink
  repeat' with_reducible first
    | assumption | intro _ | exact Sub.trans (by decide) hm | apply kept_toDetect | apply kept_endSession
    | apply kept_modPxl

theorem kept_forgetPartial (hm : Sub [.trx, .lake] m) (h : Kept m s0 s) : Kept m s0 (forgetPartial s) := by
  unfold forgetPartial
  repeat' with_reducible first
    | assumption | intro _ | exact Sub.trans (by decide) hm | apply kept_forgetThose

theorem kept_loseBoundary (hm : Sub [.pxl] m) (h : Kept m s0 s) : Kept m s0 (loseBoundary s) := by
  unfold loseBoundary
  repeat' with_reducible first
    | assumption | intro _ | exact Sub.trans (by decide) hm | apply kept_modPxl

theorem kept_sendLinkstate (x1) (x2) (x3) (x4) (x5) (x6) (hm : Sub [.trx] m) (h : Kept m s0 s) : Kept m s0
    (sendLinkstate x1 x2 x3 x4 x5 x6 s) := by
  unfold sendLinkstate
  repeat' with_reducible first
    | assumption | intro _ | exact Sub.trans (by decide) hm | apply kept_pushBack

theorem kept_sendStream (x1) (hm : Sub [.pxl] m) (h : Kept m s0 s) : Kept m s0 (sendStream x1 s) := by
  unfold sendStream
  repeat' with_reducible first
    | assumption | intro _ | exact Sub.trans (by decide) hm | apply kept_freshLine | apply kept_sendBlocks
    | apply kept_fst
    | (extract_lets +onlyGivenNames x; revert x; first
        | refine kept_named (m := m) (s0 := s0) ?_ ?_ | refine kept_namedP (m := m) (s0 := s0) ?_ ?_
        | refine kept_value ?_) | apply kept_each

theorem kept_startLink (hm : Sub [.obj, .pins, .evlog, .cross, .pxl, .mgt, .jrn] m) (h : Kept m s0 s) : Kept m s0
    (startLink s) := by
  unfold startLink
  repeat' with_reducible first
    | assumption | intro _ | exact Sub.trans (by decide) hm | apply kept_toDetect | apply kept_ite

theorem kept_transferFails (x1) (hm : Sub [.scan, .jrn] m) (h : Kept m s0 s) : Kept m s0 (transferFails x1 s) := by
  unfold transferFails
  repeat' with_reducible first
    | assumption | intro _ | exact Sub.trans (by decide) hm | apply kept_ite
    | (extract_lets +onlyGivenNames x; revert x; first
        | refine kept_named (m := m) (s0 := s0) ?_ ?_ | refine kept_namedP (m := m) (s0 := s0) ?_ ?_
        | refine kept_value ?_) | (simp -zeta only [kept_lit]) | apply kept_set_scan | apply kept_set_jrn

theorem kept_setPort (x1) (x2) (hm : Sub [.obj, .pins, .mgt] m) (h : Kept m s0 s) : Kept m s0 (setPort x1 x2 s) := by
  unfold setPort
  repeat' with_reducible first
    | assumption | intro _ | exact Sub.trans (by decide) hm | apply kept_oset | apply kept_pendEvt | apply kept_refreshEvt
    | apply kept_ite
    | (extract_lets +onlyGivenNames x; revert x; first
        | refine kept_named (m := m) (s0 := s0) ?_ ?_ | refine kept_namedP (m := m) (s0 := s0) ?_ ?_
        | refine kept_value ?_) | (simp -zeta only [kept_lit]) | apply kept_set_mgt | (apply kept_eqP (by assumption))
    | split

theorem kept_abortTransfer (x1) (hm : Sub [.obj, .pins, .mgt, .scan, .jrn] m) (h : Kept m s0 s) : Kept m s0
    (abortTransfer x1 s) := by
  unfold abortTransfer
  repeat' with_reducible first
    | assumption | intro _ | exact Sub.trans (by decide) hm | apply kept_transferFails | apply kept_cnt
    | apply kept_setPort
    | (extract_lets +onlyGivenNames x; revert x; first
        | refine kept_named (m := m) (s0 := s0) ?_ ?_ | refine kept_namedP (m := m) (s0 := s0) ?_ ?_
        | refine kept_value ?_) | (apply kept_eqP (by assumption)) | split

theorem kept_endWenip (x1) (hm : Sub [.obj, .pins, .mgt, .scan, .jrn] m) (h : Kept m s0 s) : Kept m s0 (endWenip x1 s)
    := by
  unfold endWenip
  repeat' with_reducible first
    | assumption | intro _ | exact Sub.trans (by decide) hm | apply kept_abortTransfer | apply kept_setPort
    | apply kept_ite
    | (extract_lets +onlyGivenNames x; revert x; first
        | refine kept_named (m := m) (s0 := s0) ?_ ?_ | refine kept_namedP (m := m) (s0 := s0) ?_ ?_
        | refine kept_value ?_) | (simp -zeta only [kept_lit]) | apply kept_set_mgt

theorem kept_leaveSetup (hm : Sub [.obj, .pins, .mgt, .scan, .jrn] m) (h : Kept m s0 s) : Kept m s0 (leaveSetup s) := by
  unfold leaveSetup
  repeat' with_reducible first
    | assumption | intro _ | exact Sub.trans (by decide) hm | apply kept_abortTransfer | apply kept_ite

theorem kept_holdPads (hm : Sub [.pins] m) (h : Kept m s0 s) : Kept m s0 (holdPads s) := by
  unfold holdPads
  repeat' with_reducible first
    | assumption | intro _ | exact Sub.trans (by decide) hm
    | (extract_lets +onlyGivenNames x; revert x; first
        | refine kept_named (m := m) (s0 := s0) ?_ ?_ | refine kept_namedP (m := m) (s0 := s0) ?_ ?_
        | refine kept_value ?_) | (simp -zeta only [kept_lit]) | apply kept_set_pins

theorem kept_releasePads (x1) (hm : Sub [.pins] m) (h : Kept m s0 s) : Kept m s0 (releasePads x1 s) := by
  unfold releasePads
  repeat' with_reducible first
    | assumption | intro _ | exact Sub.trans (by decide) hm | apply kept_fst
    | (extract_lets +onlyGivenNames x; revert x; first
        | refine kept_named (m := m) (s0 := s0) ?_ ?_ | refine kept_namedP (m := m) (s0 := s0) ?_ ?_
        | refine kept_value ?_) | (simp -zeta only [kept_lit]) | apply kept_set_pins

theorem kept_eachDrv (x1) (x2) (hm : Sub [.dlk] m) (h : Kept m s0 s) : Kept m s0 (eachDrv x1 x2 s) := by
  unfold eachDrv
  repeat' with_reducible first
    | assumption | intro _ | exact Sub.trans (by decide) hm | apply kept_setDlk

theorem kept_sendDrv (x1) (x2) (hm : Sub [.dlk] m) (h : Kept m s0 s) : Kept m s0 (sendDrv x1 x2 s) := by
  unfold sendDrv
  repeat' with_reducible first
    | assumption | intro _ | exact Sub.trans (by decide) hm | apply kept_eachDrv

theorem kept_holdBlack (x1) (x2) (hm : Sub [.dlk] m) (h : Kept m s0 s) : Kept m s0 (holdBlack x1 x2 s) := by
  unfold holdBlack
  repeat' with_reducible first
    | assumption | intro _ | exact Sub.trans (by decide) hm | apply kept_sendDrv | apply kept_setDlk
    | (extract_lets +onlyGivenNames x; revert x; first
        | refine kept_named (m := m) (s0 := s0) ?_ ?_ | refine kept_namedP (m := m) (s0 := s0) ?_ ?_
        | refine kept_value ?_) | (apply kept_eqP (by assumption)) | split

theorem kept_releaseLink (x1) (hm : Sub [.dlk] m) (h : Kept m s0 s) : Kept m s0 (releaseLink x1 s) := by
  unfold releaseLink
  repeat' with_reducible first
    | assumption | intro _ | exact Sub.trans (by decide) hm | apply kept_setDlk | apply kept_ite

theorem kept_sendStrobe (x1) (hm : Sub [.dlk] m) (h : Kept m s0 s) : Kept m s0 (sendStrobe x1 s) := by
  unfold sendStrobe
  repeat' with_reducible first
    | assumption | intro _ | exact Sub.trans (by decide) hm | apply kept_sendDrv | apply kept_setDlk
    | (extract_lets +onlyGivenNames x; revert x; first
        | refine kept_named (m := m) (s0 := s0) ?_ ?_ | refine kept_namedP (m := m) (s0 := s0) ?_ ?_
        | refine kept_value ?_) | (apply kept_eqP (by assumption)) | split

theorem kept_trainDrv (x1) (x2) (x3) (x4) (hm : Sub [.dlk] m) (h : Kept m s0 s) : Kept m s0 (trainDrv x1 x2 x3 x4 s) := by
  unfold trainDrv
  repeat' with_reducible first
    | assumption | intro _ | exact Sub.trans (by decide) hm | apply kept_eachDrv

theorem kept_startTraining (x1) (x2) (hm : Sub [.dlk, .pnl] m) (h : Kept m s0 s) : Kept m s0 (startTraining x1 x2 s) := by
  unfold startTraining
  repeat' with_reducible first
    | assumption | intro _ | exact Sub.trans (by decide) hm | apply kept_trainDrv | apply kept_setDlk | apply kept_ite
    | (extract_lets +onlyGivenNames x; revert x; first
        | refine kept_named (m := m) (s0 := s0) ?_ ?_ | refine kept_namedP (m := m) (s0 := s0) ?_ ?_
        | refine kept_value ?_) | (simp -zeta only [kept_lit]) | apply kept_set_pnl

theorem kept_memStore (x1) (x2) (hm : Sub [.obj, .mem, .poison] m) (h : Kept m s0 s) : Kept m s0 (memStore x1 x2 s) := by
  unfold memStore
  repeat' with_reducible first
    | assumption | intro _ | exact Sub.trans (by decide) hm | apply kept_memPart | apply kept_memRun | apply kept_ite

theorem kept_mapStore (x1) (x2) (hm : Sub [.obj, .mem, .poison, .fst] m) (h : Kept m s0 s) : Kept m s0 (mapStore x1 x2
    s) := by
  unfold mapStore
  repeat' with_reducible first
    | assumption | intro _ | exact Sub.trans (by decide) hm | apply kept_memStore | apply kept_fst | apply kept_ite
    | (extract_lets +onlyGivenNames x; revert x; first
        | refine kept_named (m := m) (s0 := s0) ?_ ?_ | refine kept_namedP (m := m) (s0 := s0) ?_ ?_
        | refine kept_value ?_) | apply kept_each | (simp -zeta only [kept_lit]) | apply kept_set_fst

theorem kept_map16 (x1) (x2) (hm : Sub [.obj, .mem, .poison, .fst] m) (h : Kept m s0 s) : Kept m s0 (map16 x1 x2 s) := by
  unfold map16
  repeat' with_reducible first
    | assumption | intro _ | exact Sub.trans (by decide) hm | apply kept_mapStore

theorem kept_releaseWrites (hm : Sub [.obj, .mem, .poison, .fst] m) (h : Kept m s0 s) : Kept m s0 (releaseWrites s) := by
  unfold releaseWrites
  repeat' with_reducible first
    | assumption | intro _ | exact Sub.trans (by decide) hm | apply kept_memStore | apply kept_fst | apply kept_ite
    | (extract_lets +onlyGivenNames x; revert x; first
        | refine kept_named (m := m) (s0 := s0) ?_ ?_ | refine kept_namedP (m := m) (s0 := s0) ?_ ?_
        | refine kept_value ?_) | apply kept_each | (simp -zeta only [kept_lit]) | apply kept_set_fst

theorem kept_abandonCal (x1) (hm : Sub [.obj, .pins, .evlog, .mgt, .cal, .jrn] m) (h : Kept m s0 s) : Kept m s0
    (abandonCal x1 s) := by
  unfold abandonCal
  repeat' with_reducible first
    | assumption | intro _ | exact Sub.trans (by decide) hm | apply kept_oset | apply kept_pendEvt | apply kept_logEv
    | apply kept_ite
    | (extract_lets +onlyGivenNames x; revert x; first
        | refine kept_named (m := m) (s0 := s0) ?_ ?_ | refine kept_namedP (m := m) (s0 := s0) ?_ ?_
        | refine kept_value ?_) | (simp -zeta only [kept_lit]) | apply kept_set_cal

theorem kept_assertFault (hm : Sub [.obj, .pins] m) (h : Kept m s0 s) : Kept m s0 (assertFault s) := by
  unfold assertFault
  repeat' with_reducible first
    | assumption | intro _ | exact Sub.trans (by decide) hm | apply kept_evc | apply kept_ite
    | (extract_lets +onlyGivenNames x; revert x; first
        | refine kept_named (m := m) (s0 := s0) ?_ ?_ | refine kept_namedP (m := m) (s0 := s0) ?_ ?_
        | refine kept_value ?_) | (simp -zeta only [kept_lit]) | apply kept_set_pins

theorem kept_setBandState (x1) (x2) (hm : Sub [.pins, .scan] m) (h : Kept m s0 s) : Kept m s0 (setBandState x1 x2 s) := by
  unfold setBandState
  repeat' with_reducible first
    | assumption | intro _ | exact Sub.trans (by decide) hm | apply kept_setBandScan | apply kept_setPads_same
    | apply kept_ite

theorem kept_recordLast (x1) (x2) (hm : Sub [.obj, .jrn] m) (h : Kept m s0 s) : Kept m s0 (recordLast x1 x2 s) := by
  unfold recordLast
  repeat' with_reducible first
    | assumption | intro _ | exact Sub.trans (by decide) hm | apply kept_oset | apply kept_jrnStatus

theorem kept_bandReaction (x1) (x2) (x3) (x4) (hm : Sub [.obj, .pins, .evlog, .trx, .lake, .mgt, .scan, .safe, .jrn] m)
    (h : Kept m s0 s) : Kept m s0 (bandReaction x1 x2 x3 x4 s) := by
  unfold bandReaction
  repeat' with_reducible first
    | assumption | intro _ | exact Sub.trans (by decide) hm | apply kept_setBandState | apply kept_darkNaks
    | apply kept_pendEvt | apply kept_recordLast | apply kept_backEvent | apply kept_evc | apply kept_setMech
    | apply kept_logEv | apply kept_ite
    | (extract_lets +onlyGivenNames x; revert x; first
        | refine kept_named (m := m) (s0 := s0) ?_ ?_ | refine kept_namedP (m := m) (s0 := s0) ?_ ?_
        | refine kept_value ?_) | (simp -zeta only [kept_lit]) | apply kept_set_safe

theorem kept_bandsReaction (x1) (x2) (x3) (x4) (hm : Sub [.obj, .pins, .evlog, .trx, .lake, .mgt, .scan, .safe, .jrn] m)
    (h : Kept m s0 s) : Kept m s0 (bandsReaction x1 x2 x3 x4 s) := by
  unfold bandsReaction
  repeat' with_reducible first
    | assumption | intro _ | exact Sub.trans (by decide) hm | apply kept_bandReaction | apply kept_each

theorem kept_bankFrame (hm : Sub [.bnk, .scan] m) (h : Kept m s0 s) : Kept m s0 (bankFrame s) := by
  unfold bankFrame
  repeat' with_reducible first
    | assumption | intro _ | exact Sub.trans (by decide) hm | apply kept_fst | apply kept_ite
    | (extract_lets +onlyGivenNames x; revert x; first
        | refine kept_named (m := m) (s0 := s0) ?_ ?_ | refine kept_namedP (m := m) (s0 := s0) ?_ ?_
        | refine kept_value ?_) | (simp -zeta only [kept_lit]) | apply kept_set_bnk_scan
    | (apply kept_eqP (by assumption)) | split

theorem kept_firstTraining (hm : Sub [.dlk, .pnl] m) (h : Kept m s0 s) : Kept m s0 (firstTraining s) := by
  unfold firstTraining
  repeat' with_reducible first
    | assumption | intro _ | exact Sub.trans (by decide) hm | apply kept_startTraining | apply kept_ite | apply kept_each

theorem kept_changeOp (x1) (hm : Sub [.obj, .boot, .pins, .evlog, .cross, .pxl, .trx, .mgt, .scan, .dlk, .pnl, .jrn] m)
    (h : Kept m s0 s) : Kept m s0 (changeOp x1 s) := by
  unfold changeOp
  repeat' with_reducible first
    | assumption | intro _ | exact Sub.trans (by decide) hm | apply kept_leaveSetup | apply kept_backEvent
    | apply kept_logEv | apply kept_firstTraining | apply kept_startLink | apply kept_ite
    | (extract_lets +onlyGivenNames x; revert x; first
        | refine kept_named (m := m) (s0 := s0) ?_ ?_ | refine kept_namedP (m := m) (s0 := s0) ?_ ?_
        | refine kept_value ?_) | (simp -zeta only [kept_lit]) | apply kept_set_boot_pnl

theorem kept_darkenBands (hm : Sub [.pins, .scan] m) (h : Kept m s0 s) : Kept m s0 (darkenBands s) := by
  unfold darkenBands
  repeat' with_reducible first
    | assumption | intro _ | exact Sub.trans (by decide) hm | apply kept_setBandState | apply kept_ite | apply kept_each

theorem kept_releaseHeld (hm : Sub [.dlk] m) (h : Kept m s0 s) : Kept m s0 (releaseHeld s) := by
  unfold releaseHeld
  repeat' with_reducible first
    | assumption | intro _ | exact Sub.trans (by decide) hm | apply kept_releaseLink | apply kept_ite | apply kept_each

theorem kept_wakeDram (hm : Sub [.fst] m) (h : Kept m s0 s) : Kept m s0 (wakeDram s) := by
  unfold wakeDram
  repeat' with_reducible first
    | assumption | intro _ | exact Sub.trans (by decide) hm
    | (extract_lets +onlyGivenNames x; revert x; first
        | refine kept_named (m := m) (s0 := s0) ?_ ?_ | refine kept_namedP (m := m) (s0 := s0) ?_ ?_
        | refine kept_value ?_) | (simp -zeta only [kept_lit]) | apply kept_set_fst

theorem kept_rollback (hm : Sub [.pins, .pwr, .pxl, .fst, .mgt, .dlk, .pnl] m) (h : Kept m s0 s) : Kept m s0 (rollback
    s) := by
  unfold rollback
  repeat' with_reducible first
    | assumption | intro _ | exact Sub.trans (by decide) hm | apply kept_firstTraining | apply kept_releaseHeld
    | apply kept_wakeDram | apply kept_ite
    | (extract_lets +onlyGivenNames x; revert x; first
        | refine kept_named (m := m) (s0 := s0) ?_ ?_ | refine kept_namedP (m := m) (s0 := s0) ?_ ?_
        | refine kept_value ?_) | apply kept_whenDo | (simp -zeta only [kept_lit]) | apply kept_set_pins | exact rfl
    | apply kept_set_pwr_pxl_mgt

theorem kept_refreshBands (hm : Sub [.pins, .scan] m) (h : Kept m s0 s) : Kept m s0 (refreshBands s) := by
  unfold refreshBands
  repeat' with_reducible first
    | assumption | intro _ | exact Sub.trans (by decide) hm | apply kept_setBandState | apply kept_each

theorem kept_wakesDone (hm : Sub [.pwr, .gyl] m) (h : Kept m s0 s) : Kept m s0 (wakesDone s) := by
  unfold wakesDone
  repeat' with_reducible first
    | assumption | intro _ | exact Sub.trans (by decide) hm
    | (extract_lets +onlyGivenNames x; revert x; first
        | refine kept_named (m := m) (s0 := s0) ?_ ?_ | refine kept_namedP (m := m) (s0 := s0) ?_ ?_
        | refine kept_value ?_) | (simp -zeta only [kept_lit]) | apply kept_set_pwr_gyl

theorem kept_entryEnds (x1) (hm : Sub [.obj, .pins, .pwr, .evlog, .pxl, .fst, .mgt, .scan, .dlk, .pnl, .gyl, .jrn] m) (h
    : Kept m s0 s) : Kept m s0 (entryEnds x1 s) := by
  unfold entryEnds
  repeat' with_reducible first
    | assumption | intro _ | exact Sub.trans (by decide) hm | apply kept_rollback | apply kept_refreshBands
    | apply kept_evc | apply kept_logEv | apply kept_cnt | apply kept_wakesDone | apply kept_ite
    | (extract_lets +onlyGivenNames x; revert x; first
        | refine kept_named (m := m) (s0 := s0) ?_ ?_ | refine kept_namedP (m := m) (s0 := s0) ?_ ?_
        | refine kept_value ?_) | apply kept_each | (simp -zeta only [kept_lit]) | apply kept_set_pwr

theorem kept_leaveRun (hm : Sub [.obj, .pins, .pwr, .evlog, .pxl, .trx, .lake, .fst, .mgt, .scan, .dlk, .pnl, .cal,
    .gyl, .jrn] m) (h : Kept m s0 s) : Kept m s0 (leaveRun s) := by
  unfold leaveRun
  repeat' with_reducible first
    | assumption | intro _ | exact Sub.trans (by decide) hm | apply kept_abandonCal | apply kept_stateNaks
    | apply kept_entryEnds | apply kept_ite

theorem kept_lastWake (x1) (x2) (x3) (hm : Sub [.obj] m) (h : Kept m s0 s) : Kept m s0 (lastWake x1 x2 x3 s) := by
  unfold lastWake
  repeat' with_reducible first
    | assumption | intro _ | exact Sub.trans (by decide) hm | apply kept_oset

theorem kept_reachP0 (hm : Sub [.pwr, .pxl, .trx, .gyl] m) (h : Kept m s0 s) : Kept m s0 (reachP0 s) := by
  unfold reachP0
  repeat' with_reducible first
    | assumption | intro _ | exact Sub.trans (by decide) hm | apply kept_wakesDone
    | (extract_lets +onlyGivenNames x; revert x; first
        | refine kept_named (m := m) (s0 := s0) ?_ ?_ | refine kept_namedP (m := m) (s0 := s0) ?_ ?_
        | refine kept_value ?_) | apply kept_each | (simp -zeta only [kept_lit]) | apply kept_set_pwr_pxl_trx

theorem kept_wakeActs (x1) (hm : Sub [.obj, .pins, .pwr, .evlog, .pxl, .trx, .fst, .mgt, .scan, .dlk, .pnl, .gyl, .jrn]
    m) (h : Kept m s0 s) : Kept m s0 (wakeActs x1 s) := by
  unfold wakeActs
  repeat' with_reducible first
    | assumption | intro _ | exact Sub.trans (by decide) hm | apply kept_lastWake | apply kept_evc | apply kept_stepGoal
    | apply kept_cnt | apply kept_reachP0 | apply kept_entryEnds | apply kept_ite
    | (extract_lets +onlyGivenNames x; revert x; first
        | refine kept_named (m := m) (s0 := s0) ?_ ?_ | refine kept_namedP (m := m) (s0 := s0) ?_ ?_
        | refine kept_value ?_) | apply kept_each | (simp -zeta only [kept_lit]) | apply kept_set_pwr
    | (apply kept_eqP (by assumption)) | split

theorem kept_sleepEnds (hm : Sub [.obj, .pins, .pwr, .evlog, .pxl, .trx, .fst, .mgt, .scan, .dlk, .pnl, .gyl, .jrn] m)
    (h : Kept m s0 s) : Kept m s0 (sleepEnds s) := by
  unfold sleepEnds
  repeat' with_reducible first
    | assumption | intro _ | exact Sub.trans (by decide) hm | apply kept_wakeActs | apply kept_entryEnds | apply kept_ite
    | (extract_lets +onlyGivenNames x; revert x; first
        | refine kept_named (m := m) (s0 := s0) ?_ ?_ | refine kept_namedP (m := m) (s0 := s0) ?_ ?_
        | refine kept_value ?_) | (simp -zeta only [kept_lit]) | apply kept_set_pwr

theorem kept_deviceReaction (x1) (x2) (x3) (hm : Sub [.obj, .boot, .pins, .pwr, .evlog, .cross, .pxl, .trx, .lake, .fst,
    .mgt, .scan, .dlk, .safe, .pnl, .cal, .gyl, .jrn] m) (h : Kept m s0 s) : Kept m s0 (deviceReaction x1 x2 x3 s) := by
  unfold deviceReaction
  repeat' with_reducible first
    | assumption | intro _ | exact Sub.trans (by decide) hm | apply kept_pendEvt | apply kept_recordLast
    | apply kept_leaveRun | apply kept_holdBlack | apply kept_evc | apply kept_darkenBands | apply kept_changeOp
    | apply kept_setMech | apply kept_assertFault | apply kept_stateNaks | apply kept_logEv | apply kept_sleepEnds
    | apply kept_ite
    | (extract_lets +onlyGivenNames x; revert x; first
        | refine kept_named (m := m) (s0 := s0) ?_ ?_ | refine kept_namedP (m := m) (s0 := s0) ?_ ?_
        | refine kept_value ?_) | apply kept_each | (simp -zeta only [kept_lit]) | apply kept_set_boot

theorem kept_failure (x1) (hm : Sub [.obj, .safe] m) (h : Kept m s0 s) : Kept m s0 (failure x1 s) := by
  unfold failure
  repeat' with_reducible first
    | assumption | intro _ | exact Sub.trans (by decide) hm | apply kept_evc | apply kept_setMech

theorem kept_padsAtSetup (hm : Sub [.obj, .pins] m) (h : Kept m s0 s) : Kept m s0 (padsAtSetup s) := by
  unfold padsAtSetup
  repeat' with_reducible first
    | assumption | intro _ | exact Sub.trans (by decide) hm | apply kept_oset | apply kept_releasePads

theorem kept_tileReaction (x1) (x2) (x3) (hm : Sub [.obj, .pins, .evlog, .mgt, .safe, .jrn] m) (h : Kept m s0 s) : Kept
    m s0 (tileReaction x1 x2 x3 s) := by
  unfold tileReaction
  repeat' with_reducible first
    | assumption | intro _ | exact Sub.trans (by decide) hm | apply kept_recordLast | apply kept_evc | apply kept_setMech
    | apply kept_logEv | apply kept_ite
    | (extract_lets +onlyGivenNames x; revert x; first
        | refine kept_named (m := m) (s0 := s0) ?_ ?_ | refine kept_namedP (m := m) (s0 := s0) ?_ ?_
        | refine kept_value ?_) | (simp -zeta only [kept_lit]) | apply kept_set_evlog

theorem kept_safetyEvent (x1) (hm : Sub [.obj, .pins, .evlog, .mgt, .safe, .jrn] m) (h : Kept m s0 s) : Kept m s0
    (safetyEvent x1 s) := by
  unfold safetyEvent
  repeat' with_reducible first
    | assumption | intro _ | exact Sub.trans (by decide) hm | apply kept_failure | apply kept_tileReaction

theorem kept_setCause (x1) (x2) (x3) (x4) (hm : Sub [.scan] m) (h : Kept m s0 s) : Kept m s0 (setCause x1 x2 x3 x4 s) :=
    by
  unfold setCause
  repeat' with_reducible first
    | assumption | intro _ | exact Sub.trans (by decide) hm | apply kept_setPos

theorem kept_addDead (x1) (x2) (hm : Sub [.wear] m) (h : Kept m s0 s) : Kept m s0 (addDead x1 x2 s) := by
  unfold addDead
  repeat' with_reducible first
    | assumption | intro _ | exact Sub.trans (by decide) hm | apply kept_fst
    | (extract_lets +onlyGivenNames x; revert x; first
        | refine kept_named (m := m) (s0 := s0) ?_ ?_ | refine kept_namedP (m := m) (s0 := s0) ?_ ?_
        | refine kept_value ?_) | (simp -zeta only [kept_lit]) | apply kept_set_wear

theorem kept_jrnDefect (x1) (x2) (hm : Sub [.obj, .jrn] m) (h : Kept m s0 s) : Kept m s0 (jrnDefect x1 x2 s) := by
  unfold jrnDefect
  repeat' with_reducible first
    | assumption | intro _ | exact Sub.trans (by decide) hm | apply kept_jrnAdd

theorem kept_queueMask (x1) (x2) (x3) (hm : Sub [.wear] m) (h : Kept m s0 s) : Kept m s0 (queueMask x1 x2 x3 s) := by
  unfold queueMask
  repeat' with_reducible first
    | assumption | intro _ | exact Sub.trans (by decide) hm | apply kept_ite
    | (extract_lets +onlyGivenNames x; revert x; first
        | refine kept_named (m := m) (s0 := s0) ?_ ?_ | refine kept_namedP (m := m) (s0 := s0) ?_ ?_
        | refine kept_value ?_) | apply kept_each | (simp -zeta only [kept_lit]) | apply kept_set_wear
    | (apply kept_eqP (by assumption)) | split

theorem kept_touchRow (x1) (x2) (x3) (hm : Sub [.wear] m) (h : Kept m s0 s) : Kept m s0 (touchRow x1 x2 x3 s) := by
  unfold touchRow
  repeat' with_reducible first
    | assumption | intro _ | exact Sub.trans (by decide) hm | apply kept_queueMask | apply kept_ite
    | (extract_lets +onlyGivenNames x; revert x; first
        | refine kept_named (m := m) (s0 := s0) ?_ ?_ | refine kept_namedP (m := m) (s0 := s0) ?_ ?_
        | refine kept_value ?_) | (simp -zeta only [kept_lit]) | apply kept_set_wear

theorem kept_resolveShort (x1) (x2) (hm : Sub [.wear] m) (h : Kept m s0 s) : Kept m s0 (resolveShort x1 x2 s) := by
  unfold resolveShort
  repeat' with_reducible first
    | assumption | intro _ | exact Sub.trans (by decide) hm
    | (extract_lets +onlyGivenNames x; revert x; first
        | refine kept_named (m := m) (s0 := s0) ?_ ?_ | refine kept_namedP (m := m) (s0 := s0) ?_ ?_
        | refine kept_value ?_) | (simp -zeta only [kept_lit]) | apply kept_set_wear

theorem kept_wearEntry (x1) (x2) (x3) (x4) (hm : Sub [.obj] m) (h : Kept m s0 s) : Kept m s0 (wearEntry x1 x2 x3 x4 s)
    := by
  unfold wearEntry
  repeat' with_reducible first
    | assumption | intro _ | exact Sub.trans (by decide) hm | apply kept_oset

theorem kept_wearLog (x1) (x2) (x3) (hm : Sub [.obj] m) (h : Kept m s0 s) : Kept m s0 (wearLog x1 x2 x3 s) := by
  unfold wearLog
  repeat' with_reducible first
    | assumption | intro _ | exact Sub.trans (by decide) hm | apply kept_wearEntry

theorem kept_declareDead (x1) (x2) (x3) (hm : Sub [.obj, .mem, .poison, .pins, .evlog, .fst, .mgt, .wear, .safe, .jrn]
    m) (h : Kept m s0 s) : Kept m s0 (declareDead x1 x2 x3 s) := by
  unfold declareDead
  repeat' with_reducible first
    | assumption | intro _ | exact Sub.trans (by decide) hm | apply kept_addDead | apply kept_jrnDefect
    | apply kept_touchRow | apply kept_map16 | apply kept_resolveShort | apply kept_wearLog | apply kept_evc
    | apply kept_setDefect | apply kept_cnt | apply kept_safetyEvent | apply kept_ite
    | (extract_lets +onlyGivenNames x; revert x; first
        | refine kept_named (m := m) (s0 := s0) ?_ ?_ | refine kept_namedP (m := m) (s0 := s0) ?_ ?_
        | refine kept_value ?_) | apply kept_whenDo

theorem kept_maskConfirmed (x1) (x2) (hm : Sub [.obj, .mem, .poison, .fst, .wear, .jrn] m) (h : Kept m s0 s) : Kept m s0
    (maskConfirmed x1 x2 s) := by
  unfold maskConfirmed
  repeat' with_reducible first
    | assumption | intro _ | exact Sub.trans (by decide) hm | apply kept_jrnDefect | apply kept_map16
    | apply kept_resolveShort | apply kept_setDefect | apply kept_cnt | apply kept_ite
    | (extract_lets +onlyGivenNames x; revert x; first
        | refine kept_named (m := m) (s0 := s0) ?_ ?_ | refine kept_namedP (m := m) (s0 := s0) ?_ ?_
        | refine kept_value ?_) | apply kept_each | (simp -zeta only [kept_lit]) | apply kept_set_wear

theorem kept_maskFailed (x1) (x2) (hm : Sub [.obj, .pins, .evlog, .mgt, .wear, .jrn] m) (h : Kept m s0 s) : Kept m s0
    (maskFailed x1 x2 s) := by
  unfold maskFailed
  repeat' with_reducible first
    | assumption | intro _ | exact Sub.trans (by decide) hm | apply kept_evc | apply kept_queueMask | apply kept_logEv
    | apply kept_cnt | apply kept_ite
    | (extract_lets +onlyGivenNames x; revert x; first
        | refine kept_named (m := m) (s0 := s0) ?_ ?_ | refine kept_namedP (m := m) (s0 := s0) ?_ ?_
        | refine kept_value ?_) | (simp -zeta only [kept_lit]) | apply kept_set_wear

theorem kept_queueSelected (x1) (hm : Sub [.wear] m) (h : Kept m s0 s) : Kept m s0 (queueSelected x1 s) := by
  unfold queueSelected
  repeat' with_reducible first
    | assumption | intro _ | exact Sub.trans (by decide) hm | apply kept_queueMask | apply kept_ite
    | (extract_lets +onlyGivenNames x; revert x; first
        | refine kept_named (m := m) (s0 := s0) ?_ ?_ | refine kept_namedP (m := m) (s0 := s0) ?_ ?_
        | refine kept_value ?_) | apply kept_each

theorem kept_spendEmitter (x1) (x2) (x3) (x4) (x5) (hm : Sub [.obj, .mem, .poison, .pins, .evlog, .fst, .mgt, .wear,
    .safe, .jrn] m) (h : Kept m s0 s) : Kept m s0 (spendEmitter x1 x2 x3 x4 x5 s) := by
  unfold spendEmitter
  repeat' with_reducible first
    | assumption | intro _ | exact Sub.trans (by decide) hm | apply kept_jrnDefect | apply kept_touchRow
    | apply kept_wearLog | apply kept_evc | apply kept_setDefect | apply kept_declareDead | apply kept_ite

theorem kept_shortReport (x1) (x2) (x3) (x4) (x5) (x6) (hm : Sub [.obj, .mem, .poison, .pins, .evlog, .fst, .mgt, .wear,
    .safe, .jrn] m) (h : Kept m s0 s) : Kept m s0 (shortReport x1 x2 x3 x4 x5 x6 s) := by
  unfold shortReport
  repeat' with_reducible first
    | assumption | intro _ | exact Sub.trans (by decide) hm | apply kept_evc | apply kept_logEv | apply kept_cnt
    | apply kept_spendEmitter | apply kept_ite
    | (extract_lets +onlyGivenNames x; revert x; first
        | refine kept_named (m := m) (s0 := s0) ?_ ?_ | refine kept_namedP (m := m) (s0 := s0) ?_ ?_
        | refine kept_value ?_) | (simp -zeta only [kept_lit]) | apply kept_set_wear

theorem kept_addCause (x1) (x2) (hm : Sub [.obj, .pnl] m) (h : Kept m s0 s) : Kept m s0 (addCause x1 x2 s) := by
  unfold addCause
  repeat' with_reducible first
    | assumption | intro _ | exact Sub.trans (by decide) hm | apply kept_oset
    | (extract_lets +onlyGivenNames x; revert x; first
        | refine kept_named (m := m) (s0 := s0) ?_ ?_ | refine kept_namedP (m := m) (s0 := s0) ?_ ?_
        | refine kept_value ?_) | (simp -zeta only [kept_lit]) | apply kept_set_pnl

theorem kept_goeLow (x1) (hm : Sub [.pins] m) (h : Kept m s0 s) : Kept m s0 (goeLow x1 s) := by
  unfold goeLow
  repeat' with_reducible first
    | assumption | intro _ | exact Sub.trans (by decide) hm | apply kept_setPads_same

theorem kept_setRailPads (x1) (x2) (x3) (hm : Sub [.pins] m) (h : Kept m s0 s) : Kept m s0 (setRailPads x1 x2 x3 s) :=
  kept_setPads _ _ (fun _ => by simp [BandPins.interlocked]; cases x2 <;> simp) hm h

theorem kept_fallOn (x1) (x2) (x3) (x4) (hm : Sub [.pnl] m) (h : Kept m s0 s) : Kept m s0 (fallOn x1 x2 x3 x4 s) := by
  unfold fallOn
  repeat' with_reducible first
    | assumption | intro _ | exact Sub.trans (by decide) hm | apply kept_setRail

theorem kept_fallIn (x1) (x2) (x3) (x4) (hm : Sub [.pins, .pnl] m) (h : Kept m s0 s) : Kept m s0 (fallIn x1 x2 x3 x4 s)
    := by
  unfold fallIn
  repeat' with_reducible first
    | assumption | intro _ | exact Sub.trans (by decide) hm | apply kept_goeLow | apply kept_setRailPads
    | apply kept_setRail | apply kept_fallOn | apply kept_ite

theorem kept_fall (x1) (x2) (x3) (hm : Sub [.pins, .pnl] m) (h : Kept m s0 s) : Kept m s0 (fall x1 x2 x3 s) := by
  unfold fall
  repeat' with_reducible first
    | assumption | intro _ | exact Sub.trans (by decide) hm | apply kept_fallIn

theorem kept_fallLater (x1) (x2) (x3) (x4) (hm : Sub [.pins, .pnl] m) (h : Kept m s0 s) : Kept m s0 (fallLater x1 x2 x3
    x4 s) := by
  unfold fallLater
  repeat' with_reducible first
    | assumption | intro _ | exact Sub.trans (by decide) hm | apply kept_goeLow | apply kept_setRail | apply kept_fallOn
    | apply kept_ite

theorem kept_fallBy (x1) (x2) (x3) (x4) (hm : Sub [.pins, .pnl] m) (h : Kept m s0 s) : Kept m s0 (fallBy x1 x2 x3 x4 s)
    := by
  unfold fallBy
  repeat' with_reducible first
    | assumption | intro _ | exact Sub.trans (by decide) hm | apply kept_fall | apply kept_fallLater | apply kept_ite

theorem kept_cutBand (x1) (x2) (hm : Sub [.obj, .pins, .dlk, .pnl] m) (h : Kept m s0 s) : Kept m s0 (cutBand x1 x2 s) :=
    by
  unfold cutBand
  repeat' with_reducible first
    | assumption | intro _ | exact Sub.trans (by decide) hm | apply kept_oset | apply kept_addCause | apply kept_holdBlack
    | apply kept_evc | apply kept_cnt | apply kept_setRail | apply kept_fallBy
    | (extract_lets +onlyGivenNames x; revert x; first
        | refine kept_named (m := m) (s0 := s0) ?_ ?_ | refine kept_namedP (m := m) (s0 := s0) ?_ ?_
        | refine kept_value ?_) | apply kept_iter | (simp -zeta only [kept_lit]) | apply kept_set_pnl
    | (apply kept_eqP (by assumption)) | split

theorem kept_discharged (x1) (hm : Sub [.pins, .pnl] m) (h : Kept m s0 s) : Kept m s0 (discharged x1 s) := by
  unfold discharged
  repeat' with_reducible first
    | assumption | intro _ | exact Sub.trans (by decide) hm | apply kept_setRailPads | apply kept_setRail | apply kept_ite

theorem kept_fallStep (x1) (hm : Sub [.pins, .pnl] m) (h : Kept m s0 s) : Kept m s0 (fallStep x1 s) := by
  unfold fallStep
  repeat' with_reducible first
    | assumption | intro _ | exact Sub.trans (by decide) hm | apply kept_fallIn | (apply kept_eqP (by assumption)) | split

theorem kept_fallDone (x1) (hm : Sub [.pins, .pnl] m) (h : Kept m s0 s) : Kept m s0 (fallDone x1 s) := by
  unfold fallDone
  repeat' with_reducible first
    | assumption | intro _ | exact Sub.trans (by decide) hm | apply kept_discharged | apply kept_fallStep

theorem kept_limitFrame (x1) (hm : Sub [.obj, .scan] m) (h : Kept m s0 s) : Kept m s0 (limitFrame x1 s) := by
  unfold limitFrame
  repeat' with_reducible first
    | assumption | intro _ | exact Sub.trans (by decide) hm | apply kept_oset | apply kept_setBandScan | apply kept_evc
    | apply kept_cnt | apply kept_ite

theorem kept_limitShort (x1) (hm : Sub [.obj, .scan] m) (h : Kept m s0 s) : Kept m s0 (limitShort x1 s) := by
  unfold limitShort
  repeat' with_reducible first
    | assumption | intro _ | exact Sub.trans (by decide) hm | apply kept_oset | apply kept_setBandScan

theorem kept_startPath (x1) (hm : Sub [.obj, .pins, .dlk, .pnl] m) (h : Kept m s0 s) : Kept m s0 (startPath x1 s) := by
  unfold startPath
  repeat' with_reducible first
    | assumption | intro _ | exact Sub.trans (by decide) hm | apply kept_oset | apply kept_addCause
    | apply kept_releasePads | apply kept_holdBlack | apply kept_evc | apply kept_assertFault | apply kept_cnt
    | apply kept_fallBy | apply kept_ite
    | (extract_lets +onlyGivenNames x; revert x; first
        | refine kept_named (m := m) (s0 := s0) ?_ ?_ | refine kept_namedP (m := m) (s0 := s0) ?_ ?_
        | refine kept_value ?_) | apply kept_each | apply kept_whenDo | (simp -zeta only [kept_lit]) | apply kept_set_pnl
    | (apply kept_eqP (by assumption)) | split

theorem kept_countFrame14 (x1) (x2) (hm : Sub [.obj, .safe] m) (h : Kept m s0 s) : Kept m s0 (countFrame14 x1 x2 s) := by
  unfold countFrame14
  repeat' with_reducible first
    | assumption | intro _ | exact Sub.trans (by decide) hm | apply kept_evc | apply kept_cnt | apply kept_ite
    | (extract_lets +onlyGivenNames x; revert x; first
        | refine kept_named (m := m) (s0 := s0) ?_ ?_ | refine kept_namedP (m := m) (s0 := s0) ?_ ?_
        | refine kept_value ?_) | (simp -zeta only [kept_lit]) | apply kept_set_safe

theorem kept_dirtyBand (x1) (hm : Sub [.safe] m) (h : Kept m s0 s) : Kept m s0 (dirtyBand x1 s) := by
  unfold dirtyBand
  repeat' with_reducible first
    | assumption | intro _ | exact Sub.trans (by decide) hm
    | (extract_lets +onlyGivenNames x; revert x; first
        | refine kept_named (m := m) (s0 := s0) ?_ ?_ | refine kept_namedP (m := m) (s0 := s0) ?_ ?_
        | refine kept_value ?_) | (simp -zeta only [kept_lit]) | apply kept_set_safe

theorem kept_readReact (x1) (x2) (hm : Sub [.obj, .pins, .evlog, .trx, .lake, .mgt, .scan, .safe, .jrn] m) (h : Kept m
    s0 s) : Kept m s0 (readReact x1 x2 s) := by
  unfold readReact
  repeat' with_reducible first
    | assumption | intro _ | exact Sub.trans (by decide) hm | apply kept_bandReaction | apply kept_ite

theorem kept_judge04 (x1) (x2) (x3) (x4) (x5) (hm : Sub [.obj, .pins, .evlog, .trx, .lake, .mgt, .scan, .dlk, .safe,
    .pnl, .jrn] m) (h : Kept m s0 s) : Kept m s0 (judge04 x1 x2 x3 x4 x5 s) := by
  unfold judge04
  repeat' with_reducible first
    | assumption | intro _ | exact Sub.trans (by decide) hm | apply kept_cutBand | apply kept_dirtyBand | apply kept_evc
    | apply kept_failure | apply kept_cnt | apply kept_readReact | apply kept_ite
    | (extract_lets +onlyGivenNames x; revert x; first
        | refine kept_named (m := m) (s0 := s0) ?_ ?_ | refine kept_namedP (m := m) (s0 := s0) ?_ ?_
        | refine kept_value ?_) | (simp -zeta only [kept_lit]) | apply kept_set_safe

theorem kept_judge05 (x1) (x2) (x3) (x4) (hm : Sub [.obj, .pins, .evlog, .trx, .lake, .mgt, .scan, .safe, .jrn] m) (h :
    Kept m s0 s) : Kept m s0 (judge05 x1 x2 x3 x4 s) := by
  unfold judge05
  repeat' with_reducible first
    | assumption | intro _ | exact Sub.trans (by decide) hm | apply kept_dirtyBand | apply kept_evc | apply kept_failure
    | apply kept_cnt | apply kept_readReact | apply kept_ite
    | (extract_lets +onlyGivenNames x; revert x; first
        | refine kept_named (m := m) (s0 := s0) ?_ ?_ | refine kept_namedP (m := m) (s0 := s0) ?_ ?_
        | refine kept_value ?_) | (simp -zeta only [kept_lit]) | apply kept_set_safe | (apply kept_eqP (by assumption))
    | split

theorem kept_liftM6 (x1) (x2) (x3) (hm : Sub [.scan] m) (h : Kept m s0 s) : Kept m s0 (liftM6 x1 x2 x3 s) := by
  unfold liftM6
  repeat' with_reducible first
    | assumption | intro _ | exact Sub.trans (by decide) hm | apply kept_setCause | apply kept_fst | apply kept_ite
    | (extract_lets +onlyGivenNames x; revert x; first
        | refine kept_named (m := m) (s0 := s0) ?_ ?_ | refine kept_namedP (m := m) (s0 := s0) ?_ ?_
        | refine kept_value ?_) | apply kept_each

theorem kept_judge06 (x1) (x2) (x3) (x4) (x5) (hm : Sub [.obj, .pins, .evlog, .trx, .lake, .mgt, .scan, .safe, .jrn] m)
    (h : Kept m s0 s) : Kept m s0 (judge06 x1 x2 x3 x4 x5 s) := by
  unfold judge06
  repeat' with_reducible first
    | assumption | intro _ | exact Sub.trans (by decide) hm | apply kept_setCause | apply kept_evc | apply kept_liftM6
    | apply kept_failure | apply kept_cnt | apply kept_readReact | apply kept_tileReaction | apply kept_ite
    | (extract_lets +onlyGivenNames x; revert x; first
        | refine kept_named (m := m) (s0 := s0) ?_ ?_ | refine kept_namedP (m := m) (s0 := s0) ?_ ?_
        | refine kept_value ?_) | apply kept_each | (simp -zeta only [kept_lit]) | apply kept_set_safe

theorem kept_judge14 (x1) (x2) (x3) (hm : Sub [.obj, .pins, .evlog, .trx, .lake, .mgt, .scan, .safe, .jrn] m) (h : Kept
    m s0 s) : Kept m s0 (judge14 x1 x2 x3 s) := by
  unfold judge14
  repeat' with_reducible first
    | assumption | intro _ | exact Sub.trans (by decide) hm | apply kept_dirtyBand | apply kept_countFrame14
    | apply kept_failure | apply kept_readReact | apply kept_ite | (apply kept_eqP (by assumption)) | split

theorem kept_judgeBurst (x1) (x2) (hm : Sub [.obj, .pins, .evlog, .trx, .lake, .mgt, .scan, .safe, .jrn] m) (h : Kept m
    s0 s) : Kept m s0 (judgeBurst x1 x2 s) := by
  unfold judgeBurst
  repeat' with_reducible first
    | assumption | intro _ | exact Sub.trans (by decide) hm | apply kept_readReact | apply kept_ite
    | (extract_lets +onlyGivenNames x; revert x; first
        | refine kept_named (m := m) (s0 := s0) ?_ ?_ | refine kept_namedP (m := m) (s0 := s0) ?_ ?_
        | refine kept_value ?_) | (simp -zeta only [kept_lit]) | apply kept_set_safe

theorem kept_judgeLink (x1) (x2) (x3) (hm : Sub [.obj, .pins, .evlog, .trx, .lake, .mgt, .scan, .dlk, .safe, .jrn] m) (h
    : Kept m s0 s) : Kept m s0 (judgeLink x1 x2 x3 s) := by
  unfold judgeLink
  repeat' with_reducible first
    | assumption | intro _ | exact Sub.trans (by decide) hm | apply kept_bandReaction | apply kept_setDlk
    | apply kept_failure | apply kept_ite

theorem kept_judgeMask (x1) (x2) (x3) (hm : Sub [.obj, .mem, .poison, .pins, .evlog, .fst, .mgt, .wear, .jrn] m) (h :
    Kept m s0 s) : Kept m s0 (judgeMask x1 x2 x3 s) := by
  unfold judgeMask
  repeat' with_reducible first
    | assumption | intro _ | exact Sub.trans (by decide) hm | apply kept_maskFailed | apply kept_maskConfirmed
    | apply kept_ite

theorem kept_judgeRec (x1) (x2) (x3) (x4) (hm : Sub [.obj, .wear] m) (h : Kept m s0 s) : Kept m s0 (judgeRec x1 x2 x3 x4
    s) := by
  unfold judgeRec
  repeat' with_reducible first
    | assumption | intro _ | exact Sub.trans (by decide) hm | apply kept_evc | apply kept_cnt | apply kept_ite
    | (extract_lets +onlyGivenNames x; revert x; first
        | refine kept_named (m := m) (s0 := s0) ?_ ?_ | refine kept_namedP (m := m) (s0 := s0) ?_ ?_
        | refine kept_value ?_) | (simp -zeta only [kept_lit]) | apply kept_set_wear

theorem kept_judgeShort (x1) (x2) (x3) (hm : Sub [.obj, .mem, .poison, .pins, .evlog, .trx, .lake, .fst, .mgt, .scan,
    .dlk, .wear, .safe, .pnl, .jrn] m) (h : Kept m s0 s) : Kept m s0 (judgeShort x1 x2 x3 s) := by
  unfold judgeShort
  repeat' with_reducible first
    | assumption | intro _ | exact Sub.trans (by decide) hm | apply kept_limitShort | apply kept_cutBand
    | apply kept_bandReaction | apply kept_setBandScan | apply kept_shortReport | apply kept_failure | apply kept_ite
    | (extract_lets +onlyGivenNames x; revert x; first
        | refine kept_named (m := m) (s0 := s0) ?_ ?_ | refine kept_namedP (m := m) (s0 := s0) ?_ ?_
        | refine kept_value ?_) | (apply kept_eqP (by assumption)) | split

theorem kept_unjudged (x1) (x2) (hm : Sub [.obj, .pins, .evlog, .mgt, .wear, .jrn] m) (h : Kept m s0 s) : Kept m s0
    (unjudged x1 x2 s) := by
  unfold unjudged
  repeat' with_reducible first
    | assumption | intro _ | exact Sub.trans (by decide) hm | apply kept_cntBy | apply kept_maskFailed | apply kept_evc
    | apply kept_ite
    | (extract_lets +onlyGivenNames x; revert x; first
        | refine kept_named (m := m) (s0 := s0) ?_ ?_ | refine kept_namedP (m := m) (s0 := s0) ?_ ?_
        | refine kept_value ?_) | apply kept_iter

theorem kept_provePos (x1) (x2) (x3) (x4) (hm : Sub [.obj, .trx, .lake, .scan] m) (h : Kept m s0 s) : Kept m s0
    (provePos x1 x2 x3 x4 s) := by
  unfold provePos
  repeat' with_reducible first
    | assumption | intro _ | exact Sub.trans (by decide) hm | apply kept_seenTx | apply kept_nakTx | apply kept_setTag
    | apply kept_ite
    | (extract_lets +onlyGivenNames x; revert x; first
        | refine kept_named (m := m) (s0 := s0) ?_ ?_ | refine kept_namedP (m := m) (s0 := s0) ?_ ?_
        | refine kept_value ?_) | apply kept_foldl | apply kept_foldlP | apply keptP_foldl
    | (apply kept_eqP (by assumption)) | split

theorem kept_judgeSlot (x1) (x2) (x3) (hm : Sub [.obj, .mem, .poison, .pins, .evlog, .trx, .lake, .fst, .mgt, .scan,
    .dlk, .wear, .safe, .pnl, .jrn] m) (h : Kept m s0 s) : Kept m s0 (judgeSlot x1 x2 x3 s) := by
  unfold judgeSlot
  repeat' with_reducible first
    | assumption | intro _ | exact Sub.trans (by decide) hm | apply kept_judge06 | apply kept_scanEvent
    | apply kept_judgeLink | apply kept_setBandScan | apply kept_judgeShort | apply kept_judge05 | apply kept_judgeBurst
    | apply kept_unjudged | apply kept_judge04 | apply kept_provePos | apply kept_judge14 | apply kept_judgeRec
    | apply kept_judgeMask | apply kept_fst | apply kept_ite
    | (extract_lets +onlyGivenNames x; revert x; first
        | refine kept_named (m := m) (s0 := s0) ?_ ?_ | refine kept_namedP (m := m) (s0 := s0) ?_ ?_
        | refine kept_value ?_) | apply kept_each

theorem kept_keepRecords (x1) (x2) (hm : Sub [.drvRec] m) (h : Kept m s0 s) : Kept m s0 (keepRecords x1 x2 s) := by
  unfold keepRecords
  repeat' with_reducible first
    | assumption | intro _ | exact Sub.trans (by decide) hm | apply kept_ite
    | (extract_lets +onlyGivenNames x; revert x; first
        | refine kept_named (m := m) (s0 := s0) ?_ ?_ | refine kept_namedP (m := m) (s0 := s0) ?_ ?_
        | refine kept_value ?_) | apply kept_each | (simp -zeta only [kept_lit]) | apply kept_set_drvRec

theorem kept_judgePos (x1) (x2) (x3) (x4) (hm : Sub [.obj, .pins, .evlog, .mgt, .scan, .safe, .jrn] m) (h : Kept m s0 s)
    : Kept m s0 (judgePos x1 x2 x3 x4 s) := by
  unfold judgePos
  repeat' with_reducible first
    | assumption | intro _ | exact Sub.trans (by decide) hm | apply kept_pendEvt | apply kept_evc | apply kept_setPos
    | apply kept_failure | apply kept_cnt | apply kept_tileReaction | apply kept_fst | apply kept_ite
    | (extract_lets +onlyGivenNames x; revert x; first
        | refine kept_named (m := m) (s0 := s0) ?_ ?_ | refine kept_namedP (m := m) (s0 := s0) ?_ ?_
        | refine kept_value ?_) | (simp -zeta only [kept_lit]) | apply kept_set_scan

theorem kept_keepTemps (hm : Sub [.scan] m) (h : Kept m s0 s) : Kept m s0 (keepTemps s) := by
  unfold keepTemps
  repeat' with_reducible first
    | assumption | intro _ | exact Sub.trans (by decide) hm | apply kept_fst
    | (extract_lets +onlyGivenNames x; revert x; first
        | refine kept_named (m := m) (s0 := s0) ?_ ?_ | refine kept_namedP (m := m) (s0 := s0) ?_ ?_
        | refine kept_value ?_) | apply kept_foldl | apply kept_foldlP | apply keptP_foldl | (simp -zeta only [kept_lit])
    | apply kept_set_scan

theorem kept_prepareRow (x1) (x2) (x3) (hm : Sub [.obj, .pins, .evlog, .mgt, .scan, .wear, .safe, .jrn] m) (h : Kept m
    s0 s) : Kept m s0 (prepareRow x1 x2 x3 s) := by
  unfold prepareRow
  repeat' with_reducible first
    | assumption | intro _ | exact Sub.trans (by decide) hm | apply kept_cntBy | apply kept_readPoison
    | apply kept_setBandScan | apply kept_judgePos | apply kept_fst
    | (extract_lets +onlyGivenNames x; revert x; first
        | refine kept_named (m := m) (s0 := s0) ?_ ?_ | refine kept_namedP (m := m) (s0 := s0) ?_ ?_
        | refine kept_value ?_) | apply kept_each | (simp -zeta only [kept_lit]) | apply kept_set_wear

theorem kept_renewPos (x1) (x2) {a : State × Nat} (hm : Sub [.obj, .scan] m) (h : KeptP m s0 a) :
    KeptP m s0 (renewPos x1 x2 a) := by
  unfold renewPos
  dsimp only
  split
  · exact h
  · exact kept_evc _ (Sub.trans (by decide) hm) (kept_setPos _ _ (Sub.trans (by decide) hm) h)

theorem kept_applyToken (x1) (hm : Sub [.obj, .trx, .lake, .scan] m) (h : Kept m s0 s) : Kept m s0 (applyToken x1 s) := by
  unfold applyToken
  repeat' with_reducible first
    | assumption | intro _ | exact Sub.trans (by decide) hm | apply kept_freeTag | apply kept_renewPos
    | apply kept_pushBack | apply kept_evc | apply kept_fst | (unfold KeptP; dsimp only)
    | (extract_lets +onlyGivenNames x; revert x; first
        | refine kept_named (m := m) (s0 := s0) ?_ ?_ | refine kept_namedP (m := m) (s0 := s0) ?_ ?_
        | refine kept_value ?_) | apply kept_foldl | apply kept_foldlP | apply keptP_foldl

theorem kept_commitGroup (x1) (hm : Sub [.obj, .trx, .lake, .scan] m) (h : Kept m s0 s) : Kept m s0 (commitGroup x1 s)
    := by
  unfold commitGroup
  repeat' with_reducible first
    | assumption | intro _ | exact Sub.trans (by decide) hm | apply kept_applyToken | apply kept_pushBack | apply kept_evc
    | apply kept_setPos | apply kept_cnt | apply kept_setTag | apply kept_setGroup | apply kept_ite
    | (extract_lets +onlyGivenNames x; revert x; first
        | refine kept_named (m := m) (s0 := s0) ?_ ?_ | refine kept_namedP (m := m) (s0 := s0) ?_ ?_
        | refine kept_value ?_) | apply kept_each | (simp -zeta only [kept_lit]) | apply kept_set_scan

theorem kept_copyTile (x1) (hm : Sub [.obj, .mem, .poison] m) (h : Kept m s0 s) : Kept m s0 (copyTile x1 s) := by
  unfold copyTile
  repeat' with_reducible first
    | assumption | intro _ | exact Sub.trans (by decide) hm | apply kept_readPoison | apply kept_memRun
    | (extract_lets +onlyGivenNames x; revert x; first
        | refine kept_named (m := m) (s0 := s0) ?_ ?_ | refine kept_namedP (m := m) (s0 := s0) ?_ ?_
        | refine kept_value ?_) | apply kept_each | apply kept_foldl | apply kept_foldlP | apply keptP_foldl
    | (simp -zeta only [kept_lit]) | apply kept_set_poison

theorem kept_queueMembers (x1) (hm : Sub [.trx] m) (h : Kept m s0 s) : Kept m s0 (queueMembers x1 s) := by
  unfold queueMembers
  repeat' with_reducible first
    | assumption | intro _ | exact Sub.trans (by decide) hm | apply kept_setTag | apply kept_each

theorem kept_pushHeld (x1) (hm : Sub [.obj, .trx, .lake, .scan] m) (h : Kept m s0 s) : Kept m s0 (pushHeld x1 s) := by
  unfold pushHeld
  repeat' with_reducible first
    | assumption | intro _ | exact Sub.trans (by decide) hm | apply kept_commitGroup | apply kept_queueMembers
    | apply kept_ite
    | (extract_lets +onlyGivenNames x; revert x; first
        | refine kept_named (m := m) (s0 := s0) ?_ ?_ | refine kept_namedP (m := m) (s0 := s0) ?_ ?_
        | refine kept_value ?_) | (simp -zeta only [kept_lit]) | apply kept_set_trx

theorem kept_heldFrame (hm : Sub [.obj, .trx, .lake, .scan] m) (h : Kept m s0 s) : Kept m s0 (heldFrame s) := by
  unfold heldFrame
  repeat' with_reducible first
    | assumption | intro _ | exact Sub.trans (by decide) hm | apply kept_pushHeld | apply kept_fst
    | (extract_lets +onlyGivenNames x; revert x; first
        | refine kept_named (m := m) (s0 := s0) ?_ ?_ | refine kept_namedP (m := m) (s0 := s0) ?_ ?_
        | refine kept_value ?_) | apply kept_each

theorem kept_overtakePend (x1) (hm : Sub [.obj, .trx, .lake, .scan] m) (h : Kept m s0 s) : Kept m s0 (overtakePend x1 s)
    := by
  unfold overtakePend
  repeat' with_reducible first
    | assumption | intro _ | exact Sub.trans (by decide) hm | apply kept_nakTx | apply kept_setPos
    | (extract_lets +onlyGivenNames x; revert x; first
        | refine kept_named (m := m) (s0 := s0) ?_ ?_ | refine kept_namedP (m := m) (s0 := s0) ?_ ?_
        | refine kept_value ?_) | (apply kept_eqP (by assumption)) | split

theorem kept_pushRun (x1) (hm : Sub [.obj, .trx, .lake, .scan] m) (h : Kept m s0 s) : Kept m s0 (pushRun x1 s) := by
  unfold pushRun
  repeat' with_reducible first
    | assumption | intro _ | exact Sub.trans (by decide) hm | apply kept_commitGroup | apply kept_queueMembers
    | apply kept_ite
    | (extract_lets +onlyGivenNames x; revert x; first
        | refine kept_named (m := m) (s0 := s0) ?_ ?_ | refine kept_namedP (m := m) (s0 := s0) ?_ ?_
        | refine kept_value ?_) | (simp -zeta only [kept_lit]) | apply kept_set_trx

theorem kept_runEnded (x1) (hm : Sub [.obj, .trx, .lake, .scan] m) (h : Kept m s0 s) : Kept m s0 (runEnded x1 s) := by
  unfold runEnded
  repeat' with_reducible first
    | assumption | intro _ | exact Sub.trans (by decide) hm | apply kept_commitGroup | apply kept_fst
    | (extract_lets +onlyGivenNames x; revert x; first
        | refine kept_named (m := m) (s0 := s0) ?_ ?_ | refine kept_namedP (m := m) (s0 := s0) ?_ ?_
        | refine kept_value ?_) | apply kept_each | (simp -zeta only [kept_lit]) | apply kept_set_trx

theorem kept_seenWindow (hm : Sub [.obj, .trx, .lake, .scan] m) (h : Kept m s0 s) : Kept m s0 (seenWindow s) := by
  unfold seenWindow
  repeat' with_reducible first
    | assumption | intro _ | exact Sub.trans (by decide) hm | apply kept_nakTx | apply kept_setTag | apply kept_fst
    | apply kept_ite
    | (extract_lets +onlyGivenNames x; revert x; first
        | refine kept_named (m := m) (s0 := s0) ?_ ?_ | refine kept_namedP (m := m) (s0 := s0) ?_ ?_
        | refine kept_value ?_) | apply kept_each

theorem kept_stageTile (x1) (x2) (hm : Sub [.mem, .poison] m) (h : Kept m s0 s) : Kept m s0 (stageTile x1 x2 s) := by
  unfold stageTile
  repeat' with_reducible first
    | assumption | intro _ | exact Sub.trans (by decide) hm | apply kept_memRun

theorem kept_swapPos (x1) (hm : Sub [.obj, .pins, .evlog, .trx, .lake, .mgt, .scan, .safe, .jrn] m) (h : Kept m s0 s) :
    Kept m s0 (swapPos x1 s) := by
  unfold swapPos
  repeat' with_reducible first
    | assumption | intro _ | exact Sub.trans (by decide) hm | apply kept_nakTx | apply kept_setPos | apply kept_setTag
    | apply kept_tileReaction | apply kept_fst | apply kept_ite
    | (extract_lets +onlyGivenNames x; revert x; first
        | refine kept_named (m := m) (s0 := s0) ?_ ?_ | refine kept_namedP (m := m) (s0 := s0) ?_ ?_
        | refine kept_value ?_) | apply kept_whenDo | (apply kept_eqP (by assumption)) | split

theorem kept_swapFrame (hm : Sub [.obj, .pins, .evlog, .trx, .lake, .mgt, .scan, .safe, .jrn] m) (h : Kept m s0 s) :
    Kept m s0 (swapFrame s) := by
  unfold swapFrame
  repeat' with_reducible first
    | assumption | intro _ | exact Sub.trans (by decide) hm | apply kept_swapPos | (simp only [id_eq]; assumption)
    | apply kept_fst
    | (extract_lets +onlyGivenNames x; revert x; first
        | refine kept_named (m := m) (s0 := s0) ?_ ?_ | refine kept_namedP (m := m) (s0 := s0) ?_ ?_
        | refine kept_value ?_) | apply kept_each

theorem kept_swapSlot (hm : Sub [.obj, .pins, .evlog, .trx, .lake, .mgt, .scan, .safe, .jrn] m) (h : Kept m s0 s) : Kept
    m s0 (swapSlot s) := by
  unfold swapSlot
  repeat' with_reducible first
    | assumption | intro _ | exact Sub.trans (by decide) hm | apply kept_swapPos | apply kept_fst
    | (extract_lets +onlyGivenNames x; revert x; first
        | refine kept_named (m := m) (s0 := s0) ?_ ?_ | refine kept_namedP (m := m) (s0 := s0) ?_ ?_
        | refine kept_value ?_) | apply kept_each

theorem kept_refCrc (hm : Sub [.safe] m) (h : Kept m s0 s) : Kept m s0 (refCrc s) := by
  unfold refCrc
  repeat' with_reducible first
    | assumption | intro _ | exact Sub.trans (by decide) hm | apply kept_ite
    | (extract_lets +onlyGivenNames x; revert x; first
        | refine kept_named (m := m) (s0 := s0) ?_ ?_ | refine kept_namedP (m := m) (s0 := s0) ?_ ?_
        | refine kept_value ?_) | (simp -zeta only [kept_lit]) | apply kept_set_safe

theorem kept_plainWrite (x1) (x2) (hm : Sub [.obj, .safe, .jrn] m) (h : Kept m s0 s) : Kept m s0 (plainWrite x1 x2 s) :=
    by
  unfold plainWrite
  repeat' with_reducible first
    | assumption | intro _ | exact Sub.trans (by decide) hm | apply kept_oset | apply kept_refCrc | apply kept_jrnObj
    | (extract_lets +onlyGivenNames x; revert x; first
        | refine kept_named (m := m) (s0 := s0) ?_ ?_ | refine kept_namedP (m := m) (s0 := s0) ?_ ?_
        | refine kept_value ?_) | (apply kept_eqP (by assumption)) | split

theorem kept_ownPlain (x1) (x2) (hm : Sub [.obj, .safe, .jrn] m) (h : Kept m s0 s) : KeptP m s0 (ownPlain x1 x2 s) := by
  unfold ownPlain
  repeat' with_reducible first
    | assumption | intro _ | exact Sub.trans (by decide) hm | apply kept_plainWrite | (unfold KeptP; dsimp only)

theorem kept_queueResp (x1) (x2) (hm : Sub [.obj, .pins, .mgt] m) (h : Kept m s0 s) : Kept m s0 (queueResp x1 x2 s) := by
  unfold queueResp
  repeat' with_reducible first
    | assumption | intro _ | exact Sub.trans (by decide) hm | apply kept_setPort

theorem kept_request (x1) (x2) (x3) (x4) (x5) {x6 : State → State × Answer} (hm : Sub [.obj, .pins, .mgt] m)
    (hr : ∀ a, Kept m s0 a → KeptP m s0 (x6 a)) (h : Kept m s0 s) : Kept m s0 (request x1 x2 x3 x4 x5 x6 s) := by
  unfold request
  repeat' with_reducible first
    | assumption | intro _ | exact Sub.trans (by decide) hm | apply hr | apply kept_fst | apply kept_evc | apply kept_cnt
    | apply kept_queueResp | apply kept_setPort | apply kept_ite
    | (extract_lets +onlyGivenNames x; revert x; first
        | refine kept_named (m := m) (s0 := s0) ?_ ?_ | refine kept_namedP (m := m) (s0 := s0) ?_ ?_
        | refine kept_value ?_)
    | (apply kept_eqP (by assumption)) | split

theorem kept_violation (x1) (x2) (x3) (hm : Sub [.obj, .pins, .mgt] m) (h : Kept m s0 s) : Kept m s0 (violation x1 x2 x3
    s) := by
  unfold violation
  repeat' with_reducible first
    | assumption | intro _ | exact Sub.trans (by decide) hm | apply kept_oset | apply kept_pendEvt | apply kept_evc
    | apply kept_cnt

theorem kept_runWrite (x1) (x2) (x3) {x4 : Nat → State → State × Nat} (hm : Sub [.obj, .pins, .mgt] m)
    (hr : ∀ v a, Kept m s0 a → KeptP m s0 (x4 v a)) (h : Kept m s0 s) : KeptP m s0 (runWrite x1 x2 x3 x4 s) := by
  unfold runWrite
  split
  · exact h
  · exact kept_violation _ _ _ (Sub.trans (by decide) hm) h
  · exact hr _ _ h

theorem kept_writeRow (x1) (x2) (x3) {x4 : Nat → State → State × Nat} (hm : Sub [.obj, .pins, .mgt] m)
    (hr : ∀ v a, Kept m s0 a → KeptP m s0 (x4 v a)) (h : Kept m s0 s) : Kept m s0 (writeRow x1 x2 x3 x4 s) :=
  kept_request _ _ _ _ _ (Sub.trans (by decide) hm)
    (fun _ ha => kept_runWrite _ _ _ (Sub.trans (by decide) hm) hr ha) h

theorem kept_ended (x1) (x2) (hm : Sub [.obj, .pins, .mgt] m) (h : Kept m s0 s) : Kept m s0 (ended x1 x2 s) := by
  unfold ended
  repeat' with_reducible first
    | assumption | intro _ | exact Sub.trans (by decide) hm | apply kept_oset | apply kept_pendEvt

theorem kept_becameVerm (x1) (hm : Sub [.obj, .pins, .evlog, .mgt, .scan, .safe, .jrn] m) (h : Kept m s0 s) : Kept m s0
    (becameVerm x1 s) := by
  unfold becameVerm
  repeat' with_reducible first
    | assumption | intro _ | exact Sub.trans (by decide) hm | apply kept_setCause | apply kept_wearEntry
    | apply kept_safetyEvent | apply kept_fst | apply kept_ite
    | (extract_lets +onlyGivenNames x; revert x; first
        | refine kept_named (m := m) (s0 := s0) ?_ ?_ | refine kept_namedP (m := m) (s0 := s0) ?_ ?_
        | refine kept_value ?_) | apply kept_each

theorem kept_activateRegions {x1 : State → State} (hm : Sub [.obj, .pins, .evlog, .mgt, .scan, .safe, .jrn] m) (hr : ∀
    a, Kept m s0 a → Kept m s0 (x1 a))
    (h : Kept m s0 s) : Kept m s0 (activateRegions x1 s) := by
  have ho : Sub [.obj] m := Sub.trans (by decide) hm
  have hs : Sub [.safe] m := Sub.trans (by decide) hm
  unfold activateRegions
  extract_lets before src s1 c src2 s2 s3 s4
  have h1 : Kept m s0 s1 := kept_set_scan (Sub.trans (by decide) hm) h
  have h2 : Kept m s0 s2 := kept_ite (kept_oset _ _ ho (kept_set_safe hs h1)) (kept_refCrc hs h1)
  have h4 : Kept m s0 s4 := kept_oset _ _ ho (kept_ended _ _ (Sub.trans (by decide) hm) (hr _ h2))
  exact kept_ite h4 (kept_becameVerm _ (Sub.trans (by decide) hm) h4)

theorem kept_cancelShow (hm : Sub [.obj, .pins, .mgt, .scan] m) (h : Kept m s0 s) : Kept m s0 (cancelShow s) := by
  unfold cancelShow
  repeat' with_reducible first
    | assumption | intro _ | exact Sub.trans (by decide) hm | apply kept_ended | apply kept_ite
    | (extract_lets +onlyGivenNames x; revert x; first
        | refine kept_named (m := m) (s0 := s0) ?_ ?_ | refine kept_namedP (m := m) (s0 := s0) ?_ ?_
        | refine kept_value ?_) | (simp -zeta only [kept_lit]) | apply kept_set_scan

theorem kept_regionRecord (x1) (hm : Sub [.obj, .jrn] m) (h : Kept m s0 s) : Kept m s0 (regionRecord x1 s) := by
  unfold regionRecord
  repeat' with_reducible first
    | assumption | intro _ | exact Sub.trans (by decide) hm | apply kept_jrnAdd

theorem kept_commitRegions (x1) (hm : Sub [.obj, .pins, .evlog, .mgt, .scan, .safe, .jrn] m) (h : Kept m s0 s) : Kept m
    s0 (commitRegions x1 s) := by
  unfold commitRegions
  repeat' with_reducible first
    | assumption | intro _ | exact Sub.trans (by decide) hm | apply kept_activateRegions | apply kept_regionRecord

theorem kept_stagedRecord (x1) (x2) (x3) (x4) (hm : Sub [.obj, .scan, .jrn] m) (h : Kept m s0 s) : Kept m s0
    (stagedRecord x1 x2 x3 x4 s) := by
  unfold stagedRecord
  repeat' with_reducible first
    | assumption | intro _ | exact Sub.trans (by decide) hm | apply kept_jrnAdd

theorem kept_journalPending (hm : Sub [.obj, .scan, .jrn] m) (h : Kept m s0 s) : Kept m s0 (journalPending s) := by
  unfold journalPending
  repeat' with_reducible first
    | assumption | intro _ | exact Sub.trans (by decide) hm | apply kept_stagedRecord
    | (extract_lets +onlyGivenNames x; revert x; first
        | refine kept_named (m := m) (s0 := s0) ?_ ?_ | refine kept_namedP (m := m) (s0 := s0) ?_ ?_
        | refine kept_value ?_) | (simp -zeta only [kept_lit]) | apply kept_set_scan | (apply kept_eqP (by assumption))
    | split

theorem kept_ownRegReq (x1) (hm : Sub [.obj, .pins, .mgt, .scan, .jrn] m) (h : Kept m s0 s) : KeptP m s0 (ownRegReq x1
    s) := by
  unfold ownRegReq
  repeat' with_reducible first
    | assumption | intro _ | exact Sub.trans (by decide) hm | apply kept_oset | apply kept_ended
    | apply kept_journalPending | (unfold KeptP; dsimp only) | apply kept_ite | apply keptP_ite
    | (extract_lets +onlyGivenNames x; revert x; first
        | refine kept_named (m := m) (s0 := s0) ?_ ?_ | refine kept_namedP (m := m) (s0 := s0) ?_ ?_
        | refine kept_value ?_) | apply kept_whenDo | (simp -zeta only [kept_lit]) | apply kept_set_scan
    | (apply kept_eqP (by assumption)) | split

theorem kept_execRegionCommitReq (x1) (x2) (x3) (hm : Sub [.obj, .pins, .mgt, .scan, .jrn] m) (h : Kept m s0 s) : KeptO
    m s0 (execRegionCommitReq x1 x2 x3 s) := by
  unfold execRegionCommitReq
  repeat' with_reducible first
    | assumption | intro _ | exact Sub.trans (by decide) hm | apply kept_ownRegReq | apply kept_writeRow
    | apply kept_State_at | apply keptO_next

theorem kept_ownShowReq (x1) (hm : Sub [.obj, .pins, .mgt, .scan] m) (h : Kept m s0 s) : KeptP m s0 (ownShowReq x1 s) :=
    by
  unfold ownShowReq
  repeat' with_reducible first
    | assumption | intro _ | exact Sub.trans (by decide) hm | apply kept_oset | apply kept_ended
    | (unfold KeptP; dsimp only) | apply kept_ite | apply keptP_ite
    | (extract_lets +onlyGivenNames x; revert x; first
        | refine kept_named (m := m) (s0 := s0) ?_ ?_ | refine kept_namedP (m := m) (s0 := s0) ?_ ?_
        | refine kept_value ?_) | (simp -zeta only [kept_lit]) | apply kept_set_scan | (apply kept_eqP (by assumption))
    | split

theorem kept_execScanShowReq (x1) (x2) (x3) (hm : Sub [.obj, .pins, .mgt, .scan] m) (h : Kept m s0 s) : KeptO m s0
    (execScanShowReq x1 x2 x3 s) := by
  unfold execScanShowReq
  repeat' with_reducible first
    | assumption | intro _ | exact Sub.trans (by decide) hm | apply kept_ownShowReq | apply kept_writeRow
    | apply kept_State_at | apply keptO_next

theorem kept_regionFrame (hm : Sub [.obj, .pins, .evlog, .mgt, .scan, .safe, .jrn] m) (h : Kept m s0 s) : Kept m s0
    (regionFrame s) := by
  unfold regionFrame
  repeat' with_reducible first
    | assumption | intro _ | exact Sub.trans (by decide) hm | apply kept_commitRegions | apply kept_activateRegions
    | apply kept_ended | (simp only [id_eq]; assumption) | apply kept_ite
    | (extract_lets +onlyGivenNames x; revert x; first
        | refine kept_named (m := m) (s0 := s0) ?_ ?_ | refine kept_namedP (m := m) (s0 := s0) ?_ ?_
        | refine kept_value ?_) | (simp -zeta only [kept_lit]) | apply kept_set_scan_jrn
    | (apply kept_eqP (by assumption)) | split

theorem kept_restartRaster (hm : Sub [.obj, .mem, .poison, .pins, .evlog, .mgt, .scan, .safe, .jrn] m) (h : Kept m s0 s)
    : Kept m s0 (restartRaster s) :=
  kept_whenDo (fun _ ha => kept_becameVerm _ (Sub.trans (by decide) hm) ha) {
    pending := h.pending
    now := h.now
    safe := fun hs => ⟨(h.safe hs).1, fromKey_wf _ (h.safe hs).2⟩
    rest := { h.rest with
      mem := fun e => absurd (hm _ (by simp)) e, poison := fun e => absurd (hm _ (by simp)) e
      scan := fun e => absurd (hm _ (by simp)) e } }

theorem kept_setPlate (x1) (x2) (hm : Sub [.scan] m) (h : Kept m s0 s) : Kept m s0 (setPlate x1 x2 s) := by
  unfold setPlate
  repeat' with_reducible first
    | assumption | intro _ | exact Sub.trans (by decide) hm
    | (extract_lets +onlyGivenNames x; revert x; first
        | refine kept_named (m := m) (s0 := s0) ?_ ?_ | refine kept_namedP (m := m) (s0 := s0) ?_ ?_
        | refine kept_value ?_) | (simp -zeta only [kept_lit]) | apply kept_set_scan

theorem kept_showFrame (hm : Sub [.obj, .pins, .evlog, .mgt, .scan, .safe, .jrn] m) (h : Kept m s0 s) : Kept m s0
    (showFrame s) := by
  unfold showFrame
  repeat' with_reducible first
    | assumption | intro _ | exact Sub.trans (by decide) hm | apply kept_cancelShow | apply kept_ended
    | apply kept_becameVerm | apply kept_ite
    | (extract_lets +onlyGivenNames x; revert x; first
        | refine kept_named (m := m) (s0 := s0) ?_ ?_ | refine kept_namedP (m := m) (s0 := s0) ?_ ?_
        | refine kept_value ?_) | (simp -zeta only [kept_lit]) | apply kept_set_scan | (apply kept_eqP (by assumption))
    | split

theorem kept_ledgerStart (hm : Sub [.obj, .wear] m) (h : Kept m s0 s) : Kept m s0 (ledgerStart s) := by
  unfold ledgerStart
  repeat' with_reducible first
    | assumption | intro _ | exact Sub.trans (by decide) hm | apply kept_oset
    | (extract_lets +onlyGivenNames x; revert x; first
        | refine kept_named (m := m) (s0 := s0) ?_ ?_ | refine kept_namedP (m := m) (s0 := s0) ?_ ?_
        | refine kept_value ?_) | (simp -zeta only [kept_lit]) | apply kept_set_wear

theorem kept_restartGap (hm : Sub [.trx] m) (h : Kept m s0 s) : Kept m s0 (restartGap s) := by
  unfold restartGap
  repeat' with_reducible first
    | assumption | intro _ | exact Sub.trans (by decide) hm
    | (extract_lets +onlyGivenNames x; revert x; first
        | refine kept_named (m := m) (s0 := s0) ?_ ?_ | refine kept_namedP (m := m) (s0 := s0) ?_ ?_
        | refine kept_value ?_) | apply kept_each | (simp -zeta only [kept_lit]) | apply kept_set_trx

theorem kept_enterRun (hm : Sub [.obj, .boot, .pins, .pwr, .evlog, .cross, .pxl, .trx, .lake, .mgt, .scan, .dlk, .wear,
    .safe, .pnl, .jrn] m) (h : Kept m s0 s) : Kept m s0 (enterRun s) := by
  unfold enterRun
  repeat' with_reducible first
    | assumption | intro _ | exact Sub.trans (by decide) hm | apply kept_bandReaction | apply kept_setDlk
    | apply kept_raiseToFloor | apply kept_changeOp | apply kept_failure | apply kept_ledgerStart | apply kept_restartGap
    | apply kept_ite
    | (extract_lets +onlyGivenNames x; revert x; first
        | refine kept_named (m := m) (s0 := s0) ?_ ?_ | refine kept_namedP (m := m) (s0 := s0) ?_ ?_
        | refine kept_value ?_) | apply kept_each

theorem kept_railDown (x1) (hm : Sub [.pins, .pnl] m) (h : Kept m s0 s) : Kept m s0 (railDown x1 s) := by
  unfold railDown
  repeat' with_reducible first
    | assumption | intro _ | exact Sub.trans (by decide) hm | apply kept_fallLater | apply kept_fst | apply kept_each

theorem kept_enterSetup (hm : Sub [.obj, .boot, .pins, .pwr, .evlog, .cross, .pxl, .trx, .lake, .fst, .mgt, .scan, .dlk,
    .pnl, .cal, .gyl, .jrn] m) (h : Kept m s0 s) : Kept m s0 (enterSetup s) := by
  unfold enterSetup
  repeat' with_reducible first
    | assumption | intro _ | exact Sub.trans (by decide) hm | apply kept_railDown | apply kept_leaveRun
    | apply kept_setDlk | apply kept_changeOp | apply kept_ite
    | (extract_lets +onlyGivenNames x; revert x; first
        | refine kept_named (m := m) (s0 := s0) ?_ ?_ | refine kept_namedP (m := m) (s0 := s0) ?_ ?_
        | refine kept_value ?_) | apply kept_each

theorem kept_runRefused (hm : Sub [.obj] m) (h : Kept m s0 s) : Kept m s0 (runRefused s) := by
  unfold runRefused
  repeat' with_reducible first
    | assumption | intro _ | exact Sub.trans (by decide) hm | apply kept_oset | apply kept_ite

theorem kept_ownDevState (x1) (hm : Sub [.obj, .boot, .pins, .pwr, .evlog, .cross, .pxl, .trx, .lake, .fst, .mgt, .scan,
    .dlk, .wear, .safe, .pnl, .cal, .gyl, .jrn] m) (h : Kept m s0 s) : KeptP m s0 (ownDevState x1 s) := by
  unfold ownDevState
  repeat' with_reducible first
    | assumption | intro _ | exact Sub.trans (by decide) hm | apply kept_oset | apply kept_runRefused
    | apply kept_enterRun | apply kept_enterSetup | (unfold KeptP; dsimp only) | apply kept_ite | apply keptP_ite
    | (apply kept_eqP (by assumption)) | split

theorem kept_execDevStateRun (x1) (x2) (hm : Sub [.obj, .boot, .pins, .pwr, .evlog, .cross, .pxl, .trx, .lake, .fst,
    .mgt, .scan, .dlk, .wear, .safe, .pnl, .cal, .gyl, .jrn] m) (h : Kept m s0 s) : KeptO m s0 (execDevStateRun x1 x2 s)
    := by
  unfold execDevStateRun
  repeat' with_reducible first
    | assumption | intro _ | exact Sub.trans (by decide) hm | apply kept_writeRow | apply kept_ownDevState
    | apply kept_State_at | apply keptO_next

theorem kept_execDevStateSetup (x1) (x2) (hm : Sub [.obj, .boot, .pins, .pwr, .evlog, .cross, .pxl, .trx, .lake, .fst,
    .mgt, .scan, .dlk, .wear, .safe, .pnl, .cal, .gyl, .jrn] m) (h : Kept m s0 s) : KeptO m s0 (execDevStateSetup x1 x2
    s) := by
  unfold execDevStateSetup
  repeat' with_reducible first
    | assumption | intro _ | exact Sub.trans (by decide) hm | apply kept_writeRow | apply kept_ownDevState
    | apply kept_State_at | apply keptO_next

end Sys2Proof.Machine
end

