-- ==== Sys2Proof/Laws/KeptStores.lean ====
section
/-!
SUPPORT. What is kept (Laws/Kept.lean) by the operations of calibration, the journal store, the frame store, LAKE, the
Gylor cascade, the receipt of packets and the SRAM banks.
-/

set_option linter.unusedTactic false
set_option linter.unreachableTactic false

namespace Sys2Proof.Machine

variable {m : List Part} {s0 s : State}

theorem kept_switchTo (x1) (x2) (hm : Sub [.obj, .lake] m) (h : Kept m s0 s) : Kept m s0 (switchTo x1 x2 s) := by
  unfold switchTo
  repeat' with_reducible first
    | assumption | intro _ | exact Sub.trans (by decide) hm | apply kept_evc | apply kept_cnt | apply kept_setSlot
    | apply kept_ite
    | (extract_lets +onlyGivenNames x; revert x; first
        | refine kept_named (m := m) (s0 := s0) ?_ ?_ | refine kept_namedP (m := m) (s0 := s0) ?_ ?_
        | refine kept_value ?_) | (simp -zeta only [kept_lit]) | apply kept_set_lake | (apply kept_eqP (by assumption))
    | split

theorem kept_stopSlot (x1) (x2) (x3) (hm : Sub [.obj, .lake] m) (h : Kept m s0 s) : Kept m s0 (stopSlot x1 x2 x3 s) := by
  unfold stopSlot
  repeat' with_reducible first
    | assumption | intro _ | exact Sub.trans (by decide) hm | apply kept_switchTo | apply kept_evc | apply kept_setSlot
    | apply kept_ite

theorem kept_boundary (x1) (hm : Sub [.obj, .lake] m) (h : Kept m s0 s) : Kept m s0 (boundary x1 s) := by
  unfold boundary
  repeat' with_reducible first
    | assumption | intro _ | exact Sub.trans (by decide) hm | apply kept_stopSlot | apply kept_ite

theorem kept_faultSlot (x1) (x2) (hm : Sub [.obj, .lake] m) (h : Kept m s0 s) : Kept m s0 (faultSlot x1 x2 s) := by
  unfold faultSlot
  repeat' with_reducible first
    | assumption | intro _ | exact Sub.trans (by decide) hm | apply kept_stopSlot | apply kept_readPoison

theorem kept_putBlock (x1) (x2) (hm : Sub [.mem, .poison] m) (h : Kept m s0 s) : Kept m s0 (putBlock x1 x2 s) := by
  unfold putBlock
  repeat' with_reducible first
    | assumption | intro _ | exact Sub.trans (by decide) hm | apply kept_memRun | apply kept_each

theorem kept_decodedBlock (x1) (x2) (hm : Sub [.mem, .poison, .lake] m) (h : Kept m s0 s) : Kept m s0 (decodedBlock x1
    x2 s) := by
  unfold decodedBlock
  repeat' with_reducible first
    | assumption | intro _ | exact Sub.trans (by decide) hm | apply kept_putBlock | apply kept_setSlot

theorem kept_decodeStep (x1) (hm : Sub [.obj, .mem, .poison, .lake] m) (h : Kept m s0 s) : Kept m s0 (decodeStep x1 s)
    := by
  unfold decodeStep
  repeat' with_reducible first
    | assumption | intro _ | exact Sub.trans (by decide) hm | apply kept_stopSlot | apply kept_faultSlot
    | apply kept_boundary | apply kept_decodedBlock | apply kept_setSlot | apply kept_ite
    | (extract_lets +onlyGivenNames x; revert x; first
        | refine kept_named (m := m) (s0 := s0) ?_ ?_ | refine kept_namedP (m := m) (s0 := s0) ?_ ?_
        | refine kept_value ?_) | (apply kept_eqP (by assumption)) | split

theorem kept_encodeStep (x1) (hm : Sub [.obj, .mem, .poison, .lake] m) (h : Kept m s0 s) : Kept m s0 (encodeStep x1 s)
    := by
  unfold encodeStep
  repeat' with_reducible first
    | assumption | intro _ | exact Sub.trans (by decide) hm | apply kept_stopSlot | apply kept_faultSlot
    | apply kept_boundary | apply kept_memRun | apply kept_setSlot | apply kept_ite
    | (extract_lets +onlyGivenNames x; revert x; first
        | refine kept_named (m := m) (s0 := s0) ?_ ?_ | refine kept_namedP (m := m) (s0 := s0) ?_ ?_
        | refine kept_value ?_) | (apply kept_eqP (by assumption)) | split

theorem kept_execLakeBlockDone (x1) (hm : Sub [.obj, .mem, .poison, .lake] m) (h : Kept m s0 s) : KeptO m s0
    (execLakeBlockDone x1 s) := by
  unfold execLakeBlockDone
  repeat' with_reducible first
    | assumption | intro _ | exact Sub.trans (by decide) hm | apply kept_encodeStep | apply kept_State_at
    | apply kept_decodeStep | apply keptO_next | apply kept_ite | apply keptO_ite
    | (extract_lets +onlyGivenNames x; revert x; first
        | refine kept_named (m := m) (s0 := s0) ?_ ?_ | refine kept_namedP (m := m) (s0 := s0) ?_ ?_
        | refine kept_value ?_) | (simp -zeta only [kept_lit]) | apply kept_set_lake | (apply kept_eqP (by assumption))
    | split

theorem kept_startSlot (x1) (x2) (hm : Sub [.obj, .lake] m) (h : Kept m s0 s) : Kept m s0 (startSlot x1 x2 s) := by
  unfold startSlot
  repeat' with_reducible first
    | assumption | intro _ | exact Sub.trans (by decide) hm | apply kept_boundary | apply kept_setSlot | apply kept_ite
    | (extract_lets +onlyGivenNames x; revert x; first
        | refine kept_named (m := m) (s0 := s0) ?_ ?_ | refine kept_namedP (m := m) (s0 := s0) ?_ ?_
        | refine kept_value ?_) | apply kept_each | (simp -zeta only [kept_lit]) | apply kept_set_lake

theorem kept_ownLakeCmd (x1) (hm : Sub [.obj, .mem, .poison, .lake] m) (h : Kept m s0 s) : KeptP m s0 (ownLakeCmd x1 s)
    := by
  unfold ownLakeCmd
  repeat' with_reducible first
    | assumption | intro _ | exact Sub.trans (by decide) hm | apply kept_stopSlot | apply kept_faultSlot
    | apply kept_startSlot | apply kept_decodedBlock | apply kept_setSlot | (unfold KeptP; dsimp only) | apply kept_ite
    | apply keptP_ite | (apply kept_eqP (by assumption)) | split

theorem kept_execLakeCancel (x1) (x2) (hm : Sub [.obj, .mem, .poison, .pins, .lake, .mgt] m) (h : Kept m s0 s) : KeptO m
    s0 (execLakeCancel x1 x2 s) := by
  unfold execLakeCancel
  repeat' with_reducible first
    | assumption | intro _ | exact Sub.trans (by decide) hm | apply kept_writeRow | apply kept_State_at
    | apply kept_ownLakeCmd | apply keptO_next

theorem kept_loadCtx (x1) (hm : Sub [.lake] m) (h : Kept m s0 s) : KeptP m s0 (loadCtx x1 s) := by
  unfold loadCtx
  repeat' with_reducible first
    | assumption | intro _ | exact Sub.trans (by decide) hm | apply kept_setSlot | (unfold KeptP; dsimp only)
    | apply kept_ite | apply keptP_ite | (apply kept_eqP (by assumption)) | split

theorem kept_execLakeCtxWrite (x1) (x2) (x3) (hm : Sub [.obj, .pins, .lake, .mgt] m) (h : Kept m s0 s) : KeptO m s0
    (execLakeCtxWrite x1 x2 x3 s) := by
  unfold execLakeCtxWrite
  repeat' with_reducible first
    | assumption | intro _ | exact Sub.trans (by decide) hm | apply kept_violation | apply kept_loadCtx
    | apply kept_request | apply kept_State_at | apply keptO_next | apply kept_fst | (unfold KeptP; dsimp only)
    | apply kept_ite | apply keptO_ite
    | (extract_lets +onlyGivenNames x; revert x; first
        | refine kept_named (m := m) (s0 := s0) ?_ ?_ | refine kept_namedP (m := m) (s0 := s0) ?_ ?_
        | refine kept_value ?_) | (apply kept_eqP (by assumption)) | split

theorem kept_execLakeQuantumExpiry (x1) (hm : Sub [.obj, .lake] m) (h : Kept m s0 s) : KeptO m s0 (execLakeQuantumExpiry
    x1 s) := by
  unfold execLakeQuantumExpiry
  repeat' with_reducible first
    | assumption | intro _ | exact Sub.trans (by decide) hm | apply kept_switchTo | apply kept_State_at | apply keptO_next
    | apply kept_ite | apply keptO_ite
    | (extract_lets +onlyGivenNames x; revert x; first
        | refine kept_named (m := m) (s0 := s0) ?_ ?_ | refine kept_namedP (m := m) (s0 := s0) ?_ ?_
        | refine kept_value ?_) | (apply kept_eqP (by assumption)) | split

theorem kept_execLakeRawblk (x1) (x2) (hm : Sub [.obj, .mem, .poison, .pins, .lake, .mgt] m) (h : Kept m s0 s) : KeptO m
    s0 (execLakeRawblk x1 x2 s) := by
  unfold execLakeRawblk
  repeat' with_reducible first
    | assumption | intro _ | exact Sub.trans (by decide) hm | apply kept_writeRow | apply kept_State_at
    | apply kept_ownLakeCmd | apply keptO_next

theorem kept_execLakeResume (x1) (x2) (hm : Sub [.obj, .mem, .poison, .pins, .lake, .mgt] m) (h : Kept m s0 s) : KeptO m
    s0 (execLakeResume x1 x2 s) := by
  unfold execLakeResume
  repeat' with_reducible first
    | assumption | intro _ | exact Sub.trans (by decide) hm | apply kept_writeRow | apply kept_State_at
    | apply kept_ownLakeCmd | apply keptO_next

theorem kept_execLakeStart (x1) (x2) (hm : Sub [.obj, .mem, .poison, .pins, .lake, .mgt] m) (h : Kept m s0 s) : KeptO m
    s0 (execLakeStart x1 x2 s) := by
  unfold execLakeStart
  repeat' with_reducible first
    | assumption | intro _ | exact Sub.trans (by decide) hm | apply kept_writeRow | apply kept_State_at
    | apply kept_ownLakeCmd | apply keptO_next

theorem kept_execLakeSuspend (x1) (x2) (hm : Sub [.obj, .mem, .poison, .pins, .lake, .mgt] m) (h : Kept m s0 s) : KeptO
    m s0 (execLakeSuspend x1 x2 s) := by
  unfold execLakeSuspend
  repeat' with_reducible first
    | assumption | intro _ | exact Sub.trans (by decide) hm | apply kept_writeRow | apply kept_State_at
    | apply kept_ownLakeCmd | apply keptO_next

theorem kept_fwJob (x1) (x2) (x3) (x4) (x5) (x6) (x7) (x8) (hm : Sub [.obj, .lake] m) (h : Kept m s0 s) : KeptP m s0
    (fwJob x1 x2 x3 x4 x5 x6 x7 x8 s) := by
  unfold fwJob
  repeat' with_reducible first
    | assumption | intro _ | exact Sub.trans (by decide) hm | apply kept_readPoison | apply kept_evc | apply kept_cnt
    | apply kept_setSlot | apply kept_fst | (unfold KeptP; dsimp only) | apply kept_ite | apply keptP_ite
    | (extract_lets +onlyGivenNames x; revert x; first
        | refine kept_named (m := m) (s0 := s0) ?_ ?_ | refine kept_namedP (m := m) (s0 := s0) ?_ ?_
        | refine kept_value ?_) | apply kept_iter | apply kept_whenDo

theorem kept_fwMemJob (x1) (x2) (x3) (x4) (x5) (x6) (x7) (x8) (hm : Sub [.obj, .lake] m) (h : Kept m s0 s) : KeptP m s0
    (fwMemJob x1 x2 x3 x4 x5 x6 x7 x8 s) := by
  unfold fwMemJob
  repeat' with_reducible first
    | assumption | intro _ | exact Sub.trans (by decide) hm | apply kept_fwJob

theorem kept_lakeLost (hm : Sub [.obj, .lake] m) (h : Kept m s0 s) : Kept m s0 (lakeLost s) := by
  unfold lakeLost
  repeat' with_reducible first
    | assumption | intro _ | exact Sub.trans (by decide) hm | apply kept_stopSlot | apply kept_each

theorem kept_calComplete (hm : Sub [.obj, .pins, .evlog, .mgt, .cal, .jrn] m) (h : Kept m s0 s) : Kept m s0 (calComplete
    s) := by
  unfold calComplete
  repeat' with_reducible first
    | assumption | intro _ | exact Sub.trans (by decide) hm | apply kept_oset | apply kept_pendEvt | apply kept_logEv
    | apply kept_fst | apply kept_ite
    | (extract_lets +onlyGivenNames x; revert x; first
        | refine kept_named (m := m) (s0 := s0) ?_ ?_ | refine kept_namedP (m := m) (s0 := s0) ?_ ?_
        | refine kept_value ?_) | apply kept_each | (simp -zeta only [kept_lit]) | apply kept_set_cal

theorem kept_calDoCommit (hm : Sub [.obj, .mem, .poison, .lake, .cal, .jrn] m) (h : Kept m s0 s) : Kept m s0
    (calDoCommit s) := by
  unfold calDoCommit
  repeat' with_reducible first
    | assumption | intro _ | exact Sub.trans (by decide) hm | apply kept_memRun | apply kept_fwMemJob | apply kept_fst
    | (extract_lets +onlyGivenNames x; revert x; first
        | refine kept_named (m := m) (s0 := s0) ?_ ?_ | refine kept_namedP (m := m) (s0 := s0) ?_ ?_
        | refine kept_value ?_) | apply kept_each | (simp -zeta only [kept_lit]) | apply kept_set_cal_jrn

theorem kept_calDoResume (hm : Sub [.cal] m) (h : Kept m s0 s) : Kept m s0 (calDoResume s) := by
  unfold calDoResume
  repeat' with_reducible first
    | assumption | intro _ | exact Sub.trans (by decide) hm | apply kept_fst
    | (extract_lets +onlyGivenNames x; revert x; first
        | refine kept_named (m := m) (s0 := s0) ?_ ?_ | refine kept_namedP (m := m) (s0 := s0) ?_ ?_
        | refine kept_value ?_) | apply kept_foldl | apply kept_foldlP | apply keptP_foldl | (simp -zeta only [kept_lit])
    | apply kept_set_cal

theorem kept_jrnMark (x1) (hm : Sub [.obj, .jrn] m) (h : Kept m s0 s) : Kept m s0 (jrnMark x1 s) := by
  unfold jrnMark
  repeat' with_reducible first
    | assumption | intro _ | exact Sub.trans (by decide) hm | apply kept_jrnAdd

theorem kept_calDoStart (hm : Sub [.obj, .pins, .evlog, .mgt, .cal, .jrn] m) (h : Kept m s0 s) : Kept m s0 (calDoStart
    s) := by
  unfold calDoStart
  repeat' with_reducible first
    | assumption | intro _ | exact Sub.trans (by decide) hm | apply kept_oset | apply kept_jrnMark
    | apply kept_calComplete | apply kept_ite
    | (extract_lets +onlyGivenNames x; revert x; first
        | refine kept_named (m := m) (s0 := s0) ?_ ?_ | refine kept_namedP (m := m) (s0 := s0) ?_ ?_
        | refine kept_value ?_) | apply kept_each | apply kept_foldl | apply kept_foldlP | apply keptP_foldl
    | (simp -zeta only [kept_lit]) | apply kept_set_cal

theorem kept_calErase (hm : Sub [.obj, .cal, .jrn] m) (h : Kept m s0 s) : Kept m s0 (calErase s) := by
  unfold calErase
  repeat' with_reducible first
    | assumption | intro _ | exact Sub.trans (by decide) hm | apply kept_jrnMark
    | (extract_lets +onlyGivenNames x; revert x; first
        | refine kept_named (m := m) (s0 := s0) ?_ ?_ | refine kept_namedP (m := m) (s0 := s0) ?_ ?_
        | refine kept_value ?_) | (simp -zeta only [kept_lit]) | apply kept_set_cal

theorem kept_calFrame (hm : Sub [.cal] m) (h : Kept m s0 s) : Kept m s0 (calFrame s) := by
  unfold calFrame
  repeat' with_reducible first
    | assumption | intro _ | exact Sub.trans (by decide) hm | apply kept_setCalBand | apply kept_ite | apply kept_each

theorem kept_calLost (x1) (x2) (hm : Sub [.obj, .cal] m) (h : Kept m s0 s) : Kept m s0 (calLost x1 x2 s) := by
  unfold calLost
  repeat' with_reducible first
    | assumption | intro _ | exact Sub.trans (by decide) hm | apply kept_evc | apply kept_cnt | apply kept_setCalBand
    | apply kept_ite
    | (extract_lets +onlyGivenNames x; revert x; first
        | refine kept_named (m := m) (s0 := s0) ?_ ?_ | refine kept_namedP (m := m) (s0 := s0) ?_ ?_
        | refine kept_value ?_) | apply kept_each

theorem kept_codeSlice (x1) (x2) (x3) (hm : Sub [.obj, .lake] m) (h : Kept m s0 s) : Kept m s0 (codeSlice x1 x2 x3 s) :=
    by
  unfold codeSlice
  repeat' with_reducible first
    | assumption | intro _ | exact Sub.trans (by decide) hm | apply kept_fwJob | apply kept_fst

theorem kept_execAdcScheduled (x1) (x2) (hm : Sub [.cal] m) (h : Kept m s0 s) : KeptO m s0 (execAdcScheduled x1 x2 s) :=
    by
  unfold execAdcScheduled
  repeat' with_reducible first
    | assumption | intro _ | exact Sub.trans (by decide) hm | apply kept_State_at | apply keptO_next | apply kept_ite
    | apply keptO_ite
    | (extract_lets +onlyGivenNames x; revert x; first
        | refine kept_named (m := m) (s0 := s0) ?_ ?_ | refine kept_namedP (m := m) (s0 := s0) ?_ ?_
        | refine kept_value ?_) | (simp -zeta only [kept_lit]) | apply kept_set_cal

theorem kept_ownCalCmd (x1) (hm : Sub [.obj, .mem, .poison, .pins, .evlog, .lake, .mgt, .cal, .jrn] m) (h : Kept m s0 s)
    : KeptP m s0 (ownCalCmd x1 s) := by
  unfold ownCalCmd
  repeat' with_reducible first
    | assumption | intro _ | exact Sub.trans (by decide) hm | apply kept_calDoStart | apply kept_oset
    | apply kept_calErase | apply kept_abandonCal | apply kept_calDoCommit | apply kept_calDoResume
    | (unfold KeptP; dsimp only) | apply kept_ite | apply keptP_ite | (apply kept_eqP (by assumption)) | split

theorem kept_execCalAbort (x1) (x2) (hm : Sub [.obj, .mem, .poison, .pins, .evlog, .lake, .mgt, .cal, .jrn] m) (h : Kept
    m s0 s) : KeptO m s0 (execCalAbort x1 x2 s) := by
  unfold execCalAbort
  repeat' with_reducible first
    | assumption | intro _ | exact Sub.trans (by decide) hm | apply kept_ownCalCmd | apply kept_writeRow
    | apply kept_State_at | apply keptO_next

theorem kept_trigAdc (x1) (hm : Sub [.obj, .cal] m) (h : Kept m s0 s) : Kept m s0 (trigAdc x1 s) := by
  unfold trigAdc
  repeat' with_reducible first
    | assumption | intro _ | exact Sub.trans (by decide) hm | apply kept_setAdc | apply kept_evc | apply kept_cnt
    | apply kept_ite
    | (extract_lets +onlyGivenNames x; revert x; first
        | refine kept_named (m := m) (s0 := s0) ?_ ?_ | refine kept_namedP (m := m) (s0 := s0) ?_ ?_
        | refine kept_value ?_) | (simp -zeta only [kept_lit]) | apply kept_set_cal

theorem kept_ownAdctrig (x1) (hm : Sub [.obj, .cal] m) (h : Kept m s0 s) : KeptP m s0 (ownAdctrig x1 s) := by
  unfold ownAdctrig
  repeat' with_reducible first
    | assumption | intro _ | exact Sub.trans (by decide) hm | apply kept_trigAdc | (unfold KeptP; dsimp only)

theorem kept_execCalAdctrig (x1) (x2) (x3) (hm : Sub [.obj, .pins, .mgt, .cal] m) (h : Kept m s0 s) : KeptO m s0
    (execCalAdctrig x1 x2 x3 s) := by
  unfold execCalAdctrig
  repeat' with_reducible first
    | assumption | intro _ | exact Sub.trans (by decide) hm | apply kept_ownAdctrig | apply kept_writeRow
    | apply kept_State_at | apply keptO_next

theorem kept_execCalCommit (x1) (x2) (hm : Sub [.obj, .mem, .poison, .pins, .evlog, .lake, .mgt, .cal, .jrn] m) (h :
    Kept m s0 s) : KeptO m s0 (execCalCommit x1 x2 s) := by
  unfold execCalCommit
  repeat' with_reducible first
    | assumption | intro _ | exact Sub.trans (by decide) hm | apply kept_ownCalCmd | apply kept_writeRow
    | apply kept_State_at | apply keptO_next

theorem kept_execCalDiscard (x1) (x2) (hm : Sub [.obj, .mem, .poison, .pins, .evlog, .lake, .mgt, .cal, .jrn] m) (h :
    Kept m s0 s) : KeptO m s0 (execCalDiscard x1 x2 s) := by
  unfold execCalDiscard
  repeat' with_reducible first
    | assumption | intro _ | exact Sub.trans (by decide) hm | apply kept_ownCalCmd | apply kept_writeRow
    | apply kept_State_at | apply keptO_next

theorem kept_execCalResume (x1) (x2) (hm : Sub [.obj, .mem, .poison, .pins, .evlog, .lake, .mgt, .cal, .jrn] m) (h :
    Kept m s0 s) : KeptO m s0 (execCalResume x1 x2 s) := by
  unfold execCalResume
  repeat' with_reducible first
    | assumption | intro _ | exact Sub.trans (by decide) hm | apply kept_ownCalCmd | apply kept_writeRow
    | apply kept_State_at | apply keptO_next

theorem kept_execCalStart (x1) (x2) (hm : Sub [.obj, .mem, .poison, .pins, .evlog, .lake, .mgt, .cal, .jrn] m) (h : Kept
    m s0 s) : KeptO m s0 (execCalStart x1 x2 s) := by
  unfold execCalStart
  repeat' with_reducible first
    | assumption | intro _ | exact Sub.trans (by decide) hm | apply kept_ownCalCmd | apply kept_writeRow
    | apply kept_State_at | apply keptO_next

theorem kept_fitSub (x1) (x2) (x3) (x4) (hm : Sub [.free, .obj, .cal] m) (h : Kept m s0 s) : Kept m s0 (fitSub x1 x2 x3
    x4 s) := by
  unfold fitSub
  repeat' with_reducible first
    | assumption | intro _ | exact Sub.trans (by decide) hm | apply kept_cntBy | apply kept_tookFree | apply kept_cnt
    | apply kept_setCalBand | apply kept_fst | apply kept_ite
    | (extract_lets +onlyGivenNames x; revert x; first
        | refine kept_named (m := m) (s0 := s0) ?_ ?_ | refine kept_namedP (m := m) (s0 := s0) ?_ ?_
        | refine kept_value ?_) | apply kept_each | (simp -zeta only [kept_lit]) | apply kept_set_cal

theorem kept_sliceDone (x1) (hm : Sub [.free, .obj, .pins, .evlog, .lake, .mgt, .cal, .jrn] m) (h : Kept m s0 s) : Kept
    m s0 (sliceDone x1 s) := by
  unfold sliceDone
  repeat' with_reducible first
    | assumption | intro _ | exact Sub.trans (by decide) hm | apply kept_codeSlice | apply kept_jrnMark
    | apply kept_abandonCal | apply kept_evc | apply kept_calComplete | apply kept_cnt | apply kept_fitSub
    | apply kept_setCalBand | apply kept_fst | apply kept_ite
    | (extract_lets +onlyGivenNames x; revert x; first
        | refine kept_named (m := m) (s0 := s0) ?_ ?_ | refine kept_namedP (m := m) (s0 := s0) ?_ ?_
        | refine kept_value ?_) | apply kept_each

theorem kept_trySlice (x1) (hm : Sub [.free, .obj, .pins, .evlog, .lake, .mgt, .cal, .jrn] m) (h : Kept m s0 s) : Kept m
    s0 (trySlice x1 s) := by
  unfold trySlice
  repeat' with_reducible first
    | assumption | intro _ | exact Sub.trans (by decide) hm | apply kept_sliceDone | apply kept_fst | apply kept_ite

theorem kept_execCalrepReceived (x1) (x2) (x3) (x4) (hm : Sub [.free, .obj, .pins, .evlog, .lake, .mgt, .cal, .jrn] m)
    (h : Kept m s0 s) : KeptO m s0 (execCalrepReceived x1 x2 x3 x4 s) := by
  unfold execCalrepReceived
  repeat' with_reducible first
    | assumption | intro _ | exact Sub.trans (by decide) hm | apply kept_evc | apply kept_State_at | apply kept_cnt
    | apply kept_trySlice | apply kept_setCalBand | apply keptO_next | apply kept_fst | apply kept_ite | apply keptO_ite
    | (extract_lets +onlyGivenNames x; revert x; first
        | refine kept_named (m := m) (s0 := s0) ?_ ?_ | refine kept_namedP (m := m) (s0 := s0) ?_ ?_
        | refine kept_value ?_) | apply kept_each | apply kept_foldl | apply kept_foldlP | apply keptP_foldl
    | (apply kept_eqP (by assumption)) | split

theorem kept_sm12Input (x1) (x2) (x3) (hm : Sub [.obj, .boot, .pins, .pwr, .evlog, .cross, .pxl, .trx, .lake, .fst,
    .mgt, .scan, .dlk, .safe, .pnl, .cal, .gyl, .jrn] m) (h : Kept m s0 s) : Kept m s0 (sm12Input x1 x2 x3 s) := by
  unfold sm12Input
  repeat' with_reducible first
    | assumption | intro _ | exact Sub.trans (by decide) hm | apply kept_setAdc | apply kept_failure | apply kept_setMech
    | apply kept_deviceReaction | apply kept_ite

theorem kept_judgeRail (x1) (x2) (x3) (hm : Sub [.obj, .boot, .pins, .pwr, .evlog, .cross, .pxl, .trx, .lake, .fst,
    .mgt, .scan, .dlk, .safe, .pnl, .cal, .gyl, .jrn] m) (h : Kept m s0 s) : Kept m s0 (judgeRail x1 x2 x3 s) := by
  unfold judgeRail
  repeat' with_reducible first
    | assumption | intro _ | exact Sub.trans (by decide) hm | apply kept_sm12Input | apply kept_ite

theorem kept_vresRead (x1) (hm : Sub [.obj, .boot, .pins, .pwr, .evlog, .cross, .pxl, .trx, .lake, .fst, .mgt, .scan,
    .dlk, .safe, .pnl, .cal, .gyl, .jrn] m) (h : Kept m s0 s) : Kept m s0 (vresRead x1 s) := by
  unfold vresRead
  repeat' with_reducible first
    | assumption | intro _ | exact Sub.trans (by decide) hm | apply kept_sm12Input | apply kept_oset | apply kept_evc
    | apply kept_logEv | apply kept_ite
    | (extract_lets +onlyGivenNames x; revert x; first
        | refine kept_named (m := m) (s0 := s0) ?_ ?_ | refine kept_namedP (m := m) (s0 := s0) ?_ ?_
        | refine kept_value ?_) | (simp -zeta only [kept_lit]) | apply kept_set_pnl

theorem kept_readConv (x1) (x2) (x3) (hm : Sub [.obj, .boot, .pins, .pwr, .evlog, .cross, .pxl, .trx, .lake, .fst, .mgt,
    .scan, .dlk, .safe, .pnl, .cal, .gyl, .jrn] m) (h : Kept m s0 s) : Kept m s0 (readConv x1 x2 x3 s) := by
  unfold readConv
  repeat' with_reducible first
    | assumption | intro _ | exact Sub.trans (by decide) hm | apply kept_oset | apply kept_judgeRail | apply kept_vresRead
    | apply kept_ite

theorem kept_noteConv (x1) (x2) (x3) (hm : Sub [.obj, .cal] m) (h : Kept m s0 s) : Kept m s0 (noteConv x1 x2 x3 s) := by
  unfold noteConv
  repeat' with_reducible first
    | assumption | intro _ | exact Sub.trans (by decide) hm | apply kept_setAdc | apply kept_evc | apply kept_cnt

theorem kept_nextConv (hm : Sub [.cal] m) (h : Kept m s0 s) : Kept m s0 (nextConv s) := by
  unfold nextConv
  repeat' with_reducible first
    | assumption | intro _ | exact Sub.trans (by decide) hm | apply kept_setAdc
    | (extract_lets +onlyGivenNames x; revert x; first
        | refine kept_named (m := m) (s0 := s0) ?_ ?_ | refine kept_namedP (m := m) (s0 := s0) ?_ ?_
        | refine kept_value ?_) | (simp -zeta only [kept_lit]) | apply kept_set_cal | (apply kept_eqP (by assumption))
    | split

theorem kept_execSupplyConversionDone (x1) (x2) (hm : Sub [.obj, .boot, .pins, .pwr, .evlog, .cross, .pxl, .trx, .lake,
    .fst, .mgt, .scan, .dlk, .safe, .pnl, .cal, .gyl, .jrn] m) (h : Kept m s0 s) : KeptO m s0 (execSupplyConversionDone
    x1 x2 s) := by
  unfold execSupplyConversionDone
  repeat' with_reducible first
    | assumption | intro _ | exact Sub.trans (by decide) hm | apply kept_readConv | apply kept_noteConv
    | apply kept_State_at | apply kept_nextConv | apply keptO_next | apply kept_ite | apply keptO_ite
    | (extract_lets +onlyGivenNames x; revert x; first
        | refine kept_named (m := m) (s0 := s0) ?_ ?_ | refine kept_namedP (m := m) (s0 := s0) ?_ ?_
        | refine kept_value ?_) | (apply kept_eqP (by assumption)) | split

theorem kept_takeGap (x1) (x2) (x3) (x4) (x5) (hm : Sub [.obj, .scan, .cal] m) (h : Kept m s0 s) : Kept m s0 (takeGap x1
    x2 x3 x4 x5 s) := by
  unfold takeGap
  repeat' with_reducible first
    | assumption | intro _ | exact Sub.trans (by decide) hm | apply kept_setBandScan | apply kept_evc
    | apply kept_setCalBand

theorem kept_thermFrame (hm : Sub [.obj, .pins, .evlog, .mgt, .cal, .jrn] m) (h : Kept m s0 s) : Kept m s0 (thermFrame
    s) := by
  unfold thermFrame
  repeat' with_reducible first
    | assumption | intro _ | exact Sub.trans (by decide) hm | apply kept_logEv | apply kept_ite
    | (extract_lets +onlyGivenNames x; revert x; first
        | refine kept_named (m := m) (s0 := s0) ?_ ?_ | refine kept_namedP (m := m) (s0 := s0) ?_ ?_
        | refine kept_value ?_) | (simp -zeta only [kept_lit]) | apply kept_set_cal

theorem kept_ageDead (hm : Sub [.obj, .mem, .poison, .fst] m) (h : Kept m s0 s) : Kept m s0 (ageDead s) := by
  unfold ageDead
  repeat' with_reducible first
    | assumption | intro _ | exact Sub.trans (by decide) hm | apply kept_map16 | apply kept_fst | apply kept_each

theorem kept_codeArea (x1) (x2) (x3) (x4) (hm : Sub [.obj, .lake] m) (h : Kept m s0 s) : KeptP m s0 (codeArea x1 x2 x3
    x4 s) := by
  unfold codeArea
  repeat' with_reducible first
    | assumption | intro _ | exact Sub.trans (by decide) hm | apply kept_fwMemJob | apply kept_fst
    | (unfold KeptP; dsimp only)

theorem kept_jrnFault (x1) (x2) (hm : Sub [.obj, .pins, .evlog, .mgt, .jrn] m) (h : Kept m s0 s) : Kept m s0 (jrnFault
    x1 x2 s) := by
  unfold jrnFault
  repeat' with_reducible first
    | assumption | intro _ | exact Sub.trans (by decide) hm | apply kept_oset | apply kept_logEv

theorem kept_codeDemura (hm : Sub [.obj, .pins, .evlog, .lake, .mgt, .jrn] m) (h : Kept m s0 s) : KeptP m s0 (codeDemura
    s) := by
  unfold codeDemura
  repeat' with_reducible first
    | assumption | intro _ | exact Sub.trans (by decide) hm | apply kept_jrnFault | apply kept_codeArea | apply kept_fst
    | (unfold KeptP; dsimp only) | apply kept_ite | apply keptP_ite
    | (extract_lets +onlyGivenNames x; revert x; first
        | refine kept_named (m := m) (s0 := s0) ?_ ?_ | refine kept_namedP (m := m) (s0 := s0) ?_ ?_
        | refine kept_value ?_) | apply kept_foldl | apply kept_foldlP | apply keptP_foldl
    | (apply kept_eqP (by assumption)) | split

theorem kept_startCompact (hm : Sub [.jrn] m) (h : Kept m s0 s) : Kept m s0 (startCompact s) := by
  unfold startCompact
  repeat' with_reducible first
    | assumption | intro _ | exact Sub.trans (by decide) hm | apply kept_ite
    | (extract_lets +onlyGivenNames x; revert x; first
        | refine kept_named (m := m) (s0 := s0) ?_ ?_ | refine kept_namedP (m := m) (s0 := s0) ?_ ?_
        | refine kept_value ?_) | (simp -zeta only [kept_lit]) | apply kept_set_jrn

theorem kept_writeDose (hm : Sub [.obj, .lake, .wear, .jrn] m) (h : Kept m s0 s) : Kept m s0 (writeDose s) := by
  unfold writeDose
  repeat' with_reducible first
    | assumption | intro _ | exact Sub.trans (by decide) hm | apply kept_jrnAdd | apply kept_fwJob | apply kept_fst
    | (extract_lets +onlyGivenNames x; revert x; first
        | refine kept_named (m := m) (s0 := s0) ?_ ?_ | refine kept_namedP (m := m) (s0 := s0) ?_ ?_
        | refine kept_value ?_) | apply kept_each | (simp -zeta only [kept_lit]) | apply kept_set_wear

theorem kept_codingBack (hm : Sub [.obj, .lake, .wear, .jrn] m) (h : Kept m s0 s) : Kept m s0 (codingBack s) := by
  unfold codingBack
  repeat' with_reducible first
    | assumption | intro _ | exact Sub.trans (by decide) hm | apply kept_startCompact | apply kept_oset
    | apply kept_writeDose | apply kept_ite
    | (extract_lets +onlyGivenNames x; revert x; first
        | refine kept_named (m := m) (s0 := s0) ?_ ?_ | refine kept_namedP (m := m) (s0 := s0) ?_ ?_
        | refine kept_value ?_) | (simp -zeta only [kept_lit]) | apply kept_set_jrn

theorem kept_codingHeld (hm : Sub [.obj, .pins, .evlog, .mgt, .jrn] m) (h : Kept m s0 s) : Kept m s0 (codingHeld s) := by
  unfold codingHeld
  repeat' with_reducible first
    | assumption | intro _ | exact Sub.trans (by decide) hm | apply kept_jrnFault
    | (extract_lets +onlyGivenNames x; revert x; first
        | refine kept_named (m := m) (s0 := s0) ?_ ?_ | refine kept_namedP (m := m) (s0 := s0) ?_ ?_
        | refine kept_value ?_) | (simp -zeta only [kept_lit]) | apply kept_set_jrn

theorem kept_showRing (hm : Sub [.obj] m) (h : Kept m s0 s) : Kept m s0 (showRing s) := by
  unfold showRing
  repeat' with_reducible first
    | assumption | intro _ | exact Sub.trans (by decide) hm | apply kept_oset

theorem kept_compacted (x1) (hm : Sub [.obj, .jrn] m) (h : Kept m s0 s) : Kept m s0 (compacted x1 s) := by
  have ho : Sub [.obj] m := Sub.trans (by decide) hm
  have hj : Sub [.jrn] m := Sub.trans (by decide) hm
  have hi : Kept m s0 (iter (evc 0xD3) (areaSectors s) (evc 0xD1 s)) :=
    kept_iter (fun _ ha => kept_evc _ ho ha) (kept_evc _ ho h)
  rw [compacted]
  generalize iter (evc 0xD3) (areaSectors s) (evc 0xD1 s) = s1 at hi ⊢
  have h2 : ∀ g nv b c u, Kept m s0 (oset Ob.JRN_GEN g { s1 with jrn := { s1.jrn with
      nv := nv, base := b, older := c, used := u, compact := false, commitCal := false } }) :=
    fun _ _ _ _ _ => kept_oset _ _ ho (kept_set_jrn hj hi)
  have h3 : ∀ (c : Prop) [Decidable c] (s2 : State), Kept m s0 s2 →
      Kept m s0 (if c then oset Ob.JRN_FAULT 0 s2 else s2) := fun _ _ _ h2 => kept_ite (kept_oset _ _ ho h2) h2
  have h4 : ∀ (c : Prop) [Decidable c] (s3 : State), Kept m s0 s3 →
      Kept m s0 (if c then { s3 with jrn := { s3.jrn with
        compact := true, again := false, cand := s3.jrn.base, since := 0 } } else s3) :=
    fun _ _ _ h3 => kept_ite (kept_set_jrn hj h3) h3
  exact kept_showRing ho (h4 _ _ (h3 _ _ (h2 _ _ _ _ _)))

theorem kept_commitGeneration (hm : Sub [.obj, .pins, .evlog, .lake, .mgt, .jrn] m) (h : Kept m s0 s) : Kept m s0
    (commitGeneration s) := by
  unfold commitGeneration
  repeat' with_reducible first
    | assumption | intro _ | exact Sub.trans (by decide) hm | apply kept_jrnFault | apply kept_compacted
    | apply kept_codeArea | apply kept_fst | apply kept_ite

theorem kept_countDead (hm : Sub [.obj, .wear] m) (h : Kept m s0 s) : Kept m s0 (countDead s) := by
  unfold countDead
  repeat' with_reducible first
    | assumption | intro _ | exact Sub.trans (by decide) hm | apply kept_oset | apply kept_fst
    | (extract_lets +onlyGivenNames x; revert x; first
        | refine kept_named (m := m) (s0 := s0) ?_ ?_ | refine kept_namedP (m := m) (s0 := s0) ?_ ?_
        | refine kept_value ?_) | apply kept_foldl | apply kept_foldlP | apply keptP_foldl | (simp -zeta only [kept_lit])
    | apply kept_set_wear

theorem kept_flipDemura (x1) (hm : Sub [.obj, .jrn] m) (h : Kept m s0 s) : Kept m s0 (flipDemura x1 s) := by
  unfold flipDemura
  repeat' with_reducible first
    | assumption | intro _ | exact Sub.trans (by decide) hm | apply kept_oset
    | (extract_lets +onlyGivenNames x; revert x; first
        | refine kept_named (m := m) (s0 := s0) ?_ ?_ | refine kept_namedP (m := m) (s0 := s0) ?_ ?_
        | refine kept_value ?_) | apply kept_foldl | apply kept_foldlP | apply keptP_foldl | (simp -zeta only [kept_lit])
    | apply kept_set_jrn

theorem kept_execCalCommitDone (x1) (hm : Sub [.obj, .pins, .evlog, .lake, .mgt, .cal, .jrn] m) (h : Kept m s0 s) :
    KeptO m s0 (execCalCommitDone x1 s) := by
  unfold execCalCommitDone
  repeat' with_reducible first
    | assumption | intro _ | exact Sub.trans (by decide) hm | apply kept_oset | apply kept_flipDemura
    | apply kept_calErase | apply kept_State_at | apply kept_cnt | apply kept_commitGeneration | apply kept_jrnStatus
    | apply keptO_next | apply kept_ite

theorem kept_execCompactionDone (x1) (x2) (hm : Sub [.obj, .pins, .evlog, .lake, .mgt, .jrn] m) (h : Kept m s0 s) :
    KeptO m s0 (execCompactionDone x1 x2 s) := by
  unfold execCompactionDone
  repeat' with_reducible first
    | assumption | intro _ | exact Sub.trans (by decide) hm | apply kept_flipDemura | apply kept_codeDemura
    | apply kept_jrnFault | apply kept_evc | apply kept_State_at | apply kept_commitGeneration | apply keptO_next
    | apply kept_ite | apply keptO_ite
    | (extract_lets +onlyGivenNames x; revert x; first
        | refine kept_named (m := m) (s0 := s0) ?_ ?_ | refine kept_namedP (m := m) (s0 := s0) ?_ ?_
        | refine kept_value ?_) | (simp -zeta only [kept_lit]) | apply kept_set_jrn | (apply kept_eqP (by assumption))
    | split

theorem kept_execDoseHourlyTimer (x1) (hm : Sub [.obj, .lake, .wear, .jrn] m) (h : Kept m s0 s) : KeptO m s0
    (execDoseHourlyTimer x1 s) := by
  unfold execDoseHourlyTimer
  repeat' with_reducible first
    | assumption | intro _ | exact Sub.trans (by decide) hm | apply kept_State_at | apply kept_writeDose
    | apply keptO_next | exact keptO_fault | apply kept_ite | apply keptO_ite
    | (extract_lets +onlyGivenNames x; revert x; first
        | refine kept_named (m := m) (s0 := s0) ?_ ?_ | refine kept_namedP (m := m) (s0 := s0) ?_ ?_
        | refine kept_value ?_) | (simp -zeta only [kept_lit]) | apply kept_set_jrn

theorem kept_ownEvcClear (x1) (hm : Sub [.obj] m) (h : Kept m s0 s) : KeptP m s0 (ownEvcClear x1 s) := by
  unfold ownEvcClear
  repeat' with_reducible first
    | assumption | intro _ | exact Sub.trans (by decide) hm | apply kept_oset | (unfold KeptP; dsimp only)
    | apply kept_each

theorem kept_execEvcClear (x1) (x2) (x3) (hm : Sub [.obj, .pins, .mgt] m) (h : Kept m s0 s) : KeptO m s0 (execEvcClear
    x1 x2 x3 s) := by
  unfold execEvcClear
  repeat' with_reducible first
    | assumption | intro _ | exact Sub.trans (by decide) hm | apply kept_writeRow | apply kept_State_at
    | apply kept_ownEvcClear | apply keptO_next

theorem kept_ownEvcSel (x1) (x2) (hm : Sub [.obj] m) (h : Kept m s0 s) : KeptP m s0 (ownEvcSel x1 x2 s) := by
  unfold ownEvcSel
  repeat' with_reducible first
    | assumption | intro _ | exact Sub.trans (by decide) hm | apply kept_oset | (unfold KeptP; dsimp only)

theorem kept_execEvcSelWrite (x1) (x2) (x3) (x4) (hm : Sub [.obj, .pins, .mgt] m) (h : Kept m s0 s) : KeptO m s0
    (execEvcSelWrite x1 x2 x3 x4 s) := by
  unfold execEvcSelWrite
  repeat' with_reducible first
    | assumption | intro _ | exact Sub.trans (by decide) hm | apply kept_ownEvcSel | apply kept_writeRow
    | apply kept_State_at | apply keptO_next

theorem kept_programHead (x1) (x2) (hm : Sub [.obj, .jrn] m) (h : Kept m s0 s) : Kept m s0 (programHead x1 x2 s) := by
  unfold programHead
  repeat' with_reducible first
    | assumption | intro _ | exact Sub.trans (by decide) hm | apply kept_startCompact | apply kept_showRing
    | apply kept_evc | apply kept_ite
    | (extract_lets +onlyGivenNames x; revert x; first
        | refine kept_named (m := m) (s0 := s0) ?_ ?_ | refine kept_namedP (m := m) (s0 := s0) ?_ ?_
        | refine kept_value ?_) | apply kept_iter | (simp -zeta only [kept_lit]) | apply kept_set_jrn

theorem kept_execJournalRecordWrite (x1) (x2) (hm : Sub [.obj, .pins, .evlog, .mgt, .cal, .jrn] m) (h : Kept m s0 s) :
    KeptO m s0 (execJournalRecordWrite x1 x2 s) := by
  unfold execJournalRecordWrite
  repeat' with_reducible first
    | assumption | intro _ | exact Sub.trans (by decide) hm | apply kept_startCompact | apply kept_abandonCal
    | apply kept_jrnFault | apply kept_evc | apply kept_State_at | apply kept_programHead | apply keptO_next
    | apply kept_ite | apply keptO_ite
    | (extract_lets +onlyGivenNames x; revert x; first
        | refine kept_named (m := m) (s0 := s0) ?_ ?_ | refine kept_namedP (m := m) (s0 := s0) ?_ ?_
        | refine kept_value ?_) | (simp -zeta only [kept_lit]) | apply kept_set_jrn | (apply kept_eqP (by assumption))
    | split

theorem kept_restoreBuilt (hm : Sub [.obj, .mem, .poison, .fst, .wear] m) (h : Kept m s0 s) : Kept m s0 (restoreBuilt s)
    := by
  unfold restoreBuilt
  repeat' with_reducible first
    | assumption | intro _ | exact Sub.trans (by decide) hm | apply kept_countDead
    | (refine kept_loadMap _ (by omega) ?_ ?_) | apply kept_ageDead | apply kept_memRun | apply kept_fst
    | (extract_lets +onlyGivenNames x; revert x; first
        | refine kept_named (m := m) (s0 := s0) ?_ ?_ | refine kept_namedP (m := m) (s0 := s0) ?_ ?_
        | refine kept_value ?_) | apply kept_each | (apply kept_eqP (by assumption)) | split

theorem kept_formatDevice (hm : Sub [.obj, .mgt, .jrn] m) (h : Kept m s0 s) : Kept m s0 (formatDevice s) := by
  unfold formatDevice
  repeat' with_reducible first
    | assumption | intro _ | exact Sub.trans (by decide) hm | apply kept_oset | apply kept_showRing | apply kept_ite
    | (extract_lets +onlyGivenNames x; revert x; first
        | refine kept_named (m := m) (s0 := s0) ?_ ?_ | refine kept_namedP (m := m) (s0 := s0) ?_ ?_
        | refine kept_value ?_) | (simp -zeta only [kept_lit]) | apply kept_set_jrn | apply kept_set_mgt
    | apply kept_set_mgt_jrn

theorem kept_lockFactory (hm : Sub [.obj, .jrn] m) (h : Kept m s0 s) : Kept m s0 (lockFactory s) := by
  unfold lockFactory
  repeat' with_reducible first
    | assumption | intro _ | exact Sub.trans (by decide) hm | apply kept_oset
    | (extract_lets +onlyGivenNames x; revert x; first
        | refine kept_named (m := m) (s0 := s0) ?_ ?_ | refine kept_namedP (m := m) (s0 := s0) ?_ ?_
        | refine kept_value ?_) | (simp -zeta only [kept_lit]) | apply kept_set_jrn

theorem kept_ownJrnCmd (x1) (hm : Sub [.obj, .mem, .poison, .fst, .mgt, .wear, .jrn] m) (h : Kept m s0 s) : KeptP m s0
    (ownJrnCmd x1 s) := by
  unfold ownJrnCmd
  repeat' with_reducible first
    | assumption | intro _ | exact Sub.trans (by decide) hm | apply kept_startCompact | apply kept_restoreBuilt
    | apply kept_formatDevice | apply kept_lockFactory | (unfold KeptP; dsimp only) | apply kept_ite | apply keptP_ite
    | (extract_lets +onlyGivenNames x; revert x; first
        | refine kept_named (m := m) (s0 := s0) ?_ ?_ | refine kept_namedP (m := m) (s0 := s0) ?_ ?_
        | refine kept_value ?_) | (simp -zeta only [kept_lit]) | apply kept_set_jrn | (apply kept_eqP (by assumption))
    | split

theorem kept_execJrnCmdAsbuilt (x1) (x2) (hm : Sub [.obj, .mem, .poison, .pins, .fst, .mgt, .wear, .jrn] m) (h : Kept m
    s0 s) : KeptO m s0 (execJrnCmdAsbuilt x1 x2 s) := by
  unfold execJrnCmdAsbuilt
  repeat' with_reducible first
    | assumption | intro _ | exact Sub.trans (by decide) hm | apply kept_ownJrnCmd | apply kept_writeRow
    | apply kept_State_at | apply keptO_next

theorem kept_execJrnCmdCompact (x1) (x2) (hm : Sub [.obj, .mem, .poison, .pins, .fst, .mgt, .wear, .jrn] m) (h : Kept m
    s0 s) : KeptO m s0 (execJrnCmdCompact x1 x2 s) := by
  unfold execJrnCmdCompact
  repeat' with_reducible first
    | assumption | intro _ | exact Sub.trans (by decide) hm | apply kept_ownJrnCmd | apply kept_writeRow
    | apply kept_State_at | apply keptO_next

theorem kept_execJrnCmdFormat (x1) (x2) (hm : Sub [.obj, .mem, .poison, .pins, .fst, .mgt, .wear, .jrn] m) (h : Kept m
    s0 s) : KeptO m s0 (execJrnCmdFormat x1 x2 s) := by
  unfold execJrnCmdFormat
  repeat' with_reducible first
    | assumption | intro _ | exact Sub.trans (by decide) hm | apply kept_ownJrnCmd | apply kept_writeRow
    | apply kept_State_at | apply keptO_next

theorem kept_execJrnCmdLock (x1) (x2) (hm : Sub [.obj, .mem, .poison, .pins, .fst, .mgt, .wear, .jrn] m) (h : Kept m s0
    s) : KeptO m s0 (execJrnCmdLock x1 x2 s) := by
  unfold execJrnCmdLock
  repeat' with_reducible first
    | assumption | intro _ | exact Sub.trans (by decide) hm | apply kept_ownJrnCmd | apply kept_writeRow
    | apply kept_State_at | apply keptO_next

theorem kept_pieceJob (x1) (x2) (x3) (x4) (hm : Sub [.obj, .lake] m) (h : Kept m s0 s) : KeptP m s0 (pieceJob x1 x2 x3
    x4 s) := by
  unfold pieceJob
  repeat' with_reducible first
    | assumption | intro _ | exact Sub.trans (by decide) hm | apply kept_fwMemJob

theorem kept_writePiece (hm : Sub [.obj, .pins, .evlog, .lake, .mgt, .jrn] m) (h : Kept m s0 s) : Kept m s0 (writePiece
    s) := by
  unfold writePiece
  repeat' with_reducible first
    | assumption | intro _ | exact Sub.trans (by decide) hm | apply kept_oset | apply kept_jrnAdd | apply kept_jrnFault
    | apply kept_pieceJob | apply kept_fst | (unfold KeptP; dsimp only) | apply kept_ite
    | (extract_lets +onlyGivenNames x; revert x; first
        | refine kept_named (m := m) (s0 := s0) ?_ ?_ | refine kept_namedP (m := m) (s0 := s0) ?_ ?_
        | refine kept_value ?_) | (simp -zeta only [kept_lit]) | apply kept_set_jrn | (apply kept_eqP (by assumption))
    | split

theorem kept_execLedgerPieceTimer (x1) (hm : Sub [.obj, .pins, .evlog, .lake, .mgt, .jrn] m) (h : Kept m s0 s) : KeptO m
    s0 (execLedgerPieceTimer x1 s) := by
  unfold execLedgerPieceTimer
  repeat' with_reducible first
    | assumption | intro _ | exact Sub.trans (by decide) hm | apply kept_writePiece | apply kept_State_at
    | apply keptO_next | apply kept_ite

theorem kept_restoreDemura (x1) (hm : Sub [.obj, .mem, .poison, .pins, .evlog, .lake, .mgt, .jrn] m) (h : Kept m s0 s) :
    Kept m s0 (restoreDemura x1 s) := by
  unfold restoreDemura
  repeat' with_reducible first
    | assumption | intro _ | exact Sub.trans (by decide) hm | (refine kept_loadMap _ (by omega) ?_ ?_)
    | apply kept_jrnFault | apply kept_fwMemJob | apply kept_fst | apply kept_ite
    | (extract_lets +onlyGivenNames x; revert x; first
        | refine kept_named (m := m) (s0 := s0) ?_ ?_ | refine kept_namedP (m := m) (s0 := s0) ?_ ?_
        | refine kept_value ?_) | apply kept_each

theorem kept_restoreDefect (hm : Sub [.obj, .mem, .poison, .lake, .wear] m) (h : Kept m s0 s) : Kept m s0 (restoreDefect
    s) := by
  unfold restoreDefect
  repeat' with_reducible first
    | assumption | intro _ | exact Sub.trans (by decide) hm | apply kept_countDead
    | (refine kept_loadMap _ (by omega) ?_ ?_) | apply kept_fwMemJob | apply kept_fst
    | (extract_lets +onlyGivenNames x; revert x; first
        | refine kept_named (m := m) (s0 := s0) ?_ ?_ | refine kept_namedP (m := m) (s0 := s0) ?_ ?_
        | refine kept_value ?_) | apply kept_each | apply kept_whenDo

theorem kept_putPiece (x1) (x2) (x3) (hm : Sub [.mem, .poison] m) (h : Kept m s0 s) : Kept m s0 (putPiece x1 x2 x3 s) :=
    by
  unfold putPiece
  repeat' with_reducible first
    | assumption | intro _ | exact Sub.trans (by decide) hm | apply kept_memRun | apply kept_each

theorem kept_restorePiece (x1) (x2) (hm : Sub [.obj, .mem, .poison, .pins, .evlog, .lake, .mgt, .jrn] m) (h : Kept m s0
    s) : Kept m s0 (restorePiece x1 x2 s) := by
  unfold restorePiece
  repeat' with_reducible first
    | assumption | intro _ | exact Sub.trans (by decide) hm | apply kept_jrnFault | apply kept_putPiece
    | apply kept_pieceJob | apply kept_mem16 | apply kept_fst | apply kept_ite
    | (extract_lets +onlyGivenNames x; revert x; first
        | refine kept_named (m := m) (s0 := s0) ?_ ?_ | refine kept_namedP (m := m) (s0 := s0) ?_ ?_
        | refine kept_value ?_) | apply kept_each

theorem kept_restoreLedger (x1) (hm : Sub [.obj, .mem, .poison, .pins, .evlog, .lake, .fst, .mgt, .jrn] m) (h : Kept m
    s0 s) : Kept m s0 (restoreLedger x1 s) := by
  unfold restoreLedger
  repeat' with_reducible first
    | assumption | intro _ | exact Sub.trans (by decide) hm | apply kept_restorePiece | apply kept_ageDead
    | apply kept_ite | apply kept_each

theorem kept_restoreFailed (x1) (x2) (hm : Sub [.obj, .mem, .poison, .pins, .evlog, .lake, .fst, .mgt, .wear, .jrn] m)
    (h : Kept m s0 s) : Kept m s0 (restoreFailed x1 x2 s) := by
  unfold restoreFailed
  repeat' with_reducible first
    | assumption | intro _ | exact Sub.trans (by decide) hm | apply kept_restoreDemura | apply kept_restoreDefect
    | apply kept_restoreLedger | apply kept_ite

theorem kept_execMapRestoreDone (x1) (x2) (x3) (hm : Sub [.obj, .mem, .poison, .pins, .evlog, .lake, .fst, .mgt, .wear,
    .jrn] m) (h : Kept m s0 s) : KeptO m s0 (execMapRestoreDone x1 x2 x3 s) := by
  unfold execMapRestoreDone
  repeat' with_reducible first
    | assumption | intro _ | exact Sub.trans (by decide) hm | apply kept_restoreFailed | apply kept_State_at
    | apply kept_restoreDemura | apply kept_restoreLedger | apply keptO_next | apply kept_ite | apply keptO_ite
    | (extract_lets +onlyGivenNames x; revert x; first
        | refine kept_named (m := m) (s0 := s0) ?_ ?_ | refine kept_namedP (m := m) (s0 := s0) ?_ ?_
        | refine kept_value ?_) | (simp -zeta only [kept_lit]) | apply kept_set_jrn

theorem kept_execRingHoldDrop (x1) (hm : Sub [.obj, .pins, .evlog, .mgt, .jrn] m) (h : Kept m s0 s) : KeptO m s0
    (execRingHoldDrop x1 s) := by
  unfold execRingHoldDrop
  repeat' with_reducible first
    | assumption | intro _ | exact Sub.trans (by decide) hm | apply kept_jrnFault | apply kept_State_at | apply kept_cnt
    | apply keptO_next | apply kept_ite | apply keptO_ite
    | (extract_lets +onlyGivenNames x; revert x; first
        | refine kept_named (m := m) (s0 := s0) ?_ ?_ | refine kept_namedP (m := m) (s0 := s0) ?_ ?_
        | refine kept_value ?_) | (simp -zeta only [kept_lit]) | apply kept_set_jrn | (apply kept_eqP (by assumption))
    | split

theorem kept_ownSnapCmd (x1) (hm : Sub [.obj] m) (h : Kept m s0 s) : KeptP m s0 (ownSnapCmd x1 s) := by
  unfold ownSnapCmd
  repeat' with_reducible first
    | assumption | intro _ | exact Sub.trans (by decide) hm | apply kept_oset | (unfold KeptP; dsimp only)
    | apply kept_ite

theorem kept_execTlmSnapcmd (x1) (x2) (x3) (hm : Sub [.obj, .pins, .mgt] m) (h : Kept m s0 s) : KeptO m s0
    (execTlmSnapcmd x1 x2 x3 s) := by
  unfold execTlmSnapcmd
  repeat' with_reducible first
    | assumption | intro _ | exact Sub.trans (by decide) hm | apply kept_ownSnapCmd | apply kept_writeRow
    | apply kept_State_at | apply keptO_next

theorem kept_refreshTlm (x1) (hm : Sub [.free, .obj] m) (h : Kept m s0 s) : Kept m s0 (refreshTlm x1 s) := by
  unfold refreshTlm
  repeat' with_reducible first
    | assumption | intro _ | exact Sub.trans (by decide) hm | apply kept_oset | apply kept_tookFree
    | (extract_lets +onlyGivenNames x; revert x; first
        | refine kept_named (m := m) (s0 := s0) ?_ ?_ | refine kept_namedP (m := m) (s0 := s0) ?_ ?_
        | refine kept_value ?_) | (simp only [Function.comp_apply])

theorem kept_takeSnap (x1) (hm : Sub [.obj] m) (h : Kept m s0 s) : Kept m s0 (takeSnap x1 s) := by
  unfold takeSnap
  repeat' with_reducible first
    | assumption | intro _ | exact Sub.trans (by decide) hm | apply kept_oset | apply kept_evc | apply kept_cnt
    | (extract_lets +onlyGivenNames x; revert x; first
        | refine kept_named (m := m) (s0 := s0) ?_ ?_ | refine kept_namedP (m := m) (s0 := s0) ?_ ?_
        | refine kept_value ?_) | apply kept_each

theorem kept_snapFrame (x1) (hm : Sub [.obj, .gyl] m) (h : Kept m s0 s) : Kept m s0 (snapFrame x1 s) := by
  unfold snapFrame
  repeat' with_reducible first
    | assumption | intro _ | exact Sub.trans (by decide) hm | apply kept_oset | apply kept_takeSnap | apply kept_ite
    | (extract_lets +onlyGivenNames x; revert x; first
        | refine kept_named (m := m) (s0 := s0) ?_ ?_ | refine kept_namedP (m := m) (s0 := s0) ?_ ?_
        | refine kept_value ?_) | (simp -zeta only [kept_lit]) | apply kept_set_gyl

theorem kept_rowRelocate (x1) (hm : Sub [.obj, .boot, .pins, .pwr, .evlog, .cross, .pxl, .trx, .lake, .fst, .mgt, .scan,
    .dlk, .safe, .pnl, .cal, .gyl, .jrn] m) (h : Kept m s0 s) : Kept m s0 (rowRelocate x1 s) := by
  unfold rowRelocate
  repeat' with_reducible first
    | assumption | intro _ | exact Sub.trans (by decide) hm | apply kept_oset | apply kept_jrnAdd | apply kept_evc
    | apply kept_failure | apply kept_logEv | apply kept_deviceReaction | apply kept_ite
    | (extract_lets +onlyGivenNames x; revert x; first
        | refine kept_named (m := m) (s0 := s0) ?_ ?_ | refine kept_namedP (m := m) (s0 := s0) ?_ ?_
        | refine kept_value ?_) | (simp -zeta only [kept_lit]) | apply kept_set_fst

theorem kept_failedShow (hm : Sub [.obj, .pins, .mgt, .scan] m) (h : Kept m s0 s) : Kept m s0 (failedShow s) := by
  unfold failedShow
  repeat' with_reducible first
    | assumption | intro _ | exact Sub.trans (by decide) hm | apply kept_cancelShow | apply kept_ite
    | (apply kept_eqP (by assumption)) | split

theorem kept_darkUnusable (x1) (hm : Sub [.obj, .pins, .evlog, .trx, .lake, .mgt, .scan, .safe, .jrn] m) (h : Kept m s0
    s) : Kept m s0 (darkUnusable x1 s) := by
  unfold darkUnusable
  repeat' with_reducible first
    | assumption | intro _ | exact Sub.trans (by decide) hm | apply kept_oset | apply kept_bandsReaction
    | (extract_lets +onlyGivenNames x; revert x; first
        | refine kept_named (m := m) (s0 := s0) ?_ ?_ | refine kept_namedP (m := m) (s0 := s0) ?_ ?_
        | refine kept_value ?_) | (simp -zeta only [kept_lit]) | apply kept_set_safe

theorem kept_showUnusable (x1) (x2) (hm : Sub [.obj] m) (h : Kept m s0 s) : Kept m s0 (showUnusable x1 x2 s) := by
  unfold showUnusable
  repeat' with_reducible first
    | assumption | intro _ | exact Sub.trans (by decide) hm | apply kept_oset | apply kept_ite

theorem kept_retireRow (x1) (hm : Sub [.obj, .fst, .scan] m) (h : Kept m s0 s) : Kept m s0 (retireRow x1 s) := by
  unfold retireRow
  repeat' with_reducible first
    | assumption | intro _ | exact Sub.trans (by decide) hm | apply kept_setPlate | apply kept_showUnusable
    | apply kept_ite
    | (extract_lets +onlyGivenNames x; revert x; first
        | refine kept_named (m := m) (s0 := s0) ?_ ?_ | refine kept_namedP (m := m) (s0 := s0) ?_ ?_
        | refine kept_value ?_) | (simp -zeta only [kept_lit]) | apply kept_set_fst

theorem kept_rowUnusable (x1) (hm : Sub [.obj, .pins, .evlog, .trx, .lake, .fst, .mgt, .scan, .safe, .jrn] m) (h : Kept
    m s0 s) : Kept m s0 (rowUnusable x1 s) := by
  unfold rowUnusable
  repeat' with_reducible first
    | assumption | intro _ | exact Sub.trans (by decide) hm | apply kept_failedShow | apply kept_darkUnusable
    | apply kept_jrnAdd | apply kept_evc | apply kept_logEv | apply kept_retireRow | apply kept_ite

theorem kept_rowByRegion (x1) (hm : Sub [.obj, .boot, .pins, .pwr, .evlog, .cross, .pxl, .trx, .lake, .fst, .mgt, .scan,
    .dlk, .safe, .pnl, .cal, .gyl, .jrn] m) (h : Kept m s0 s) : Kept m s0 (rowByRegion x1 s) := by
  unfold rowByRegion
  repeat' with_reducible first
    | assumption | intro _ | exact Sub.trans (by decide) hm | apply kept_rowRelocate | apply kept_rowUnusable
    | apply kept_ite
    | (extract_lets +onlyGivenNames x; revert x; first
        | refine kept_named (m := m) (s0 := s0) ?_ ?_ | refine kept_namedP (m := m) (s0 := s0) ?_ ?_
        | refine kept_value ?_) | (apply kept_eqP (by assumption)) | split

theorem kept_failRow (x1) (hm : Sub [.obj, .boot, .pins, .pwr, .evlog, .cross, .pxl, .trx, .lake, .fst, .mgt, .scan,
    .dlk, .safe, .pnl, .cal, .gyl, .jrn] m) (h : Kept m s0 s) : Kept m s0 (failRow x1 s) := by
  unfold failRow
  repeat' with_reducible first
    | assumption | intro _ | exact Sub.trans (by decide) hm | apply kept_rowByRegion | apply kept_ite
    | (extract_lets +onlyGivenNames x; revert x; first
        | refine kept_named (m := m) (s0 := s0) ?_ ?_ | refine kept_namedP (m := m) (s0 := s0) ?_ ?_
        | refine kept_value ?_) | (simp -zeta only [kept_lit]) | apply kept_set_fst

theorem kept_correctable (x1) (hm : Sub [.obj, .boot, .pins, .pwr, .evlog, .cross, .pxl, .trx, .lake, .fst, .mgt, .scan,
    .dlk, .safe, .pnl, .cal, .gyl, .jrn] m) (h : Kept m s0 s) : Kept m s0 (correctable x1 s) := by
  unfold correctable
  repeat' with_reducible first
    | assumption | intro _ | exact Sub.trans (by decide) hm | apply kept_failRow | apply kept_evc | apply kept_cnt
    | apply kept_ite
    | (extract_lets +onlyGivenNames x; revert x; first
        | refine kept_named (m := m) (s0 := s0) ?_ ?_ | refine kept_namedP (m := m) (s0 := s0) ?_ ?_
        | refine kept_value ?_) | (simp -zeta only [kept_lit]) | apply kept_set_fst

theorem kept_dieLost (x1) (hm : Sub [.obj, .boot, .pins, .pwr, .evlog, .cross, .pxl, .trx, .lake, .fst, .mgt, .scan,
    .dlk, .safe, .pnl, .cal, .gyl, .jrn] m) (h : Kept m s0 s) : Kept m s0 (dieLost x1 s) := by
  unfold dieLost
  repeat' with_reducible first
    | assumption | intro _ | exact Sub.trans (by decide) hm | apply kept_oset | apply kept_failure
    | apply kept_deviceReaction

theorem kept_execDramRefresh (x1) (x2) (x3) (x4) (hm : Sub [.obj, .boot, .pins, .pwr, .evlog, .cross, .pxl, .trx, .lake,
    .fst, .mgt, .scan, .dlk, .safe, .pnl, .cal, .gyl, .jrn] m) (h : Kept m s0 s) : KeptO m s0 (execDramRefresh x1 x2 x3
    x4 s) := by
  unfold execDramRefresh
  repeat' with_reducible first
    | assumption | intro _ | exact Sub.trans (by decide) hm | apply kept_dieLost | apply kept_State_at | apply keptO_next
    | apply kept_ite | apply keptO_ite
    | (extract_lets +onlyGivenNames x; revert x; first
        | refine kept_named (m := m) (s0 := s0) ?_ ?_ | refine kept_namedP (m := m) (s0 := s0) ?_ ?_
        | refine kept_value ?_) | (simp -zeta only [kept_lit]) | apply kept_set_fst

theorem kept_execDramTempRead (x1) (x2) (x3) (hm : Sub [.obj, .boot, .pins, .pwr, .evlog, .cross, .pxl, .trx, .lake,
    .fst, .mgt, .scan, .dlk, .safe, .pnl, .cal, .gyl, .jrn] m) (h : Kept m s0 s) : KeptO m s0 (execDramTempRead x1 x2 x3
    s) := by
  unfold execDramTempRead
  repeat' with_reducible first
    | assumption | intro _ | exact Sub.trans (by decide) hm | apply kept_sm12Input | apply kept_oset | apply kept_dieLost
    | apply kept_evc | apply kept_State_at | apply kept_cnt | apply keptO_next | apply kept_ite | apply keptO_ite
    | (extract_lets +onlyGivenNames x; revert x; first
        | refine kept_named (m := m) (s0 := s0) ?_ ?_ | refine kept_namedP (m := m) (s0 := s0) ?_ ?_
        | refine kept_value ?_) | (apply kept_eqP (by assumption)) | split

theorem kept_execMapWordRewrite (x1) (x2) (x3) (hm : Sub [.obj, .mem, .poison, .fst] m) (h : Kept m s0 s) : KeptO m s0
    (execMapWordRewrite x1 x2 x3 s) := by
  unfold execMapWordRewrite
  repeat' with_reducible first
    | assumption | intro _ | exact Sub.trans (by decide) hm | apply kept_State_at | apply kept_mapStore | apply keptO_next
    | exact keptO_fault | apply kept_ite | apply keptO_ite

theorem kept_execRowCopyDone (x1) (hm : Sub [.obj, .fst, .jrn] m) (h : Kept m s0 s) : KeptO m s0 (execRowCopyDone x1 s)
    := by
  unfold execRowCopyDone
  repeat' with_reducible first
    | assumption | intro _ | exact Sub.trans (by decide) hm | apply kept_oset | apply kept_jrnAdd | apply kept_evc
    | apply kept_State_at | apply keptO_next | apply kept_fst
    | (extract_lets +onlyGivenNames x; revert x; first
        | refine kept_named (m := m) (s0 := s0) ?_ ?_ | refine kept_namedP (m := m) (s0 := s0) ?_ ?_
        | refine kept_value ?_) | (simp -zeta only [kept_lit]) | apply kept_set_fst | (apply kept_eqP (by assumption))
    | split

theorem kept_unvouch (x1) (x2) (x3) (hm : Sub [.scan] m) (h : Kept m s0 s) : Kept m s0 (unvouch x1 x2 x3 s) := by
  unfold unvouch
  repeat' with_reducible first
    | assumption | intro _ | exact Sub.trans (by decide) hm | apply kept_setPos

theorem kept_lostSignature (hm : Sub [.free, .obj, .pins, .evlog, .trx, .lake, .mgt, .scan, .safe, .jrn] m) (h : Kept m
    s0 s) : Kept m s0 (lostSignature s) := by
  unfold lostSignature
  repeat' with_reducible first
    | assumption | intro _ | exact Sub.trans (by decide) hm | apply kept_tookFree | apply kept_evc | apply kept_failure
    | apply kept_cnt | apply kept_readReact | apply kept_ite

theorem kept_poisonReaction (x1) (hm : Sub [.free, .obj, .mem, .poison, .boot, .pins, .pwr, .evlog, .cross, .pxl, .trx,
    .lake, .fst, .mgt, .scan, .dlk, .safe, .pnl, .cal, .gyl, .jrn] m) (h : Kept m s0 s) : Kept m s0 (poisonReaction x1
    s) := by
  unfold poisonReaction
  repeat' with_reducible first
    | assumption | intro _ | exact Sub.trans (by decide) hm | apply kept_unvouch | apply kept_tookFree
    | apply kept_lostSignature | apply kept_deviceReaction | apply kept_tileReaction | apply kept_memRun | apply kept_fst
    | apply kept_ite
    | (extract_lets +onlyGivenNames x; revert x; first
        | refine kept_named (m := m) (s0 := s0) ?_ ?_ | refine kept_namedP (m := m) (s0 := s0) ?_ ?_
        | refine kept_value ?_) | apply kept_each | (simp -zeta only [kept_lit]) | apply kept_set_poison
    | (apply kept_eqP (by assumption)) | split

theorem kept_uncorrectable (x1) (x2) (hm : Sub [.free, .obj, .mem, .poison, .boot, .pins, .pwr, .evlog, .cross, .pxl,
    .trx, .lake, .fst, .mgt, .scan, .dlk, .safe, .pnl, .cal, .gyl, .jrn] m) (h : Kept m s0 s) : Kept m s0 (uncorrectable
    x1 x2 s) := by
  unfold uncorrectable
  repeat' with_reducible first
    | assumption | intro _ | exact Sub.trans (by decide) hm | apply kept_oset | apply kept_failRow
    | apply kept_poisonReaction | apply kept_dieLost | apply kept_evc | apply kept_failure | apply kept_cnt
    | apply kept_ite
    | (extract_lets +onlyGivenNames x; revert x; first
        | refine kept_named (m := m) (s0 := s0) ?_ ?_ | refine kept_namedP (m := m) (s0 := s0) ?_ ?_
        | refine kept_value ?_) | (simp -zeta only [kept_lit]) | apply kept_set_fst | apply kept_set_poison
    | apply kept_set_poison_fst

theorem kept_scrubNext (hm : Sub [.obj, .fst] m) (h : Kept m s0 s) : Kept m s0 (scrubNext s) := by
  unfold scrubNext
  repeat' with_reducible first
    | assumption | intro _ | exact Sub.trans (by decide) hm | apply kept_oset | apply kept_evc | apply kept_cnt
    | apply kept_ite
    | (extract_lets +onlyGivenNames x; revert x; first
        | refine kept_named (m := m) (s0 := s0) ?_ ?_ | refine kept_namedP (m := m) (s0 := s0) ?_ ?_
        | refine kept_value ?_) | apply kept_whenDo | (simp -zeta only [kept_lit]) | apply kept_set_fst

theorem kept_execScrubStep (x1) (x2) (x3) (hm : Sub [.free, .obj, .mem, .poison, .boot, .pins, .pwr, .evlog, .cross,
    .pxl, .trx, .lake, .fst, .mgt, .scan, .dlk, .safe, .pnl, .cal, .gyl, .jrn] m) (h : Kept m s0 s) : KeptO m s0
    (execScrubStep x1 x2 x3 s) := by
  unfold execScrubStep
  repeat' with_reducible first
    | assumption | intro _ | exact Sub.trans (by decide) hm | apply kept_readPoison | apply kept_correctable
    | apply kept_uncorrectable | apply kept_State_at | apply kept_scrubNext | apply keptO_next | apply kept_fst
    | apply kept_ite | apply keptO_ite
    | (extract_lets +onlyGivenNames x; revert x; first
        | refine kept_named (m := m) (s0 := s0) ?_ ?_ | refine kept_namedP (m := m) (s0 := s0) ?_ ?_
        | refine kept_value ?_) | (apply kept_eqP (by assumption)) | split

theorem kept_gylBad (hm : Sub [.obj] m) (h : Kept m s0 s) : Kept m s0 (gylBad s) := by
  unfold gylBad
  repeat' with_reducible first
    | assumption | intro _ | exact Sub.trans (by decide) hm | apply kept_evc | apply kept_cnt

theorem kept_gylPut (x1) (x2) (x3) (x4) (x5) (hm : Sub [.gyl] m) (h : Kept m s0 s) : Kept m s0 (gylPut x1 x2 x3 x4 x5 s)
    := by
  unfold gylPut
  repeat' with_reducible first
    | assumption | intro _ | exact Sub.trans (by decide) hm
    | (extract_lets +onlyGivenNames x; revert x; first
        | refine kept_named (m := m) (s0 := s0) ?_ ?_ | refine kept_namedP (m := m) (s0 := s0) ?_ ?_
        | refine kept_value ?_) | (simp -zeta only [kept_lit]) | apply kept_set_gyl

theorem kept_gylSend (x1) (x2) (x3) (x4) (hm : Sub [.gyl] m) (h : Kept m s0 s) : Kept m s0 (gylSend x1 x2 x3 x4 s) := by
  unfold gylSend
  repeat' with_reducible first
    | assumption | intro _ | exact Sub.trans (by decide) hm | apply kept_gylPut

theorem kept_gylMaster (x1) (x2) (x3) (hm : Sub [.gyl] m) (h : Kept m s0 s) : Kept m s0 (gylMaster x1 x2 x3 s) := by
  unfold gylMaster
  repeat' with_reducible first
    | assumption | intro _ | exact Sub.trans (by decide) hm | apply kept_gylSend

theorem kept_gylOpen (x1) (x2) (hm : Sub [.gyl] m) (h : Kept m s0 s) : Kept m s0 (gylOpen x1 x2 s) := by
  unfold gylOpen
  repeat' with_reducible first
    | assumption | intro _ | exact Sub.trans (by decide) hm | apply kept_gylSend
    | (extract_lets +onlyGivenNames x; revert x; first
        | refine kept_named (m := m) (s0 := s0) ?_ ?_ | refine kept_namedP (m := m) (s0 := s0) ?_ ?_
        | refine kept_value ?_) | (simp -zeta only [kept_lit]) | apply kept_set_gyl

theorem kept_gylTake (x1) (x2) (x3) {x4 : Nat → List Byte → State → State} (hm : Sub [.obj] m)
    (hr : ∀ n bs a, Kept m s0 a → Kept m s0 (x4 n bs a)) (h : Kept m s0 s) : Kept m s0 (gylTake x1 x2 x3 x4 s) := by
  unfold gylTake
  repeat' with_reducible first
    | assumption | intro _ | exact Sub.trans (by decide) hm | apply hr | apply kept_gylBad | apply kept_ite

theorem kept_gylLog (x1) (x2) (x3) (hm : Sub [.obj, .pins, .evlog, .mgt, .jrn] m) (h : Kept m s0 s) : Kept m s0 (gylLog
    x1 x2 x3 s) := by
  unfold gylLog
  repeat' with_reducible first
    | assumption | intro _ | exact Sub.trans (by decide) hm | apply kept_logEv

theorem kept_dropHeld (hm : Sub [.gyl] m) (h : Kept m s0 s) : Kept m s0 (dropHeld s) := by
  unfold dropHeld
  repeat' with_reducible first
    | assumption | intro _ | exact Sub.trans (by decide) hm
    | (extract_lets +onlyGivenNames x; revert x; first
        | refine kept_named (m := m) (s0 := s0) ?_ ?_ | refine kept_namedP (m := m) (s0 := s0) ?_ ?_
        | refine kept_value ?_) | (simp -zeta only [kept_lit]) | apply kept_set_gyl

theorem kept_abortCommit (x1) (x2) (x3) (x4) (hm : Sub [.obj, .pins, .evlog, .mgt, .gyl, .jrn] m) (h : Kept m s0 s) :
    Kept m s0 (abortCommit x1 x2 x3 x4 s) := by
  unfold abortCommit
  repeat' with_reducible first
    | assumption | intro _ | exact Sub.trans (by decide) hm | apply kept_oset | apply kept_gylLog | apply kept_gylMaster
    | apply kept_dropHeld | apply kept_evc
    | (extract_lets +onlyGivenNames x; revert x; first
        | refine kept_named (m := m) (s0 := s0) ?_ ?_ | refine kept_namedP (m := m) (s0 := s0) ?_ ?_
        | refine kept_value ?_) | (simp -zeta only [kept_lit]) | apply kept_set_gyl | (apply kept_eqP (by assumption))
    | split

theorem kept_tookGen (x1) (x2) (hm : Sub [.obj, .gyl, .jrn] m) (h : Kept m s0 s) : Kept m s0 (tookGen x1 x2 s) := by
  unfold tookGen
  repeat' with_reducible first
    | assumption | intro _ | exact Sub.trans (by decide) hm | apply kept_jrnStatus | apply kept_fst
    | (extract_lets +onlyGivenNames x; revert x; first
        | refine kept_named (m := m) (s0 := s0) ?_ ?_ | refine kept_namedP (m := m) (s0 := s0) ?_ ?_
        | refine kept_value ?_) | apply kept_foldl | apply kept_foldlP | apply keptP_foldl | (simp -zeta only [kept_lit])
    | apply kept_set_gyl

theorem kept_applyKind (x1) (x2) (x3) (hm : Sub [.obj, .boot, .pins, .pwr, .evlog, .cross, .pxl, .trx, .lake, .fst,
    .mgt, .scan, .dlk, .wear, .safe, .pnl, .cal, .gyl, .jrn] m) (h : Kept m s0 s) : Kept m s0 (applyKind x1 x2 x3 s) :=
    by
  unfold applyKind
  repeat' with_reducible first
    | assumption | intro _ | exact Sub.trans (by decide) hm | apply kept_cancelShow | apply kept_activateRegions
    | apply kept_ownDevState | apply kept_jrnAdd | apply kept_regionRecord | apply kept_fst | apply kept_ite
    | (extract_lets +onlyGivenNames x; revert x; first
        | refine kept_named (m := m) (s0 := s0) ?_ ?_ | refine kept_namedP (m := m) (s0 := s0) ?_ ?_
        | refine kept_value ?_) | (simp -zeta only [kept_lit]) | apply kept_set_scan | apply kept_set_obj

theorem kept_applyHeld (hm : Sub [.obj, .boot, .pins, .pwr, .evlog, .cross, .pxl, .trx, .lake, .fst, .mgt, .scan, .dlk,
    .wear, .safe, .pnl, .cal, .gyl, .jrn] m) (h : Kept m s0 s) : Kept m s0 (applyHeld s) := by
  unfold applyHeld
  repeat' with_reducible first
    | assumption | intro _ | exact Sub.trans (by decide) hm | apply kept_oset | apply kept_dropHeld | apply kept_tookGen
    | apply kept_evc | apply kept_applyKind | apply kept_fst | apply kept_ite
    | (extract_lets +onlyGivenNames x; revert x; first
        | refine kept_named (m := m) (s0 := s0) ?_ ?_ | refine kept_namedP (m := m) (s0 := s0) ?_ ?_
        | refine kept_value ?_) | apply kept_whenDo | (simp -zeta only [kept_lit]) | apply kept_set_gyl
    | (apply kept_eqP (by assumption)) | split

theorem kept_refuseRun (x1) (hm : Sub [.obj] m) (h : Kept m s0 s) : Kept m s0 (refuseRun x1 s) := by
  unfold refuseRun
  repeat' with_reducible first
    | assumption | intro _ | exact Sub.trans (by decide) hm | apply kept_runRefused | apply kept_whenDo

theorem kept_applyVector (hm : Sub [.obj, .boot, .pins, .pwr, .evlog, .cross, .pxl, .trx, .lake, .fst, .mgt, .scan,
    .dlk, .wear, .safe, .pnl, .cal, .gyl, .jrn] m) (h : Kept m s0 s) : Kept m s0 (applyVector s) := by
  unfold applyVector
  repeat' with_reducible first
    | assumption | intro _ | exact Sub.trans (by decide) hm | apply kept_refuseRun | apply kept_tookGen
    | apply kept_applyKind | apply kept_fst | apply kept_ite
    | (extract_lets +onlyGivenNames x; revert x; first
        | refine kept_named (m := m) (s0 := s0) ?_ ?_ | refine kept_namedP (m := m) (s0 := s0) ?_ ?_
        | refine kept_value ?_) | apply kept_each | (simp -zeta only [kept_lit]) | apply kept_set_gyl
    | (apply kept_eqP (by assumption)) | split

theorem kept_armSnap (x1) (hm : Sub [.obj, .gyl] m) (h : Kept m s0 s) : Kept m s0 (armSnap x1 s) := by
  unfold armSnap
  repeat' with_reducible first
    | assumption | intro _ | exact Sub.trans (by decide) hm | apply kept_cnt | apply kept_ite
    | (extract_lets +onlyGivenNames x; revert x; first
        | refine kept_named (m := m) (s0 := s0) ?_ ?_ | refine kept_namedP (m := m) (s0 := s0) ?_ ?_
        | refine kept_value ?_) | (simp -zeta only [kept_lit]) | apply kept_set_gyl

theorem kept_behindCleared (hm : Sub [.gyl] m) (h : Kept m s0 s) : Kept m s0 (behindCleared s) := by
  unfold behindCleared
  repeat' with_reducible first
    | assumption | intro _ | exact Sub.trans (by decide) hm | apply kept_ite
    | (extract_lets +onlyGivenNames x; revert x; first
        | refine kept_named (m := m) (s0 := s0) ?_ ?_ | refine kept_namedP (m := m) (s0 := s0) ?_ ?_
        | refine kept_value ?_) | (simp -zeta only [kept_lit]) | apply kept_set_gyl

theorem kept_behindReact (hm : Sub [.obj, .pins, .evlog, .trx, .lake, .mgt, .scan, .safe, .gyl, .jrn] m) (h : Kept m s0
    s) : Kept m s0 (behindReact s) := by
  unfold behindReact
  repeat' with_reducible first
    | assumption | intro _ | exact Sub.trans (by decide) hm | apply kept_gylLog | apply kept_failure
    | apply kept_bandsReaction | apply kept_ite
    | (extract_lets +onlyGivenNames x; revert x; first
        | refine kept_named (m := m) (s0 := s0) ?_ ?_ | refine kept_namedP (m := m) (s0 := s0) ?_ ?_
        | refine kept_value ?_) | (simp -zeta only [kept_lit]) | apply kept_set_gyl | (apply kept_eqP (by assumption))
    | split

theorem kept_sendStatus (hm : Sub [.gyl] m) (h : Kept m s0 s) : Kept m s0 (sendStatus s) := by
  unfold sendStatus
  repeat' with_reducible first
    | assumption | intro _ | exact Sub.trans (by decide) hm | apply kept_gylSend

theorem kept_setGylState (x1) (hm : Sub [.gyl] m) (h : Kept m s0 s) : Kept m s0 (setGylState x1 s) := by
  unfold setGylState
  repeat' with_reducible first
    | assumption | intro _ | exact Sub.trans (by decide) hm | apply kept_sendStatus | apply kept_ite
    | (extract_lets +onlyGivenNames x; revert x; first
        | refine kept_named (m := m) (s0 := s0) ?_ ?_ | refine kept_namedP (m := m) (s0 := s0) ?_ ?_
        | refine kept_value ?_) | (simp -zeta only [kept_lit]) | apply kept_set_gyl

theorem kept_caughtUp (hm : Sub [.obj, .pins, .evlog, .mgt, .gyl, .jrn] m) (h : Kept m s0 s) : Kept m s0 (caughtUp s) :=
    by
  unfold caughtUp
  repeat' with_reducible first
    | assumption | intro _ | exact Sub.trans (by decide) hm | apply kept_gylLog | apply kept_setGylState | apply kept_ite
    | (extract_lets +onlyGivenNames x; revert x; first
        | refine kept_named (m := m) (s0 := s0) ?_ ?_ | refine kept_namedP (m := m) (s0 := s0) ?_ ?_
        | refine kept_value ?_) | (simp -zeta only [kept_lit]) | apply kept_set_gyl

theorem kept_selectRef (hm : Sub [.obj, .gyl] m) (h : Kept m s0 s) : Kept m s0 (selectRef s) := by
  unfold selectRef
  repeat' with_reducible first
    | assumption | intro _ | exact Sub.trans (by decide) hm | apply kept_evc | apply kept_cnt | apply kept_ite
    | (extract_lets +onlyGivenNames x; revert x; first
        | refine kept_named (m := m) (s0 := s0) ?_ ?_ | refine kept_namedP (m := m) (s0 := s0) ?_ ?_
        | refine kept_value ?_) | (simp -zeta only [kept_lit]) | apply kept_set_gyl

theorem kept_enterConflict (x1) (hm : Sub [.obj, .pins, .evlog, .mgt, .gyl, .jrn] m) (h : Kept m s0 s) : Kept m s0
    (enterConflict x1 s) := by
  unfold enterConflict
  repeat' with_reducible first
    | assumption | intro _ | exact Sub.trans (by decide) hm | apply kept_selectRef | apply kept_oset | apply kept_gylLog
    | apply kept_dropHeld | apply kept_ite
    | (extract_lets +onlyGivenNames x; revert x; first
        | refine kept_named (m := m) (s0 := s0) ?_ ?_ | refine kept_namedP (m := m) (s0 := s0) ?_ ?_
        | refine kept_value ?_) | (simp -zeta only [kept_lit]) | apply kept_set_gyl

theorem kept_takeAbort (x1) (hm : Sub [.obj, .gyl] m) (h : Kept m s0 s) : Kept m s0 (takeAbort x1 s) := by
  unfold takeAbort
  repeat' with_reducible first
    | assumption | intro _ | exact Sub.trans (by decide) hm | apply kept_oset | apply kept_dropHeld | apply kept_ite
    | (extract_lets +onlyGivenNames x; revert x; first
        | refine kept_named (m := m) (s0 := s0) ?_ ?_ | refine kept_namedP (m := m) (s0 := s0) ?_ ?_
        | refine kept_value ?_) | (simp -zeta only [kept_lit]) | apply kept_set_gyl

theorem kept_execAbort (x1) (x2) (hm : Sub [.obj, .gyl] m) (h : Kept m s0 s) : KeptO m s0 (execAbort x1 x2 s) := by
  unfold execAbort
  repeat' with_reducible first
    | assumption | intro _ | exact Sub.trans (by decide) hm | apply kept_gylTake | apply kept_State_at
    | apply kept_takeAbort | apply keptO_next

theorem kept_execCommit (x1) (x2) (hm : Sub [.obj, .gyl] m) (h : Kept m s0 s) : KeptO m s0 (execCommit x1 x2 s) := by
  unfold execCommit
  repeat' with_reducible first
    | assumption | intro _ | exact Sub.trans (by decide) hm | apply kept_gylTake | apply kept_State_at | apply keptO_next
    | apply kept_ite | apply keptO_ite
    | (extract_lets +onlyGivenNames x; revert x; first
        | refine kept_named (m := m) (s0 := s0) ?_ ?_ | refine kept_namedP (m := m) (s0 := s0) ?_ ?_
        | refine kept_value ?_) | apply kept_each | (simp -zeta only [kept_lit]) | apply kept_set_gyl

theorem kept_sendPrepare (x1) (hm : Sub [.gyl] m) (h : Kept m s0 s) : Kept m s0 (sendPrepare x1 s) := by
  unfold sendPrepare
  repeat' with_reducible first
    | assumption | intro _ | exact Sub.trans (by decide) hm | apply kept_gylOpen
    | (extract_lets +onlyGivenNames x; revert x; first
        | refine kept_named (m := m) (s0 := s0) ?_ ?_ | refine kept_namedP (m := m) (s0 := s0) ?_ ?_
        | refine kept_value ?_) | (simp -zeta only [kept_lit]) | apply kept_set_gyl

theorem kept_holdChange (x1) (hm : Sub [.obj, .pins, .pwr, .evlog, .pxl, .trx, .fst, .mgt, .scan, .dlk, .pnl, .gyl,
    .jrn] m) (h : Kept m s0 s) : Kept m s0 (holdChange x1 s) := by
  unfold holdChange
  repeat' with_reducible first
    | assumption | intro _ | exact Sub.trans (by decide) hm | apply kept_wakeActs | apply kept_stagedRecord
    | apply kept_ite
    | (extract_lets +onlyGivenNames x; revert x; first
        | refine kept_named (m := m) (s0 := s0) ?_ ?_ | refine kept_namedP (m := m) (s0 := s0) ?_ ?_
        | refine kept_value ?_) | (simp -zeta only [kept_lit]) | apply kept_set_gyl | apply kept_set_pwr
    | apply kept_set_pwr_gyl

theorem kept_ownCmtReq (x1) (hm : Sub [.obj, .pins, .pwr, .evlog, .pxl, .trx, .fst, .mgt, .scan, .dlk, .pnl, .gyl, .jrn]
    m) (h : Kept m s0 s) : KeptP m s0 (ownCmtReq x1 s) := by
  unfold ownCmtReq
  repeat' with_reducible first
    | assumption | intro _ | exact Sub.trans (by decide) hm | apply kept_refuseRun | apply kept_oset
    | apply kept_sendPrepare | apply kept_holdChange | apply kept_fst | (unfold KeptP; dsimp only) | apply kept_ite
    | apply keptP_ite
    | (extract_lets +onlyGivenNames x; revert x; first
        | refine kept_named (m := m) (s0 := s0) ?_ ?_ | refine kept_namedP (m := m) (s0 := s0) ?_ ?_
        | refine kept_value ?_) | apply kept_whenDo | (simp -zeta only [kept_lit]) | apply kept_set_gyl

theorem kept_execGylCmtReq (x1) (x2) (x3) (hm : Sub [.obj, .pins, .pwr, .evlog, .pxl, .trx, .fst, .mgt, .scan, .dlk,
    .pnl, .gyl, .jrn] m) (h : Kept m s0 s) : KeptO m s0 (execGylCmtReq x1 x2 x3 s) := by
  unfold execGylCmtReq
  repeat' with_reducible first
    | assumption | intro _ | exact Sub.trans (by decide) hm | apply kept_ownCmtReq | apply kept_writeRow
    | apply kept_State_at | apply keptO_next

theorem kept_ownRealign (x1) (hm : Sub [.gyl] m) (h : Kept m s0 s) : KeptP m s0 (ownRealign x1 s) := by
  unfold ownRealign
  repeat' with_reducible first
    | assumption | intro _ | exact Sub.trans (by decide) hm | (unfold KeptP; dsimp only) | apply kept_ite
    | apply keptP_ite | (simp -zeta only [kept_lit]) | apply kept_set_gyl | (apply kept_eqP (by assumption)) | split

theorem kept_execGylRealign (x1) (x2) (x3) (hm : Sub [.obj, .pins, .mgt, .gyl] m) (h : Kept m s0 s) : KeptO m s0
    (execGylRealign x1 x2 x3 s) := by
  unfold execGylRealign
  repeat' with_reducible first
    | assumption | intro _ | exact Sub.trans (by decide) hm | apply kept_writeRow | apply kept_State_at
    | apply kept_ownRealign | apply keptO_next

theorem kept_sendSnap (hm : Sub [.obj, .gyl] m) (h : Kept m s0 s) : Kept m s0 (sendSnap s) := by
  unfold sendSnap
  repeat' with_reducible first
    | assumption | intro _ | exact Sub.trans (by decide) hm | apply kept_gylMaster | apply kept_armSnap

theorem kept_ownSnapNow (x1) (hm : Sub [.obj, .gyl] m) (h : Kept m s0 s) : KeptP m s0 (ownSnapNow x1 s) := by
  unfold ownSnapNow
  repeat' with_reducible first
    | assumption | intro _ | exact Sub.trans (by decide) hm | apply kept_sendSnap | (unfold KeptP; dsimp only)
    | apply kept_ite | apply keptP_ite

theorem kept_execGylSnapnow (x1) (x2) (x3) (hm : Sub [.obj, .pins, .mgt, .gyl] m) (h : Kept m s0 s) : KeptO m s0
    (execGylSnapnow x1 x2 x3 s) := by
  unfold execGylSnapnow
  repeat' with_reducible first
    | assumption | intro _ | exact Sub.trans (by decide) hm | apply kept_ownSnapNow | apply kept_writeRow
    | apply kept_State_at | apply keptO_next

theorem kept_sendPhrase (hm : Sub [.obj, .gyl] m) (h : Kept m s0 s) : Kept m s0 (sendPhrase s) := by
  unfold sendPhrase
  repeat' with_reducible first
    | assumption | intro _ | exact Sub.trans (by decide) hm | apply kept_gylPut | apply kept_cnt

theorem kept_startPhrase (hm : Sub [.obj, .gyl] m) (h : Kept m s0 s) : Kept m s0 (startPhrase s) := by
  unfold startPhrase
  repeat' with_reducible first
    | assumption | intro _ | exact Sub.trans (by decide) hm | apply kept_sendPhrase
    | (extract_lets +onlyGivenNames x; revert x; first
        | refine kept_named (m := m) (s0 := s0) ?_ ?_ | refine kept_namedP (m := m) (s0 := s0) ?_ ?_
        | refine kept_value ?_) | (simp -zeta only [kept_lit]) | apply kept_set_gyl

theorem kept_ownWakeNow (x1) (hm : Sub [.obj, .gyl] m) (h : Kept m s0 s) : KeptP m s0 (ownWakeNow x1 s) := by
  unfold ownWakeNow
  repeat' with_reducible first
    | assumption | intro _ | exact Sub.trans (by decide) hm | apply kept_startPhrase | (unfold KeptP; dsimp only)
    | apply kept_ite | apply keptP_ite

theorem kept_execGylWakenow (x1) (x2) (x3) (hm : Sub [.obj, .pins, .mgt, .gyl] m) (h : Kept m s0 s) : KeptO m s0
    (execGylWakenow x1 x2 x3 s) := by
  unfold execGylWakenow
  repeat' with_reducible first
    | assumption | intro _ | exact Sub.trans (by decide) hm | apply kept_writeRow | apply kept_ownWakeNow
    | apply kept_State_at | apply keptO_next

theorem kept_ownWordBad (hm : Sub [.obj, .pins, .evlog, .mgt, .gyl, .jrn] m) (h : Kept m s0 s) : Kept m s0 (ownWordBad
    s) := by
  unfold ownWordBad
  repeat' with_reducible first
    | assumption | intro _ | exact Sub.trans (by decide) hm | apply kept_enterConflict | apply kept_ite
    | (extract_lets +onlyGivenNames x; revert x; first
        | refine kept_named (m := m) (s0 := s0) ?_ ?_ | refine kept_namedP (m := m) (s0 := s0) ?_ ?_
        | refine kept_value ?_) | (simp -zeta only [kept_lit]) | apply kept_set_gyl

theorem kept_execGylorFrameDiscarded (x1) (x2) (x3) (hm : Sub [.obj, .pins, .evlog, .mgt, .gyl, .jrn] m) (h : Kept m s0
    s) : KeptO m s0 (execGylorFrameDiscarded x1 x2 x3 s) := by
  unfold execGylorFrameDiscarded
  repeat' with_reducible first
    | assumption | intro _ | exact Sub.trans (by decide) hm | apply kept_gylLog | apply kept_ownWordBad
    | apply kept_State_at | apply kept_gylBad | apply kept_setNode | apply keptO_next | apply kept_ite | apply keptO_ite
    | (extract_lets +onlyGivenNames x; revert x; first
        | refine kept_named (m := m) (s0 := s0) ?_ ?_ | refine kept_namedP (m := m) (s0 := s0) ?_ ?_
        | refine kept_value ?_) | (simp -zeta only [kept_lit]) | apply kept_set_gyl | (apply kept_eqP (by assumption))
    | split

theorem kept_sendAnswer (x1) (x2) (x3) (x4) (hm : Sub [.obj, .gyl] m) (h : Kept m s0 s) : Kept m s0 (sendAnswer x1 x2 x3
    x4 s) := by
  unfold sendAnswer
  repeat' with_reducible first
    | assumption | intro _ | exact Sub.trans (by decide) hm | apply kept_gylSend | apply kept_oset | apply kept_ite

theorem kept_takePrepare (x1) (x2) (hm : Sub [.obj, .pins, .pwr, .evlog, .pxl, .trx, .fst, .mgt, .scan, .dlk, .pnl,
    .gyl, .jrn] m) (h : Kept m s0 s) : Kept m s0 (takePrepare x1 x2 s) := by
  unfold takePrepare
  repeat' with_reducible first
    | assumption | intro _ | exact Sub.trans (by decide) hm | apply kept_sendAnswer | apply kept_refuseRun
    | apply kept_holdChange | apply kept_fst | apply kept_ite
    | (extract_lets +onlyGivenNames x; revert x; first
        | refine kept_named (m := m) (s0 := s0) ?_ ?_ | refine kept_namedP (m := m) (s0 := s0) ?_ ?_
        | refine kept_value ?_) | (simp -zeta only [kept_lit]) | apply kept_set_gyl | (apply kept_eqP (by assumption))
    | split

theorem kept_execPrepare (x1) (x2) (hm : Sub [.obj, .pins, .pwr, .evlog, .pxl, .trx, .fst, .mgt, .scan, .dlk, .pnl,
    .gyl, .jrn] m) (h : Kept m s0 s) : KeptO m s0 (execPrepare x1 x2 s) := by
  unfold execPrepare
  repeat' with_reducible first
    | assumption | intro _ | exact Sub.trans (by decide) hm | apply kept_gylTake | apply kept_State_at
    | apply kept_takePrepare | apply keptO_next

theorem kept_execReady (x1) (x2) (hm : Sub [.obj, .gyl] m) (h : Kept m s0 s) : KeptO m s0 (execReady x1 x2 s) := by
  unfold execReady
  repeat' with_reducible first
    | assumption | intro _ | exact Sub.trans (by decide) hm | apply kept_gylTake | apply kept_State_at | apply keptO_next
    | apply kept_ite | apply keptO_ite
    | (extract_lets +onlyGivenNames x; revert x; first
        | refine kept_named (m := m) (s0 := s0) ?_ ?_ | refine kept_namedP (m := m) (s0 := s0) ?_ ?_
        | refine kept_value ?_) | apply kept_each | (simp -zeta only [kept_lit]) | apply kept_set_gyl

theorem kept_takeRefuse (x1) (x2) (hm : Sub [.gyl] m) (h : Kept m s0 s) : Kept m s0 (takeRefuse x1 x2 s) := by
  unfold takeRefuse
  repeat' with_reducible first
    | assumption | intro _ | exact Sub.trans (by decide) hm | apply kept_setNode | apply kept_ite
    | (extract_lets +onlyGivenNames x; revert x; first
        | refine kept_named (m := m) (s0 := s0) ?_ ?_ | refine kept_namedP (m := m) (s0 := s0) ?_ ?_
        | refine kept_value ?_) | (simp -zeta only [kept_lit]) | apply kept_set_gyl

theorem kept_execRefuse (x1) (x2) (hm : Sub [.obj, .gyl] m) (h : Kept m s0 s) : KeptO m s0 (execRefuse x1 x2 s) := by
  unfold execRefuse
  repeat' with_reducible first
    | assumption | intro _ | exact Sub.trans (by decide) hm | apply kept_gylTake | apply kept_takeRefuse
    | apply kept_State_at | apply keptO_next

theorem kept_rollClosed (hm : Sub [.gyl] m) (h : Kept m s0 s) : Kept m s0 (rollClosed s) := by
  unfold rollClosed
  repeat' with_reducible first
    | assumption | intro _ | exact Sub.trans (by decide) hm | apply kept_fst | apply kept_ite
    | (extract_lets +onlyGivenNames x; revert x; first
        | refine kept_named (m := m) (s0 := s0) ?_ ?_ | refine kept_namedP (m := m) (s0 := s0) ?_ ?_
        | refine kept_value ?_) | (simp -zeta only [kept_lit]) | apply kept_set_gyl

theorem kept_sendCommit (x1) (hm : Sub [.obj, .gyl, .jrn] m) (h : Kept m s0 s) : Kept m s0 (sendCommit x1 s) := by
  unfold sendCommit
  repeat' with_reducible first
    | assumption | intro _ | exact Sub.trans (by decide) hm | apply kept_gylSend | apply kept_oset
    | apply kept_jrnStatusOf
    | (extract_lets +onlyGivenNames x; revert x; first
        | refine kept_named (m := m) (s0 := s0) ?_ ?_ | refine kept_namedP (m := m) (s0 := s0) ?_ ?_
        | refine kept_value ?_) | apply kept_each | (simp -zeta only [kept_lit]) | apply kept_set_gyl

theorem kept_prepareClosed (hm : Sub [.obj, .pins, .evlog, .mgt, .gyl, .jrn] m) (h : Kept m s0 s) : Kept m s0
    (prepareClosed s) := by
  unfold prepareClosed
  repeat' with_reducible first
    | assumption | intro _ | exact Sub.trans (by decide) hm | apply kept_abortCommit | apply kept_sendCommit
    | apply kept_ite
    | (extract_lets +onlyGivenNames x; revert x; first
        | refine kept_named (m := m) (s0 := s0) ?_ ?_ | refine kept_namedP (m := m) (s0 := s0) ?_ ?_
        | refine kept_value ?_) | (simp -zeta only [kept_lit]) | apply kept_set_gyl | (apply kept_eqP (by assumption))
    | split

theorem kept_execReplyWindowClose (x1) (hm : Sub [.obj, .pins, .evlog, .mgt, .gyl, .jrn] m) (h : Kept m s0 s) : KeptO m
    s0 (execReplyWindowClose x1 s) := by
  unfold execReplyWindowClose
  repeat' with_reducible first
    | assumption | intro _ | exact Sub.trans (by decide) hm | apply kept_rollClosed | apply kept_prepareClosed
    | apply kept_State_at | apply keptO_next | apply kept_ite

theorem kept_execResendReq (x1) (x2) (hm : Sub [.obj, .gyl] m) (h : Kept m s0 s) : KeptO m s0 (execResendReq x1 x2 s) :=
    by
  unfold execResendReq
  repeat' with_reducible first
    | assumption | intro _ | exact Sub.trans (by decide) hm | apply kept_gylMaster | apply kept_evc | apply kept_gylTake
    | apply kept_State_at | apply kept_cnt | apply keptO_next | apply kept_ite

theorem kept_execRoll (x1) (x2) (hm : Sub [.obj, .gyl] m) (h : Kept m s0 s) : KeptO m s0 (execRoll x1 x2 s) := by
  unfold execRoll
  repeat' with_reducible first
    | assumption | intro _ | exact Sub.trans (by decide) hm | apply kept_gylSend | apply kept_gylTake
    | apply kept_State_at | apply keptO_next | apply kept_ite

theorem kept_sendRoll (hm : Sub [.gyl] m) (h : Kept m s0 s) : Kept m s0 (sendRoll s) := by
  unfold sendRoll
  repeat' with_reducible first
    | assumption | intro _ | exact Sub.trans (by decide) hm | apply kept_gylOpen | apply kept_ite
    | (extract_lets +onlyGivenNames x; revert x; first
        | refine kept_named (m := m) (s0 := s0) ?_ ?_ | refine kept_namedP (m := m) (s0 := s0) ?_ ?_
        | refine kept_value ?_) | (simp -zeta only [kept_lit]) | apply kept_set_gyl

theorem kept_execRollTimer (x1) (hm : Sub [.gyl] m) (h : Kept m s0 s) : KeptO m s0 (execRollTimer x1 s) := by
  unfold execRollTimer
  repeat' with_reducible first
    | assumption | intro _ | exact Sub.trans (by decide) hm | apply kept_sendRoll | apply kept_State_at | apply keptO_next
    | apply kept_ite

theorem kept_execSnap (x1) (x2) (hm : Sub [.obj, .gyl] m) (h : Kept m s0 s) : KeptO m s0 (execSnap x1 x2 s) := by
  unfold execSnap
  repeat' with_reducible first
    | assumption | intro _ | exact Sub.trans (by decide) hm | apply kept_gylTake | apply kept_State_at
    | apply kept_armSnap | apply keptO_next | apply kept_ite

theorem kept_execSnapPeriodTimer (x1) (hm : Sub [.obj, .gyl] m) (h : Kept m s0 s) : KeptO m s0 (execSnapPeriodTimer x1
    s) := by
  unfold execSnapPeriodTimer
  repeat' with_reducible first
    | assumption | intro _ | exact Sub.trans (by decide) hm | apply kept_State_at | apply kept_sendSnap | apply keptO_next
    | apply kept_ite | apply keptO_ite
    | (extract_lets +onlyGivenNames x; revert x; first
        | refine kept_named (m := m) (s0 := s0) ?_ ?_ | refine kept_namedP (m := m) (s0 := s0) ?_ ?_
        | refine kept_value ?_) | (simp -zeta only [kept_lit]) | apply kept_set_gyl

theorem kept_takeStatus (x1) (x2) (hm : Sub [.obj, .scan, .gyl] m) (h : Kept m s0 s) : Kept m s0 (takeStatus x1 x2 s) :=
    by
  unfold takeStatus
  repeat' with_reducible first
    | assumption | intro _ | exact Sub.trans (by decide) hm | apply kept_evc | apply kept_setNode | apply kept_ite
    | (extract_lets +onlyGivenNames x; revert x; first
        | refine kept_named (m := m) (s0 := s0) ?_ ?_ | refine kept_namedP (m := m) (s0 := s0) ?_ ?_
        | refine kept_value ?_) | (simp -zeta only [kept_lit]) | apply kept_set_gyl | apply kept_set_scan_gyl

theorem kept_execStatus (x1) (x2) (hm : Sub [.obj, .scan, .gyl] m) (h : Kept m s0 s) : KeptO m s0 (execStatus x1 x2 s)
    := by
  unfold execStatus
  repeat' with_reducible first
    | assumption | intro _ | exact Sub.trans (by decide) hm | apply kept_gylTake | apply kept_State_at
    | apply kept_takeStatus | apply keptO_next

theorem kept_execSyncWaitTimeout (x1) (hm : Sub [.scan, .gyl] m) (h : Kept m s0 s) : KeptO m s0 (execSyncWaitTimeout x1
    s) := by
  unfold execSyncWaitTimeout
  repeat' with_reducible first
    | assumption | intro _ | exact Sub.trans (by decide) hm | apply kept_State_at | apply keptO_next | apply kept_ite
    | apply keptO_ite
    | (extract_lets +onlyGivenNames x; revert x; first
        | refine kept_named (m := m) (s0 := s0) ?_ ?_ | refine kept_namedP (m := m) (s0 := s0) ?_ ?_
        | refine kept_value ?_) | (simp -zeta only [kept_lit]) | apply kept_set_scan_gyl

theorem kept_trackPhase (hm : Sub [.obj, .gyl] m) (h : Kept m s0 s) : Kept m s0 (trackPhase s) := by
  unfold trackPhase
  repeat' with_reducible first
    | assumption | intro _ | exact Sub.trans (by decide) hm | apply kept_selectRef | apply kept_ite
    | (extract_lets +onlyGivenNames x; revert x; first
        | refine kept_named (m := m) (s0 := s0) ?_ ?_ | refine kept_namedP (m := m) (s0 := s0) ?_ ?_
        | refine kept_value ?_) | (simp -zeta only [kept_lit]) | apply kept_set_gyl

theorem kept_resend (hm : Sub [.obj, .gyl] m) (h : Kept m s0 s) : Kept m s0 (resend s) := by
  unfold resend
  repeat' with_reducible first
    | assumption | intro _ | exact Sub.trans (by decide) hm | apply kept_gylSend | apply kept_evc | apply kept_cnt

theorem kept_judgeGen (x1) (x2) (hm : Sub [.obj, .pins, .evlog, .mgt, .gyl, .jrn] m) (h : Kept m s0 s) : Kept m s0
    (judgeGen x1 x2 s) := by
  unfold judgeGen
  repeat' with_reducible first
    | assumption | intro _ | exact Sub.trans (by decide) hm | apply kept_caughtUp | apply kept_resend
    | apply kept_setGylState | apply kept_ite
    | (extract_lets +onlyGivenNames x; revert x; first
        | refine kept_named (m := m) (s0 := s0) ?_ ?_ | refine kept_namedP (m := m) (s0 := s0) ?_ ?_
        | refine kept_value ?_) | (simp -zeta only [kept_lit]) | apply kept_set_gyl

theorem kept_judgePhase (hm : Sub [.obj, .pins, .evlog, .mgt, .gyl, .jrn] m) (h : Kept m s0 s) : Kept m s0 (judgePhase
    s) := by
  unfold judgePhase
  repeat' with_reducible first
    | assumption | intro _ | exact Sub.trans (by decide) hm | apply kept_gylLog | apply kept_setGylState | apply kept_ite
    | (extract_lets +onlyGivenNames x; revert x; first
        | refine kept_named (m := m) (s0 := s0) ?_ ?_ | refine kept_namedP (m := m) (s0 := s0) ?_ ?_
        | refine kept_value ?_) | (simp -zeta only [kept_lit]) | apply kept_set_gyl

theorem kept_usableWord (x1) (hm : Sub [.obj, .mem, .poison, .pins, .evlog, .mgt, .scan, .safe, .gyl, .jrn] m) (h : Kept
    m s0 s) : Kept m s0 (usableWord x1 s) := by
  unfold usableWord
  repeat' with_reducible first
    | assumption | intro _ | exact Sub.trans (by decide) hm | apply kept_trackPhase | apply kept_oset
    | apply kept_restartRaster | apply kept_gylLog | apply kept_judgeGen | apply kept_setGylState | apply kept_judgePhase
    | apply kept_ite
    | (extract_lets +onlyGivenNames x; revert x; first
        | refine kept_named (m := m) (s0 := s0) ?_ ?_ | refine kept_namedP (m := m) (s0 := s0) ?_ ?_
        | refine kept_value ?_) | (simp -zeta only [kept_lit]) | apply kept_set_scan_gyl

theorem kept_execSyncWord (x1) (x2) (hm : Sub [.obj, .mem, .poison, .pins, .evlog, .mgt, .scan, .safe, .gyl, .jrn] m) (h
    : Kept m s0 s) : KeptO m s0 (execSyncWord x1 x2 s) := by
  unfold execSyncWord
  repeat' with_reducible first
    | assumption | intro _ | exact Sub.trans (by decide) hm | apply kept_enterConflict | apply kept_sendStatus
    | apply kept_ownWordBad | apply kept_usableWord | apply kept_State_at | apply kept_gylBad | apply keptO_next
    | apply kept_ite | apply keptO_ite
    | (extract_lets +onlyGivenNames x; revert x; first
        | refine kept_named (m := m) (s0 := s0) ?_ ?_ | refine kept_namedP (m := m) (s0 := s0) ?_ ?_
        | refine kept_value ?_) | (simp -zeta only [kept_lit]) | apply kept_set_gyl

theorem kept_takeVector (x1) (hm : Sub [.gyl] m) (h : Kept m s0 s) : Kept m s0 (takeVector x1 s) := by
  unfold takeVector
  repeat' with_reducible first
    | assumption | intro _ | exact Sub.trans (by decide) hm | apply kept_fst | apply kept_ite
    | (extract_lets +onlyGivenNames x; revert x; first
        | refine kept_named (m := m) (s0 := s0) ?_ ?_ | refine kept_namedP (m := m) (s0 := s0) ?_ ?_
        | refine kept_value ?_) | (simp -zeta only [kept_lit]) | apply kept_set_gyl

theorem kept_execVector (x1) (x2) (hm : Sub [.obj, .gyl] m) (h : Kept m s0 s) : KeptO m s0 (execVector x1 x2 s) := by
  unfold execVector
  repeat' with_reducible first
    | assumption | intro _ | exact Sub.trans (by decide) hm | apply kept_gylTake | apply kept_State_at
    | apply kept_takeVector | apply keptO_next

theorem kept_execWakeRepeatTimer (x1) (hm : Sub [.obj, .gyl] m) (h : Kept m s0 s) : KeptO m s0 (execWakeRepeatTimer x1
    s) := by
  unfold execWakeRepeatTimer
  repeat' with_reducible first
    | assumption | intro _ | exact Sub.trans (by decide) hm | apply kept_sendPhrase | apply kept_State_at
    | apply keptO_next | apply kept_ite | apply keptO_ite
    | (extract_lets +onlyGivenNames x; revert x; first
        | refine kept_named (m := m) (s0 := s0) ?_ ?_ | refine kept_namedP (m := m) (s0 := s0) ?_ ?_
        | refine kept_value ?_) | (simp -zeta only [kept_lit]) | apply kept_set_gyl

theorem kept_followerFrame (hm : Sub [.obj, .pins, .evlog, .mgt, .gyl, .jrn] m) (h : Kept m s0 s) : Kept m s0
    (followerFrame s) := by
  unfold followerFrame
  repeat' with_reducible first
    | assumption | intro _ | exact Sub.trans (by decide) hm | apply kept_selectRef | apply kept_gylLog | apply kept_evc
    | apply kept_ite
    | (extract_lets +onlyGivenNames x; revert x; first
        | refine kept_named (m := m) (s0 := s0) ?_ ?_ | refine kept_namedP (m := m) (s0 := s0) ?_ ?_
        | refine kept_value ?_) | (simp -zeta only [kept_lit]) | apply kept_set_gyl

theorem kept_masterFrame (hm : Sub [.obj, .pins, .evlog, .mgt, .gyl, .jrn] m) (h : Kept m s0 s) : Kept m s0 (masterFrame
    s) := by
  unfold masterFrame
  repeat' with_reducible first
    | assumption | intro _ | exact Sub.trans (by decide) hm | apply kept_abortCommit | apply kept_gylPut
    | apply kept_sendRoll | apply kept_sendPrepare | apply kept_ite
    | (extract_lets +onlyGivenNames x; revert x; first
        | refine kept_named (m := m) (s0 := s0) ?_ ?_ | refine kept_namedP (m := m) (s0 := s0) ?_ ?_
        | refine kept_value ?_) | (apply kept_eqP (by assumption)) | split

theorem kept_gylFrame (hm : Sub [.obj, .boot, .pins, .pwr, .evlog, .cross, .pxl, .trx, .lake, .fst, .mgt, .scan, .dlk,
    .wear, .safe, .pnl, .cal, .gyl, .jrn] m) (h : Kept m s0 s) : Kept m s0 (gylFrame s) := by
  unfold gylFrame
  repeat' with_reducible first
    | assumption | intro _ | exact Sub.trans (by decide) hm | apply kept_caughtUp | apply kept_trackPhase
    | apply kept_followerFrame | apply kept_applyHeld | apply kept_resend | apply kept_evc | apply kept_behindReact
    | apply kept_masterFrame | apply kept_applyVector | apply kept_ite
    | (extract_lets +onlyGivenNames x; revert x; first
        | refine kept_named (m := m) (s0 := s0) ?_ ?_ | refine kept_namedP (m := m) (s0 := s0) ?_ ?_
        | refine kept_value ?_) | (simp -zeta only [kept_lit]) | apply kept_set_gyl | (apply kept_eqP (by assumption))
    | split

theorem kept_gylStart (hm : Sub [.scan, .gyl] m) (h : Kept m s0 s) : Kept m s0 (gylStart s) := by
  unfold gylStart
  repeat' with_reducible first
    | assumption | intro _ | exact Sub.trans (by decide) hm | apply kept_sendRoll | apply kept_ite
    | (extract_lets +onlyGivenNames x; revert x; first
        | refine kept_named (m := m) (s0 := s0) ?_ ?_ | refine kept_namedP (m := m) (s0 := s0) ?_ ?_
        | refine kept_value ?_) | (simp -zeta only [kept_lit]) | apply kept_set_scan_gyl

theorem kept_ownGylRole (x1) (hm : Sub [.obj, .safe, .gyl, .jrn] m) (h : Kept m s0 s) : KeptP m s0 (ownGylRole x1 s) := by
  unfold ownGylRole
  repeat' with_reducible first
    | assumption | intro _ | exact Sub.trans (by decide) hm | apply kept_selectRef | apply kept_plainWrite
    | (unfold KeptP; dsimp only)
    | (extract_lets +onlyGivenNames x; revert x; first
        | refine kept_named (m := m) (s0 := s0) ?_ ?_ | refine kept_namedP (m := m) (s0 := s0) ?_ ?_
        | refine kept_value ?_) | (simp -zeta only [kept_lit]) | apply kept_set_gyl

theorem kept_sourceLost (hm : Sub [.obj, .gyl] m) (h : Kept m s0 s) : Kept m s0 (sourceLost s) := by
  unfold sourceLost
  repeat' with_reducible first
    | assumption | intro _ | exact Sub.trans (by decide) hm | apply kept_selectRef
    | (extract_lets +onlyGivenNames x; revert x; first
        | refine kept_named (m := m) (s0 := s0) ?_ ?_ | refine kept_namedP (m := m) (s0 := s0) ?_ ?_
        | refine kept_value ?_) | (simp -zeta only [kept_lit]) | apply kept_set_gyl

theorem kept_sourceTick (hm : Sub [.obj, .gyl] m) (h : Kept m s0 s) : Kept m s0 (sourceTick s) := by
  unfold sourceTick
  repeat' with_reducible first
    | assumption | intro _ | exact Sub.trans (by decide) hm | apply kept_selectRef | apply kept_ite
    | (extract_lets +onlyGivenNames x; revert x; first
        | refine kept_named (m := m) (s0 := s0) ?_ ?_ | refine kept_namedP (m := m) (s0 := s0) ?_ ?_
        | refine kept_value ?_) | (simp -zeta only [kept_lit]) | apply kept_set_gyl

theorem kept_abortNamed (x1) (x2) (hm : Sub [.obj, .trx, .lake, .scan] m) (h : Kept m s0 s) : Kept m s0 (abortNamed x1
    x2 s) := by
  unfold abortNamed
  repeat' with_reducible first
    | assumption | intro _ | exact Sub.trans (by decide) hm | apply kept_abortGroup | apply kept_ite

theorem kept_acceptPkt (hm : Sub [.trx] m) (h : Kept m s0 s) : Kept m s0 (acceptPkt s) := by
  unfold acceptPkt
  repeat' with_reducible first
    | assumption | intro _ | exact Sub.trans (by decide) hm
    | (extract_lets +onlyGivenNames x; revert x; first
        | refine kept_named (m := m) (s0 := s0) ?_ ?_ | refine kept_namedP (m := m) (s0 := s0) ?_ ?_
        | refine kept_value ?_) | (simp -zeta only [kept_lit]) | apply kept_set_trx

theorem kept_failedTile (x1) (x2) (hm : Sub [.obj, .trx, .lake, .scan] m) (h : Kept m s0 s) : Kept m s0 (failedTile x1
    x2 s) := by
  unfold failedTile
  repeat' with_reducible first
    | assumption | intro _ | exact Sub.trans (by decide) hm | apply kept_nakTx | apply kept_abortGroup | apply kept_ite

theorem kept_noBankTile (x1) (hm : Sub [.obj, .trx, .lake, .scan] m) (h : Kept m s0 s) : Kept m s0 (noBankTile x1 s) := by
  unfold noBankTile
  repeat' with_reducible first
    | assumption | intro _ | exact Sub.trans (by decide) hm | apply kept_oset | apply kept_evc | apply kept_cnt
    | apply kept_failedTile

theorem kept_decodeFails (x1) (x2) (x3) (hm : Sub [.obj, .trx, .lake, .scan] m) (h : Kept m s0 s) : Kept m s0
    (decodeFails x1 x2 x3 s) := by
  unfold decodeFails
  repeat' with_reducible first
    | assumption | intro _ | exact Sub.trans (by decide) hm | apply kept_oset | apply kept_evc | apply kept_cnt
    | apply kept_failedTile

theorem kept_holdGroup (x1) (x2) (hm : Sub [.obj, .trx, .lake, .scan] m) (h : Kept m s0 s) : Kept m s0 (holdGroup x1 x2
    s) := by
  unfold holdGroup
  repeat' with_reducible first
    | assumption | intro _ | exact Sub.trans (by decide) hm | apply kept_pushRun | apply kept_abortGroup
    | apply kept_setTag | apply kept_setGroup | apply kept_ite
    | (extract_lets +onlyGivenNames x; revert x; first
        | refine kept_named (m := m) (s0 := s0) ?_ ?_ | refine kept_namedP (m := m) (s0 := s0) ?_ ?_
        | refine kept_value ?_) | apply kept_each

theorem kept_tryComplete (x1) (hm : Sub [.obj, .trx, .lake, .scan] m) (h : Kept m s0 s) : Kept m s0 (tryComplete x1 s)
    := by
  unfold tryComplete
  repeat' with_reducible first
    | assumption | intro _ | exact Sub.trans (by decide) hm | apply kept_pushRun | apply kept_holdGroup
    | apply kept_setGroup | apply kept_ite
    | (extract_lets +onlyGivenNames x; revert x; first
        | refine kept_named (m := m) (s0 := s0) ?_ ?_ | refine kept_namedP (m := m) (s0 := s0) ?_ ?_
        | refine kept_value ?_) | (apply kept_eqP (by assumption)) | split

theorem kept_stagedTile (x1) (x2) (hm : Sub [.obj, .mem, .poison, .trx, .lake, .scan] m) (h : Kept m s0 s) : Kept m s0
    (stagedTile x1 x2 s) := by
  unfold stagedTile
  repeat' with_reducible first
    | assumption | intro _ | exact Sub.trans (by decide) hm | apply kept_nakTx | apply kept_tryComplete
    | apply kept_pushBack | apply kept_evc | apply kept_stageTile | apply kept_setTag | apply kept_ite

theorem kept_tileDecoded (x1) (hm : Sub [.obj, .mem, .poison, .trx, .lake, .scan, .safe] m) (h : Kept m s0 s) : Kept m
    s0 (tileDecoded x1 s) := by
  unfold tileDecoded
  repeat' with_reducible first
    | assumption | intro _ | exact Sub.trans (by decide) hm | apply kept_noBankTile | apply kept_evc
    | apply kept_decodeFails | apply kept_failure | apply kept_dropDecode | apply kept_cnt | apply kept_stagedTile
    | apply kept_failedTile | apply kept_ite
    | (extract_lets +onlyGivenNames x; revert x; first
        | refine kept_named (m := m) (s0 := s0) ?_ ?_ | refine kept_namedP (m := m) (s0 := s0) ?_ ?_
        | refine kept_value ?_) | (apply kept_eqP (by assumption)) | split

theorem kept_makeRoom (x1) (hm : Sub [.obj, .mem, .poison, .trx, .lake, .scan, .safe] m) (h : Kept m s0 s) : Kept m s0
    (makeRoom x1 s) := by
  unfold makeRoom
  repeat' with_reducible first
    | assumption | intro _ | exact Sub.trans (by decide) hm | apply kept_tileDecoded | apply kept_ite
    | (apply kept_eqP (by assumption)) | split

theorem kept_assignInst (x1) (hm : Sub [.obj, .mem, .poison, .trx, .lake, .scan, .safe] m) (h : Kept m s0 s) : Kept m s0
    (assignInst x1 s) := by
  unfold assignInst
  repeat' with_reducible first
    | assumption | intro _ | exact Sub.trans (by decide) hm | apply kept_makeRoom
    | (extract_lets +onlyGivenNames x; revert x; first
        | refine kept_named (m := m) (s0 := s0) ?_ ?_ | refine kept_namedP (m := m) (s0 := s0) ?_ ?_
        | refine kept_value ?_) | (simp -zeta only [kept_lit]) | apply kept_set_lake

theorem kept_takeTile (x1) (hm : Sub [.trx] m) (h : Kept m s0 s) : Kept m s0 (takeTile x1 s) := by
  unfold takeTile
  repeat' with_reducible first
    | assumption | intro _ | exact Sub.trans (by decide) hm | apply kept_setTag

theorem kept_joinGroup (x1) (x2) (x3) (hm : Sub [.trx] m) (h : Kept m s0 s) : Kept m s0 (joinGroup x1 x2 x3 s) := by
  unfold joinGroup
  repeat' with_reducible first
    | assumption | intro _ | exact Sub.trans (by decide) hm | apply kept_setGroup

theorem kept_acceptTile (x1) (hm : Sub [.obj, .mem, .poison, .trx, .lake, .scan, .safe] m) (h : Kept m s0 s) : Kept m s0
    (acceptTile x1 s) := by
  unfold acceptTile
  repeat' with_reducible first
    | assumption | intro _ | exact Sub.trans (by decide) hm | apply kept_assignInst | apply kept_takeTile
    | apply kept_joinGroup | apply kept_ite

theorem kept_rejectPkt (x1) (x2) (x3) (x4) (x5) (x6) (hm : Sub [.obj, .trx, .lake, .scan] m) (h : Kept m s0 s) : Kept m
    s0 (rejectPkt x1 x2 x3 x4 x5 x6 s) := by
  unfold rejectPkt
  repeat' with_reducible first
    | assumption | intro _ | exact Sub.trans (by decide) hm | apply kept_abortNamed | apply kept_sendNak
    | apply kept_setTag | apply kept_ite
    | (extract_lets +onlyGivenNames x; revert x; first
        | refine kept_named (m := m) (s0 := s0) ?_ ?_ | refine kept_namedP (m := m) (s0 := s0) ?_ ?_
        | refine kept_value ?_) | (apply kept_eqP (by assumption)) | split

theorem kept_lakeTile (x1) (x2) (x3) (hm : Sub [.obj, .trx, .lake, .scan] m) (h : Kept m s0 s) : Kept m s0 (lakeTile x1
    x2 x3 s) := by
  unfold lakeTile
  repeat' with_reducible first
    | assumption | intro _ | exact Sub.trans (by decide) hm | apply kept_noBankTile | apply kept_dropDecode
    | apply kept_setTag | apply kept_ite

theorem kept_payloadTile (x1) (x2) (x3) (hm : Sub [.obj, .mem, .poison, .trx, .lake, .scan, .safe] m) (h : Kept m s0 s)
    : Kept m s0 (payloadTile x1 x2 x3 s) := by
  unfold payloadTile
  repeat' with_reducible first
    | assumption | intro _ | exact Sub.trans (by decide) hm | apply kept_failure | apply kept_stagedTile
    | apply kept_failedTile | apply kept_ite

theorem kept_tileEnds (x1) (x2) (x3) (x4) (hm : Sub [.obj, .mem, .poison, .trx, .lake, .scan, .safe] m) (h : Kept m s0
    s) : Kept m s0 (tileEnds x1 x2 x3 x4 s) := by
  unfold tileEnds
  repeat' with_reducible first
    | assumption | intro _ | exact Sub.trans (by decide) hm | apply kept_rejectPkt | apply kept_lakeTile
    | apply kept_payloadTile | apply kept_ite

theorem kept_knownTile (x1) (x2) (x3) (hm : Sub [.obj, .mem, .poison, .trx, .lake, .scan, .safe] m) (h : Kept m s0 s) :
    Kept m s0 (knownTile x1 x2 x3 s) := by
  unfold knownTile
  repeat' with_reducible first
    | assumption | intro _ | exact Sub.trans (by decide) hm | apply kept_tileEnds | apply kept_forgetTile | apply kept_ite
    | (extract_lets +onlyGivenNames x; revert x; first
        | refine kept_named (m := m) (s0 := s0) ?_ ?_ | refine kept_namedP (m := m) (s0 := s0) ?_ ?_
        | refine kept_value ?_) | apply kept_each | (simp -zeta only [kept_lit]) | apply kept_set_trx

theorem kept_newTile (x1) (x2) (x3) (hm : Sub [.obj, .mem, .poison, .trx, .lake, .scan, .safe] m) (h : Kept m s0 s) :
    Kept m s0 (newTile x1 x2 x3 s) := by
  unfold newTile
  repeat' with_reducible first
    | assumption | intro _ | exact Sub.trans (by decide) hm | apply kept_forgetPartial | apply kept_tileEnds
    | apply kept_acceptTile | apply kept_ite

theorem kept_takeToken (x1) (hm : Sub [.trx] m) (h : Kept m s0 s) : Kept m s0 (takeToken x1 s) := by
  unfold takeToken
  repeat' with_reducible first
    | assumption | intro _ | exact Sub.trans (by decide) hm | apply kept_setTag

theorem kept_tileHeaderIn (x1) (hm : Sub [.obj, .mem, .poison, .trx, .lake, .scan, .safe] m) (h : Kept m s0 s) : Kept m
    s0 (tileHeaderIn x1 s) := by
  unfold tileHeaderIn
  repeat' with_reducible first
    | assumption | intro _ | exact Sub.trans (by decide) hm | apply kept_acceptTile | apply kept_ite
    | (extract_lets +onlyGivenNames x; revert x; first
        | refine kept_named (m := m) (s0 := s0) ?_ ?_ | refine kept_namedP (m := m) (s0 := s0) ?_ ?_
        | refine kept_value ?_) | (simp -zeta only [kept_lit]) | apply kept_set_trx

theorem kept_hatchRegion (x1) (hm : Sub [.obj, .pins, .evlog, .bnk, .mgt, .scan, .safe, .jrn] m) (h : Kept m s0 s) :
    Kept m s0 (hatchRegion x1 s) := by
  unfold hatchRegion
  repeat' with_reducible first
    | assumption | intro _ | exact Sub.trans (by decide) hm | apply kept_setCause | apply kept_tileReaction
    | apply kept_fst | apply kept_ite
    | (extract_lets +onlyGivenNames x; revert x; first
        | refine kept_named (m := m) (s0 := s0) ?_ ?_ | refine kept_namedP (m := m) (s0 := s0) ?_ ?_
        | refine kept_value ?_) | apply kept_each | (simp -zeta only [kept_lit]) | apply kept_set_bnk

theorem kept_dropLine (x1) (hm : Sub [.scan] m) (h : Kept m s0 s) : Kept m s0 (dropLine x1 s) := by
  unfold dropLine
  repeat' with_reducible first
    | assumption | intro _ | exact Sub.trans (by decide) hm | apply kept_setBandScan

theorem kept_lakeWordBad (x1) (hm : Sub [.obj, .trx, .lake, .scan, .safe] m) (h : Kept m s0 s) : Kept m s0 (lakeWordBad
    x1 s) := by
  unfold lakeWordBad
  repeat' with_reducible first
    | assumption | intro _ | exact Sub.trans (by decide) hm | apply kept_stopSlot | apply kept_failure
    | apply kept_dropDecode | apply kept_failedTile | apply kept_ite
    | (extract_lets +onlyGivenNames x; revert x; first
        | refine kept_named (m := m) (s0 := s0) ?_ ?_ | refine kept_namedP (m := m) (s0 := s0) ?_ ?_
        | refine kept_value ?_) | (apply kept_eqP (by assumption)) | split

theorem kept_describedLost (x1) (x2) (hm : Sub [.obj, .pins, .evlog, .trx, .lake, .mgt, .scan, .safe, .jrn] m) (h : Kept
    m s0 s) : Kept m s0 (describedLost x1 x2 s) := by
  unfold describedLost
  repeat' with_reducible first
    | assumption | intro _ | exact Sub.trans (by decide) hm | apply kept_nakTx | apply kept_setPos
    | apply kept_tileReaction | apply kept_fst
    | (extract_lets +onlyGivenNames x; revert x; first
        | refine kept_named (m := m) (s0 := s0) ?_ ?_ | refine kept_namedP (m := m) (s0 := s0) ?_ ?_
        | refine kept_value ?_) | (apply kept_eqP (by assumption)) | split

theorem kept_bankReaction (x1) (hm : Sub [.free, .obj, .boot, .pins, .pwr, .evlog, .cross, .pxl, .trx, .lake, .fst,
    .bnk, .mgt, .scan, .dlk, .wear, .safe, .pnl, .cal, .gyl, .jrn] m) (h : Kept m s0 s) : Kept m s0 (bankReaction x1 s)
    := by
  unfold bankReaction
  repeat' with_reducible first
    | assumption | intro _ | exact Sub.trans (by decide) hm | apply kept_hatchRegion | apply kept_tookFree
    | apply kept_dropLine | apply kept_setDlk | apply kept_abandonCal | apply kept_lakeWordBad | apply kept_lostSignature
    | apply kept_describedLost | apply kept_deviceReaction | apply kept_ite
    | (extract_lets +onlyGivenNames x; revert x; first
        | refine kept_named (m := m) (s0 := s0) ?_ ?_ | refine kept_namedP (m := m) (s0 := s0) ?_ ?_
        | refine kept_value ?_) | (simp -zeta only [kept_lit]) | apply kept_set_wear

theorem kept_handedOver (x1) (x2) (x3) (hm : Sub [.obj, .pins, .evlog, .lake, .mgt, .wear, .cal, .jrn] m) (h : Kept m s0
    s) : Kept m s0 (handedOver x1 x2 x3 s) := by
  unfold handedOver
  repeat' with_reducible first
    | assumption | intro _ | exact Sub.trans (by decide) hm | apply kept_lakeLost | apply kept_codingHeld
    | apply kept_codingBack | apply kept_abandonCal | apply kept_logEv | apply kept_ite

theorem kept_handover (x1) (hm : Sub [.obj, .pins, .evlog, .lake, .bnk, .mgt, .wear, .cal, .jrn] m) (h : Kept m s0 s) :
    Kept m s0 (handover x1 s) := by
  unfold handover
  repeat' with_reducible first
    | assumption | intro _ | exact Sub.trans (by decide) hm | apply kept_setBank | apply kept_evc | apply kept_handedOver
    | apply kept_ite
    | (extract_lets +onlyGivenNames x; revert x; first
        | refine kept_named (m := m) (s0 := s0) ?_ ?_ | refine kept_namedP (m := m) (s0 := s0) ?_ ?_
        | refine kept_value ?_) | (simp -zeta only [kept_lit]) | apply kept_set_bnk

theorem kept_execBankClearDone (x1) (x2) (hm : Sub [.obj, .pins, .evlog, .lake, .bnk, .mgt, .wear, .cal, .jrn] m) (h :
    Kept m s0 s) : KeptO m s0 (execBankClearDone x1 x2 s) := by
  unfold execBankClearDone
  repeat' with_reducible first
    | assumption | intro _ | exact Sub.trans (by decide) hm | apply kept_handover | apply kept_State_at | apply keptO_next
    | apply kept_ite

theorem kept_modBank (x1) (x2) (hm : Sub [.bnk] m) (h : Kept m s0 s) : Kept m s0 (modBank x1 x2 s) := by
  unfold modBank
  repeat' with_reducible first
    | assumption | intro _ | exact Sub.trans (by decide) hm | apply kept_setBank

theorem kept_execBankRelease (x1) (x2) (hm : Sub [.obj, .pins, .evlog, .lake, .bnk, .mgt, .wear, .cal, .jrn] m) (h :
    Kept m s0 s) : KeptO m s0 (execBankRelease x1 x2 s) := by
  unfold execBankRelease
  repeat' with_reducible first
    | assumption | intro _ | exact Sub.trans (by decide) hm | apply kept_modBank | apply kept_handover
    | apply kept_State_at | apply keptO_next | apply kept_ite

theorem kept_execBankReleaseTimeout (x1) (x2) (hm : Sub [.bnk] m) (h : Kept m s0 s) : KeptO m s0 (execBankReleaseTimeout
    x1 x2 s) := by
  unfold execBankReleaseTimeout
  repeat' with_reducible first
    | assumption | intro _ | exact Sub.trans (by decide) hm | apply kept_modBank | apply kept_State_at | apply keptO_next
    | apply kept_ite

theorem kept_ownBnkOwner (x1) (x2) (hm : Sub [.bnk] m) (h : Kept m s0 s) : KeptP m s0 (ownBnkOwner x1 x2 s) := by
  unfold ownBnkOwner
  repeat' with_reducible first
    | assumption | intro _ | exact Sub.trans (by decide) hm | apply kept_modBank | (unfold KeptP; dsimp only)
    | apply kept_ite | apply keptP_ite

theorem kept_execBnkOwnerWrite (x1) (x2) (x3) (x4) (hm : Sub [.obj, .pins, .bnk, .mgt] m) (h : Kept m s0 s) : KeptO m s0
    (execBnkOwnerWrite x1 x2 x3 x4 s) := by
  unfold execBnkOwnerWrite
  repeat' with_reducible first
    | assumption | intro _ | exact Sub.trans (by decide) hm | apply kept_ownBnkOwner | apply kept_writeRow
    | apply kept_State_at | apply keptO_next

theorem kept_sramBad (x1) (x2) (hm : Sub [.obj, .safe] m) (h : Kept m s0 s) : Kept m s0 (sramBad x1 x2 s) := by
  unfold sramBad
  repeat' with_reducible first
    | assumption | intro _ | exact Sub.trans (by decide) hm | apply kept_oset | apply kept_evc | apply kept_failure
    | apply kept_cnt

theorem kept_execSramScrubStep (x1) (x2) (x3) (x4) (hm : Sub [.free, .obj, .boot, .pins, .pwr, .evlog, .cross, .pxl,
    .trx, .lake, .fst, .bnk, .mgt, .scan, .dlk, .wear, .safe, .pnl, .cal, .gyl, .jrn] m) (h : Kept m s0 s) : KeptO m s0
    (execSramScrubStep x1 x2 x3 x4 s) := by
  unfold execSramScrubStep
  repeat' with_reducible first
    | assumption | intro _ | exact Sub.trans (by decide) hm | apply kept_evc | apply kept_State_at
    | apply kept_bankReaction | apply kept_cnt | apply kept_sramBad | apply keptO_next | apply kept_ite | apply keptO_ite
    | (extract_lets +onlyGivenNames x; revert x; first
        | refine kept_named (m := m) (s0 := s0) ?_ ?_ | refine kept_namedP (m := m) (s0 := s0) ?_ ?_
        | refine kept_value ?_) | apply kept_whenDo | (simp -zeta only [kept_lit]) | apply kept_set_bnk

theorem kept_peekRead (hm : Sub [.free, .obj, .boot, .pins, .pwr, .evlog, .cross, .pxl, .trx, .lake, .fst, .bnk, .mgt,
    .scan, .dlk, .wear, .safe, .pnl, .cal, .gyl, .jrn] m) (h : Kept m s0 s) : KeptP m s0 (peekRead s) := by
  unfold peekRead
  repeat' with_reducible first
    | assumption | intro _ | exact Sub.trans (by decide) hm | apply kept_oset | apply kept_tookFree
    | apply kept_bankReaction | apply kept_sramBad | (unfold KeptP; dsimp only) | apply kept_ite | apply keptP_ite
    | (apply kept_eqP (by assumption)) | split

theorem kept_peekWrite (x1) (x2) (hm : Sub [.obj, .bnk] m) (h : Kept m s0 s) : KeptP m s0 (peekWrite x1 x2 s) := by
  unfold peekWrite
  repeat' with_reducible first
    | assumption | intro _ | exact Sub.trans (by decide) hm | apply kept_oset | apply kept_evc | apply kept_cnt
    | (unfold KeptP; dsimp only) | apply kept_ite | apply keptP_ite
    | (extract_lets +onlyGivenNames x; revert x; first
        | refine kept_named (m := m) (s0 := s0) ?_ ?_ | refine kept_namedP (m := m) (s0 := s0) ?_ ?_
        | refine kept_value ?_) | (simp -zeta only [kept_lit]) | apply kept_set_bnk | (apply kept_eqP (by assumption))
    | split

end Sys2Proof.Machine
end

