-- ==== Sys2Proof/Laws/KeptPanel.lean ====
section
/-!
SUPPORT. What is kept (Laws/Kept.lean) by the operations of the supplies, safety, scan-out, the driver link, starts,
boot, the panel and the power states.
-/

set_option linter.unusedTactic false
set_option linter.unreachableTactic false

namespace Sys2Proof.Machine

variable {m : List Part} {s0 s : State}

theorem kept_raiseVcore (hm : Sub [.obj, .pwr] m) (h : Kept m s0 s) : Kept m s0 (raiseVcore s) := by
  unfold raiseVcore
  repeat' with_reducible first
    | assumption | intro _ | exact Sub.trans (by decide) hm | apply kept_askVcore | apply kept_ite
    | (extract_lets +onlyGivenNames x; revert x; first
        | refine kept_named (m := m) (s0 := s0) ?_ ?_ | refine kept_namedP (m := m) (s0 := s0) ?_ ?_
        | refine kept_value ?_) | (simp -zeta only [kept_lit]) | apply kept_set_pwr | (apply kept_eqP (by assumption))
    | split

theorem kept_pmbNext (hm : Sub [.obj, .pwr] m) (h : Kept m s0 s) : Kept m s0 (pmbNext s) := by
  unfold pmbNext
  repeat' with_reducible first
    | assumption | intro _ | exact Sub.trans (by decide) hm | apply kept_sendOperation | apply kept_stepGoal
    | apply kept_raiseVcore | apply kept_ite
    | (extract_lets +onlyGivenNames x; revert x; first
        | refine kept_named (m := m) (s0 := s0) ?_ ?_ | refine kept_namedP (m := m) (s0 := s0) ?_ ?_
        | refine kept_value ?_) | (simp -zeta only [kept_lit]) | apply kept_set_pwr

theorem kept_attemptFailed (x1) (hm : Sub [.obj, .boot, .pins, .pwr, .evlog, .cross, .pxl, .trx, .lake, .fst, .mgt,
    .scan, .dlk, .safe, .pnl, .cal, .gyl, .jrn] m) (h : Kept m s0 s) : Kept m s0 (attemptFailed x1 s) := by
  unfold attemptFailed
  repeat' with_reducible first
    | assumption | intro _ | exact Sub.trans (by decide) hm | apply kept_oset | apply kept_evc | apply kept_failure
    | apply kept_logEv | apply kept_cnt | apply kept_deviceReaction | apply kept_pmbNext | apply kept_ite
    | (extract_lets +onlyGivenNames x; revert x; first
        | refine kept_named (m := m) (s0 := s0) ?_ ?_ | refine kept_namedP (m := m) (s0 := s0) ?_ ?_
        | refine kept_value ?_) | (simp -zeta only [kept_lit]) | apply kept_set_pwr

theorem kept_execPmbAlert (x1) (x2) (hm : Sub [.obj] m) (h : Kept m s0 s) : KeptO m s0 (execPmbAlert x1 x2 s) := by
  unfold execPmbAlert
  repeat' with_reducible first
    | assumption | intro _ | exact Sub.trans (by decide) hm | apply kept_oset | apply kept_evc | apply kept_State_at
    | apply kept_cnt | apply keptO_next | apply kept_ite

theorem kept_execPmbHoldoffExpiry (x1) (hm : Sub [.obj, .pwr] m) (h : Kept m s0 s) : KeptO m s0 (execPmbHoldoffExpiry x1
    s) := by
  unfold execPmbHoldoffExpiry
  repeat' with_reducible first
    | assumption | intro _ | exact Sub.trans (by decide) hm | apply kept_State_at | apply kept_stepGoal | apply keptO_next
    | apply kept_ite

theorem kept_execPmbusAttemptDone (x1) (x2) (x3) (x4) (hm : Sub [.obj, .boot, .pins, .pwr, .evlog, .cross, .pxl, .trx,
    .lake, .fst, .mgt, .scan, .dlk, .safe, .pnl, .cal, .gyl, .jrn] m) (h : Kept m s0 s) : KeptO m s0
    (execPmbusAttemptDone x1 x2 x3 x4 s) := by
  unfold execPmbusAttemptDone
  repeat' with_reducible first
    | assumption | intro _ | exact Sub.trans (by decide) hm | apply kept_oset | apply kept_attemptFailed | apply kept_evc
    | apply kept_State_at | apply kept_cnt | apply kept_pmbNext | apply keptO_next | apply kept_ite | apply keptO_ite
    | (extract_lets +onlyGivenNames x; revert x; first
        | refine kept_named (m := m) (s0 := s0) ?_ ?_ | refine kept_namedP (m := m) (s0 := s0) ?_ ?_
        | refine kept_value ?_) | (simp -zeta only [kept_lit]) | apply kept_set_pwr | (apply kept_eqP (by assumption))
    | split

theorem kept_execPmbusAttemptTimeout (x1) (hm : Sub [.obj, .boot, .pins, .pwr, .evlog, .cross, .pxl, .trx, .lake, .fst,
    .mgt, .scan, .dlk, .safe, .pnl, .cal, .gyl, .jrn] m) (h : Kept m s0 s) : KeptO m s0 (execPmbusAttemptTimeout x1 s)
    := by
  unfold execPmbusAttemptTimeout
  repeat' with_reducible first
    | assumption | intro _ | exact Sub.trans (by decide) hm | apply kept_attemptFailed | apply kept_State_at
    | apply keptO_next | apply kept_ite | apply keptO_ite
    | (extract_lets +onlyGivenNames x; revert x; first
        | refine kept_named (m := m) (s0 := s0) ?_ ?_ | refine kept_namedP (m := m) (s0 := s0) ?_ ?_
        | refine kept_value ?_) | (apply kept_eqP (by assumption)) | split

theorem kept_lowerVcore (x1) (hm : Sub [.obj, .pwr] m) (h : Kept m s0 s) : Kept m s0 (lowerVcore x1 s) := by
  unfold lowerVcore
  repeat' with_reducible first
    | assumption | intro _ | exact Sub.trans (by decide) hm | apply kept_askVcore | apply kept_ite

theorem kept_judgeSlack (x1) (hm : Sub [.obj, .pwr] m) (h : Kept m s0 s) : Kept m s0 (judgeSlack x1 s) := by
  unfold judgeSlack
  repeat' with_reducible first
    | assumption | intro _ | exact Sub.trans (by decide) hm | apply kept_lowerVcore | apply kept_raiseVcore
    | apply kept_ite
    | (extract_lets +onlyGivenNames x; revert x; first
        | refine kept_named (m := m) (s0 := s0) ?_ ?_ | refine kept_namedP (m := m) (s0 := s0) ?_ ?_
        | refine kept_value ?_) | (simp -zeta only [kept_lit]) | apply kept_set_pwr | (apply kept_eqP (by assumption))
    | split

theorem kept_clearFrame (hm : Sub [.obj, .pins, .evlog, .mgt, .safe, .jrn] m) (h : Kept m s0 s) : Kept m s0 (clearFrame
    s) := by
  unfold clearFrame
  repeat' with_reducible first
    | assumption | intro _ | exact Sub.trans (by decide) hm | apply kept_evc | apply kept_logEv | apply kept_fst
    | apply kept_ite
    | (extract_lets +onlyGivenNames x; revert x; first
        | refine kept_named (m := m) (s0 := s0) ?_ ?_ | refine kept_namedP (m := m) (s0 := s0) ?_ ?_
        | refine kept_value ?_) | apply kept_each | apply kept_foldl | apply kept_foldlP | apply keptP_foldl
    | (simp -zeta only [kept_lit]) | apply kept_set_safe

theorem kept_configBad (hm : Sub [.obj, .safe] m) (h : Kept m s0 s) : Kept m s0 (configBad s) := by
  unfold configBad
  repeat' with_reducible first
    | assumption | intro _ | exact Sub.trans (by decide) hm | apply kept_failure | apply kept_ite
    | (extract_lets +onlyGivenNames x; revert x; first
        | refine kept_named (m := m) (s0 := s0) ?_ ?_ | refine kept_namedP (m := m) (s0 := s0) ?_ ?_
        | refine kept_value ?_) | (simp -zeta only [kept_lit]) | apply kept_set_safe

theorem kept_execConfigCrcCheck (x1) (x2) (hm : Sub [.free, .obj, .safe] m) (h : Kept m s0 s) : KeptO m s0
    (execConfigCrcCheck x1 x2 s) := by
  unfold execConfigCrcCheck
  repeat' with_reducible first
    | assumption | intro _ | exact Sub.trans (by decide) hm | apply kept_oset | apply kept_tookFree | apply kept_State_at
    | apply kept_configBad | apply keptO_next | apply kept_ite

theorem kept_repairFailed (hm : Sub [.obj, .boot, .pins, .pwr, .evlog, .cross, .pxl, .trx, .lake, .fst, .mgt, .scan,
    .dlk, .safe, .pnl, .cal, .gyl, .jrn] m) (h : Kept m s0 s) : Kept m s0 (repairFailed s) := by
  unfold repairFailed
  repeat' with_reducible first
    | assumption | intro _ | exact Sub.trans (by decide) hm | apply kept_deviceReaction
    | (extract_lets +onlyGivenNames x; revert x; first
        | refine kept_named (m := m) (s0 := s0) ?_ ?_ | refine kept_namedP (m := m) (s0 := s0) ?_ ?_
        | refine kept_value ?_) | (simp -zeta only [kept_lit]) | apply kept_set_safe

theorem kept_execConfigReloadTimeout (x1) (hm : Sub [.obj, .boot, .pins, .pwr, .evlog, .cross, .pxl, .trx, .lake, .fst,
    .mgt, .scan, .dlk, .safe, .pnl, .cal, .gyl, .jrn] m) (h : Kept m s0 s) : KeptO m s0 (execConfigReloadTimeout x1 s)
    := by
  unfold execConfigReloadTimeout
  repeat' with_reducible first
    | assumption | intro _ | exact Sub.trans (by decide) hm | apply kept_repairFailed | apply kept_State_at
    | apply keptO_next | apply kept_ite

theorem kept_execCoreWatchdogExpiry (x1) (hm : Sub [.obj, .boot, .pins, .pwr, .evlog, .cross, .pxl, .trx, .lake, .fst,
    .mgt, .scan, .dlk, .safe, .pnl, .cal, .gyl, .jrn] m) (h : Kept m s0 s) : KeptO m s0 (execCoreWatchdogExpiry x1 s) :=
    by
  unfold execCoreWatchdogExpiry
  repeat' with_reducible first
    | assumption | intro _ | exact Sub.trans (by decide) hm | apply kept_failure | apply kept_State_at
    | apply kept_deviceReaction | apply keptO_next | apply kept_ite

theorem kept_execLockstepMismatch (x1) (hm : Sub [.obj, .boot, .pins, .pwr, .evlog, .cross, .pxl, .trx, .lake, .fst,
    .mgt, .scan, .dlk, .safe, .pnl, .cal, .gyl, .jrn] m) (h : Kept m s0 s) : KeptO m s0 (execLockstepMismatch x1 s) :=
    by
  unfold execLockstepMismatch
  repeat' with_reducible first
    | assumption | intro _ | exact Sub.trans (by decide) hm | apply kept_failure | apply kept_State_at
    | apply kept_deviceReaction | apply keptO_next | apply kept_ite

theorem kept_ownBandClr (x1) (hm : Sub [.obj, .safe, .gyl] m) (h : Kept m s0 s) : KeptP m s0 (ownBandClr x1 s) := by
  unfold ownBandClr
  repeat' with_reducible first
    | assumption | intro _ | exact Sub.trans (by decide) hm | apply kept_oset | apply kept_behindCleared
    | (unfold KeptP; dsimp only) | apply kept_ite | apply keptP_ite
    | (extract_lets +onlyGivenNames x; revert x; first
        | refine kept_named (m := m) (s0 := s0) ?_ ?_ | refine kept_namedP (m := m) (s0 := s0) ?_ ?_
        | refine kept_value ?_) | apply kept_foldl | apply kept_foldlP | apply keptP_foldl | (simp -zeta only [kept_lit])
    | apply kept_set_safe

theorem kept_execSafBandclr (x1) (x2) (x3) (hm : Sub [.obj, .pins, .mgt, .safe, .gyl] m) (h : Kept m s0 s) : KeptO m s0
    (execSafBandclr x1 x2 x3 s) := by
  unfold execSafBandclr
  repeat' with_reducible first
    | assumption | intro _ | exact Sub.trans (by decide) hm | apply kept_ownBandClr | apply kept_writeRow
    | apply kept_State_at | apply keptO_next

theorem kept_ownSafClear (x1) (hm : Sub [.obj, .boot, .pins, .evlog, .cross, .pxl, .trx, .mgt, .scan, .dlk, .pnl, .jrn]
    m) (h : Kept m s0 s) : KeptP m s0 (ownSafClear x1 s) := by
  unfold ownSafClear
  repeat' with_reducible first
    | assumption | intro _ | exact Sub.trans (by decide) hm | apply kept_padsAtSetup | apply kept_oset | apply kept_evc
    | apply kept_changeOp | apply kept_logEv | (unfold KeptP; dsimp only) | apply kept_ite | apply keptP_ite
    | (extract_lets +onlyGivenNames x; revert x; first
        | refine kept_named (m := m) (s0 := s0) ?_ ?_ | refine kept_namedP (m := m) (s0 := s0) ?_ ?_
        | refine kept_value ?_) | (simp -zeta only [kept_lit]) | apply kept_set_pins | exact rfl
    | (apply kept_eqP (by assumption)) | split

theorem kept_execSafClear (x1) (x2) (x3) (hm : Sub [.obj, .boot, .pins, .evlog, .cross, .pxl, .trx, .mgt, .scan, .dlk,
    .pnl, .jrn] m) (h : Kept m s0 s) : KeptO m s0 (execSafClear x1 x2 x3 s) := by
  unfold execSafClear
  repeat' with_reducible first
    | assumption | intro _ | exact Sub.trans (by decide) hm | apply kept_ownSafClear | apply kept_writeRow
    | apply kept_State_at | apply keptO_next

theorem kept_inject (x1) (x2) (hm : Sub [.obj, .boot, .pins, .pwr, .evlog, .cross, .pxl, .trx, .lake, .fst, .mgt, .scan,
    .dlk, .safe, .pnl, .cal, .gyl, .jrn] m) (h : Kept m s0 s) : Kept m s0 (inject x1 x2 s) := by
  unfold inject
  repeat' with_reducible first
    | assumption | intro _ | exact Sub.trans (by decide) hm | apply kept_bandReaction | apply kept_startPath
    | apply kept_failure | apply kept_deviceReaction | apply kept_tileReaction | apply kept_ite
    | (extract_lets +onlyGivenNames x; revert x; first
        | refine kept_named (m := m) (s0 := s0) ?_ ?_ | refine kept_namedP (m := m) (s0 := s0) ?_ ?_
        | refine kept_value ?_) | (simp -zeta only [kept_lit]) | apply kept_set_safe

theorem kept_ownInjGo (x1) (hm : Sub [.obj, .boot, .pins, .pwr, .evlog, .cross, .pxl, .trx, .lake, .fst, .mgt, .scan,
    .dlk, .safe, .pnl, .cal, .gyl, .jrn] m) (h : Kept m s0 s) : KeptP m s0 (ownInjGo x1 s) := by
  unfold ownInjGo
  repeat' with_reducible first
    | assumption | intro _ | exact Sub.trans (by decide) hm | apply kept_inject | (unfold KeptP; dsimp only)
    | apply kept_ite | apply keptP_ite | (apply kept_eqP (by assumption)) | split

theorem kept_execSafInjGo (x1) (x2) (x3) (hm : Sub [.obj, .boot, .pins, .pwr, .evlog, .cross, .pxl, .trx, .lake, .fst,
    .mgt, .scan, .dlk, .safe, .pnl, .cal, .gyl, .jrn] m) (h : Kept m s0 s) : KeptO m s0 (execSafInjGo x1 x2 x3 s) := by
  unfold execSafInjGo
  repeat' with_reducible first
    | assumption | intro _ | exact Sub.trans (by decide) hm | apply kept_writeRow | apply kept_State_at
    | apply kept_ownInjGo | apply keptO_next

theorem kept_ownSealCmd (x1) (hm : Sub [.obj, .pins, .evlog, .mgt, .scan, .safe, .jrn] m) (h : Kept m s0 s) : KeptP m s0
    (ownSealCmd x1 s) := by
  unfold ownSealCmd
  repeat' with_reducible first
    | assumption | intro _ | exact Sub.trans (by decide) hm | apply kept_oset | apply kept_refCrc | apply kept_jrnObj
    | apply kept_regionRecord | apply kept_logEv | apply kept_cnt | apply kept_jrnStatus | apply kept_journalPending
    | (unfold KeptP; dsimp only) | apply kept_ite | apply keptP_ite
    | (extract_lets +onlyGivenNames x; revert x; first
        | refine kept_named (m := m) (s0 := s0) ?_ ?_ | refine kept_namedP (m := m) (s0 := s0) ?_ ?_
        | refine kept_value ?_) | (simp -zeta only [kept_lit]) | apply kept_set_safe | (apply kept_eqP (by assumption))
    | split

theorem kept_execSealCfg (x1) (x2) (hm : Sub [.obj, .pins, .evlog, .mgt, .scan, .safe, .jrn] m) (h : Kept m s0 s) :
    KeptO m s0 (execSealCfg x1 x2 s) := by
  unfold execSealCfg
  repeat' with_reducible first
    | assumption | intro _ | exact Sub.trans (by decide) hm | apply kept_writeRow | apply kept_State_at
    | apply kept_ownSealCmd | apply keptO_next

theorem kept_execUnsealCfg (x1) (x2) (hm : Sub [.obj, .pins, .evlog, .mgt, .scan, .safe, .jrn] m) (h : Kept m s0 s) :
    KeptO m s0 (execUnsealCfg x1 x2 s) := by
  unfold execUnsealCfg
  repeat' with_reducible first
    | assumption | intro _ | exact Sub.trans (by decide) hm | apply kept_writeRow | apply kept_State_at
    | apply kept_ownSealCmd | apply keptO_next

theorem kept_ownInject (x1) (x2) (hm : Sub [.obj] m) (h : Kept m s0 s) : KeptP m s0 (ownInject x1 x2 s) := by
  unfold ownInject
  repeat' with_reducible first
    | assumption | intro _ | exact Sub.trans (by decide) hm | apply kept_oset | (unfold KeptP; dsimp only)
    | apply kept_ite | apply keptP_ite

theorem kept_reloadRecord (hm : Sub [.obj, .dom, .scan] m) (h : Kept m s0 s) : Kept m s0 (reloadRecord s) := by
  unfold reloadRecord
  repeat' with_reducible first
    | assumption | intro _ | exact Sub.trans (by decide) hm | apply kept_fst
    | (extract_lets +onlyGivenNames x; revert x; first
        | refine kept_named (m := m) (s0 := s0) ?_ ?_ | refine kept_namedP (m := m) (s0 := s0) ?_ ?_
        | refine kept_value ?_) | apply kept_foldl | apply kept_foldlP | apply keptP_foldl | (simp -zeta only [kept_lit])
    | apply kept_set_obj_dom_scan

theorem kept_reloadFrame (hm : Sub [.obj, .dom, .boot, .pins, .pwr, .evlog, .cross, .pxl, .trx, .lake, .fst, .mgt,
    .scan, .dlk, .safe, .pnl, .cal, .gyl, .jrn] m) (h : Kept m s0 s) : Kept m s0 (reloadFrame s) := by
  unfold reloadFrame
  repeat' with_reducible first
    | assumption | intro _ | exact Sub.trans (by decide) hm | apply kept_oset | apply kept_reloadRecord
    | apply kept_repairFailed | apply kept_logEv | apply kept_ite
    | (extract_lets +onlyGivenNames x; revert x; first
        | refine kept_named (m := m) (s0 := s0) ?_ ?_ | refine kept_namedP (m := m) (s0 := s0) ?_ ?_
        | refine kept_value ?_) | (simp -zeta only [kept_lit]) | apply kept_set_safe

theorem kept_addCurrent (x1) (x2) (hm : Sub [.scan] m) (h : Kept m s0 s) : Kept m s0 (addCurrent x1 x2 s) := by
  unfold addCurrent
  repeat' with_reducible first
    | assumption | intro _ | exact Sub.trans (by decide) hm | apply kept_setBandScan

theorem kept_writeRegs (x1) (x2) (hm : Sub [.dlk] m) (h : Kept m s0 s) : Kept m s0 (writeRegs x1 x2 s) := by
  unfold writeRegs
  repeat' with_reducible first
    | assumption | intro _ | exact Sub.trans (by decide) hm | apply kept_sendDrv | apply kept_setDlk

theorem kept_sendConfig (x1) (hm : Sub [.dlk] m) (h : Kept m s0 s) : Kept m s0 (sendConfig x1 s) := by
  unfold sendConfig
  repeat' with_reducible first
    | assumption | intro _ | exact Sub.trans (by decide) hm | apply kept_writeRegs

theorem kept_configChanged (hm : Sub [.dlk] m) (h : Kept m s0 s) : Kept m s0 (configChanged s) := by
  unfold configChanged
  repeat' with_reducible first
    | assumption | intro _ | exact Sub.trans (by decide) hm | apply kept_sendConfig | apply kept_each

theorem kept_rasterFrame (hm : Sub [.obj, .mem, .poison, .pins, .pwr, .evlog, .mgt, .scan, .dlk, .safe, .jrn] m) (h :
    Kept m s0 s) : Kept m s0 (rasterFrame s) := by
  unfold rasterFrame
  repeat' with_reducible first
    | assumption | intro _ | exact Sub.trans (by decide) hm | apply kept_restartRaster | apply kept_raiseToFloor
    | apply kept_configChanged | apply kept_ite
    | (extract_lets +onlyGivenNames x; revert x; first
        | refine kept_named (m := m) (s0 := s0) ?_ ?_ | refine kept_namedP (m := m) (s0 := s0) ?_ ?_
        | refine kept_value ?_) | (simp -zeta only [kept_lit]) | apply kept_set_scan

theorem kept_beforeShow (hm : Sub [.obj, .mem, .poison, .boot, .pins, .pwr, .evlog, .cross, .pxl, .trx, .lake, .fst,
    .bnk, .mgt, .scan, .dlk, .wear, .safe, .pnl, .cal, .gyl, .jrn] m) (h : Kept m s0 s) : Kept m s0 (beforeShow s) := by
  unfold beforeShow
  repeat' with_reducible first
    | assumption | intro _ | exact Sub.trans (by decide) hm | apply kept_calFrame | apply kept_bankFrame
    | apply kept_rasterFrame | apply kept_seenWindow | apply kept_heldFrame | apply kept_gylFrame | apply kept_thermFrame

theorem kept_passDone (x1) (x2) (hm : Sub [.obj] m) (h : Kept m s0 s) : Kept m s0 (passDone x1 x2 s) := by
  unfold passDone
  repeat' with_reducible first
    | assumption | intro _ | exact Sub.trans (by decide) hm | apply kept_cnt | apply kept_ite
    | (extract_lets +onlyGivenNames x; revert x; first
        | refine kept_named (m := m) (s0 := s0) ?_ ?_ | refine kept_namedP (m := m) (s0 := s0) ?_ ?_
        | refine kept_value ?_) | (apply kept_eqP (by assumption)) | split

theorem kept_judgeLate (x1) (hm : Sub [.obj, .mem, .poison, .pins, .evlog, .trx, .lake, .fst, .mgt, .scan, .dlk, .wear,
    .safe, .pnl, .cal, .jrn] m) (h : Kept m s0 s) : Kept m s0 (judgeLate x1 s) := by
  unfold judgeLate
  repeat' with_reducible first
    | assumption | intro _ | exact Sub.trans (by decide) hm | apply kept_setBandScan | apply kept_calLost
    | apply kept_judgeSlot
    | (extract_lets +onlyGivenNames x; revert x; first
        | refine kept_named (m := m) (s0 := s0) ?_ ?_ | refine kept_namedP (m := m) (s0 := s0) ?_ ?_
        | refine kept_value ?_) | apply kept_each

theorem kept_pushSent (x1) (x2) (hm : Sub [.scan, .dlk] m) (h : Kept m s0 s) : Kept m s0 (pushSent x1 x2 s) := by
  unfold pushSent
  repeat' with_reducible first
    | assumption | intro _ | exact Sub.trans (by decide) hm | apply kept_setBandScan | apply kept_sendDrv
    | apply kept_setDlk

theorem kept_sendFree (x1) (x2) (x3) (x4) (hm : Sub [.obj, .scan, .dlk, .wear, .cal] m) (h : Kept m s0 s) : Kept m s0
    (sendFree x1 x2 x3 x4 s) := by
  unfold sendFree
  repeat' with_reducible first
    | assumption | intro _ | exact Sub.trans (by decide) hm | apply kept_takeGap | apply kept_pushSent | apply kept_evc
    | apply kept_ite
    | (extract_lets +onlyGivenNames x; revert x; first
        | refine kept_named (m := m) (s0 := s0) ?_ ?_ | refine kept_namedP (m := m) (s0 := s0) ?_ ?_
        | refine kept_value ?_) | (simp -zeta only [kept_lit]) | apply kept_set_wear | (apply kept_eqP (by assumption))
    | split

theorem kept_noBlackLine (x1) (hm : Sub [.safe] m) (h : Kept m s0 s) : Kept m s0 (noBlackLine x1 s) := by
  unfold noBlackLine
  repeat' with_reducible first
    | assumption | intro _ | exact Sub.trans (by decide) hm
    | (extract_lets +onlyGivenNames x; revert x; first
        | refine kept_named (m := m) (s0 := s0) ?_ ?_ | refine kept_namedP (m := m) (s0 := s0) ?_ ?_
        | refine kept_value ?_) | (simp -zeta only [kept_lit]) | apply kept_set_safe

theorem kept_skipRec (x1) (hm : Sub [.obj, .scan] m) (h : Kept m s0 s) : Kept m s0 (skipRec x1 s) := by
  unfold skipRec
  repeat' with_reducible first
    | assumption | intro _ | exact Sub.trans (by decide) hm | apply kept_setBandScan | apply kept_evc | apply kept_cnt

theorem kept_recStep (x1) (x2) (x3) (hm : Sub [.obj, .scan] m) (h : Kept m s0 s) : KeptP m s0 (recStep x1 x2 x3 s) := by
  unfold recStep
  repeat' with_reducible first
    | assumption | intro _ | exact Sub.trans (by decide) hm | apply kept_setBandScan | apply kept_skipRec | apply kept_cnt
    | (unfold KeptP; dsimp only) | apply kept_ite | apply keptP_ite | (apply kept_eqP (by assumption)) | split

theorem kept_keepSample (x1) (x2) (x3) (x4) (hm : Sub [.wear] m) (h : Kept m s0 s) : Kept m s0 (keepSample x1 x2 x3 x4
    s) := by
  unfold keepSample
  repeat' with_reducible first
    | assumption | intro _ | exact Sub.trans (by decide) hm | apply kept_ite
    | (extract_lets +onlyGivenNames x; revert x; first
        | refine kept_named (m := m) (s0 := s0) ?_ ?_ | refine kept_namedP (m := m) (s0 := s0) ?_ ?_
        | refine kept_value ?_) | (simp -zeta only [kept_lit]) | apply kept_set_wear

theorem kept_sendImage (x1) (x2) (x3) (x4) (x5) (x6) (x7) (hm : Sub [.scan, .dlk, .wear, .safe] m) (h : Kept m s0 s) :
    Kept m s0 (sendImage x1 x2 x3 x4 x5 x6 x7 s) := by
  unfold sendImage
  repeat' with_reducible first
    | assumption | intro _ | exact Sub.trans (by decide) hm | apply kept_noBlackLine | apply kept_setBandScan
    | apply kept_pushSent | apply kept_addCurrent | apply kept_keepSample

theorem kept_sendBlack (x1) (x2) (x3) (x4) (x5) (hm : Sub [.scan, .dlk, .wear] m) (h : Kept m s0 s) : Kept m s0
    (sendBlack x1 x2 x3 x4 x5 s) := by
  unfold sendBlack
  repeat' with_reducible first
    | assumption | intro _ | exact Sub.trans (by decide) hm | apply kept_setBandScan | apply kept_pushSent
    | apply kept_addCurrent | apply kept_keepSample | apply kept_ite

theorem kept_underrun (x1) (x2) (hm : Sub [.obj, .pins, .evlog, .trx, .lake, .mgt, .scan, .safe, .jrn] m) (h : Kept m s0
    s) : Kept m s0 (underrun x1 x2 s) := by
  unfold underrun
  repeat' with_reducible first
    | assumption | intro _ | exact Sub.trans (by decide) hm | apply kept_scanEvent | apply kept_bandReaction
    | apply kept_failure | apply kept_cnt | apply kept_ite
    | (extract_lets +onlyGivenNames x; revert x; first
        | refine kept_named (m := m) (s0 := s0) ?_ ?_ | refine kept_namedP (m := m) (s0 := s0) ?_ ?_
        | refine kept_value ?_) | (simp -zeta only [kept_lit]) | apply kept_set_scan

theorem kept_transmit (x1) (x2) (x3) (x4) (hm : Sub [.obj, .pins, .evlog, .trx, .lake, .mgt, .scan, .dlk, .wear, .safe,
    .cal, .jrn] m) (h : Kept m s0 s) : Kept m s0 (transmit x1 x2 x3 x4 s) := by
  unfold transmit
  repeat' with_reducible first
    | assumption | intro _ | exact Sub.trans (by decide) hm | apply kept_sendFree | apply kept_noBlackLine
    | apply kept_setBandScan | apply kept_recStep | apply kept_pushSent | apply kept_sendImage | apply kept_sendBlack
    | apply kept_underrun | apply kept_fst | apply kept_ite
    | (extract_lets +onlyGivenNames x; revert x; first
        | refine kept_named (m := m) (s0 := s0) ?_ ?_ | refine kept_namedP (m := m) (s0 := s0) ?_ ?_
        | refine kept_value ?_) | apply kept_whenDo | (apply kept_eqP (by assumption)) | split

theorem kept_cleanFrame (hm : Sub [.safe] m) (h : Kept m s0 s) : Kept m s0 (cleanFrame s) := by
  unfold cleanFrame
  repeat' with_reducible first
    | assumption | intro _ | exact Sub.trans (by decide) hm | apply kept_ite
    | (extract_lets +onlyGivenNames x; revert x; first
        | refine kept_named (m := m) (s0 := s0) ?_ ?_ | refine kept_namedP (m := m) (s0 := s0) ?_ ?_
        | refine kept_value ?_) | apply kept_each | (simp -zeta only [kept_lit]) | apply kept_set_safe

theorem kept_slotEvents (x1) (hm : Sub [.obj, .mem, .poison, .pins, .evlog, .trx, .lake, .fst, .mgt, .scan, .dlk, .wear,
    .safe, .pnl, .cal, .jrn] m) (h : Kept m s0 s) : Kept m s0 (slotEvents x1 s) := by
  unfold slotEvents
  repeat' with_reducible first
    | assumption | intro _ | exact Sub.trans (by decide) hm | apply kept_scanEvent | apply kept_judgeLate
    | apply kept_transmit | apply kept_cleanFrame | apply kept_fst
    | (extract_lets +onlyGivenNames x; revert x; first
        | refine kept_named (m := m) (s0 := s0) ?_ ?_ | refine kept_namedP (m := m) (s0 := s0) ?_ ?_
        | refine kept_value ?_) | apply kept_each | apply kept_whenDo

theorem kept_swapTables (hm : Sub [.scan] m) (h : Kept m s0 s) : Kept m s0 (swapTables s) := by
  unfold swapTables
  repeat' with_reducible first
    | assumption | intro _ | exact Sub.trans (by decide) hm | apply kept_fst
    | (extract_lets +onlyGivenNames x; revert x; first
        | refine kept_named (m := m) (s0 := s0) ?_ ?_ | refine kept_namedP (m := m) (s0 := s0) ?_ ?_
        | refine kept_value ?_) | apply kept_foldl | apply kept_foldlP | apply keptP_foldl | (simp -zeta only [kept_lit])
    | apply kept_set_scan

theorem kept_latchPoint (hm : Sub [.scan] m) (h : Kept m s0 s) : Kept m s0 (latchPoint s) := by
  unfold latchPoint
  repeat' with_reducible first
    | assumption | intro _ | exact Sub.trans (by decide) hm | apply kept_keepTemps | apply kept_swapTables
    | (extract_lets +onlyGivenNames x; revert x; first
        | refine kept_named (m := m) (s0 := s0) ?_ ?_ | refine kept_namedP (m := m) (s0 := s0) ?_ ?_
        | refine kept_value ?_) | (simp -zeta only [kept_lit]) | apply kept_set_scan

theorem kept_recWrite (x1) (hm : Sub [.obj, .scan] m) (h : Kept m s0 s) : Kept m s0 (recWrite x1 s) := by
  unfold recWrite
  repeat' with_reducible first
    | assumption | intro _ | exact Sub.trans (by decide) hm | apply kept_setBandScan | apply kept_evc | apply kept_skipRec
    | apply kept_ite
    | (extract_lets +onlyGivenNames x; revert x; first
        | refine kept_named (m := m) (s0 := s0) ?_ ?_ | refine kept_namedP (m := m) (s0 := s0) ?_ ?_
        | refine kept_value ?_) | (apply kept_eqP (by assumption)) | split

theorem kept_beginSlot (x1) (x2) (hm : Sub [.obj, .scan, .dlk] m) (h : Kept m s0 s) : Kept m s0 (beginSlot x1 x2 s) := by
  unfold beginSlot
  repeat' with_reducible first
    | assumption | intro _ | exact Sub.trans (by decide) hm | apply kept_setBandScan | apply kept_sendStrobe
    | apply kept_recWrite

theorem kept_slotWork (x1) (hm : Sub [.obj, .mem, .poison, .pins, .evlog, .trx, .lake, .fst, .mgt, .scan, .dlk, .wear,
    .safe, .pnl, .cal, .jrn] m) (h : Kept m s0 s) : Kept m s0 (slotWork x1 s) := by
  unfold slotWork
  repeat' with_reducible first
    | assumption | intro _ | exact Sub.trans (by decide) hm | apply kept_passDone | apply kept_slotEvents
    | apply kept_latchPoint | apply kept_setPads_same | apply kept_swapSlot | apply kept_releaseWrites
    | apply kept_beginSlot
    | (extract_lets +onlyGivenNames x; revert x; first
        | refine kept_named (m := m) (s0 := s0) ?_ ?_ | refine kept_namedP (m := m) (s0 := s0) ?_ ?_
        | refine kept_value ?_) | apply kept_each | apply kept_whenDo

theorem kept_linkFrame (hm : Sub [.dlk, .pnl] m) (h : Kept m s0 s) : Kept m s0 (linkFrame s) := by
  unfold linkFrame
  repeat' with_reducible first
    | assumption | intro _ | exact Sub.trans (by decide) hm | apply kept_sendDrv | apply kept_setDlk
    | apply kept_startTraining | apply kept_ite | apply kept_each

theorem kept_sampleAges (hm : Sub [.scan] m) (h : Kept m s0 s) : Kept m s0 (sampleAges s) := by
  unfold sampleAges
  repeat' with_reducible first
    | assumption | intro _ | exact Sub.trans (by decide) hm | apply kept_fst
    | (extract_lets +onlyGivenNames x; revert x; first
        | refine kept_named (m := m) (s0 := s0) ?_ ?_ | refine kept_namedP (m := m) (s0 := s0) ?_ ?_
        | refine kept_value ?_) | (simp -zeta only [kept_lit]) | apply kept_set_scan

theorem kept_fromShow (hm : Sub [.obj, .dom, .boot, .pins, .pwr, .evlog, .cross, .pxl, .trx, .lake, .fst, .mgt, .scan,
    .dlk, .safe, .pnl, .cal, .gyl, .jrn] m) (h : Kept m s0 s) : Kept m s0 (fromShow s) := by
  unfold fromShow
  repeat' with_reducible first
    | assumption | intro _ | exact Sub.trans (by decide) hm | apply kept_limitFrame | apply kept_snapFrame
    | apply kept_keepTemps | apply kept_scanEvent | apply kept_clearFrame | apply kept_reloadFrame
    | apply kept_refreshBands | apply kept_swapFrame | apply kept_regionFrame | apply kept_linkFrame
    | apply kept_showFrame | apply kept_swapTables | apply kept_sampleAges | apply kept_ite
    | (extract_lets +onlyGivenNames x; revert x; first
        | refine kept_named (m := m) (s0 := s0) ?_ ?_ | refine kept_namedP (m := m) (s0 := s0) ?_ ?_
        | refine kept_value ?_) | apply kept_each | (simp -zeta only [kept_lit]) | apply kept_set_scan

theorem kept_beginFrame (hm : Sub [.obj, .dom, .mem, .poison, .boot, .pins, .pwr, .evlog, .cross, .pxl, .trx, .lake,
    .fst, .bnk, .mgt, .scan, .dlk, .wear, .safe, .pnl, .cal, .gyl, .jrn] m) (h : Kept m s0 s) : Kept m s0 (beginFrame s)
    := by
  unfold beginFrame
  repeat' with_reducible first
    | assumption | intro _ | exact Sub.trans (by decide) hm | apply kept_slotWork | apply kept_scanEvent
    | apply kept_fromShow | apply kept_showFrame | apply kept_beforeShow | apply kept_ite

theorem kept_cycleFrame (hm : Sub [.obj, .wear] m) (h : Kept m s0 s) : Kept m s0 (cycleFrame s) := by
  unfold cycleFrame
  repeat' with_reducible first
    | assumption | intro _ | exact Sub.trans (by decide) hm | apply kept_oset | apply kept_ite
    | (extract_lets +onlyGivenNames x; revert x; first
        | refine kept_named (m := m) (s0 := s0) ?_ ?_ | refine kept_namedP (m := m) (s0 := s0) ?_ ?_
        | refine kept_value ?_) | (simp -zeta only [kept_lit]) | apply kept_set_wear

theorem kept_hatchFrame (hm : Sub [.obj, .trx, .scan] m) (h : Kept m s0 s) : Kept m s0 (hatchFrame s) := by
  unfold hatchFrame
  repeat' with_reducible first
    | assumption | intro _ | exact Sub.trans (by decide) hm | apply kept_backEvent | apply kept_ite
    | (extract_lets +onlyGivenNames x; revert x; first
        | refine kept_named (m := m) (s0 := s0) ?_ ?_ | refine kept_namedP (m := m) (s0 := s0) ?_ ?_
        | refine kept_value ?_) | (simp -zeta only [kept_lit]) | apply kept_set_scan

theorem kept_judgeFrame (x1) (x2) (x3) (hm : Sub [.obj, .boot, .pins, .pwr, .evlog, .cross, .pxl, .trx, .lake, .fst,
    .mgt, .scan, .dlk, .safe, .pnl, .cal, .gyl, .jrn] m) (h : Kept m s0 s) : Kept m s0 (judgeFrame x1 x2 x3 s) := by
  unfold judgeFrame
  repeat' with_reducible first
    | assumption | intro _ | exact Sub.trans (by decide) hm | apply kept_bandReaction | apply kept_evc
    | apply kept_failure | apply kept_cnt | apply kept_deviceReaction | apply kept_ite
    | (extract_lets +onlyGivenNames x; revert x; first
        | refine kept_named (m := m) (s0 := s0) ?_ ?_ | refine kept_namedP (m := m) (s0 := s0) ?_ ?_
        | refine kept_value ?_) | apply kept_each

theorem kept_shadowFrame (hm : Sub [.obj, .pins, .evlog, .trx, .lake, .mgt, .scan, .safe, .jrn] m) (h : Kept m s0 s) :
    Kept m s0 (shadowFrame s) := by
  unfold shadowFrame
  repeat' with_reducible first
    | assumption | intro _ | exact Sub.trans (by decide) hm | apply kept_cntBy | apply kept_oset | apply kept_bandReaction
    | apply kept_setBandScan | apply kept_evc | apply kept_failure | apply kept_ite
    | (extract_lets +onlyGivenNames x; revert x; first
        | refine kept_named (m := m) (s0 := s0) ?_ ?_ | refine kept_namedP (m := m) (s0 := s0) ?_ ?_
        | refine kept_value ?_) | apply kept_each | apply kept_iter | (simp -zeta only [kept_lit]) | apply kept_set_scan

theorem kept_endFrame (x1) (x2) (x3) (hm : Sub [.free, .obj, .boot, .pins, .pwr, .evlog, .cross, .pxl, .trx, .lake,
    .fst, .mgt, .scan, .dlk, .wear, .safe, .pnl, .cal, .gyl, .jrn] m) (h : Kept m s0 s) : Kept m s0 (endFrame x1 x2 x3
    s) := by
  unfold endFrame
  repeat' with_reducible first
    | assumption | intro _ | exact Sub.trans (by decide) hm | apply kept_refreshTlm | apply kept_hatchFrame
    | apply kept_judgeFrame | apply kept_cycleFrame | apply kept_shadowFrame
    | (extract_lets +onlyGivenNames x; revert x; first
        | refine kept_named (m := m) (s0 := s0) ?_ ?_ | refine kept_namedP (m := m) (s0 := s0) ?_ ?_
        | refine kept_value ?_) | (simp -zeta only [kept_lit]) | apply kept_set_scan

theorem kept_execFrameStart (x1) (x2) (x3) (x4) (hm : Sub [.free, .obj, .dom, .mem, .poison, .boot, .pins, .pwr, .evlog,
    .cross, .pxl, .trx, .lake, .fst, .bnk, .mgt, .scan, .dlk, .wear, .safe, .pnl, .cal, .gyl, .jrn] m) (h : Kept m s0 s)
    : KeptO m s0 (execFrameStart x1 x2 x3 x4 s) := by
  unfold execFrameStart
  repeat' with_reducible first
    | assumption | intro _ | exact Sub.trans (by decide) hm | apply kept_endFrame | apply kept_State_at
    | apply kept_beginFrame | apply keptO_next | apply kept_ite | apply keptO_ite
    | (extract_lets +onlyGivenNames x; revert x; first
        | refine kept_named (m := m) (s0 := s0) ?_ ?_ | refine kept_namedP (m := m) (s0 := s0) ?_ ?_
        | refine kept_value ?_) | (simp -zeta only [kept_lit]) | apply kept_set_scan

theorem kept_execLineComplete (x1) (x2) (x3) (x4) (x5) (hm : Sub [.obj, .pwr, .scan] m) (h : Kept m s0 s) : KeptO m s0
    (execLineComplete x1 x2 x3 x4 x5 s) := by
  unfold execLineComplete
  repeat' with_reducible first
    | assumption | intro _ | exact Sub.trans (by decide) hm | apply kept_oset | apply kept_judgeSlack
    | apply kept_setBandScan | apply kept_State_at | apply keptO_next | apply kept_ite | apply keptO_ite
    | (extract_lets +onlyGivenNames x; revert x; first
        | refine kept_named (m := m) (s0 := s0) ?_ ?_ | refine kept_namedP (m := m) (s0 := s0) ?_ ?_
        | refine kept_value ?_) | (simp -zeta only [kept_lit]) | apply kept_set_pwr_scan

theorem kept_execRowPrepareStart (x1) (x2) (x3) (hm : Sub [.obj, .pins, .evlog, .mgt, .scan, .wear, .safe, .jrn] m) (h :
    Kept m s0 s) : KeptO m s0 (execRowPrepareStart x1 x2 x3 s) := by
  unfold execRowPrepareStart
  repeat' with_reducible first
    | assumption | intro _ | exact Sub.trans (by decide) hm | apply kept_prepareRow | apply kept_State_at
    | apply keptO_next | apply kept_ite | apply keptO_ite
    | (extract_lets +onlyGivenNames x; revert x; first
        | refine kept_named (m := m) (s0 := s0) ?_ ?_ | refine kept_namedP (m := m) (s0 := s0) ?_ ?_
        | refine kept_value ?_) | (apply kept_eqP (by assumption)) | split

theorem kept_execRowSlotStart (x1) (hm : Sub [.obj, .mem, .poison, .pins, .evlog, .trx, .lake, .fst, .mgt, .scan, .dlk,
    .wear, .safe, .pnl, .cal, .jrn] m) (h : Kept m s0 s) : KeptO m s0 (execRowSlotStart x1 s) := by
  unfold execRowSlotStart
  repeat' with_reducible first
    | assumption | intro _ | exact Sub.trans (by decide) hm | apply kept_slotWork | apply kept_State_at | apply keptO_next
    | apply kept_ite | apply keptO_ite
    | (extract_lets +onlyGivenNames x; revert x; first
        | refine kept_named (m := m) (s0 := s0) ?_ ?_ | refine kept_namedP (m := m) (s0 := s0) ?_ ?_
        | refine kept_value ?_) | (simp -zeta only [kept_lit]) | apply kept_set_scan

theorem kept_execTableCopySynced (x1) (x2) (x3) (hm : Sub [.scan] m) (h : Kept m s0 s) : KeptO m s0 (execTableCopySynced
    x1 x2 x3 s) := by
  unfold execTableCopySynced
  repeat' with_reducible first
    | assumption | intro _ | exact Sub.trans (by decide) hm | apply kept_State_at | apply keptO_next | apply kept_ite
    | apply keptO_ite
    | (extract_lets +onlyGivenNames x; revert x; first
        | refine kept_named (m := m) (s0 := s0) ?_ ?_ | refine kept_namedP (m := m) (s0 := s0) ?_ ?_
        | refine kept_value ?_) | (simp -zeta only [kept_lit]) | apply kept_set_scan

theorem kept_advanceTraining (x1) (hm : Sub [.dlk] m) (h : Kept m s0 s) : Kept m s0 (advanceTraining x1 s) := by
  unfold advanceTraining
  repeat' with_reducible first
    | assumption | intro _ | exact Sub.trans (by decide) hm | apply kept_sendConfig | apply kept_trainDrv
    | apply kept_setDlk | apply kept_ite

theorem kept_ownDrvreg (x1) (x2) (hm : Sub [.dlk] m) (h : Kept m s0 s) : KeptP m s0 (ownDrvreg x1 x2 s) := by
  unfold ownDrvreg
  repeat' with_reducible first
    | assumption | intro _ | exact Sub.trans (by decide) hm | apply kept_writeRegs | (unfold KeptP; dsimp only)
    | apply kept_ite | apply keptP_ite

theorem kept_execDlkDrvregWrite (x1) (x2) (x3) (x4) (hm : Sub [.obj, .pins, .mgt, .dlk] m) (h : Kept m s0 s) : KeptO m
    s0 (execDlkDrvregWrite x1 x2 x3 x4 s) := by
  unfold execDlkDrvregWrite
  repeat' with_reducible first
    | assumption | intro _ | exact Sub.trans (by decide) hm | apply kept_ownDrvreg | apply kept_writeRow
    | apply kept_State_at | apply keptO_next

theorem kept_execDlkFailedRetry (x1) (x2) (hm : Sub [.dlk, .pnl] m) (h : Kept m s0 s) : KeptO m s0 (execDlkFailedRetry
    x1 x2 s) := by
  unfold execDlkFailedRetry
  repeat' with_reducible first
    | assumption | intro _ | exact Sub.trans (by decide) hm | apply kept_State_at | apply kept_startTraining
    | apply keptO_next | apply kept_ite

theorem kept_linkFails (x1) (x2) (hm : Sub [.obj, .pins, .evlog, .trx, .lake, .mgt, .scan, .dlk, .safe, .jrn] m) (h :
    Kept m s0 s) : Kept m s0 (linkFails x1 x2 s) := by
  unfold linkFails
  repeat' with_reducible first
    | assumption | intro _ | exact Sub.trans (by decide) hm | apply kept_bandReaction | apply kept_setDlk
    | apply kept_failure | apply kept_ite

theorem kept_execDlkLockTimeout (x1) (x2) (hm : Sub [.obj, .pins, .evlog, .trx, .lake, .mgt, .scan, .dlk, .safe, .jrn]
    m) (h : Kept m s0 s) : KeptO m s0 (execDlkLockTimeout x1 x2 s) := by
  unfold execDlkLockTimeout
  repeat' with_reducible first
    | assumption | intro _ | exact Sub.trans (by decide) hm | apply kept_linkFails | apply kept_State_at
    | apply keptO_next | apply kept_ite

theorem kept_retrainBand (x1) (hm : Sub [.obj, .pins, .evlog, .trx, .lake, .mgt, .scan, .dlk, .safe, .pnl, .jrn] m) (h :
    Kept m s0 s) : Kept m s0 (retrainBand x1 s) := by
  unfold retrainBand
  repeat' with_reducible first
    | assumption | intro _ | exact Sub.trans (by decide) hm | apply kept_bandReaction | apply kept_failure
    | apply kept_startTraining | apply kept_setDlk | apply kept_ite

theorem kept_ownDlkRetrain (x1) (hm : Sub [.obj, .pins, .evlog, .trx, .lake, .mgt, .scan, .dlk, .safe, .pnl, .jrn] m) (h
    : Kept m s0 s) : KeptP m s0 (ownDlkRetrain x1 s) := by
  unfold ownDlkRetrain
  repeat' with_reducible first
    | assumption | intro _ | exact Sub.trans (by decide) hm | apply kept_retrainBand | (unfold KeptP; dsimp only)
    | apply kept_ite | apply keptP_ite | apply kept_each

theorem kept_execDlkRetrain (x1) (x2) (x3) (hm : Sub [.obj, .pins, .evlog, .trx, .lake, .mgt, .scan, .dlk, .safe, .pnl,
    .jrn] m) (h : Kept m s0 s) : KeptO m s0 (execDlkRetrain x1 x2 x3 s) := by
  unfold execDlkRetrain
  repeat' with_reducible first
    | assumption | intro _ | exact Sub.trans (by decide) hm | apply kept_writeRow | apply kept_ownDlkRetrain
    | apply kept_State_at | apply keptO_next

theorem kept_execDlkStepTestDone (x1) (x2) (x3) (hm : Sub [.obj, .pins, .evlog, .trx, .lake, .mgt, .scan, .dlk, .safe,
    .jrn] m) (h : Kept m s0 s) : KeptO m s0 (execDlkStepTestDone x1 x2 x3 s) := by
  unfold execDlkStepTestDone
  repeat' with_reducible first
    | assumption | intro _ | exact Sub.trans (by decide) hm | apply kept_linkFails | apply kept_advanceTraining
    | apply kept_setDlk | apply kept_State_at | apply keptO_next | apply kept_ite | apply keptO_ite
    | (extract_lets +onlyGivenNames x; revert x; first
        | refine kept_named (m := m) (s0 := s0) ?_ ?_ | refine kept_namedP (m := m) (s0 := s0) ?_ ?_
        | refine kept_value ?_) | (apply kept_eqP (by assumption)) | split

theorem kept_execRecoveryDelivery (x1) (x2) (x3) (x4) (hm : Sub [.dlk] m) (h : Kept m s0 s) : KeptO m s0
    (execRecoveryDelivery x1 x2 x3 x4 s) := by
  unfold execRecoveryDelivery
  repeat' with_reducible first
    | assumption | intro _ | exact Sub.trans (by decide) hm | apply kept_sendDrv | apply kept_setDlk | apply kept_State_at
    | apply keptO_next | apply kept_ite

theorem kept_execRowrepReceived (x1) (x2) (x3) (x4) (hm : Sub [.obj, .mem, .poison, .pins, .evlog, .trx, .lake, .fst,
    .mgt, .scan, .dlk, .drvRec, .wear, .safe, .pnl, .jrn] m) (h : Kept m s0 s) : KeptO m s0 (execRowrepReceived x1 x2 x3
    x4 s) := by
  unfold execRowrepReceived
  repeat' with_reducible first
    | assumption | intro _ | exact Sub.trans (by decide) hm | apply kept_keepRecords | apply kept_setBandScan
    | apply kept_judgeSlot | apply kept_State_at | apply keptO_next | apply kept_ite | apply keptO_ite
    | (extract_lets +onlyGivenNames x; revert x; first
        | refine kept_named (m := m) (s0 := s0) ?_ ?_ | refine kept_namedP (m := m) (s0 := s0) ?_ ?_
        | refine kept_value ?_) | (apply kept_eqP (by assumption)) | split

theorem kept_execStatusFrameReceived (x1) (x2) (x3) (x4) (hm : Sub [.obj, .pins, .evlog, .trx, .lake, .mgt, .scan, .dlk,
    .safe, .jrn] m) (h : Kept m s0 s) : KeptO m s0 (execStatusFrameReceived x1 x2 x3 x4 s) := by
  unfold execStatusFrameReceived
  repeat' with_reducible first
    | assumption | intro _ | exact Sub.trans (by decide) hm | apply kept_linkFails | apply kept_oset
    | apply kept_advanceTraining | apply kept_setDlk | apply kept_State_at | apply keptO_next | apply kept_fst
    | apply kept_ite | apply keptO_ite
    | (extract_lets +onlyGivenNames x; revert x; first
        | refine kept_named (m := m) (s0 := s0) ?_ ?_ | refine kept_namedP (m := m) (s0 := s0) ?_ ?_
        | refine kept_value ?_) | apply kept_each

theorem kept_clearDie (hm : Sub [.free, .obj, .dom, .mem, .poison, .boot, .pins, .pwr, .evlog, .cross, .pxl, .trx,
    .lake, .fst, .bnk, .mgt, .scan, .dlk, .drvRec, .wear, .safe, .pnl, .cal, .gyl, .jrn] m) (h : Kept m s0 s) : Kept m
    s0 (clearDie s) where
  pending := h.pending
  now := h.now
  safe _ := ⟨rfl, rfl⟩
  rest := by constructor <;> exact fun e => absurd (hm _ (by simp)) e

theorem kept_countReset (x1) (hm : Sub [.obj, .boot] m) (h : Kept m s0 s) : Kept m s0 (countReset x1 s) := by
  unfold countReset
  repeat' with_reducible first
    | assumption | intro _ | exact Sub.trans (by decide) hm | apply kept_cnt
    | (extract_lets +onlyGivenNames x; revert x; first
        | refine kept_named (m := m) (s0 := s0) ?_ ?_ | refine kept_namedP (m := m) (s0 := s0) ?_ ?_
        | refine kept_value ?_) | (simp -zeta only [kept_lit]) | apply kept_set_boot

theorem kept_driveReset (hm : Sub [.pins] m) (h : Kept m s0 s) : Kept m s0 (driveReset s) := by
  unfold driveReset
  repeat' with_reducible first
    | assumption | intro _ | exact Sub.trans (by decide) hm
    | (extract_lets +onlyGivenNames x; revert x; first
        | refine kept_named (m := m) (s0 := s0) ?_ ?_ | refine kept_namedP (m := m) (s0 := s0) ?_ ?_
        | refine kept_value ?_) | (simp -zeta only [kept_lit]) | apply kept_set_pins

theorem kept_enableSupplies (hm : Sub [.boot, .pins] m) (h : Kept m s0 s) : Kept m s0 (enableSupplies s) := by
  unfold enableSupplies
  repeat' with_reducible first
    | assumption | intro _ | exact Sub.trans (by decide) hm
    | (extract_lets +onlyGivenNames x; revert x; first
        | refine kept_named (m := m) (s0 := s0) ?_ ?_ | refine kept_namedP (m := m) (s0 := s0) ?_ ?_
        | refine kept_value ?_) | (simp -zeta only [kept_lit]) | apply kept_set_boot_pins

theorem kept_loadFuses (x1) (hm : Sub [.obj, .boot] m) (h : Kept m s0 s) : Kept m s0 (loadFuses x1 s) := by
  unfold loadFuses
  repeat' with_reducible first
    | assumption | intro _ | exact Sub.trans (by decide) hm | apply kept_oset | apply kept_ite
    | (extract_lets +onlyGivenNames x; revert x; first
        | refine kept_named (m := m) (s0 := s0) ?_ ?_ | refine kept_namedP (m := m) (s0 := s0) ?_ ?_
        | refine kept_value ?_) | (simp -zeta only [kept_lit]) | apply kept_set_boot

theorem kept_enterBoot (x1) (x2) (hm : Sub [.obj, .boot, .pins, .pwr, .scan] m) (h : Kept m s0 s) : Kept m s0 (enterBoot
    x1 x2 s) := by
  unfold enterBoot
  repeat' with_reducible first
    | assumption | intro _ | exact Sub.trans (by decide) hm | apply kept_oset | apply kept_releasePads
    | apply kept_refreshBands | apply kept_askVcore | apply kept_loadFuses | apply kept_ite
    | (extract_lets +onlyGivenNames x; revert x; first
        | refine kept_named (m := m) (s0 := s0) ?_ ?_ | refine kept_namedP (m := m) (s0 := s0) ?_ ?_
        | refine kept_value ?_) | (simp -zeta only [kept_lit]) | apply kept_set_boot_pins

theorem kept_execDieLeavesReset (x1) (x2) (x3) (hm : Sub [.obj, .boot, .pins, .pwr, .scan] m) (h : Kept m s0 s) : KeptO
    m s0 (execDieLeavesReset x1 x2 x3 s) := by
  unfold execDieLeavesReset
  repeat' with_reducible first
    | assumption | intro _ | exact Sub.trans (by decide) hm | apply kept_State_at | apply kept_enterBoot
    | apply keptO_next | apply kept_ite

theorem kept_execFuseLoad (x1) (hm : Sub [.boot, .pins] m) (h : Kept m s0 s) : KeptO m s0 (execFuseLoad x1 s) := by
  unfold execFuseLoad
  repeat' with_reducible first
    | assumption | intro _ | exact Sub.trans (by decide) hm | apply kept_enableSupplies | apply kept_State_at
    | apply keptO_next | apply kept_ite | apply keptO_ite
    | (extract_lets +onlyGivenNames x; revert x; first
        | refine kept_named (m := m) (s0 := s0) ?_ ?_ | refine kept_namedP (m := m) (s0 := s0) ?_ ?_
        | refine kept_value ?_) | (simp -zeta only [kept_lit]) | apply kept_set_pins

theorem kept_resetTrigger (x1) (hm : Sub [.obj, .boot, .pins, .pwr, .dlk, .pnl] m) (h : Kept m s0 s) : Kept m s0
    (resetTrigger x1 s) := by
  unfold resetTrigger
  repeat' with_reducible first
    | assumption | intro _ | exact Sub.trans (by decide) hm | apply kept_oset | apply kept_startPath
    | apply kept_countReset | apply kept_ite
    | (extract_lets +onlyGivenNames x; revert x; first
        | refine kept_named (m := m) (s0 := s0) ?_ ?_ | refine kept_namedP (m := m) (s0 := s0) ?_ ?_
        | refine kept_value ?_) | (simp -zeta only [kept_lit]) | apply kept_set_boot | apply kept_set_pwr
    | (apply kept_eqP (by assumption)) | split

theorem kept_execLockstepReset (x1) (hm : Sub [.obj, .boot, .pins, .pwr, .dlk, .pnl] m) (h : Kept m s0 s) : KeptO m s0
    (execLockstepReset x1 s) := by
  unfold execLockstepReset
  repeat' with_reducible first
    | assumption | intro _ | exact Sub.trans (by decide) hm | apply kept_State_at | apply kept_resetTrigger
    | apply keptO_next | apply kept_ite | apply keptO_ite
    | (extract_lets +onlyGivenNames x; revert x; first
        | refine kept_named (m := m) (s0 := s0) ?_ ?_ | refine kept_namedP (m := m) (s0 := s0) ?_ ?_
        | refine kept_value ?_) | (simp -zeta only [kept_lit]) | apply kept_set_boot | (apply kept_eqP (by assumption))
    | split

theorem kept_execPgoodRise (x1) (hm : Sub [.boot, .pins] m) (h : Kept m s0 s) : KeptO m s0 (execPgoodRise x1 s) := by
  unfold execPgoodRise
  repeat' with_reducible first
    | assumption | intro _ | exact Sub.trans (by decide) hm | apply kept_State_at | apply keptO_next | apply kept_ite
    | apply keptO_ite
    | (extract_lets +onlyGivenNames x; revert x; first
        | refine kept_named (m := m) (s0 := s0) ?_ ?_ | refine kept_namedP (m := m) (s0 := s0) ?_ ?_
        | refine kept_value ?_) | (simp -zeta only [kept_lit]) | apply kept_set_pins | exact rfl
    | apply kept_set_boot_pins

theorem kept_execPinReset (x1) (x2) (hm : Sub [.obj, .boot, .pins, .pwr, .dlk, .pnl] m) (h : Kept m s0 s) : KeptO m s0
    (execPinReset x1 x2 s) := by
  unfold execPinReset
  repeat' with_reducible first
    | assumption | intro _ | exact Sub.trans (by decide) hm | apply kept_oset | apply kept_enableSupplies
    | apply kept_State_at | apply kept_resetTrigger | apply keptO_next | apply kept_ite | apply keptO_ite
    | (extract_lets +onlyGivenNames x; revert x; first
        | refine kept_named (m := m) (s0 := s0) ?_ ?_ | refine kept_namedP (m := m) (s0 := s0) ?_ ?_
        | refine kept_value ?_) | (simp -zeta only [kept_lit]) | apply kept_set_boot

theorem kept_readStrap (x1) (hm : Sub [.obj, .boot] m) (h : Kept m s0 s) : Kept m s0 (readStrap x1 s) := by
  unfold readStrap
  repeat' with_reducible first
    | assumption | intro _ | exact Sub.trans (by decide) hm | apply kept_oset
    | (extract_lets +onlyGivenNames x; revert x; first
        | refine kept_named (m := m) (s0 := s0) ?_ ?_ | refine kept_namedP (m := m) (s0 := s0) ?_ ?_
        | refine kept_value ?_) | (simp -zeta only [kept_lit]) | apply kept_set_boot

theorem kept_execPowerOnReset (x1) (x2) (x3) (hm : Sub [.free, .obj, .dom, .mem, .poison, .boot, .pins, .pwr, .evlog,
    .cross, .pxl, .trx, .lake, .fst, .bnk, .mgt, .scan, .dlk, .drvRec, .wear, .safe, .pnl, .cal, .gyl, .jrn] m) (h :
    Kept m s0 s) :
    KeptO m s0 (execPowerOnReset x1 x2 x3 s) := by
  have ht := kept_State_at x1 h
  unfold execPowerOnReset
  refine keptO_next (kept_readStrap _ (Sub.trans (by decide) hm)
    (kept_whenDo (fun _ ha => kept_oset _ _ (Sub.trans (by decide) hm) ha) ?_))
  exact {
    pending := ht.pending
    now := ht.now
    safe := fun _ => ⟨rfl, rfl⟩
    rest := by constructor <;> exact fun e => absurd (hm _ (by simp)) e }

theorem kept_execResetStretchEnd (x1) (x2) (x3) (x4) (hm : Sub [.obj, .boot, .pins, .pwr, .scan] m) (h : Kept m s0 s) :
    KeptO m s0 (execResetStretchEnd x1 x2 x3 x4 s) := by
  unfold execResetStretchEnd
  repeat' with_reducible first
    | assumption | intro _ | exact Sub.trans (by decide) hm | apply kept_oset | apply kept_State_at | apply kept_enterBoot
    | apply keptO_next | apply kept_ite

theorem kept_ownRstSoft (x1) (hm : Sub [.obj, .boot, .pins, .pwr, .dlk, .pnl] m) (h : Kept m s0 s) : KeptP m s0
    (ownRstSoft x1 s) := by
  unfold ownRstSoft
  repeat' with_reducible first
    | assumption | intro _ | exact Sub.trans (by decide) hm | apply kept_resetTrigger | (unfold KeptP; dsimp only)

theorem kept_execRstSoft (x1) (x2) (x3) (hm : Sub [.obj, .boot, .pins, .pwr, .mgt, .dlk, .pnl] m) (h : Kept m s0 s) :
    KeptO m s0 (execRstSoft x1 x2 x3 s) := by
  unfold execRstSoft
  repeat' with_reducible first
    | assumption | intro _ | exact Sub.trans (by decide) hm | apply kept_writeRow | apply kept_ownRstSoft
    | apply kept_State_at | apply keptO_next

theorem kept_execSupplyInWindow (x1) (x2) (hm : Sub [.boot, .pins] m) (h : Kept m s0 s) : KeptO m s0 (execSupplyInWindow
    x1 x2 s) := by
  unfold execSupplyInWindow
  repeat' with_reducible first
    | assumption | intro _ | exact Sub.trans (by decide) hm | apply kept_State_at | apply keptO_next | apply kept_ite
    | apply keptO_ite
    | (extract_lets +onlyGivenNames x; revert x; first
        | refine kept_named (m := m) (s0 := s0) ?_ ?_ | refine kept_namedP (m := m) (s0 := s0) ?_ ?_
        | refine kept_value ?_) | (simp -zeta only [kept_lit]) | apply kept_set_boot | apply kept_set_boot_pins

theorem kept_execSupplyRetryTimer (x1) (hm : Sub [.boot, .pins] m) (h : Kept m s0 s) : KeptO m s0 (execSupplyRetryTimer
    x1 s) := by
  unfold execSupplyRetryTimer
  repeat' with_reducible first
    | assumption | intro _ | exact Sub.trans (by decide) hm | apply kept_enableSupplies | apply kept_State_at
    | apply keptO_next | apply kept_ite

theorem kept_execSupplyStartTimeout (x1) (hm : Sub [.obj, .boot, .pins] m) (h : Kept m s0 s) : KeptO m s0
    (execSupplyStartTimeout x1 s) := by
  unfold execSupplyStartTimeout
  repeat' with_reducible first
    | assumption | intro _ | exact Sub.trans (by decide) hm | apply kept_oset | apply kept_State_at | apply keptO_next
    | apply kept_ite | apply keptO_ite
    | (extract_lets +onlyGivenNames x; revert x; first
        | refine kept_named (m := m) (s0 := s0) ?_ ?_ | refine kept_namedP (m := m) (s0 := s0) ?_ ?_
        | refine kept_value ?_) | (simp -zeta only [kept_lit]) | apply kept_set_boot_pins

theorem kept_holdInReset (hm : Sub [.boot] m) (h : Kept m s0 s) : Kept m s0 (holdInReset s) := by
  unfold holdInReset
  repeat' with_reducible first
    | assumption | intro _ | exact Sub.trans (by decide) hm | apply kept_ite
    | (extract_lets +onlyGivenNames x; revert x; first
        | refine kept_named (m := m) (s0 := s0) ?_ ?_ | refine kept_namedP (m := m) (s0 := s0) ?_ ?_
        | refine kept_value ?_) | (simp -zeta only [kept_lit]) | apply kept_set_boot

theorem kept_proceedReset (hm : Sub [.free, .obj, .dom, .mem, .poison, .boot, .pins, .pwr, .evlog, .cross, .pxl, .trx,
    .lake, .fst, .bnk, .mgt, .scan, .dlk, .drvRec, .wear, .safe, .pnl, .cal, .gyl, .jrn] m) (h : Kept m s0 s) : Kept m
    s0 (proceedReset s) := by
  unfold proceedReset
  repeat' with_reducible first
    | assumption | intro _ | exact Sub.trans (by decide) hm | apply kept_holdInReset | apply kept_driveReset
    | apply kept_enableSupplies | apply kept_clearDie | apply kept_ite
    | (extract_lets +onlyGivenNames x; revert x; first
        | refine kept_named (m := m) (s0 := s0) ?_ ?_ | refine kept_namedP (m := m) (s0 := s0) ?_ ?_
        | refine kept_value ?_) | (simp -zeta only [kept_lit]) | apply kept_set_boot

theorem kept_applyRow (x1) (hm : Sub [.obj, .fst, .scan, .safe] m) (h : Kept m s0 s) : Kept m s0 (applyRow x1 s) := by
  unfold applyRow
  repeat' with_reducible first
    | assumption | intro _ | exact Sub.trans (by decide) hm | apply kept_oset | apply kept_retireRow | apply kept_fst
    | apply kept_ite
    | (extract_lets +onlyGivenNames x; revert x; first
        | refine kept_named (m := m) (s0 := s0) ?_ ?_ | refine kept_namedP (m := m) (s0 := s0) ?_ ?_
        | refine kept_value ?_) | (simp -zeta only [kept_lit]) | apply kept_set_fst | apply kept_set_scan_safe

theorem kept_bootEntries (x1) (hm : Sub [.obj, .boot, .pins, .evlog, .mgt, .jrn] m) (h : Kept m s0 s) : Kept m s0
    (bootEntries x1 s) := by
  unfold bootEntries
  repeat' with_reducible first
    | assumption | intro _ | exact Sub.trans (by decide) hm | apply kept_logEv | apply kept_cnt | apply kept_jrnStatus
    | apply kept_ite
    | (extract_lets +onlyGivenNames x; revert x; first
        | refine kept_named (m := m) (s0 := s0) ?_ ?_ | refine kept_namedP (m := m) (s0 := s0) ?_ ?_
        | refine kept_value ?_) | apply kept_each | (simp -zeta only [kept_lit]) | apply kept_set_boot

theorem kept_showPatch (hm : Sub [.obj] m) (h : Kept m s0 s) : Kept m s0 (showPatch s) := by
  unfold showPatch
  repeat' with_reducible first
    | assumption | intro _ | exact Sub.trans (by decide) hm | apply kept_oset | apply kept_ite
    | (apply kept_eqP (by assumption)) | split

theorem kept_bootPatch (x1) (hm : Sub [.obj, .pins, .evlog, .mgt, .jrn] m) (h : Kept m s0 s) : KeptP m s0 (bootPatch x1
    s) := by
  unfold bootPatch
  repeat' with_reducible first
    | assumption | intro _ | exact Sub.trans (by decide) hm | apply kept_showPatch | apply kept_oset | apply kept_logEv
    | (unfold KeptP; dsimp only) | apply kept_ite | apply keptP_ite
    | (extract_lets +onlyGivenNames x; revert x; first
        | refine kept_named (m := m) (s0 := s0) ?_ ?_ | refine kept_namedP (m := m) (s0 := s0) ?_ ?_
        | refine kept_value ?_) | (simp -zeta only [kept_lit]) | apply kept_set_mgt | (apply kept_eqP (by assumption))
    | split

theorem kept_bootSetup (hm : Sub [.obj, .boot, .pins, .pwr, .evlog, .cross, .pxl, .trx, .mgt, .scan, .dlk, .pnl, .jrn]
    m) (h : Kept m s0 s) : Kept m s0 (bootSetup s) := by
  unfold bootSetup
  repeat' with_reducible first
    | assumption | intro _ | exact Sub.trans (by decide) hm | apply kept_padsAtSetup | apply kept_raiseToFloor
    | apply kept_changeOp | apply kept_ite
    | (extract_lets +onlyGivenNames x; revert x; first
        | refine kept_named (m := m) (s0 := s0) ?_ ?_ | refine kept_namedP (m := m) (s0 := s0) ?_ ?_
        | refine kept_value ?_) | (simp -zeta only [kept_lit]) | apply kept_set_pins | exact rfl | apply kept_set_pnl

theorem kept_bootWake (hm : Sub [.obj, .gyl] m) (h : Kept m s0 s) : Kept m s0 (bootWake s) := by
  unfold bootWake
  repeat' with_reducible first
    | assumption | intro _ | exact Sub.trans (by decide) hm | apply kept_startPhrase | apply kept_ite

theorem kept_restoreImage (x1) (hm : Sub [.obj] m) (h : Kept m s0 s) : Kept m s0 (restoreImage x1 s) := by
  unfold restoreImage
  repeat' with_reducible first
    | assumption | intro _ | exact Sub.trans (by decide) hm | apply kept_oset | apply kept_fst | apply kept_ite
    | apply kept_each

theorem kept_startSeal (hm : Sub [.safe] m) (h : Kept m s0 s) : Kept m s0 (startSeal s) := by
  unfold startSeal
  repeat' with_reducible first
    | assumption | intro _ | exact Sub.trans (by decide) hm | apply kept_ite
    | (extract_lets +onlyGivenNames x; revert x; first
        | refine kept_named (m := m) (s0 := s0) ?_ ?_ | refine kept_namedP (m := m) (s0 := s0) ?_ ?_
        | refine kept_value ?_) | (simp -zeta only [kept_lit]) | apply kept_set_safe

theorem kept_restoreGens (hm : Sub [.trx] m) (h : Kept m s0 s) : Kept m s0 (restoreGens s) := by
  unfold restoreGens
  repeat' with_reducible first
    | assumption | intro _ | exact Sub.trans (by decide) hm | apply kept_setTag | apply kept_setGroup | apply kept_fst
    | apply kept_ite
    | (extract_lets +onlyGivenNames x; revert x; first
        | refine kept_named (m := m) (s0 := s0) ?_ ?_ | refine kept_namedP (m := m) (s0 := s0) ?_ ?_
        | refine kept_value ?_) | apply kept_each

theorem kept_restoreCal (hm : Sub [.obj, .pins, .evlog, .mgt, .cal, .jrn] m) (h : Kept m s0 s) : Kept m s0 (restoreCal
    s) := by
  unfold restoreCal
  repeat' with_reducible first
    | assumption | intro _ | exact Sub.trans (by decide) hm | apply kept_oset | apply kept_pendEvt | apply kept_logEv
    | apply kept_ite
    | (extract_lets +onlyGivenNames x; revert x; first
        | refine kept_named (m := m) (s0 := s0) ?_ ?_ | refine kept_namedP (m := m) (s0 := s0) ?_ ?_
        | refine kept_value ?_) | apply kept_foldl | apply kept_foldlP | apply keptP_foldl | (simp -zeta only [kept_lit])
    | apply kept_set_cal | (apply kept_eqP (by assumption)) | split

theorem kept_restoreLog (hm : Sub [.evlog] m) (h : Kept m s0 s) : Kept m s0 (restoreLog s) := by
  unfold restoreLog
  repeat' with_reducible first
    | assumption | intro _ | exact Sub.trans (by decide) hm | apply kept_fst
    | (extract_lets +onlyGivenNames x; revert x; first
        | refine kept_named (m := m) (s0 := s0) ?_ ?_ | refine kept_namedP (m := m) (s0 := s0) ?_ ?_
        | refine kept_value ?_) | (simp -zeta only [kept_lit]) | apply kept_set_evlog | (apply kept_eqP (by assumption))
    | split

theorem kept_fillGrid (hm : Sub [.obj, .mem, .poison] m) (h : Kept m s0 s) : Kept m s0 (fillGrid s) := by
  unfold fillGrid
  repeat' with_reducible first
    | assumption | intro _ | exact Sub.trans (by decide) hm | apply kept_oset | apply kept_memRun | apply kept_ite

theorem kept_showPartitions (x1) (x2) (hm : Sub [.obj] m) (h : Kept m s0 s) : Kept m s0 (showPartitions x1 x2 s) := by
  unfold showPartitions
  repeat' with_reducible first
    | assumption | intro _ | exact Sub.trans (by decide) hm | apply kept_oset

theorem kept_restoreMaps (hm : Sub [.obj, .mem, .poison, .lake, .wear] m) (h : Kept m s0 s) : Kept m s0 (restoreMaps s)
    := by
  unfold restoreMaps
  repeat' with_reducible first
    | assumption | intro _ | exact Sub.trans (by decide) hm | apply kept_fillGrid | apply kept_restoreDefect
    | apply kept_memRun | apply kept_each

theorem kept_tookGeneration (x1) (hm : Sub [.jrn] m) (h : Kept m s0 s) : Kept m s0 (tookGeneration x1 s) := by
  unfold tookGeneration
  repeat' with_reducible first
    | assumption | intro _ | exact Sub.trans (by decide) hm
    | (extract_lets +onlyGivenNames x; revert x; first
        | refine kept_named (m := m) (s0 := s0) ?_ ?_ | refine kept_namedP (m := m) (s0 := s0) ?_ ?_
        | refine kept_value ?_) | (simp -zeta only [kept_lit]) | apply kept_set_jrn

theorem kept_findGeneration (x1) (hm : Sub [.jrn] m) (h : Kept m s0 s) : Kept m s0 (findGeneration x1 s) := by
  unfold findGeneration
  repeat' with_reducible first
    | assumption | intro _ | exact Sub.trans (by decide) hm | apply kept_tookGeneration | apply kept_ite
    | (extract_lets +onlyGivenNames x; revert x; first
        | refine kept_named (m := m) (s0 := s0) ?_ ?_ | refine kept_namedP (m := m) (s0 := s0) ?_ ?_
        | refine kept_value ?_) | (simp -zeta only [kept_lit]) | apply kept_set_jrn

theorem kept_restoreObjects (x1) (hm : Sub [.obj, .dom, .mgt, .scan] m) (h : Kept m s0 s) : Kept m s0 (restoreObjects x1
    s) := by
  unfold restoreObjects
  repeat' with_reducible first
    | assumption | intro _ | exact Sub.trans (by decide) hm | apply kept_oset | apply kept_fst
    | (extract_lets +onlyGivenNames x; revert x; first
        | refine kept_named (m := m) (s0 := s0) ?_ ?_ | refine kept_namedP (m := m) (s0 := s0) ?_ ?_
        | refine kept_value ?_) | apply kept_each | (simp -zeta only [kept_lit]) | apply kept_set_dom_mgt_scan

theorem kept_startRaster (hm : Sub [.scan] m) (h : Kept m s0 s) : Kept m s0 (startRaster s) := by
  unfold startRaster
  repeat' with_reducible first
    | assumption | intro _ | exact Sub.trans (by decide) hm | apply kept_ite
    | (extract_lets +onlyGivenNames x; revert x; first
        | refine kept_named (m := m) (s0 := s0) ?_ ?_ | refine kept_namedP (m := m) (s0 := s0) ?_ ?_
        | refine kept_value ?_) | (simp -zeta only [kept_lit]) | apply kept_set_scan

theorem kept_restoreFaults (x1) (hm : Sub [.free, .obj, .pins, .evlog, .mgt, .jrn] m) (h : Kept m s0 s) : Kept m s0
    (restoreFaults x1 s) := by
  unfold restoreFaults
  repeat' with_reducible first
    | assumption | intro _ | exact Sub.trans (by decide) hm | apply kept_tookFree | apply kept_jrnFault | apply kept_ite

theorem kept_restoreJournal (x1) (x2) (hm : Sub [.free, .obj, .dom, .mem, .poison, .pins, .evlog, .trx, .lake, .fst,
    .mgt, .scan, .wear, .safe, .cal, .gyl, .jrn] m) (h : Kept m s0 s) : Kept m s0 (restoreJournal x1 x2 s) := by
  unfold restoreJournal
  repeat' with_reducible first
    | assumption | intro _ | exact Sub.trans (by decide) hm | apply kept_oset | apply kept_startSeal
    | apply kept_restoreGens | apply kept_restoreCal | apply kept_restoreLog | apply kept_fillGrid | apply kept_applyRow
    | apply kept_showPartitions | apply kept_showRing | apply kept_restoreMaps | apply kept_findGeneration
    | apply kept_restoreObjects | apply kept_startRaster | apply kept_restoreFaults | apply kept_ite
    | (extract_lets +onlyGivenNames x; revert x; first
        | refine kept_named (m := m) (s0 := s0) ?_ ?_ | refine kept_namedP (m := m) (s0 := s0) ?_ ?_
        | refine kept_value ?_) | apply kept_each | (simp -zeta only [kept_lit]) | apply kept_set_jrn | apply kept_set_gyl

theorem kept_execBootEnd (x1) (x2) (hm : Sub [.free, .obj, .dom, .mem, .poison, .boot, .pins, .pwr, .evlog, .cross,
    .pxl, .trx, .lake, .fst, .mgt, .scan, .dlk, .wear, .safe, .pnl, .cal, .gyl, .jrn] m) (h : Kept m s0 s) : KeptO m s0
    (execBootEnd x1 x2 s) := by
  unfold execBootEnd
  repeat' with_reducible first
    | assumption | intro _ | exact Sub.trans (by decide) hm | apply kept_cntBy | apply kept_oset | apply kept_pendEvt
    | apply kept_gylStart | apply kept_restoreImage | apply kept_releasePads | apply kept_refreshBands
    | apply kept_bootPatch | apply kept_bootSetup | apply kept_changeOp | apply kept_State_at | apply kept_restoreJournal
    | apply kept_bootWake | apply kept_bootEntries | apply kept_wakesDone | apply keptO_next | apply kept_fst
    | apply kept_ite | apply keptO_ite
    | (extract_lets +onlyGivenNames x; revert x; first
        | refine kept_named (m := m) (s0 := s0) ?_ ?_ | refine kept_namedP (m := m) (s0 := s0) ?_ ?_
        | refine kept_value ?_) | (simp -zeta only [kept_lit]) | apply kept_set_pins | exact rfl | apply kept_set_boot_fst
    | apply kept_set_boot_pwr

theorem kept_openBand (x1) (hm : Sub [.pins, .pnl] m) (h : Kept m s0 s) : Kept m s0 (openBand x1 s) := by
  unfold openBand
  repeat' with_reducible first
    | assumption | intro _ | exact Sub.trans (by decide) hm | apply kept_setRailPads | apply kept_setRail | apply kept_ite

theorem kept_acceptBands (x1) (hm : Sub [.pins, .pnl] m) (h : Kept m s0 s) : Kept m s0 (acceptBands x1 s) := by
  unfold acceptBands
  repeat' with_reducible first
    | assumption | intro _ | exact Sub.trans (by decide) hm | apply kept_openBand | apply kept_setRail | apply kept_fst
    | apply kept_ite
    | (extract_lets +onlyGivenNames x; revert x; first
        | refine kept_named (m := m) (s0 := s0) ?_ ?_ | refine kept_namedP (m := m) (s0 := s0) ?_ ?_
        | refine kept_value ?_) | apply kept_each | (apply kept_eqP (by assumption)) | split

theorem kept_crackConvs (x1) (x2) (x3) (hm : Sub [.obj, .cal] m) (h : Kept m s0 s) : Kept m s0 (crackConvs x1 x2 x3 s)
    := by
  unfold crackConvs
  repeat' with_reducible first
    | assumption | intro _ | exact Sub.trans (by decide) hm | apply kept_noteConv | apply kept_ite

theorem kept_showCrack (x1) (x2) (hm : Sub [.obj] m) (h : Kept m s0 s) : Kept m s0 (showCrack x1 x2 s) := by
  unfold showCrack
  repeat' with_reducible first
    | assumption | intro _ | exact Sub.trans (by decide) hm | apply kept_oset

theorem kept_crackJudge (x1) (x2) (hm : Sub [.obj, .boot, .pins, .pwr, .evlog, .cross, .pxl, .trx, .lake, .fst, .mgt,
    .scan, .dlk, .safe, .pnl, .cal, .gyl, .jrn] m) (h : Kept m s0 s) : Kept m s0 (crackJudge x1 x2 s) := by
  unfold crackJudge
  repeat' with_reducible first
    | assumption | intro _ | exact Sub.trans (by decide) hm | apply kept_setLoop | apply kept_showCrack | apply kept_evc
    | apply kept_startPath | apply kept_failure | apply kept_setMech | apply kept_deviceReaction | apply kept_ite

theorem kept_crackLearn (x1) (x2) (x3) (hm : Sub [.obj, .safe, .pnl, .jrn] m) (h : Kept m s0 s) : Kept m s0 (crackLearn
    x1 x2 x3 s) := by
  unfold crackLearn
  repeat' with_reducible first
    | assumption | intro _ | exact Sub.trans (by decide) hm | apply kept_setLoop | apply kept_plainWrite | apply kept_fst
    | apply kept_ite

theorem kept_execAutorailRequest (x1) (hm : Sub [.obj, .pins, .pnl] m) (h : Kept m s0 s) : KeptO m s0
    (execAutorailRequest x1 s) := by
  unfold execAutorailRequest
  repeat' with_reducible first
    | assumption | intro _ | exact Sub.trans (by decide) hm | apply kept_oset | apply kept_acceptBands
    | apply kept_State_at | apply keptO_next | apply kept_ite | apply keptO_ite
    | (extract_lets +onlyGivenNames x; revert x; first
        | refine kept_named (m := m) (s0 := s0) ?_ ?_ | refine kept_namedP (m := m) (s0 := s0) ?_ ?_
        | refine kept_value ?_) | apply kept_each | (simp -zeta only [kept_lit]) | apply kept_set_pnl

theorem kept_execBandStaggerTimer (x1) (x2) (hm : Sub [.pins, .pnl] m) (h : Kept m s0 s) : KeptO m s0
    (execBandStaggerTimer x1 x2 s) := by
  unfold execBandStaggerTimer
  repeat' with_reducible first
    | assumption | intro _ | exact Sub.trans (by decide) hm | apply kept_openBand | apply kept_State_at | apply keptO_next

theorem kept_execCrackCheckLate (x1) (hm : Sub [.obj, .boot, .pins, .pwr, .evlog, .cross, .pxl, .trx, .lake, .fst, .mgt,
    .scan, .dlk, .safe, .pnl, .cal, .gyl, .jrn] m) (h : Kept m s0 s) : KeptO m s0 (execCrackCheckLate x1 s) := by
  unfold execCrackCheckLate
  repeat' with_reducible first
    | assumption | intro _ | exact Sub.trans (by decide) hm | apply kept_crackJudge | apply kept_evc
    | apply kept_crackLearn | apply kept_State_at | apply keptO_next | apply kept_ite | apply keptO_ite
    | (extract_lets +onlyGivenNames x; revert x; first
        | refine kept_named (m := m) (s0 := s0) ?_ ?_ | refine kept_namedP (m := m) (s0 := s0) ?_ ?_
        | refine kept_value ?_) | apply kept_each | (simp -zeta only [kept_lit]) | apply kept_set_pnl

theorem kept_execCrackCheckTimer (x1) (hm : Sub [.pnl] m) (h : Kept m s0 s) : KeptO m s0 (execCrackCheckTimer x1 s) := by
  unfold execCrackCheckTimer
  repeat' with_reducible first
    | assumption | intro _ | exact Sub.trans (by decide) hm | apply kept_State_at | apply keptO_next | apply kept_ite
    | apply keptO_ite
    | (extract_lets +onlyGivenNames x; revert x; first
        | refine kept_named (m := m) (s0 := s0) ?_ ?_ | refine kept_namedP (m := m) (s0 := s0) ?_ ?_
        | refine kept_value ?_) | (simp -zeta only [kept_lit]) | apply kept_set_pnl

theorem kept_execCrackStepDone (x1) (x2) (x3) (hm : Sub [.obj, .boot, .pins, .pwr, .evlog, .cross, .pxl, .trx, .lake,
    .fst, .mgt, .scan, .dlk, .safe, .pnl, .cal, .gyl, .jrn] m) (h : Kept m s0 s) : KeptO m s0 (execCrackStepDone x1 x2
    x3 s) := by
  unfold execCrackStepDone
  repeat' with_reducible first
    | assumption | intro _ | exact Sub.trans (by decide) hm | apply kept_oset | apply kept_crackJudge | apply kept_evc
    | apply kept_crackLearn | apply kept_State_at | apply kept_crackConvs | apply keptO_next | apply kept_ite
    | apply keptO_ite
    | (extract_lets +onlyGivenNames x; revert x; first
        | refine kept_named (m := m) (s0 := s0) ?_ ?_ | refine kept_namedP (m := m) (s0 := s0) ?_ ?_
        | refine kept_value ?_) | apply kept_whenDo | (simp -zeta only [kept_lit]) | apply kept_set_pnl

theorem kept_whenTime (x1) {x2 : State → State} (hr : ∀ a, Kept m s0 a → Kept m s0 (x2 a))
    (h : Kept m s0 s) : Kept m s0 (whenTime x1 x2 s) := by
  unfold whenTime
  exact kept_ite (hr _ h) h

theorem kept_execDischargeDelayExpiry (x1) (x2) (hm : Sub [.pins, .pnl] m) (h : Kept m s0 s) : KeptO m s0
    (execDischargeDelayExpiry x1 x2 s) := by
  unfold execDischargeDelayExpiry
  repeat' with_reducible first
    | assumption | intro _ | exact Sub.trans (by decide) hm | apply kept_discharged | apply kept_whenTime
    | apply kept_State_at | apply keptO_next

theorem kept_releaseLinks (x1) (hm : Sub [.dlk] m) (h : Kept m s0 s) : Kept m s0 (releaseLinks x1 s) := by
  unfold releaseLinks
  repeat' with_reducible first
    | assumption | intro _ | exact Sub.trans (by decide) hm | apply kept_releaseLink | apply kept_each

theorem kept_pathTook (x1) (hm : Sub [.obj] m) (h : Kept m s0 s) : Kept m s0 (pathTook x1 s) := by
  unfold pathTook
  repeat' with_reducible first
    | assumption | intro _ | exact Sub.trans (by decide) hm | apply kept_oset

theorem kept_execLampblackComplete (x1) (hm : Sub [.free, .obj, .dom, .mem, .poison, .boot, .pins, .pwr, .evlog, .cross,
    .pxl, .trx, .lake, .fst, .bnk, .mgt, .scan, .dlk, .drvRec, .wear, .safe, .pnl, .cal, .gyl, .jrn] m) (h : Kept m s0
    s) : KeptO m s0 (execLampblackComplete x1 s) := by
  unfold execLampblackComplete
  repeat' with_reducible first
    | assumption | intro _ | exact Sub.trans (by decide) hm | apply kept_fallDone | apply kept_releaseLinks
    | apply kept_pathTook | apply kept_State_at | apply kept_proceedReset | apply keptO_next | apply kept_ite
    | apply keptO_ite
    | (extract_lets +onlyGivenNames x; revert x; first
        | refine kept_named (m := m) (s0 := s0) ?_ ?_ | refine kept_namedP (m := m) (s0 := s0) ?_ ?_
        | refine kept_value ?_) | apply kept_each | (simp -zeta only [kept_lit]) | apply kept_set_pnl
    | (apply kept_eqP (by assumption)) | split

theorem kept_execLampblackPdisTimer (x1) (x2) (hm : Sub [.pins, .pnl] m) (h : Kept m s0 s) : KeptO m s0
    (execLampblackPdisTimer x1 x2 s) := by
  unfold execLampblackPdisTimer
  repeat' with_reducible first
    | assumption | intro _ | exact Sub.trans (by decide) hm | apply kept_discharged | apply kept_fallStep
    | apply kept_whenTime | apply kept_State_at | apply keptO_next | apply kept_ite | apply keptO_ite
    | (extract_lets +onlyGivenNames x; revert x; first
        | refine kept_named (m := m) (s0 := s0) ?_ ?_ | refine kept_namedP (m := m) (s0 := s0) ?_ ?_
        | refine kept_value ?_) | (apply kept_eqP (by assumption)) | split

theorem kept_execPfailTrigger (x1) (x2) (hm : Sub [.obj, .boot, .pins, .pwr, .evlog, .cross, .pxl, .trx, .lake, .fst,
    .mgt, .scan, .dlk, .safe, .pnl, .cal, .gyl, .jrn] m) (h : Kept m s0 s) : KeptO m s0 (execPfailTrigger x1 x2 s) := by
  unfold execPfailTrigger
  repeat' with_reducible first
    | assumption | intro _ | exact Sub.trans (by decide) hm | apply kept_failure | apply kept_State_at
    | apply kept_resetTrigger | apply kept_deviceReaction | apply keptO_next | apply kept_ite | apply keptO_ite
    | (extract_lets +onlyGivenNames x; revert x; first
        | refine kept_named (m := m) (s0 := s0) ?_ ?_ | refine kept_namedP (m := m) (s0 := s0) ?_ ?_
        | refine kept_value ?_) | (simp -zeta only [kept_lit]) | apply kept_set_boot_pins

theorem kept_ownCrkLearn (x1) (hm : Sub [.pnl] m) (h : Kept m s0 s) : KeptP m s0 (ownCrkLearn x1 s) := by
  unfold ownCrkLearn
  repeat' with_reducible first
    | assumption | intro _ | exact Sub.trans (by decide) hm | apply kept_setLoop | (unfold KeptP; dsimp only)
    | apply kept_ite | apply keptP_ite | apply kept_each | (apply kept_eqP (by assumption)) | split

theorem kept_execPnlCrklearn (x1) (x2) (x3) (hm : Sub [.obj, .pins, .mgt, .pnl] m) (h : Kept m s0 s) : KeptO m s0
    (execPnlCrklearn x1 x2 x3 s) := by
  unfold execPnlCrklearn
  repeat' with_reducible first
    | assumption | intro _ | exact Sub.trans (by decide) hm | apply kept_writeRow | apply kept_State_at
    | apply kept_ownCrkLearn | apply keptO_next

theorem kept_ownVresTest (x1) (hm : Sub [.obj, .pnl] m) (h : Kept m s0 s) : KeptP m s0 (ownVresTest x1 s) := by
  unfold ownVresTest
  repeat' with_reducible first
    | assumption | intro _ | exact Sub.trans (by decide) hm | apply kept_oset | (unfold KeptP; dsimp only)
    | apply kept_ite | apply keptP_ite | (simp -zeta only [kept_lit]) | apply kept_set_pnl
    | (apply kept_eqP (by assumption)) | split

theorem kept_execPnlVrestest (x1) (x2) (x3) (hm : Sub [.obj, .pins, .mgt, .pnl] m) (h : Kept m s0 s) : KeptO m s0
    (execPnlVrestest x1 x2 x3 s) := by
  unfold execPnlVrestest
  repeat' with_reducible first
    | assumption | intro _ | exact Sub.trans (by decide) hm | apply kept_ownVresTest | apply kept_writeRow
    | apply kept_State_at | apply keptO_next

theorem kept_ownRailReq (x1) (hm : Sub [.obj, .pins, .pnl] m) (h : Kept m s0 s) : KeptP m s0 (ownRailReq x1 s) := by
  unfold ownRailReq
  repeat' with_reducible first
    | assumption | intro _ | exact Sub.trans (by decide) hm | apply kept_oset | apply kept_acceptBands
    | apply kept_railDown | (unfold KeptP; dsimp only) | apply kept_ite | apply keptP_ite
    | (apply kept_eqP (by assumption)) | split

theorem kept_execRailDownReq (x1) (x2) (x3) (hm : Sub [.obj, .pins, .mgt, .pnl] m) (h : Kept m s0 s) : KeptO m s0
    (execRailDownReq x1 x2 x3 s) := by
  unfold execRailDownReq
  repeat' with_reducible first
    | assumption | intro _ | exact Sub.trans (by decide) hm | apply kept_writeRow | apply kept_State_at
    | apply kept_ownRailReq | apply keptO_next

theorem kept_execRailPowerUpReq (x1) (x2) (x3) (hm : Sub [.obj, .pins, .mgt, .pnl] m) (h : Kept m s0 s) : KeptO m s0
    (execRailPowerUpReq x1 x2 x3 s) := by
  unfold execRailPowerUpReq
  repeat' with_reducible first
    | assumption | intro _ | exact Sub.trans (by decide) hm | apply kept_writeRow | apply kept_State_at
    | apply kept_ownRailReq | apply keptO_next

theorem kept_execTpdoffExpiry (x1) (x2) (hm : Sub [.pins, .pnl] m) (h : Kept m s0 s) : KeptO m s0 (execTpdoffExpiry x1
    x2 s) := by
  unfold execTpdoffExpiry
  repeat' with_reducible first
    | assumption | intro _ | exact Sub.trans (by decide) hm | apply kept_setRailPads | apply kept_State_at
    | apply kept_setRail | apply keptO_next | apply kept_ite

theorem kept_execTriseExpiry (x1) (x2) (hm : Sub [.obj, .wear, .pnl] m) (h : Kept m s0 s) : KeptO m s0 (execTriseExpiry
    x1 x2 s) := by
  unfold execTriseExpiry
  repeat' with_reducible first
    | assumption | intro _ | exact Sub.trans (by decide) hm | apply kept_oset | apply kept_queueSelected | apply kept_evc
    | apply kept_State_at | apply kept_setRail | apply keptO_next | apply kept_ite

theorem kept_execVresSupplyEnd (x1) (hm : Sub [.pins, .pnl] m) (h : Kept m s0 s) : KeptO m s0 (execVresSupplyEnd x1 s)
    := by
  unfold execVresSupplyEnd
  repeat' with_reducible first
    | assumption | intro _ | exact Sub.trans (by decide) hm | apply kept_fallDone | apply kept_State_at | apply keptO_next
    | exact keptO_refused | apply kept_ite | apply keptO_ite
    | (extract_lets +onlyGivenNames x; revert x; first
        | refine kept_named (m := m) (s0 := s0) ?_ ?_ | refine kept_namedP (m := m) (s0 := s0) ?_ ?_
        | refine kept_value ?_) | apply kept_each | (simp -zeta only [kept_lit]) | apply kept_set_pins

theorem kept_execVresSupplySwitch (x1) (hm : Sub [.pins] m) (h : Kept m s0 s) : KeptO m s0 (execVresSupplySwitch x1 s)
    := by
  unfold execVresSupplySwitch
  repeat' with_reducible first
    | assumption | intro _ | exact Sub.trans (by decide) hm | apply kept_State_at | apply keptO_next
    | (extract_lets +onlyGivenNames x; revert x; first
        | refine kept_named (m := m) (s0 := s0) ?_ ?_ | refine kept_namedP (m := m) (s0 := s0) ?_ ?_
        | refine kept_value ?_) | (simp -zeta only [kept_lit]) | apply kept_set_pins

theorem kept_showMicro (x1) (x2) (hm : Sub [.free, .obj] m) (h : Kept m s0 s) : Kept m s0 (showMicro x1 x2 s) := by
  unfold showMicro
  repeat' with_reducible first
    | assumption | intro _ | exact Sub.trans (by decide) hm | apply kept_oset | apply kept_tookFree | apply kept_ite
    | (apply kept_eqP (by assumption)) | split

theorem kept_execVresTestDone (x1) (x2) (hm : Sub [.free, .obj, .pnl] m) (h : Kept m s0 s) : KeptO m s0
    (execVresTestDone x1 x2 s) := by
  unfold execVresTestDone
  repeat' with_reducible first
    | assumption | intro _ | exact Sub.trans (by decide) hm | apply kept_oset | apply kept_State_at | apply kept_showMicro
    | apply keptO_next | apply kept_fst | apply kept_ite | apply keptO_ite
    | (extract_lets +onlyGivenNames x; revert x; first
        | refine kept_named (m := m) (s0 := s0) ?_ ?_ | refine kept_namedP (m := m) (s0 := s0) ?_ ?_
        | refine kept_value ?_) | (simp -zeta only [kept_lit]) | apply kept_set_pnl

theorem kept_ownTimed (x1) (x2) (hm : Sub [.obj, .safe, .jrn] m) (h : Kept m s0 s) : KeptP m s0 (ownTimed x1 x2 s) := by
  unfold ownTimed
  repeat' with_reducible first
    | assumption | intro _ | exact Sub.trans (by decide) hm | apply kept_oset | apply kept_plainWrite
    | (unfold KeptP; dsimp only) | apply kept_ite | apply keptP_ite | (apply kept_eqP (by assumption)) | split

theorem kept_sendBack (x1) (hm : Sub [.pxl, .trx] m) (h : Kept m s0 s) : Kept m s0 (sendBack x1 s) := by
  unfold sendBack
  repeat' with_reducible first
    | assumption | intro _ | exact Sub.trans (by decide) hm | apply kept_sendStream | apply kept_modPxl | apply kept_ite
    | (extract_lets +onlyGivenNames x; revert x; first
        | refine kept_named (m := m) (s0 := s0) ?_ ?_ | refine kept_namedP (m := m) (s0 := s0) ?_ ?_
        | refine kept_value ?_) | (simp -zeta only [kept_lit]) | apply kept_set_trx

theorem kept_sendNext (hm : Sub [.pxl, .trx] m) (h : Kept m s0 s) : Kept m s0 (sendNext s) := by
  unfold sendNext
  repeat' with_reducible first
    | assumption | intro _ | exact Sub.trans (by decide) hm | apply kept_sendBack | apply kept_ite
    | (extract_lets +onlyGivenNames x; revert x; first
        | refine kept_named (m := m) (s0 := s0) ?_ ?_ | refine kept_namedP (m := m) (s0 := s0) ?_ ?_
        | refine kept_value ?_) | (apply kept_eqP (by assumption)) | split

theorem kept_flushLinkstate (x1) (hm : Sub [.pxl, .trx] m) (h : Kept m s0 s) : Kept m s0 (flushLinkstate x1 s) := by
  induction x1 generalizing s with
  | zero => exact h
  | succ k ih =>
    unfold flushLinkstate
    exact kept_ite (ih (kept_sendNext (Sub.trans (by decide) hm) h)) h

theorem kept_askStep (x1) (hm : Sub [.pins, .pwr, .pxl, .trx, .pnl] m) (h : Kept m s0 s) : Kept m s0 (askStep x1 s) := by
  unfold askStep
  repeat' with_reducible first
    | assumption | intro _ | exact Sub.trans (by decide) hm | apply kept_railDown | apply kept_sendLinkstate
    | apply kept_modPxl | apply kept_ite
    | (extract_lets +onlyGivenNames x; revert x; first
        | refine kept_named (m := m) (s0 := s0) ?_ ?_ | refine kept_namedP (m := m) (s0 := s0) ?_ ?_
        | refine kept_value ?_) | (simp -zeta only [kept_lit]) | apply kept_set_pwr

theorem kept_p3Wake (x1) (hm : Sub [.obj, .boot] m) (h : Kept m s0 s) : Kept m s0 (p3Wake x1 s) := by
  unfold p3Wake
  repeat' with_reducible first
    | assumption | intro _ | exact Sub.trans (by decide) hm | apply kept_lastWake | apply kept_cnt | apply kept_ite
    | (extract_lets +onlyGivenNames x; revert x; first
        | refine kept_named (m := m) (s0 := s0) ?_ ?_ | refine kept_namedP (m := m) (s0 := s0) ?_ ?_
        | refine kept_value ?_) | (simp -zeta only [kept_lit]) | apply kept_set_boot

theorem kept_p3Sample (hm : Sub [.obj, .boot] m) (h : Kept m s0 s) : Kept m s0 (p3Sample s) := by
  unfold p3Sample
  repeat' with_reducible first
    | assumption | intro _ | exact Sub.trans (by decide) hm | apply kept_p3Wake | apply kept_ite
    | (extract_lets +onlyGivenNames x; revert x; first
        | refine kept_named (m := m) (s0 := s0) ?_ ?_ | refine kept_namedP (m := m) (s0 := s0) ?_ ?_
        | refine kept_value ?_) | (apply kept_eqP (by assumption)) | split

theorem kept_sampleWakes (hm : Sub [.obj, .boot, .pins, .pwr, .evlog, .pxl, .trx, .fst, .mgt, .scan, .dlk, .pnl, .gyl,
    .jrn] m) (h : Kept m s0 s) : Kept m s0 (sampleWakes s) := by
  unfold sampleWakes
  repeat' with_reducible first
    | assumption | intro _ | exact Sub.trans (by decide) hm | apply kept_p3Sample | apply kept_wakeActs | apply kept_ite
    | (extract_lets +onlyGivenNames x; revert x; first
        | refine kept_named (m := m) (s0 := s0) ?_ ?_ | refine kept_namedP (m := m) (s0 := s0) ?_ ?_
        | refine kept_value ?_) | (apply kept_eqP (by assumption)) | split

theorem kept_dropSlices (hm : Sub [.cal] m) (h : Kept m s0 s) : Kept m s0 (dropSlices s) := by
  unfold dropSlices
  repeat' with_reducible first
    | assumption | intro _ | exact Sub.trans (by decide) hm | apply kept_setCalBand | apply kept_ite | apply kept_each

theorem kept_stateReached (hm : Sub [.obj, .boot, .pins, .pwr, .evlog, .pxl, .trx, .fst, .mgt, .scan, .dlk, .pnl, .cal,
    .gyl, .jrn] m) (h : Kept m s0 s) : Kept m s0 (stateReached s) := by
  unfold stateReached
  repeat' with_reducible first
    | assumption | intro _ | exact Sub.trans (by decide) hm | apply kept_sampleWakes | apply kept_refreshBands
    | apply kept_stepGoal | apply kept_dropSlices | apply kept_ite
    | (extract_lets +onlyGivenNames x; revert x; first
        | refine kept_named (m := m) (s0 := s0) ?_ ?_ | refine kept_namedP (m := m) (s0 := s0) ?_ ?_
        | refine kept_value ?_) | apply kept_each | (simp -zeta only [kept_lit]) | apply kept_set_pwr
    | apply kept_set_boot_pwr

theorem kept_padrelZero (hm : Sub [.obj] m) (h : Kept m s0 s) : Kept m s0 (padrelZero s) := by
  unfold padrelZero
  repeat' with_reducible first
    | assumption | intro _ | exact Sub.trans (by decide) hm | apply kept_oset

theorem kept_latchPads (hm : Sub [.obj, .pins] m) (h : Kept m s0 s) : Kept m s0 (latchPads s) := by
  unfold latchPads
  repeat' with_reducible first
    | assumption | intro _ | exact Sub.trans (by decide) hm | apply kept_holdPads | apply kept_padrelZero

theorem kept_drainBuffer (hm : Sub [.obj, .jrn] m) (h : Kept m s0 s) : Kept m s0 (drainBuffer s) := by
  unfold drainBuffer
  repeat' with_reducible first
    | assumption | intro _ | exact Sub.trans (by decide) hm | apply kept_programHead
    | (extract_lets +onlyGivenNames x; revert x; first
        | refine kept_named (m := m) (s0 := s0) ?_ ?_ | refine kept_namedP (m := m) (s0 := s0) ?_ ?_
        | refine kept_value ?_) | apply kept_each | (apply kept_eqP (by assumption)) | split

theorem kept_journalEntry (hm : Sub [.obj, .lake, .wear, .jrn] m) (h : Kept m s0 s) : Kept m s0 (journalEntry s) := by
  unfold journalEntry
  repeat' with_reducible first
    | assumption | intro _ | exact Sub.trans (by decide) hm | apply kept_drainBuffer | apply kept_jrnAdd
    | apply kept_writeDose | apply kept_ite

theorem kept_gateBack (x1) (hm : Sub [.obj, .pins, .evlog, .cross, .mgt, .jrn] m) (h : Kept m s0 s) : Kept m s0
    (gateBack x1 s) := by
  unfold gateBack
  repeat' with_reducible first
    | assumption | intro _ | exact Sub.trans (by decide) hm | apply kept_xflush | apply kept_setCross | apply kept_ite

theorem kept_writeRetention (hm : Sub [.pwr] m) (h : Kept m s0 s) : Kept m s0 (writeRetention s) := by
  unfold writeRetention
  repeat' with_reducible first
    | assumption | intro _ | exact Sub.trans (by decide) hm | apply kept_fst
    | (extract_lets +onlyGivenNames x; revert x; first
        | refine kept_named (m := m) (s0 := s0) ?_ ?_ | refine kept_namedP (m := m) (s0 := s0) ?_ ?_
        | refine kept_value ?_) | (simp -zeta only [kept_lit]) | apply kept_set_pwr

theorem kept_doStep (x1) (hm : Sub [.obj, .pins, .pwr, .evlog, .cross, .pxl, .trx, .lake, .fst, .mgt, .scan, .dlk,
    .wear, .pnl, .jrn] m) (h : Kept m s0 s) : Kept m s0 (doStep x1 s) := by
  unfold doStep
  repeat' with_reducible first
    | assumption | intro _ | exact Sub.trans (by decide) hm | apply kept_fallDone | apply kept_latchPads
    | apply kept_journalEntry | apply kept_refreshBands | apply kept_flushLinkstate | apply kept_holdBlack
    | apply kept_gateBack | apply kept_sendLinkstate | apply kept_modPxl | apply kept_writeRetention | apply kept_ite
    | (extract_lets +onlyGivenNames x; revert x; first
        | refine kept_named (m := m) (s0 := s0) ?_ ?_ | refine kept_namedP (m := m) (s0 := s0) ?_ ?_
        | refine kept_value ?_) | apply kept_each | (simp -zeta only [kept_lit]) | apply kept_set_mgt
    | apply kept_set_pins | exact rfl | apply kept_set_dlk | apply kept_set_fst | apply kept_set_pwr
    | (apply kept_eqP (by assumption)) | split

theorem kept_acceptStep (x1) (hm : Sub [.obj, .boot, .pins, .pwr, .evlog, .cross, .pxl, .trx, .lake, .fst, .mgt, .scan,
    .dlk, .wear, .pnl, .cal, .gyl, .jrn] m) (h : Kept m s0 s) : Kept m s0 (acceptStep x1 s) := by
  unfold acceptStep
  repeat' with_reducible first
    | assumption | intro _ | exact Sub.trans (by decide) hm | apply kept_askStep | apply kept_stateReached
    | apply kept_doStep | apply kept_ite
    | (extract_lets +onlyGivenNames x; revert x; first
        | refine kept_named (m := m) (s0 := s0) ?_ ?_ | refine kept_namedP (m := m) (s0 := s0) ?_ ?_
        | refine kept_value ?_) | apply kept_each | (simp -zeta only [kept_lit]) | apply kept_set_pwr

theorem kept_dieOff (hm : Sub [.free, .obj, .dom, .mem, .poison, .boot, .pins, .pwr, .evlog, .cross, .pxl, .trx, .lake,
    .fst, .bnk, .mgt, .scan, .dlk, .drvRec, .wear, .safe, .pnl, .cal, .gyl, .jrn] m) (h : Kept m s0 s) : Kept m s0
    (dieOff s) := by
  unfold dieOff
  repeat' with_reducible first
    | assumption | intro _ | exact Sub.trans (by decide) hm | apply kept_padrelZero | apply kept_clearDie
    | (extract_lets +onlyGivenNames x; revert x; first
        | refine kept_named (m := m) (s0 := s0) ?_ ?_ | refine kept_namedP (m := m) (s0 := s0) ?_ ?_
        | refine kept_value ?_) | (simp -zeta only [kept_lit]) | apply kept_set_boot_pins_pwr_trx_gyl

theorem kept_execForwardLaneActivity (x1) (x2) (hm : Sub [.obj, .boot, .pins, .pwr, .evlog, .pxl, .trx, .fst, .mgt,
    .scan, .dlk, .pnl, .gyl, .jrn] m) (h : Kept m s0 s) : KeptO m s0 (execForwardLaneActivity x1 x2 s) := by
  unfold execForwardLaneActivity
  repeat' with_reducible first
    | assumption | intro _ | exact Sub.trans (by decide) hm | apply kept_sampleWakes | apply kept_State_at
    | apply keptO_next | apply kept_ite | apply keptO_ite
    | (extract_lets +onlyGivenNames x; revert x; first
        | refine kept_named (m := m) (s0 := s0) ?_ ?_ | refine kept_namedP (m := m) (s0 := s0) ?_ ?_
        | refine kept_value ?_) | (simp -zeta only [kept_lit]) | apply kept_set_pwr

theorem kept_execHandshakeAnswer (x1) (x2) (hm : Sub [.obj, .boot, .pins, .pwr, .evlog, .cross, .pxl, .trx, .lake, .fst,
    .mgt, .scan, .dlk, .wear, .pnl, .cal, .gyl, .jrn] m) (h : Kept m s0 s) : KeptO m s0 (execHandshakeAnswer x1 x2 s) :=
    by
  unfold execHandshakeAnswer
  repeat' with_reducible first
    | assumption | intro _ | exact Sub.trans (by decide) hm | apply kept_acceptStep | apply kept_State_at
    | apply kept_entryEnds | apply keptO_next | apply kept_ite

theorem kept_execHandshakeTimeout (x1) (hm : Sub [.obj, .pins, .pwr, .evlog, .pxl, .fst, .mgt, .scan, .dlk, .pnl, .gyl,
    .jrn] m) (h : Kept m s0 s) : KeptO m s0 (execHandshakeTimeout x1 s) := by
  unfold execHandshakeTimeout
  repeat' with_reducible first
    | assumption | intro _ | exact Sub.trans (by decide) hm | apply kept_State_at | apply kept_entryEnds
    | apply keptO_next | apply kept_ite

theorem kept_execP2WakeDone (x1) (hm : Sub [.pins, .pwr, .pxl, .trx, .fst, .scan, .dlk, .gyl] m) (h : Kept m s0 s) :
    KeptO m s0 (execP2WakeDone x1 s) := by
  unfold execP2WakeDone
  repeat' with_reducible first
    | assumption | intro _ | exact Sub.trans (by decide) hm | apply kept_refreshBands | apply kept_State_at
    | apply kept_reachP0 | apply kept_releaseHeld | apply kept_wakeDram | apply keptO_next | apply kept_ite

theorem kept_execP3PenOffTimer (x1) (hm : Sub [.free, .obj, .dom, .mem, .poison, .boot, .pins, .pwr, .evlog, .cross,
    .pxl, .trx, .lake, .fst, .bnk, .mgt, .scan, .dlk, .drvRec, .wear, .safe, .pnl, .cal, .gyl, .jrn] m) (h : Kept m s0
    s) : KeptO m s0 (execP3PenOffTimer x1 s) := by
  unfold execP3PenOffTimer
  repeat' with_reducible first
    | assumption | intro _ | exact Sub.trans (by decide) hm | apply kept_p3Sample | apply kept_State_at
    | apply kept_dieOff | apply keptO_next | apply kept_ite | apply keptO_ite
    | (extract_lets +onlyGivenNames x; revert x; first
        | refine kept_named (m := m) (s0 := s0) ?_ ?_ | refine kept_namedP (m := m) (s0 := s0) ?_ ?_
        | refine kept_value ?_) | (simp -zeta only [kept_lit]) | apply kept_set_pwr | apply kept_set_pins | exact rfl
    | apply kept_set_pins_pwr

theorem kept_execP3TimerExpiry (x1) (hm : Sub [.obj, .boot, .pwr] m) (h : Kept m s0 s) : KeptO m s0 (execP3TimerExpiry
    x1 s) := by
  unfold execP3TimerExpiry
  repeat' with_reducible first
    | assumption | intro _ | exact Sub.trans (by decide) hm | apply kept_p3Sample | apply kept_State_at | apply keptO_next
    | apply kept_ite | apply keptO_ite
    | (extract_lets +onlyGivenNames x; revert x; first
        | refine kept_named (m := m) (s0 := s0) ?_ ?_ | refine kept_namedP (m := m) (s0 := s0) ?_ ?_
        | refine kept_value ?_) | (simp -zeta only [kept_lit]) | apply kept_set_pwr

theorem kept_execPadClassDecision (x1) (x2) (x3) (hm : Sub [.pins] m) (h : Kept m s0 s) :
    KeptO m s0 (execPadClassDecision x1 x2 x3 s) := by
  have ht := kept_State_at x1 h
  unfold execPadClassDecision
  refine keptO_next (kept_set_pins hm ?_ ht)
  cases x2 <;> (repeat' split) <;> rfl

theorem kept_ownPadrel (x1) (x2) (hm : Sub [.obj, .pins] m) (h : Kept m s0 s) : KeptP m s0 (ownPadrel x1 x2 s) := by
  unfold ownPadrel
  repeat' with_reducible first
    | assumption | intro _ | exact Sub.trans (by decide) hm | apply kept_oset | apply kept_releasePads
    | (unfold KeptP; dsimp only) | apply kept_ite | apply keptP_ite

theorem kept_execPwrPadrel (x1) (x2) (x3) (hm : Sub [.obj, .pins, .mgt] m) (h : Kept m s0 s) : KeptO m s0 (execPwrPadrel
    x1 x2 x3 s) := by
  unfold execPwrPadrel
  repeat' with_reducible first
    | assumption | intro _ | exact Sub.trans (by decide) hm | apply kept_ownPadrel | apply kept_writeRow
    | apply kept_State_at | apply keptO_next

theorem kept_startEntry (hm : Sub [.obj, .boot, .pins, .pwr, .evlog, .pxl, .trx, .fst, .mgt, .scan, .dlk, .pnl, .gyl,
    .jrn] m) (h : Kept m s0 s) : Kept m s0 (startEntry s) := by
  unfold startEntry
  repeat' with_reducible first
    | assumption | intro _ | exact Sub.trans (by decide) hm | apply kept_sampleWakes | apply kept_askStep
    | (extract_lets +onlyGivenNames x; revert x; first
        | refine kept_named (m := m) (s0 := s0) ?_ ?_ | refine kept_namedP (m := m) (s0 := s0) ?_ ?_
        | refine kept_value ?_) | (simp -zeta only [kept_lit]) | apply kept_set_pwr

theorem kept_ownPwrReq (x1) (hm : Sub [.obj, .boot, .pins, .pwr, .evlog, .pxl, .trx, .fst, .mgt, .scan, .dlk, .pnl,
    .gyl, .jrn] m) (h : Kept m s0 s) : KeptP m s0 (ownPwrReq x1 s) := by
  unfold ownPwrReq
  repeat' with_reducible first
    | assumption | intro _ | exact Sub.trans (by decide) hm | apply kept_wakeActs | apply kept_evc | apply kept_startEntry
    | apply kept_entryEnds | (unfold KeptP; dsimp only) | apply kept_ite | apply keptP_ite
    | (extract_lets +onlyGivenNames x; revert x; first
        | refine kept_named (m := m) (s0 := s0) ?_ ?_ | refine kept_namedP (m := m) (s0 := s0) ?_ ?_
        | refine kept_value ?_) | (simp -zeta only [kept_lit]) | apply kept_set_pwr | apply kept_set_pwr_gyl
    | (apply kept_eqP (by assumption)) | split

theorem kept_execPwrReqP0 (x1) (x2) (hm : Sub [.obj, .boot, .pins, .pwr, .evlog, .pxl, .trx, .fst, .mgt, .scan, .dlk,
    .pnl, .gyl, .jrn] m) (h : Kept m s0 s) : KeptO m s0 (execPwrReqP0 x1 x2 s) := by
  unfold execPwrReqP0
  repeat' with_reducible first
    | assumption | intro _ | exact Sub.trans (by decide) hm | apply kept_writeRow | apply kept_ownPwrReq
    | apply kept_State_at | apply keptO_next

theorem kept_execPwrReqP1 (x1) (x2) (hm : Sub [.obj, .boot, .pins, .pwr, .evlog, .pxl, .trx, .fst, .mgt, .scan, .dlk,
    .pnl, .gyl, .jrn] m) (h : Kept m s0 s) : KeptO m s0 (execPwrReqP1 x1 x2 s) := by
  unfold execPwrReqP1
  repeat' with_reducible first
    | assumption | intro _ | exact Sub.trans (by decide) hm | apply kept_writeRow | apply kept_ownPwrReq
    | apply kept_State_at | apply keptO_next

theorem kept_execPwrReqP2 (x1) (x2) (hm : Sub [.obj, .boot, .pins, .pwr, .evlog, .pxl, .trx, .fst, .mgt, .scan, .dlk,
    .pnl, .gyl, .jrn] m) (h : Kept m s0 s) : KeptO m s0 (execPwrReqP2 x1 x2 s) := by
  unfold execPwrReqP2
  repeat' with_reducible first
    | assumption | intro _ | exact Sub.trans (by decide) hm | apply kept_writeRow | apply kept_ownPwrReq
    | apply kept_State_at | apply keptO_next

theorem kept_execPwrReqP3 (x1) (x2) (hm : Sub [.obj, .boot, .pins, .pwr, .evlog, .pxl, .trx, .fst, .mgt, .scan, .dlk,
    .pnl, .gyl, .jrn] m) (h : Kept m s0 s) : KeptO m s0 (execPwrReqP3 x1 x2 s) := by
  unfold execPwrReqP3
  repeat' with_reducible first
    | assumption | intro _ | exact Sub.trans (by decide) hm | apply kept_writeRow | apply kept_ownPwrReq
    | apply kept_State_at | apply keptO_next

theorem kept_execSleepRetryTimer (x1) (hm : Sub [.obj, .boot, .pins, .pwr, .evlog, .pxl, .trx, .fst, .mgt, .scan, .dlk,
    .pnl, .gyl, .jrn] m) (h : Kept m s0 s) : KeptO m s0 (execSleepRetryTimer x1 s) := by
  unfold execSleepRetryTimer
  repeat' with_reducible first
    | assumption | intro _ | exact Sub.trans (by decide) hm | apply kept_State_at | apply kept_startEntry
    | apply keptO_next | apply kept_ite | apply keptO_ite
    | (extract_lets +onlyGivenNames x; revert x; first
        | refine kept_named (m := m) (s0 := s0) ?_ ?_ | refine kept_namedP (m := m) (s0 := s0) ?_ ?_
        | refine kept_value ?_) | (simp -zeta only [kept_lit]) | apply kept_set_pwr

theorem kept_execVaonOutOfWindow (x1) (hm : Sub [.obj, .boot, .pins, .pwr, .evlog, .cross, .pxl, .trx, .lake, .fst,
    .mgt, .scan, .dlk, .safe, .pnl, .cal, .gyl, .jrn] m) (h : Kept m s0 s) : KeptO m s0 (execVaonOutOfWindow x1 s) := by
  unfold execVaonOutOfWindow
  repeat' with_reducible first
    | assumption | intro _ | exact Sub.trans (by decide) hm | apply kept_sm12Input | apply kept_State_at
    | apply keptO_next | apply kept_ite

theorem kept_execVioAbPresent (x1) (hm : Sub [.boot, .pins, .pwr] m) (h : Kept m s0 s) : KeptO m s0 (execVioAbPresent x1
    s) := by
  unfold execVioAbPresent
  repeat' with_reducible first
    | assumption | intro _ | exact Sub.trans (by decide) hm | apply kept_enableSupplies | apply kept_State_at
    | apply keptO_next | apply kept_ite | apply keptO_ite
    | (extract_lets +onlyGivenNames x; revert x; first
        | refine kept_named (m := m) (s0 := s0) ?_ ?_ | refine kept_namedP (m := m) (s0 := s0) ?_ ?_
        | refine kept_value ?_) | (simp -zeta only [kept_lit]) | apply kept_set_pins | exact rfl | apply kept_set_pwr
    | apply kept_set_pins_pwr

theorem kept_execVioAbWaitTimeout (x1) (hm : Sub [.obj, .boot, .pins, .pwr] m) (h : Kept m s0 s) : KeptO m s0
    (execVioAbWaitTimeout x1 s) := by
  unfold execVioAbWaitTimeout
  repeat' with_reducible first
    | assumption | intro _ | exact Sub.trans (by decide) hm | apply kept_oset | apply kept_p3Sample | apply kept_State_at
    | apply keptO_next | apply kept_ite | apply keptO_ite
    | (extract_lets +onlyGivenNames x; revert x; first
        | refine kept_named (m := m) (s0 := s0) ?_ ?_ | refine kept_namedP (m := m) (s0 := s0) ?_ ?_
        | refine kept_value ?_) | apply kept_each | (simp -zeta only [kept_lit]) | apply kept_set_boot_pins_pwr

theorem kept_execWakeN (x1) (x2) (hm : Sub [.obj, .boot, .pins, .pwr, .evlog, .pxl, .trx, .fst, .mgt, .scan, .dlk, .pnl,
    .gyl, .jrn] m) (h : Kept m s0 s) : KeptO m s0 (execWakeN x1 x2 s) := by
  unfold execWakeN
  repeat' with_reducible first
    | assumption | intro _ | exact Sub.trans (by decide) hm | apply kept_sampleWakes | apply kept_wakeActs
    | apply kept_State_at | apply kept_p3Wake | apply keptO_next | apply kept_ite | apply keptO_ite
    | (extract_lets +onlyGivenNames x; revert x; first
        | refine kept_named (m := m) (s0 := s0) ?_ ?_ | refine kept_namedP (m := m) (s0 := s0) ?_ ?_
        | refine kept_value ?_) | (simp -zeta only [kept_lit]) | apply kept_set_pins | exact rfl | apply kept_set_pwr
    | apply kept_set_pins_pwr

theorem kept_execWakePhrase (x1) (x2) (x3) (hm : Sub [.obj, .boot, .pins, .pwr, .evlog, .pxl, .trx, .fst, .mgt, .scan,
    .dlk, .pnl, .gyl, .jrn] m) (h : Kept m s0 s) : KeptO m s0 (execWakePhrase x1 x2 x3 s) := by
  unfold execWakePhrase
  repeat' with_reducible first
    | assumption | intro _ | exact Sub.trans (by decide) hm | apply kept_sampleWakes | apply kept_evc
    | apply kept_State_at | apply kept_cnt | apply keptO_next | apply kept_ite | apply keptO_ite
    | (extract_lets +onlyGivenNames x; revert x; first
        | refine kept_named (m := m) (s0 := s0) ?_ ?_ | refine kept_namedP (m := m) (s0 := s0) ?_ ?_
        | refine kept_value ?_) | (simp -zeta only [kept_lit]) | apply kept_set_pwr

theorem kept_execWakeSlotExpiry (x1) (hm : Sub [.boot] m) (h : Kept m s0 s) : KeptO m s0 (execWakeSlotExpiry x1 s) := by
  unfold execWakeSlotExpiry
  repeat' with_reducible first
    | assumption | intro _ | exact Sub.trans (by decide) hm | apply kept_State_at | apply keptO_next | apply kept_ite
    | apply keptO_ite
    | (extract_lets +onlyGivenNames x; revert x; first
        | refine kept_named (m := m) (s0 := s0) ?_ ?_ | refine kept_namedP (m := m) (s0 := s0) ?_ ?_
        | refine kept_value ?_) | (simp -zeta only [kept_lit]) | apply kept_set_boot

end Sys2Proof.Machine
end

