-- ==== Sys2Proof/Laws/KeptPorts.lean ====
section
/-!
SUPPORT. What is kept (Laws/Kept.lean) by the operations of the pixel link, transactions, the clocks, models, the
objects, uploads and the Wenip protocol.
-/

set_option linter.unusedTactic false
set_option linter.unreachableTactic false

namespace Sys2Proof.Machine

variable {m : List Part} {s0 s : State}

theorem kept_wholeTile (hm : Sub [.trx] m) (h : Kept m s0 s) : Kept m s0 (wholeTile s) := by
  unfold wholeTile
  repeat' with_reducible first
    | assumption | intro _ | exact Sub.trans (by decide) hm
    | (extract_lets +onlyGivenNames x; revert x; first
        | refine kept_named (m := m) (s0 := s0) ?_ ?_ | refine kept_namedP (m := m) (s0 := s0) ?_ ?_
        | refine kept_value ?_) | (simp -zeta only [kept_lit]) | apply kept_set_trx

theorem kept_bodyWord (hm : Sub [.pxl, .trx] m) (h : Kept m s0 s) : Kept m s0 (bodyWord s) := by
  unfold bodyWord
  repeat' with_reducible first
    | assumption | intro _ | exact Sub.trans (by decide) hm | apply kept_modPxl | apply kept_wholeTile | apply kept_ite

theorem kept_streamWord (x1) (x2) (hm : Sub [.obj, .mem, .poison, .pxl, .trx, .lake, .scan, .safe] m) (h : Kept m s0 s)
    : Kept m s0 (streamWord x1 x2 s) := by
  unfold streamWord
  repeat' with_reducible first
    | assumption | intro _ | exact Sub.trans (by decide) hm | apply kept_tileHeaderIn | apply kept_bodyWord
    | apply kept_loseBoundary | apply kept_modPxl | apply kept_fst | apply kept_ite

theorem kept_assemble (x1) (hm : Sub [.obj, .mem, .poison, .pxl, .trx, .lake, .scan, .safe] m) (h : Kept m s0 s) : Kept
    m s0 (assemble x1 s) := by
  unfold assemble
  repeat' with_reducible first
    | assumption | intro _ | exact Sub.trans (by decide) hm | apply kept_forgetPartial | apply kept_streamWord
    | apply kept_setLane | apply kept_loseBoundary | apply kept_modPxl | apply kept_fst | apply kept_ite
    | (extract_lets +onlyGivenNames x; revert x; first
        | refine kept_named (m := m) (s0 := s0) ?_ ?_ | refine kept_namedP (m := m) (s0 := s0) ?_ ?_
        | refine kept_value ?_) | apply kept_each

theorem kept_nakInFlight (hm : Sub [.obj, .trx, .lake] m) (h : Kept m s0 s) : Kept m s0 (nakInFlight s) := by
  unfold nakInFlight
  repeat' with_reducible first
    | assumption | intro _ | exact Sub.trans (by decide) hm | apply kept_forgetPartial | apply kept_sendNak
    | apply kept_evc | apply kept_each

theorem kept_narrow (hm : Sub [.obj, .pins, .evlog, .cross, .pxl, .trx, .lake, .mgt, .jrn] m) (h : Kept m s0 s) : Kept m
    s0 (narrow s) := by
  unfold narrow
  repeat' with_reducible first
    | assumption | intro _ | exact Sub.trans (by decide) hm | apply kept_eachLane | apply kept_nakInFlight
    | apply kept_setLink | apply kept_sendLinkstate | apply kept_loseBoundary | apply kept_resetLane | apply kept_modPxl
    | apply kept_dropLink | apply kept_ite
    | (extract_lets +onlyGivenNames x; revert x; first
        | refine kept_named (m := m) (s0 := s0) ?_ ?_ | refine kept_namedP (m := m) (s0 := s0) ?_ ?_
        | refine kept_value ?_) | apply kept_each

theorem kept_markLost (x1) (x2) (hm : Sub [.obj, .pins, .evlog, .cross, .pxl, .mgt, .jrn] m) (h : Kept m s0 s) : Kept m
    s0 (markLost x1 x2 s) := by
  unfold markLost
  repeat' with_reducible first
    | assumption | intro _ | exact Sub.trans (by decide) hm | apply kept_evc | apply kept_setLane | apply kept_cnt
    | apply kept_resetLane

theorem kept_loseLane (x1) (x2) (hm : Sub [.obj, .pins, .evlog, .cross, .pxl, .trx, .lake, .mgt, .jrn] m) (h : Kept m s0
    s) : Kept m s0 (loseLane x1 x2 s) := by
  unfold loseLane
  repeat' with_reducible first
    | assumption | intro _ | exact Sub.trans (by decide) hm | apply kept_narrow | apply kept_markLost

theorem kept_failOutside (x1) (x2) (hm : Sub [.obj, .pins, .evlog, .cross, .pxl, .mgt, .jrn] m) (h : Kept m s0 s) : Kept
    m s0 (failOutside x1 x2 s) := by
  unfold failOutside
  repeat' with_reducible first
    | assumption | intro _ | exact Sub.trans (by decide) hm | apply kept_setLane | apply kept_resetLane | apply kept_ite

theorem kept_failLane (x1) (x2) (hm : Sub [.obj, .pins, .evlog, .cross, .pxl, .trx, .lake, .mgt, .jrn] m) (h : Kept m s0
    s) : Kept m s0 (failLane x1 x2 s) := by
  unfold failLane
  repeat' with_reducible first
    | assumption | intro _ | exact Sub.trans (by decide) hm | apply kept_loseLane | apply kept_failOutside
    | apply kept_ite

theorem kept_badMarker (x1) (hm : Sub [.obj, .pins, .evlog, .cross, .pxl, .trx, .lake, .mgt, .jrn] m) (h : Kept m s0 s)
    : Kept m s0 (badMarker x1 s) := by
  unfold badMarker
  repeat' with_reducible first
    | assumption | intro _ | exact Sub.trans (by decide) hm | apply kept_failLane | apply kept_evc | apply kept_setLane
    | apply kept_cnt | apply kept_ite

theorem kept_takeOffer (hm : Sub [.obj, .pins, .evlog, .cross, .pxl, .trx, .lake, .mgt, .jrn] m) (h : Kept m s0 s) :
    Kept m s0 (takeOffer s) := by
  unfold takeOffer
  repeat' with_reducible first
    | assumption | intro _ | exact Sub.trans (by decide) hm | apply kept_eachLane | apply kept_narrow
    | apply kept_markLost | apply kept_loseBoundary | apply kept_modPxl | apply kept_ite
    | (extract_lets +onlyGivenNames x; revert x; first
        | refine kept_named (m := m) (s0 := s0) ?_ ?_ | refine kept_namedP (m := m) (s0 := s0) ?_ ?_
        | refine kept_value ?_) | apply kept_each

theorem kept_sendDigest (x1) (x2) (hm : Sub [.obj, .trx] m) (h : Kept m s0 s) : Kept m s0 (sendDigest x1 x2 s) := by
  unfold sendDigest
  repeat' with_reducible first
    | assumption | intro _ | exact Sub.trans (by decide) hm | apply kept_pushBack | apply kept_evc

theorem kept_startSession (hm : Sub [.obj, .pxl, .trx] m) (h : Kept m s0 s) : Kept m s0 (startSession s) := by
  unfold startSession
  repeat' with_reducible first
    | assumption | intro _ | exact Sub.trans (by decide) hm | apply kept_sendDigest | apply kept_evc | apply kept_modPxl
    | apply kept_ite
    | (extract_lets +onlyGivenNames x; revert x; first
        | refine kept_named (m := m) (s0 := s0) ?_ ?_ | refine kept_namedP (m := m) (s0 := s0) ?_ ?_
        | refine kept_value ?_) | (simp -zeta only [kept_lit]) | apply kept_set_trx

theorem kept_offer (hm : Sub [.pxl, .trx] m) (h : Kept m s0 s) : Kept m s0 (offer s) := by
  unfold offer
  repeat' with_reducible first
    | assumption | intro _ | exact Sub.trans (by decide) hm | apply kept_eachLane | apply kept_sendLinkstate
    | apply kept_modPxl | apply kept_ite

theorem kept_lcnArrived (hm : Sub [.obj, .pins, .pxl, .trx, .mgt] m) (h : Kept m s0 s) : Kept m s0 (lcnArrived s) := by
  unfold lcnArrived
  repeat' with_reducible first
    | assumption | intro _ | exact Sub.trans (by decide) hm | apply kept_setLink | apply kept_startSession
    | apply kept_offer | apply kept_loseBoundary | apply kept_modPxl | apply kept_ite

theorem kept_toNegotiate (hm : Sub [.obj, .pins, .pxl, .mgt] m) (h : Kept m s0 s) : Kept m s0 (toNegotiate s) := by
  unfold toNegotiate
  repeat' with_reducible first
    | assumption | intro _ | exact Sub.trans (by decide) hm | apply kept_eachLane | apply kept_sendTrain
    | apply kept_setLink | apply kept_modPxl

theorem kept_tryDetect (hm : Sub [.obj, .pins, .pxl, .mgt] m) (h : Kept m s0 s) : Kept m s0 (tryDetect s) := by
  unfold tryDetect
  repeat' with_reducible first
    | assumption | intro _ | exact Sub.trans (by decide) hm | apply kept_toNegotiate | apply kept_sendHello
    | apply kept_modPxl | apply kept_ite

theorem kept_blockDone (x1) (hm : Sub [.obj, .mem, .poison, .pins, .evlog, .cross, .pxl, .trx, .lake, .mgt, .scan,
    .safe, .jrn] m) (h : Kept m s0 s) : Kept m s0 (blockDone x1 s) := by
  unfold blockDone
  repeat' with_reducible first
    | assumption | intro _ | exact Sub.trans (by decide) hm | apply kept_takeOffer | apply kept_lcnArrived
    | apply kept_assemble | apply kept_tryDetect | apply kept_ite
    | (extract_lets +onlyGivenNames x; revert x; first
        | refine kept_named (m := m) (s0 := s0) ?_ ?_ | refine kept_namedP (m := m) (s0 := s0) ?_ ?_
        | refine kept_value ?_) | (apply kept_eqP (by assumption)) | split

theorem kept_setCtle (x1) (x2) (hm : Sub [.obj] m) (h : Kept m s0 s) : Kept m s0 (setCtle x1 x2 s) := by
  unfold setCtle
  repeat' with_reducible first
    | assumption | intro _ | exact Sub.trans (by decide) hm | apply kept_oset

theorem kept_sendGo (hm : Sub [.obj, .pins, .evlog, .cross, .pxl, .trx, .lake, .mgt, .jrn] m) (h : Kept m s0 s) : Kept m
    s0 (sendGo s) := by
  unfold sendGo
  repeat' with_reducible first
    | assumption | intro _ | exact Sub.trans (by decide) hm | apply kept_eachLane | apply kept_sendTrain
    | apply kept_setLink | apply kept_modPxl | apply kept_dropLink | apply kept_ite

theorem kept_sendStep (x1) (x2) (hm : Sub [.obj, .pins, .pxl, .mgt] m) (h : Kept m s0 s) : Kept m s0 (sendStep x1 x2 s)
    := by
  unfold sendStep
  repeat' with_reducible first
    | assumption | intro _ | exact Sub.trans (by decide) hm | apply kept_sendTrain | apply kept_setLink
    | apply kept_modPxl

theorem kept_nextStep (hm : Sub [.obj, .pins, .evlog, .cross, .pxl, .trx, .lake, .mgt, .jrn] m) (h : Kept m s0 s) : Kept
    m s0 (nextStep s) := by
  unfold nextStep
  repeat' with_reducible first
    | assumption | intro _ | exact Sub.trans (by decide) hm | apply kept_sendGo | apply kept_sendStep | apply kept_ite

theorem kept_judgeFwd (x1) (hm : Sub [.obj, .pins, .evlog, .cross, .pxl, .trx, .lake, .mgt, .jrn] m) (h : Kept m s0 s) :
    Kept m s0 (judgeFwd x1 s) := by
  unfold judgeFwd
  repeat' with_reducible first
    | assumption | intro _ | exact Sub.trans (by decide) hm | apply kept_eachLane | apply kept_nextStep
    | apply kept_setLane | apply kept_sendStep | apply kept_modPxl | apply kept_ite
    | (extract_lets +onlyGivenNames x; revert x; first
        | refine kept_named (m := m) (s0 := s0) ?_ ?_ | refine kept_namedP (m := m) (s0 := s0) ?_ ?_
        | refine kept_value ?_) | apply kept_each

theorem kept_execAcceptanceTestDone (x1) (x2) (hm : Sub [.obj, .pins, .evlog, .cross, .pxl, .trx, .lake, .mgt, .jrn] m)
    (h : Kept m s0 s) : KeptO m s0 (execAcceptanceTestDone x1 x2 s) := by
  unfold execAcceptanceTestDone
  repeat' with_reducible first
    | assumption | intro _ | exact Sub.trans (by decide) hm | apply kept_setCtle | apply kept_State_at
    | apply kept_judgeFwd | apply keptO_next | apply kept_ite | apply keptO_ite
    | (extract_lets +onlyGivenNames x; revert x; first
        | refine kept_named (m := m) (s0 := s0) ?_ ?_ | refine kept_namedP (m := m) (s0 := s0) ?_ ?_
        | refine kept_value ?_) | apply kept_each

theorem kept_execBackgroundRetrainDone (x1) (x2) (x3) (hm : Sub [.obj, .pxl, .trx] m) (h : Kept m s0 s) : KeptO m s0
    (execBackgroundRetrainDone x1 x2 x3 s) := by
  unfold execBackgroundRetrainDone
  repeat' with_reducible first
    | assumption | intro _ | exact Sub.trans (by decide) hm | apply kept_setCtle | apply kept_offer | apply kept_State_at
    | apply kept_setLane | apply keptO_next | apply kept_ite

theorem kept_execBackgroundRetryTimer (x1) (x2) (hm : Sub [.pxl] m) (h : Kept m s0 s) : KeptO m s0
    (execBackgroundRetryTimer x1 x2 s) := by
  unfold execBackgroundRetryTimer
  repeat' with_reducible first
    | assumption | intro _ | exact Sub.trans (by decide) hm | apply kept_State_at | apply kept_setLane | apply keptO_next
    | apply kept_ite

theorem kept_execCapTimeout (x1) (hm : Sub [.obj, .pins, .evlog, .cross, .pxl, .trx, .lake, .mgt, .jrn] m) (h : Kept m
    s0 s) : KeptO m s0 (execCapTimeout x1 s) := by
  unfold execCapTimeout
  repeat' with_reducible first
    | assumption | intro _ | exact Sub.trans (by decide) hm | apply kept_State_at | apply kept_dropLink | apply keptO_next
    | apply kept_ite

theorem kept_execCdrLossOfLock (x1) (x2) (hm : Sub [.obj, .pins, .evlog, .cross, .pxl, .trx, .lake, .mgt, .jrn] m) (h :
    Kept m s0 s) : KeptO m s0 (execCdrLossOfLock x1 x2 s) := by
  unfold execCdrLossOfLock
  repeat' with_reducible first
    | assumption | intro _ | exact Sub.trans (by decide) hm | apply kept_failLane | apply kept_State_at
    | apply kept_setLane | apply kept_resetLane | apply kept_tryDetect | apply keptO_next | apply kept_ite

theorem kept_execDetectLockWaitEnd (x1) (hm : Sub [.obj, .pins, .pxl, .mgt] m) (h : Kept m s0 s) : KeptO m s0
    (execDetectLockWaitEnd x1 s) := by
  unfold execDetectLockWaitEnd
  repeat' with_reducible first
    | assumption | intro _ | exact Sub.trans (by decide) hm | apply kept_toNegotiate | apply kept_State_at
    | apply keptO_next | apply kept_ite

theorem kept_execGoTimeout (x1) (hm : Sub [.obj, .pins, .evlog, .cross, .pxl, .trx, .lake, .mgt, .jrn] m) (h : Kept m s0
    s) : KeptO m s0 (execGoTimeout x1 s) := by
  unfold execGoTimeout
  repeat' with_reducible first
    | assumption | intro _ | exact Sub.trans (by decide) hm | apply kept_State_at | apply kept_dropLink | apply keptO_next
    | apply kept_ite

theorem kept_judgeStuff (x1) (x2) (hm : Sub [.obj, .pins, .evlog, .cross, .pxl, .trx, .lake, .mgt, .jrn] m) (h : Kept m
    s0 s) : Kept m s0 (judgeStuff x1 x2 s) := by
  unfold judgeStuff
  repeat' with_reducible first
    | assumption | intro _ | exact Sub.trans (by decide) hm | apply kept_failLane | apply kept_evc | apply kept_setLane
    | apply kept_cnt | apply kept_ite
    | (extract_lets +onlyGivenNames x; revert x; first
        | refine kept_named (m := m) (s0 := s0) ?_ ?_ | refine kept_namedP (m := m) (s0 := s0) ?_ ?_
        | refine kept_value ?_) | apply kept_iter

theorem kept_keepPayload (x1) (x2) (x3) (x4) (hm : Sub [.pxl] m) (h : Kept m s0 s) : Kept m s0 (keepPayload x1 x2 x3 x4
    s) := by
  unfold keepPayload
  repeat' with_reducible first
    | assumption | intro _ | exact Sub.trans (by decide) hm | apply kept_setLane | apply kept_loseBoundary
    | apply kept_fst | apply kept_ite

theorem kept_searchLock (x1) (x2) (hm : Sub [.free, .obj, .pxl] m) (h : Kept m s0 s) : Kept m s0 (searchLock x1 x2 s) :=
    by
  unfold searchLock
  repeat' with_reducible first
    | assumption | intro _ | exact Sub.trans (by decide) hm | apply kept_setCtle | apply kept_setLane | apply kept_ite
    | (extract_lets +onlyGivenNames x; revert x; first
        | refine kept_named (m := m) (s0 := s0) ?_ ?_ | refine kept_namedP (m := m) (s0 := s0) ?_ ?_
        | refine kept_value ?_) | (simp -zeta only [kept_lit]) | apply kept_set_free

theorem kept_judgeMarker (x1) (x2) (x3) (hm : Sub [.obj, .pins, .evlog, .cross, .pxl, .trx, .lake, .mgt, .jrn] m) (h :
    Kept m s0 s) : Kept m s0 (judgeMarker x1 x2 x3 s) := by
  unfold judgeMarker
  repeat' with_reducible first
    | assumption | intro _ | exact Sub.trans (by decide) hm | apply kept_failLane | apply kept_setLane
    | apply kept_badMarker | apply kept_ite

theorem kept_execLaneBlockReceived (x1) (x2) (x3) (x4) (hm : Sub [.free, .obj, .mem, .poison, .pins, .evlog, .cross,
    .pxl, .trx, .lake, .mgt, .scan, .safe, .jrn] m) (h : Kept m s0 s) : KeptO m s0 (execLaneBlockReceived x1 x2 x3 x4 s)
    := by
  unfold execLaneBlockReceived
  repeat' with_reducible first
    | assumption | intro _ | exact Sub.trans (by decide) hm | apply kept_blockDone | apply kept_judgeStuff
    | apply kept_keepPayload | apply kept_searchLock | apply kept_judgeMarker | apply kept_State_at | apply kept_setLane
    | apply keptO_next | apply kept_ite

theorem kept_execLaneRelockDone (x1) (x2) (hm : Sub [.obj, .pins, .evlog, .cross, .pxl, .trx, .lake, .mgt, .jrn] m) (h :
    Kept m s0 s) : KeptO m s0 (execLaneRelockDone x1 x2 s) := by
  unfold execLaneRelockDone
  repeat' with_reducible first
    | assumption | intro _ | exact Sub.trans (by decide) hm | apply kept_eachLane | apply kept_narrow
    | apply kept_toDetect | apply kept_setLink | apply kept_markLost | apply kept_offer | apply kept_State_at
    | apply kept_sendLinkstate | apply kept_loseBoundary | apply kept_modPxl | apply kept_dropLink | apply keptO_next
    | apply kept_ite | apply keptO_ite
    | (extract_lets +onlyGivenNames x; revert x; first
        | refine kept_named (m := m) (s0 := s0) ?_ ?_ | refine kept_namedP (m := m) (s0 := s0) ?_ ?_
        | refine kept_value ?_) | apply kept_each

theorem kept_execMarkerMissing (x1) (x2) (hm : Sub [.obj, .pins, .evlog, .cross, .pxl, .trx, .lake, .mgt, .jrn] m) (h :
    Kept m s0 s) : KeptO m s0 (execMarkerMissing x1 x2 s) := by
  unfold execMarkerMissing
  repeat' with_reducible first
    | assumption | intro _ | exact Sub.trans (by decide) hm | apply kept_State_at | apply kept_setLane
    | apply kept_badMarker | apply keptO_next | apply kept_ite

theorem kept_execPrbsTestEnd (x1) (x2) (hm : Sub [.obj, .pxl] m) (h : Kept m s0 s) : KeptO m s0 (execPrbsTestEnd x1 x2
    s) := by
  unfold execPrbsTestEnd
  repeat' with_reducible first
    | assumption | intro _ | exact Sub.trans (by decide) hm | apply kept_oset | apply kept_State_at | apply kept_modPxl
    | apply keptO_next | apply kept_ite | apply keptO_ite
    | (extract_lets +onlyGivenNames x; revert x; first
        | refine kept_named (m := m) (s0 := s0) ?_ ?_ | refine kept_namedP (m := m) (s0 := s0) ?_ ?_
        | refine kept_value ?_) | apply kept_each

theorem kept_ownPrbsStart (x1) (hm : Sub [.free, .obj, .pins, .pxl, .trx, .lake, .mgt] m) (h : Kept m s0 s) : KeptP m s0
    (ownPrbsStart x1 s) := by
  unfold ownPrbsStart
  repeat' with_reducible first
    | assumption | intro _ | exact Sub.trans (by decide) hm | apply kept_forgetPartial | apply kept_oset
    | apply kept_flushLinkstate | apply kept_setLink | apply kept_sendLinkstate | apply kept_loseBoundary
    | apply kept_modPxl | (unfold KeptP; dsimp only) | apply kept_ite | apply keptP_ite
    | (extract_lets +onlyGivenNames x; revert x; first
        | refine kept_named (m := m) (s0 := s0) ?_ ?_ | refine kept_namedP (m := m) (s0 := s0) ?_ ?_
        | refine kept_value ?_) | apply kept_each | (simp -zeta only [kept_lit]) | apply kept_set_free
    | (apply kept_eqP (by assumption)) | split

theorem kept_execPxlPrbsStart (x1) (x2) (x3) (hm : Sub [.free, .obj, .pins, .pxl, .trx, .lake, .mgt] m) (h : Kept m s0
    s) : KeptO m s0 (execPxlPrbsStart x1 x2 x3 s) := by
  unfold execPxlPrbsStart
  repeat' with_reducible first
    | assumption | intro _ | exact Sub.trans (by decide) hm | apply kept_writeRow | apply kept_State_at
    | apply kept_ownPrbsStart | apply keptO_next

theorem kept_ownPxlRetrain (x1) (hm : Sub [.obj, .pins, .evlog, .cross, .pxl, .trx, .lake, .mgt, .jrn] m) (h : Kept m s0
    s) : KeptP m s0 (ownPxlRetrain x1 s) := by
  unfold ownPxlRetrain
  repeat' with_reducible first
    | assumption | intro _ | exact Sub.trans (by decide) hm | apply kept_dropLink | (unfold KeptP; dsimp only)
    | apply kept_ite

theorem kept_execPxlRetrain (x1) (x2) (x3) (hm : Sub [.obj, .pins, .evlog, .cross, .pxl, .trx, .lake, .mgt, .jrn] m) (h
    : Kept m s0 s) : KeptO m s0 (execPxlRetrain x1 x2 x3 s) := by
  unfold execPxlRetrain
  repeat' with_reducible first
    | assumption | intro _ | exact Sub.trans (by decide) hm | apply kept_writeRow | apply kept_State_at
    | apply kept_ownPxlRetrain | apply keptO_next

theorem kept_execReconfigTimeout (x1) (hm : Sub [.obj, .pins, .evlog, .cross, .pxl, .trx, .lake, .mgt, .jrn] m) (h :
    Kept m s0 s) : KeptO m s0 (execReconfigTimeout x1 s) := by
  unfold execReconfigTimeout
  repeat' with_reducible first
    | assumption | intro _ | exact Sub.trans (by decide) hm | apply kept_State_at | apply kept_dropLink | apply keptO_next
    | apply kept_ite

theorem kept_judgeBack (x1) (hm : Sub [.obj, .pins, .evlog, .cross, .pxl, .trx, .lake, .mgt, .jrn] m) (h : Kept m s0 s)
    : Kept m s0 (judgeBack x1 s) := by
  unfold judgeBack
  repeat' with_reducible first
    | assumption | intro _ | exact Sub.trans (by decide) hm | apply kept_nextStep | apply kept_sendStep
    | apply kept_modPxl | apply kept_ite

theorem kept_execResultTimeout (x1) (hm : Sub [.obj, .pins, .evlog, .cross, .pxl, .trx, .lake, .mgt, .jrn] m) (h : Kept
    m s0 s) : KeptO m s0 (execResultTimeout x1 s) := by
  unfold execResultTimeout
  repeat' with_reducible first
    | assumption | intro _ | exact Sub.trans (by decide) hm | apply kept_judgeBack | apply kept_State_at
    | apply keptO_next | apply kept_ite

theorem kept_execStepIdleEnd (x1) (hm : Sub [.obj, .pins, .evlog, .cross, .pxl, .trx, .lake, .mgt, .jrn] m) (h : Kept m
    s0 s) : KeptO m s0 (execStepIdleEnd x1 s) := by
  unfold execStepIdleEnd
  repeat' with_reducible first
    | assumption | intro _ | exact Sub.trans (by decide) hm | apply kept_eachLane | apply kept_nextStep
    | apply kept_State_at | apply kept_modPxl | apply keptO_next | apply kept_ite

theorem kept_execTrainMessageReceived (x1) (x2) (x3) (hm : Sub [.obj, .pins, .evlog, .cross, .pxl, .trx, .lake, .mgt,
    .jrn] m) (h : Kept m s0 s) : KeptO m s0 (execTrainMessageReceived x1 x2 x3 s) := by
  unfold execTrainMessageReceived
  repeat' with_reducible first
    | assumption | intro _ | exact Sub.trans (by decide) hm | apply kept_nextStep | apply kept_judgeBack
    | apply kept_State_at | apply kept_setLane | apply kept_modPxl | apply kept_tryDetect | apply keptO_next
    | apply kept_ite

theorem kept_ownPxlEnable (x1) (hm : Sub [.obj, .pins, .evlog, .cross, .pxl, .trx, .lake, .mgt, .jrn] m) (h : Kept m s0
    s) : KeptP m s0 (ownPxlEnable x1 s) := by
  unfold ownPxlEnable
  repeat' with_reducible first
    | assumption | intro _ | exact Sub.trans (by decide) hm | apply kept_oset | apply kept_disableLink
    | apply kept_startLink | (unfold KeptP; dsimp only) | apply kept_ite

theorem kept_ownPxlLanes (x1) (hm : Sub [.obj, .pins, .evlog, .cross, .pxl, .trx, .lake, .mgt, .safe, .jrn] m) (h : Kept
    m s0 s) : KeptP m s0 (ownPxlLanes x1 s) := by
  unfold ownPxlLanes
  repeat' with_reducible first
    | assumption | intro _ | exact Sub.trans (by decide) hm | apply kept_eachLane | apply kept_narrow
    | apply kept_resetLane | apply kept_plainWrite | (unfold KeptP; dsimp only) | apply kept_ite | apply keptP_ite
    | (extract_lets +onlyGivenNames x; revert x; first
        | refine kept_named (m := m) (s0 := s0) ?_ ?_ | refine kept_namedP (m := m) (s0 := s0) ?_ ?_
        | refine kept_value ?_) | apply kept_each | (apply kept_eqP (by assumption)) | split

theorem kept_discardRun (x1) (x2) (hm : Sub [.obj, .trx, .lake, .scan] m) (h : Kept m s0 s) : Kept m s0 (discardRun x1
    x2 s) := by
  unfold discardRun
  repeat' with_reducible first
    | assumption | intro _ | exact Sub.trans (by decide) hm | apply kept_nakGroup | apply kept_nakTx | apply kept_runEnded
    | apply kept_ite
    | (extract_lets +onlyGivenNames x; revert x; first
        | refine kept_named (m := m) (s0 := s0) ?_ ?_ | refine kept_namedP (m := m) (s0 := s0) ?_ ?_
        | refine kept_value ?_) | apply kept_each | (simp -zeta only [kept_lit]) | apply kept_set_trx

theorem kept_execBackPacketSend (x1) (hm : Sub [.pxl, .trx] m) (h : Kept m s0 s) : KeptO m s0 (execBackPacketSend x1 s)
    := by
  unfold execBackPacketSend
  repeat' with_reducible first
    | assumption | intro _ | exact Sub.trans (by decide) hm | apply kept_sendNext | apply kept_State_at | apply keptO_next

theorem kept_execCommitCopyDone (x1) (hm : Sub [.obj, .mem, .poison, .trx, .lake, .scan] m) (h : Kept m s0 s) : KeptO m
    s0 (execCommitCopyDone x1 s) := by
  unfold execCommitCopyDone
  repeat' with_reducible first
    | assumption | intro _ | exact Sub.trans (by decide) hm | apply kept_commitGroup | apply kept_runEnded
    | apply kept_copyTile | apply kept_State_at | apply keptO_next | apply kept_ite | apply keptO_ite
    | (extract_lets +onlyGivenNames x; revert x; first
        | refine kept_named (m := m) (s0 := s0) ?_ ?_ | refine kept_namedP (m := m) (s0 := s0) ?_ ?_
        | refine kept_value ?_) | (simp -zeta only [kept_lit]) | apply kept_set_trx | (apply kept_eqP (by assumption))
    | split

theorem kept_startCopy (x1) (x2) (hm : Sub [.obj, .trx, .lake, .scan] m) (h : Kept m s0 s) : Kept m s0 (startCopy x1 x2
    s) := by
  unfold startCopy
  repeat' with_reducible first
    | assumption | intro _ | exact Sub.trans (by decide) hm | apply kept_overtakePend | apply kept_ite
    | (extract_lets +onlyGivenNames x; revert x; first
        | refine kept_named (m := m) (s0 := s0) ?_ ?_ | refine kept_namedP (m := m) (s0 := s0) ?_ ?_
        | refine kept_value ?_) | (simp -zeta only [kept_lit]) | apply kept_set_trx

theorem kept_execCommitEnginePop (x1) (hm : Sub [.obj, .trx, .lake, .scan] m) (h : Kept m s0 s) : KeptO m s0
    (execCommitEnginePop x1 s) := by
  unfold execCommitEnginePop
  repeat' with_reducible first
    | assumption | intro _ | exact Sub.trans (by decide) hm | apply kept_discardRun | apply kept_startCopy
    | apply kept_State_at | apply kept_setGroup | apply keptO_next | apply kept_ite | apply keptO_ite
    | (extract_lets +onlyGivenNames x; revert x; first
        | refine kept_named (m := m) (s0 := s0) ?_ ?_ | refine kept_namedP (m := m) (s0 := s0) ?_ ?_
        | refine kept_value ?_) | (simp -zeta only [kept_lit]) | apply kept_set_trx | (apply kept_eqP (by assumption))
    | split

theorem kept_execGroupBegin (x1) (x2) (hm : Sub [.obj, .trx] m) (h : Kept m s0 s) : KeptO m s0 (execGroupBegin x1 x2 s)
    := by
  unfold execGroupBegin
  repeat' with_reducible first
    | assumption | intro _ | exact Sub.trans (by decide) hm | apply kept_sendNak | apply kept_acceptPkt
    | apply kept_State_at | apply kept_setGroup | apply keptO_next | apply kept_ite

theorem kept_execGroupEnd (x1) (x2) (hm : Sub [.obj, .trx, .lake, .scan] m) (h : Kept m s0 s) : KeptO m s0 (execGroupEnd
    x1 x2 s) := by
  unfold execGroupEnd
  repeat' with_reducible first
    | assumption | intro _ | exact Sub.trans (by decide) hm | apply kept_nakGroup | apply kept_tryComplete
    | apply kept_acceptPkt | apply kept_abortGroup | apply kept_State_at | apply kept_cnt | apply kept_setGroup
    | apply keptO_next | apply kept_ite

theorem kept_execGroupTimeout (x1) (x2) (hm : Sub [.obj, .trx, .lake, .scan] m) (h : Kept m s0 s) : KeptO m s0
    (execGroupTimeout x1 x2 s) := by
  unfold execGroupTimeout
  repeat' with_reducible first
    | assumption | intro _ | exact Sub.trans (by decide) hm | apply kept_nakGroup | apply kept_abortGroup
    | apply kept_State_at | apply kept_setGroup | apply keptO_next | apply kept_ite

theorem kept_execHeaderLost (x1) (hm : Sub [.obj, .pxl, .trx, .lake] m) (h : Kept m s0 s) : KeptO m s0 (execHeaderLost
    x1 s) := by
  unfold execHeaderLost
  repeat' with_reducible first
    | assumption | intro _ | exact Sub.trans (by decide) hm | apply kept_forgetPartial | apply kept_backEvent
    | apply kept_evc | apply kept_State_at | apply kept_cnt | apply kept_loseBoundary | apply keptO_next | apply kept_ite

theorem kept_execLakeTileDecoded (x1) (x2) (hm : Sub [.obj, .mem, .poison, .trx, .lake, .scan, .safe] m) (h : Kept m s0
    s) : KeptO m s0 (execLakeTileDecoded x1 x2 s) := by
  unfold execLakeTileDecoded
  repeat' with_reducible first
    | assumption | intro _ | exact Sub.trans (by decide) hm | apply kept_tileDecoded | apply kept_State_at
    | apply keptO_next | apply kept_ite

theorem kept_loseBack (x1) (hm : Sub [.obj, .pins, .evlog, .cross, .pxl, .trx, .lake, .mgt, .jrn] m) (h : Kept m s0 s) :
    Kept m s0 (loseBack x1 s) := by
  unfold loseBack
  repeat' with_reducible first
    | assumption | intro _ | exact Sub.trans (by decide) hm | apply kept_eachLane | apply kept_sendLinkstate
    | apply kept_modPxl | apply kept_dropLink | apply kept_ite

theorem kept_execLinkctlBackloss (x1) (x2) (hm : Sub [.obj, .pins, .evlog, .cross, .pxl, .trx, .lake, .mgt, .jrn] m) (h
    : Kept m s0 s) : KeptO m s0 (execLinkctlBackloss x1 x2 s) := by
  unfold execLinkctlBackloss
  repeat' with_reducible first
    | assumption | intro _ | exact Sub.trans (by decide) hm | apply kept_acceptPkt | apply kept_State_at
    | apply kept_loseBack | apply keptO_next | apply kept_ite

theorem kept_execLinkctlBadop (x1) (x2) (hm : Sub [.obj, .trx] m) (h : Kept m s0 s) : KeptO m s0 (execLinkctlBadop x1 x2
    s) := by
  unfold execLinkctlBadop
  repeat' with_reducible first
    | assumption | intro _ | exact Sub.trans (by decide) hm | apply kept_acceptPkt | apply kept_State_at | apply kept_cnt
    | apply keptO_next | apply kept_ite

theorem kept_execLinkctlDigestReq (x1) (hm : Sub [.obj, .trx] m) (h : Kept m s0 s) : KeptO m s0 (execLinkctlDigestReq x1
    s) := by
  unfold execLinkctlDigestReq
  repeat' with_reducible first
    | assumption | intro _ | exact Sub.trans (by decide) hm | apply kept_sendDigest | apply kept_acceptPkt
    | apply kept_State_at | apply keptO_next | apply kept_ite

theorem kept_execLinkctlSleep (x1) (hm : Sub [.obj, .pins, .evlog, .cross, .pxl, .trx, .mgt, .jrn] m) (h : Kept m s0 s)
    : KeptO m s0 (execLinkctlSleep x1 s) := by
  unfold execLinkctlSleep
  repeat' with_reducible first
    | assumption | intro _ | exact Sub.trans (by decide) hm | apply kept_eachLane | apply kept_acceptPkt
    | apply kept_setLink | apply kept_State_at | apply kept_loseBoundary | apply kept_resetLane | apply kept_modPxl
    | apply keptO_next | apply kept_ite | apply keptO_ite
    | (extract_lets +onlyGivenNames x; revert x; first
        | refine kept_named (m := m) (s0 := s0) ?_ ?_ | refine kept_namedP (m := m) (s0 := s0) ?_ ?_
        | refine kept_value ?_) | apply kept_each

theorem kept_execLinkctlSwitch (x1) (hm : Sub [.obj, .pins, .evlog, .cross, .pxl, .trx, .lake, .mgt, .jrn] m) (h : Kept
    m s0 s) : KeptO m s0 (execLinkctlSwitch x1 s) := by
  unfold execLinkctlSwitch
  repeat' with_reducible first
    | assumption | intro _ | exact Sub.trans (by decide) hm | apply kept_takeOffer | apply kept_acceptPkt
    | apply kept_State_at | apply keptO_next | apply kept_ite

theorem kept_sm02Fails (hm : Sub [.obj, .pins, .evlog, .mgt, .safe, .gyl, .jrn] m) (h : Kept m s0 s) : Kept m s0
    (sm02Fails s) := by
  unfold sm02Fails
  repeat' with_reducible first
    | assumption | intro _ | exact Sub.trans (by decide) hm | apply kept_safetyEvent | apply kept_sourceLost
    | (extract_lets +onlyGivenNames x; revert x; first
        | refine kept_named (m := m) (s0 := s0) ?_ ?_ | refine kept_namedP (m := m) (s0 := s0) ?_ ?_
        | refine kept_value ?_) | (simp -zeta only [kept_lit]) | apply kept_set_safe

theorem kept_execSourceSilent (x1) (hm : Sub [.free, .obj, .pins, .evlog, .trx, .mgt, .safe, .gyl, .jrn] m) (h : Kept m
    s0 s) : KeptO m s0 (execSourceSilent x1 s) := by
  unfold execSourceSilent
  repeat' with_reducible first
    | assumption | intro _ | exact Sub.trans (by decide) hm | apply kept_tookFree | apply kept_backEvent
    | apply kept_State_at | apply kept_sm02Fails | apply keptO_next | apply kept_ite | apply keptO_ite
    | (extract_lets +onlyGivenNames x; revert x; first
        | refine kept_named (m := m) (s0 := s0) ?_ ?_ | refine kept_namedP (m := m) (s0 := s0) ?_ ?_
        | refine kept_value ?_) | (simp -zeta only [kept_lit]) | apply kept_set_trx

theorem kept_execSrcframe (x1) (x2) (hm : Sub [.obj, .pins, .evlog, .trx, .mgt, .safe, .gyl, .jrn] m) (h : Kept m s0 s)
    : KeptO m s0 (execSrcframe x1 x2 s) := by
  unfold execSrcframe
  repeat' with_reducible first
    | assumption | intro _ | exact Sub.trans (by decide) hm | apply kept_sourceTick | apply kept_backEvent
    | apply kept_acceptPkt | apply kept_evc | apply kept_State_at | apply kept_cnt | apply kept_sm02Fails
    | apply keptO_next | apply kept_ite | apply keptO_ite
    | (extract_lets +onlyGivenNames x; revert x; first
        | refine kept_named (m := m) (s0 := s0) ?_ ?_ | refine kept_namedP (m := m) (s0 := s0) ?_ ?_
        | refine kept_value ?_) | (simp -zeta only [kept_lit]) | apply kept_set_trx

theorem kept_execTile (x1) (x2) (x3) (x4) (hm : Sub [.obj, .mem, .poison, .trx, .lake, .scan, .safe] m) (h : Kept m s0
    s) : KeptO m s0 (execTile x1 x2 x3 x4 s) := by
  unfold execTile
  repeat' with_reducible first
    | assumption | intro _ | exact Sub.trans (by decide) hm | apply kept_acceptPkt | apply kept_newTile | apply kept_evc
    | apply kept_knownTile | apply kept_State_at | apply keptO_next | apply kept_ite | apply keptO_ite
    | (extract_lets +onlyGivenNames x; revert x; first
        | refine kept_named (m := m) (s0 := s0) ?_ ?_ | refine kept_namedP (m := m) (s0 := s0) ?_ ?_
        | refine kept_value ?_) | (apply kept_eqP (by assumption)) | split

theorem kept_execToken (x1) (x2) (hm : Sub [.obj, .trx, .lake, .scan] m) (h : Kept m s0 s) : KeptO m s0 (execToken x1 x2
    s) := by
  unfold execToken
  repeat' with_reducible first
    | assumption | intro _ | exact Sub.trans (by decide) hm | apply kept_rejectPkt | apply kept_takeToken
    | apply kept_applyToken | apply kept_tryComplete | apply kept_acceptPkt | apply kept_evc | apply kept_State_at
    | apply kept_joinGroup | apply kept_setTag | apply keptO_next | apply kept_ite

theorem kept_setXState (x1) (x2) (hm : Sub [.cross] m) (h : Kept m s0 s) : Kept m s0 (setXState x1 x2 s) := by
  unfold setXState
  repeat' with_reducible first
    | assumption | intro _ | exact Sub.trans (by decide) hm | apply kept_setCross

theorem kept_execBandPllResetTimer (x1) (x2) (x3) (hm : Sub [.cross, .dlk, .safe, .pnl] m) (h : Kept m s0 s) : KeptO m
    s0 (execBandPllResetTimer x1 x2 x3 s) := by
  unfold execBandPllResetTimer
  repeat' with_reducible first
    | assumption | intro _ | exact Sub.trans (by decide) hm | apply kept_setMech | apply kept_State_at
    | apply kept_setXState | apply kept_startTraining | apply keptO_next | apply kept_ite

theorem kept_timedOut (x1) (hm : Sub [.obj, .cross, .safe] m) (h : Kept m s0 s) : Kept m s0 (timedOut x1 s) := by
  unfold timedOut
  repeat' with_reducible first
    | assumption | intro _ | exact Sub.trans (by decide) hm | apply kept_evc | apply kept_failure | apply kept_setCross
    | apply kept_cnt

theorem kept_execClockMonitorTimeout (x1) (x2) (hm : Sub [.obj, .boot, .pins, .pwr, .evlog, .cross, .pxl, .trx, .lake,
    .fst, .mgt, .scan, .dlk, .safe, .pnl, .cal, .gyl, .jrn] m) (h : Kept m s0 s) : KeptO m s0 (execClockMonitorTimeout
    x1 x2 s) := by
  unfold execClockMonitorTimeout
  repeat' with_reducible first
    | assumption | intro _ | exact Sub.trans (by decide) hm | apply kept_xflush | apply kept_attemptFailed
    | apply kept_bandReaction | apply kept_failLane | apply kept_setDlk | apply kept_State_at | apply kept_setLane
    | apply kept_loseBack | apply kept_resetLane | apply kept_setXState | apply kept_timedOut | apply kept_deviceReaction
    | apply kept_tryDetect | apply keptO_next | apply kept_ite | apply keptO_ite
    | (extract_lets +onlyGivenNames x; revert x; first
        | refine kept_named (m := m) (s0 := s0) ?_ ?_ | refine kept_namedP (m := m) (s0 := s0) ?_ ?_
        | refine kept_value ?_) | (apply kept_eqP (by assumption)) | split

theorem kept_execInterfaceResetTimer (x1) (x2) (hm : Sub [.cross] m) (h : Kept m s0 s) : KeptO m s0
    (execInterfaceResetTimer x1 x2 s) := by
  unfold execInterfaceResetTimer
  repeat' with_reducible first
    | assumption | intro _ | exact Sub.trans (by decide) hm | apply kept_State_at | apply kept_setXState
    | apply keptO_next | apply kept_ite

theorem kept_execPeerResetClear (x1) (x2) (hm : Sub [.cross] m) (h : Kept m s0 s) : KeptO m s0 (execPeerResetClear x1 x2
    s) := by
  unfold execPeerResetClear
  repeat' with_reducible first
    | assumption | intro _ | exact Sub.trans (by decide) hm | apply kept_State_at | apply kept_setXState
    | apply keptO_next | apply kept_ite

theorem kept_updateSub (x1) (x2) (x3) (x4) (hm : Sub [.obj, .mem, .poison, .pins, .evlog, .fst, .mgt, .wear, .safe,
    .jrn] m) (h : Kept m s0 s) : Kept m s0 (updateSub x1 x2 x3 x4 s) := by
  unfold updateSub
  repeat' with_reducible first
    | assumption | intro _ | exact Sub.trans (by decide) hm | apply kept_map16 | apply kept_evc | apply kept_cnt
    | apply kept_mem16 | apply kept_spendEmitter | apply kept_fst | apply kept_ite
    | (extract_lets +onlyGivenNames x; revert x; first
        | refine kept_named (m := m) (s0 := s0) ?_ ?_ | refine kept_namedP (m := m) (s0 := s0) ?_ ?_
        | refine kept_value ?_) | (simp -zeta only [kept_lit]) | apply kept_set_wear

theorem kept_execLedgerRowUpdate (x1) (x2) (x3) (hm : Sub [.obj, .mem, .poison, .pins, .evlog, .fst, .mgt, .wear, .safe,
    .jrn] m) (h : Kept m s0 s) : KeptO m s0 (execLedgerRowUpdate x1 x2 x3 s) := by
  unfold execLedgerRowUpdate
  repeat' with_reducible first
    | assumption | intro _ | exact Sub.trans (by decide) hm | apply kept_readPoison | apply kept_updateSub
    | apply kept_evc | apply kept_State_at | apply kept_cnt | apply keptO_next | apply kept_ite | apply keptO_ite
    | (extract_lets +onlyGivenNames x; revert x; first
        | refine kept_named (m := m) (s0 := s0) ?_ ?_ | refine kept_namedP (m := m) (s0 := s0) ?_ ?_
        | refine kept_value ?_) | apply kept_each | (simp -zeta only [kept_lit]) | apply kept_set_wear

theorem kept_execShadowRowChecked (x1) (x2) (x3) (x4) (x5) (hm : Sub [.obj, .mem, .poison, .pins, .evlog, .trx, .lake,
    .fst, .mgt, .scan, .safe, .jrn] m) (h : Kept m s0 s) : KeptO m s0 (execShadowRowChecked x1 x2 x3 x4 x5 s) := by
  unfold execShadowRowChecked
  repeat' with_reducible first
    | assumption | intro _ | exact Sub.trans (by decide) hm | apply kept_oset | apply kept_bandReaction
    | apply kept_setBandScan | apply kept_evc | apply kept_failure | apply kept_State_at | apply kept_cnt
    | apply kept_releaseWrites | apply keptO_next | exact keptO_fault | apply kept_fst | apply kept_ite | apply keptO_ite
    | (extract_lets +onlyGivenNames x; revert x; first
        | refine kept_named (m := m) (s0 := s0) ?_ ?_ | refine kept_namedP (m := m) (s0 := s0) ?_ ?_
        | refine kept_value ?_) | apply kept_each | (simp -zeta only [kept_lit]) | apply kept_set_scan
    | (apply kept_eqP (by assumption)) | split

theorem kept_readMem (x1) (x2) (hm : Sub [.free, .obj] m) (h : Kept m s0 s) : KeptP m s0 (readMem x1 x2 s) := by
  unfold readMem
  repeat' with_reducible first
    | assumption | intro _ | exact Sub.trans (by decide) hm | apply kept_tookFree | apply kept_cnt
    | (unfold KeptP; dsimp only) | apply kept_ite | apply keptP_ite | (apply kept_eqP (by assumption)) | split

theorem kept_domRead (x1) (x2) (x3) (hm : Sub [.free, .obj] m) (h : Kept m s0 s) : KeptP m s0 (domRead s x1 x2 x3) := by
  unfold domRead
  repeat' with_reducible first
    | assumption | intro _ | exact Sub.trans (by decide) hm | apply kept_tookFree | apply kept_readMem
    | (unfold KeptP; dsimp only) | apply kept_ite | apply keptP_ite | (apply kept_eqP (by assumption)) | split
    | apply kept_fst

theorem kept_readLed (x1) (x2) (hm : Sub [.free, .obj] m) (h : Kept m s0 s) : KeptP m s0 (readLed x1 x2 s) := by
  unfold readLed
  repeat' with_reducible first
    | assumption | intro _ | exact Sub.trans (by decide) hm | apply kept_readMem | apply kept_fst
    | (unfold KeptP; dsimp only) | apply kept_ite | apply keptP_ite

theorem kept_readRep (x1) (x2) (x3) (hm : Sub [.obj, .pins, .mgt] m) (h : Kept m s0 s) : KeptP m s0 (readRep x1 x2 x3 s)
    := by
  unfold readRep
  repeat' with_reducible first
    | assumption | intro _ | exact Sub.trans (by decide) hm | apply kept_setPort | (unfold KeptP; dsimp only)
    | apply kept_ite | apply keptP_ite | (apply kept_eqP (by assumption)) | split

theorem kept_readWin (x1) (x2) (x3) (hm : Sub [.obj, .pins, .mgt] m) (h : Kept m s0 s) : KeptP m s0 (readWin x1 x2 x3 s)
    := by
  unfold readWin
  repeat' with_reducible first
    | assumption | intro _ | exact Sub.trans (by decide) hm | apply kept_readRep | apply kept_fst
    | (unfold KeptP; dsimp only) | apply kept_ite | apply keptP_ite

theorem kept_runRead (x1) (x2) (x3) (hm : Sub [.free, .obj, .boot, .pins, .pwr, .evlog, .cross, .pxl, .trx, .lake, .fst,
    .bnk, .mgt, .scan, .dlk, .wear, .safe, .pnl, .cal, .gyl, .jrn] m) (h : Kept m s0 s) : KeptP m s0 (runRead x1 x2 x3
    s) := by
  unfold runRead
  repeat' with_reducible first
    | assumption | intro _ | exact Sub.trans (by decide) hm | apply kept_violation | apply kept_peekRead
    | apply kept_readWin | apply kept_readLed | apply kept_fst | (unfold KeptP; dsimp only) | apply kept_ite
    | apply keptP_ite
    | (extract_lets +onlyGivenNames x; revert x; first
        | refine kept_named (m := m) (s0 := s0) ?_ ?_ | refine kept_namedP (m := m) (s0 := s0) ?_ ?_
        | refine kept_value ?_) | apply kept_each | (apply kept_eqP (by assumption)) | split

theorem kept_evtChanged (hm : Sub [.pins] m) (h : Kept m s0 s) : Kept m s0 (evtChanged s) := by
  unfold evtChanged
  repeat' with_reducible first
    | assumption | intro _ | exact Sub.trans (by decide) hm | apply kept_refreshEvt | apply kept_ite
    | (extract_lets +onlyGivenNames x; revert x; first
        | refine kept_named (m := m) (s0 := s0) ?_ ?_ | refine kept_namedP (m := m) (s0 := s0) ?_ ?_
        | refine kept_value ?_) | (simp -zeta only [kept_lit]) | apply kept_set_pins

theorem kept_ownEvClr (x1) (hm : Sub [.obj, .pins, .evlog, .mgt, .jrn] m) (h : Kept m s0 s) : KeptP m s0 (ownEvClr x1 s)
    := by
  unfold ownEvClr
  repeat' with_reducible first
    | assumption | intro _ | exact Sub.trans (by decide) hm | apply kept_logEv | (unfold KeptP; dsimp only)
    | apply kept_ite | apply keptP_ite
    | (extract_lets +onlyGivenNames x; revert x; first
        | refine kept_named (m := m) (s0 := s0) ?_ ?_ | refine kept_namedP (m := m) (s0 := s0) ?_ ?_
        | refine kept_value ?_) | (simp -zeta only [kept_lit]) | apply kept_set_evlog | (apply kept_eqP (by assumption))
    | split

theorem kept_ownEvtPend (x1) (hm : Sub [.obj, .pins, .mgt] m) (h : Kept m s0 s) : KeptP m s0 (ownEvtPend x1 s) := by
  unfold ownEvtPend
  repeat' with_reducible first
    | assumption | intro _ | exact Sub.trans (by decide) hm | apply kept_oset | apply kept_refreshEvt
    | (unfold KeptP; dsimp only)
    | (extract_lets +onlyGivenNames x; revert x; first
        | refine kept_named (m := m) (s0 := s0) ?_ ?_ | refine kept_namedP (m := m) (s0 := s0) ?_ ?_
        | refine kept_value ?_) | (simp -zeta only [kept_lit]) | apply kept_set_mgt

theorem kept_ownPatchCmd (x1) (hm : Sub [.obj, .mgt] m) (h : Kept m s0 s) : KeptP m s0 (ownPatchCmd x1 s) := by
  unfold ownPatchCmd
  repeat' with_reducible first
    | assumption | intro _ | exact Sub.trans (by decide) hm | apply kept_oset | (unfold KeptP; dsimp only)
    | apply kept_ite | apply keptP_ite
    | (extract_lets +onlyGivenNames x; revert x; first
        | refine kept_named (m := m) (s0 := s0) ?_ ?_ | refine kept_namedP (m := m) (s0 := s0) ?_ ?_
        | refine kept_value ?_) | (simp -zeta only [kept_lit]) | apply kept_set_mgt | (apply kept_eqP (by assumption))
    | split

theorem kept_ownRelief (x1) (x2) (hm : Sub [.obj, .safe, .jrn] m) (h : Kept m s0 s) : KeptP m s0 (ownRelief x1 x2 s) := by
  unfold ownRelief
  repeat' with_reducible first
    | assumption | intro _ | exact Sub.trans (by decide) hm | apply kept_plainWrite | (unfold KeptP; dsimp only)
    | apply kept_ite | apply keptP_ite | (apply kept_eqP (by assumption)) | split

theorem kept_ownHigh (x1) (x2) (hm : Sub [.obj, .boot, .pins, .pwr, .evlog, .cross, .pxl, .trx, .lake, .fst, .mgt,
    .scan, .dlk, .wear, .safe, .pnl, .cal, .gyl, .jrn] m) (h : Kept m s0 s) : KeptQ m s0 (ownHigh x1 x2 s) := by
  unfold ownHigh
  repeat' with_reducible first
    | assumption | intro _ | exact Sub.trans (by decide) hm | apply kept_ownInject | apply kept_ownPatchCmd
    | apply kept_ownBandClr | apply kept_ownSafClear | apply kept_ownRelief | apply kept_ownInjGo | apply kept_ownSealCmd
    | apply keptQ_some | exact keptQ_none | apply keptQ_ite | apply keptP_mk | apply kept_ite
    | (simp -zeta only [kept_lit]) | apply kept_set_wear

theorem kept_ownLayoutTag (x1) (hm : Sub [.obj, .safe, .jrn] m) (h : Kept m s0 s) : KeptP m s0 (ownLayoutTag x1 s) := by
  unfold ownLayoutTag
  repeat' with_reducible first
    | assumption | intro _ | exact Sub.trans (by decide) hm | apply kept_plainWrite | (unfold KeptP; dsimp only)
    | apply kept_ite | apply keptP_ite

theorem kept_ownRegion (x1) (x2) (hm : Sub [.obj, .safe, .jrn] m) (h : Kept m s0 s) : KeptP m s0 (ownRegion x1 x2 s) := by
  unfold ownRegion
  repeat' with_reducible first
    | assumption | intro _ | exact Sub.trans (by decide) hm | apply kept_plainWrite | (unfold KeptP; dsimp only)
    | apply kept_ite | apply keptP_ite

theorem kept_ownLow (x1) (x2) (hm : Sub [.free, .obj, .boot, .pins, .pwr, .evlog, .cross, .pxl, .trx, .lake, .fst, .mgt,
    .scan, .dlk, .wear, .safe, .pnl, .cal, .gyl, .jrn] m) (h : Kept m s0 s) : KeptQ m s0 (ownLow x1 x2 s) := by
  unfold ownLow
  repeat' with_reducible first
    | assumption | intro _ | exact Sub.trans (by decide) hm | apply kept_ownRegReq | apply kept_ownRegion
    | apply kept_ownPxlLanes | apply kept_ownEvtPend | apply kept_ownDevState | apply kept_evtChanged
    | apply kept_ownPxlEnable | apply kept_plainWrite | apply kept_ownPxlRetrain | apply kept_ownEvClr
    | apply kept_ownPrbsStart | apply keptQ_some | exact keptQ_none | apply keptQ_ite | apply keptP_mk

theorem kept_ownSets (x1) (x2) (hm : Sub [.obj, .safe, .jrn] m) (h : Kept m s0 s) : KeptP m s0 (ownSets x1 x2 s) := by
  unfold ownSets
  repeat' with_reducible first
    | assumption | intro _ | exact Sub.trans (by decide) hm | apply kept_oset | apply kept_plainWrite
    | (unfold KeptP; dsimp only) | apply kept_ite | apply keptP_ite | (apply kept_eqP (by assumption)) | split

theorem kept_ownMid (x1) (x2) (hm : Sub [.obj, .mem, .poison, .pins, .evlog, .trx, .lake, .mgt, .scan, .dlk, .safe,
    .pnl, .jrn] m) (h : Kept m s0 s) : KeptQ m s0 (ownMid x1 x2 s) := by
  unfold ownMid
  repeat' with_reducible first
    | assumption | intro _ | exact Sub.trans (by decide) hm | apply kept_ownShowReq | apply kept_ownVresTest
    | apply kept_ownDrvreg | apply kept_ownSets | apply kept_ownDlkRetrain | apply kept_ownCrkLearn
    | apply kept_ownRailReq | apply kept_plainWrite | apply kept_ownTimed | apply kept_configChanged
    | apply kept_ownLakeCmd | apply keptQ_some | exact keptQ_none | apply keptQ_ite | apply keptP_mk

theorem kept_ownSrcOffs (x1) (hm : Sub [.obj, .safe, .jrn] m) (h : Kept m s0 s) : KeptP m s0 (ownSrcOffs x1 s) := by
  unfold ownSrcOffs
  repeat' with_reducible first
    | assumption | intro _ | exact Sub.trans (by decide) hm | apply kept_plainWrite | (unfold KeptP; dsimp only)
    | apply kept_ite | apply keptP_ite

theorem kept_ownTop (x1) (x2) (hm : Sub [.obj, .mem, .poison, .boot, .pins, .pwr, .evlog, .pxl, .trx, .lake, .fst, .bnk,
    .mgt, .scan, .dlk, .wear, .safe, .pnl, .cal, .gyl, .jrn] m) (h : Kept m s0 s) : KeptQ m s0 (ownTop x1 x2 s) := by
  unfold ownTop
  repeat' with_reducible first
    | assumption | intro _ | exact Sub.trans (by decide) hm | apply kept_peekWrite | apply kept_ownSrcOffs
    | apply kept_ownCmtReq | apply kept_ownEvcSel | apply kept_ownSnapCmd | apply kept_ownAdctrig | apply kept_ownSnapNow
    | apply kept_ownBnkOwner | apply kept_ownCalCmd | apply kept_ownJrnCmd | apply kept_ownPadrel | apply kept_ownPwrReq
    | apply kept_ownRstSoft | apply kept_ownWakeNow | apply kept_ownLayoutTag | apply kept_ownGylRole
    | apply kept_ownEvcClear | apply kept_ownRealign | apply keptQ_some | exact keptQ_none | apply keptQ_ite

theorem kept_ownWrite (x1) (x2) (hm : Sub [.free, .obj, .mem, .poison, .boot, .pins, .pwr, .evlog, .cross, .pxl, .trx,
    .lake, .fst, .bnk, .mgt, .scan, .dlk, .wear, .safe, .pnl, .cal, .gyl, .jrn] m) (h : Kept m s0 s) : KeptP m s0
    (ownWrite x1 x2 s) := by
  unfold ownWrite
  repeat' with_reducible first
    | assumption | intro _ | exact Sub.trans (by decide) hm | apply kept_ownMid | apply kept_ownHigh | apply kept_ownPlain
    | apply kept_ownLow | apply kept_ownTop
    | (extract_lets +onlyGivenNames x; revert x; first
        | refine kept_named (m := m) (s0 := s0) ?_ ?_ | refine kept_namedP (m := m) (s0 := s0) ?_ ?_
        | refine kept_value ?_) | (apply kept_eqP (by assumption)) | split | apply keptQ_getD

theorem kept_patchWrite (x1) (hm : Sub [.obj, .mgt] m) (h : Kept m s0 s) : KeptP m s0 (patchWrite x1 s) := by
  unfold patchWrite
  repeat' with_reducible first
    | assumption | intro _ | exact Sub.trans (by decide) hm | apply kept_oset | (unfold KeptP; dsimp only)
    | apply kept_ite | apply keptP_ite
    | (extract_lets +onlyGivenNames x; revert x; first
        | refine kept_named (m := m) (s0 := s0) ?_ ?_ | refine kept_namedP (m := m) (s0 := s0) ?_ ?_
        | refine kept_value ?_) | (simp -zeta only [kept_lit]) | apply kept_set_mgt | (apply kept_eqP (by assumption))
    | split

theorem kept_domWrite (x1) (x2) (hm : Sub [.obj, .dom, .safe, .jrn] m) (h : Kept m s0 s) : Kept m s0 (domWrite x1 x2 s)
    := by
  unfold domWrite
  repeat' with_reducible first
    | assumption | intro _ | exact Sub.trans (by decide) hm | apply kept_refCrc | apply kept_dset | apply kept_jrnDom
    | apply kept_ite

theorem kept_plateWrite (x1) (x2) (x3) (hm : Sub [.obj, .scan] m) (h : Kept m s0 s) : Kept m s0 (plateWrite x1 x2 x3 s)
    := by
  unfold plateWrite
  repeat' with_reducible first
    | assumption | intro _ | exact Sub.trans (by decide) hm | apply kept_oset | apply kept_setPlate | apply kept_ite

theorem kept_mapWrite (x1) (hm : Sub [.obj, .mem, .poison, .pins, .evlog, .fst, .mgt, .wear, .safe, .jrn] m) (h : Kept m
    s0 s) : Kept m s0 (mapWrite x1 s) := by
  unfold mapWrite
  repeat' with_reducible first
    | assumption | intro _ | exact Sub.trans (by decide) hm | apply kept_startCompact | apply kept_oset
    | apply kept_countDead | apply kept_declareDead | apply kept_fst | apply kept_ite
    | (extract_lets +onlyGivenNames x; revert x; first
        | refine kept_named (m := m) (s0 := s0) ?_ ?_ | refine kept_namedP (m := m) (s0 := s0) ?_ ?_
        | refine kept_value ?_) | apply kept_each | (simp -zeta only [kept_lit]) | apply kept_set_jrn

theorem kept_tableWrite (x1) (x2) (hm : Sub [.obj, .dom, .scan, .safe, .jrn] m) (h : Kept m s0 s) : KeptP m s0
    (tableWrite x1 x2 s) := by
  unfold tableWrite
  repeat' with_reducible first
    | assumption | intro _ | exact Sub.trans (by decide) hm | apply kept_domWrite | (unfold KeptP; dsimp only)
    | apply kept_ite | apply keptP_ite | (simp -zeta only [kept_lit]) | apply kept_set_scan
    | (apply kept_eqP (by assumption)) | split

theorem kept_applyDownload (x1) (x2) (hm : Sub [.obj, .dom, .mem, .poison, .boot, .pins, .evlog, .lake, .fst, .mgt,
    .scan, .dlk, .wear, .safe, .jrn] m) (h : Kept m s0 s) : KeptP m s0 (applyDownload x1 x2 s) := by
  unfold applyDownload
  repeat' with_reducible first
    | assumption | intro _ | exact Sub.trans (by decide) hm | apply kept_patchWrite | apply kept_domWrite
    | apply kept_loadCtx | apply kept_plateWrite | apply kept_mapWrite | apply kept_tableWrite | apply kept_mapStore
    | apply kept_configChanged | (unfold KeptP; dsimp only) | apply kept_ite | apply keptP_ite
    | (simp -zeta only [kept_lit]) | apply kept_set_boot | (apply kept_eqP (by assumption)) | split | apply kept_fst

theorem kept_selChanged (x1) (x2) (x3) (hm : Sub [.wear] m) (h : Kept m s0 s) : Kept m s0 (selChanged x1 x2 x3 s) := by
  unfold selChanged
  repeat' with_reducible first
    | assumption | intro _ | exact Sub.trans (by decide) hm | apply kept_touchRow | apply kept_ite

theorem kept_defectStore (x1) (x2) (hm : Sub [.obj, .mem, .poison, .wear] m) (h : Kept m s0 s) : Kept m s0 (defectStore
    x1 x2 s) := by
  unfold defectStore
  repeat' with_reducible first
    | assumption | intro _ | exact Sub.trans (by decide) hm | apply kept_selChanged | apply kept_memStore
    | (extract_lets +onlyGivenNames x; revert x; first
        | refine kept_named (m := m) (s0 := s0) ?_ ?_ | refine kept_namedP (m := m) (s0 := s0) ?_ ?_
        | refine kept_value ?_) | apply kept_each

theorem kept_plateStore (x1 x2 x3) (x4 : List Byte) (hm : Sub [.obj, .mem, .poison] m) (h : Kept m s0 s) :
    Kept m s0 (plateStore x1 x2 x3 x4 s) := by
  induction x2 generalizing s x3 x4 with
  | zero => exact h
  | succ k ih =>
    unfold plateStore
    split
    · exact h
    · dsimp only
      exact ih _ _ (kept_ite (kept_memStore _ _ (Sub.trans (by decide) hm) h) h)

theorem kept_directStore (x1) (x2) (x3) (hm : Sub [.obj, .mem, .poison, .fst, .wear] m) (h : Kept m s0 s) : Kept m s0
    (directStore x1 x2 x3 s) := by
  unfold directStore
  repeat' with_reducible first
    | assumption | intro _ | exact Sub.trans (by decide) hm | apply kept_plateStore | apply kept_defectStore
    | apply kept_ageDead | apply kept_mapStore | apply kept_ite

theorem kept_moved (x1) (x2) (x3) (x4) (hm : Sub [.obj, .pins, .mgt] m) (h : Kept m s0 s) : Kept m s0 (moved x1 x2 x3 x4
    s) := by
  unfold moved
  repeat' with_reducible first
    | assumption | intro _ | exact Sub.trans (by decide) hm | apply kept_setPort

theorem kept_openTransfer (x1) (x2) (x3) (x4) (x5) (x6) (hm : Sub [.free, .obj, .pins, .mgt, .scan] m) (h : Kept m s0 s)
    : KeptP m s0 (openTransfer x1 x2 x3 x4 x5 x6 s) := by
  unfold openTransfer
  repeat' with_reducible first
    | assumption | intro _ | exact Sub.trans (by decide) hm | apply kept_setPlate | apply kept_domRead
    | apply kept_setPort | apply kept_fst | (unfold KeptP; dsimp only) | apply kept_ite | apply keptP_ite

theorem kept_runSegAbort (x1) (x2) (x3) (x4) (hm : Sub [.obj, .pins, .mgt, .scan, .jrn] m) (h : Kept m s0 s) : KeptP m
    s0 (runSegAbort x1 x2 x3 x4 s) := by
  unfold runSegAbort
  repeat' with_reducible first
    | assumption | intro _ | exact Sub.trans (by decide) hm | apply kept_abortTransfer | (unfold KeptP; dsimp only)
    | apply kept_ite | apply keptP_ite | (apply kept_eqP (by assumption)) | split

theorem kept_runSegData (x1) (x2) (x3) (x4) (hm : Sub [.obj, .mem, .poison, .pins, .fst, .mgt, .wear] m) (h : Kept m s0
    s) : KeptP m s0 (runSegData x1 x2 x3 x4 s) := by
  unfold runSegData
  repeat' with_reducible first
    | assumption | intro _ | exact Sub.trans (by decide) hm | apply kept_directStore | apply kept_moved
    | (unfold KeptP; dsimp only) | apply kept_ite | apply keptP_ite | (apply kept_eqP (by assumption)) | split

theorem kept_runSegEnd (x1) (x2) (x3) (x4) (hm : Sub [.obj, .dom, .mem, .poison, .boot, .pins, .evlog, .lake, .fst,
    .mgt, .scan, .dlk, .wear, .safe, .jrn] m) (h : Kept m s0 s) : KeptP m s0 (runSegEnd x1 x2 x3 x4 s) := by
  unfold runSegEnd
  repeat' with_reducible first
    | assumption | intro _ | exact Sub.trans (by decide) hm | apply kept_applyDownload | apply kept_transferFails
    | apply kept_setPort | apply kept_fst | (unfold KeptP; dsimp only) | apply kept_ite | apply keptP_ite
    | (extract_lets +onlyGivenNames x; revert x; first
        | refine kept_named (m := m) (s0 := s0) ?_ ?_ | refine kept_namedP (m := m) (s0 := s0) ?_ ?_
        | refine kept_value ?_) | (apply kept_eqP (by assumption)) | split

theorem kept_runSegInit (x1) (x2) (x3) (x4) (hm : Sub [.free, .obj, .pins, .mgt, .scan] m) (h : Kept m s0 s) : KeptP m
    s0 (runSegInit x1 x2 x3 x4 s) := by
  unfold runSegInit
  repeat' with_reducible first
    | assumption | intro _ | exact Sub.trans (by decide) hm | apply kept_violation | apply kept_openTransfer
    | (unfold KeptP; dsimp only) | apply kept_ite | apply keptP_ite | (apply kept_eqP (by assumption)) | split
    | apply kept_fst

theorem kept_runSegRead (x1) (x2) (x3) (x4) (hm : Sub [.free, .obj, .pins, .mgt] m) (h : Kept m s0 s) : KeptP m s0
    (runSegRead x1 x2 x3 x4 s) := by
  unfold runSegRead
  repeat' with_reducible first
    | assumption | intro _ | exact Sub.trans (by decide) hm | apply kept_domRead | apply kept_moved | apply kept_fst
    | (unfold KeptP; dsimp only) | apply kept_ite | apply keptP_ite
    | (extract_lets +onlyGivenNames x; revert x; first
        | refine kept_named (m := m) (s0 := s0) ?_ ?_ | refine kept_namedP (m := m) (s0 := s0) ?_ ?_
        | refine kept_value ?_) | (apply kept_eqP (by assumption)) | split

theorem kept_answered (x1) (x2) (hm : Sub [.obj, .pins, .mgt] m) (h : Kept m s0 s) : Kept m s0 (answered x1 x2 s) := by
  unfold answered
  repeat' with_reducible first
    | assumption | intro _ | exact Sub.trans (by decide) hm | apply kept_setPort | apply kept_ite
    | (extract_lets +onlyGivenNames x; revert x; first
        | refine kept_named (m := m) (s0 := s0) ?_ ?_ | refine kept_namedP (m := m) (s0 := s0) ?_ ?_
        | refine kept_value ?_) | (simp -zeta only [kept_lit]) | apply kept_set_mgt

theorem kept_authFailed (x1) (hm : Sub [.obj, .pins, .evlog, .mgt, .jrn] m) (h : Kept m s0 s) : KeptP m s0 (authFailed
    x1 s) := by
  unfold authFailed
  repeat' with_reducible first
    | assumption | intro _ | exact Sub.trans (by decide) hm | apply kept_pendEvt | apply kept_evc | apply kept_logEv
    | apply kept_cnt | apply kept_setPort | (unfold KeptP; dsimp only) | apply kept_ite

theorem kept_canSent (x1) (x2) (hm : Sub [.mgt] m) (h : Kept m s0 s) : Kept m s0 (canSent x1 x2 s) := by
  unfold canSent
  repeat' with_reducible first
    | assumption | intro _ | exact Sub.trans (by decide) hm
    | (extract_lets +onlyGivenNames x; revert x; first
        | refine kept_named (m := m) (s0 := s0) ?_ ?_ | refine kept_namedP (m := m) (s0 := s0) ?_ ?_
        | refine kept_value ?_) | (simp -zeta only [kept_lit]) | apply kept_set_mgt

theorem kept_clockedOut (x1) (hm : Sub [.obj, .pins, .mgt] m) (h : Kept m s0 s) : Kept m s0 (clockedOut x1 s) := by
  unfold clockedOut
  repeat' with_reducible first
    | assumption | intro _ | exact Sub.trans (by decide) hm | apply kept_answered | apply kept_ite
    | (apply kept_eqP (by assumption)) | split

theorem kept_execBnkPeekData (x1) (x2) (x3) (x4) (hm : Sub [.free, .obj, .boot, .pins, .pwr, .evlog, .cross, .pxl, .trx,
    .lake, .fst, .bnk, .mgt, .scan, .dlk, .wear, .safe, .pnl, .cal, .gyl, .jrn] m) (h : Kept m s0 s) : KeptO m s0
    (execBnkPeekData x1 x2 x3 x4 s) := by
  unfold execBnkPeekData
  repeat' with_reducible first
    | assumption | intro _ | exact Sub.trans (by decide) hm | apply kept_peekWrite | apply kept_request
    | apply kept_runRead | apply kept_writeRow | apply kept_State_at | apply keptO_next
    | (extract_lets +onlyGivenNames x; revert x; first
        | refine kept_named (m := m) (s0 := s0) ?_ ?_ | refine kept_namedP (m := m) (s0 := s0) ?_ ?_
        | refine kept_value ?_) | (apply kept_eqP (by assumption)) | split

theorem kept_execCacheEntryExpiry (x1) (x2) (x3) (hm : Sub [.obj, .pins, .mgt] m) (h : Kept m s0 s) : KeptO m s0
    (execCacheEntryExpiry x1 x2 x3 s) := by
  unfold execCacheEntryExpiry
  repeat' with_reducible first
    | assumption | intro _ | exact Sub.trans (by decide) hm | apply kept_State_at | apply kept_setPort | apply keptO_next

theorem kept_execCanBusOff (x1) (hm : Sub [.obj, .mgt] m) (h : Kept m s0 s) : KeptO m s0 (execCanBusOff x1 s) := by
  unfold execCanBusOff
  repeat' with_reducible first
    | assumption | intro _ | exact Sub.trans (by decide) hm | apply kept_evc | apply kept_State_at | apply kept_cnt
    | apply keptO_next | apply kept_ite | apply keptO_ite
    | (extract_lets +onlyGivenNames x; revert x; first
        | refine kept_named (m := m) (s0 := s0) ?_ ?_ | refine kept_namedP (m := m) (s0 := s0) ?_ ?_
        | refine kept_value ?_) | (simp -zeta only [kept_lit]) | apply kept_set_mgt

theorem kept_execCanBusOffRecovery (x1) (hm : Sub [.mgt] m) (h : Kept m s0 s) : KeptO m s0 (execCanBusOffRecovery x1 s)
    := by
  unfold execCanBusOffRecovery
  repeat' with_reducible first
    | assumption | intro _ | exact Sub.trans (by decide) hm | apply kept_State_at | apply keptO_next
    | (extract_lets +onlyGivenNames x; revert x; first
        | refine kept_named (m := m) (s0 := s0) ?_ ?_ | refine kept_namedP (m := m) (s0 := s0) ?_ ?_
        | refine kept_value ?_) | (simp -zeta only [kept_lit]) | apply kept_set_mgt

theorem kept_execCanConfigApply (x1) (hm : Sub [.mgt] m) (h : Kept m s0 s) : KeptO m s0 (execCanConfigApply x1 s) := by
  unfold execCanConfigApply
  repeat' with_reducible first
    | assumption | intro _ | exact Sub.trans (by decide) hm | apply kept_State_at | apply keptO_next | apply kept_ite
    | apply keptO_ite
    | (extract_lets +onlyGivenNames x; revert x; first
        | refine kept_named (m := m) (s0 := s0) ?_ ?_ | refine kept_namedP (m := m) (s0 := s0) ?_ ?_
        | refine kept_value ?_) | (simp -zeta only [kept_lit]) | apply kept_set_mgt | (apply kept_eqP (by assumption))
    | split

theorem kept_execCanFrameIgnored (x1) (hm : Sub [.obj] m) (h : Kept m s0 s) : KeptO m s0 (execCanFrameIgnored x1 s) := by
  unfold execCanFrameIgnored
  repeat' with_reducible first
    | assumption | intro _ | exact Sub.trans (by decide) hm | apply kept_State_at | apply kept_cnt | apply keptO_next
    | apply kept_ite

theorem kept_execCanResponseDrop (x1) (hm : Sub [.obj, .pins, .mgt] m) (h : Kept m s0 s) : KeptO m s0
    (execCanResponseDrop x1 s) := by
  unfold execCanResponseDrop
  repeat' with_reducible first
    | assumption | intro _ | exact Sub.trans (by decide) hm | apply kept_answered | apply kept_State_at | apply kept_cnt
    | apply keptO_next | apply kept_ite | apply keptO_ite
    | (extract_lets +onlyGivenNames x; revert x; first
        | refine kept_named (m := m) (s0 := s0) ?_ ?_ | refine kept_namedP (m := m) (s0 := s0) ?_ ?_
        | refine kept_value ?_) | (apply kept_eqP (by assumption)) | split

theorem kept_execCanResponseTransmitted (x1) (hm : Sub [.obj, .pins, .mgt] m) (h : Kept m s0 s) : KeptO m s0
    (execCanResponseTransmitted x1 s) := by
  unfold execCanResponseTransmitted
  repeat' with_reducible first
    | assumption | intro _ | exact Sub.trans (by decide) hm | apply kept_canSent | apply kept_answered
    | apply kept_State_at | apply keptO_next | apply kept_ite | apply keptO_ite
    | (extract_lets +onlyGivenNames x; revert x; first
        | refine kept_named (m := m) (s0 := s0) ?_ ?_ | refine kept_namedP (m := m) (s0 := s0) ?_ ?_
        | refine kept_value ?_) | (simp -zeta only [kept_lit]) | apply kept_set_mgt | (apply kept_eqP (by assumption))
    | split

theorem kept_openSession (x1) (hm : Sub [.obj, .pins, .mgt, .scan, .jrn] m) (h : Kept m s0 s) : Kept m s0 (openSession
    x1 s) := by
  unfold openSession
  repeat' with_reducible first
    | assumption | intro _ | exact Sub.trans (by decide) hm | apply kept_endWenip | apply kept_evc | apply kept_queueResp
    | apply kept_setPort

theorem kept_serveOpen (x1) (x2) (x3) (x4) (hm : Sub [.obj, .pins, .mgt, .scan, .jrn] m) (h : Kept m s0 s) : Kept m s0
    (serveOpen x1 x2 x3 x4 s) := by
  unfold serveOpen
  repeat' with_reducible first
    | assumption | intro _ | exact Sub.trans (by decide) hm | apply kept_openSession | apply kept_evc
    | apply kept_queueResp | apply kept_cnt | apply kept_ite

theorem kept_runReadReq (x1) (x2) (x3) (x4) (hm : Sub [.free, .obj, .boot, .pins, .pwr, .evlog, .cross, .pxl, .trx,
    .lake, .fst, .bnk, .mgt, .scan, .dlk, .wear, .safe, .pnl, .cal, .gyl, .jrn] m) (h : Kept m s0 s) : KeptP m s0
    (runReadReq x1 x2 x3 x4 s) := by
  unfold runReadReq
  repeat' with_reducible first
    | assumption | intro _ | exact Sub.trans (by decide) hm | apply kept_runRead | (unfold KeptP; dsimp only)
    | apply kept_ite | apply keptP_ite

theorem kept_runElevate (x1) (x2) (hm : Sub [.obj, .pins, .evlog, .mgt, .jrn] m) (h : Kept m s0 s) : KeptP m s0
    (runElevate x1 x2 s) := by
  unfold runElevate
  repeat' with_reducible first
    | assumption | intro _ | exact Sub.trans (by decide) hm | apply kept_authFailed | apply kept_setPort
    | (unfold KeptP; dsimp only) | apply kept_ite | apply keptP_ite | (apply kept_eqP (by assumption)) | split
    | apply kept_fst

theorem kept_runDrop (x1) (x2) (hm : Sub [.obj, .pins, .mgt] m) (h : Kept m s0 s) : KeptP m s0 (runDrop x1 x2 s) := by
  unfold runDrop
  repeat' with_reducible first
    | assumption | intro _ | exact Sub.trans (by decide) hm | apply kept_setPort | (unfold KeptP; dsimp only)
    | apply kept_ite | apply keptP_ite | (apply kept_eqP (by assumption)) | split

theorem kept_runClose (x1) (x2) (hm : Sub [.obj, .pins, .mgt, .scan, .jrn] m) (h : Kept m s0 s) : KeptP m s0 (runClose
    x1 x2 s) := by
  unfold runClose
  repeat' with_reducible first
    | assumption | intro _ | exact Sub.trans (by decide) hm | apply kept_endWenip | (unfold KeptP; dsimp only)
    | apply kept_ite | apply keptP_ite

theorem kept_noObjectNamed (x1) (x2) {x3 : State → State × Answer} (hr : ∀ a, Kept m s0 a → KeptP m s0 (x3 a))
    (h : Kept m s0 s) : KeptP m s0 (noObjectNamed x1 x2 x3 s) := by
  unfold noObjectNamed
  split
  · exact h
  · exact hr _ h

theorem kept_runChallenge (x1) (x2) (hm : Sub [.free, .obj, .pins, .evlog, .mgt, .jrn] m) (h : Kept m s0 s) : KeptP m s0
    (runChallenge x1 x2 s) := by
  unfold runChallenge
  repeat' with_reducible first
    | assumption | intro _ | exact Sub.trans (by decide) hm | apply kept_authFailed | apply kept_pendEvt
    | apply kept_tookFree | apply kept_setPort | (simp only [id_eq]; assumption) | (unfold KeptP; dsimp only)
    | apply kept_ite | apply keptP_ite | (apply kept_eqP (by assumption)) | split | apply kept_fst

theorem kept_runRequest (x1) (x2) (x3) (x4) (x5) (hm : Sub [.free, .obj, .dom, .mem, .poison, .boot, .pins, .pwr,
    .evlog, .cross, .pxl, .trx, .lake, .fst, .bnk, .mgt, .scan, .dlk, .wear, .safe, .pnl, .cal, .gyl, .jrn] m) (h : Kept
    m s0 s) : KeptP m s0 (runRequest x1 x2 x3 x4 x5 s) := by
  unfold runRequest
  repeat' with_reducible first
    | assumption | intro _ | exact Sub.trans (by decide) hm | apply kept_runReadReq | apply kept_runElevate
    | apply kept_runDrop | apply kept_runSegAbort | apply kept_runClose | apply kept_runSegInit | apply kept_runSegData
    | apply kept_ownWrite | apply kept_noObjectNamed | apply kept_runSegEnd | apply kept_runChallenge
    | apply kept_runSegRead | apply kept_runWrite | (unfold KeptP; dsimp only) | apply kept_each
    | (apply kept_eqP (by assumption)) | split

theorem kept_serve (x1) (x2) (x3) (x4) (x5) (hm : Sub [.free, .obj, .dom, .mem, .poison, .boot, .pins, .pwr, .evlog,
    .cross, .pxl, .trx, .lake, .fst, .bnk, .mgt, .scan, .dlk, .wear, .safe, .pnl, .cal, .gyl, .jrn] m) (h : Kept m s0 s)
    : Kept m s0 (serve x1 x2 x3 x4 x5 s) := by
  unfold serve
  repeat' with_reducible first
    | assumption | intro _ | exact Sub.trans (by decide) hm | apply kept_serveOpen | apply kept_request
    | apply kept_runRequest | apply kept_ite

theorem kept_serveFrame (x1) (x2) (hm : Sub [.free, .obj, .dom, .mem, .poison, .boot, .pins, .pwr, .evlog, .cross, .pxl,
    .trx, .lake, .fst, .bnk, .mgt, .scan, .dlk, .wear, .safe, .pnl, .cal, .gyl, .jrn] m) (h : Kept m s0 s) : Kept m s0
    (serveFrame x1 x2 s) := by
  unfold serveFrame
  repeat' with_reducible first
    | assumption | intro _ | exact Sub.trans (by decide) hm | apply kept_serve

theorem kept_execChallenge (x1) (x2) (hm : Sub [.free, .obj, .dom, .mem, .poison, .boot, .pins, .pwr, .evlog, .cross,
    .pxl, .trx, .lake, .fst, .bnk, .mgt, .scan, .dlk, .wear, .safe, .pnl, .cal, .gyl, .jrn] m) (h : Kept m s0 s) : KeptO
    m s0 (execChallenge x1 x2 s) := by
  unfold execChallenge
  repeat' with_reducible first
    | assumption | intro _ | exact Sub.trans (by decide) hm | apply kept_State_at | apply kept_serveFrame
    | apply keptO_next

theorem kept_execClose (x1) (x2) (hm : Sub [.free, .obj, .dom, .mem, .poison, .boot, .pins, .pwr, .evlog, .cross, .pxl,
    .trx, .lake, .fst, .bnk, .mgt, .scan, .dlk, .wear, .safe, .pnl, .cal, .gyl, .jrn] m) (h : Kept m s0 s) : KeptO m s0
    (execClose x1 x2 s) := by
  unfold execClose
  repeat' with_reducible first
    | assumption | intro _ | exact Sub.trans (by decide) hm | apply kept_State_at | apply kept_serveFrame
    | apply keptO_next

theorem kept_execDevEvclr (x1) (x2) (x3) (hm : Sub [.obj, .pins, .evlog, .mgt, .jrn] m) (h : Kept m s0 s) : KeptO m s0
    (execDevEvclr x1 x2 x3 s) := by
  unfold execDevEvclr
  repeat' with_reducible first
    | assumption | intro _ | exact Sub.trans (by decide) hm | apply kept_writeRow | apply kept_State_at
    | apply kept_ownEvClr | apply keptO_next

theorem kept_execDrop (x1) (x2) (hm : Sub [.free, .obj, .dom, .mem, .poison, .boot, .pins, .pwr, .evlog, .cross, .pxl,
    .trx, .lake, .fst, .bnk, .mgt, .scan, .dlk, .wear, .safe, .pnl, .cal, .gyl, .jrn] m) (h : Kept m s0 s) : KeptO m s0
    (execDrop x1 x2 s) := by
  unfold execDrop
  repeat' with_reducible first
    | assumption | intro _ | exact Sub.trans (by decide) hm | apply kept_State_at | apply kept_serveFrame
    | apply keptO_next

theorem kept_execElevate (x1) (x2) (hm : Sub [.free, .obj, .dom, .mem, .poison, .boot, .pins, .pwr, .evlog, .cross,
    .pxl, .trx, .lake, .fst, .bnk, .mgt, .scan, .dlk, .wear, .safe, .pnl, .cal, .gyl, .jrn] m) (h : Kept m s0 s) : KeptO
    m s0 (execElevate x1 x2 s) := by
  unfold execElevate
  repeat' with_reducible first
    | assumption | intro _ | exact Sub.trans (by decide) hm | apply kept_State_at | apply kept_serveFrame
    | apply keptO_next

theorem kept_execLockoutExpiry (x1) (x2) (hm : Sub [.obj, .pins, .mgt] m) (h : Kept m s0 s) : KeptO m s0
    (execLockoutExpiry x1 x2 s) := by
  unfold execLockoutExpiry
  repeat' with_reducible first
    | assumption | intro _ | exact Sub.trans (by decide) hm | apply kept_State_at | apply kept_setPort | apply keptO_next
    | apply kept_ite

theorem kept_execOpenReq (x1) (x2) (hm : Sub [.free, .obj, .dom, .mem, .poison, .boot, .pins, .pwr, .evlog, .cross,
    .pxl, .trx, .lake, .fst, .bnk, .mgt, .scan, .dlk, .wear, .safe, .pnl, .cal, .gyl, .jrn] m) (h : Kept m s0 s) : KeptO
    m s0 (execOpenReq x1 x2 s) := by
  unfold execOpenReq
  repeat' with_reducible first
    | assumption | intro _ | exact Sub.trans (by decide) hm | apply kept_State_at | apply kept_serveFrame
    | apply keptO_next

theorem kept_execPatchActivate (x1) (x2) (hm : Sub [.obj, .pins, .mgt] m) (h : Kept m s0 s) : KeptO m s0
    (execPatchActivate x1 x2 s) := by
  unfold execPatchActivate
  repeat' with_reducible first
    | assumption | intro _ | exact Sub.trans (by decide) hm | apply kept_ownPatchCmd | apply kept_writeRow
    | apply kept_State_at | apply keptO_next

theorem kept_execPatchDiscard (x1) (x2) (hm : Sub [.obj, .pins, .mgt] m) (h : Kept m s0 s) : KeptO m s0
    (execPatchDiscard x1 x2 s) := by
  unfold execPatchDiscard
  repeat' with_reducible first
    | assumption | intro _ | exact Sub.trans (by decide) hm | apply kept_ownPatchCmd | apply kept_writeRow
    | apply kept_State_at | apply keptO_next

theorem kept_execRead (x1) (x2) (hm : Sub [.free, .obj, .dom, .mem, .poison, .boot, .pins, .pwr, .evlog, .cross, .pxl,
    .trx, .lake, .fst, .bnk, .mgt, .scan, .dlk, .wear, .safe, .pnl, .cal, .gyl, .jrn] m) (h : Kept m s0 s) : KeptO m s0
    (execRead x1 x2 s) := by
  unfold execRead
  repeat' with_reducible first
    | assumption | intro _ | exact Sub.trans (by decide) hm | apply kept_State_at | apply kept_serveFrame
    | apply keptO_next

theorem kept_execSegAbort (x1) (x2) (hm : Sub [.free, .obj, .dom, .mem, .poison, .boot, .pins, .pwr, .evlog, .cross,
    .pxl, .trx, .lake, .fst, .bnk, .mgt, .scan, .dlk, .wear, .safe, .pnl, .cal, .gyl, .jrn] m) (h : Kept m s0 s) : KeptO
    m s0 (execSegAbort x1 x2 s) := by
  unfold execSegAbort
  repeat' with_reducible first
    | assumption | intro _ | exact Sub.trans (by decide) hm | apply kept_State_at | apply kept_serveFrame
    | apply keptO_next

theorem kept_execSegData (x1) (x2) (hm : Sub [.free, .obj, .dom, .mem, .poison, .boot, .pins, .pwr, .evlog, .cross,
    .pxl, .trx, .lake, .fst, .bnk, .mgt, .scan, .dlk, .wear, .safe, .pnl, .cal, .gyl, .jrn] m) (h : Kept m s0 s) : KeptO
    m s0 (execSegData x1 x2 s) := by
  unfold execSegData
  repeat' with_reducible first
    | assumption | intro _ | exact Sub.trans (by decide) hm | apply kept_State_at | apply kept_serveFrame
    | apply keptO_next

theorem kept_execSegEnd (x1) (x2) (hm : Sub [.free, .obj, .dom, .mem, .poison, .boot, .pins, .pwr, .evlog, .cross, .pxl,
    .trx, .lake, .fst, .bnk, .mgt, .scan, .dlk, .wear, .safe, .pnl, .cal, .gyl, .jrn] m) (h : Kept m s0 s) : KeptO m s0
    (execSegEnd x1 x2 s) := by
  unfold execSegEnd
  repeat' with_reducible first
    | assumption | intro _ | exact Sub.trans (by decide) hm | apply kept_State_at | apply kept_serveFrame
    | apply keptO_next

theorem kept_execSegInit (x1) (x2) (hm : Sub [.free, .obj, .dom, .mem, .poison, .boot, .pins, .pwr, .evlog, .cross,
    .pxl, .trx, .lake, .fst, .bnk, .mgt, .scan, .dlk, .wear, .safe, .pnl, .cal, .gyl, .jrn] m) (h : Kept m s0 s) : KeptO
    m s0 (execSegInit x1 x2 s) := by
  unfold execSegInit
  repeat' with_reducible first
    | assumption | intro _ | exact Sub.trans (by decide) hm | apply kept_State_at | apply kept_serveFrame
    | apply keptO_next

theorem kept_execSegRead (x1) (x2) (hm : Sub [.free, .obj, .dom, .mem, .poison, .boot, .pins, .pwr, .evlog, .cross,
    .pxl, .trx, .lake, .fst, .bnk, .mgt, .scan, .dlk, .wear, .safe, .pnl, .cal, .gyl, .jrn] m) (h : Kept m s0 s) : KeptO
    m s0 (execSegRead x1 x2 s) := by
  unfold execSegRead
  repeat' with_reducible first
    | assumption | intro _ | exact Sub.trans (by decide) hm | apply kept_State_at | apply kept_serveFrame
    | apply keptO_next

theorem kept_execSegTimeout (x1) (x2) (hm : Sub [.obj, .pins, .mgt, .scan, .jrn] m) (h : Kept m s0 s) : KeptO m s0
    (execSegTimeout x1 x2 s) := by
  unfold execSegTimeout
  repeat' with_reducible first
    | assumption | intro _ | exact Sub.trans (by decide) hm | apply kept_State_at | apply kept_abortTransfer
    | apply keptO_next | apply kept_ite | apply keptO_ite
    | (extract_lets +onlyGivenNames x; revert x; first
        | refine kept_named (m := m) (s0 := s0) ?_ ?_ | refine kept_namedP (m := m) (s0 := s0) ?_ ?_
        | refine kept_value ?_) | (apply kept_eqP (by assumption)) | split

theorem kept_execSessionIdleTimeout (x1) (x2) (hm : Sub [.obj, .pins, .mgt] m) (h : Kept m s0 s) : KeptO m s0
    (execSessionIdleTimeout x1 x2 s) := by
  unfold execSessionIdleTimeout
  repeat' with_reducible first
    | assumption | intro _ | exact Sub.trans (by decide) hm | apply kept_State_at | apply kept_setPort | apply keptO_next
    | apply kept_ite

theorem kept_spiClocked (x1) (x2) (hm : Sub [.mgt] m) (h : Kept m s0 s) : Kept m s0 (spiClocked x1 x2 s) := by
  unfold spiClocked
  repeat' with_reducible first
    | assumption | intro _ | exact Sub.trans (by decide) hm | apply kept_ite
    | (extract_lets +onlyGivenNames x; revert x; first
        | refine kept_named (m := m) (s0 := s0) ?_ ?_ | refine kept_namedP (m := m) (s0 := s0) ?_ ?_
        | refine kept_value ?_) | (simp -zeta only [kept_lit]) | apply kept_set_mgt

theorem kept_execSpiSckStall (x1) (x2) (hm : Sub [.obj, .mgt] m) (h : Kept m s0 s) : KeptO m s0 (execSpiSckStall x1 x2
    s) := by
  unfold execSpiSckStall
  repeat' with_reducible first
    | assumption | intro _ | exact Sub.trans (by decide) hm | apply kept_spiClocked | apply kept_State_at | apply kept_cnt
    | apply keptO_next | apply kept_ite

theorem kept_takeSpi (x1) (hm : Sub [.free, .obj, .dom, .mem, .poison, .boot, .pins, .pwr, .evlog, .cross, .pxl, .trx,
    .lake, .fst, .bnk, .mgt, .scan, .dlk, .wear, .safe, .pnl, .cal, .gyl, .jrn] m) (h : Kept m s0 s) : Kept m s0
    (takeSpi x1 s) := by
  unfold takeSpi
  repeat' with_reducible first
    | assumption | intro _ | exact Sub.trans (by decide) hm | apply kept_cnt | apply kept_serve | apply kept_ite

theorem kept_execSpiTransactionEnd (x1) (x2) (hm : Sub [.free, .obj, .dom, .mem, .poison, .boot, .pins, .pwr, .evlog,
    .cross, .pxl, .trx, .lake, .fst, .bnk, .mgt, .scan, .dlk, .wear, .safe, .pnl, .cal, .gyl, .jrn] m) (h : Kept m s0 s)
    : KeptO m s0 (execSpiTransactionEnd x1 x2 s) := by
  unfold execSpiTransactionEnd
  repeat' with_reducible first
    | assumption | intro _ | exact Sub.trans (by decide) hm | apply kept_takeSpi | apply kept_spiClocked
    | apply kept_clockedOut | apply kept_State_at | apply keptO_next | apply kept_ite

theorem kept_execUndefinedOpcode (x1) (x2) (x3) (hm : Sub [.free, .obj, .dom, .mem, .poison, .boot, .pins, .pwr, .evlog,
    .cross, .pxl, .trx, .lake, .fst, .bnk, .mgt, .scan, .dlk, .wear, .safe, .pnl, .cal, .gyl, .jrn] m) (h : Kept m s0 s)
    : KeptO m s0 (execUndefinedOpcode x1 x2 x3 s) := by
  unfold execUndefinedOpcode
  repeat' with_reducible first
    | assumption | intro _ | exact Sub.trans (by decide) hm | apply kept_State_at | apply kept_serveFrame
    | apply keptO_next

theorem kept_execWnpEvtpendWrite (x1) (x2) (x3) (hm : Sub [.obj, .pins, .mgt] m) (h : Kept m s0 s) : KeptO m s0
    (execWnpEvtpendWrite x1 x2 x3 s) := by
  unfold execWnpEvtpendWrite
  repeat' with_reducible first
    | assumption | intro _ | exact Sub.trans (by decide) hm | apply kept_ownEvtPend | apply kept_writeRow
    | apply kept_State_at | apply keptO_next

theorem kept_execWrite (x1) (x2) (hm : Sub [.free, .obj, .dom, .mem, .poison, .boot, .pins, .pwr, .evlog, .cross, .pxl,
    .trx, .lake, .fst, .bnk, .mgt, .scan, .dlk, .wear, .safe, .pnl, .cal, .gyl, .jrn] m) (h : Kept m s0 s) : KeptO m s0
    (execWrite x1 x2 s) := by
  unfold execWrite
  repeat' with_reducible first
    | assumption | intro _ | exact Sub.trans (by decide) hm | apply kept_State_at | apply kept_serveFrame
    | apply keptO_next

end Sys2Proof.Machine
end

