-- ==== Sys2Proof/Laws/Sha.lean ====
section
/-! SUPPORT. The MAC of an elevation: its length, and that the MAC of the nonce a port holds matches (R369). -/

namespace Sys2Proof.Machine

theorem shaRound_length (v : List Nat) (kw : Nat × Nat) : (shaRound v kw).length = v.length := by
  unfold shaRound
  split
  · simp only [List.length_cons]
  · rfl

theorem shaRounds_length (l : List (Nat × Nat)) (v : List Nat) : (l.foldl shaRound v).length = v.length := by
  induction l generalizing v with
  | nil => rfl
  | cons a l ih => rw [List.foldl_cons, ih, shaRound_length]

theorem shaBlock_length (h : List Nat) (b : List Byte) : (shaBlock h b).length = h.length := by
  unfold shaBlock
  simp only [List.length_map, List.length_zip, shaRounds_length, Nat.min_self]

theorem shaBlocks_length (n : Nat) (h : List Nat) (m : List Byte) : (shaBlocks n h m).length = h.length := by
  induction n generalizing h m with
  | zero => rfl
  | succ n ih => rw [shaBlocks, ih, shaBlock_length]

theorem toBE4_flatMap_length (l : List Nat) : (l.flatMap (toBE 4)).length = 4 * l.length := by
  induction l with
  | nil => rfl
  | cons a l ih =>
    rw [List.flatMap_cons, List.length_append, ih, List.length_cons]
    simp only [toBE, List.length_cons, List.length_nil]
    omega

theorem hmac256_length (k m : List Byte) : (hmac256 k m).length = 32 := by
  rw [hmac256, sha256, toBE4_flatMap_length, shaBlocks_length]
  rfl

theorem macMatches_hmac {s : State} {p : Port} {level : Nat} {n : Nonce} {k : List Byte} (hn : (portOf s p).nonce = some n)
    (hk : keyOfLevel s level = some k) (hl : n.level = level) (ht : s.now ≤ n.at_ + 10000000000) :
    macMatches s p level (hmac256 k (macMessage n.bytes p (portOf s p).gen level)) = true := by
  simp only [macMatches, hn, hk]
  simp [hl, ht]

end Sys2Proof.Machine
end

