-- ==== Sys2Proof/WellFormed.lean ====
section
/-!
DEFINITION. When a command is well formed: its lists have the lengths that the spec gives what they stand for. The meanings
are total and take an ill-formed command as well; a sender sends none.
-/

namespace Sys2Proof

/-- A Factory key is 32 bytes (R371). -/
def FuseRead.wf (f : FuseRead) : Bool :=
  match f.key with
  | some k => decide (k.length = 32)
  | none => true

/-- LEN is a U16 (R353). -/
def Frame.wf (f : Frame) : Bool := decide (f.data.length < 65536)

/-- A stretch of a line holds no more than its bits. -/
def LineBits.wf (x : LineBits) : Bool := decide (x.bits < 2 ^ x.len)

/-- A frame of GYL_D of this TYPE (R403, R404). -/
def GylIn.wf (f : GylIn) (type : Nat) : Bool := decide (f.header.toNat / 2 ^ 24 = type) && decide (f.data.length < 256)

/-- A panel row (R201, R203). -/
def rowOk (row : Nat) : Bool := decide (row < 4320)

/-- The command is well formed. -/
def Instr.wf : Instr → Bool
  | .powerOnReset _ _ straps => decide (straps.length = 8)                       -- R46
  | .dieLeavesReset _ f _ => f.wf
  | .resetStretchEnd _ f _ _ => f.wf
  | .laneBlockReceived _ _ line _ => line.wf && decide (4160 ≤ line.len)         -- a marker and 4,096 bits, R55
  | .acceptanceTestDone _ eyes => decide (eyes.length = 16) && eyes.all (fun e => decide (e.length = 16))   -- R63
  | .backgroundRetrainDone _ _ eyes => decide (eyes.length = 16)
  | .prbsTestEnd _ received => decide (received.length = 16) && received.all LineBits.wf
  | .tile _ _ payload _ => decide (payload.length < 4096)                        -- PLEN, R86
  | .frameStart _ _ counts late => decide (counts.length ≤ 4) && decide (late.length ≤ 4)
  | .rowPrepareStart _ _ row => rowOk row
  | .lineComplete _ _ _ row _ => rowOk row
  | .rowrepReceived _ _ _ records => decide (records.length ≤ 24)              -- DLK_NDRV, R238
  | .statusFrameReceived _ _ _ records => decide (records.length ≤ 24)
  | .recoveryDelivery _ _ row _ => rowOk row
  | .ledgerRowUpdate _ _ row => rowOk row
  | .shadowRowChecked _ _ row _ _ => rowOk row
  | .calrepReceived _ _ _ words => decide (words.length ≤ 168)                  -- 24 records of 7 words, R339
  | .roll _ f => f.wf 1
  | .status _ f => f.wf 2
  | .prepare _ f => f.wf 3
  | .ready _ f => f.wf 4
  | .refuse _ f => f.wf 5
  | .commit _ f => f.wf 6
  | .abort _ f => f.wf 7
  | .resendReq _ f => f.wf 8
  | .vector _ f => f.wf 9
  | .snap _ f => f.wf 10
  | .openReq _ f => f.wf
  | .close _ f => f.wf
  | .read _ f => f.wf
  | .write _ f => f.wf
  | .segInit _ f => f.wf
  | .segData _ f => f.wf
  | .segRead _ f => f.wf
  | .segEnd _ f => f.wf
  | .segAbort _ f => f.wf
  | .challenge _ f => f.wf
  | .elevate _ f => f.wf
  | .drop _ f => f.wf
  | .undefinedOpcode _ op f => f.wf && decide (op.toNat = 0 ∨ 12 < op.toNat)     -- R354
  | .mapWordRewrite _ word _ => decide (word < 2 ^ 28)                           -- R155
  | .spiTransactionEnd .. | .fuseLoad .. | .pgoodRise .. | .supplyInWindow .. | .supplyStartTimeout .. | .supplyRetryTimer .. | .bootEnd ..
  | .pinReset .. | .rstSoft .. | .lockstepReset .. | .devStateRun .. | .devStateSetup .. | .safClear ..
  | .safBandclr .. | .sealCfg .. | .unsealCfg .. | .safInjGo .. | .configCrcCheck .. | .configReloadTimeout ..
  | .lockstepMismatch .. | .coreWatchdogExpiry .. | .trainMessageReceived .. | .detectLockWaitEnd .. | .capTimeout ..
  | .stepIdleEnd .. | .resultTimeout .. | .goTimeout .. | .cdrLossOfLock .. | .reconfigTimeout .. | .pxlRetrain ..
  | .backgroundRetryTimer .. | .forwardLaneActivity .. | .laneRelockDone ..
  | .pxlPrbsStart .. | .token .. | .groupBegin .. | .groupEnd .. | .srcframe .. | .linkctlSwitch ..
  | .linkctlSleep .. | .linkctlBackloss .. | .linkctlDigestReq .. | .linkctlBadop .. | .headerLost ..
  | .lakeTileDecoded .. | .groupTimeout .. | .sourceSilent .. | .commitEnginePop .. | .commitCopyDone ..
  | .backPacketSend .. | .rowSlotStart .. | .tableCopySynced .. | .scanShowReq .. | .dlkLockTimeout ..
  | .dlkStepTestDone .. | .dlkRetrain .. | .dlkFailedRetry .. | .dlkDrvregWrite .. | .regionCommitReq ..
  | .lakeStart .. | .lakeResume .. | .lakeRawblk .. | .lakeSuspend .. | .lakeCancel .. | .lakeCtxWrite ..
  | .lakeBlockDone .. | .lakeQuantumExpiry .. | .scrubStep .. | .dramTempRead .. | .rowCopyDone ..
  | .bnkOwnerWrite .. | .bankRelease .. | .bankReleaseTimeout .. | .bankClearDone .. | .bnkPeekData ..
  | .sramScrubStep .. | .railPowerUpReq .. | .railDownReq .. | .autorailRequest .. | .bandStaggerTimer ..
  | .tpdoffExpiry .. | .triseExpiry .. | .dischargeDelayExpiry .. | .pfailTrigger .. | .lampblackPdisTimer ..
  | .lampblackComplete .. | .vresSupplySwitch .. | .vresSupplyEnd .. | .pnlVrestest .. | .vresTestDone ..
  | .crackCheckTimer .. | .crackStepDone .. | .crackCheckLate .. | .pnlCrklearn .. | .adcScheduled ..
  | .calAdctrig .. | .supplyConversionDone .. | .calStart .. | .calResume .. | .calAbort .. | .calCommit ..
  | .calDiscard .. | .calCommitDone .. | .canResponseDrop .. | .canBusOffRecovery .. | .canConfigApply ..
  | .cacheEntryExpiry .. | .segTimeout .. | .lockoutExpiry .. | .sessionIdleTimeout .. | .wnpEvtpendWrite ..
  | .devEvclr .. | .patchActivate .. | .patchDiscard .. | .syncWord .. | .syncWaitTimeout .. | .rollTimer ..
  | .gylCmtReq .. | .gylRealign .. | .gylSnapnow .. | .snapPeriodTimer .. | .gylWakenow ..
  | .wakeRepeatTimer .. | .wakePhrase .. | .wakeSlotExpiry .. | .pwrReqP0 .. | .pwrReqP1 .. | .pwrReqP2 ..
  | .pwrReqP3 .. | .handshakeAnswer .. | .handshakeTimeout .. | .sleepRetryTimer .. | .p3PenOffTimer .. | .wakeN ..
  | .p3TimerExpiry .. | .p2WakeDone .. | .vioAbWaitTimeout .. | .pmbusAttemptDone .. | .pmbusAttemptTimeout ..
  | .pmbAlert .. | .pmbHoldoffExpiry .. | .pwrPadrel .. | .clockMonitorTimeout .. | .interfaceResetTimer ..
  | .bandPllResetTimer .. | .peerResetClear .. | .spiSckStall .. | .journalRecordWrite .. | .ringHoldDrop ..
  | .compactionDone .. | .jrnCmdCompact .. | .jrnCmdFormat .. | .jrnCmdLock .. | .jrnCmdAsbuilt ..
  | .ledgerPieceTimer .. | .doseHourlyTimer .. | .mapRestoreDone .. | .tlmSnapcmd .. | .evcSelWrite .. | .evcClear ..
  | .markerMissing .. | .vaonOutOfWindow .. | .canResponseTransmitted .. | .canBusOff .. | .canFrameIgnored ..
  | .gylorFrameDiscarded .. | .replyWindowClose .. | .vioAbPresent .. | .padClassDecision .. | .dramRefresh .. => true

end Sys2Proof
end

