-- ==== Sys2Proof/Tests/Slice0.lean ====
section
/-! SUPPORT. The model's own tests: the checks of well-formedness, the manual's worked examples, and for each obligation a
witness of the hypotheses of its clauses. -/

open Sys2Proof Sys2Proof.Machine

namespace Sys2Proof.Tests

set_option Elab.async false
set_option maxRecDepth 20000

/-! ## States for the tests -/
def port3 : PortState := { State.reset.mgt.spi with gen := 1, active := true, level := 3 }
/-- The controller in SETUP, with its supplies up and a session at Factory level open on both ports. -/
def up : State :=
  { State.reset with
    boot := { State.reset.boot with stage := .started, op := .setup }
    pins := { State.reset.pins with fused := true, rstDrive := false, pen0 := true, pen1 := true, pen2 := true, pen3 := true }
    mgt := { State.reset.mgt with can := port3, spi := port3 } }
def inOp (o : OpState) (s : State) : State := { s with boot := { s.boot with op := o } }
def atStage (g : StartStage) (s : State) : State := { s with boot := { s.boot with stage := g } }
def run : State := inOp .run { up with boot := { up.boot with blank := false } }
def linked : State := modPxl (fun p => { p with link := .active, fmask := 3, bmask := 3 }) run
def hd : Hdr := { port := .spi, tag := 0, gen := 1 }
def hc : Hdr := { port := .can, tag := 0, gen := 1 }
def fr (h : Hdr) (k : Nat) (data : List Byte) : Frame :=
  { hdr := h, index := BitVec.ofNat 16 (k / 256), sub := BitVec.ofNat 8 (k % 256), data := data }
/-- A block of zeros as it stands on lane `n`, behind a DATA marker of LCN `lcn`. -/
def dataBlock (n lcn seq : Nat) : LineBits :=
  (LaneTx.send (markerWord 0xC52B0E (16 * n + lcn) seq 0 0) (List.replicate 128 0) (LaneTx.start, ⟨0, 0⟩)).2
/-- The same block with a wrong bit in its marker. -/
def badBlock : LineBits := { dataBlock 0 0 5 with bits := (dataBlock 0 0 5).bits ^^^ 2 ^ ((dataBlock 0 0 5).len - 9) }
def trainIn (ttype frate brate mask : Nat) : TrainIn :=
  { ttype := BitVec.ofNat 4 ttype, lane := 0, frate := BitVec.ofNat 4 frate, brate := BitVec.ofNat 4 brate,
    mask := BitVec.ofNat 16 mask, bmask := 3, lcn := 0, tseq := 1, copies := 2
    crc := BitVec.ofNat 8 (field (trainWord ⟨ttype, frate, brate, mask, 3, 0⟩ 0 1) 0 8) }
/-- The 128 bits of a forward packet header with the fields that the tests need. -/
def head (gen tag group low : Nat) : BitVec 128 :=
  BitVec.ofNat 128 (gen * 2 ^ 121 + tag * 2 ^ 108 + group * 2 ^ 102 + low)
def withLane (f : Lane → Lane) (s : State) : State := setLane 0 (f (laneOf s 0)) s
def sourced : State := { linked with trx := { linked.trx with history := [(7, 0)], lastSrcf := 7 } }
def grouped (g : Group) : State := setGroup 1 g sourced
def opened : Group := { Group.none with gen := 1, state := .opened }
def wellFuses : FuseRead :=
  { factoryOk := true, customerOk := true, blank := false, bands := 2, key := none, pmbAddr := 0x20, pmbClk := 1,
    pmbPec := true, pmbVexp := 4 }

def readyToRun : State :=
  oset Ob.PNL_VRES_MV 12000 (setRail 0 { Rail.initial with state := .on } { up with jrn := { up.jrn with mapsDone := true } })
def railReady : State :=
  oset Ob.PNL_VRES_MV 12000 (oset Ob.PNL_VRESSTAT 1 (setDlk 0 { DlkBand.initial with state := .ready }
    { up with pins := { up.pins with pen3 := true }
              pnl := { up.pnl with loops := [(0, { Loop.initial with passes := 2 }), (1, { Loop.initial with passes := 2 })] } }))
def scanning : State := { run with scan := { run.scan with running := true } }
def latched : State := { scanning with scan := { scanning.scan with latch := some (takeLatch 0 run) } }
def sentSlot : Sent :=
  { slot := 3, epoch := 0, kind := 0, row := 3, black := true, sigs := [], codes := [], idx := [], hatch := [], tags := [],
    recW := false, recRow := 0, pass := 0, phase := 0, level := 0, number := 2, before := [], fetched := 0, ovls := [], sides := [] }
/-- A panel of 64 columns whose defaults make it vermilion (or what `class` names), which has sent row 3. -/
def classed (c : Nat) : State :=
  oset Ob.FRS_DEFCLASS c { run with scan := { run.scan with running := true, inForce := [(Ob.SCAN_WIDTH, 64)] } }
def shadowed (c : Nat) : State :=
  let s := setBandScan 0 { BandScan.initial with hist := [sentSlot] } (classed c)
  { s with scan := { s.scan with latch := some (takeLatch 0 (classed c)) } }
def awaiting : State :=
  setBandScan 0 { BandScan.initial with sent := [sentSlot] } (setDlk 0 { DlkBand.initial with state := .run }
    { run with scan := { run.scan with slotNo := 10 } })
def delivering : State :=
  oset Ob.MDL_ENABLE 1 (setDlk 0 { DlkBand.initial with state := .run }
    { run with scan := { run.scan with epoch := 5, inForce := [(Ob.DLK_NDRV, 1), (Ob.DLK_NCH, 1)] } })
def oneDriver : State :=
  setDlk 0 { DlkBand.initial with state := .detect } { up with scan := { up.scan with inForce := [(Ob.DLK_NDRV, 1)] } }
def smallJob : LakeCtx := { LakeCtx.zero with elem := 1, crcA := 0xFFFFFFFF, crcB := 0xFFFFFFFF }
def jobSet : State :=
  oset Ob.LAKE_JOB_ELEM 1 (oset Ob.LAKE_JOB_W 8 (oset Ob.LAKE_JOB_H 4 (oset Ob.LAKE_JOB_STRIDE 32
    (oset Ob.LAKE_JOB_RASTADDR 0x68000000 (oset Ob.LAKE_JOB_CODEADDR 0x68001000 (oset Ob.LAKE_JOB_CODELEN 4096
      (oset Ob.LAKE_JOB_RAWADDR 0x68002000 up)))))))
def smallSlot : Slot :=
  { Slot.idle with state := .running, rastAddr := 0x68000000, stride := 32, codeAddr := 0x68001000, codeLen := 4096,
                   ctx := smallJob }
def onJob (v : Slot) : State := { setSlot 3 v up with lake := { (setSlot 3 v up).lake with current := some 3, quantum := 2 } }
def encoding : State := onJob smallSlot
def decoding : State := onJob { smallSlot with ctx := { smallJob with dir := 1 } }
def zeros (n c : Nat) : List (List Nat) := List.replicate n (List.replicate c 0)
def tileOr (x : Except (Nat × Nat) (List (List Nat))) : List (List Nat) :=
  match x with
  | .ok q => q
  | .error _ => []
/-- The tile of a payload of no word (each word reads 0) at 2:1, and what a tag that holds it is to have been sent. -/
def zeroTile : List (List Nat) := tileOr (decodeTile 0 [])
def tile5 : Tag :=
  { Tag.none with state := .receiving, decoding := true, grouped := true, group := 1, payload := [],
                  crc := wordsCrc (pixelWords zeroTile) }
def atInstance (x : Tag) : State :=
  let s := setTag 5 x (grouped { opened with members := [5] })
  { s with lake := { s.lake with inst := [(0, [5])] } }
def decodingTile : State := atInstance tile5
/-- The same tag with a payload whose first block does not decode. -/
def badTile : State := atInstance { tile5 with payload := [0x40000000] }
/-- A complete group in sealed vermilion whose member's payload is not of a qualified format. -/
def unfit : State :=
  oset Ob.FRS_DEFCLASS 2 (setTag 5 { Tag.none with state := .queued, grouped := true, group := 1, gen := 1 }
    (grouped { opened with members := [5], state := .complete }))

/-- The turn of slot 3 is over while slot 2 waits. -/
def twoSlots : State :=
  let s := setSlot 2 { Slot.idle with state := .waiting } encoding
  { s with lake := { s.lake with quantum := 0 } }
def decodingBad : State := { decoding with mem := [(0x68001000, 0x40)] }
def decodingEscape : State := { decoding with mem := [(0x68001000, 0xC0)] }
/-- A job whose raster is not zero and that may lose nothing at its ratio. -/
def noFit : State :=
  { onJob { smallSlot with ctx := { smallJob with ratio := 1, mode := 1 } } with mem := [(0x68000000, 0x55), (0x68000003, 0xA7), (0x68000022, 0x3B)] }
def withCal (f : Cal → Cal) (s : State) : State := { s with cal := f s.cal }
def gap1 : CalWait := { slot := 3, epoch := 0, gap := { level := 1, phase := 0, row := 0 }, number := 1 }
/-- A band of one driver with one channel, whose CAL slot 3 awaits its report. -/
def reporting (redo : List Gap) : State :=
  setBandScan 0 { BandScan.initial with state := 0 }
    (withCal (fun c => { c with
        state := .running, bands := [(0, { CalBand.initial with total := 1, wait := [gap1], redo := redo })] })
      { run with scan := { run.scan with inForce := [(Ob.DLK_NDRV, 1), (Ob.DLK_NCH, 1)] } })
/-- The CAL record of driver 0 with the one value 5. -/
def calWords : List (BitVec 32) :=
  [BitVec.ofNat 32 (2 ^ 16 + crc16 (toBE 2 1 ++ toBE 4 (5 * 2 ^ 20))), BitVec.ofNat 32 (5 * 2 ^ 20)]
def cmd0 (h : Hdr) (data : List Byte) : Frame := { hdr := h, index := 0, sub := 0, data := data }
def obj (h : Hdr) (k : Nat) (data : List Byte) : Frame :=
  { hdr := h, index := BitVec.ofNat 16 (k / 256), sub := BitVec.ofNat 8 (k % 256), data := data }
def withSpi (f : PortState → PortState) (s : State) : State := { s with mgt := { s.mgt with spi := f s.mgt.spi } }
def withCan (f : PortState → PortState) (s : State) : State := { s with mgt := { s.mgt with can := f s.mgt.can } }
def levelAt (n : Nat) : State := withSpi (fun p => { p with level := n }) up
/-- A transfer of object `k`, with `next` of its `size` bytes moved. -/
def moving (k : Nat) (upload : Bool) (size next : Nat) (buf : List Byte) : Transfer :=
  { index := k / 256, sub := k % 256, upload := upload, size := size, next := next, buf := buf, snap := upload,
    crc := 0xFFFFFFFF, viol := false, at_ := 0 }
def carrying (x : Transfer) : State := withSpi (fun p => { p with transfer := some x }) up
def answer1 : Resp :=
  { opcode := 0x83, tag := 1, gen := 1, index := 0x1000, sub := 0, data := [0], outst := true, queued := 0, canObj := false }
def withGyl (f : Gyl → Gyl) (s : State) : State := { s with gyl := f s.gyl }
def master : State := withGyl (fun g => { g with state := 5 }) (oset Ob.GYL_ROLE 1 up)
def follower : State := withGyl (fun g => { g with state := 5 }) (oset Ob.GYL_ROLE 2 up)
def change1 : Change := { epoch := 20, gen := 1, kind := 4, arg := 0x408000 }
/-- A frame of the cascade from node `src` to all, with its CRC. -/
def gylMsg (type src : Nat) (data : List Byte) : GylIn :=
  let h := type * 2 ^ 24 + src * 2 ^ 16 + 255 * 2 ^ 8 + data.length
  { header := BitVec.ofNat 32 h, data := data, crc := BitVec.ofNat 16 (crc16 (toBE 4 h ++ data)) }
/-- A ROLL for node 7 alone. -/
def gylTo7 : GylIn :=
  let h := 0x01010702
  { header := BitVec.ofNat 32 h, data := [0, 1], crc := BitVec.ofNat 16 (crc16 (toBE 4 h ++ [0, 1])) }
/-- The payload of the messages of a change: E and GEN, and what follows. -/
def aboutE (epoch gen : Nat) (more : List Byte) : List Byte := toBE 6 epoch ++ toBE 2 gen ++ more
def preparing (refused : Option (Nat × Nat)) : State :=
  withGyl (fun g => { g with cmt := some change1, prepOpen := true, cmtRefused := refused, cmtParts := 2, cmtReady := 2 }) master
def holding : State := withGyl (fun g => { g with held := some change1 }) follower
def withPwr (f : Pwr → Pwr) (s : State) : State := { s with pwr := f s.pwr }
def entering (step target : Nat) : State :=
  withPwr (fun p => { p with entry := .inProgress, step := step, target := target }) run
def request1 : PmbReq := { target := 800, tries := 0, raise := false, at_ := 0 }
def stepping (r : PmbReq) : State := withPwr (fun p => { p with pmb := some r }) up
def record1 : JRec := { type := 1, flags := 0, arg := 0, seq := 0, at_ := 0, key := Ob.DLK_RATE, value := 3, data := [] }
def withJrn (f : Jrn → Jrn) (s : State) : State := { s with jrn := f s.jrn }
def kept : State := withJrn (fun j => { j with present := true, buf := [record1] }) (oset Ob.JRN_RSIZE 512 up)
def smallPanel : State :=
  oset Ob.JRN_MAXPIX 64 (oset Ob.SCAN_WIDTH 8 (oset Ob.SCAN_HEIGHT 4
    { kept with scan := { kept.scan with inForce := [(Ob.SCAN_WIDTH, 8), (Ob.SCAN_HEIGHT, 4)] } }))

/-- A CHALLENGE for Factory level on SPI whose nonce is 32 zeros, and its answer under the default factory key. -/
def challenged : State := withSpi (fun p => { p with nonce := some { bytes := List.replicate 32 0, level := 3, at_ := 0 } }) up
def factoryMac : List Byte := hmac256 (List.replicate 32 0) (macMessage (List.replicate 32 0) .spi 1 3)
def answering : State := withSpi (fun p => { p with queue := [answer1] }) up
/-- A panel of one driver in RUN that can be calibrated: the references of a colour rise. -/
def calibratable : State :=
  (List.range 9).foldl (fun s i => oset (Ob.CAL_REF + i) (i + 1) s)
    (oset Ob.CMP_NSETS 0 (oset Ob.CAL_BANDS 1
      { run with scan := { run.scan with inForce := [(Ob.SCAN_HEIGHT, 64), (Ob.DLK_NDRV, 1), (Ob.DLK_NCH, 1)] } }))

theorem recordCrc_safe (s : State) (x : Safe) (t : Nat) : recordCrc ({ s with safe := x }.at t) = recordCrc s := rfl
def otherThan (n : Nat) : Nat := if n = 0 then 1 else 0
theorem ne_otherThan (n : Nat) : n ≠ otherThan n := by
  unfold otherThan
  split <;> omega
theorem record_misses (u : State) (h1 : configRuns u = true) (h2 : u.safe.corrupt = false) :
    ∃ (t : Nat) (s : State), configRuns s = true ∧ s.safe.corrupt = false ∧ recordCrc (s.at t) ≠ s.safe.sealCrc :=
  ⟨1000, { u with safe := { u.safe with sealCrc := otherThan (recordCrc u) } }, h1, h2, by
    rw [recordCrc_safe]; exact ne_otherThan _⟩
def errorOf (x : Except (Nat × Nat) (List (List Nat))) : Option (Nat × Nat) :=
  match x with
  | .ok _ => none
  | .error e => some e
theorem eq_of_errorOf {x : Except (Nat × Nat) (List (List Nat))} {e : Nat × Nat} (h : errorOf x = some e) : x = .error e := by
  cases x with
  | ok v => cases h
  | error w => cases h; rfl
theorem zeroStream_decodes : (decodeStream (slotBits (elemFmt 0) (0 % 2)) (decide (0 < 2)) 8 Hist.start [] []).2 = 0 := by
  decide +kernel
theorem decodeTile_ok (code : Nat) (h : (decodeStream (slotBits (elemFmt 0) (code % 2)) (decide (code < 2)) 8 Hist.start [] []).2 = 0) :
    ∃ q, decodeTile code [] = .ok q := by
  unfold decodeTile
  simp only [List.drop_nil]
  generalize decodeStream (slotBits (elemFmt 0) (code % 2)) (decide (code < 2)) 8 Hist.start [] [] = r at h
  rw [List.findSome?_eq_none_iff.2]
  · exact ⟨_, rfl⟩
  · intro i hi
    rw [if_pos]
    rw [List.getD_eq_getElem?_getD, List.getElem?_map, List.getElem?_eq_getElem (by simpa using hi)]
    exact h
theorem zeroTile_decodes : decodeTile 0 [] = .ok zeroTile := by
  obtain ⟨q, hq⟩ := decodeTile_ok 0 zeroStream_decodes
  exact hq.trans (congrArg _ (congrArg tileOr hq).symm)
theorem tagOf_decodingTile : tagOf decodingTile (5#13).toNat = tile5 := rfl
theorem one_driver (P : Nat → Prop) (h : P 0) : ∀ j, j < rget (reporting [gap1.gap]) Ob.DLK_NDRV → P j := by
  intro j hj
  obtain rfl : j = 0 := Nat.lt_one_iff.1 (Nat.lt_of_lt_of_eq hj (by decide +kernel))
  exact h
theorem taken_mac : taken (challenged.at 1000) hd 36 = true := by decide +kernel
theorem factoryMac_length : factoryMac.length = 32 := hmac256_length _ _
def zeroNonce : Nonce := { bytes := List.replicate 32 0, level := 3, at_ := 0 }
theorem challenged_nonce : (portOf (challenged.at 1000) .spi).nonce = some zeroNonce := rfl
theorem challenged_key : keyOfLevel (challenged.at 1000) 3 = some (List.replicate 32 0) := rfl
theorem challenged_gen : (portOf (challenged.at 1000) .spi).gen = 1 := rfl
theorem mac_ok : macMatches (challenged.at 1000) .spi 3 factoryMac = true := by
  have h := macMatches_hmac challenged_nonce challenged_key rfl (by decide +kernel)
  rw [challenged_gen] at h
  exact h

/-! ## Well-formedness: each check refuses an ill-formed command -/

def longFrame : Frame := { hdr := hd, index := 0, sub := 0, data := List.replicate 65536 0 }
def shortKey : FuseRead := { wellFuses with key := some [1] }

theorem test_wf_straps : (Instr.powerOnReset 0 false [0x380]).wf = false ∧
    (Instr.powerOnReset 0 false (List.replicate 8 0x380)).wf = true := by decide
theorem test_wf_fuses : (Instr.dieLeavesReset 0 shortKey false).wf = false ∧
    (Instr.resetStretchEnd 0 shortKey 0 false).wf = false ∧ (Instr.dieLeavesReset 0 wellFuses false).wf = true := by decide
theorem test_wf_lanes : (Instr.laneBlockReceived 0 0 ⟨4095, 0⟩ 0).wf = false ∧
    (Instr.laneBlockReceived 0 0 ⟨4160, 2 ^ 4160⟩ 0).wf = false ∧ (Instr.laneBlockReceived 0 0 ⟨4160, 0⟩ 0).wf = true ∧
    (Instr.acceptanceTestDone 0 []).wf = false ∧ (Instr.acceptanceTestDone 0 (List.replicate 16 [])).wf = false ∧
    (Instr.backgroundRetrainDone 0 0 []).wf = false ∧ (Instr.prbsTestEnd 0 []).wf = false ∧
    (Instr.prbsTestEnd 0 (List.replicate 16 ⟨1, 2⟩)).wf = false := by decide +kernel
theorem test_wf_tile (d : BitVec 128) : (Instr.tile 0 d (List.replicate 4096 0) 0).wf = false := by
  simp only [Instr.wf, List.length_replicate]
  decide
theorem test_wf_frame_start : (Instr.frameStart 0 0 [0, 0, 0, 0, 0] []).wf = false ∧
    (Instr.frameStart 0 0 [] [0, 0, 0, 0, 0]).wf = false := by decide
theorem test_wf_rows : (Instr.rowPrepareStart 0 0 4320).wf = false ∧ (Instr.lineComplete 0 0 false 4320 0).wf = false ∧
    (Instr.recoveryDelivery 0 0 4320 0).wf = false ∧ (Instr.ledgerRowUpdate 0 0 4320).wf = false ∧
    (Instr.shadowRowChecked 0 0 4320 [] 0).wf = false ∧ (Instr.rowPrepareStart 0 0 4319).wf = true := by decide
theorem test_wf_records : (Instr.rowrepReceived 0 0 0 (List.replicate 25 0)).wf = false ∧
    (Instr.statusFrameReceived 0 0 0 (List.replicate 25 0)).wf = false ∧
    (Instr.calrepReceived 0 0 0 (List.replicate 169 0)).wf = false := by decide
theorem test_wf_cascade : (Instr.roll 0 (gylMsg 2 0 [])).wf = false ∧ (Instr.roll 0 (gylMsg 1 0 [])).wf = true ∧
    [Instr.status 0 (gylMsg 1 0 []), .prepare 0 (gylMsg 1 0 []), .ready 0 (gylMsg 1 0 []), .refuse 0 (gylMsg 1 0 []),
      .commit 0 (gylMsg 1 0 []), .abort 0 (gylMsg 1 0 []), .resendReq 0 (gylMsg 1 0 []), .vector 0 (gylMsg 1 0 []),
      .snap 0 (gylMsg 1 0 [])].all (fun c => !c.wf) = true := by decide +kernel
theorem test_wf_requests : [Instr.openReq 0 longFrame, .close 0 longFrame, .read 0 longFrame, .write 0 longFrame,
    .segInit 0 longFrame, .segData 0 longFrame, .segRead 0 longFrame, .segEnd 0 longFrame, .segAbort 0 longFrame,
    .challenge 0 longFrame, .elevate 0 longFrame, .drop 0 longFrame, .undefinedOpcode 0 13 longFrame].all (fun c => !c.wf) =
      true := by
  simp only [List.all_cons, List.all_nil, Instr.wf, Frame.wf, longFrame, List.length_replicate]
  decide
theorem test_wf_opcode : (Instr.undefinedOpcode 0 12 (cmd0 hd [])).wf = false ∧
    (Instr.undefinedOpcode 0 13 (cmd0 hd [])).wf = true := by decide
theorem test_wf_rewrite : (Instr.mapWordRewrite 0 (2 ^ 28) 0).wf = false := by decide

/-! ## The manual's own examples -/

/-- "123456789" in ASCII, the text of the checks of R88 and R90. -/
def digits : List Byte := [0x31, 0x32, 0x33, 0x34, 0x35, 0x36, 0x37, 0x38, 0x39]
theorem test_hcrc : crc16 digits = 0x29B1 := by decide +kernel
theorem test_payload_crc : crc32 digits = 0xCBF43926 := by decide +kernel

/-- The strap of site 6: N = 1659 (the example after R51). -/
theorem test_strap_site : (match exec (.powerOnReset 0 false (List.replicate 8 1659)) State.reset with
    | .next s => oget s Ob.RST_STRAP_SITE
    | _ => 99) = 6 := by decide +kernel

/-- Elements of the EXACT block with an anchor (chapter "Lake", first example). -/
def exactBlock : List (List Nat) :=
  (List.range 32).map (fun i => [200 + 3 * (i % 8) + i / 8, 512, 100 + i % 8])
theorem test_exact_block : (encodeBlock (elemFmt 0) 480 true 0 Hist.start exactBlock).map
    (fun r => (r.1 / 2 ^ 448, r.1 / 2 ^ 416 % 2 ^ 32, r.1 % 2 ^ 256)) = some (0x0C08C880, 0x0646B5AD, 0) := by decide +kernel

/-- The BOUNDED block with a thin bright line, whose decoder shows 420 (chapter "Lake", second example). -/
def lineBlock (red : Nat) : List (List Nat) :=
  (List.range 32).map (fun i => if i % 8 = 3 then [red, 300, 80] else [100, 300, 80])
def lineHist : Hist := ⟨List.replicate 4 [100, 300, 80], true⟩
theorem test_bounded_block : encodeBlock (elemFmt 0) 320 false 3 lineHist (lineBlock 421) =
    some (0x6400000000282C00 * 2 ^ 256, lineBlock 420) := by decide +kernel

/-- The stages of the triple of "One subpixel triple through every stage", in red. -/
theorem test_linearisation : linearise (fun i => if i = 441 then 41210 else 41262) 28248 = 41230 := by decide
theorem test_grid_gain : gridGain 16 20 (cornerGain 211 16640 16896) (cornerGain 211 16704 16960)
    (cornerGain 211 16576 16832) (cornerGain 211 16640 16896) = 16827 := by decide
theorem test_grid_and_demura : gridCorrect 16827 41230 = 42345 ∧ demura 0x0DFD 42345 = 43408 ∧ demura 0xFA05 25055 = 24781 := by
  decide
theorem test_aging_and_brightness : ageValue 17027 43408 = 45112 ∧ brightness 29491 45112 = 40601 := by decide
theorem test_precharge : precharge (fun k => if k = 429 ∨ k = 495 then 180 else if k = 494 then 176 else 184) 101 634 = 11 := by
  decide
theorem test_dither : ditherCode (ditherT (ditherPhase 0x1C2A3ED) 1300 6000) 40601 = 635 ∧
    ditherCode (ditherT (ditherPhase 0x1C2A3ED) 1300 6001) 23014 = 359 ∧
    ditherCode (ditherT (ditherPhase 0x1C2A3ED) 1300 6002) 4864 = 76 := by decide

/-- The hatch of pixel (2,000, 1,300) in the frame of epoch 0x1C2A3ED and two frames after it (the example of R286). -/
theorem test_hatch : pixelOverlay (takeLatch 0x1C2A3ED State.reset) 1 2000 1300 = .stripe ∧
    pixelOverlay (takeLatch 0x1C2A3EF State.reset) 1 2000 1300 = .ground := by decide +kernel

/-- The update of subpixel 6,000 in row 1,300 (the example of the balance ledger). -/
theorem test_ledger_relief : relief 1100 (ledgerTwin 32 120000 1152) = 1018516400 ∧ ledgerTupd 120000 = 133333333 := by
  decide
/-- The fit of one red subpixel (the example of R342). -/
theorem test_fit : fitWord 580 2300 3950 128 512 896 600 2400 4200 16500 0 = (0x1FBF, false, 0) := by decide

/-- The reserve capacitor of the example after R322: 0.633 V leaves it at 157 µF, which passes; 0.714 V at 140 µF fails. -/
def reserve (drop : Nat) : State :=
  match exec (.vresTestDone 0 drop) { up with pnl := { up.pnl with vresTest := true, vresV := 12000 } } with
  | .next s => s
  | _ => State.reset
theorem test_reserve_passes : oget (reserve 633) Ob.PNL_VRESCAP = 157 ∧ oget (reserve 633) Ob.PNL_VRESNEED = 126 ∧
    oget (reserve 633) Ob.PNL_VRESSTAT = 1 := by decide +kernel
theorem test_reserve_fails : oget (reserve 714) Ob.PNL_VRESCAP = 140 ∧ oget (reserve 714) Ob.PNL_VRESSTAT = 2 := by
  decide +kernel
/-- The response of "A write that crosses a bus-off" on CAN, on 0x1E4_0059. -/
theorem test_can_frame : (canSent 1
    { opcode := 0x84, tag := 0x3A7, gen := 5, index := 0x3020, sub := 2, data := [0], outst := true, queued := 0, canObj := false }
    (oset Ob.RST_STRAP_SITE 6 { up with mgt := { up.mgt with canCfg := [(Ob.WNP_NODEHI, 1)] } })).mgt.canTx =
    some (0x1E40059, [0x84, 0x3A, 0x75, 0x30, 0x20, 0x02, 0x00, 0x01, 0x00, 0, 0, 0]) := by decide +kernel

/-! ## The step -/

theorem test_idle : step State.reset = .next { State.reset with now := 2 } := rfl
/-- RANGE answers a width of 639, which lies below the range of SCAN_WIDTH (R361). -/
theorem test_range : (match exec (.write 0 (obj hd Ob.SCAN_WIDTH [0x02, 0x7F])) up with
    | .next s => lastAnswer s .spi
    | _ => none) = some (132, 0, St.range, []) := by decide +kernel
/-- A write of RWS is refused in RUN with STATE (R361). -/
theorem test_state : (match exec (.write 0 (obj hd Ob.SCAN_WIDTH [0x03, 0xC0])) run with
    | .next s => lastAnswer s .spi
    | _ => none) = some (132, 0, St.state, []) := by decide +kernel

/-! ## Witnesses: states and operands that meet the hypotheses of each clause -/

theorem witness_PowerComesOn :
    (∃ (s : State), s.boot.stage = .aonReset) ∧
    (∃ (s : State), s.boot.stage = .waitPgood) ∧
    (∃ (s : State), s.boot.stage = .waitPen1 ∧ s.pins.pen1 = true ∧ s.boot.vdramOk = true) ∧
    (∃ (s : State), s.boot.stage = .waitPen1 ∧ s.pins.pen1 = true ∧ s.boot.vlaneOk = true) ∧
    (∃ (s : State), s.boot.stage = .waitPen1 ∧ s.pins.pen1 = true ∧ s.boot.vlaneOk = false) ∧
    (∃ (s : State), s.boot.stage = .waitPen2 ∧ s.pins.pen2 = true) ∧
    (∃ (t : Nat) (s : State), (s.boot.stage = .waitPgood ∨ s.boot.stage = .waitPen1 ∨ s.boot.stage = .waitPen2) ∧
      s.boot.stageAt + 5000000 ≤ max s.now t) ∧
    (∃ (t : Nat) (s : State), s.boot.stage = .retryWait ∧ s.boot.stageAt + 100000000 ≤ max s.now t) :=
  ⟨⟨(atStage .aonReset State.reset), by decide +kernel⟩,
   ⟨(atStage .waitPgood { State.reset with pins := { up.pins with pgood := false } }), by decide +kernel⟩,
   ⟨{ atStage .waitPen1 up with boot := { State.reset.boot with stage := .waitPen1, vdramOk := true } },
     by decide +kernel⟩,
   ⟨{ atStage .waitPen1 up with boot := { State.reset.boot with stage := .waitPen1, vlaneOk := true } },
     by decide +kernel⟩,
   ⟨{ atStage .waitPen1 up with boot := { State.reset.boot with stage := .waitPen1 } }, by decide +kernel⟩,
   ⟨(atStage .waitPen2 up), by decide +kernel⟩,
   ⟨5000000, (atStage .waitPgood up), by decide +kernel⟩,
   ⟨100000000, (atStage .retryWait State.reset), by decide +kernel⟩⟩

theorem witness_ResetsStartThePath :
    (∃ (s : State) (lowUs : Nat), s.boot.stage = .started ∧ s.boot.pending = none ∧ s.pnl.path = none ∧ 0 < lowUs ∧
      s.pins.rstDrive = false) ∧
    (∃ (t : Nat) (s : State) (h : Hdr) (v : BitVec 8), s.boot.stage = .started ∧ s.boot.pending = none ∧ s.pnl.path = none
      ∧ writeTaken (s.at t) h Ob.RST_SOFT (BitVec.toNat v) = true) ∧
    (∃ (t : Nat) (s : State) (e : _), s.boot.stage = .started ∧ s.boot.pending = none ∧ s.pnl.path = none ∧
      s.boot.lockstepAt = some e ∧ e ≤ max s.now t) ∧
    (∃ (s : State) (lowUs : Nat), 0 < lowUs ∧ s.boot.stage = .failed) ∧
    (∃ (s : State), s.boot.stage ≠ .failed ∧ s.pins.rstDrive = true) :=
  ⟨⟨up, 1, by decide +kernel⟩,
   ⟨1000, up, hd, 0x5A, by decide +kernel⟩,
   ⟨1000, { up with boot := { up.boot with lockstepAt := some 0 } }, 0, by decide +kernel⟩,
   ⟨(atStage .failed State.reset), 1, by decide +kernel⟩,
   ⟨{ up with pins := { up.pins with rstDrive := true } }, by decide +kernel⟩⟩

theorem witness_DieBootsAndLeavesBoot :
    (∃ (s : State), s.boot.stage = .supplied) ∧
    (∃ (t : Nat) (s : State), s.boot.stage = .inReset ∧ s.boot.stageAt + s.boot.stretch ≤ max s.now t ∧ suppliesGood s =
      true) ∧
    (∃ (s : State), s.boot.stage = .started ∧ s.boot.op = .boot ∧ s.boot.testMode = true) ∧
    (∃ (s : State), s.boot.stage = .started ∧ s.boot.op = .boot ∧ s.boot.testMode = false) :=
  ⟨⟨(atStage .supplied State.reset), by decide +kernel⟩,
   ⟨1000, (atStage .inReset { up with boot := { up.boot with stretch := 10 } }), by decide +kernel⟩,
   ⟨(inOp .boot { up with boot := { up.boot with testMode := true } }), by decide +kernel⟩,
   ⟨(inOp .boot up), by decide +kernel⟩⟩

theorem witness_StateAndSealRequests :
    (∃ (t : Nat) (h : Hdr) (s : State), s.pwr.state = .p0 ∧ stateHeld s = false ∧ s.boot.op = .setup ∧ writeTaken (s.at t)
      h Ob.DEV_STATE 2 = true ∧ runErr (counted (s.at t) h) = 0) ∧
    (∃ (t : Nat) (h : Hdr) (s : State), s.pwr.state = .p0 ∧ stateHeld s = false ∧ s.boot.op = .setup ∧ writeTaken (s.at t)
      h Ob.DEV_STATE 2 = true ∧ runErr (counted (s.at t) h) ≠ 0) ∧
    (∃ (t : Nat) (h : Hdr) (s : State), s.pwr.state = .p0 ∧ stateHeld s = false ∧ s.boot.op = .run ∧ writeTaken (s.at t) h
      Ob.DEV_STATE 1 = true) ∧
    (∃ (t : Nat) (h : Hdr) (s : State), s.boot.op = .setup ∧ writeTaken (s.at t) h Ob.SAF_SEALCMD 1 = true ∧ oflag s
      Ob.SAF_SEALED = false) ∧
    (∃ (t : Nat) (h : Hdr) (s : State), s.boot.op = .setup ∧ writeTaken (s.at t) h Ob.SAF_SEALCMD 2 = true ∧ oflag s
      Ob.SAF_SEALED = true) ∧
    (∃ (t : Nat) (h : Hdr) (s : State), s.boot.op = .setup ∧ writeTaken (s.at t) h Ob.SAF_SEALCMD 1 = true ∧ oflag s
      Ob.SAF_SEALED = true) ∧
    (∃ (t : Nat) (h : Hdr) (s : State), s.boot.op = .setup ∧ writeTaken (s.at t) h Ob.SAF_SEALCMD 2 = true ∧ oflag s
      Ob.SAF_SEALED = false) :=
  ⟨⟨1000, hd, readyToRun, by decide +kernel⟩,
   ⟨1000, hd, up, by decide +kernel⟩,
   ⟨1000, hd, run, by decide +kernel⟩,
   ⟨1000, hd, up, by decide +kernel⟩,
   ⟨1000, hd, (oset Ob.SAF_SEALED 1 up), by decide +kernel⟩,
   ⟨1000, hd, (oset Ob.SAF_SEALED 1 up), by decide +kernel⟩,
   ⟨1000, hd, up, by decide +kernel⟩⟩

theorem witness_DarknessIsCleared :
    (∃ (t : Nat) (h : Hdr) (v : BitVec 8) (s : State), writeTaken (s.at t) h Ob.SAF_BANDCLR v.toNat = true) ∧
    (∃ (t : Nat) (h : Hdr) (v : BitVec 8) (s : State), writeTaken (s.at t) h Ob.SAF_CLEAR v.toNat = true ∧ v ≠ 0 ∧
      s.boot.op = .safeDark ∧ deviceCause s = false ∧ crackBad s = false) ∧
    (∃ (t : Nat) (h : Hdr) (v : BitVec 8) (s : State), writeTaken (s.at t) h Ob.SAF_CLEAR v.toNat = true ∧ v ≠ 0 ∧
      s.boot.op = .safeDark ∧ (deviceCause s = true ∨ crackBad s = true)) ∧
    (∃ (t : Nat) (h : Hdr) (v : BitVec 8) (s : State), writeTaken (s.at t) h Ob.SAF_CLEAR v.toNat = true ∧ (v = 0 ∨
      s.boot.op ≠ .safeDark)) :=
  ⟨⟨1000, hd, 1, up, by decide +kernel⟩,
   ⟨1000, hd, 1, (inOp .safeDark up), by decide +kernel⟩,
   ⟨1000, hd, 1, (inOp .safeDark { up with pnl := { up.pnl with loops := [(0, { Loop.initial with fails := 1 })] } }),
     by decide +kernel⟩,
   ⟨1000, hd, 1, up, by decide +kernel⟩⟩

theorem witness_DeviceFailuresDarken :
    (∃ (s : State), s.boot.stage = .started ∧ s.boot.op ≠ .boot) ∧
    (∃ (s : State), s.boot.stage = .started ∧ s.boot.op ≠ .boot ∧ s.safe.corrupt = true) ∧
    (∃ (s : State), s.boot.stage = .started ∧ s.boot.op ≠ .boot ∧ s.boot.op ≠ .safeDark ∧ s.boot.lockstepAt = none) :=
  ⟨⟨up, by decide +kernel⟩,
   ⟨{ up with safe := { up.safe with corrupt := true } }, by decide +kernel⟩,
   ⟨up, by decide +kernel⟩⟩

theorem witness_ConfigurationIsCheckedAndInjected :
    (∃ (t : Nat) (s : State), configRuns s = true ∧ s.safe.corrupt = false ∧ recordCrc (s.at t) = s.safe.sealCrc) ∧
    (∃ (t : Nat) (s : State), configRuns s = true ∧ s.safe.corrupt = false ∧ recordCrc (s.at t) ≠ s.safe.sealCrc) ∧
    (∃ (s : State), configRuns s = true ∧ s.safe.corrupt = false) ∧
    (∃ (t : Nat) (h : Hdr) (v : BitVec 8) (s : State), writeTaken (s.at t) h Ob.SAF_INJ_GO v.toNat = true ∧ v ≠ 0 ∧
      s.boot.op = .setup ∧ s.boot.stage = .started ∧ (oget s Ob.SAF_INJ_SM) ≠ 0 ∧ (([4, 5, 7, 8, 9, 14].contains (oget s
      Ob.SAF_INJ_SM)) = true → (oget s Ob.SAF_INJ_BAND) < bandCount s)) ∧
    (∃ (t : Nat) (h : Hdr) (v : BitVec 8) (s : State), writeTaken (s.at t) h Ob.SAF_INJ_GO v.toNat = true ∧ v ≠ 0 ∧
      s.boot.op = .setup ∧ s.boot.stage = .started ∧ ((oget s Ob.SAF_INJ_SM) = 0 ∨ ([4, 5, 7, 8, 9, 14].contains (oget s
      Ob.SAF_INJ_SM)) = true ∧ bandCount s ≤ (oget s Ob.SAF_INJ_BAND))) :=
  ⟨⟨1000, { up with safe := { up.safe with sealCrc := recordCrc up } }, by decide +kernel, by decide +kernel,
     recordCrc_safe _ _ _⟩,
   record_misses up (by decide +kernel) (by decide +kernel),
   ⟨up, by decide +kernel⟩,
   ⟨1000, hd, 1, (oset Ob.SAF_INJ_SM 15 up), by decide +kernel⟩,
   ⟨1000, hd, 1, up, by decide +kernel⟩⟩

theorem witness_LinkTrainsAndDrops :
    (∃ (s : State), s.pxl.link = .negotiate) ∧
    (∃ (s : State), s.pxl.link = .go) ∧
    (∃ (s : State), (s.pxl.link = .reconfig ∨ (s.pxl.link = .active ∧ s.pxl.prevLcn.isSome = true)) ∧ (lanesOf
      s.pxl.fmask).all (fun n => !(laneOf s n).newLcn) = true) ∧
    (∃ (t : Nat) (s : State) (h : Hdr) (v : BitVec 8), writeTaken (s.at t) h Ob.PXL_RETRAIN (BitVec.toNat v) = true ∧ v ≠
      0 ∧ s.pxl.link ≠ .disabled) ∧
    (∃ (t : Nat) (s : State) (h : Hdr) (v : BitVec 8), writeTaken (s.at t) h Ob.PXL_RETRAIN (BitVec.toNat v) = true ∧ (v =
      0 ∨ s.pxl.link = .disabled)) ∧
    (∃ (s : State) (lane : Fin 16) (m : TrainIn), fwdHears s lane.val = true ∧ trainOk m = false) ∧
    (∃ (s : State) (lane : Fin 16) (m : TrainIn), fwdHears s lane.val = true ∧ trainOk m = true ∧ m.ttype = 1 ∧ s.pxl.link
      = .detect) ∧
    (∃ (s : State) (lane : Fin 16) (m : TrainIn), fwdHears s lane.val = true ∧ trainOk m = true ∧ m.ttype = 2 ∧ s.pxl.link
      = .negotiate ∧ s.pxl.brate < min (oget s Ob.PXL_BACK_MAXRATE) m.brate.toNat) ∧
    (∃ (s : State) (lane : Fin 16) (m : TrainIn), fwdHears s lane.val = true ∧ trainOk m = true ∧ m.ttype = 4 ∧ s.pxl.link
      = .stepBack ∧ s.pxl.awaitRes = true ∧ m.brate.toNat = s.pxl.stepRate ∧ ([0, 1].filter (bit s.pxl.bmask)).all (bit
      m.mask.toNat) = true ∧ s.pxl.brate < s.pxl.btarget) ∧
    (∃ (s : State), s.pxl.lockWait = true ∧ detectDone s = true) ∧
    (∃ (s : State), s.pxl.idle = true ∧ s.pxl.link = .stepBack ∧ s.pxl.brate ≤ s.pxl.stepRate) ∧
    (∃ (s : State), s.pxl.idle = true ∧ s.pxl.link = .stepFwd ∧ s.pxl.frate ≤ s.pxl.stepRate) ∧
    (∃ (s : State), s.pxl.link = .stepBack ∧ s.pxl.awaitRes = true ∧ (bit s.pxl.bmask 0 = true ∨ bit s.pxl.bmask 1 =
      true)) ∧
    (∃ (s : State), s.pxl.link = .stepFwd ∧ s.pxl.idle = false ∧ (trainLanes s).length ≠ 0 ∧ (trainLanes s).all (fun n =>
      !(laneOf s n).passes) = true) ∧
    (∃ (s : State), s.pxl.link = .stepFwd ∧ s.pxl.idle = false ∧ (trainLanes s).all (fun n => (laneOf s n).passes) = true
      ∧ s.pxl.btarget ≤ s.pxl.brate ∧ s.pxl.frate < s.pxl.ftarget) ∧
    (∃ (s : State), s.pxl.link = .stepFwd ∧ s.pxl.idle = false ∧ (trainLanes s).length ≠ 0 ∧ (trainLanes s).all (fun n =>
      (laneOf s n).passes) = true ∧ s.pxl.btarget ≤ s.pxl.brate ∧ s.pxl.ftarget ≤ s.pxl.frate) :=
  ⟨⟨(setLink .negotiate linked), by decide +kernel⟩,
   ⟨(setLink .go linked), by decide +kernel⟩,
   ⟨(setLink .reconfig linked), by decide +kernel⟩,
   ⟨1000, linked, hd, 1, by decide +kernel⟩,
   ⟨1000, up, hd, 1, by decide +kernel⟩,
   ⟨(setLink .negotiate linked), 0, { trainIn 2 6 2 0 with copies := 1 }, by decide +kernel⟩,
   ⟨(modPxl (fun p => { p with link := .detect, srcHello := 1 }) up), 0, (trainIn 1 0 0 3), by decide +kernel⟩,
   ⟨(setLink .negotiate linked), 0, (trainIn 2 6 2 0), by decide +kernel⟩,
   ⟨(modPxl (fun p => { p with link := .stepBack, awaitRes := true, bmask := 3, stepRate := 1, btarget := 2 }) up), 0,
     (trainIn 4 0 1 3), by decide +kernel⟩,
   ⟨(withLane (fun l => { l with mlock := true, hello := true }) (modPxl (fun p =>
     { p with link := .detect, lockWait := true, srcHello := 1 }) up)), by decide +kernel⟩,
   ⟨(modPxl (fun p => { p with link := .stepBack, idle := true, stepRate := 1 }) up), by decide +kernel⟩,
   ⟨(modPxl (fun p => { p with link := .stepFwd, idle := true, stepRate := 1 }) up), by decide +kernel⟩,
   ⟨(modPxl (fun p => { p with link := .stepBack, awaitRes := true, bmask := 3, stepRate := 2 }) up), by decide +kernel⟩,
   ⟨(withLane (fun l => { l with good := true, mlock := false }) (modPxl (fun p =>
     { p with link := .stepFwd, stepRate := 2, ftarget := 2 }) up)), by decide +kernel⟩,
   ⟨(withLane (fun l => { l with good := true, mlock := true }) (modPxl (fun p =>
     { p with link := .stepFwd, stepRate := 2, ftarget := 3 }) up)), by decide +kernel⟩,
   ⟨(withLane (fun l => { l with good := true, mlock := true }) (modPxl (fun p =>
     { p with link := .stepFwd, stepRate := 2, ftarget := 0 }) up)), by decide +kernel⟩⟩

theorem witness_LanesFollowAndRetrain :
    (∃ (lane : Fin 16) (s : State) (line : LineBits) (skew : Int), fwdHears s lane.val = true ∧ (laneOf s lane.val).mlock
      = true ∧ markerOk s lane.val (blockMarker s lane.val line) = true ∧ blockBad s lane.val line = 0 ∧ Int.natAbs skew ≤
      64 ∧ s.pxl.link = .negotiate ∧ bit s.pxl.fmask lane.val = false ∧ bit s.pxl.pendMask lane.val = false) ∧
    (∃ (lane : Fin 16) (s : State) (line : LineBits) (skew : Int) (k : _), fwdHears s lane.val = true ∧ (laneOf s
      lane.val).mlock = true ∧ markerOk s lane.val (blockMarker s lane.val line) = true ∧ blockBad s lane.val line = 0 ∧
      Int.natAbs skew ≤ 64 ∧ s.pxl.link = .active ∧ s.pxl.pendMask = 0 ∧ s.pxl.prevLcn = none ∧ (laneOf s
      lane.val).discard = false ∧ k < 16 ∧ k ≠ lane.val ∧ bit s.pxl.fmask k = true ∧ (laneOf s k).wordsSeq = none ∧ bit
      s.pxl.fmask lane.val = true ∧ (blockMarker s lane.val line).type = 0 ∧ (blockMarker s lane.val line).lcn =
      s.pxl.lcn) ∧
    (∃ (lane : Fin 16) (s : State) (line : LineBits), fwdHears s lane.val = true ∧ (laneOf s lane.val).mlock = true ∧
      markerOk s lane.val (blockMarker s lane.val line) = false ∧ blockBad s lane.val line = 0 ∧ s.pxl.link = .negotiate ∧
      (laneOf s lane.val).badRun = 0 ∧ bit s.pxl.fmask lane.val = false ∧ bit s.pxl.pendMask lane.val = false) ∧
    (∃ (lane : Fin 16) (s : State), fwdHears s lane.val = true ∧ (laneOf s lane.val).mlock = true ∧ (laneOf s
      lane.val).badRun = 0) ∧
    (∃ (lane : Fin 16) (s : State), fwdHears s lane.val = true ∧ (laneOf s lane.val).mlock = true ∧ (laneOf s
      lane.val).badRun ≠ 0 ∧ s.pxl.link = .active ∧ bit s.pxl.fmask lane.val = true ∧ (cfgLanes s).all (fun n => decide (n
      = lane.val) || !(laneOf s n).good) = true) ∧
    (∃ (lane : Fin 16) (s : State), fwdHears s lane.val = true ∧ s.pxl.link = .negotiate) ∧
    (∃ (lane : Fin 16) (s : State), fwdHears s lane.val = true ∧ s.pxl.link = .active ∧ bit s.pxl.fmask lane.val = true ∧
      (cfgLanes s).all (fun n => decide (n = lane.val) || !(laneOf s n).good) = true) ∧
    (∃ (lane : Fin 16) (s : State), inSession s = true ∧ (laneOf s lane.val).bg = .training ∧ lane.val < oget s
      Ob.PXL_LANES ∧ bit s.pxl.fmask lane.val = false ∧ (laneOf s lane.val).passes = true) ∧
    (∃ (lane : Fin 16) (s : State), inSession s = true ∧ (laneOf s lane.val).bg = .training ∧ lane.val < oget s
      Ob.PXL_LANES ∧ bit s.pxl.fmask lane.val = false ∧ (laneOf s lane.val).passes = false) ∧
    (∃ (lane : Fin 16) (s : State), inSession s = true ∧ (laneOf s lane.val).bg = .retryWait) :=
  ⟨⟨0, (withLane (fun l => { l with mlock := true, lastSeq := some 4 }) (modPxl (fun p =>
     { p with link := .negotiate, fmask := 2 }) up)), (dataBlock 0 0 5), (-64), by decide +kernel⟩,
   ⟨0, (withLane (fun l => { l with mlock := true, lastSeq := some 4 }) (linked)), (dataBlock 0 0 5), 64, 1,
     by decide +kernel⟩,
   ⟨0, (withLane (fun l => { l with mlock := true, lastSeq := some 4 }) (modPxl (fun p =>
     { p with link := .negotiate, fmask := 2 }) up)), badBlock, by decide +kernel⟩,
   ⟨0, (withLane (fun l => { l with mlock := true, lastSeq := some 4 }) (modPxl (fun p =>
     { p with link := .negotiate, fmask := 2 }) up)), by decide +kernel⟩,
   ⟨0, (withLane (fun l => { l with mlock := true, badRun := 1 }) linked), by decide +kernel⟩,
   ⟨0, (withLane (fun l => { l with mlock := true, lastSeq := some 4 }) (modPxl (fun p =>
     { p with link := .negotiate, fmask := 2 }) up)), by decide +kernel⟩,
   ⟨0, linked, by decide +kernel⟩,
   ⟨0, (withLane (fun l => { l with bg := .training, mlock := true }) (modPxl (fun p => { p with fmask := 2 }) linked)),
     by decide +kernel⟩,
   ⟨0, (withLane (fun l => { l with bg := .training, mlock := false }) (modPxl (fun p => { p with fmask := 2 }) linked)),
     by decide +kernel⟩,
   ⟨0, (withLane (fun l => { l with bg := .retryWait, mlock := false }) (modPxl (fun p => { p with fmask := 2 }) linked)),
     by decide +kernel⟩⟩

theorem witness_LinkSleepsAndTests :
    (∃ (s : State), s.boot.stage = .started ∧ s.pwr.state = .p0 ∧ s.pwr.entry ≠ .inProgress ∧ s.pwr.entry ≠ .waitRetry) ∧
    (∃ (s : State), s.boot.stage ≠ .started) ∧
    (∃ (s : State), s.boot.stage = .started ∧ s.pwr.state = .p1 ∧ s.pwr.entry = .done ∧ s.pxl.fwdAsleep = true ∧
      s.pwr.target < 3 ∧ bit (oget s Ob.PWR_WAKEEN) 2 = true ∧ wakeNActs s = false ∧ s.pwr.gylWake = false) ∧
    (∃ (s : State) (locked : BitVec 16), s.pxl.relock = true ∧ inSession s = true ∧ locked.toNat &&& s.pxl.fmask &&&
      maskOf (cfgLanes s) ≠ 0 ∧ (lanesOf s.pxl.fmask).all (bit (locked.toNat &&& s.pxl.fmask &&& maskOf (cfgLanes s))) =
      true) ∧
    (∃ (s : State) (locked : BitVec 16) (k : Fin 16) (n : Fin 16), s.pxl.relock = true ∧ inSession s = true ∧ bit
      (locked.toNat &&& s.pxl.fmask &&& maskOf (cfgLanes s)) k.val = true ∧ (laneOf s k.val).good = true ∧ (laneOf s
      k.val).heldFail = 0 ∧ bit s.pxl.fmask n.val = true ∧ bit (locked.toNat &&& maskOf (cfgLanes s)) n.val = false) ∧
    (∃ (s : State) (locked : BitVec 16), s.pxl.relock = true ∧ inSession s = true ∧ locked.toNat &&& s.pxl.fmask &&&
      maskOf (cfgLanes s) = 0) ∧
    (∃ (s : State), s.pxl.relock = true ∧ inSession s = false ∧ s.pxl.link ≠ .disabled) ∧
    (∃ (t : Nat) (s : State) (h : Hdr) (v : BitVec 8), writeTaken (s.at t) h Ob.PXL_PRBS_START (BitVec.toNat v) = true ∧ v
      ≠ 0 ∧ s.boot.op = .setup ∧ s.pxl.link = .active ∧ s.trx.groups.any (fun e => uncommitted e.2) = false) ∧
    (∃ (t : Nat) (s : State) (h : Hdr) (v : BitVec 8), writeTaken (s.at t) h Ob.PXL_PRBS_START (BitVec.toNat v) = true ∧
      (s.boot.op ≠ .setup ∨ s.pxl.link ≠ .active ∨ s.trx.groups.any (fun e => uncommitted e.2) = true)) ∧
    (∃ (s : State), s.pxl.prbs = true) ∧
    (∃ (s : State) (n : Fin 16), s.pxl.prbs = true ∧ s.pxl.prbsDir ≠ 1 ∧ bit s.pxl.fmask n.val = true) :=
  ⟨⟨up, by decide +kernel⟩,
   ⟨(atStage .asleep run), by decide +kernel⟩,
   ⟨(oset Ob.PWR_WAKEEN 4 (modPxl (fun p => { p with fwdAsleep := true })
     { linked with pwr := { linked.pwr with state := .p1, entry := .done, target := 1 } })), by decide +kernel⟩,
   ⟨(modPxl (fun p => { p with relock := true }) linked), 3, by decide +kernel⟩,
   ⟨(withLane (fun l => { l with good := true }) (modPxl (fun p => { p with relock := true }) linked)), 1, 0, 1,
     by decide +kernel⟩,
   ⟨(modPxl (fun p => { p with relock := true }) linked), 0, by decide +kernel⟩,
   ⟨(modPxl (fun p => { p with relock := true, link := .detect }) run), by decide +kernel⟩,
   ⟨1000, (inOp .setup linked), hd, 1, by decide +kernel⟩,
   ⟨1000, linked, hd, 1, by decide +kernel⟩,
   ⟨(modPxl (fun p => { p with prbs := true, link := .test, prbsDir := 1 }) (inOp .setup linked)), by decide +kernel⟩,
   ⟨(modPxl (fun p => { p with prbs := true, link := .test, prbsDir := 0 }) (inOp .setup linked)), 1, by decide +kernel⟩⟩

theorem witness_TilesJoinTheirGroup :
    (∃ (t : Nat) (s : State) (hdr : BitVec 128), linkUp s = true ∧ s.trx.incoming = [] ∧ tileErr (evc 0x30 (acceptPkt
      (s.at t))) (tileHdrOf hdr.toNat) = 0 ∧ (tileHdrOf hdr.toNat).fmt = 3 ∧ lakeHasBank s = true ∧ (instHeld s (instFor
      s)).length < 2) ∧
    (∃ (t : Nat) (s : State) (hdr : BitVec 128) (payload : List (BitVec 32)) (crc : BitVec 32), linkUp s = true ∧
      s.trx.incoming = [] ∧ tileErr (evc 0x30 (acceptPkt (s.at t))) (tileHdrOf hdr.toNat) = 0 ∧ (tileHdrOf hdr.toNat).fmt
      ≠ 3 ∧ crc32 (wordBytes payload) = BitVec.toNat crc) ∧
    (∃ (t : Nat) (s : State) (hdr : BitVec 128), linkUp s = true ∧ s.trx.incoming = [] ∧ tileErr (evc 0x30 (acceptPkt
      (s.at t))) (tileHdrOf hdr.toNat) ≠ 0) ∧
    (∃ (s : State) (hdr : BitVec 128) (x : _) (rest : _), linkUp s = true ∧ s.trx.incoming = x :: rest ∧ x.hdr = tileHdrOf
      hdr.toNat ∧ x.reason ≠ 0) ∧
    (∃ (s : State) (hdr : BitVec 128) (payload : List (BitVec 32)) (crc : BitVec 32) (x : _) (rest : _), linkUp s = true ∧
      s.trx.incoming = x :: rest ∧ x.hdr = tileHdrOf hdr.toNat ∧ x.reason = 0 ∧ x.hdr.fmt ≠ 3 ∧ crc32 (wordBytes payload)
      = BitVec.toNat crc ∧ memberOpen s x.hdr.tag = true ∧ (groupOf s (tagOf s x.hdr.tag).group).ended = false) ∧
    (∃ (s : State) (hdr : BitVec 128) (x : _) (rest : _), linkUp s = true ∧ s.trx.incoming = x :: rest ∧ x.hdr = tileHdrOf
      hdr.toNat ∧ x.reason = 0 ∧ x.hdr.fmt = 3 ∧ lakeHasBank s = true) ∧
    (∃ (s : State) (k : BitVec 13) (px : _), (tagOf s k.toNat).state = .receiving ∧ (tagOf s k.toNat).decoding = true ∧
      lakeHasBank s = true ∧ [0, 1].any (fun i => decide ((instHeld s i).head? = some k.toNat)) = true ∧ decodeTile (tagOf
      s k.toNat).code (tagOf s k.toNat).payload = .ok px ∧ wordsCrc (pixelWords px) = (tagOf s k.toNat).crc ∧ memberOpen s
      k.toNat = true ∧ (groupOf s (tagOf s k.toNat).group).ended = false) ∧
    (∃ (s : State) (k : BitVec 13) (block : _) (cause : _), (tagOf s k.toNat).state = .receiving ∧ (tagOf s
      k.toNat).decoding = true ∧ lakeHasBank s = true ∧ [0, 1].any (fun i => decide ((instHeld s i).head? = some k.toNat))
      = true ∧ decodeTile (tagOf s k.toNat).code (tagOf s k.toNat).payload = .error (block, cause)) :=
  ⟨⟨1000, (grouped opened), (head 1 5 1 (3 * 2 ^ 99 + 2 ^ 96 + 960 * 2 ^ 69 + 7 * 2 ^ 32)), by decide +kernel⟩,
   ⟨1000, (grouped opened), (head 1 5 1 (0 * 2 ^ 99 + 2 ^ 96 + 1024 * 2 ^ 69 + 7 * 2 ^ 32)), [0], 0x2144DF1C,
     by decide +kernel⟩,
   ⟨1000, linked, (head 1 5 1 (0 * 2 ^ 99 + 2 ^ 96 + 1024 * 2 ^ 69 + 7 * 2 ^ 32)), by decide +kernel⟩,
   ⟨{ (grouped opened) with trx := { ((grouped opened)).trx with incoming := [{ hdr := tileHdrOf (head 1 5 1 (0 * 2 ^ 99 + 2 ^ 96 + 1 * 2 ^ 69 + 7 * 2 ^ 32)).toNat, reason := 3, token := false, whole := true }] } },
     (head 1 5 1 (0 * 2 ^ 99 + 2 ^ 96 + 1 * 2 ^ 69 + 7 * 2 ^ 32)),
     { hdr := tileHdrOf (head 1 5 1 (0 * 2 ^ 99 + 2 ^ 96 + 1 * 2 ^ 69 + 7 * 2 ^ 32)).toNat, reason := 3, token := false, whole := true },
     [], by decide +kernel⟩,
   ⟨{ (setTag 5 { Tag.none with state := .receiving, grouped := true, group := 1, gen := 1 } (grouped { opened with members := [5] })) with trx := { ((setTag 5 { Tag.none with state := .receiving, grouped := true, group := 1, gen := 1 } (grouped { opened with members := [5] }))).trx with incoming := [{ hdr := tileHdrOf (head 1 5 1 (0 * 2 ^ 99 + 2 ^ 96 + 1024 * 2 ^ 69 + 7 * 2 ^ 32)).toNat, reason := 0, token := false, whole := true }] } },
     (head 1 5 1 (0 * 2 ^ 99 + 2 ^ 96 + 1024 * 2 ^ 69 + 7 * 2 ^ 32)), [0], 0x2144DF1C,
     { hdr := tileHdrOf (head 1 5 1 (0 * 2 ^ 99 + 2 ^ 96 + 1024 * 2 ^ 69 + 7 * 2 ^ 32)).toNat, reason := 0, token := false, whole := true },
     [], by decide +kernel⟩,
   ⟨{ (setTag 5 { Tag.none with state := .receiving, grouped := true, group := 1, gen := 1 } (grouped { opened with members := [5] })) with trx := { ((setTag 5 { Tag.none with state := .receiving, grouped := true, group := 1, gen := 1 } (grouped { opened with members := [5] }))).trx with incoming := [{ hdr := tileHdrOf (head 1 5 1 (3 * 2 ^ 99 + 2 ^ 96 + 960 * 2 ^ 69 + 7 * 2 ^ 32)).toNat, reason := 0, token := false, whole := true }] } },
     (head 1 5 1 (3 * 2 ^ 99 + 2 ^ 96 + 960 * 2 ^ 69 + 7 * 2 ^ 32)),
     { hdr := tileHdrOf (head 1 5 1 (3 * 2 ^ 99 + 2 ^ 96 + 960 * 2 ^ 69 + 7 * 2 ^ 32)).toNat, reason := 0, token := false, whole := true },
     [], by decide +kernel⟩,
   ⟨decodingTile, (5#13), zeroTile, by decide +kernel, by decide +kernel, by decide +kernel, by decide +kernel,
     zeroTile_decodes, rfl, by decide +kernel, by decide +kernel⟩,
   ⟨badTile, (5#13), 0, 5, by decide +kernel, by decide +kernel, by decide +kernel, by decide +kernel, eq_of_errorOf
     (by decide +kernel)⟩⟩

theorem witness_GroupsOpenAndEnd :
    (∃ (hdr : BitVec 128) (s : State), linkUp s = true ∧ s.boot.op = .run ∧ (groupOf s (field hdr.toNat 102 6)).state =
      .free ∧ (groupOf s (field hdr.toNat 102 6)).gen ≠ field hdr.toNat 121 3) ∧
    (∃ (s : State), linkUp s = true ∧ s.boot.op ≠ .run) ∧
    (∃ (t : Nat) (hdr : BitVec 128) (s : State), linkUp s = true ∧ tokenErr (evc 0x31 (acceptPkt (s.at t))) (tokenHdrOf
      hdr.toNat) = 0 ∧ (tokenHdrOf hdr.toNat).ingrp = true) ∧
    (∃ (t : Nat) (hdr : BitVec 128) (s : State), linkUp s = true ∧ tokenErr (evc 0x31 (acceptPkt (s.at t))) (tokenHdrOf
      hdr.toNat) = 0 ∧ (tokenHdrOf hdr.toNat).ingrp = false) ∧
    (∃ (hdr : BitVec 128) (s : State), linkUp s = true ∧ (groupOf s (groupEndOf hdr.toNat).group).state = .opened ∧
      (groupOf s (groupEndOf hdr.toNat).group).gen = (groupEndOf hdr.toNat).gen ∧ (groupOf s (groupEndOf
      hdr.toNat).group).ended = false ∧ (groupEndOf hdr.toNat).abort = false ∧ (groupEndOf hdr.toNat).count = (groupOf s
      (groupEndOf hdr.toNat).group).members.length ∧ (groupEndOf hdr.toNat).count ≤ 8192 ∧ (groupOf s (groupEndOf
      hdr.toNat).group).members.all (fun m => decide ((tagOf s m).state = .staged)) = false) ∧
    (∃ (hdr : BitVec 128) (s : State), linkUp s = true ∧ (groupOf s (groupEndOf hdr.toNat).group).state = .opened ∧
      (groupOf s (groupEndOf hdr.toNat).group).gen = (groupEndOf hdr.toNat).gen ∧ (groupOf s (groupEndOf
      hdr.toNat).group).ended = false ∧ (groupEndOf hdr.toNat).abort = false ∧ (groupEndOf hdr.toNat).count = (groupOf s
      (groupEndOf hdr.toNat).group).members.length ∧ (groupEndOf hdr.toNat).count ≤ 8192 ∧ (groupEndOf hdr.toNat).atEpoch
      = false ∧ (groupOf s (groupEndOf hdr.toNat).group).members ≠ [] ∧ (groupOf s (groupEndOf
      hdr.toNat).group).members.all (fun m => decide ((tagOf s m).state = .staged)) = true) ∧
    (∃ (hdr : BitVec 128) (s : State), linkUp s = true ∧ (groupOf s (groupEndOf hdr.toNat).group).state = .opened ∧
      (groupOf s (groupEndOf hdr.toNat).group).gen = (groupEndOf hdr.toNat).gen ∧ (groupOf s (groupEndOf
      hdr.toNat).group).ended = false ∧ ((groupEndOf hdr.toNat).abort = true ∨ (groupEndOf hdr.toNat).count ≠ (groupOf s
      (groupEndOf hdr.toNat).group).members.length)) ∧
    (∃ (hdr : BitVec 128) (s : State), linkUp s = true ∧ (((groupOf s (groupEndOf hdr.toNat).group).state ≠ .opened ∧
      (groupOf s (groupEndOf hdr.toNat).group).state ≠ .aborted) ∨ (groupOf s (groupEndOf hdr.toNat).group).gen ≠
      (groupEndOf hdr.toNat).gen ∨ (groupOf s (groupEndOf hdr.toNat).group).ended = true)) :=
  ⟨⟨(head 1 0 1 0), linked, by decide +kernel⟩,
   ⟨(inOp .setup linked), by decide +kernel⟩,
   ⟨1000, (head 1 5 1 (1 * 2 ^ 96 + 2 ^ 74 + 2 ^ 66 + 7 * 2 ^ 32)), (grouped opened), by decide +kernel⟩,
   ⟨1000, (head 1 5 1 (0 * 2 ^ 96 + 2 ^ 74 + 2 ^ 66 + 7 * 2 ^ 32)), sourced, by decide +kernel⟩,
   ⟨(head 1 0 1 (1 * 2 ^ 82 + 0 * 2 ^ 81)), (setTag 5
     { Tag.none with state := .receiving, grouped := true, group := 1, gen := 1 } (grouped
     { opened with members := [5] })), by decide +kernel⟩,
   ⟨(head 1 0 1 (1 * 2 ^ 82 + 0 * 2 ^ 81)), (setTag 5
     { Tag.none with state := .staged, grouped := true, group := 1, gen := 1 } (grouped { opened with members := [5] })),
     by decide +kernel⟩,
   ⟨(head 1 0 1 (0 * 2 ^ 82 + 1 * 2 ^ 81)), (grouped opened), by decide +kernel⟩,
   ⟨(head 1 0 1 (0 * 2 ^ 82 + 0 * 2 ^ 81)), linked, by decide +kernel⟩⟩

theorem witness_SourcesAndCommitsGoOn :
    (∃ (hdr : BitVec 128) (s : State), linkUp s = true ∧ (s.trx.history = [] ∨ newer (field hdr.toNat 32 32)
      s.trx.lastSrcf = true)) ∧
    (∃ (hdr : BitVec 128) (s : State), linkUp s = true ∧ s.trx.history ≠ [] ∧ newer (field hdr.toNat 32 32) s.trx.lastSrcf
      = false) ∧
    (∃ (t : Nat) (s : State), s.boot.op = .run ∧ s.pwr.state = .p0 ∧ s.trx.gapDone = false ∧ s.trx.gapFrom + 50000000 ≤
      max s.now t) ∧
    (∃ (s : State), (s.boot.op ≠ .run ∨ s.trx.gapDone = true)) ∧
    (∃ (t : Nat) (s : State) (e : _) (rest : _), s.trx.copying = none ∧ s.trx.queue = e :: rest ∧ (s.trx.run = some
      e.group ∨ (groupOf s e.group).atEpoch.isSome = true ∨ waitsHeld s e.group = false) ∧ unfitTiles (s.at t) e.group =
      [] ∧ waitsSwap (s.at t) e.tag = false) ∧
    (∃ (t : Nat) (s : State) (e : _) (rest : _), s.trx.copying = none ∧ s.trx.queue = e :: rest ∧ s.trx.run ≠ some e.group
      ∧ s.trx.zeros = [] ∧ unfitTiles (s.at t) e.group ≠ []) ∧
    (∃ (s : State) (e : _), s.trx.copying = some e ∧ e.last = false) ∧
    (∃ (s : State) (e : _), s.trx.copying = some e ∧ e.last = true ∧ s.trx.zeros = []) ∧
    (∃ (t : Nat) (s : State) (p : _), backUp s = true ∧ nextBack (s.at t) = some p) :=
  ⟨⟨(BitVec.ofNat 128 (8 * 2 ^ 32)), sourced, by decide +kernel⟩,
   ⟨(BitVec.ofNat 128 (7 * 2 ^ 32)), sourced, by decide +kernel⟩,
   ⟨50000000, run, by decide +kernel⟩,
   ⟨up, by decide +kernel⟩,
   ⟨1000,
     { (grouped opened) with trx := { ((grouped opened)).trx with queue := [{ tag := 5, group := 1, last := false }], run := some 1 } },
     { tag := 5, group := 1, last := false }, [], by decide +kernel⟩,
   ⟨1000, { unfit with trx := { (unfit).trx with queue := [{ tag := 5, group := 1, last := true }], run := none } },
     { tag := 5, group := 1, last := true }, [], by decide +kernel⟩,
   ⟨{ linked with trx := { linked.trx with copying := some { tag := 5, group := 1, last := false } } },
     { tag := 5, group := 1, last := false }, by decide +kernel⟩,
   ⟨{ linked with trx := { linked.trx with copying := some { tag := 5, group := 1, last := true } } },
     { tag := 5, group := 1, last := true }, by decide +kernel⟩,
   ⟨1000, (pushBack (.mk .ack 0 1 5 0 0 0 0 []) linked), (.mk .ack 0 1 5 0 0 0 0 []), by decide +kernel⟩⟩

theorem witness_LinkControlPackets :
    (∃ (s : State), linkUp s = true ∧ s.pxl.pendMask ≠ 0 ∧ (lanesOf s.pxl.pendMask).all (fun n => decide ((laneOf s
      n).heldFail = 0)) = true) ∧
    (∃ (s : State) (k : Fin 16) (n : Fin 16), linkUp s = true ∧ bit s.pxl.pendMask k.val = true ∧ k.val < oget s
      Ob.PXL_LANES ∧ (laneOf s k.val).heldFail = 0 ∧ bit s.pxl.pendMask n.val = true ∧ (laneOf s n.val).heldFail ≠ 0) ∧
    (∃ (s : State), linkUp s = true ∧ s.pxl.pendMask = 0) ∧
    (∃ (s : State), linkUp s = true ∧ s.pxl.sleepReq = true) ∧
    (∃ (s : State), linkUp s = true ∧ s.pxl.sleepReq = false) ∧
    (∃ (hdr : BitVec 128) (s : State), linkUp s = true ∧ (maskOf ([0, 1].filter (fun n => bit s.pxl.bmask n && !bit
      (linkctlLost hdr.toNat) n))) ≠ s.pxl.bmask ∧ (maskOf ([0, 1].filter (fun n => bit s.pxl.bmask n && !bit (linkctlLost
      hdr.toNat) n))) ≠ 0) ∧
    (∃ (hdr : BitVec 128) (s : State), linkUp s = true ∧ (maskOf ([0, 1].filter (fun n => bit s.pxl.bmask n && !bit
      (linkctlLost hdr.toNat) n))) ≠ s.pxl.bmask ∧ (maskOf ([0, 1].filter (fun n => bit s.pxl.bmask n && !bit (linkctlLost
      hdr.toNat) n))) = 0) ∧
    (∃ (hdr : BitVec 128) (s : State), linkUp s = true ∧ (maskOf ([0, 1].filter (fun n => bit s.pxl.bmask n && !bit
      (linkctlLost hdr.toNat) n))) = s.pxl.bmask) ∧
    (∃ (s : State), linkUp s = true) ∧
    (∃ (hdr : BitVec 128) (s : State), linkUp s = true ∧ (linkctlOp hdr.toNat = 0 ∨ 5 ≤ linkctlOp hdr.toNat)) ∧
    (∃ (t : Nat) (hdr : BitVec 128) (s : State) (c : Instr), linkUp s = false ∧ c ∈ [Instr.linkctlSwitch t, .linkctlSleep
      t, .linkctlBackloss t hdr, .linkctlDigestReq t, .linkctlBadop t hdr, .headerLost t, .srcframe t hdr, .groupBegin t
      hdr, .groupEnd t hdr, .token t hdr]) :=
  ⟨⟨(modPxl (fun p => { p with pendMask := 1 }) linked), by decide +kernel⟩,
   ⟨(setLane 1 { Lane.idle with heldFail := 1 } (modPxl (fun p => { p with pendMask := 3 }) linked)), 0, 1,
     by decide +kernel⟩,
   ⟨linked, by decide +kernel⟩,
   ⟨(modPxl (fun p => { p with sleepReq := true }) linked), by decide +kernel⟩,
   ⟨linked, by decide +kernel⟩,
   ⟨(BitVec.ofNat 128 (1 * 2 ^ 90)), linked, by decide +kernel⟩,
   ⟨(BitVec.ofNat 128 (3 * 2 ^ 90)), linked, by decide +kernel⟩,
   ⟨0, linked, by decide +kernel⟩,
   ⟨linked, by decide +kernel⟩,
   ⟨0, linked, by decide +kernel⟩,
   ⟨1000, 0, run, (.linkctlSwitch 1000), by decide +kernel⟩⟩

theorem witness_FramesSlotsAndRowsRun :
    (∃ (t : Nat) (s : State), frameMay (s.at t) = true) ∧
    (∃ (t : Nat) (s : State), frameMay (s.at t) = false) ∧
    (∃ (s : State), scans s = true ∧ s.scan.running = true ∧ s.scan.slot + 1 < vtotal s) ∧
    (∃ (s : State), (scans s = false ∨ s.scan.running = false ∨ vtotal s ≤ s.scan.slot + 1)) ∧
    (∃ (band : Fin 4) (row : Nat) (s : State) (l : _), scans s = true ∧ s.scan.running = true ∧ row < bandH s ∧ slotsTo s
      row ≤ 5 ∧ liveIn s band.val (if s.scan.slot < row then s.scan.epoch else s.scan.epoch + 1) = true ∧ rowLatch s row =
      some l) ∧
    (∃ (band : Fin 4) (row : Nat) (s : State), (scans s = false ∨ s.scan.running = false ∨ bandH s ≤ row ∨ 5 < slotsTo s
      row ∨ liveIn s band.val (if s.scan.slot < row then s.scan.epoch else s.scan.epoch + 1) = false)) ∧
    (∃ (band : Fin 4) (row : Nat) (s : State), scans s = true ∧ (bandScan s band.val).preps.any (fun p => decide (p.row =
      row)) = true) :=
  ⟨⟨1000, up, by decide +kernel⟩,
   ⟨1000, (inOp .boot up), by decide +kernel⟩,
   ⟨scanning, by decide +kernel⟩,
   ⟨up, by decide +kernel⟩,
   ⟨0, 5, (setBandScan 0 { BandScan.initial with state := 0 } latched), (takeLatch 0 run), by decide +kernel⟩,
   ⟨0, 5, up, by decide +kernel⟩,
   ⟨0, 5, (setBandScan 0
     { BandScan.initial with preps := [{ row := 5, epoch := 0, fetched := 0, y8 := [], ovls := [], sides := [], hatch := [], tags := [], left := false, right := false }] }
     scanning), by decide +kernel⟩⟩

theorem witness_RequestsWaitForTheirFrame :
    (∃ (s : State) (index : BitVec 16) (sub : BitVec 8), look s.scan.tableBusy (key index.toNat sub.toNat) = some 2) ∧
    (∃ (t : Nat) (s : State) (h : Hdr) (v : BitVec 8), writeTaken (s.at t) h Ob.SCAN_SHOW_REQ v.toNat = true ∧ s.scan.pend
      = none ∧ v.toNat % 16 ≤ 6 ∧ (v.toNat % 16 = 0 ∨ plateOf s (v.toNat % 16 - 1) = 2) ∧ (s.scan.epoch + 1 < oget s
      Ob.SCAN_SHOW_EPOCH ∨ bit v.toNat 7 = true) ∧ oget s Ob.SCAN_SHOW_EPOCH ≤ s.scan.epoch + oget s Ob.TRX_EPOCH_AHEAD) ∧
    (∃ (t : Nat) (s : State) (h : Hdr) (v : BitVec 8), writeTaken (s.at t) h Ob.SCAN_SHOW_REQ v.toNat = true ∧ v.toNat %
      16 ≤ 6 ∧ v.toNat % 16 ≠ 0 ∧ plateOf s (v.toNat % 16 - 1) ≠ 2) ∧
    (∃ (t : Nat) (s : State) (h : Hdr) (v : BitVec 8), writeTaken (s.at t) h Ob.SCAN_SHOW_REQ v.toNat = true ∧ v.toNat %
      16 ≤ 6 ∧ v.toNat % 16 = 0 ∧ s.scan.pend.isSome = true) ∧
    (∃ (t : Nat) (s : State) (h : Hdr) (v : BitVec 8), writeTaken (s.at t) h Ob.FRS_REG_REQ v.toNat = true ∧
      s.scan.pendReg = none ∧ bit v.toNat 0 = true ∧ (s.scan.epoch + 1 < oget s Ob.FRS_REG_EPOCH ∨ bit v.toNat 7 = true) ∧
      oget s Ob.FRS_REG_EPOCH ≤ s.scan.epoch + oget s Ob.TRX_EPOCH_AHEAD ∧ regionErr (counted (s.at t) h) (stagedRegions
      (counted (s.at t) h)) = none ∧ capOk (oset Ob.FRS_REG_ERRIDX 0xFFFF (counted (s.at t) h)) (stagedRegions (oset
      Ob.FRS_REG_ERRIDX 0xFFFF (counted (s.at t) h))) = true) :=
  ⟨⟨{ up with scan := { up.scan with tableBusy := [(key 0x3010 1, 2)] } }, 0x3010, 1, by decide +kernel⟩,
   ⟨1000, (oset Ob.SCAN_SHOW_EPOCH 2 up), hd, 0, by decide +kernel⟩,
   ⟨1000, up, hd, 1, by decide +kernel⟩,
   ⟨1000, { up with scan := { up.scan with pend := some (0, 9, false) } }, hd, 0, by decide +kernel⟩,
   ⟨1000, up, hd, 0x81, by decide +kernel⟩⟩

theorem witness_DriverLinksTrain :
    (∃ (band : Fin 4) (s : State) (header : BitVec 64) (records : List (BitVec 64)), headOk 0xA (BitVec.toNat header) =
      true ∧ (dlkOf s band.val).state = .detect ∧ (List.range (rget s Ob.DLK_NDRV)).all (fun j => (((statusRecs
      records).find? (fun p => decide (p.2.drv = j))).map (fun p => decide (1 ≤ p.2.lstate))).getD false) = true) ∧
    (∃ (band : Fin 4) (s : State) (header : BitVec 64) (records : List (BitVec 64)), headOk 0xA (BitVec.toNat header) =
      true ∧ (dlkOf s band.val).state = .negotiate ∧ (statusRecs records).length ≠ rget s Ob.DLK_NDRV) ∧
    (∃ (band : Fin 4) (s : State) (header : BitVec 64) (records : List (BitVec 64)), headOk 0xA (BitVec.toNat header) =
      true ∧ (dlkOf s band.val).state = .negotiate ∧ (statusRecs records).length = rget s Ob.DLK_NDRV ∧ (List.range (rget
      s Ob.DLK_NDRV)).all (fun j => (statusRecs records).any (fun p => decide (p.2.drv = j))) = true ∧ (statusRecs
      records).any (fun p => decide (p.2.nchMax < rget s Ob.DLK_NCH)) = true) ∧
    (∃ (band : Fin 4) (s : State) (header : BitVec 64) (records : List (BitVec 64)), headOk 0xA (BitVec.toNat header) =
      true ∧ (dlkOf s band.val).state = .negotiate ∧ (statusRecs records).length = rget s Ob.DLK_NDRV ∧ (List.range (rget
      s Ob.DLK_NDRV)).all (fun j => (statusRecs records).any (fun p => decide (p.2.drv = j))) = true ∧ (statusRecs
      records).all (fun p => decide (rget s Ob.DLK_RATE ≤ p.2.maxRate) && decide (rget s Ob.DLK_CHAINRATE ≤ p.2.chainMax)
      && decide (rget s Ob.DLK_NCH ≤ p.2.nchMax) && decide (bandH s ≤ p.2.rstore)) = true ∧ (dlkOf s band.val).rate < rget
      s Ob.DLK_RATE) ∧
    (∃ (band : Fin 4) (s : State), (dlkOf s band.val).state = .detect) ∧
    (∃ (band : Fin 4) (s : State), (dlkOf s band.val).state = .step ∧ (dlkOf s band.val).chainStep = false ∧ (dlkOf s
      band.val).rate + 1 < rget s Ob.DLK_RATE) ∧
    (∃ (band : Fin 4) (s : State), (dlkOf s band.val).state = .step ∧ (dlkOf s band.val).chainStep = true ∧ rget s
      Ob.DLK_RATE ≤ (dlkOf s band.val).rate ∧ rget s Ob.DLK_CHAINRATE ≤ (dlkOf s band.val).chain + 1) ∧
    (∃ (band : Fin 4) (s : State), (dlkOf s band.val).state = .step) ∧
    (∃ (band : Fin 4) (s : State), (dlkOf s band.val).state = .failed ∧ s.pins.pen3 = true ∧ onPath s band.val = false) ∧
    (∃ (t : Nat) (band : Fin 4) (s : State) (h : Hdr) (v : BitVec 8), writeTaken (s.at t) h Ob.DLK_RETRAIN v.toNat = true
      ∧ s.pins.pen3 = true ∧ band.val < bandCount s ∧ bit v.toNat band.val = true) ∧
    (∃ (t : Nat) (s : State) (h : Hdr) (v : BitVec 8), writeTaken (s.at t) h Ob.DLK_RETRAIN v.toNat = true ∧ s.pins.pen3 =
      false) :=
  ⟨⟨0, oneDriver, (BitVec.ofNat 64 (dlkHeader 0xA 0)), [0x001af00870007251], by decide +kernel⟩,
   ⟨0, (setDlk 0 { DlkBand.initial with state := .negotiate } up), (BitVec.ofNat 64 (dlkHeader 0xA 0)), [],
     by decide +kernel⟩,
   ⟨0, (setDlk 0 { DlkBand.initial with state := .negotiate }
     ({ up with scan := { up.scan with inForce := [(Ob.DLK_NDRV, 1), (Ob.DLK_NCH, 1024)] } })), (BitVec.ofNat 64
     (dlkHeader 0xA 0)), [0x001af00870007251], by decide +kernel⟩,
   ⟨0, (setDlk 0 { DlkBand.initial with state := .negotiate }
     ({ up with scan := { up.scan with inForce := [(Ob.SCAN_HEIGHT, 64), (Ob.DLK_NDRV, 1), (Ob.DLK_NCH, 64), (Ob.DLK_RATE, 2), (Ob.DLK_CHAINRATE, 0)] } })),
     (BitVec.ofNat 64 (dlkHeader 0xA 0)), [0x001af00870007251], by decide +kernel⟩,
   ⟨0, (setDlk 0 { DlkBand.initial with state := .detect } up), by decide +kernel⟩,
   ⟨0, (setDlk 0 { DlkBand.initial with state := .step }
     ({ up with scan := { up.scan with inForce := [(Ob.DLK_RATE, 3)] } })), by decide +kernel⟩,
   ⟨0, (setDlk 0 { DlkBand.initial with state := .step, chainStep := true, rate := 6 } up), by decide +kernel⟩,
   ⟨0, (setDlk 0 { DlkBand.initial with state := .step } up), by decide +kernel⟩,
   ⟨0, (setDlk 0 { DlkBand.initial with state := .failed } up), by decide +kernel⟩,
   ⟨1000, 0, up, hd, 1, by decide +kernel⟩,
   ⟨1000, { up with pins := { up.pins with pen3 := false } }, hd, 1, by decide +kernel⟩⟩

theorem witness_DriverLinksCarry :
    (∃ (band : Fin 4) (s : State) (header : BitVec 64) (x : _), linkSends s band.val = true ∧ headOk 9 header.toNat = true
      ∧ reportedSlot s band.val (field header.toNat 46 14) (field header.toNat 30 16) = some x) ∧
    (∃ (band : Fin 4) (s : State) (header : BitVec 64), (linkSends s band.val = false ∨ headOk 9 header.toNat = false)) ∧
    (∃ (t : Nat) (band : Fin 4) (s : State) (h : Hdr) (v : BitVec 32), writeTaken (s.at t) h (Ob.DLK_DRVREG_WRITE +
      band.val) v.toNat = true ∧ s.boot.op = .setup ∧ linkSends s band.val = true) ∧
    (∃ (t : Nat) (band : Fin 4) (s : State) (h : Hdr) (v : BitVec 32), writeTaken (s.at t) h (Ob.DLK_DRVREG_WRITE +
      band.val) v.toNat = true ∧ (s.boot.op ≠ .setup ∨ linkSends s band.val = false)) ∧
    (∃ (band : Fin 4) (s : State) (row : Nat) (pass : BitVec 48), mayDeliver s band.val row pass.toNat = true) ∧
    (∃ (band : Fin 4) (s : State) (row : Nat) (pass : BitVec 48), mayDeliver s band.val row pass.toNat = false) :=
  ⟨⟨0, awaiting, (BitVec.ofNat 64 (dlkHeader 9 (3 * 2 ^ 30))), sentSlot, by decide +kernel⟩,
   ⟨0, up, 0, by decide +kernel⟩,
   ⟨1000, 0, (setDlk 0 { DlkBand.initial with state := .ready } up), hd, 0x00FFFFFF, by decide +kernel⟩,
   ⟨1000, 0, up, hd, 0x00FFFFFF, by decide +kernel⟩,
   ⟨0, delivering, 0, 8, by decide +kernel⟩,
   ⟨0, up, 0, 0, by decide +kernel⟩⟩

theorem witness_RowsAreUpdatedAndChecked :
    (∃ (band : Fin 4) (row : Nat) (s : State), updateDue s band.val row = true) ∧
    (∃ (band : Fin 4) (row : Nat) (s : State), updateDue s band.val row = false) ∧
    (∃ (band : Fin 4) (row : Nat) (s : State) (codes : List (Fin 7680 × Fin 6 × BitVec 10)) (x : _) (l : _), (bandScan s
      band.val).hist.find? (fun z => decide (z.row = row)) = some x ∧ latchFor s x.epoch = some l ∧ shadowDiffs s l
      band.val x codes = []) ∧
    (∃ (band : Fin 4) (row : Nat) (s : State) (codes : List (Fin 7680 × Fin 6 × BitVec 10)) (x : _) (l : _), (bandScan s
      band.val).hist.find? (fun z => decide (z.row = row)) = some x ∧ latchFor s x.epoch = some l ∧ shadowDiffs s l
      band.val x codes ≠ [] ∧ band.val < bandCount s) :=
  ⟨⟨0, 0, (oset Ob.MDL_ENABLE 1 scanning), by decide +kernel⟩,
   ⟨0, 0, up, by decide +kernel⟩,
   ⟨0, 3, (shadowed 1), [(40, 0, 1)], sentSlot, (takeLatch 0 (classed 1)), by decide +kernel⟩,
   ⟨0, 3, (shadowed 2), [(40, 0, 1)], sentSlot, (takeLatch 0 (classed 2)), by decide +kernel⟩⟩

theorem witness_LakeJobsFollowTheirCommands :
    (∃ (t : Nat) (h : Hdr) (s : State), writeTaken (s.at t) h Ob.LAKE_JOB_CMD 1 = true ∧ lakeHasBank s = true ∧
      [JobState.idle, .done, .cancelled, .decodeErr, .fault].contains (slotOf s 3).state = true ∧ jobOk s = true ∧ (jobCtx
      s).finished = false ∧ (jobCtx s).slot / 8 ≤ oget s Ob.LAKE_JOB_CODELEN) ∧
    (∃ (t : Nat) (h : Hdr) (s : State), writeTaken (s.at t) h Ob.LAKE_JOB_CMD 1 = true ∧ (lakeHasBank s = false ∨ jobOk s
      = false)) ∧
    (∃ (t : Nat) (h : Hdr) (s : State), writeTaken (s.at t) h Ob.LAKE_JOB_CMD 2 = true ∧ lakeHasBank s = true ∧
      [JobState.outFull, .inEmpty, .noFit, .suspended].contains (slotOf s 3).state = true ∧ strideOk (slotOf s 3).ctx.elem
      (8 * ((slotOf s 3).ctx.wblk + 1)) (slotOf s 3).stride = true ∧ jobPlaced (slotOf s 3).ctx.dir (slotOf s 3).rastAddr
      (rastExtent (slotOf s 3).ctx.elem (8 * ((slotOf s 3).ctx.wblk + 1)) (4 * ((slotOf s 3).ctx.hblk + 1)) (slotOf s
      3).stride) (oget s Ob.LAKE_JOB_CODEADDR) (oget s Ob.LAKE_JOB_CODELEN) = true ∧ (slotOf s 3).ctx.finished = false ∧
      (slotOf s 3).ctx.slot / 8 ≤ oget s Ob.LAKE_JOB_CODELEN) ∧
    (∃ (t : Nat) (h : Hdr) (s : State), writeTaken (s.at t) h Ob.LAKE_JOB_CMD 3 = true ∧ lakeHasBank s = true ∧ (slotOf s
      3).state = .escape ∧ oget s Ob.LAKE_JOB_RAWADDR + 32 * (elemFmt (slotOf s 3).ctx.elem).bytes ≤ dramTop ∧ poisonIn s
      (oget s Ob.LAKE_JOB_RAWADDR) (oget s Ob.LAKE_JOB_RAWADDR + 32 * (elemFmt (slotOf s 3).ctx.elem).bytes) ++ rastShut s
      (slotOf s 3) = []) ∧
    (∃ (t : Nat) (h : Hdr) (s : State), writeTaken (s.at t) h Ob.LAKE_JOB_CMD 3 = true ∧ lakeHasBank s = true ∧ (slotOf s
      3).state = .escape ∧ oget s Ob.LAKE_JOB_RAWADDR + 32 * (elemFmt (slotOf s 3).ctx.elem).bytes ≤ dramTop ∧ poisonIn s
      (oget s Ob.LAKE_JOB_RAWADDR) (oget s Ob.LAKE_JOB_RAWADDR + 32 * (elemFmt (slotOf s 3).ctx.elem).bytes) ++ rastShut s
      (slotOf s 3) ≠ []) ∧
    (∃ (t : Nat) (h : Hdr) (s : State), writeTaken (s.at t) h Ob.LAKE_JOB_CMD 4 = true ∧ (slotOf s 3).state = .running) ∧
    (∃ (t : Nat) (h : Hdr) (s : State), writeTaken (s.at t) h Ob.LAKE_JOB_CMD 4 = true ∧ (slotOf s 3).state = .waiting) ∧
    (∃ (t : Nat) (h : Hdr) (s : State), writeTaken (s.at t) h Ob.LAKE_JOB_CMD 5 = true ∧ (slotOf s 3).state = .running) ∧
    (∃ (t : Nat) (h : Hdr) (s : State), writeTaken (s.at t) h Ob.LAKE_JOB_CMD 5 = true ∧ (slotOf s 3).state ≠ .running ∧
      (slotOf s 3).state ≠ .idle) ∧
    (∃ (t : Nat) (h : Hdr) (s : State) (ctx : BitVec 512), taken (s.at t) h 4 = true ∧ 2 ≤ (portOf s h.port).level ∧
      [JobState.idle, .done, .cancelled, .decodeErr, .fault].contains (slotOf s 3).state = true ∧ ctxOk ctx.toNat = true) ∧
    (∃ (t : Nat) (h : Hdr) (s : State) (ctx : BitVec 512), taken (s.at t) h 4 = true ∧ 2 ≤ (portOf s h.port).level ∧
      [JobState.idle, .done, .cancelled, .decodeErr, .fault].contains (slotOf s 3).state = true ∧ ctxOk ctx.toNat = false) :=
  ⟨⟨1000, hd, jobSet, by decide +kernel⟩,
   ⟨1000, hd, up, by decide +kernel⟩,
   ⟨1000, hd, (setSlot 3 { Slot.idle with state := .outFull, rastAddr := 0x68000000, stride := 32, ctx := smallJob }
     jobSet), by decide +kernel⟩,
   ⟨1000, hd, (setSlot 3 { Slot.idle with state := .escape, rastAddr := 0x68000000, stride := 32, ctx := smallJob }
     jobSet), by decide +kernel⟩,
   ⟨1000, hd,
     { setSlot 3 { Slot.idle with state := .escape, rastAddr := 0x68000000, stride := 32, ctx := smallJob } jobSet with poison := [(0x68002000 / 8, true)] },
     by decide +kernel⟩,
   ⟨1000, hd, (setSlot 3 { Slot.idle with state := .running } up), by decide +kernel⟩,
   ⟨1000, hd, (setSlot 3 { Slot.idle with state := .waiting } up), by decide +kernel⟩,
   ⟨1000, hd, (setSlot 3 { Slot.idle with state := .running } up), by decide +kernel⟩,
   ⟨1000, hd, (setSlot 3 { Slot.idle with state := .suspended } up), by decide +kernel⟩,
   ⟨1000, hd, up, 0, by decide +kernel⟩,
   ⟨1000, hd, up, (BitVec.allOnes 512), by decide +kernel⟩⟩

theorem witness_LakeEngineRunsBlocks :
    (∃ (n : Nat) (s : State) (bits : _) (rec_ : _), lakeRuns s = true ∧ s.lake.current = some n ∧ s.lake.quantum ≠ 0 ∧
      (slotOf s n).state = .running ∧ (slotOf s n).ctx.dir = 0 ∧ rastBad s (slotOf s n) = [] ∧ edgePoison s ((slotOf s
      n).codeAddr + (slotOf s n).codePos) ((slotOf s n).ctx.slot / 8) = [] ∧ encodeBlock (elemFmt (slotOf s n).ctx.elem)
      (slotOf s n).ctx.slot (decide ((slotOf s n).ctx.mode = 0)) (slotOf s n).ctx.qmax (slotOf s n).ctx.hist (rastBlock s
      (slotOf s n)) = some (bits, rec_)) ∧
    (∃ (n : Nat) (s : State), lakeRuns s = true ∧ s.lake.current = some n ∧ s.lake.quantum ≠ 0 ∧ (slotOf s n).state =
      .running ∧ (slotOf s n).ctx.dir = 0 ∧ rastBad s (slotOf s n) = [] ∧ edgePoison s ((slotOf s n).codeAddr + (slotOf s
      n).codePos) ((slotOf s n).ctx.slot / 8) = [] ∧ encodeBlock (elemFmt (slotOf s n).ctx.elem) (slotOf s n).ctx.slot
      (decide ((slotOf s n).ctx.mode = 0)) (slotOf s n).ctx.qmax (slotOf s n).ctx.hist (rastBlock s (slotOf s n)) = none) ∧
    (∃ (n : Nat) (s : State), lakeRuns s = true ∧ s.lake.current = some n ∧ s.lake.quantum ≠ 0 ∧ (slotOf s n).state =
      .running ∧ (slotOf s n).ctx.dir = 0 ∧ rastBad s (slotOf s n) ≠ []) ∧
    (∃ (n : Nat) (s : State) (r : _) (blk : _), lakeRuns s = true ∧ s.lake.current = some n ∧ s.lake.quantum ≠ 0 ∧ (slotOf
      s n).state = .running ∧ (slotOf s n).ctx.dir ≠ 0 ∧ poisonIn s ((slotOf s n).codeAddr + (slotOf s n).codePos)
      ((slotOf s n).codeAddr + (slotOf s n).codePos + (slotOf s n).ctx.slot / 8) = [] ∧ decodeBlock (elemFmt (slotOf s
      n).ctx.elem) (slotOf s n).ctx.slot (decide ((slotOf s n).ctx.mode = 0)) false (slotOf s n).ctx.hist (memBE s
      ((slotOf s n).codeAddr + (slotOf s n).codePos) ((slotOf s n).ctx.slot / 8)) = r ∧ r = .block blk ∧ rastShut s
      (slotOf s n) = []) ∧
    (∃ (n : Nat) (s : State) (r : _), lakeRuns s = true ∧ s.lake.current = some n ∧ s.lake.quantum ≠ 0 ∧ (slotOf s
      n).state = .running ∧ (slotOf s n).ctx.dir ≠ 0 ∧ poisonIn s ((slotOf s n).codeAddr + (slotOf s n).codePos) ((slotOf
      s n).codeAddr + (slotOf s n).codePos + (slotOf s n).ctx.slot / 8) = [] ∧ decodeBlock (elemFmt (slotOf s n).ctx.elem)
      (slotOf s n).ctx.slot (decide ((slotOf s n).ctx.mode = 0)) false (slotOf s n).ctx.hist (memBE s ((slotOf s
      n).codeAddr + (slotOf s n).codePos) ((slotOf s n).ctx.slot / 8)) = r ∧ r = .escape) ∧
    (∃ (n : Nat) (s : State) (r : _) (k : _), lakeRuns s = true ∧ s.lake.current = some n ∧ s.lake.quantum ≠ 0 ∧ (slotOf s
      n).state = .running ∧ (slotOf s n).ctx.dir ≠ 0 ∧ poisonIn s ((slotOf s n).codeAddr + (slotOf s n).codePos) ((slotOf
      s n).codeAddr + (slotOf s n).codePos + (slotOf s n).ctx.slot / 8) = [] ∧ decodeBlock (elemFmt (slotOf s n).ctx.elem)
      (slotOf s n).ctx.slot (decide ((slotOf s n).ctx.mode = 0)) false (slotOf s n).ctx.hist (memBE s ((slotOf s
      n).codeAddr + (slotOf s n).codePos) ((slotOf s n).ctx.slot / 8)) = r ∧ r = .fail k) ∧
    (∃ (n : Nat) (s : State), lakeRuns s = true ∧ s.lake.current = some n ∧ s.lake.quantum = 0) ∧
    (∃ (n : Nat) (s : State) (m : _), lakeRuns s = true ∧ s.lake.current = some n ∧ s.lake.quantum = 0 ∧ nextSlot s n =
      some m) ∧
    (∃ (n : Nat) (s : State), lakeRuns s = true ∧ s.lake.current = some n ∧ s.lake.quantum ≠ 0) :=
  ⟨⟨3, encoding, 0, (zeros 32 2), by decide +kernel⟩,
   ⟨3, noFit, by decide +kernel⟩,
   ⟨3, { encoding with poison := [(0x68000000 / 8, true)] }, by decide +kernel⟩,
   ⟨3, decoding, (.block (zeros 32 2)), (zeros 32 2), by decide +kernel⟩,
   ⟨3, decodingEscape, .escape, by decide +kernel⟩,
   ⟨3, decodingBad, (.fail 2), 2, by decide +kernel⟩,
   ⟨3, { encoding with lake := { encoding.lake with quantum := 0 } }, by decide +kernel⟩,
   ⟨3, twoSlots, 2, by decide +kernel⟩,
   ⟨3, encoding, by decide +kernel⟩⟩

theorem witness_FrameStoreIsMaintained :
    (∃ (s : State), scrubRuns s = true ∧ poisoned s s.fst.scrubAddr = false) ∧
    (∃ (s : State), scrubRuns s = true ∧ poisoned s s.fst.scrubAddr = true) ∧
    (∃ (s : State), scrubRuns s = false) ∧
    (∃ (s : State) (v0 : Int) (v1 : Int), s.boot.stage = .started ∧ -360 ≤ v0 ∧ v0 ≤ 1240 ∧ -360 ≤ v1 ∧ v1 ≤ 1240) ∧
    (∃ (s : State), s.boot.stage = .started ∧ s.boot.op ≠ .boot) ∧
    (∃ (s : State) (d : _) (r : _) (rest : _), s.fst.copying = (d, r) :: rest) ∧
    (∃ (t : Nat) (s : State) (die : Fin 2) (e : _), s.boot.stage = .started ∧ s.boot.op ≠ .boot ∧ look s.fst.parityAt
      die.val = some e ∧ max s.now t ≤ e + 10000) ∧
    (∃ (s : State) (die : Fin 2), s.boot.stage = .started ∧ s.boot.op ≠ .boot ∧ look s.fst.parityAt die.val = none) ∧
    (∃ (s : State) (w : Nat), 8 * w < dramTop ∧ s.boot.stage = .started ∧ repaired (8 * w) = true ∧ holdsWord s w ||
      s.fst.held.any (fun e => decide (e.1 / 8 = w)) = false) ∧
    (∃ (s : State) (w : Nat), 8 * w < dramTop ∧ s.boot.stage = .started ∧ repaired (8 * w) = true ∧ holdsWord s w ||
      s.fst.held.any (fun e => decide (e.1 / 8 = w)) = true) :=
  ⟨⟨up, by decide +kernel⟩,
   ⟨{ up with poison := [(0, true)] }, by decide +kernel⟩,
   ⟨State.reset, by decide +kernel⟩,
   ⟨up, (-360), 1240, by decide +kernel⟩,
   ⟨up, by decide +kernel⟩,
   ⟨{ up with fst := { up.fst with copying := [(0, 5)] } }, 0, 5, [], by decide +kernel⟩,
   ⟨10000, { up with fst := { up.fst with parityAt := [(1, 0)] } }, 1, 0, by decide +kernel⟩,
   ⟨up, 1, by decide +kernel⟩,
   ⟨up, 0x9800000, by decide +kernel⟩,
   ⟨{ up with fst := { up.fst with held := [(8 * 0x9800000, [1, 2])] } }, 0x9800000, by decide +kernel⟩⟩

theorem witness_BanksAreOwnedPeekedAndScrubbed :
    (∃ (t : Nat) (bank : Fin 16) (s : State) (h : Hdr) (v : BitVec 8), writeTaken (s.at t) h (Ob.BNK_OWNER + bank.val)
      v.toNat = true ∧ v.toNat % 16 ≤ 11 ∧ handoverAllowed s bank.val = true ∧ (bankOf s bank.val).phase = .stable) ∧
    (∃ (t : Nat) (bank : Fin 16) (s : State) (h : Hdr) (v : BitVec 8), writeTaken (s.at t) h (Ob.BNK_OWNER + bank.val)
      v.toNat = true ∧ v.toNat % 16 ≤ 11 ∧ (handoverAllowed s bank.val = false ∨ (bankOf s bank.val).phase ≠ .stable)) ∧
    (∃ (bank : Fin 16) (s : State), (bankOf s bank.val).phase = .pending ∧ (bankOf s bank.val).clear = true) ∧
    (∃ (bank : Fin 16) (s : State), (bankOf s bank.val).phase = .pending ∧ (bankOf s bank.val).clear = false) ∧
    (∃ (bank : Fin 16) (s : State), (bankOf s bank.val).phase = .pending) ∧
    (∃ (bank : Fin 16) (s : State), (bankOf s bank.val).phase = .clearing) ∧
    (∃ (bank : Fin 16) (s : State), (bankOf s bank.val).phase = .stable) ∧
    (∃ (t : Nat) (s : State) (h : Hdr) (v : BitVec 64), writeTaken (s.at t) h Ob.BNK_PEEK_DATA v.toNat = true ∧ 13 ≤
      peekBank s) ∧
    (∃ (t : Nat) (s : State) (h : Hdr) (v : BitVec 64), writeTaken (s.at t) h Ob.BNK_PEEK_DATA v.toNat = true ∧ peekBank s
      < 13) ∧
    (∃ (t : Nat) (s : State) (h : Hdr), taken (s.at t) h 0 = true ∧ readLevel Ob.BNK_PEEK_DATA ≤ (portOf s h.port).level ∧
      (look s.bnk.poison (peekWord s)).getD false = false) ∧
    (∃ (t : Nat) (s : State) (h : Hdr), taken (s.at t) h 0 = true ∧ readLevel Ob.BNK_PEEK_DATA ≤ (portOf s h.port).level ∧
      (look s.bnk.poison (peekWord s)).getD false = true) ∧
    (∃ (s : State), s.boot.stage = .started ∧ (look s.bnk.poison s.bnk.scrub).getD false = false) ∧
    (∃ (s : State), s.boot.stage = .started) ∧
    (∃ (s : State), s.boot.stage ≠ .started) :=
  ⟨⟨1000, 2, up, hd, 0x83, by decide +kernel⟩,
   ⟨1000, 2, (setBank 2 { Bank.initial 2 with phase := .pending, next := 3, clear := true } up), hd, 0x83,
     by decide +kernel⟩,
   ⟨2, (setBank 2 { Bank.initial 2 with phase := .pending, next := 3, clear := true } up), by decide +kernel⟩,
   ⟨2, (setBank 2 { Bank.initial 2 with phase := .pending, next := 3, clear := false } up), by decide +kernel⟩,
   ⟨2, (setBank 2 { Bank.initial 2 with phase := .pending, next := 3, clear := true } up), by decide +kernel⟩,
   ⟨2, (setBank 2 { Bank.initial 2 with phase := .clearing, next := 3, clear := true } up), by decide +kernel⟩,
   ⟨2, up, by decide +kernel⟩,
   ⟨1000, (oset Ob.BNK_PEEK_ADDR 0xD0000000 up), hd, 5, by decide +kernel⟩,
   ⟨1000, up, hd, 5, by decide +kernel⟩,
   ⟨1000, up, hd, by decide +kernel⟩,
   ⟨1000, { up with bnk := { up.bnk with poison := [(0, true)] } }, hd, by decide +kernel⟩,
   ⟨up, by decide +kernel⟩,
   ⟨{ up with bnk := { up.bnk with scrub := 2 ^ 23 - 1 } }, by decide +kernel⟩,
   ⟨State.reset, by decide +kernel⟩⟩

theorem witness_RailsFollowTheirRequests :
    (∃ (t : Nat) (band : Fin 4) (s : State) (h : Hdr) (bands : BitVec 4) (v : _), s.boot.op = .setup ∧ v = oget s
      Ob.PNL_RAILREQ ||| bands.toNat ∧ writeTaken (s.at t) h Ob.PNL_RAILREQ v = true ∧ bit v band.val = true ∧ (railOf s
      band.val).state = .off ∧ (∀ c < 4, bit v c = true → c ≠ band.val → railUp s c = true) ∧ railErr s band.val = 0) ∧
    (∃ (t : Nat) (band : Fin 4) (s : State) (h : Hdr) (bands : BitVec 4) (v : _), s.boot.op = .setup ∧ v = oget s
      Ob.PNL_RAILREQ ||| bands.toNat ∧ writeTaken (s.at t) h Ob.PNL_RAILREQ v = true ∧ bit v band.val = true ∧ (railOf s
      band.val).state = .off ∧ (∀ c < 4, bit v c = true → c ≠ band.val → railUp s c = true) ∧ railErr s band.val ≠ 0) ∧
    (∃ (t : Nat) (band : Fin 4) (s : State) (h : Hdr) (bands : BitVec 4) (v : _), s.boot.op = .setup ∧ v = oget s
      Ob.PNL_RAILREQ &&& (15 - bands.toNat) ∧ writeTaken (s.at t) h Ob.PNL_RAILREQ v = true ∧ bit bands.toNat band.val =
      true ∧ band.val < bandCount s ∧ (railOf s band.val).state = .on ∧ (railOf s band.val).fallDue = none ∧ (∀ c < 4, bit
      v c = true → railUp s c = true)) ∧
    (∃ (t : Nat) (band : Fin 4) (s : State), s.boot.op = .setup ∧ autoBands (s.at t) = [band.val] ∧ (railOf s
      band.val).state = .off ∧ railErr s band.val = 0) ∧
    (∃ (t : Nat) (band : Fin 4) (s : State), s.boot.op = .setup ∧ autoBands (s.at t) = [band.val] ∧ (railOf s
      band.val).state = .off ∧ railErr s band.val ≠ 0) :=
  ⟨⟨1000, 0, railReady, hd, 1, 1, by decide +kernel⟩,
   ⟨1000, 0, up, hd, 1, 1, by decide +kernel⟩,
   ⟨1000, 0, (oset Ob.PNL_RAILREQ 1 (setRail 0 { Rail.initial with state := .on } up)), hd, 1, 0, by decide +kernel⟩,
   ⟨1000, 0, { railReady with pnl := { (railReady).pnl with auto := 0x10 } }, by decide +kernel⟩,
   ⟨1000, 0, (oset Ob.PNL_VRES_MV 0 ({ railReady with pnl := { (railReady).pnl with auto := 0x10 } })), by decide +kernel⟩⟩

theorem witness_RailsRiseAndFall :
    (∃ (t : Nat) (band : Fin 4) (s : State), (railOf s band.val).due = true ∧ (railOf s band.val).at_ ≤ max s.now t ∧
      s.boot.op = .setup ∧ s.pins.pen3 = true ∧ ((railOf s band.val).state = .off ∨ (railOf s band.val).state = .cut)) ∧
    (∃ (s : State), (s.boot.op ≠ .setup ∨ s.pins.pen3 = false)) ∧
    (∃ (t : Nat) (band : Fin 4) (s : State), (railOf s band.val).state = .opening ∧ (railOf s band.val).fallDue = none ∧
      (railOf s band.val).at_ ≤ max s.now t) ∧
    (∃ (t : Nat) (band : Fin 4) (s : State), (railOf s band.val).state = .rising ∧ (railOf s band.val).fallDue = none ∧
      (railOf s band.val).at_ ≤ max s.now t) ∧
    (∃ (t : Nat) (band : Fin 4) (s : State), (railOf s band.val).state = .falling ∧ (railOf s band.val).at_ ≤ max s.now t) ∧
    (∃ (t : Nat) (band : Fin 4) (s : State) (d : _), (railOf s band.val).fallDue = some d ∧ railUp s band.val = true ∧
      (railOf s band.val).at_ ≤ max s.now t) ∧
    (∃ (t : Nat) (band : Fin 4) (s : State), (railOf s band.val).state = .falling ∧ (railOf s band.val).fallDue = none ∧
      (railOf s band.val).at_ ≤ max s.now t) ∧
    (∃ (t : Nat) (band : Fin 4) (s : State), max s.now t < (railOf s band.val).at_) :=
  ⟨⟨1000, 0, (setRail 0 { Rail.initial with due := true } up), by decide +kernel⟩,
   ⟨run, by decide +kernel⟩,
   ⟨1000, 0, (setRail 0 { Rail.initial with state := .opening } up), by decide +kernel⟩,
   ⟨1000, 0, (setRail 0 { Rail.initial with state := .rising } up), by decide +kernel⟩,
   ⟨1000, 0, (setRail 0 { Rail.initial with state := .falling } up), by decide +kernel⟩,
   ⟨1000, 0, (setPads 0 { padsOf up 0 with pven := true } (setRail 0 { Rail.initial with state := .on, fallDue := some 3 }
     up)), 3, by decide +kernel⟩,
   ⟨1000, 0, (setPads 0 { padsOf up 0 with pven := true } (setRail 0 { Rail.initial with state := .falling } up)),
     by decide +kernel⟩,
   ⟨1000, 0, (setRail 0 { Rail.initial with state := .opening, at_ := 2000 } up), by decide +kernel⟩⟩

theorem witness_LampblackEnds :
    (∃ (s : State) (source : PfailSrc), s.boot.stage = .started ∧ watched s source = true ∧ s.boot.pending = none ∧
      s.pnl.path = none) ∧
    (∃ (s : State) (source : PfailSrc), watched s source = false) ∧
    (∃ (t : Nat) (s : State) (p : _), s.pnl.path = some p ∧ pathOver (s.at t) p = true ∧ s.boot.pending = none) ∧
    (∃ (t : Nat) (s : State) (p : _) (r : _), s.pnl.path = some p ∧ pathOver (s.at t) p = true ∧ s.boot.pending = some r ∧
      s.boot.stage = .started) ∧
    (∃ (t : Nat) (s : State) (b : _) (p : _), s.pnl.path = none ∧ s.pnl.cutPath.find? (fun e => pathOver (s.at t) e.2) =
      some (b, p)) ∧
    (∃ (t : Nat) (s : State) (p : _), s.pnl.path = some p ∧ pathOver (s.at t) p = false) ∧
    (∃ (s : State), s.pins.vresOnly = true) ∧
    (∃ (s : State), s.pins.vresOnly = false) :=
  ⟨⟨up, .vcore, by decide +kernel⟩,
   ⟨State.reset, .vcore, by decide +kernel⟩,
   ⟨1000000, { up with pnl := { up.pnl with path := some { bands := 1, causes := 1, from_ := 0 } } },
     { bands := 1, causes := 1, from_ := 0 }, by decide +kernel⟩,
   ⟨1000000,
     { up with pnl := { up.pnl with path := some { bands := 1, causes := 1, from_ := 0 } }, boot := { up.boot with pending := some .pin } },
     { bands := 1, causes := 1, from_ := 0 }, .pin, by decide +kernel⟩,
   ⟨1000000, { up with pnl := { up.pnl with cutPath := [(0, { bands := 1, causes := 1, from_ := 0 })] } }, 0,
     { bands := 1, causes := 1, from_ := 0 }, by decide +kernel⟩,
   ⟨999999, { up with pnl := { up.pnl with path := some { bands := 1, causes := 1, from_ := 0 } } },
     { bands := 1, causes := 1, from_ := 0 }, by decide +kernel⟩,
   ⟨{ up with pins := { up.pins with vresOnly := true } }, by decide +kernel⟩,
   ⟨up, by decide +kernel⟩⟩

theorem witness_ReserveAndLoopsAreTested :
    (∃ (t : Nat) (s : State) (h : Hdr) (v : BitVec 8), writeTaken (s.at t) h Ob.PNL_VRESTEST v.toNat = true ∧ v ≠ 0 ∧
      s.boot.op = .setup ∧ (∀ b < 4, (railOf s b).state = .off ∨ (railOf s b).state = .cut)) ∧
    (∃ (t : Nat) (s : State) (h : Hdr) (v : BitVec 8) (b : Nat), writeTaken (s.at t) h Ob.PNL_VRESTEST v.toNat = true ∧ v
      ≠ 0 ∧ s.boot.op = .setup ∧ b < 4 ∧ (railOf s b).state ≠ .off ∧ (railOf s b).state ≠ .cut) ∧
    (∃ (t : Nat) (s : State) (h : Hdr) (v : BitVec 8), writeTaken (s.at t) h Ob.PNL_VRESTEST v.toNat = true ∧ (v = 0 ∨
      s.boot.op ≠ .setup)) ∧
    (∃ (s : State), s.pnl.vresTest = true) ∧
    (∃ (s : State), s.pnl.vresTest = false) ∧
    (∃ (s : State), crackRuns s = true) ∧
    (∃ (s : State), crackRuns s = false) ∧
    (∃ (s : State), s.pnl.checkOn = true ∧ s.pnl.loop ≤ 1 ∧ s.pnl.step2 = false) ∧
    (∃ (s : State), s.pnl.checkOn = true ∧ s.pnl.loop ≤ 1 ∧ s.pnl.step2 = true) ∧
    (∃ (s : State), s.pnl.checkOn = true ∧ s.pnl.loop ≤ 1) ∧
    (∃ (s : State), s.pnl.checkOn = false) ∧
    (∃ (t : Nat) (s : State) (h : Hdr) (v : BitVec 8) (n : Nat), writeTaken (s.at t) h Ob.PNL_CRKLEARN v.toNat = true ∧
      s.boot.op = .setup ∧ oflag s Ob.SAF_SEALED = false ∧ n < 2 ∧ bit v.toNat n = true) ∧
    (∃ (t : Nat) (s : State) (h : Hdr) (v : BitVec 8), writeTaken (s.at t) h Ob.PNL_CRKLEARN v.toNat = true ∧ (s.boot.op ≠
      .setup ∨ oflag s Ob.SAF_SEALED = true)) :=
  ⟨⟨1000, up, hd, 1, by decide +kernel⟩,
   ⟨1000, (setRail 3 { Rail.initial with state := .on } up), hd, 1, 3, by decide +kernel⟩,
   ⟨1000, up, hd, 0, by decide +kernel⟩,
   ⟨{ up with pnl := { up.pnl with vresTest := true, vresV := 12000 } }, by decide +kernel⟩,
   ⟨up, by decide +kernel⟩,
   ⟨up, by decide +kernel⟩,
   ⟨State.reset, by decide +kernel⟩,
   ⟨{ up with pnl := { up.pnl with checkOn := true, step2 := false, r1 := 1000 } }, by decide +kernel⟩,
   ⟨{ up with pnl := { up.pnl with checkOn := true, step2 := true, r1 := 1000 } }, by decide +kernel⟩,
   ⟨{ up with pnl := { up.pnl with checkOn := true, step2 := false, r1 := 1000 } }, by decide +kernel⟩,
   ⟨up, by decide +kernel⟩,
   ⟨1000, up, hd, 2, 1, by decide +kernel⟩,
   ⟨1000, run, hd, 1, by decide +kernel⟩⟩

theorem witness_ConversionsAndReportsAreKept :
    (∃ (s : State) (input : Fin 16), adcOn s = true ∧ (input.val < 4 ∨ 8 ≤ input.val) ∧ s.cal.conv = none) ∧
    (∃ (s : State) (input : Fin 16), adcOn s = true ∧ (input.val < 4 ∨ 8 ≤ input.val) ∧ s.cal.conv ≠ none ∧ input.val ∉
      s.cal.sched) ∧
    (∃ (s : State) (input : Fin 16), (adcOn s = false ∨ (4 ≤ input.val ∧ input.val < 8))) ∧
    (∃ (t : Nat) (s : State) (h : Hdr) (v : BitVec 8), writeTaken (s.at t) h Ob.CAL_ADCTRIG v.toNat = true ∧ s.cal.conv =
      none) ∧
    (∃ (t : Nat) (s : State) (h : Hdr) (v : BitVec 8), writeTaken (s.at t) h Ob.CAL_ADCTRIG v.toNat = true ∧ s.cal.conv ≠
      none ∧ (adcOf s v.toNat).queued = false) ∧
    (∃ (t : Nat) (s : State) (h : Hdr) (v : BitVec 8), writeTaken (s.at t) h Ob.CAL_ADCTRIG v.toNat = true ∧ s.cal.conv ≠
      none ∧ (adcOf s v.toNat).queued = true) ∧
    (∃ (s : State) (i : _) (triggered : _), adcOn s = true ∧ s.cal.conv = some (i, triggered) ∧ i < 16) ∧
    (∃ (s : State), s.cal.conv = none) ∧
    (∃ (t : Nat) (band : Fin 4) (header : BitVec 64) (words : List (BitVec 32)) (records : List (Nat × Option (List Nat)))
      (w : CalWait) (s : State), records = calRecs (ceilDiv (rget s Ob.DLK_NCH) 64) 24 words ∧ headOk 0xB header.toNat =
      true ∧ calMay (s.at t) band.val = true ∧ (calBandOf s band.val).wait.find? (fun w => decide (w.slot = field
      header.toNat 46 14) && decide (w.epoch % 65536 = field header.toNat 30 16)) = some w ∧ (∃ j, j < rget s Ob.DLK_NDRV
      ∧ (records.find? (fun r => decide (r.1 = j))).bind (·.2) = none)) ∧
    (∃ (t : Nat) (band : Fin 4) (header : BitVec 64) (words : List (BitVec 32)) (records : List (Nat × Option (List Nat)))
      (w : CalWait) (s : State), records = calRecs (ceilDiv (rget s Ob.DLK_NCH) 64) 24 words ∧ headOk 0xB header.toNat =
      true ∧ calMay (s.at t) band.val = true ∧ (calBandOf s band.val).wait.find? (fun w => decide (w.slot = field
      header.toNat 46 14) && decide (w.epoch % 65536 = field header.toNat 30 16)) = some w ∧ (calBandOf s band.val).redo ≠
      [] ∧ (∀ j, j < rget s Ob.DLK_NDRV → (records.find? (fun r => decide (r.1 = j))).bind (·.2) ≠ none)) ∧
    (∃ (t : Nat) (band : Fin 4) (header : BitVec 64) (words : List (BitVec 32)) (records : List (Nat × Option (List Nat)))
      (w : CalWait) (s : State), records = calRecs (ceilDiv (rget s Ob.DLK_NCH) 64) 24 words ∧ (headOk 0xB header.toNat =
      false ∨ calMay (s.at t) band.val = false ∨ (calBandOf s band.val).wait.find? (fun w => decide (w.slot = field
      header.toNat 46 14) && decide (w.epoch % 65536 = field header.toNat 30 16)) = none)) :=
  ⟨⟨up, 3, by decide +kernel⟩,
   ⟨(withCal (fun c => { c with conv := some (2, false) }) up), 3, by decide +kernel⟩,
   ⟨up, 4, by decide +kernel⟩,
   ⟨1000, up, hd, 3, by decide +kernel⟩,
   ⟨1000, (withCal (fun c => { c with conv := some (2, false) }) up), hd, 3, by decide +kernel⟩,
   ⟨1000, (withCal (fun c => { c with conv := some (2, false), adc := [(3, { AdcIn.initial with queued := true })] }) up),
     hd, 3, by decide +kernel⟩,
   ⟨(withCal (fun c => { c with conv := some (3, false) }) up), 3, false, by decide +kernel⟩,
   ⟨up, by decide +kernel⟩,
   ⟨1000, 0, (BitVec.ofNat 64 (dlkHeader 0xB (3 * 2 ^ 30))), [], [], gap1, (reporting []), rfl, by decide +kernel,
     by decide +kernel, by decide +kernel, 0, by decide +kernel, by decide +kernel⟩,
   ⟨1000, 0, (BitVec.ofNat 64 (dlkHeader 0xB (3 * 2 ^ 30))), calWords, (calRecs 1 24 calWords), gap1, (reporting
     [gap1.gap]), rfl, by decide +kernel, by decide +kernel, by decide +kernel, by decide +kernel, one_driver _
     (by decide +kernel)⟩,
   ⟨1000, 0, (BitVec.ofNat 64 (dlkHeader 0xB (3 * 2 ^ 30))), [], [], gap1, up, by decide +kernel⟩⟩

theorem witness_CalibrationFollowsItsCommands :
    (∃ (t : Nat) (h : Hdr) (s : State), writeTaken (s.at t) h Ob.CAL_CMD 1 = true ∧ calErr (counted (s.at t) h) 1 = 0 ∧
      calTotals s (calS s) (fun _ => 0) ≠ []) ∧
    (∃ (t : Nat) (h : Hdr) (s : State), writeTaken (s.at t) h Ob.CAL_CMD 2 = true ∧ calErr (counted (s.at t) h) 2 = 0) ∧
    (∃ (t : Nat) (h : Hdr) (s : State), writeTaken (s.at t) h Ob.CAL_CMD 3 = true ∧ calErr (counted (s.at t) h) 3 = 0) ∧
    (∃ (t : Nat) (h : Hdr) (s : State), writeTaken (s.at t) h Ob.CAL_CMD 4 = true ∧ calErr (counted (s.at t) h) 4 = 0) ∧
    (∃ (t : Nat) (h : Hdr) (s : State), writeTaken (s.at t) h Ob.CAL_CMD 5 = true ∧ calErr (counted (s.at t) h) 5 = 0) ∧
    (∃ (t : Nat) (h : Hdr) (s : State) (n : Nat) (c : Instr), (n, c) ∈ [(1, Instr.calStart t h), (2, .calResume t h), (3,
      .calAbort t h), (4, .calCommit t h), (5, .calDiscard t h)] ∧ writeTaken (s.at t) h Ob.CAL_CMD n = true ∧ calErr
      (counted (s.at t) h) n ≠ 0) ∧
    (∃ (s : State), s.cal.state = .committing ∧ s.poison = []) ∧
    (∃ (s : State), s.cal.state ≠ .committing) :=
  ⟨⟨1000, hd, calibratable, by decide +kernel⟩,
   ⟨1000, hd, (oset Ob.CAL_PARCRC 1875916966 (withCal (fun c => { c with state := .abandoned }) calibratable)),
     by decide +kernel⟩,
   ⟨1000, hd, (withCal (fun c => { c with state := .running }) run), by decide +kernel⟩,
   ⟨1000, hd, (inOp .setup (oset Ob.CAL_PARCRC 1871485237 (withCal (fun c => { c with state := .complete })
     calibratable))), by decide +kernel⟩,
   ⟨1000, hd, (withCal (fun c => { c with state := .abandoned }) run), by decide +kernel⟩,
   ⟨1000, hd, up, 3, (.calAbort 1000 hd), by decide +kernel⟩,
   ⟨(withCal (fun c => { c with state := .committing }) up), by decide +kernel⟩,
   ⟨up, by decide +kernel⟩⟩

theorem witness_SessionsOpenAndClose :
    (∃ (t : Nat) (f : Frame) (s : State), f.index = 0 ∧ f.sub = 0 ∧ f.data = [] ∧ portServes (s.at t) f.hdr.port = true ∧
      f.hdr.gen = 0 ∧ outstanding (portOf s f.hdr.port) < 64) ∧
    (∃ (t : Nat) (f : Frame) (s : State), (portServes (s.at t) f.hdr.port = false ∨ portMax f.hdr.port < f.data.length)) ∧
    (∃ (t : Nat) (f : Frame) (s : State), portServes (s.at t) f.hdr.port = true ∧ f.data.length ≤ portMax f.hdr.port ∧
      f.hdr.gen ≠ 0) ∧
    (∃ (t : Nat) (f : Frame) (s : State), portServes (s.at t) f.hdr.port = true ∧ f.data.length ≤ portMax f.hdr.port ∧
      f.hdr.gen = 0 ∧ 64 ≤ outstanding (portOf s f.hdr.port)) ∧
    (∃ (t : Nat) (f : Frame) (s : State), portServes (s.at t) f.hdr.port = true ∧ f.data.length ≤ portMax f.hdr.port ∧
      f.hdr.gen = 0 ∧ outstanding (portOf s f.hdr.port) < 64 ∧ (f.index ≠ 0 ∨ f.sub ≠ 0)) ∧
    (∃ (t : Nat) (f : Frame) (s : State), portServes (s.at t) f.hdr.port = true ∧ f.data.length ≤ portMax f.hdr.port ∧
      f.hdr.gen = 0 ∧ outstanding (portOf s f.hdr.port) < 64 ∧ f.index = 0 ∧ f.sub = 0 ∧ f.data ≠ []) ∧
    (∃ (t : Nat) (f : Frame) (s : State), f.index = 0 ∧ f.sub = 0 ∧ f.data = [] ∧ taken (s.at t) f.hdr 0 = true) :=
  ⟨⟨1000, (cmd0 { hd with gen := 0 } []), up, by decide +kernel⟩,
   ⟨1000, (cmd0 { hd with gen := 0 } []), State.reset, by decide +kernel⟩,
   ⟨1000, (cmd0 hd []), up, by decide +kernel⟩,
   ⟨1000, (cmd0 { hd with gen := 0 } []), (withSpi (fun p => { p with queue := List.replicate 64 answer1 }) up),
     by decide +kernel⟩,
   ⟨1000, (obj { hd with gen := 0 } 0x100 []), up, by decide +kernel⟩,
   ⟨1000, (cmd0 { hd with gen := 0 } [7]), up, by decide +kernel⟩,
   ⟨1000, (cmd0 hd []), up, by decide +kernel⟩⟩

theorem witness_ReadsAnswer :
    (∃ (t : Nat) (k : Nat) (f : Frame) (s : State) (r : Row), k = key f.index.toNat f.sub.toNat ∧ taken (s.at t) f.hdr
      f.data.length = true ∧ f.data = [] ∧ rowAt f.index.toNat f.sub.toNat = some r ∧ r.ty ≠ .dom ∧ r.acc ≠ .wo ∧
      f.index.toNat ≠ 0x7300 ∧ k ≠ Ob.BNK_PEEK_DATA ∧ readLevel k ≤ (portOf s f.hdr.port).level) ∧
    (∃ (t : Nat) (k : Nat) (f : Frame) (s : State) (r : Row), k = key f.index.toNat f.sub.toNat ∧ taken (s.at t) f.hdr
      f.data.length = true ∧ f.data = [] ∧ rowAt f.index.toNat f.sub.toNat = some r ∧ r.ty ≠ .dom ∧ r.acc ≠ .wo ∧ (portOf
      s f.hdr.port).level < readLevel k) ∧
    (∃ (t : Nat) (k : Nat) (f : Frame) (s : State) (r : Row), k = key f.index.toNat f.sub.toNat ∧ taken (s.at t) f.hdr
      f.data.length = true ∧ f.data = [] ∧ rowAt f.index.toNat f.sub.toNat = some r ∧ r.ty ≠ .dom ∧ r.acc ≠ .wo ∧
      f.index.toNat = 0x7300) ∧
    (∃ (t : Nat) (k : Nat) (f : Frame) (s : State) (r : Row), k = key f.index.toNat f.sub.toNat ∧ taken (s.at t) f.hdr
      f.data.length = true ∧ f.data = [] ∧ rowAt f.index.toNat f.sub.toNat = some r ∧ r.ty = .dom) ∧
    (∃ (t : Nat) (k : Nat) (f : Frame) (s : State) (r : Row), k = key f.index.toNat f.sub.toNat ∧ taken (s.at t) f.hdr
      f.data.length = true ∧ f.data = [] ∧ rowAt f.index.toNat f.sub.toNat = some r ∧ r.ty ≠ .dom ∧ r.acc = .wo) ∧
    (∃ (t : Nat) (k : Nat) (f : Frame) (s : State) (base : _) (e : _), k = key f.index.toNat f.sub.toNat ∧ taken (s.at t)
      f.hdr f.data.length = true ∧ f.data = [] ∧ rowAt f.index.toNat f.sub.toNat = none ∧ winAt f.index.toNat f.sub.toNat
      = some (base, e)) ∧
    (∃ (t : Nat) (k : Nat) (f : Frame) (s : State), k = key f.index.toNat f.sub.toNat ∧ taken (s.at t) f.hdr f.data.length
      = true ∧ f.data = [] ∧ rowAt f.index.toNat f.sub.toNat = none ∧ winAt f.index.toNat f.sub.toNat = none ∧ f.sub = 0 ∧
      lastSub f.index.toNat ≠ 0) ∧
    (∃ (t : Nat) (k : Nat) (f : Frame) (s : State), k = key f.index.toNat f.sub.toNat ∧ taken (s.at t) f.hdr f.data.length
      = true ∧ f.data = [] ∧ rowAt f.index.toNat f.sub.toNat = none ∧ winAt f.index.toNat f.sub.toNat = none ∧ (f.sub ≠ 0
      ∨ lastSub f.index.toNat = 0)) ∧
    (∃ (t : Nat) (k : Nat) (f : Frame) (s : State), k = key f.index.toNat f.sub.toNat ∧ taken (s.at t) f.hdr f.data.length
      = true ∧ f.data ≠ []) :=
  ⟨⟨1000, Ob.SCAN_WIDTH, (obj hd Ob.SCAN_WIDTH []), up, ⟨0x4000, 0x02, 0x02, .u16, .rws, .const 0x1E00, .between 640
     7680⟩, by decide +kernel⟩,
   ⟨1000, Ob.BNK_PEEK_STAT, (obj hd Ob.BNK_PEEK_STAT []), (levelAt 0), ⟨0x6803, 0x03, 0x03, .u8, .ro, .const 0, .any⟩,
     by decide +kernel⟩,
   ⟨1000, 0x730001, (obj hd 0x730001 []), up, ⟨0x7300, 0x01, 0xFF, .u32, .ro, .const 0, .any⟩, by decide +kernel⟩,
   ⟨1000, Ob.PPL_ICURVE, (obj hd Ob.PPL_ICURVE []), up, ⟨0x3010, 0x01, 0x03, .dom, .rwl, .const 0, .any⟩,
     by decide +kernel⟩,
   ⟨1000, Ob.PXL_RETRAIN, (obj hd Ob.PXL_RETRAIN []), up, ⟨0x2000, 0x06, 0x06, .bool, .wo, .const 0, .any⟩,
     by decide +kernel⟩,
   ⟨1000, 0x720001, (obj hd 0x720001 []), up, 0x7200, 1, by decide +kernel⟩,
   ⟨1000, 0x400000, (obj hd 0x400000 []), up, by decide +kernel⟩,
   ⟨1000, 0x012301, (obj hd 0x012301 []), up, by decide +kernel⟩,
   ⟨1000, Ob.SCAN_WIDTH, (obj hd Ob.SCAN_WIDTH [1]), up, by decide +kernel⟩⟩

theorem witness_WritesStoreOrFail :
    (∃ (t : Nat) (k : Nat) (v : Nat) (f : Frame) (s : State), k = key f.index.toNat f.sub.toNat ∧ v = ofBE f.data ∧ taken
      (s.at t) f.hdr f.data.length = true ∧ writeGate (s.at t) f.hdr.port k f.data.length v = .pass ∧ ownWrite k v =
      ownPlain k v ∧ accOf k = .rw ∧ (k < Ob.EVC_VAL ∨ Ob.EVC_VAL + 32 ≤ k) ∧ k ≠ Ob.WNP_EVTPEND) ∧
    (∃ (t : Nat) (k : Nat) (v : Nat) (f : Frame) (s : State) (s1 : _) (st : Nat), k = key f.index.toNat f.sub.toNat ∧ v =
      ofBE f.data ∧ taken (s.at t) f.hdr f.data.length = true ∧ writeGate (s.at t) f.hdr.port k f.data.length v = .pass ∧
      ownWrite k v (counted (s.at t) f.hdr) = (s1, st) ∧ (portOf s1 f.hdr.port).active = true ∧ (portOf s1 f.hdr.port).gen
      = (portOf s f.hdr.port).gen ∧ st < 256) ∧
    (∃ (t : Nat) (k : Nat) (v : Nat) (f : Frame) (s : State) (st : Nat), k = key f.index.toNat f.sub.toNat ∧ v = ofBE
      f.data ∧ taken (s.at t) f.hdr f.data.length = true ∧ writeGate (s.at t) f.hdr.port k f.data.length v = .fail st ∧ st
      < 256) ∧
    (∃ (t : Nat) (k : Nat) (v : Nat) (f : Frame) (s : State), k = key f.index.toNat f.sub.toNat ∧ v = ofBE f.data ∧ taken
      (s.at t) f.hdr f.data.length = true ∧ writeGate (s.at t) f.hdr.port k f.data.length v = .viol) :=
  ⟨⟨1000, Ob.LAKE_JOB_CODELEN, 4096, (obj hd Ob.LAKE_JOB_CODELEN [0, 0, 16, 0]), up, rfl, by decide +kernel,
     by decide +kernel, by decide +kernel, rfl, by decide +kernel, by decide +kernel, by decide +kernel⟩,
   ⟨1000, Ob.LAKE_JOB_CODELEN, 4096, (obj hd Ob.LAKE_JOB_CODELEN [0, 0, 16, 0]), up, ((ownWrite Ob.LAKE_JOB_CODELEN 4096
     (counted (up.at 1000) hd)).1), St.ok, rfl, by decide +kernel, by decide +kernel, by decide +kernel, rfl,
     by decide +kernel, by decide +kernel, by decide +kernel⟩,
   ⟨1000, Ob.SCAN_WIDTH, 960, (obj hd Ob.SCAN_WIDTH [0x03, 0xC0]), run, St.state, by decide +kernel⟩,
   ⟨1000, Ob.SCAN_WIDTH, 960, (obj hd Ob.SCAN_WIDTH [0x03, 0xC0]), (levelAt 0), by decide +kernel⟩⟩

theorem witness_LevelsAreEarned :
    (∃ (t : Nat) (f : Frame) (n : Nat) (c : Instr), (n, c) ∈ [(1, Instr.openReq t f), (2, .close t f), (3, .read t f), (4,
      .write t f), (5, .segInit t f), (6, .segData t f), (7, .segRead t f), (8, .segEnd t f), (9, .segAbort t f), (10,
      .challenge t f), (11, .elevate t f), (12, .drop t f)]) ∧
    (∃ (t : Nat) (f : Frame) (s : State) (op : BitVec 8), taken (s.at t) f.hdr f.data.length = true ∧ (op = 0 ∨ 12 <
      op.toNat)) ∧
    (∃ (t : Nat) (f : Frame) (s : State) (n : Nat) (c : Instr), taken (s.at t) f.hdr f.data.length = true ∧ (n, c) ∈ [(10,
      Instr.challenge t f), (11, .elevate t f), (12, .drop t f)] ∧ (f.index ≠ 0 ∨ f.sub ≠ 0)) ∧
    (∃ (t : Nat) (f : Frame) (s : State) (level : Byte), taken (s.at t) f.hdr f.data.length = true ∧ f.index = 0 ∧ f.sub =
      0 ∧ f.data = [level] ∧ 1 ≤ level.toNat ∧ level.toNat ≤ 3 ∧ challengeBlocked (s.at t) f.hdr.port = false ∧ keyOfLevel
      s level.toNat ≠ none) ∧
    (∃ (t : Nat) (f : Frame) (s : State) (level : Byte), taken (s.at t) f.hdr f.data.length = true ∧ f.index = 0 ∧ f.sub =
      0 ∧ f.data = [level] ∧ 1 ≤ level.toNat ∧ level.toNat ≤ 3 ∧ challengeBlocked (s.at t) f.hdr.port = true) ∧
    (∃ (t : Nat) (f : Frame) (s : State) (level : Byte), taken (s.at t) f.hdr f.data.length = true ∧ f.index = 0 ∧ f.sub =
      0 ∧ f.data = [level] ∧ 1 ≤ level.toNat ∧ level.toNat ≤ 3 ∧ challengeBlocked (s.at t) f.hdr.port = false ∧ keyOfLevel
      s level.toNat = none) ∧
    (∃ (t : Nat) (f : Frame) (s : State) (level : Byte), taken (s.at t) f.hdr f.data.length = true ∧ f.index = 0 ∧ f.sub =
      0 ∧ f.data = [level] ∧ (level = 0 ∨ 3 < level.toNat)) ∧
    (∃ (t : Nat) (f : Frame) (s : State) (level : Byte) (mac : List Byte), taken (s.at t) f.hdr f.data.length = true ∧
      f.index = 0 ∧ f.sub = 0 ∧ f.data = level :: 0#8 :: 0#8 :: 0#8 :: mac ∧ mac.length = 32 ∧ 1 ≤ level.toNat ∧
      level.toNat ≤ 3 ∧ macMatches (s.at t) f.hdr.port level.toNat mac = true) ∧
    (∃ (t : Nat) (f : Frame) (s : State) (level : Byte) (mac : List Byte), taken (s.at t) f.hdr f.data.length = true ∧
      f.index = 0 ∧ f.sub = 0 ∧ f.data = level :: 0#8 :: 0#8 :: 0#8 :: mac ∧ mac.length = 32 ∧ 1 ≤ level.toNat ∧
      level.toNat ≤ 3 ∧ macMatches (s.at t) f.hdr.port level.toNat mac = false) ∧
    (∃ (t : Nat) (f : Frame) (s : State), taken (s.at t) f.hdr f.data.length = true ∧ f.index = 0 ∧ f.sub = 0 ∧
      f.data.length = 36 ∧ (ofBE (f.data.take 1) < 1 ∨ 3 < ofBE (f.data.take 1) ∨ ofBE ((f.data.drop 1).take 3) ≠ 0)) ∧
    (∃ (t : Nat) (f : Frame) (s : State), taken (s.at t) f.hdr f.data.length = true ∧ f.index = 0 ∧ f.sub = 0 ∧
      f.data.length ≠ 36) ∧
    (∃ (t : Nat) (f : Frame) (s : State), taken (s.at t) f.hdr f.data.length = true ∧ f.index = 0 ∧ f.sub = 0 ∧
      f.data.length ≠ 1) ∧
    (∃ (t : Nat) (f : Frame) (s : State) (level : Byte), taken (s.at t) f.hdr f.data.length = true ∧ f.index = 0 ∧ f.sub =
      0 ∧ f.data = [level] ∧ level.toNat ≤ 3 ∧ level.toNat ≤ (portOf s f.hdr.port).level) ∧
    (∃ (t : Nat) (f : Frame) (s : State) (level : Byte), taken (s.at t) f.hdr f.data.length = true ∧ f.index = 0 ∧ f.sub =
      0 ∧ f.data = [level] ∧ level.toNat ≤ 3 ∧ (portOf s f.hdr.port).level < level.toNat) ∧
    (∃ (t : Nat) (f : Frame) (s : State) (level : Byte), taken (s.at t) f.hdr f.data.length = true ∧ f.index = 0 ∧ f.sub =
      0 ∧ f.data = [level] ∧ 3 < level.toNat) :=
  ⟨⟨1000, (cmd0 hd []), 2, (.close 1000 (cmd0 hd [])), by decide +kernel⟩,
   ⟨1000, (cmd0 hd []), up, 13, by decide +kernel⟩,
   ⟨1000, (obj hd 1 [1]), up, 12, (.drop 1000 (obj hd 1 [1])), by decide +kernel⟩,
   ⟨1000, (cmd0 hd [3]), up, 3, by decide +kernel⟩,
   ⟨1000, (cmd0 hd [3]), (withSpi (fun p => { p with blocked := some 5000 }) up), 3, by decide +kernel⟩,
   ⟨1000, (cmd0 hd [1]), up, 1, by decide +kernel⟩,
   ⟨1000, (cmd0 hd [4]), up, 4, by decide +kernel⟩,
   ⟨1000, (cmd0 hd (3#8 :: 0#8 :: 0#8 :: 0#8 :: factoryMac)), challenged, 3, factoryMac, by simpa only [cmd0,
     List.length_cons, factoryMac_length] using taken_mac, rfl, rfl, rfl, factoryMac_length, by decide, by decide, mac_ok⟩,
   ⟨1000, (cmd0 hd (3#8 :: 0#8 :: 0#8 :: 0#8 :: List.replicate 32 0)), up, 3, (List.replicate 32 0), by decide +kernel⟩,
   ⟨1000, (cmd0 hd (List.replicate 36 0)), up, by decide +kernel⟩,
   ⟨1000, (cmd0 hd [3]), up, by decide +kernel⟩,
   ⟨1000, (cmd0 hd []), up, by decide +kernel⟩,
   ⟨1000, (cmd0 hd [3]), up, 3, by decide +kernel⟩,
   ⟨1000, (cmd0 hd [3]), (levelAt 1), 3, by decide +kernel⟩,
   ⟨1000, (cmd0 hd [4]), up, 4, by decide +kernel⟩⟩

theorem witness_RequestsRunOnce :
    (∃ (t : Nat) (op : Nat) (f : Frame) (c : Instr) (s : State), (op, c) ∈ [(2, Instr.close t f), (3, .read t f), (4,
      .write t f), (5, .segInit t f), (6, .segData t f), (7, .segRead t f), (8, .segEnd t f), (9, .segAbort t f), (10,
      .challenge t f), (11, .elevate t f), (12, .drop t f)] ∧ (portServes (s.at t) f.hdr.port = false ∨ portMax f.hdr.port
      < f.data.length)) ∧
    (∃ (t : Nat) (op : Nat) (f : Frame) (c : Instr) (s : State), (op, c) ∈ [(2, Instr.close t f), (3, .read t f), (4,
      .write t f), (5, .segInit t f), (6, .segData t f), (7, .segRead t f), (8, .segEnd t f), (9, .segAbort t f), (10,
      .challenge t f), (11, .elevate t f), (12, .drop t f)] ∧ portServes (s.at t) f.hdr.port = true ∧ f.data.length ≤
      portMax f.hdr.port ∧ ((portOf s f.hdr.port).active = false ∨ f.hdr.gen.toNat ≠ (portOf s f.hdr.port).gen ∨ f.hdr.gen
      = 0)) ∧
    (∃ (t : Nat) (op : Nat) (f : Frame) (c : Instr) (s : State), (op, c) ∈ [(2, Instr.close t f), (3, .read t f), (4,
      .write t f), (5, .segInit t f), (6, .segData t f), (7, .segRead t f), (8, .segEnd t f), (9, .segAbort t f), (10,
      .challenge t f), (11, .elevate t f), (12, .drop t f)] ∧ portServes (s.at t) f.hdr.port = true ∧ f.data.length ≤
      portMax f.hdr.port ∧ (portOf s f.hdr.port).active = true ∧ f.hdr.gen.toNat = (portOf s f.hdr.port).gen ∧ f.hdr.gen ≠
      0 ∧ (portOf s f.hdr.port).cache.find? (fun e => decide (e.tag = f.hdr.tag.toNat) && e.live (s.at t).now) = none ∧ 64
      ≤ outstanding (portOf s f.hdr.port)) ∧
    (∃ (t : Nat) (op : Nat) (f : Frame) (c : Instr) (s : State) (e : CacheEntry), (op, c) ∈ [(2, Instr.close t f), (3,
      .read t f), (4, .write t f), (5, .segInit t f), (6, .segData t f), (7, .segRead t f), (8, .segEnd t f), (9,
      .segAbort t f), (10, .challenge t f), (11, .elevate t f), (12, .drop t f)] ∧ portServes (s.at t) f.hdr.port = true ∧
      f.data.length ≤ portMax f.hdr.port ∧ (portOf s f.hdr.port).active = true ∧ f.hdr.gen.toNat = (portOf s
      f.hdr.port).gen ∧ f.hdr.gen ≠ 0 ∧ (portOf s f.hdr.port).cache.find? (fun e => decide (e.tag = f.hdr.tag.toNat) &&
      e.live (s.at t).now) = some e) :=
  ⟨⟨1000, 3, (obj hd Ob.SCAN_WIDTH []), (.read 1000 (obj hd Ob.SCAN_WIDTH [])), State.reset, by decide +kernel⟩,
   ⟨1000, 3, (obj hd Ob.SCAN_WIDTH []), (.read 1000 (obj hd Ob.SCAN_WIDTH [])), (withSpi (fun p =>
     { p with active := false }) up), by decide +kernel⟩,
   ⟨1000, 3, (obj hd Ob.SCAN_WIDTH []), (.read 1000 (obj hd Ob.SCAN_WIDTH [])), (withSpi (fun p =>
     { p with queue := List.replicate 64 answer1 }) up), by decide +kernel⟩,
   ⟨1000, 3, (obj hd Ob.SCAN_WIDTH []), (.read 1000 (obj hd Ob.SCAN_WIDTH [])), (withSpi (fun p =>
     { p with cache := [{ tag := 0, digest := 5, resp := answer1, sent := none }] }) up),
     { tag := 0, digest := 5, resp := answer1, sent := none }, by decide +kernel⟩⟩

theorem witness_TransfersOpenAndFill :
    (∃ (t : Nat) (k : Nat) (f : Frame) (s : State) (size : Nat), k = key f.index.toNat f.sub.toNat ∧ taken (s.at t) f.hdr
      f.data.length = true ∧ f.data = 0#8 :: 0#8 :: 0#8 :: 0#8 :: toBE 4 size ∧ size < 2 ^ 32 ∧ segGate (s.at t)
      f.hdr.port k false = .pass ∧ (portOf s f.hdr.port).transfer = none ∧ inTransfer s f.index.toNat f.sub.toNat = false
      ∧ sizeOk k size = true ∧ downloadMay (s.at t) k = St.ok ∧ f.index ≠ 0x4040) ∧
    (∃ (t : Nat) (k : Nat) (f : Frame) (s : State) (size : Nat), k = key f.index.toNat f.sub.toNat ∧ taken (s.at t) f.hdr
      f.data.length = true ∧ f.data = 0#8 :: 0#8 :: 0#8 :: 0#8 :: toBE 4 size ∧ size < 2 ^ 32 ∧ segGate (s.at t)
      f.hdr.port k false = .pass ∧ (portOf s f.hdr.port).transfer = none ∧ inTransfer s f.index.toNat f.sub.toNat = false
      ∧ downloadMay (s.at t) k = St.ok ∧ f.index = 0x4040) ∧
    (∃ (t : Nat) (k : Nat) (f : Frame) (s : State) (size : Nat), k = key f.index.toNat f.sub.toNat ∧ taken (s.at t) f.hdr
      f.data.length = true ∧ f.data = 0#8 :: 0#8 :: 0#8 :: 0#8 :: toBE 4 size ∧ size < 2 ^ 32 ∧ segGate (s.at t)
      f.hdr.port k false = .pass ∧ (portOf s f.hdr.port).transfer = none ∧ inTransfer s f.index.toNat f.sub.toNat = false
      ∧ sizeOk k size = false) ∧
    (∃ (t : Nat) (k : Nat) (f : Frame) (s : State) (size : Nat), k = key f.index.toNat f.sub.toNat ∧ taken (s.at t) f.hdr
      f.data.length = true ∧ f.data = 0#8 :: 0#8 :: 0#8 :: 0#8 :: toBE 4 size ∧ size < 2 ^ 32 ∧ segGate (s.at t)
      f.hdr.port k false = .pass ∧ (portOf s f.hdr.port).transfer = none ∧ inTransfer s f.index.toNat f.sub.toNat = false
      ∧ sizeOk k size = true ∧ downloadMay (s.at t) k ≠ St.ok) ∧
    (∃ (t : Nat) (k : Nat) (f : Frame) (s : State) (any : List Byte), k = key f.index.toNat f.sub.toNat ∧ taken (s.at t)
      f.hdr f.data.length = true ∧ f.data = 1#8 :: 0#8 :: 0#8 :: 0#8 :: any ∧ any.length = 4 ∧ segGate (s.at t) f.hdr.port
      k true = .pass ∧ (portOf s f.hdr.port).transfer = none ∧ inTransfer s f.index.toNat f.sub.toNat = false) ∧
    (∃ (t : Nat) (k : Nat) (f : Frame) (s : State) (up : Bool) (any : List Byte) (st : Nat), k = key f.index.toNat
      f.sub.toNat ∧ taken (s.at t) f.hdr f.data.length = true ∧ f.data = BitVec.ofNat 8 (b2n up) :: 0#8 :: 0#8 :: 0#8 ::
      any ∧ any.length = 4 ∧ segGate (s.at t) f.hdr.port k up = .fail st ∧ st < 256) ∧
    (∃ (t : Nat) (k : Nat) (f : Frame) (s : State) (up : Bool) (any : List Byte), k = key f.index.toNat f.sub.toNat ∧
      taken (s.at t) f.hdr f.data.length = true ∧ f.data = BitVec.ofNat 8 (b2n up) :: 0#8 :: 0#8 :: 0#8 :: any ∧
      any.length = 4 ∧ (segGate (s.at t) f.hdr.port k up = .pass ∨ segGate (s.at t) f.hdr.port k up = .viol) ∧ ((portOf s
      f.hdr.port).transfer ≠ none ∨ inTransfer s f.index.toNat f.sub.toNat = true)) ∧
    (∃ (t : Nat) (k : Nat) (f : Frame) (s : State) (up : Bool) (any : List Byte), k = key f.index.toNat f.sub.toNat ∧
      taken (s.at t) f.hdr f.data.length = true ∧ f.data = BitVec.ofNat 8 (b2n up) :: 0#8 :: 0#8 :: 0#8 :: any ∧
      any.length = 4 ∧ segGate (s.at t) f.hdr.port k up = .viol ∧ (portOf s f.hdr.port).transfer = none ∧ inTransfer s
      f.index.toNat f.sub.toNat = false) ∧
    (∃ (t : Nat) (k : Nat) (f : Frame) (s : State) (x : _) (bs : List Byte), k = key f.index.toNat f.sub.toNat ∧ taken
      (s.at t) f.hdr f.data.length = true ∧ (portOf s f.hdr.port).transfer = some x ∧ x.upload = false ∧ x.index =
      f.index.toNat ∧ x.sub = f.sub.toNat ∧ x.next < 2 ^ 32 ∧ f.data = toBE 4 x.next ++ bs ∧ segmentOk f.hdr.port x
      bs.length = true ∧ (isDirect k = false ∨ x.viol = true)) ∧
    (∃ (t : Nat) (k : Nat) (f : Frame) (s : State) (x : _) (bs : List Byte), k = key f.index.toNat f.sub.toNat ∧ taken
      (s.at t) f.hdr f.data.length = true ∧ (portOf s f.hdr.port).transfer = some x ∧ x.upload = false ∧ x.index =
      f.index.toNat ∧ x.sub = f.sub.toNat ∧ x.next < 2 ^ 32 ∧ f.data = toBE 4 x.next ++ bs ∧ segmentOk f.hdr.port x
      bs.length = true ∧ isDirect k = true ∧ x.viol = false) ∧
    (∃ (t : Nat) (k : Nat) (f : Frame) (s : State) (x : _) (bs : List Byte), k = key f.index.toNat f.sub.toNat ∧ taken
      (s.at t) f.hdr f.data.length = true ∧ (portOf s f.hdr.port).transfer = some x ∧ x.upload = false ∧ x.index =
      f.index.toNat ∧ x.sub = f.sub.toNat ∧ x.next < 2 ^ 32 ∧ f.data = toBE 4 x.next ++ bs ∧ segmentOk f.hdr.port x
      bs.length = false) ∧
    (∃ (t : Nat) (k : Nat) (f : Frame) (s : State) (x : _) (off : Nat), k = key f.index.toNat f.sub.toNat ∧ taken (s.at t)
      f.hdr f.data.length = true ∧ (portOf s f.hdr.port).transfer = some x ∧ x.upload = false ∧ x.index = f.index.toNat ∧
      x.sub = f.sub.toNat ∧ 4 ≤ f.data.length ∧ ofBE (f.data.take 4) = off ∧ off ≠ x.next) ∧
    (∃ (t : Nat) (k : Nat) (f : Frame) (s : State), k = key f.index.toNat f.sub.toNat ∧ taken (s.at t) f.hdr f.data.length
      = true ∧ (portOf s f.hdr.port).transfer = none) :=
  ⟨⟨1000, Ob.PPL_ICURVE, (obj hd Ob.PPL_ICURVE (0#8 :: 0#8 :: 0#8 :: 0#8 :: toBE 4 2048)), up, 2048, by decide +kernel⟩,
   ⟨1000, Ob.SCAN_PLATEDATA, (obj hd Ob.SCAN_PLATEDATA (0#8 :: 0#8 :: 0#8 :: 0#8 :: toBE 4 64)), up, 64,
     by decide +kernel⟩,
   ⟨1000, Ob.PPL_ICURVE, (obj hd Ob.PPL_ICURVE (0#8 :: 0#8 :: 0#8 :: 0#8 :: toBE 4 5)), up, 5, by decide +kernel⟩,
   ⟨1000, ((Ob.ACC_KEY + 2)), (obj hd (Ob.ACC_KEY + 2) (0#8 :: 0#8 :: 0#8 :: 0#8 :: toBE 4 32)),
     { up with boot := { up.boot with factoryKey := some [] } }, 32, by decide +kernel⟩,
   ⟨1000, Ob.PPL_ICURVE, (obj hd Ob.PPL_ICURVE [1, 0, 0, 0, 0, 0, 0, 0]), up, [0, 0, 0, 0], by decide +kernel⟩,
   ⟨1000, Ob.SCAN_WIDTH, (obj hd Ob.SCAN_WIDTH [1, 0, 0, 0, 0, 0, 0, 0]), up, true, [0, 0, 0, 0], St.type,
     by decide +kernel⟩,
   ⟨1000, Ob.PPL_ICURVE, (obj hd Ob.PPL_ICURVE [1, 0, 0, 0, 0, 0, 0, 0]), (carrying (moving Ob.PPL_ICURVE false 2048 0
     [])), true, [0, 0, 0, 0], by decide +kernel⟩,
   ⟨1000, Ob.PPL_ICURVE, (obj hd Ob.PPL_ICURVE [0, 0, 0, 0, 0, 0, 8, 0]), (levelAt 0), false, [0, 0, 8, 0],
     by decide +kernel⟩,
   ⟨1000, Ob.PPL_ICURVE, (obj hd Ob.PPL_ICURVE [0, 0, 0, 0, 1, 2, 3, 4]), (carrying (moving Ob.PPL_ICURVE false 2048 0
     [])), (moving Ob.PPL_ICURVE false 2048 0 []), [1, 2, 3, 4], by decide +kernel⟩,
   ⟨1000, Ob.MDL_LEDGER, (obj hd Ob.MDL_LEDGER [0, 0, 0, 0, 1, 2, 3, 4]), (carrying (moving Ob.MDL_LEDGER false 4 0 [])),
     (moving Ob.MDL_LEDGER false 4 0 []), [1, 2, 3, 4], by decide +kernel⟩,
   ⟨1000, Ob.PPL_ICURVE, (obj hd Ob.PPL_ICURVE [0, 0, 0, 0, 1, 2, 3]), (carrying (moving Ob.PPL_ICURVE false 2048 0 [])),
     (moving Ob.PPL_ICURVE false 2048 0 []), [1, 2, 3], by decide +kernel⟩,
   ⟨1000, Ob.PPL_ICURVE, (obj hd Ob.PPL_ICURVE [0, 0, 0, 4]), (carrying (moving Ob.PPL_ICURVE false 2048 0 [])), (moving
     Ob.PPL_ICURVE false 2048 0 []), 4, by decide +kernel⟩,
   ⟨1000, Ob.PPL_ICURVE, (obj hd Ob.PPL_ICURVE [0, 0, 0, 4]), up, by decide +kernel⟩⟩

theorem witness_TransfersReadAndEnd :
    (∃ (t : Nat) (k : Nat) (f : Frame) (s : State) (x : _), k = key f.index.toNat f.sub.toNat ∧ (portOf s
      f.hdr.port).transfer = some x ∧ x.at_ + 10000000000 ≤ max s.now t) ∧
    (∃ (t : Nat) (k : Nat) (f : Frame) (s : State) (x : _), k = key f.index.toNat f.sub.toNat ∧ (portOf s
      f.hdr.port).transfer = some x ∧ max s.now t < x.at_ + 10000000000) ∧
    (∃ (t : Nat) (k : Nat) (f : Frame) (s : State) (n : Nat) (c : Instr), k = key f.index.toNat f.sub.toNat ∧ taken (s.at
      t) f.hdr f.data.length = true ∧ (n, c) ∈ [(7, Instr.segRead t f), (8, .segEnd t f), (9, .segAbort t f)] ∧ transferOf
      s f.hdr.port f.index.toNat f.sub.toNat = none) ∧
    (∃ (t : Nat) (k : Nat) (f : Frame) (s : State) (x : _) (n : Nat), k = key f.index.toNat f.sub.toNat ∧ taken (s.at t)
      f.hdr f.data.length = true ∧ (portOf s f.hdr.port).transfer = some x ∧ x.index = f.index.toNat ∧ x.sub = f.sub.toNat
      ∧ x.upload = true ∧ x.next < 2 ^ 32 ∧ n < 2 ^ 16 ∧ f.data = toBE 4 x.next ++ toBE 2 n ∧ segmentOk f.hdr.port x n =
      true ∧ x.viol = false ∧ x.snap = true ∧ n = ((x.buf.drop x.next).take n).length) ∧
    (∃ (t : Nat) (k : Nat) (f : Frame) (s : State) (x : _) (n : Nat), k = key f.index.toNat f.sub.toNat ∧ taken (s.at t)
      f.hdr f.data.length = true ∧ (portOf s f.hdr.port).transfer = some x ∧ x.index = f.index.toNat ∧ x.sub = f.sub.toNat
      ∧ x.upload = true ∧ x.next < 2 ^ 32 ∧ n < 2 ^ 16 ∧ f.data = toBE 4 x.next ++ toBE 2 n ∧ segmentOk f.hdr.port x n =
      true ∧ x.viol = true) ∧
    (∃ (t : Nat) (k : Nat) (f : Frame) (s : State) (x : _) (n : Nat), k = key f.index.toNat f.sub.toNat ∧ taken (s.at t)
      f.hdr f.data.length = true ∧ (portOf s f.hdr.port).transfer = some x ∧ x.index = f.index.toNat ∧ x.sub = f.sub.toNat
      ∧ x.upload = true ∧ x.next < 2 ^ 32 ∧ n < 2 ^ 16 ∧ f.data = toBE 4 x.next ++ toBE 2 n ∧ segmentOk f.hdr.port x n =
      false) ∧
    (∃ (t : Nat) (k : Nat) (f : Frame) (s : State) (x : _), k = key f.index.toNat f.sub.toNat ∧ taken (s.at t) f.hdr
      f.data.length = true ∧ (portOf s f.hdr.port).transfer = some x ∧ x.index = f.index.toNat ∧ x.sub = f.sub.toNat ∧
      x.upload = true ∧ f.data.length = 6 ∧ ofBE (f.data.take 4) ≠ x.next) ∧
    (∃ (t : Nat) (k : Nat) (f : Frame) (s : State) (x : _), k = key f.index.toNat f.sub.toNat ∧ taken (s.at t) f.hdr
      f.data.length = true ∧ (portOf s f.hdr.port).transfer = some x ∧ x.index = f.index.toNat ∧ x.sub = f.sub.toNat ∧
      x.upload = true ∧ f.data = []) ∧
    (∃ (t : Nat) (k : Nat) (f : Frame) (s : State) (x : _), k = key f.index.toNat f.sub.toNat ∧ taken (s.at t) f.hdr
      f.data.length = true ∧ (portOf s f.hdr.port).transfer = some x ∧ x.index = f.index.toNat ∧ x.sub = f.sub.toNat ∧
      x.upload = false ∧ f.data.length = 4 ∧ x.next ≠ x.size) ∧
    (∃ (t : Nat) (k : Nat) (f : Frame) (s : State) (x : _), k = key f.index.toNat f.sub.toNat ∧ taken (s.at t) f.hdr
      f.data.length = true ∧ (portOf s f.hdr.port).transfer = some x ∧ x.index = f.index.toNat ∧ x.sub = f.sub.toNat ∧
      x.upload = false ∧ f.data.length = 4 ∧ x.next = x.size ∧ ofBE f.data ≠ x.crc ^^^ 0xFFFFFFFF) ∧
    (∃ (t : Nat) (k : Nat) (f : Frame) (s : State) (x : _), k = key f.index.toNat f.sub.toNat ∧ taken (s.at t) f.hdr
      f.data.length = true ∧ (portOf s f.hdr.port).transfer = some x ∧ x.index = f.index.toNat ∧ x.sub = f.sub.toNat ∧
      x.upload = false ∧ f.data.length = 4 ∧ x.next = x.size ∧ ofBE f.data = x.crc ^^^ 0xFFFFFFFF ∧ x.viol = true) ∧
    (∃ (t : Nat) (k : Nat) (f : Frame) (s : State) (x : _), k = key f.index.toNat f.sub.toNat ∧ taken (s.at t) f.hdr
      f.data.length = true ∧ (portOf s f.hdr.port).transfer = some x ∧ x.index = f.index.toNat ∧ x.sub = f.sub.toNat ∧
      x.upload = false ∧ f.data.length = 4 ∧ x.next = x.size ∧ ofBE f.data = x.crc ^^^ 0xFFFFFFFF ∧ x.viol = false ∧
      twoCopies k = true ∧ oflag s Ob.SAF_SEALED = false ∧ look s.scan.tableBusy k = none) ∧
    (∃ (t : Nat) (k : Nat) (f : Frame) (s : State) (x : _) (c : _) (s2 : _) (st : Nat), k = key f.index.toNat f.sub.toNat
      ∧ taken (s.at t) f.hdr f.data.length = true ∧ (portOf s f.hdr.port).transfer = some x ∧ x.index = f.index.toNat ∧
      x.sub = f.sub.toNat ∧ x.upload = false ∧ f.data.length = 4 ∧ c = counted (s.at t) f.hdr ∧ x.next = x.size ∧ ofBE
      f.data = x.crc ^^^ 0xFFFFFFFF ∧ x.viol = false ∧ applyDownload x (x.crc ^^^ 0xFFFFFFFF) (setPort f.hdr.port
      { portOf c f.hdr.port with transfer := none } c) = (s2, st) ∧ st < 256 ∧ (portOf s2 f.hdr.port).active = true ∧
      (portOf s2 f.hdr.port).gen = (portOf s f.hdr.port).gen) ∧
    (∃ (t : Nat) (k : Nat) (f : Frame) (s : State) (x : _), k = key f.index.toNat f.sub.toNat ∧ taken (s.at t) f.hdr
      f.data.length = true ∧ (portOf s f.hdr.port).transfer = some x ∧ x.index = f.index.toNat ∧ x.sub = f.sub.toNat ∧
      f.data = []) :=
  ⟨⟨10000000000, Ob.PPL_ICURVE, (obj hd Ob.PPL_ICURVE []), (carrying (moving Ob.PPL_ICURVE false 4 4 [1, 2, 3, 4])),
     (moving Ob.PPL_ICURVE false 4 4 [1, 2, 3, 4]), by decide +kernel⟩,
   ⟨1000, Ob.PPL_ICURVE, (obj hd Ob.PPL_ICURVE []), (carrying (moving Ob.PPL_ICURVE false 4 4 [1, 2, 3, 4])), (moving
     Ob.PPL_ICURVE false 4 4 [1, 2, 3, 4]), by decide +kernel⟩,
   ⟨1000, Ob.PPL_ICURVE, (obj hd Ob.PPL_ICURVE []), up, 7, (.segRead 1000 (obj hd Ob.PPL_ICURVE [])), by decide +kernel⟩,
   ⟨1000, Ob.PPL_ICURVE, (obj hd Ob.PPL_ICURVE [0, 0, 0, 0, 0, 4]), (carrying (moving Ob.PPL_ICURVE true 4 0 [1, 2, 3,
     4])), (moving Ob.PPL_ICURVE true 4 0 [1, 2, 3, 4]), 4, by decide +kernel⟩,
   ⟨1000, Ob.PPL_ICURVE, (obj hd Ob.PPL_ICURVE [0, 0, 0, 0, 0, 4]), (carrying
     ({ moving Ob.PPL_ICURVE true 4 0 [] with viol := true, snap := false })),
     { moving Ob.PPL_ICURVE true 4 0 [] with viol := true, snap := false }, 4, by decide +kernel⟩,
   ⟨1000, Ob.PPL_ICURVE, (obj hd Ob.PPL_ICURVE [0, 0, 0, 0, 0, 3]), (carrying (moving Ob.PPL_ICURVE true 4 0 [1, 2, 3,
     4])), (moving Ob.PPL_ICURVE true 4 0 [1, 2, 3, 4]), 3, by decide +kernel⟩,
   ⟨1000, Ob.PPL_ICURVE, (obj hd Ob.PPL_ICURVE [0, 0, 0, 4, 0, 4]), (carrying (moving Ob.PPL_ICURVE true 4 0 [1, 2, 3,
     4])), (moving Ob.PPL_ICURVE true 4 0 [1, 2, 3, 4]), by decide +kernel⟩,
   ⟨1000, Ob.PPL_ICURVE, (obj hd Ob.PPL_ICURVE []), (carrying (moving Ob.PPL_ICURVE true 4 0 [1, 2, 3, 4])), (moving
     Ob.PPL_ICURVE true 4 0 [1, 2, 3, 4]), by decide +kernel⟩,
   ⟨1000, Ob.PPL_ICURVE, (obj hd Ob.PPL_ICURVE [0, 0, 0, 0]), (carrying (moving Ob.PPL_ICURVE false 2048 0 [])), (moving
     Ob.PPL_ICURVE false 2048 0 []), by decide +kernel⟩,
   ⟨1000, Ob.PPL_ICURVE, (obj hd Ob.PPL_ICURVE [0, 0, 0, 1]), (carrying (moving Ob.PPL_ICURVE false 4 4 [1, 2, 3, 4])),
     (moving Ob.PPL_ICURVE false 4 4 [1, 2, 3, 4]), by decide +kernel⟩,
   ⟨1000, Ob.PPL_ICURVE, (obj hd Ob.PPL_ICURVE [0, 0, 0, 0]), (carrying
     ({ moving Ob.PPL_ICURVE false 4 4 [] with viol := true })), { moving Ob.PPL_ICURVE false 4 4 [] with viol := true },
     by decide +kernel⟩,
   ⟨1000, Ob.PPL_ICURVE, (obj hd Ob.PPL_ICURVE [0, 0, 0, 0]), (carrying (moving Ob.PPL_ICURVE false 4 4 [1, 2, 3, 4])),
     (moving Ob.PPL_ICURVE false 4 4 [1, 2, 3, 4]), by decide +kernel⟩,
   ⟨1000, Ob.PPL_ICURVE, (obj hd Ob.PPL_ICURVE [0, 0, 0, 0]), (carrying (moving Ob.PPL_ICURVE false 4 4 [1, 2, 3, 4])),
     (moving Ob.PPL_ICURVE false 4 4 [1, 2, 3, 4]), (counted ((carrying (moving Ob.PPL_ICURVE false 4 4 [1, 2, 3, 4])).at
     1000) hd), ((applyDownload (moving Ob.PPL_ICURVE false 4 4 [1, 2, 3, 4]) 0 (setPort .spi
     { portOf (counted ((carrying (moving Ob.PPL_ICURVE false 4 4 [1, 2, 3, 4])).at 1000) hd) .spi with transfer := none }
     (counted ((carrying (moving Ob.PPL_ICURVE false 4 4 [1, 2, 3, 4])).at 1000) hd))).1), ((applyDownload (moving
     Ob.PPL_ICURVE false 4 4 [1, 2, 3, 4]) 0 (setPort .spi
     { portOf (counted ((carrying (moving Ob.PPL_ICURVE false 4 4 [1, 2, 3, 4])).at 1000) hd) .spi with transfer := none }
     (counted ((carrying (moving Ob.PPL_ICURVE false 4 4 [1, 2, 3, 4])).at 1000) hd))).2), rfl, by decide +kernel,
     by decide +kernel, by decide +kernel, by decide +kernel, by decide +kernel, by decide +kernel, rfl,
     by decide +kernel, by decide +kernel, by decide +kernel, rfl, by decide +kernel, by decide +kernel,
     by decide +kernel⟩,
   ⟨1000, Ob.PPL_ICURVE, (obj hd Ob.PPL_ICURVE []), (carrying (moving Ob.PPL_ICURVE false 4 4 [1, 2, 3, 4])), (moving
     Ob.PPL_ICURVE false 4 4 [1, 2, 3, 4]), by decide +kernel⟩⟩

theorem witness_PortsCarryFrames :
    (∃ (t : Nat) (s : State) (op : BitVec 8) (tag : BitVec 12) (gen : BitVec 4) (ix : BitVec 16) (sub : BitVec 8) (any :
      BitVec 8) (data : List Byte) (body : List Byte) (bytes : List Byte) (more : List Byte), portServes (s.at t) .spi =
      true ∧ data.length < 4096 ∧ body = toBE 1 op.toNat ++ toBE 2 (16 * tag.toNat + gen.toNat) ++ toBE 2 ix.toNat ++ toBE
      1 sub.toNat ++ toBE 2 data.length ++ data ∧ bytes = (0x5A#8 :: any :: toBE 2 (10 + data.length) ++ body ++ toBE 2
      (crc16 body)) ++ more) ∧
    (∃ (t : Nat) (s : State) (bytes : List Byte) (ql : Nat), portServes (s.at t) .spi = true ∧ 4 ≤ bytes.length ∧ ql =
      ofBE ((bytes.drop 2).take 2) ∧ ql ≠ 0 ∧ spiFrameOk bytes ql = false) ∧
    (∃ (t : Nat) (s : State) (r : _) (rest : _) (bytes : List Byte), portServes (s.at t) .spi = true ∧ s.mgt.spi.queue = r
      :: rest ∧ (bytes.length < 4 ∨ ofBE ((bytes.drop 2).take 2) = 0) ∧ 4 + respLen r ≤ bytes.length) ∧
    (∃ (t : Nat) (s : State) (r : _) (rest : _) (bytes : List Byte), portServes (s.at t) .spi = true ∧ s.mgt.spi.queue = r
      :: rest ∧ (bytes.length < 4 ∨ ofBE ((bytes.drop 2).take 2) = 0) ∧ bytes.length < 4 + respLen r) ∧
    (∃ (t : Nat) (s : State), portServes (s.at t) .spi = false) ∧
    (∃ (s : State) (r : _) (rest : _), s.mgt.canBus = true ∧ s.mgt.can.queue = r :: rest) ∧
    (∃ (s : State) (e : _) (rest : _), s.mgt.canBus = true ∧ s.mgt.can.queue = [] ∧ s.mgt.events = e :: rest) ∧
    (∃ (s : State), (s.mgt.canBus = false ∨ (s.mgt.can.queue = [] ∧ s.mgt.events = []))) ∧
    (∃ (t : Nat) (s : State) (r : _) (rest : _), s.mgt.can.queue = r :: rest ∧ r.queued + 100000000 ≤ max s.now t) ∧
    (∃ (t : Nat) (s : State) (r : _) (rest : _), s.mgt.can.queue = r :: rest ∧ max s.now t < r.queued + 100000000) ∧
    (∃ (s : State), s.mgt.canBus = true) ∧
    (∃ (s : State), s.mgt.canBus = false) ∧
    (∃ (t : Nat) (s : State) (due : _), s.mgt.canDue = some due ∧ due ≤ max s.now t) ∧
    (∃ (t : Nat) (s : State) (due : _), s.mgt.canDue = some due ∧ max s.now t < due) ∧
    (∃ (t : Nat) (s : State), portServes (s.at t) .can = true) ∧
    (∃ (t : Nat) (s : State), portServes (s.at t) .can = false) :=
  ⟨⟨1000, up, 3, 1, 1, 0x4000, 1, 0, [], [3, 0, 17, 0x40, 0, 1, 0, 0], ((0x5A#8 :: 0#8 :: toBE 2 10 ++ [3, 0, 17, 0x40, 0,
     1, 0, 0] ++ toBE 2 (crc16 [3, 0, 17, 0x40, 0, 1, 0, 0])) ++ [0, 0, 0]), [0, 0, 0], by decide +kernel⟩,
   ⟨1000, up, [0x5A, 0, 0, 5], 5, by decide +kernel⟩,
   ⟨1000, answering, answer1, [], (List.replicate 15 0), by decide +kernel⟩,
   ⟨1000, answering, answer1, [], (List.replicate 14 0), by decide +kernel⟩,
   ⟨1000, State.reset, by decide +kernel⟩,
   ⟨(withCan (fun p => { p with queue := [answer1] }) { up with mgt := { up.mgt with canBus := true } }), answer1, [],
     by decide +kernel⟩,
   ⟨{ up with mgt := { up.mgt with canBus := true, events := [answer1] } }, answer1, [], by decide +kernel⟩,
   ⟨{ up with mgt := { up.mgt with canBus := false } }, by decide +kernel⟩,
   ⟨100000000, (withCan (fun p => { p with queue := [answer1] }) { up with mgt := { up.mgt with canBus := true } }),
     answer1, [], by decide +kernel⟩,
   ⟨1000, (withCan (fun p => { p with queue := [answer1] }) { up with mgt := { up.mgt with canBus := true } }), answer1,
     [], by decide +kernel⟩,
   ⟨{ up with mgt := { up.mgt with canBus := true } }, by decide +kernel⟩,
   ⟨{ up with mgt := { up.mgt with canBus := false } }, by decide +kernel⟩,
   ⟨1000, { up with mgt := { up.mgt with canDue := some 1000 } }, 1000, by decide +kernel⟩,
   ⟨1000, { up with mgt := { up.mgt with canDue := some 1001 } }, 1001, by decide +kernel⟩,
   ⟨1000, up, by decide +kernel⟩,
   ⟨1000, State.reset, by decide +kernel⟩⟩

theorem witness_TimersEventsAndPatches :
    (∃ (t : Nat) (p : Port) (s : State) (u : _), (portOf s p).blocked = some u ∧ u ≤ max s.now t) ∧
    (∃ (t : Nat) (p : Port) (s : State) (u : _), (portOf s p).blocked = some u ∧ max s.now t < u) ∧
    (∃ (t : Nat) (p : Port) (s : State), (portOf s p).active = true ∧ oget s Ob.ACC_IDLE ≠ 0 ∧ (portOf s p).lastReq + oget
      s Ob.ACC_IDLE * 1000000000 ≤ max s.now t) ∧
    (∃ (t : Nat) (p : Port) (s : State), ((portOf s p).active = false ∨ oget s Ob.ACC_IDLE = 0 ∨ max s.now t < (portOf s
      p).lastReq + oget s Ob.ACC_IDLE * 1000000000)) ∧
    (∃ (t : Nat) (h : Hdr) (s : State) (v : BitVec 16), writeTaken (s.at t) h Ob.WNP_EVTPEND v.toNat = true) ∧
    (∃ (t : Nat) (h : Hdr) (s : State) (v : BitVec 8), writeTaken (s.at t) h Ob.DEV_EVCLR v.toNat = true ∧ v ≠ 0) ∧
    (∃ (t : Nat) (h : Hdr) (s : State) (v : BitVec 8), writeTaken (s.at t) h Ob.DEV_EVCLR v.toNat = true ∧ v = 0) ∧
    (∃ (t : Nat) (h : Hdr) (s : State), writeTaken (s.at t) h Ob.SAF_PATCH_CMD 1 = true ∧ s.boot.op = .setup ∧
      s.mgt.patchLoaded = true) ∧
    (∃ (t : Nat) (h : Hdr) (s : State), writeTaken (s.at t) h Ob.SAF_PATCH_CMD 1 = true ∧ (s.boot.op ≠ .setup ∨
      s.mgt.patchLoaded = false)) ∧
    (∃ (t : Nat) (h : Hdr) (s : State), writeTaken (s.at t) h Ob.SAF_PATCH_CMD 2 = true ∧ s.boot.op = .setup ∧
      s.mgt.patchLoaded = true) ∧
    (∃ (t : Nat) (h : Hdr) (s : State), writeTaken (s.at t) h Ob.SAF_PATCH_CMD 2 = true ∧ (s.boot.op ≠ .setup ∨
      s.mgt.patchLoaded = false)) :=
  ⟨⟨1000, .spi, (withSpi (fun p => { p with blocked := some 1000 }) up), 1000, by decide +kernel⟩,
   ⟨1000, .spi, (withSpi (fun p => { p with blocked := some 5000 }) up), 5000, by decide +kernel⟩,
   ⟨5000000000, .spi, (oset Ob.ACC_IDLE 5 up), by decide +kernel⟩,
   ⟨1000, .spi, (oset Ob.ACC_IDLE 5 up), by decide +kernel⟩,
   ⟨1000, hd, up, 1, by decide +kernel⟩,
   ⟨1000, hd, up, 1, by decide +kernel⟩,
   ⟨1000, hd, up, 0, by decide +kernel⟩,
   ⟨1000, hd, { up with mgt := { up.mgt with patchLoaded := true } }, by decide +kernel⟩,
   ⟨1000, hd, up, by decide +kernel⟩,
   ⟨1000, hd, { up with mgt := { up.mgt with patchLoaded := true } }, by decide +kernel⟩,
   ⟨1000, hd, up, by decide +kernel⟩⟩

theorem witness_WallsSyncAndRoll :
    (∃ (s : State) (word : BitVec 96) (w : Sync), w = syncOf word.toNat ∧ isFollower s = true ∧ syncOk word.toNat = true) ∧
    (∃ (s : State) (word : BitVec 96) (w : Sync), w = syncOf word.toNat ∧ isFollower s = true ∧ syncOk word.toNat = false) ∧
    (∃ (s : State) (word : BitVec 96), isMaster s = true ∧ syncOk word.toNat = true ∧ (syncOf word.toNat).node ≠ nodeAddr
      s) ∧
    (∃ (s : State) (word : BitVec 96), isMaster s = true ∧ syncOk word.toNat = true ∧ (syncOf word.toNat).node = nodeAddr
      s) ∧
    (∃ (s : State) (word : BitVec 96), isMaster s = true ∧ syncOk word.toNat = false) ∧
    (∃ (s : State), (oget s Ob.GYL_ROLE = 0 ∨ gylOn s = false)) ∧
    (∃ (t : Nat) (s : State), s.gyl.waitSync = true ∧ s.gyl.waitFrom + 500000000 ≤ max s.now t) ∧
    (∃ (t : Nat) (s : State), (s.gyl.waitSync = false ∨ max s.now t < s.gyl.waitFrom + 500000000)) ∧
    (∃ (s : State), isFollower s = true) ∧
    (∃ (t : Nat) (s : State) (type : Nat) (len : Nat) (f : GylIn) (c : Instr), (type, len, c) ∈ [(1, 2, Instr.roll t f),
      (2, 14, .status t f), (3, 22, .prepare t f), (4, 10, .ready t f), (5, 10, .refuse t f), (6, 8, .commit t f), (7, 10,
      .abort t f), (8, 2, .resendReq t f), (9, 14, .vector t f), (10, 6, .snap t f)] ∧ gylOn s = true ∧ oget s Ob.GYL_ROLE
      ≠ 0 ∧ gylOk type len f = false) ∧
    (∃ (t : Nat) (s : State) (type : Nat) (len : Nat) (f : GylIn) (c : Instr), (type, len, c) ∈ [(1, 2, Instr.roll t f),
      (2, 14, .status t f), (3, 22, .prepare t f), (4, 10, .ready t f), (5, 10, .refuse t f), (6, 8, .commit t f), (7, 10,
      .abort t f), (8, 2, .resendReq t f), (9, 14, .vector t f), (10, 6, .snap t f)] ∧ (gylOn s = false ∨ oget s
      Ob.GYL_ROLE = 0)) ∧
    (∃ (t : Nat) (s : State) (type : Nat) (len : Nat) (f : GylIn) (c : Instr), (type, len, c) ∈ [(1, 2, Instr.roll t f),
      (2, 14, .status t f), (3, 22, .prepare t f), (4, 10, .ready t f), (5, 10, .refuse t f), (6, 8, .commit t f), (7, 10,
      .abort t f), (8, 2, .resendReq t f), (9, 14, .vector t f), (10, 6, .snap t f)] ∧ gylOk type len f = true ∧
      f.header.toNat / 2 ^ 8 % 256 ≠ 255 ∧ f.header.toNat / 2 ^ 8 % 256 ≠ nodeAddr s) ∧
    (∃ (t : Nat) (s : State), isMaster s = true ∧ windowFits (s.at t) 2 = true) ∧
    (∃ (t : Nat) (s : State), isMaster s = true ∧ windowFits (s.at t) 2 = false) ∧
    (∃ (s : State), isMaster s = false) ∧
    (∃ (s : State) (f : GylIn), isFollower s = true ∧ gylFor s 1 2 f) ∧
    (∃ (s : State) (f : GylIn), isMaster s = true ∧ gylFor s 2 14 f ∧ gylSrc f < 64 ∧ s.gyl.masterWait = false) ∧
    (∃ (s : State) (f : GylIn), isMaster s = true ∧ gylFor s 2 14 f ∧ gylSrc f < 64 ∧ s.gyl.masterWait = true ∧ payAt
      f.data 0 1 = 2 ∧ (List.range (gylSrc f)).any (fun k => bit s.gyl.rollGot k && decide ((nodeOf s k).state = 2)) =
      false) ∧
    (∃ (s : State) (n : Fin 64), isMaster s = true ∧ s.gyl.rollOpen = true ∧ bit s.gyl.badSlots n.val = false) ∧
    (∃ (t : Nat) (s : State) (n : Nat), s.gyl.windowEnd ≤ max s.now t ∧ s.gyl.rollOpen = true ∧ nodeOf s n ≠ Node.absent) ∧
    (∃ (t : Nat) (s : State), max s.now t < s.gyl.windowEnd) :=
  ⟨⟨follower, (BitVec.ofNat 96 (9 * 2 ^ 48 + 2 ^ 32 + 1 * 2 ^ 24 + 2 ^ 20 + crc16 (toBE 10 (9 * 2 ^ 32 + 2 ^ 16 + 1 * 2 ^
     8 + 2 ^ 4)))), (syncOf (BitVec.ofNat 96 (9 * 2 ^ 48 + 2 ^ 32 + 1 * 2 ^ 24 + 2 ^ 20 + crc16 (toBE 10 (9 * 2 ^ 32 + 2 ^
     16 + 1 * 2 ^ 8 + 2 ^ 4)))).toNat), by decide +kernel⟩,
   ⟨follower, (BitVec.ofNat 96 1), (syncOf 1), by decide +kernel⟩,
   ⟨master, (BitVec.ofNat 96 (9 * 2 ^ 48 + 2 ^ 32 + 1 * 2 ^ 24 + 2 ^ 20 + crc16 (toBE 10 (9 * 2 ^ 32 + 2 ^ 16 + 1 * 2 ^ 8
     + 2 ^ 4)))), by decide +kernel⟩,
   ⟨master, (BitVec.ofNat 96 (9 * 2 ^ 48 + 2 ^ 32 + 0 * 2 ^ 24 + 2 ^ 20 + crc16 (toBE 10 (9 * 2 ^ 32 + 2 ^ 16 + 0 * 2 ^ 8
     + 2 ^ 4)))), by decide +kernel⟩,
   ⟨master, (BitVec.ofNat 96 1), by decide +kernel⟩,
   ⟨run, by decide +kernel⟩,
   ⟨500000000, (withGyl (fun g => { g with waitSync := true }) up), by decide +kernel⟩,
   ⟨1000, up, by decide +kernel⟩,
   ⟨follower, by decide +kernel⟩,
   ⟨1000, follower, 1, 2, { gylMsg 1 1 [0, 1] with crc := 0 }, (.roll 1000 { gylMsg 1 1 [0, 1] with crc := 0 }),
     by decide +kernel⟩,
   ⟨1000, run, 1, 2, (gylMsg 1 1 [0, 1]), (.roll 1000 (gylMsg 1 1 [0, 1])), by decide +kernel⟩,
   ⟨1000, follower, 1, 2, gylTo7, (.roll 1000 gylTo7), by decide +kernel⟩,
   ⟨1000, master, by decide +kernel⟩,
   ⟨1000, { master with gyl := { master.gyl with tx := [{ at_ := 0, type := 1, dst := 255, data := [], line := [] }] } },
     by decide +kernel⟩,
   ⟨run, by decide +kernel⟩,
   ⟨follower, (gylMsg 1 1 [0, 1]), by decide +kernel⟩,
   ⟨master, (gylMsg 2 1 (5 :: List.replicate 13 0)), by decide +kernel⟩,
   ⟨(withGyl (fun g => { g with masterWait := true, rollGot := 2 }) master), (gylMsg 2 1 (2 :: List.replicate 13 0)),
     by decide +kernel⟩,
   ⟨(withGyl (fun g => { g with rollOpen := true, nodes := [(1, { Node.absent with state := 5 })] }) master), 1,
     by decide +kernel⟩,
   ⟨1000, (withGyl (fun g => { g with rollOpen := true, nodes := [(1, { Node.absent with state := 5 })] }) master), 1,
     by decide +kernel⟩,
   ⟨1000, (withGyl (fun g => { g with windowEnd := 2000 }) master), by decide +kernel⟩⟩

theorem witness_ChangesAreMastered :
    (∃ (t : Nat) (s : State) (h : Hdr) (v : BitVec 8), writeTaken (s.at t) h Ob.GYL_CMT_REQ v.toNat = true ∧ v ≠ 0 ∧ bit
      v.toNat 7 = false ∧ isMaster s = true ∧ s.gyl.cmt = none ∧ bit s.pwr.stopped 1 = false ∧ s.scan.epoch + 1 < oget s
      Ob.GYL_CMT_EPOCH ∧ s.scan.epoch + oget s Ob.GYL_LEAD ≤ oget s Ob.GYL_CMT_EPOCH ∧ oget s Ob.GYL_CMT_EPOCH ≤
      s.scan.epoch + oget s Ob.TRX_EPOCH_AHEAD) ∧
    (∃ (t : Nat) (s : State) (h : Hdr) (v : BitVec 8), writeTaken (s.at t) h Ob.GYL_CMT_REQ v.toNat = true ∧ v ≠ 0 ∧ bit
      v.toNat 7 = false ∧ isMaster s = false) ∧
    (∃ (t : Nat) (s : State) (h : Hdr) (v : BitVec 8), writeTaken (s.at t) h Ob.GYL_CMT_REQ v.toNat = true ∧ v ≠ 0 ∧ bit
      v.toNat 7 = false ∧ isMaster s = true ∧ (s.gyl.cmt ≠ none ∨ bit s.pwr.stopped 1 = true)) ∧
    (∃ (t : Nat) (s : State) (h : Hdr) (v : BitVec 8), writeTaken (s.at t) h Ob.GYL_CMT_REQ v.toNat = true ∧ v ≠ 0 ∧ bit
      v.toNat 7 = false ∧ isMaster s = true ∧ s.gyl.cmt = none ∧ bit s.pwr.stopped 1 = false ∧ oget s Ob.GYL_CMT_EPOCH ≤
      s.scan.epoch + 1) ∧
    (∃ (s : State) (f : GylIn), gylFor s 4 10 f ∧ gylOn s = true ∧ oget s Ob.GYL_ROLE ≠ 0 ∧ cmtMatches (gylSrc f) f.data s
      = true) ∧
    (∃ (s : State) (f : GylIn), gylFor s 4 10 f ∧ gylOn s = true ∧ oget s Ob.GYL_ROLE ≠ 0 ∧ cmtMatches (gylSrc f) f.data s
      = false) ∧
    (∃ (s : State) (f : GylIn), gylFor s 5 10 f ∧ isMaster s = true ∧ gylSrc f < 64 ∧ cmtMatches (gylSrc f) f.data s =
      true ∧ s.gyl.cmtRefused = none) ∧
    (∃ (s : State) (f : GylIn), gylFor s 5 10 f ∧ isMaster s = true ∧ gylSrc f < 64 ∧ cmtMatches (gylSrc f) f.data s =
      false) ∧
    (∃ (t : Nat) (s : State) (c : _), s.gyl.windowEnd ≤ max s.now t ∧ s.gyl.rollOpen = false ∧ s.gyl.prepOpen = true ∧
      s.gyl.cmt = some c ∧ s.gyl.cmtSent = false ∧ s.gyl.cmtRefused = none ∧ s.gyl.cmtReady &&& s.gyl.cmtParts =
      s.gyl.cmtParts ∧ s.scan.epoch + 1 < c.epoch) ∧
    (∃ (t : Nat) (s : State) (c : _) (n : Nat) (r : _), s.gyl.windowEnd ≤ max s.now t ∧ s.gyl.rollOpen = false ∧
      s.gyl.prepOpen = true ∧ s.gyl.cmt = some c ∧ s.gyl.cmtSent = false ∧ s.gyl.cmtRefused = some (n, r)) ∧
    (∃ (s : State) (f : GylIn), gylFor s 8 2 f ∧ isMaster s = true) :=
  ⟨⟨1000, (oset Ob.GYL_CMT_EPOCH 100 master), hd, 1, by decide +kernel⟩,
   ⟨1000, run, hd, 1, by decide +kernel⟩,
   ⟨1000, (preparing none), hd, 1, by decide +kernel⟩,
   ⟨1000, master, hd, 1, by decide +kernel⟩,
   ⟨(preparing none), (gylMsg 4 1 (aboutE 20 1 [0, 0])), by decide +kernel⟩,
   ⟨master, (gylMsg 4 1 (aboutE 20 1 [0, 0])), by decide +kernel⟩,
   ⟨(preparing none), (gylMsg 5 1 (aboutE 20 1 [1, 2])), by decide +kernel⟩,
   ⟨master, (gylMsg 5 1 (aboutE 20 1 [0, 0])), by decide +kernel⟩,
   ⟨1000, (preparing none), change1, by decide +kernel⟩,
   ⟨1000, (preparing (some (1, 0x102))), change1, 1, 0x102, by decide +kernel⟩,
   ⟨master, (gylMsg 8 1 [0, 1]), by decide +kernel⟩⟩

theorem witness_ChangesAreFollowed :
    (∃ (t : Nat) (s : State) (f : GylIn) (c : Change) (r : _) (x : _), isFollower s = true ∧ gylFor s 3 22 f ∧ c =
      Change.mk (cmtE f.data) (cmtGen f.data) (payAt f.data 8 1) (payAt f.data 10 4) ∧ bit (payAt f.data 14 8) (nodeAddr
      s) = true ∧ s.gyl.answer = none ∧ decideChange c (s.at t) = (r, x) ∧ r ≠ 0) ∧
    (∃ (t : Nat) (s : State) (f : GylIn) (c : Change) (r : _) (x : _), isFollower s = true ∧ gylFor s 3 22 f ∧ c =
      Change.mk (cmtE f.data) (cmtGen f.data) (payAt f.data 8 1) (payAt f.data 10 4) ∧ bit (payAt f.data 14 8) (nodeAddr
      s) = true ∧ s.gyl.answer = none ∧ decideChange c (s.at t) = (r, x) ∧ r = 0 ∧ s.pwr.state = .p0) ∧
    (∃ (s : State) (f : GylIn) (c : Change) (r : _) (x : _), isFollower s = true ∧ gylFor s 3 22 f ∧ c = Change.mk (cmtE
      f.data) (cmtGen f.data) (payAt f.data 8 1) (payAt f.data 10 4) ∧ bit (payAt f.data 14 8) (nodeAddr s) = true ∧
      s.gyl.answer = some (c, r, x)) ∧
    (∃ (s : State) (f : GylIn) (c : Change), isFollower s = true ∧ gylFor s 3 22 f ∧ c = Change.mk (cmtE f.data) (cmtGen
      f.data) (payAt f.data 8 1) (payAt f.data 10 4) ∧ bit (payAt f.data 14 8) (nodeAddr s) = false) ∧
    (∃ (s : State) (f : GylIn), isFollower s = true ∧ gylFor s 6 8 f ∧ heldMatches f.data s = true) ∧
    (∃ (s : State) (f : GylIn), isFollower s = true ∧ gylFor s 6 8 f ∧ heldMatches f.data s = false) ∧
    (∃ (s : State) (f : GylIn), isFollower s = true ∧ gylFor s 7 10 f) ∧
    (∃ (s : State) (f : GylIn), isFollower s = true ∧ gylFor s 9 14 f ∧ (s.gyl.state = 1 ∨ s.gyl.state = 3 ∨ s.gyl.state =
      4)) ∧
    (∃ (s : State) (f : GylIn), isFollower s = true ∧ gylFor s 9 14 f ∧ s.gyl.state ≠ 1 ∧ s.gyl.state ≠ 3 ∧ s.gyl.state ≠
      4) :=
  ⟨⟨1000, follower, (gylMsg 3 0 (aboutE 0 1 ([4, 0] ++ toBE 4 0x408000 ++ toBE 8 1))), { change1 with epoch := 0 }, 2, 0,
     by decide +kernel⟩,
   ⟨1000, follower, (gylMsg 3 0 (aboutE 20 1 ([4, 0] ++ toBE 4 0x408000 ++ toBE 8 1))), change1, 0, 0, by decide +kernel⟩,
   ⟨(withGyl (fun g => { g with answer := some (change1, 0, 0) }) follower), (gylMsg 3 0 (aboutE 20 1 ([4, 0] ++ toBE 4
     0x408000 ++ toBE 8 1))), change1, 0, 0, by decide +kernel⟩,
   ⟨follower, (gylMsg 3 0 (aboutE 20 1 ([4, 0] ++ toBE 4 0x408000 ++ toBE 8 2))), change1, by decide +kernel⟩,
   ⟨holding, (gylMsg 6 0 (aboutE 20 1 [])), by decide +kernel⟩,
   ⟨follower, (gylMsg 6 0 (aboutE 20 1 [])), by decide +kernel⟩,
   ⟨holding, (gylMsg 7 0 (aboutE 20 1 [0, 0])), by decide +kernel⟩,
   ⟨(withGyl (fun g => { g with state := 3 }) follower), (gylMsg 9 0 (aboutE 20 1 [7, 2, 1, 0, 0, 0])), by decide +kernel⟩,
   ⟨follower, (gylMsg 9 0 (aboutE 20 1 [7, 2, 1, 0, 0, 0])), by decide +kernel⟩⟩

theorem witness_WallsSnapAndWake :
    (∃ (s : State) (f : GylIn), isFollower s = true ∧ gylFor s 10 6 f ∧ s.scan.epoch + 1 < payAt f.data 0 6) ∧
    (∃ (s : State) (f : GylIn), isFollower s = true ∧ gylFor s 10 6 f ∧ payAt f.data 0 6 ≤ s.scan.epoch + 1) ∧
    (∃ (t : Nat) (s : State) (h : Hdr) (v : BitVec 8), writeTaken (s.at t) h Ob.GYL_REALIGN v.toNat = true ∧ v ≠ 0 ∧
      s.boot.op = .setup ∧ isFollower s = true) ∧
    (∃ (t : Nat) (s : State) (h : Hdr) (v : BitVec 8), writeTaken (s.at t) h Ob.GYL_REALIGN v.toNat = true ∧ v ≠ 0 ∧
      (s.boot.op ≠ .setup ∨ isFollower s = false)) ∧
    (∃ (t : Nat) (s : State) (h : Hdr) (v : BitVec 8), writeTaken (s.at t) h Ob.GYL_SNAPNOW v.toNat = true ∧ v ≠ 0 ∧
      isMaster s = true ∧ bit s.pwr.stopped 1 = false ∧ 1 < oget s Ob.GYL_LEAD) ∧
    (∃ (t : Nat) (s : State) (h : Hdr) (v : BitVec 8), writeTaken (s.at t) h Ob.GYL_SNAPNOW v.toNat = true ∧ v ≠ 0 ∧
      (isMaster s = false ∨ bit s.pwr.stopped 1 = true)) ∧
    (∃ (s : State), isMaster s = true ∧ bit s.pwr.stopped 1 = false ∧ 1 < oget s Ob.GYL_LEAD ∧ oget s Ob.GYL_SNAPPER ≠ 0 ∧
      s.gyl.snapFrom + oget s Ob.GYL_SNAPPER ≤ s.scan.epoch) ∧
    (∃ (s : State), (isMaster s = false ∨ bit s.pwr.stopped 1 = true ∨ oget s Ob.GYL_SNAPPER = 0 ∨ s.scan.epoch <
      s.gyl.snapFrom + oget s Ob.GYL_SNAPPER)) ∧
    (∃ (t : Nat) (s : State) (h : Hdr) (v : BitVec 8), writeTaken (s.at t) h Ob.GYL_WAKENOW v.toNat = true ∧ v ≠ 0 ∧
      isMaster s = true) ∧
    (∃ (t : Nat) (s : State) (h : Hdr) (v : BitVec 8), writeTaken (s.at t) h Ob.GYL_WAKENOW v.toNat = true ∧ v ≠ 0 ∧
      isMaster s = false) ∧
    (∃ (t : Nat) (s : State), isMaster s = true ∧ s.gyl.wakeRep = true ∧ (s.gyl.wakeWait = 0 ∨ s.gyl.wakeFrom + 1000000 *
      oget s Ob.GYL_WAKEREP ≤ max s.now t)) ∧
    (∃ (t : Nat) (s : State), isMaster s = true ∧ s.gyl.wakeRep = true ∧ s.gyl.wakeWait ≠ 0 ∧ max s.now t < s.gyl.wakeFrom
      + 1000000 * oget s Ob.GYL_WAKEREP) ∧
    (∃ (s : State) (phrase : BitVec 32) (firstBitAt : Nat), s.boot.stage = .started ∧ s.gyl.armed = true ∧ s.gyl.armedAt ≤
      firstBitAt ∧ phrase.toNat / 2 ^ 16 = 0x55E6 ∧ field phrase.toNat 8 8 = oget s Ob.GYL_WALLID ∧ field phrase.toNat 0 8
      + oget s Ob.GYL_WALLID = 255 ∧ bit (oget s Ob.PWR_WAKEEN) 1 = false) ∧
    (∃ (s : State) (phrase : BitVec 32) (firstBitAt : Nat), s.boot.stage = .started ∧ s.gyl.armed = true ∧ s.gyl.armedAt ≤
      firstBitAt ∧ phrase.toNat / 2 ^ 16 = 0x55E6 ∧ field phrase.toNat 8 8 = oget s Ob.GYL_WALLID ∧ field phrase.toNat 0 8
      + oget s Ob.GYL_WALLID = 255 ∧ bit (oget s Ob.PWR_WAKEEN) 1 = true ∧ wakeNActs s = false ∧ s.pwr.entry = .done ∧
      s.pwr.state = .p1) ∧
    (∃ (s : State) (firstBitAt : Nat), (s.gyl.armed = false ∨ firstBitAt < s.gyl.armedAt)) ∧
    (∃ (t : Nat) (s : State), s.boot.stage = .wakeSlot ∧ s.boot.stageAt + oget s Ob.RST_STRAP_SITE * s.pwr.aonSlot *
      1000000 ≤ max s.now t) ∧
    (∃ (t : Nat) (s : State), s.boot.stage = .wakeSlot ∧ max s.now t < s.boot.stageAt + oget s Ob.RST_STRAP_SITE *
      s.pwr.aonSlot * 1000000) ∧
    (∃ (s : State), s.boot.stage = .waitVioAb) ∧
    (∃ (s : State), s.boot.stage ≠ .waitVioAb) :=
  ⟨⟨follower, (gylMsg 10 0 (toBE 6 20)), by decide +kernel⟩,
   ⟨follower, (gylMsg 10 0 (toBE 6 0)), by decide +kernel⟩,
   ⟨1000, follower, hd, 1, by decide +kernel⟩,
   ⟨1000, run, hd, 1, by decide +kernel⟩,
   ⟨1000, master, hd, 1, by decide +kernel⟩,
   ⟨1000, run, hd, 1, by decide +kernel⟩,
   ⟨{ oset Ob.GYL_SNAPPER 10 master with scan := { master.scan with epoch := 10 } }, by decide +kernel⟩,
   ⟨master, by decide +kernel⟩,
   ⟨1000, master, hd, 1, by decide +kernel⟩,
   ⟨1000, run, hd, 1, by decide +kernel⟩,
   ⟨1000, (withGyl (fun g => { g with wakeRep := true, wakeWait := 0 }) master), by decide +kernel⟩,
   ⟨1000, (withGyl (fun g => { g with wakeRep := true, wakeWait := 2 }) master), by decide +kernel⟩,
   ⟨(withGyl (fun g => { g with armed := true }) (oset Ob.PWR_WAKEEN 0 up)), (BitVec.ofNat 32 (0x55E6 * 2 ^ 16 + 255)),
     500, by decide +kernel⟩,
   ⟨(withPwr (fun p => { p with entry := .done, state := .p1 }) (withGyl (fun g => { g with armed := true }) (oset
     Ob.PWR_WAKEEN 2 run))), (BitVec.ofNat 32 (0x55E6 * 2 ^ 16 + 255)), 500, by decide +kernel⟩,
   ⟨up, 500, by decide +kernel⟩,
   ⟨1000, (atStage .wakeSlot up), by decide +kernel⟩,
   ⟨1000, (withPwr (fun p => { p with aonSlot := 1 }) (oset Ob.RST_STRAP_SITE 3 (atStage .wakeSlot up))),
     by decide +kernel⟩,
   ⟨(atStage .waitVioAb up), by decide +kernel⟩,
   ⟨up, by decide +kernel⟩⟩

theorem witness_PowerRequestsBeginAndEnd :
    (∃ (t : Nat) (h : Hdr) (s : State), s.pwr.entry ≠ .inProgress ∧ s.pwr.entry ≠ .waitRetry ∧ s.pwr.state = .p0 ∧
      writeTaken (s.at t) h Ob.PWR_REQ 1 = true ∧ s.boot.op = .run ∧ wakeStanding
      { s.at t with pwr := { s.pwr with edgeWake := false } } 1 = none) ∧
    (∃ (t : Nat) (h : Hdr) (s : State), s.pwr.entry ≠ .inProgress ∧ s.pwr.entry ≠ .waitRetry ∧ s.pwr.state = .p0 ∧
      writeTaken (s.at t) h Ob.PWR_REQ 2 = true ∧ s.boot.op = .run ∧ wakeStanding
      { s.at t with pwr := { s.pwr with edgeWake := false } } 2 = none) ∧
    (∃ (t : Nat) (h : Hdr) (s : State), s.pwr.entry ≠ .inProgress ∧ s.pwr.entry ≠ .waitRetry ∧ s.pwr.state = .p0 ∧
      writeTaken (s.at t) h Ob.PWR_REQ 3 = true ∧ (s.boot.op = .run ∨ s.boot.op = .setup) ∧ wakeStanding
      { s.at t with pwr := { s.pwr with edgeWake := false } } 3 = none) ∧
    (∃ (t : Nat) (h : Hdr) (s : State) (v : Nat) (c : Instr), (v, c) ∈ [(1, Instr.pwrReqP1 t h), (2, .pwrReqP2 t h), (3,
      .pwrReqP3 t h)] ∧ writeTaken (s.at t) h Ob.PWR_REQ v = true ∧ (s.pwr.entry = .inProgress ∨ s.pwr.entry =
      .waitRetry)) ∧
    (∃ (t : Nat) (h : Hdr) (s : State) (v : Nat) (c : Instr), (v, c) ∈ [(1, Instr.pwrReqP1 t h), (2, .pwrReqP2 t h), (3,
      .pwrReqP3 t h)] ∧ writeTaken (s.at t) h Ob.PWR_REQ v = true ∧ s.pwr.entry ≠ .inProgress ∧ s.pwr.entry ≠ .waitRetry ∧
      (s.pwr.state ≠ .p0 ∨ (s.boot.op ≠ .run ∧ (v ≠ 3 ∨ s.boot.op ≠ .setup)))) ∧
    (∃ (t : Nat) (h : Hdr) (s : State), writeTaken (s.at t) h Ob.PWR_REQ 0 = true ∧ (s.pwr.entry = .inProgress ∨
      s.pwr.entry = .waitRetry)) ∧
    (∃ (t : Nat) (h : Hdr) (s : State), writeTaken (s.at t) h Ob.PWR_REQ 0 = true ∧ s.pwr.entry ≠ .inProgress ∧
      s.pwr.entry ≠ .waitRetry ∧ s.pwr.state = .p1) ∧
    (∃ (t : Nat) (h : Hdr) (s : State), writeTaken (s.at t) h Ob.PWR_REQ 0 = true ∧ s.pwr.entry ≠ .inProgress ∧
      s.pwr.entry ≠ .waitRetry ∧ s.pwr.state = .p2 ∧ s.pwr.waking = false) ∧
    (∃ (t : Nat) (h : Hdr) (s : State), writeTaken (s.at t) h Ob.PWR_REQ 0 = true ∧ s.pwr.entry ≠ .inProgress ∧
      s.pwr.entry ≠ .waitRetry ∧ (s.pwr.state = .p0 ∨ s.pwr.state = .p3)) :=
  ⟨⟨1000, hd, run, by decide +kernel⟩,
   ⟨1000, hd, run, by decide +kernel⟩,
   ⟨1000, hd, run, by decide +kernel⟩,
   ⟨1000, hd, (entering 3 1), 1, (.pwrReqP1 1000 hd), by decide +kernel⟩,
   ⟨1000, hd, (inOp .safeDark run), 1, (.pwrReqP1 1000 hd), by decide +kernel⟩,
   ⟨1000, hd, (entering 3 1), by decide +kernel⟩,
   ⟨1000, hd, (withPwr (fun p => { p with state := .p1 }) run), by decide +kernel⟩,
   ⟨1000, hd, (withPwr (fun p => { p with state := .p2 }) run), by decide +kernel⟩,
   ⟨1000, hd, run, by decide +kernel⟩⟩

theorem witness_HandshakesStep :
    (∃ (t : Nat) (s : State), s.boot.stage = .started ∧ s.pwr.entry = .inProgress ∧ stepOverdue (s.at t) 1 = false ∧ 1 ≤
      s.pwr.step ∧ s.pwr.step < 17 ∧ stepRefuses (s.at t) s.pwr.step = false ∧ (s.pwr.step ≠ 8 ∨ railsDown s = true)) ∧
    (∃ (t : Nat) (s : State), s.boot.stage = .started ∧ s.pwr.entry = .inProgress ∧ stepOverdue (s.at t) 1 = false ∧
      s.pwr.step = 8 ∧ railsDown s = false) ∧
    (∃ (t : Nat) (s : State), s.boot.stage = .started ∧ s.pwr.entry = .inProgress ∧ stepOverdue (s.at t) 1 = false ∧
      s.pwr.step = 17 ∧ s.pwr.target = 1 ∧ wakeStanding (s.at t) 1 = none) ∧
    (∃ (t : Nat) (s : State), s.boot.stage = .started ∧ s.pwr.entry = .inProgress ∧ stepOverdue (s.at t) 1 = false ∧
      s.pwr.step = 17 ∧ s.pwr.target = 2 ∧ wakeStanding (s.at t) 2 = none) ∧
    (∃ (t : Nat) (s : State), s.boot.stage = .started ∧ s.pwr.entry = .inProgress ∧ stepOverdue (s.at t) 1 = false ∧
      s.pwr.step = 17 ∧ s.pwr.target = 3) ∧
    (∃ (t : Nat) (s : State), s.boot.stage = .started ∧ s.pwr.entry = .inProgress ∧ stepOverdue (s.at t) 1 = false ∧
      s.pwr.step ≤ 6 ∧ s.pwr.retries < 8) ∧
    (∃ (t : Nat) (s : State), s.boot.stage = .started ∧ s.pwr.entry = .inProgress ∧ stepOverdue (s.at t) 1 = false ∧
      stepRefuses (s.at t) s.pwr.step = true ∧ s.pwr.retries < 8) ∧
    (∃ (t : Nat) (s : State), s.boot.stage = .started ∧ s.pwr.entry = .inProgress ∧ stepOverdue (s.at t) 1 = false ∧ 6 <
      s.pwr.step) ∧
    (∃ (t : Nat) (s : State), s.boot.stage = .started ∧ s.pwr.entry = .inProgress ∧ stepOverdue (s.at t) 0 = true ∧
      s.pwr.retries < 8) ∧
    (∃ (t : Nat) (s : State), s.boot.stage = .started ∧ s.pwr.entry = .inProgress ∧ stepOverdue (s.at t) 0 = true ∧ 8 ≤
      s.pwr.retries) ∧
    (∃ (t : Nat) (s : State), s.boot.stage = .started ∧ (s.pwr.entry ≠ .inProgress ∨ stepOverdue (s.at t) 0 = false)) ∧
    (∃ (s : State), s.boot.stage = .started ∧ s.pwr.entry ≠ .inProgress) ∧
    (∃ (t : Nat) (s : State), s.boot.stage = .started ∧ s.pwr.entry = .waitRetry ∧ s.pwr.stepAt + 10000000 ≤ max s.now t ∧
      wakeStanding (s.at t) s.pwr.target = none) ∧
    (∃ (t : Nat) (s : State), s.boot.stage = .started ∧ (s.pwr.entry ≠ .waitRetry ∨ max s.now t < s.pwr.stepAt +
      10000000)) :=
  ⟨⟨1000, (withPwr (fun p => { p with entry := .inProgress, step := 1, target := 1 }) run), by decide +kernel⟩,
   ⟨1000, (setRail 0 { Rail.initial with state := .falling } (withPwr (fun p =>
     { p with entry := .inProgress, step := 8, target := 1 }) run)), by decide +kernel⟩,
   ⟨1000, (withPwr (fun p => { p with entry := .inProgress, step := 17, target := 1 }) run), by decide +kernel⟩,
   ⟨1000, (withPwr (fun p => { p with entry := .inProgress, step := 17, target := 2 }) run), by decide +kernel⟩,
   ⟨1000, (withPwr (fun p => { p with entry := .inProgress, step := 17, target := 3 }) run), by decide +kernel⟩,
   ⟨1000, (withPwr (fun p => { p with entry := .inProgress, step := 6, target := 1 }) run), by decide +kernel⟩,
   ⟨1000, (withCal (fun c => { c with state := .running }) (withPwr (fun p =>
     { p with entry := .inProgress, step := 2, target := 1 }) run)), by decide +kernel⟩,
   ⟨1000, (withPwr (fun p => { p with entry := .inProgress, step := 7, target := 1 }) run), by decide +kernel⟩,
   ⟨100000000000, (withPwr (fun p => { p with entry := .inProgress, step := 1, target := 1 }) run), by decide +kernel⟩,
   ⟨100000000000, (withPwr (fun p => { p with entry := .inProgress, step := 1, target := 1, retries := 8 }) run),
     by decide +kernel⟩,
   ⟨1000, run, by decide +kernel⟩,
   ⟨run, by decide +kernel⟩,
   ⟨10000000, (withPwr (fun p => { p with entry := .waitRetry, step := 6, target := 1 }) run), by decide +kernel⟩,
   ⟨1000, run, by decide +kernel⟩⟩

theorem witness_SleepsEnd :
    (∃ (s : State), s.pwr.p3Off = true ∧ s.pins.pen2 = true) ∧
    (∃ (t : Nat) (s : State), s.pwr.p3Off = true ∧ s.pins.pen2 = false ∧ s.pwr.stepAt + 100000 ≤ max s.now t ∧ s.pins.pen1
      = true) ∧
    (∃ (t : Nat) (s : State), s.pwr.p3Off = true ∧ s.pins.pen2 = false ∧ s.pwr.stepAt + 100000 ≤ max s.now t ∧ s.pins.pen1
      = false) ∧
    (∃ (t : Nat) (s : State), s.pwr.p3Off = true ∧ s.pins.pen2 = false ∧ max s.now t < s.pwr.stepAt + 100000) ∧
    (∃ (s : State), s.pwr.p3Off = false) ∧
    (∃ (s : State), bit (oget s Ob.PWR_WAKEEN) 0 = false) ∧
    (∃ (s : State), bit (oget s Ob.PWR_WAKEEN) 0 = true ∧ oget s Ob.PWR_WAKEMODE = 0 ∧ s.boot.stage = .started ∧
      s.pwr.entry = .done ∧ s.pwr.state = .p1 ∧ s.pwr.p3Off = false) ∧
    (∃ (s : State), bit (oget s Ob.PWR_WAKEEN) 0 = true ∧ oget s Ob.PWR_WAKEMODE = 0 ∧ s.boot.stage = .asleep ∧
      s.pwr.entry ≠ .inProgress ∧ s.pwr.p3Off = false) ∧
    (∃ (t : Nat) (s : State), s.boot.stage = .asleep ∧ s.pwr.p3Off = false ∧ oget s Ob.PWR_P3TIMER ≠ 0 ∧ s.pwr.p3At +
      950000000 * oget s Ob.PWR_P3TIMER ≤ max s.now t) ∧
    (∃ (t : Nat) (s : State), (s.boot.stage ≠ .asleep ∨ oget s Ob.PWR_P3TIMER = 0 ∨ max s.now t < s.pwr.p3At + 950000000 *
      oget s Ob.PWR_P3TIMER)) ∧
    (∃ (s : State), s.pwr.state = .p2 ∧ s.pwr.waking = true ∧ (vcoreFloor s ≤ s.pwr.vack ∨ s.pwr.goal = none)) ∧
    (∃ (s : State), s.pwr.state = .p2 ∧ s.pwr.waking = true ∧ s.pwr.vack < vcoreFloor s ∧ s.pwr.goal ≠ none) ∧
    (∃ (t : Nat) (s : State), s.boot.stage = .waitVioAb ∧ s.boot.stageAt + 100000000 ≤ max s.now t) ∧
    (∃ (t : Nat) (s : State), s.boot.stage = .waitVioAb ∧ max s.now t < s.boot.stageAt + 100000000) :=
  ⟨⟨(withPwr (fun p => { p with p3Off := true }) up), by decide +kernel⟩,
   ⟨100000, (withPwr (fun p => { p with p3Off := true }) { up with pins := { up.pins with pen2 := false } }),
     by decide +kernel⟩,
   ⟨100000, (withPwr (fun p => { p with p3Off := true })
     { up with pins := { up.pins with pen2 := false, pen1 := false } }), by decide +kernel⟩,
   ⟨99999, (withPwr (fun p => { p with p3Off := true }) { up with pins := { up.pins with pen2 := false } }),
     by decide +kernel⟩,
   ⟨up, by decide +kernel⟩,
   ⟨(oset Ob.PWR_WAKEEN 0 up), by decide +kernel⟩,
   ⟨(oset Ob.PWR_WAKEEN 1 (oset Ob.PWR_WAKEMODE 0 (withPwr (fun p => { p with entry := .done, state := .p1 }) run))),
     by decide +kernel⟩,
   ⟨(oset Ob.PWR_WAKEEN 1 (oset Ob.PWR_WAKEMODE 0 (atStage .asleep run))), by decide +kernel⟩,
   ⟨9500000000, (oset Ob.PWR_P3TIMER 10 (atStage .asleep run)), by decide +kernel⟩,
   ⟨1000, (oset Ob.PWR_P3TIMER 10 (atStage .asleep run)), by decide +kernel⟩,
   ⟨(withPwr (fun p => { p with state := .p2, waking := true, vack := 800, goal := none }) run), by decide +kernel⟩,
   ⟨(withPwr (fun p => { p with state := .p2, waking := true, vack := 700, goal := some 720 }) run), by decide +kernel⟩,
   ⟨100000000, (atStage .waitVioAb run), by decide +kernel⟩,
   ⟨1000, (atStage .waitVioAb run), by decide +kernel⟩⟩

theorem witness_VcoreSteps :
    (∃ (t : Nat) (s : State) (r : _) (w : BitVec 16), s.pwr.pmb = some r ∧ r.at_ ≤ max s.now t ∧ max s.now t ≤ r.at_ +
      2000000 ∧ w.toNat &&& oget s Ob.PMB_STATMASK = 0) ∧
    (∃ (t : Nat) (s : State) (r : _) (acked : Bool) (w : BitVec 16) (pgood : Bool), s.pwr.pmb = some r ∧ r.at_ ≤ max s.now
      t ∧ r.tries < 2 ∧ max s.now t ≤ r.at_ + 2000000 ∧ (acked = false ∨ w.toNat &&& oget s Ob.PMB_STATMASK ≠ 0 ∨ pgood =
      false)) ∧
    (∃ (t : Nat) (s : State) (r : _), s.pwr.pmb = some r ∧ r.at_ + 2000000 < max s.now t ∧ r.tries < 2) ∧
    (∃ (t : Nat) (s : State) (r : _), s.pwr.pmb = some r ∧ max s.now t < r.at_) ∧
    (∃ (t : Nat) (s : State) (r : _), s.pwr.pmb = some r ∧ max s.now t < r.at_ + 2000000) ∧
    (∃ (t : Nat) (s : State) (r : _), s.pwr.pmb = some r ∧ r.at_ + 2000000 ≤ max s.now t ∧ r.tries < 2) ∧
    (∃ (t : Nat) (s : State) (r : _), s.pwr.pmb = some r ∧ r.at_ + 2000000 ≤ max s.now t ∧ 2 ≤ r.tries ∧ r.raise = false ∧
      s.pwr.raiseDue = false ∧ s.pwr.goal = none ∧ slackShort s = false) ∧
    (∃ (t : Nat) (s : State) (r : _), s.pwr.pmb = some r ∧ r.at_ + 2000000 ≤ max s.now t ∧ 2 ≤ r.tries ∧ r.raise = true ∧
      s.boot.stage = .started ∧ s.boot.op ≠ .boot) ∧
    (∃ (s : State), s.pwr.pmb = none) ∧
    (∃ (s : State), s.boot.stage = .started) ∧
    (∃ (t : Nat) (s : State) (g : _), s.pwr.holdoffTo ≤ max s.now t ∧ s.pwr.goal = some g ∧ g < s.pwr.vack ∧ s.pwr.pmb =
      none) ∧
    (∃ (t : Nat) (s : State), (max s.now t < s.pwr.holdoffTo ∨ s.pwr.goal = none)) :=
  ⟨⟨1000, (stepping request1), request1, 0, by decide +kernel⟩,
   ⟨1000, (stepping request1), request1, true, 0, false, by decide +kernel⟩,
   ⟨2000001, (stepping request1), request1, by decide +kernel⟩,
   ⟨1000, (stepping { request1 with at_ := 1001 }), { request1 with at_ := 1001 }, by decide +kernel⟩,
   ⟨1000, (stepping request1), request1, by decide +kernel⟩,
   ⟨2000000, (stepping request1), request1, by decide +kernel⟩,
   ⟨2000000, (stepping { request1 with tries := 2 }), { request1 with tries := 2 }, by decide +kernel⟩,
   ⟨2000000, (stepping { request1 with tries := 2, raise := true }), { request1 with tries := 2, raise := true },
     by decide +kernel⟩,
   ⟨up, by decide +kernel⟩,
   ⟨up, by decide +kernel⟩,
   ⟨1000, (withPwr (fun p => { p with goal := some 700, vack := 800 }) up), 700, by decide +kernel⟩,
   ⟨1000, (withPwr (fun p => { p with holdoffTo := 1001 }) up), by decide +kernel⟩⟩

theorem witness_ClocksAndPadsAreWatched :
    (∃ (t : Nat) (s : State) (d : Domain), monitored (s.at t) d = true) ∧
    (∃ (t : Nat) (s : State) (d : Domain), monitored (s.at t) d = false) ∧
    (∃ (t : Nat) (s : State) (d : Domain), 0x18 ≤ domainSub d ∧ domainSub d ≤ 0x1B ∧ resetDue (domainSub d) 100000 (s.at
      t) = true) ∧
    (∃ (t : Nat) (s : State) (d : Domain), 0x18 ≤ domainSub d ∧ domainSub d ≤ 0x1B ∧ resetDue (domainSub d) 100000 (s.at
      t) = false) ∧
    (∃ (t : Nat) (s : State) (band : Fin 4), resetDue (band.val + 0x13) 1000000 (s.at t) = true ∧ s.pins.pen3 = true) ∧
    (∃ (t : Nat) (s : State) (band : Fin 4), resetDue (band.val + 0x13) 1000000 (s.at t) = true) ∧
    (∃ (t : Nat) (s : State) (band : Fin 4), resetDue (band.val + 0x13) 1000000 (s.at t) = false) ∧
    (∃ (s : State) (d : Domain), (crossOf s (domainSub d)).state = .peerReset) ∧
    (∃ (s : State) (d : Domain), (crossOf s (domainSub d)).state ≠ .peerReset) ∧
    (∃ (s : State), s.boot.stage = .started ∧ s.boot.op ≠ .boot ∧ (mechOf s 12).active = false) ∧
    (∃ (s : State), s.boot.stage ≠ .started) ∧
    (∃ (s : State), s.pins.padsAb18 = none) ∧
    (∃ (s : State), s.pins.padsCd18 = none ∧ s.pins.pen2 = true) ∧
    (∃ (s : State), s.pins.padsAb18 ≠ none) ∧
    (∃ (t : Nat) (s : State) (h : Hdr) (v : BitVec 8) (n : Nat) (k : Nat), ((n = 0 ∧ bit v.toNat 0 = true) ∨ (n = 1 ∧ bit
      v.toNat 0 = false ∧ bit v.toNat 1 = true) ∨ (n = 2 ∧ v = 4)) ∧ k = Ob.PWR_PADREL_MGT + n ∧ writeTaken (s.at t) h k 1
      = true) ∧
    (∃ (t : Nat) (s : State) (h : Hdr), writeTaken (s.at t) h Ob.PWR_PADREL_MGT 0 = true) :=
  ⟨⟨1000, up, .raster, by decide +kernel⟩,
   ⟨1000, State.reset, .raster, by decide +kernel⟩,
   ⟨100000, { up with cross := [(0x18, { Crossing.initial with state := .timeout })] }, .can, by decide +kernel⟩,
   ⟨99999, { up with cross := [(0x18, { Crossing.initial with state := .timeout })] }, .can, by decide +kernel⟩,
   ⟨1000000, { up with cross := [(0x13, { Crossing.initial with state := .timeout })] }, 0, by decide +kernel⟩,
   ⟨1000000, { up with cross := [(0x13, { Crossing.initial with state := .timeout })] }, 0, by decide +kernel⟩,
   ⟨999999, { up with cross := [(0x13, { Crossing.initial with state := .timeout })] }, 0, by decide +kernel⟩,
   ⟨{ up with cross := [(0x18, { Crossing.initial with state := .peerReset })] }, .can, by decide +kernel⟩,
   ⟨up, .can, by decide +kernel⟩,
   ⟨up, by decide +kernel⟩,
   ⟨State.reset, by decide +kernel⟩,
   ⟨up, by decide +kernel⟩,
   ⟨up, by decide +kernel⟩,
   ⟨{ up with pins := { up.pins with padsAb18 := some true } }, by decide +kernel⟩,
   ⟨1000, up, hd, 4, 2, (Ob.PWR_PADREL_MGT + 2), by decide +kernel⟩,
   ⟨1000, up, hd, by decide +kernel⟩⟩

theorem witness_RecordsAndSnapshotsAreKept :
    (∃ (t : Nat) (r : JRec) (rest : List JRec) (s : State), s.jrn.buf = r :: rest ∧ s.jrn.present = true ∧ hasBuffer s =
      true ∧ crossUp (s.at t) 0x1B = true ∧ ringFull s (recSize r) = false) ∧
    (∃ (t : Nat) (r : JRec) (rest : List JRec) (s : State), s.jrn.buf = r :: rest ∧ s.jrn.present = true ∧ hasBuffer s =
      true ∧ crossUp (s.at t) 0x1B = true ∧ ringFull s (recSize r) = true) ∧
    (∃ (r : JRec) (rest : List JRec) (s : State), s.jrn.buf = r :: rest ∧ s.jrn.present = false) ∧
    (∃ (t : Nat) (r : JRec) (rest : List JRec) (s : State), s.jrn.buf = r :: rest ∧ r.at_ + 10000000000 ≤ max s.now t) ∧
    (∃ (t : Nat) (r : JRec) (rest : List JRec) (s : State), s.jrn.buf = r :: rest ∧ max s.now t < r.at_ + 10000000000) ∧
    (∃ (s : State), s.jrn.compact = true ∧ s.jrn.commitCal = false ∧ bankAway s 2 = false ∧ s.jrn.again = false ∧ s.poison
      = []) ∧
    (∃ (s : State), s.jrn.compact = true ∧ s.jrn.commitCal = false ∧ bankAway s 2 = false) ∧
    (∃ (s : State), (s.jrn.compact = false ∨ s.jrn.commitCal = true ∨ bankAway s 2 = true)) :=
  ⟨⟨1000, record1, [], kept, by decide +kernel⟩,
   ⟨1000, record1, [], (oset Ob.JRN_RSIZE 0 kept), by decide +kernel⟩,
   ⟨record1, [], (withJrn (fun j => { j with present := false }) kept), by decide +kernel⟩,
   ⟨10000000000, record1, [], kept, by decide +kernel⟩,
   ⟨1000, record1, [], kept, by decide +kernel⟩,
   ⟨(withJrn (fun j => { j with compact := true }) kept), by decide +kernel⟩,
   ⟨(withJrn (fun j => { j with compact := true }) kept), by decide +kernel⟩,
   ⟨kept, by decide +kernel⟩⟩

theorem witness_JournalKeepsItsContent :
    (∃ (t : Nat) (h : Hdr) (s : State), s.jrn.present = true ∧ writeTaken (s.at t) h Ob.JRN_CMD 1 = true ∧ bankAway s 2 =
      false) ∧
    (∃ (t : Nat) (h : Hdr) (s : State), s.jrn.present = true ∧ s.boot.op = .setup ∧ writeTaken (s.at t) h Ob.JRN_CMD 2 =
      true) ∧
    (∃ (t : Nat) (h : Hdr) (s : State), s.jrn.present = true ∧ s.boot.op = .setup ∧ writeTaken (s.at t) h Ob.JRN_CMD 3 =
      true ∧ oflag s Ob.JRN_FACTLOCK = false) ∧
    (∃ (t : Nat) (h : Hdr) (s : State), s.jrn.present = true ∧ s.boot.op = .setup ∧ writeTaken (s.at t) h Ob.JRN_CMD 3 =
      true ∧ oflag s Ob.JRN_FACTLOCK = true) ∧
    (∃ (t : Nat) (h : Hdr) (s : State), s.jrn.present = true ∧ s.boot.op = .setup ∧ writeTaken (s.at t) h Ob.JRN_CMD 4 =
      true ∧ bankAway s 2 = false ∧ s.jrn.nv.asBuilt ≠ none) ∧
    (∃ (t : Nat) (h : Hdr) (s : State), s.jrn.present = true ∧ s.boot.op = .setup ∧ writeTaken (s.at t) h Ob.JRN_CMD 4 =
      true ∧ bankAway s 2 = false ∧ s.jrn.nv.asBuilt = none) ∧
    (∃ (t : Nat) (h : Hdr) (s : State) (n : Nat) (c : Instr), (n, c) ∈ [(1, Instr.jrnCmdCompact t h), (2, .jrnCmdFormat t
      h), (3, .jrnCmdLock t h), (4, .jrnCmdAsbuilt t h)] ∧ writeTaken (s.at t) h Ob.JRN_CMD n = true ∧ n ≠ 1 ∧ s.boot.op ≠
      .setup) ∧
    (∃ (t : Nat) (h : Hdr) (s : State) (n : Nat) (c : Instr), (n, c) ∈ [(1, Instr.jrnCmdCompact t h), (2, .jrnCmdFormat t
      h), (3, .jrnCmdLock t h), (4, .jrnCmdAsbuilt t h)] ∧ writeTaken (s.at t) h Ob.JRN_CMD n = true ∧ (n = 1 ∨ (n = 4 ∧
      s.boot.op = .setup)) ∧ bankAway s 2 = true) ∧
    (∃ (t : Nat) (h : Hdr) (s : State) (n : Nat) (c : Instr), (n, c) ∈ [(1, Instr.jrnCmdCompact t h), (2, .jrnCmdFormat t
      h), (3, .jrnCmdLock t h), (4, .jrnCmdAsbuilt t h)] ∧ writeTaken (s.at t) h Ob.JRN_CMD n = true ∧ (n = 1 ∨ s.boot.op
      = .setup) ∧ bankAway s 2 = false ∧ s.jrn.present = false) ∧
    (∃ (t : Nat) (s : State), codes s = true ∧ s.jrn.mapsDone = true ∧ pieceDue (s.at t) = true ∧ s.poison = [] ∧ ringFull
      s (2 * pieceCoded s (oget s Ob.JRN_LEDPIECE)) = false) ∧
    (∃ (t : Nat) (s : State), (codes s = false ∨ pieceDue (s.at t) = false ∨ s.jrn.mapsDone = false)) ∧
    (∃ (t : Nat) (s : State), codes s = true ∧ max s.jrn.doseAt s.boot.upSince + 3600000000000 ≤ max s.now t) ∧
    (∃ (t : Nat) (s : State), (codes s = false ∨ max s.now t < max s.jrn.doseAt s.boot.upSince + 3600000000000)) ∧
    (∃ (s : State), s.boot.stage = .started ∧ s.boot.op ≠ .boot ∧ s.jrn.mapsDone = false ∧ (s.jrn.present = true ∨
      s.jrn.redo ≠ [])) ∧
    (∃ (s : State), (s.boot.stage ≠ .started ∨ s.boot.op = .boot ∨ s.jrn.mapsDone = true)) :=
  ⟨⟨1000, hd, kept, by decide +kernel⟩,
   ⟨1000, hd, kept, by decide +kernel⟩,
   ⟨1000, hd, kept, by decide +kernel⟩,
   ⟨1000, hd, (oset Ob.JRN_FACTLOCK 1 kept), by decide +kernel⟩,
   ⟨1000, hd, (withJrn (fun j => { j with nv := { j.nv with asBuilt := some ([], []) } }) kept), by decide +kernel⟩,
   ⟨1000, hd, kept, by decide +kernel⟩,
   ⟨1000, hd, (inOp .run kept), 2, (.jrnCmdFormat 1000 hd), by decide +kernel⟩,
   ⟨1000, hd, (setBank 2 { Bank.initial 2 with owner := 3 } kept), 1, (.jrnCmdCompact 1000 hd), by decide +kernel⟩,
   ⟨1000, hd, up, 1, (.jrnCmdCompact 1000 hd), by decide +kernel⟩,
   ⟨1000, (withJrn (fun j => { j with mapsDone := true }) smallPanel), by decide +kernel⟩,
   ⟨1000, up, by decide +kernel⟩,
   ⟨3600000000000, smallPanel, by decide +kernel⟩,
   ⟨1000, up, by decide +kernel⟩,
   ⟨kept, by decide +kernel⟩,
   ⟨State.reset, by decide +kernel⟩⟩

theorem witness_CountersFollowTheirWrites :
    (∃ (t : Nat) (h : Hdr) (s : State) (v : BitVec 8), writeTaken (s.at t) h Ob.TLM_SNAPCMD v.toNat = true) ∧
    (∃ (t : Nat) (h : Hdr) (s : State) (counter : Fin 32) (v : BitVec 8), writeTaken (s.at t) h (Ob.EVC_SEL + counter.val)
      v.toNat = true) ∧
    (∃ (t : Nat) (h : Hdr) (s : State) (v : BitVec 32), writeTaken (s.at t) h Ob.EVC_CLEAR v.toNat = true) :=
  ⟨⟨1000, hd, up, 1, by decide +kernel⟩,
   ⟨1000, hd, up, 3, 5, by decide +kernel⟩,
   ⟨1000, hd, up, 9, by decide +kernel⟩⟩

theorem witness_GroupsTimeOut :
    (∃ (t : Nat) (g : BitVec 6) (s : State), (groupOf s g.toNat).begun + 1000000 * oget s Ob.TRX_GRP_TIMEOUT ≤ max s.now t
      ∧ (groupOf s g.toNat).state = .opened) ∧
    (∃ (t : Nat) (g : BitVec 6) (s : State), (groupOf s g.toNat).begun + 1000000 * oget s Ob.TRX_GRP_TIMEOUT ≤ max s.now t
      ∧ (groupOf s g.toNat).state = .aborted) ∧
    (∃ (t : Nat) (g : BitVec 6) (s : State), (groupOf s g.toNat).begun + 1000000 * oget s Ob.TRX_GRP_TIMEOUT ≤ max s.now t
      ∧ (groupOf s g.toNat).state ≠ .opened ∧ (groupOf s g.toNat).state ≠ .aborted) ∧
    (∃ (t : Nat) (g : BitVec 6) (s : State), max s.now t < (groupOf s g.toNat).begun + 1000000 * oget s
      Ob.TRX_GRP_TIMEOUT) :=
  ⟨⟨1000000000000, 1, (grouped opened), by decide +kernel⟩,
   ⟨1000000000000, 1, (grouped { opened with state := .aborted, reason := 3 }), by decide +kernel⟩,
   ⟨1000000000000, 1, linked, by decide +kernel⟩,
   ⟨1000, 1, (grouped opened), by decide +kernel⟩⟩

theorem witness_RecordWordsAreLatched :
    (∃ (t : Nat) (e : Nat) (f : Frame) (s : State), f.data = [] ∧ taken (s.at t) f.hdr 0 = true ∧ rowAt f.index.toNat
      f.sub.toNat = none ∧ winAt f.index.toNat f.sub.toNat = some (0x7200, e) ∧ e ≠ 0 ∧ (e - 1) % 3 = 0) ∧
    (∃ (t : Nat) (e : Nat) (f : Frame) (s : State), f.data = [] ∧ taken (s.at t) f.hdr 0 = true ∧ rowAt f.index.toNat
      f.sub.toNat = none ∧ winAt f.index.toNat f.sub.toNat = some (0x7200, e) ∧ e ≠ 0 ∧ (e - 1) % 3 ≠ 0) :=
  ⟨⟨1000, 1, { hdr := hd, index := 0x7200, sub := 1, data := [] }, up, by decide +kernel⟩,
   ⟨1000, 2, { hdr := hd, index := 0x7200, sub := 2, data := [] }, up, by decide +kernel⟩⟩

theorem witness_UnsealedRunsPlain :
    (∃ (s : State), s.boot.op = .setup ∧ oflag s Ob.SAF_SEALED = false ∧ (oget s Ob.FRS_DEFCLASS ≠ 0 ∨ ∃ e ∈
      s.scan.regAct, bit e.2 63 = true ∧ field e.2 61 2 ≠ 0)) ∧
    (∃ (s : State) (c : Change), s.boot.op = .setup ∧ oflag s Ob.SAF_SEALED = false ∧ (oget s Ob.FRS_DEFCLASS ≠ 0 ∨ ∃ e ∈
      s.scan.regAct, bit e.2 63 = true ∧ field e.2 61 2 ≠ 0) ∧ c.kind = 1 ∧ c.arg = 2) :=
  ⟨⟨(oset Ob.FRS_DEFCLASS 1 readyToRun), by decide +kernel⟩,
   ⟨(oset Ob.FRS_DEFCLASS 1 readyToRun), { epoch := 20, gen := 1, kind := 1, arg := 2 }, by decide +kernel⟩⟩

theorem witness_StepRunsTheFrontCommand :
    (∃ (c : Instr) (q : List Instr) (s : State), s.pending = c :: q) ∧
    (∃ (s : State), s.pending = []) :=
  ⟨⟨(.pmbHoldoffExpiry 5), [], { up with pending := [.pmbHoldoffExpiry 5] }, by decide +kernel⟩,
   ⟨up, by decide +kernel⟩⟩

theorem witness_CommandsComplete :
    ∃ (w : Nat), dramTop ≤ 8 * w :=
  ⟨0xFFFFFFFF, by decide +kernel⟩

end Sys2Proof.Tests
end

section
/-!
SUPPORT. The NAK of a group and the abort that ends in it (R102, R106, R120): what each queues on the back link and leaves of
the group; and from them the group timeout (R107).
-/

namespace Sys2Proof.Machine

/-! ## The NAK of a group -/

@[simp] theorem setGroup_back (g : Nat) (v : Group) (s : State) : (setGroup g v s).trx.back = s.trx.back := rfl

@[simp] theorem sendNak_back (p : BackPkt) (s : State) : (sendNak p s).trx.back = s.trx.back ++ [p] := by
  simp [sendNak, pushBack]

@[simp] theorem groupOf_nakGroup (g reason detail : Nat) (s : State) :
    groupOf (nakGroup g reason detail s) g = { Group.none with gen := (groupOf s g).gen } := by
  simp [nakGroup]

@[simp] theorem nakGroup_back (g reason detail : Nat) (s : State) :
    (nakGroup g reason detail s).trx.back =
      s.trx.back ++ [.mk .nak 1 (groupOf s g).gen 0 g 0 (nakWord reason 0 detail) 0 []] := by
  simp [nakGroup]

/-! ## The abort of a group that has been ended -/

/-- The abort of an ended group NAKs the group as its last act, in its generation (R106). -/
theorem abortGroup_of_ended {g : Nat} {s : State} (reason detail : Nat) (h : (groupOf s g).ended = true) :
    ∃ s2, abortGroup g reason detail s = nakGroup g reason detail s2 ∧ (groupOf s2 g).gen = (groupOf s g).gen := by
  simp only [abortGroup, h, if_true]
  exact ⟨_, rfl, by simp⟩

theorem groupOf_abortGroup_of_ended {g : Nat} {s : State} (reason detail : Nat) (h : (groupOf s g).ended = true) :
    groupOf (abortGroup g reason detail s) g = { Group.none with gen := (groupOf s g).gen } := by
  obtain ⟨s2, hs2, hgen⟩ := abortGroup_of_ended reason detail h
  rw [hs2, groupOf_nakGroup, hgen]

theorem abortGroup_back_getLast_of_ended {g : Nat} {s : State} (reason detail : Nat) (h : (groupOf s g).ended = true) :
    (abortGroup g reason detail s).trx.back.getLast? =
      some (.mk .nak 1 (groupOf s g).gen 0 g 0 (nakWord reason 0 detail) 0 []) := by
  obtain ⟨s2, hs2, hgen⟩ := abortGroup_of_ended reason detail h
  rw [hs2, nakGroup_back, hgen, List.getLast?_concat]

/-! ## GROUP_TIMEOUT, case by case (R107) -/

/-- The time at which the timer of a group runs out (R107). -/
def groupDeadline (s : State) (g : Nat) : Nat := (groupOf s g).begun + 1000000 * oget s Ob.TRX_GRP_TIMEOUT

section
variable {t : Nat} {g : BitVec 6} {s : State}

theorem exec_groupTimeout_early (h : max s.now t < groupDeadline s g.toNat) :
    exec (.groupTimeout t g) s = .next (s.at t) :=
  congrArg Host.Outcome.next (if_pos h)

theorem exec_groupTimeout_due (h : groupDeadline s g.toNat ≤ max s.now t) :
    exec (.groupTimeout t g) s =
      .next (if (groupOf s g.toNat).state = .aborted then
          nakGroup g.toNat (groupOf s g.toNat).reason (groupOf s g.toNat).detail (s.at t)
        else if (groupOf s g.toNat).state = .opened then
          abortGroup g.toNat 0x22 0 (setGroup g.toNat { groupOf s g.toNat with ended := true } (s.at t))
        else s.at t) :=
  congrArg Host.Outcome.next (if_neg (Nat.not_lt.2 h))

theorem exec_groupTimeout_aborted (h : groupDeadline s g.toNat ≤ max s.now t)
    (ha : (groupOf s g.toNat).state = .aborted) :
    exec (.groupTimeout t g) s =
      .next (nakGroup g.toNat (groupOf s g.toNat).reason (groupOf s g.toNat).detail (s.at t)) := by
  rw [exec_groupTimeout_due h, if_pos ha]

theorem exec_groupTimeout_opened (h : groupDeadline s g.toNat ≤ max s.now t)
    (ho : (groupOf s g.toNat).state = .opened) :
    exec (.groupTimeout t g) s =
      .next (abortGroup g.toNat 0x22 0 (setGroup g.toNat { groupOf s g.toNat with ended := true } (s.at t))) := by
  rw [exec_groupTimeout_due h, if_neg (by simp [ho]), if_pos ho]

theorem exec_groupTimeout_other (h : groupDeadline s g.toNat ≤ max s.now t)
    (ho : (groupOf s g.toNat).state ≠ .opened) (ha : (groupOf s g.toNat).state ≠ .aborted) :
    exec (.groupTimeout t g) s = .next (s.at t) := by
  rw [exec_groupTimeout_due h, if_neg ha, if_neg ho]

theorem exec_groupTimeout_mem {s' : State} (h : exec (.groupTimeout t g) s = .next s') : s'.mem = s.mem :=
  (kept_execGroupTimeout t g (fun _ => id) (Kept.start _ s) s' h).rest.mem (by decide)

end

/-- Settles O51: an OPEN group is marked ended and so its abort ends with the group NAK; an ABORTED group is NAKed with the
reason it holds. -/
theorem groupsTimeOut : Obligations.GroupsTimeOut := by
  intro t g s
  refine ⟨fun hdue => ⟨fun ho => ?opened, fun ha => ?aborted, exec_groupTimeout_other hdue⟩, exec_groupTimeout_early⟩
  case opened =>
    have hx := exec_groupTimeout_opened hdue ho
    have hended : (groupOf (setGroup g.toNat { groupOf s g.toNat with ended := true } (s.at t)) g.toNat).ended = true := by
      simp
    refine ⟨_, hx, ?_, exec_groupTimeout_mem hx, ?_⟩
    · rw [groupOf_abortGroup_of_ended _ _ hended, groupOf_setGroup]
    · rw [abortGroup_back_getLast_of_ended _ _ hended, groupOf_setGroup]
  case aborted =>
    have hx := exec_groupTimeout_aborted hdue ha
    exact ⟨_, hx, groupOf_nakGroup .., exec_groupTimeout_mem hx, nakGroup_back ..⟩

end Sys2Proof.Machine
end

section
/-!
SUPPORT. A READ that is taken, from its frame to its answer (R359, R361), and the latch of driver records that a READ of
DLK_REPWIN takes and reads (R395).
-/

namespace Sys2Proof.Machine

/-! ## The state in which a taken request runs -/

@[simp] theorem portOf_counted (h : Hdr) (s : State) :
    portOf (counted s h) h.port = { portOf s h.port with lastReq := s.now } := by
  simp [counted]

@[simp] theorem counted_scan (h : Hdr) (s : State) : (counted s h).scan = s.scan := by simp [counted]

@[simp] theorem counted_drvRec (h : Hdr) (s : State) : (counted s h).drvRec = s.drvRec := by simp [counted]

theorem oget_counted {k : Nat} (h : Hdr) (s : State) (hc : notCounter k = true) (hk : k ≠ Ob.WNP_EVTPEND) :
    oget (counted s h) k = oget s k :=
  (oget_evc _ _ _ hc).trans (oget_setPort _ _ _ hk)

theorem kept_counted {m : List Part} {s0 s : State} (h : Hdr) (hm : Sub [.obj, .pins, .mgt] m) (hs : Kept m s0 s) :
    Kept m s0 (counted s h) :=
  kept_evc _ (Sub.trans (by decide) hm) (kept_setPort _ _ hm hs)

/-- A request is taken in an open session only. -/
theorem active_of_taken {s : State} {h : Hdr} {n : Nat} (ht : taken s h n = true) : (portOf s h.port).active = true := by
  simp only [taken, Bool.and_eq_true] at ht
  obtain ⟨⟨⟨⟨⟨-, hact⟩, -⟩, -⟩, -⟩, -⟩ := ht
  exact hact

/-- An answer changes its port and the event output alone. -/
theorem kept_answerTaken {m : List Part} {s0 : State} {sa : State × Answer} (op : Nat) (h : Hdr) (ix sub : Nat)
    (data : List Byte) (gen : Nat) (hm : Sub [.obj, .pins, .mgt] m) (hs : KeptP m s0 sa) :
    Kept m s0 (answerTaken op h ix sub data gen sa) := by
  obtain ⟨v, hv⟩ | hv := answerTaken_cases op h ix sub data gen sa
  · rw [hv]
    exact kept_setPort _ _ hm hs
  · rw [hv]
    exact hs

/-! ## The answer in a session that the run leaves open -/

section
variable {op : Nat} {h : Hdr} {ix sub : Nat} {data : List Byte} {gen : Nat} {sa : State × Answer}
  (ha : (portOf sa.1 h.port).active = true) (hg : (portOf sa.1 h.port).gen = gen)
include ha hg

/-- The response is queued and cached, and the port is otherwise as the run left it (R359, R360). -/
theorem answerTaken_of_open :
    ∃ cache, answerTaken op h ix sub data gen sa = setPort h.port { portOf sa.1 h.port with
      queue := (portOf sa.1 h.port).queue ++ [respOf op h ix sub sa.2 true sa.1.now], cache := cache } sa.1 :=
  ⟨_, if_pos ⟨ha, hg⟩⟩

theorem answerTaken_repLatch_of_open :
    (portOf (answerTaken op h ix sub data gen sa) h.port).repLatch = (portOf sa.1 h.port).repLatch := by
  obtain ⟨cache, hp⟩ := answerTaken_of_open (op := op) (ix := ix) (sub := sub) (data := data) ha hg
  rw [hp, portOf_setPort_same]

theorem lastAnswer_answerTaken_of_open (hst : sa.2.status < 256) :
    lastAnswer (answerTaken op h ix sub data gen sa) h.port =
      some (128 + op % 128, h.tag.toNat, sa.2.status, sa.2.data) := by
  obtain ⟨cache, hp⟩ := answerTaken_of_open (op := op) (ix := ix) (sub := sub) (data := data) ha hg
  have hone : (toBE 1 sa.2.status).length = 1 := toBE_length 1 _
  rw [hp, lastAnswer, portOf_setPort_same, List.getLast?_concat, Option.map_some]
  simp only [respOf, List.take_left' hone, List.drop_left' hone, ofBE_toBE 1 _ hst]

end

/-! ## READ -/

/-- A READ that is taken runs on the counted state. -/
theorem exec_read_taken {t : Nat} {f : Frame} {s : State} (hd : f.data = []) (ht : taken (s.at t) f.hdr 0 = true) :
    exec (.read t f) s =
      .next (answerTaken 3 f.hdr f.index.toNat f.sub.toNat [] (portOf (s.at t) f.hdr.port).gen
        (runRead f.hdr.port f.index.toNat f.sub.toNat (counted (s.at t) f.hdr))) := by
  have hrun : exec (.read t f) s = .next (request 3 f.hdr f.index.toNat f.sub.toNat f.data
      (runReadReq f.hdr.port f.index.toNat f.sub.toNat f.data) (s.at t)) := rfl
  rw [hrun, hd, request_taken _ _ _ _ _ _ _ ht]
  rfl

theorem runRead_of_win {p : Port} {ix sub base e : Nat} (s : State) (hr : rowAt ix sub = none)
    (hw : winAt ix sub = some (base, e)) :
    runRead p ix sub s = ((readWin p base e s).1, ⟨St.ok, toBE (readWin p base e s).2.1 (readWin p base e s).2.2⟩) := by
  simp only [runRead, hr, hw]

/-! ## DLK_REPWIN (R395) -/

theorem readWin_rep {e : Nat} (p : Port) (s : State) (he : e ≠ 0) :
    readWin p 0x7200 e s =
      ((readRep p ((e - 1) / 3) ((e - 1) % 3) s).1, 8, (readRep p ((e - 1) / 3) ((e - 1) % 3) s).2) := by
  simp [readWin, he]

/-- The newest record of a driver rests on the panel's configuration and the records kept. -/
theorem lastRec_congr {a s : State} (d : Nat) (hb : oget s Ob.SCAN_BANDS = oget a Ob.SCAN_BANDS)
    (hs : s.scan = a.scan) (hr : s.drvRec = a.drvRec) : lastRec s d = lastRec a d := by
  unfold lastRec drvUsed bandCount rget
  rw [hb, hs, hr]

theorem lastRec_counted (h : Hdr) (s : State) (d : Nat) : lastRec (counted s h) d = lastRec s d :=
  lastRec_congr d (oget_counted h s (by decide) (by decide)) (counted_scan h s) (counted_drvRec h s)

theorem lastRec_at (t : Nat) (s : State) (d : Nat) : lastRec (s.at t) d = lastRec s d := rfl

/-- Word 0 latches the newest record of the driver and answers its first word. -/
theorem readRep_of_eq_zero {k : Nat} (p : Port) (d : Nat) (s : State) (hk : k = 0) :
    readRep p d k s =
      (setPort p { portOf s p with repLatch := put (fun _ => 0) (portOf s p).repLatch d (lastRec s d) } s,
        recWord (lastRec s d) 0) := if_pos hk

/-- The other words come from the latch, and nothing changes. -/
theorem readRep_of_ne_zero {k : Nat} (p : Port) (d : Nat) (s : State) (hk : k ≠ 0) :
    readRep p d k s = (s, recWord (get (fun _ => 0) (portOf s p).repLatch d) k) := if_neg hk

/-- A read of the window keeps the session of its port. -/
theorem readRep_session (p : Port) (d k : Nat) (s : State) :
    (portOf (readRep p d k s).1 p).active = (portOf s p).active ∧
      (portOf (readRep p d k s).1 p).gen = (portOf s p).gen := by
  obtain hk | hk := eq_or_ne k 0
  · simp [readRep_of_eq_zero p d s hk]
  · simp [readRep_of_ne_zero p d s hk]

theorem recWord_zero (k : Nat) : recWord 0 k = 0 := by simp [recWord, field]

/-- A READ of a word of DLK_REPWIN that is taken leaves the latches, and answers the word, that the read of the window on
the counted state gives. -/
theorem exec_read_rep {t e v : Nat} {f : Frame} {s s1 : State} (hd : f.data = [])
    (ht : taken (s.at t) f.hdr 0 = true) (hr : rowAt f.index.toNat f.sub.toNat = none)
    (hw : winAt f.index.toNat f.sub.toNat = some (0x7200, e)) (he : e ≠ 0)
    (hrep : readRep f.hdr.port ((e - 1) / 3) ((e - 1) % 3) (counted (s.at t) f.hdr) = (s1, v)) :
    ∃ s', exec (.read t f) s = .next s' ∧
      (portOf s' f.hdr.port).repLatch = (portOf s1 f.hdr.port).repLatch ∧
      lastAnswer s' f.hdr.port = some (131, f.hdr.tag.toNat, St.ok, toBE 8 v) ∧
      s.sameBut [.obj, .mgt, .pins] s' := by
  have hx := exec_read_taken hd ht
  rw [runRead_of_win _ hr hw, readWin_rep _ _ he, hrep] at hx
  obtain ⟨hact, hgen⟩ := readRep_session f.hdr.port ((e - 1) / 3) ((e - 1) % 3) (counted (s.at t) f.hdr)
  rw [hrep, portOf_counted] at hact hgen
  have hopen := hact.trans (active_of_taken ht)
  have hm : Sub [.obj, .pins, .mgt] [.obj, .mgt, .pins] := Sub.trans (by decide) fun _ => id
  have hrun : Kept [.obj, .mgt, .pins] s s1 :=
    kept_eqP hrep (kept_readRep _ _ _ hm (kept_counted f.hdr hm (kept_State_at t (Kept.start _ s))))
  exact ⟨_, hx, answerTaken_repLatch_of_open hopen hgen,
    lastAnswer_answerTaken_of_open hopen hgen (show St.ok < 256 by decide),
    (kept_answerTaken _ _ _ _ _ _ hm (keptP_mk hrun)).rest⟩

/-- Settles O52: word 0 puts the newest record into the latch of its driver alone, and the other words read the latch. -/
theorem recordWordsAreLatched : Obligations.RecordWordsAreLatched := by
  refine ⟨fun p => by cases p <;> rfl, recWord_zero, fun t e f s hd ht hr hw he => ⟨fun hk => ?word0, fun hk => ?word12⟩⟩
  case word0 =>
    obtain ⟨s', hx, hlatch, hans, hsame⟩ := exec_read_rep hd ht hr hw he (readRep_of_eq_zero _ _ _ hk)
    rw [portOf_setPort_same, portOf_counted, portOf_at, lastRec_counted, lastRec_at] at hlatch
    rw [lastRec_counted, lastRec_at] at hans
    exact ⟨s', hx, by rw [hlatch, get_put_same], fun d hne => by rw [hlatch, get_put_ne _ _ _ hne], hans, hsame⟩
  case word12 =>
    obtain ⟨s', hx, hlatch, hans, hsame⟩ := exec_read_rep hd ht hr hw he (readRep_of_ne_zero _ _ _ hk)
    rw [portOf_counted, portOf_at] at hlatch hans
    exact ⟨s', hx, hlatch, hans, hsame⟩

end Sys2Proof.Machine
end

section
/-!
SUPPORT. The whole machine: the frame of every command, one arm for each, and from it what every step keeps and that every
command completes.
-/

namespace Sys2Proof.Machine

open Sys2Proof

/-- A command changes only the parts of its row of `footprint`, and keeps the queue, the time's order and a safe state. -/
theorem kept_exec (c : Instr) (s : State) : KeptO (footprint c) s (exec c s) := by
  cases c with
  | powerOnReset t retentionLost straps => exact kept_execPowerOnReset _ _ _ (fun _ => id) (Kept.start _ s)
  | fuseLoad t => exact kept_execFuseLoad _ (fun _ => id) (Kept.start _ s)
  | pgoodRise t => exact kept_execPgoodRise _ (fun _ => id) (Kept.start _ s)
  | supplyInWindow t which => exact kept_execSupplyInWindow _ _ (fun _ => id) (Kept.start _ s)
  | supplyStartTimeout t => exact kept_execSupplyStartTimeout _ (fun _ => id) (Kept.start _ s)
  | supplyRetryTimer t => exact kept_execSupplyRetryTimer _ (fun _ => id) (Kept.start _ s)
  | dieLeavesReset t fuses testMode => exact kept_execDieLeavesReset _ _ _ (fun _ => id) (Kept.start _ s)
  | bootEnd t report => exact kept_execBootEnd _ _ (fun _ => id) (Kept.start _ s)
  | pinReset t lowUs => exact kept_execPinReset _ _ (fun _ => id) (Kept.start _ s)
  | rstSoft t hdr value => exact kept_execRstSoft _ _ _ (fun _ => id) (Kept.start _ s)
  | lockstepReset t => exact kept_execLockstepReset _ (fun _ => id) (Kept.start _ s)
  | resetStretchEnd t fuses extLowUs testMode => exact kept_execResetStretchEnd _ _ _ _ (fun _ => id) (Kept.start _ s)
  | devStateRun t hdr => exact kept_execDevStateRun _ _ (fun _ => id) (Kept.start _ s)
  | devStateSetup t hdr => exact kept_execDevStateSetup _ _ (fun _ => id) (Kept.start _ s)
  | safClear t hdr value => exact kept_execSafClear _ _ _ (fun _ => id) (Kept.start _ s)
  | safBandclr t hdr value => exact kept_execSafBandclr _ _ _ (fun _ => id) (Kept.start _ s)
  | sealCfg t hdr => exact kept_execSealCfg _ _ (fun _ => id) (Kept.start _ s)
  | unsealCfg t hdr => exact kept_execUnsealCfg _ _ (fun _ => id) (Kept.start _ s)
  | safInjGo t hdr value => exact kept_execSafInjGo _ _ _ (fun _ => id) (Kept.start _ s)
  | configCrcCheck t corrupt => exact kept_execConfigCrcCheck _ _ (fun _ => id) (Kept.start _ s)
  | configReloadTimeout t => exact kept_execConfigReloadTimeout _ (fun _ => id) (Kept.start _ s)
  | lockstepMismatch t => exact kept_execLockstepMismatch _ (fun _ => id) (Kept.start _ s)
  | coreWatchdogExpiry t => exact kept_execCoreWatchdogExpiry _ (fun _ => id) (Kept.start _ s)
  | laneBlockReceived t lane line skew => exact kept_execLaneBlockReceived _ _ _ _ (fun _ => id) (Kept.start _ s)
  | trainMessageReceived t lane msg => exact kept_execTrainMessageReceived _ _ _ (fun _ => id) (Kept.start _ s)
  | detectLockWaitEnd t => exact kept_execDetectLockWaitEnd _ (fun _ => id) (Kept.start _ s)
  | capTimeout t => exact kept_execCapTimeout _ (fun _ => id) (Kept.start _ s)
  | stepIdleEnd t => exact kept_execStepIdleEnd _ (fun _ => id) (Kept.start _ s)
  | acceptanceTestDone t eyes => exact kept_execAcceptanceTestDone _ _ (fun _ => id) (Kept.start _ s)
  | resultTimeout t => exact kept_execResultTimeout _ (fun _ => id) (Kept.start _ s)
  | goTimeout t => exact kept_execGoTimeout _ (fun _ => id) (Kept.start _ s)
  | cdrLossOfLock t lane => exact kept_execCdrLossOfLock _ _ (fun _ => id) (Kept.start _ s)
  | reconfigTimeout t => exact kept_execReconfigTimeout _ (fun _ => id) (Kept.start _ s)
  | pxlRetrain t hdr value => exact kept_execPxlRetrain _ _ _ (fun _ => id) (Kept.start _ s)
  | backgroundRetrainDone t lane eyes => exact kept_execBackgroundRetrainDone _ _ _ (fun _ => id) (Kept.start _ s)
  | backgroundRetryTimer t lane => exact kept_execBackgroundRetryTimer _ _ (fun _ => id) (Kept.start _ s)
  | forwardLaneActivity t active => exact kept_execForwardLaneActivity _ _ (fun _ => id) (Kept.start _ s)
  | laneRelockDone t locked => exact kept_execLaneRelockDone _ _ (fun _ => id) (Kept.start _ s)
  | pxlPrbsStart t hdr value => exact kept_execPxlPrbsStart _ _ _ (fun _ => id) (Kept.start _ s)
  | prbsTestEnd t received => exact kept_execPrbsTestEnd _ _ (fun _ => id) (Kept.start _ s)
  | tile t hdr payload crc => exact kept_execTile _ _ _ _ (fun _ => id) (Kept.start _ s)
  | token t hdr => exact kept_execToken _ _ (fun _ => id) (Kept.start _ s)
  | groupBegin t hdr => exact kept_execGroupBegin _ _ (fun _ => id) (Kept.start _ s)
  | groupEnd t hdr => exact kept_execGroupEnd _ _ (fun _ => id) (Kept.start _ s)
  | srcframe t hdr => exact kept_execSrcframe _ _ (fun _ => id) (Kept.start _ s)
  | linkctlSwitch t => exact kept_execLinkctlSwitch _ (fun _ => id) (Kept.start _ s)
  | linkctlSleep t => exact kept_execLinkctlSleep _ (fun _ => id) (Kept.start _ s)
  | linkctlBackloss t hdr => exact kept_execLinkctlBackloss _ _ (fun _ => id) (Kept.start _ s)
  | linkctlDigestReq t => exact kept_execLinkctlDigestReq _ (fun _ => id) (Kept.start _ s)
  | linkctlBadop t hdr => exact kept_execLinkctlBadop _ _ (fun _ => id) (Kept.start _ s)
  | headerLost t => exact kept_execHeaderLost _ (fun _ => id) (Kept.start _ s)
  | lakeTileDecoded t tag => exact kept_execLakeTileDecoded _ _ (fun _ => id) (Kept.start _ s)
  | groupTimeout t group => exact kept_execGroupTimeout _ _ (fun _ => id) (Kept.start _ s)
  | sourceSilent t => exact kept_execSourceSilent _ (fun _ => id) (Kept.start _ s)
  | commitEnginePop t => exact kept_execCommitEnginePop _ (fun _ => id) (Kept.start _ s)
  | commitCopyDone t => exact kept_execCommitCopyDone _ (fun _ => id) (Kept.start _ s)
  | backPacketSend t => exact kept_execBackPacketSend _ (fun _ => id) (Kept.start _ s)
  | frameStart t period slotCounts slot0Late => exact kept_execFrameStart _ _ _ _ (fun _ => id) (Kept.start _ s)
  | rowSlotStart t => exact kept_execRowSlotStart _ (fun _ => id) (Kept.start _ s)
  | rowPrepareStart t band row => exact kept_execRowPrepareStart _ _ _ (fun _ => id) (Kept.start _ s)
  | lineComplete t band half row slack => exact kept_execLineComplete _ _ _ _ _ (fun _ => id) (Kept.start _ s)
  | tableCopySynced t index sub => exact kept_execTableCopySynced _ _ _ (fun _ => id) (Kept.start _ s)
  | scanShowReq t hdr value => exact kept_execScanShowReq _ _ _ (fun _ => id) (Kept.start _ s)
  | rowrepReceived t band header records => exact kept_execRowrepReceived _ _ _ _ (fun _ => id) (Kept.start _ s)
  | statusFrameReceived t band header records => exact kept_execStatusFrameReceived _ _ _ _ (fun _ => id) (Kept.start _ s)
  | dlkLockTimeout t band => exact kept_execDlkLockTimeout _ _ (fun _ => id) (Kept.start _ s)
  | dlkStepTestDone t band result => exact kept_execDlkStepTestDone _ _ _ (fun _ => id) (Kept.start _ s)
  | dlkRetrain t hdr value => exact kept_execDlkRetrain _ _ _ (fun _ => id) (Kept.start _ s)
  | dlkFailedRetry t band => exact kept_execDlkFailedRetry _ _ (fun _ => id) (Kept.start _ s)
  | dlkDrvregWrite t hdr band value => exact kept_execDlkDrvregWrite _ _ _ _ (fun _ => id) (Kept.start _ s)
  | recoveryDelivery t band row pass => exact kept_execRecoveryDelivery _ _ _ _ (fun _ => id) (Kept.start _ s)
  | ledgerRowUpdate t band row => exact kept_execLedgerRowUpdate _ _ _ (fun _ => id) (Kept.start _ s)
  | shadowRowChecked t band row codes lag => exact kept_execShadowRowChecked _ _ _ _ _ (fun _ => id) (Kept.start _ s)
  | regionCommitReq t hdr value => exact kept_execRegionCommitReq _ _ _ (fun _ => id) (Kept.start _ s)
  | lakeStart t hdr => exact kept_execLakeStart _ _ (fun _ => id) (Kept.start _ s)
  | lakeResume t hdr => exact kept_execLakeResume _ _ (fun _ => id) (Kept.start _ s)
  | lakeRawblk t hdr => exact kept_execLakeRawblk _ _ (fun _ => id) (Kept.start _ s)
  | lakeSuspend t hdr => exact kept_execLakeSuspend _ _ (fun _ => id) (Kept.start _ s)
  | lakeCancel t hdr => exact kept_execLakeCancel _ _ (fun _ => id) (Kept.start _ s)
  | lakeCtxWrite t hdr ctx => exact kept_execLakeCtxWrite _ _ _ (fun _ => id) (Kept.start _ s)
  | lakeBlockDone t => exact kept_execLakeBlockDone _ (fun _ => id) (Kept.start _ s)
  | lakeQuantumExpiry t => exact kept_execLakeQuantumExpiry _ (fun _ => id) (Kept.start _ s)
  | scrubStep t found overwritten => exact kept_execScrubStep _ _ _ (fun _ => id) (Kept.start _ s)
  | dramTempRead t die0 die1 => exact kept_execDramTempRead _ _ _ (fun _ => id) (Kept.start _ s)
  | rowCopyDone t => exact kept_execRowCopyDone _ (fun _ => id) (Kept.start _ s)
  | bnkOwnerWrite t hdr bank value => exact kept_execBnkOwnerWrite _ _ _ _ (fun _ => id) (Kept.start _ s)
  | bankRelease t bank => exact kept_execBankRelease _ _ (fun _ => id) (Kept.start _ s)
  | bankReleaseTimeout t bank => exact kept_execBankReleaseTimeout _ _ (fun _ => id) (Kept.start _ s)
  | bankClearDone t bank => exact kept_execBankClearDone _ _ (fun _ => id) (Kept.start _ s)
  | bnkPeekData t hdr write collided => exact kept_execBnkPeekData _ _ _ _ (fun _ => id) (Kept.start _ s)
  | sramScrubStep t found other lost => exact kept_execSramScrubStep _ _ _ _ (fun _ => id) (Kept.start _ s)
  | railPowerUpReq t hdr bands => exact kept_execRailPowerUpReq _ _ _ (fun _ => id) (Kept.start _ s)
  | railDownReq t hdr bands => exact kept_execRailDownReq _ _ _ (fun _ => id) (Kept.start _ s)
  | autorailRequest t => exact kept_execAutorailRequest _ (fun _ => id) (Kept.start _ s)
  | bandStaggerTimer t band => exact kept_execBandStaggerTimer _ _ (fun _ => id) (Kept.start _ s)
  | tpdoffExpiry t band => exact kept_execTpdoffExpiry _ _ (fun _ => id) (Kept.start _ s)
  | triseExpiry t band => exact kept_execTriseExpiry _ _ (fun _ => id) (Kept.start _ s)
  | dischargeDelayExpiry t band => exact kept_execDischargeDelayExpiry _ _ (fun _ => id) (Kept.start _ s)
  | pfailTrigger t source => exact kept_execPfailTrigger _ _ (fun _ => id) (Kept.start _ s)
  | lampblackPdisTimer t band => exact kept_execLampblackPdisTimer _ _ (fun _ => id) (Kept.start _ s)
  | lampblackComplete t => exact kept_execLampblackComplete _ (fun _ => id) (Kept.start _ s)
  | vresSupplySwitch t => exact kept_execVresSupplySwitch _ (fun _ => id) (Kept.start _ s)
  | vresSupplyEnd t => exact kept_execVresSupplyEnd _ (fun _ => id) (Kept.start _ s)
  | pnlVrestest t hdr value => exact kept_execPnlVrestest _ _ _ (fun _ => id) (Kept.start _ s)
  | vresTestDone t dropMv => exact kept_execVresTestDone _ _ (fun _ => id) (Kept.start _ s)
  | crackCheckTimer t => exact kept_execCrackCheckTimer _ (fun _ => id) (Kept.start _ s)
  | crackStepDone t v1 v2 => exact kept_execCrackStepDone _ _ _ (fun _ => id) (Kept.start _ s)
  | crackCheckLate t => exact kept_execCrackCheckLate _ (fun _ => id) (Kept.start _ s)
  | pnlCrklearn t hdr value => exact kept_execPnlCrklearn _ _ _ (fun _ => id) (Kept.start _ s)
  | adcScheduled t input => exact kept_execAdcScheduled _ _ (fun _ => id) (Kept.start _ s)
  | calAdctrig t hdr input => exact kept_execCalAdctrig _ _ _ (fun _ => id) (Kept.start _ s)
  | supplyConversionDone t code => exact kept_execSupplyConversionDone _ _ (fun _ => id) (Kept.start _ s)
  | calrepReceived t band header words => exact kept_execCalrepReceived _ _ _ _ (fun _ => id) (Kept.start _ s)
  | calStart t hdr => exact kept_execCalStart _ _ (fun _ => id) (Kept.start _ s)
  | calResume t hdr => exact kept_execCalResume _ _ (fun _ => id) (Kept.start _ s)
  | calAbort t hdr => exact kept_execCalAbort _ _ (fun _ => id) (Kept.start _ s)
  | calCommit t hdr => exact kept_execCalCommit _ _ (fun _ => id) (Kept.start _ s)
  | calDiscard t hdr => exact kept_execCalDiscard _ _ (fun _ => id) (Kept.start _ s)
  | calCommitDone t => exact kept_execCalCommitDone _ (fun _ => id) (Kept.start _ s)
  | openReq t frame => exact kept_execOpenReq _ _ (fun _ => id) (Kept.start _ s)
  | close t frame => exact kept_execClose _ _ (fun _ => id) (Kept.start _ s)
  | read t frame => exact kept_execRead _ _ (fun _ => id) (Kept.start _ s)
  | write t frame => exact kept_execWrite _ _ (fun _ => id) (Kept.start _ s)
  | segInit t frame => exact kept_execSegInit _ _ (fun _ => id) (Kept.start _ s)
  | segData t frame => exact kept_execSegData _ _ (fun _ => id) (Kept.start _ s)
  | segRead t frame => exact kept_execSegRead _ _ (fun _ => id) (Kept.start _ s)
  | segEnd t frame => exact kept_execSegEnd _ _ (fun _ => id) (Kept.start _ s)
  | segAbort t frame => exact kept_execSegAbort _ _ (fun _ => id) (Kept.start _ s)
  | challenge t frame => exact kept_execChallenge _ _ (fun _ => id) (Kept.start _ s)
  | elevate t frame => exact kept_execElevate _ _ (fun _ => id) (Kept.start _ s)
  | drop t frame => exact kept_execDrop _ _ (fun _ => id) (Kept.start _ s)
  | undefinedOpcode t opcode frame => exact kept_execUndefinedOpcode _ _ _ (fun _ => id) (Kept.start _ s)
  | spiTransactionEnd t bytes => exact kept_execSpiTransactionEnd _ _ (fun _ => id) (Kept.start _ s)
  | canResponseDrop t => exact kept_execCanResponseDrop _ (fun _ => id) (Kept.start _ s)
  | canBusOffRecovery t => exact kept_execCanBusOffRecovery _ (fun _ => id) (Kept.start _ s)
  | canConfigApply t => exact kept_execCanConfigApply _ (fun _ => id) (Kept.start _ s)
  | cacheEntryExpiry t port tag => exact kept_execCacheEntryExpiry _ _ _ (fun _ => id) (Kept.start _ s)
  | segTimeout t port => exact kept_execSegTimeout _ _ (fun _ => id) (Kept.start _ s)
  | lockoutExpiry t port => exact kept_execLockoutExpiry _ _ (fun _ => id) (Kept.start _ s)
  | sessionIdleTimeout t port => exact kept_execSessionIdleTimeout _ _ (fun _ => id) (Kept.start _ s)
  | wnpEvtpendWrite t hdr value => exact kept_execWnpEvtpendWrite _ _ _ (fun _ => id) (Kept.start _ s)
  | devEvclr t hdr value => exact kept_execDevEvclr _ _ _ (fun _ => id) (Kept.start _ s)
  | patchActivate t hdr => exact kept_execPatchActivate _ _ (fun _ => id) (Kept.start _ s)
  | patchDiscard t hdr => exact kept_execPatchDiscard _ _ (fun _ => id) (Kept.start _ s)
  | syncWord t word => exact kept_execSyncWord _ _ (fun _ => id) (Kept.start _ s)
  | syncWaitTimeout t => exact kept_execSyncWaitTimeout _ (fun _ => id) (Kept.start _ s)
  | rollTimer t => exact kept_execRollTimer _ (fun _ => id) (Kept.start _ s)
  | roll t frame => exact kept_execRoll _ _ (fun _ => id) (Kept.start _ s)
  | status t frame => exact kept_execStatus _ _ (fun _ => id) (Kept.start _ s)
  | prepare t frame => exact kept_execPrepare _ _ (fun _ => id) (Kept.start _ s)
  | ready t frame => exact kept_execReady _ _ (fun _ => id) (Kept.start _ s)
  | refuse t frame => exact kept_execRefuse _ _ (fun _ => id) (Kept.start _ s)
  | commit t frame => exact kept_execCommit _ _ (fun _ => id) (Kept.start _ s)
  | abort t frame => exact kept_execAbort _ _ (fun _ => id) (Kept.start _ s)
  | resendReq t frame => exact kept_execResendReq _ _ (fun _ => id) (Kept.start _ s)
  | vector t frame => exact kept_execVector _ _ (fun _ => id) (Kept.start _ s)
  | snap t frame => exact kept_execSnap _ _ (fun _ => id) (Kept.start _ s)
  | gylCmtReq t hdr value => exact kept_execGylCmtReq _ _ _ (fun _ => id) (Kept.start _ s)
  | gylRealign t hdr value => exact kept_execGylRealign _ _ _ (fun _ => id) (Kept.start _ s)
  | gylSnapnow t hdr value => exact kept_execGylSnapnow _ _ _ (fun _ => id) (Kept.start _ s)
  | snapPeriodTimer t => exact kept_execSnapPeriodTimer _ (fun _ => id) (Kept.start _ s)
  | gylWakenow t hdr value => exact kept_execGylWakenow _ _ _ (fun _ => id) (Kept.start _ s)
  | wakeRepeatTimer t => exact kept_execWakeRepeatTimer _ (fun _ => id) (Kept.start _ s)
  | wakePhrase t phrase firstBitAt => exact kept_execWakePhrase _ _ _ (fun _ => id) (Kept.start _ s)
  | wakeSlotExpiry t => exact kept_execWakeSlotExpiry _ (fun _ => id) (Kept.start _ s)
  | pwrReqP0 t hdr => exact kept_execPwrReqP0 _ _ (fun _ => id) (Kept.start _ s)
  | pwrReqP1 t hdr => exact kept_execPwrReqP1 _ _ (fun _ => id) (Kept.start _ s)
  | pwrReqP2 t hdr => exact kept_execPwrReqP2 _ _ (fun _ => id) (Kept.start _ s)
  | pwrReqP3 t hdr => exact kept_execPwrReqP3 _ _ (fun _ => id) (Kept.start _ s)
  | handshakeAnswer t answer => exact kept_execHandshakeAnswer _ _ (fun _ => id) (Kept.start _ s)
  | handshakeTimeout t => exact kept_execHandshakeTimeout _ (fun _ => id) (Kept.start _ s)
  | sleepRetryTimer t => exact kept_execSleepRetryTimer _ (fun _ => id) (Kept.start _ s)
  | p3PenOffTimer t => exact kept_execP3PenOffTimer _ (fun _ => id) (Kept.start _ s)
  | wakeN t low => exact kept_execWakeN _ _ (fun _ => id) (Kept.start _ s)
  | p3TimerExpiry t => exact kept_execP3TimerExpiry _ (fun _ => id) (Kept.start _ s)
  | p2WakeDone t => exact kept_execP2WakeDone _ (fun _ => id) (Kept.start _ s)
  | vioAbWaitTimeout t => exact kept_execVioAbWaitTimeout _ (fun _ => id) (Kept.start _ s)
  | pmbusAttemptDone t acked statusWord pgood => exact kept_execPmbusAttemptDone _ _ _ _ (fun _ => id) (Kept.start _ s)
  | pmbusAttemptTimeout t => exact kept_execPmbusAttemptTimeout _ (fun _ => id) (Kept.start _ s)
  | pmbAlert t statusWord => exact kept_execPmbAlert _ _ (fun _ => id) (Kept.start _ s)
  | pmbHoldoffExpiry t => exact kept_execPmbHoldoffExpiry _ (fun _ => id) (Kept.start _ s)
  | pwrPadrel t hdr value => exact kept_execPwrPadrel _ _ _ (fun _ => id) (Kept.start _ s)
  | clockMonitorTimeout t domain => exact kept_execClockMonitorTimeout _ _ (fun _ => id) (Kept.start _ s)
  | interfaceResetTimer t domain => exact kept_execInterfaceResetTimer _ _ (fun _ => id) (Kept.start _ s)
  | bandPllResetTimer t band relocked => exact kept_execBandPllResetTimer _ _ _ (fun _ => id) (Kept.start _ s)
  | peerResetClear t domain => exact kept_execPeerResetClear _ _ (fun _ => id) (Kept.start _ s)
  | spiSckStall t bytes => exact kept_execSpiSckStall _ _ (fun _ => id) (Kept.start _ s)
  | journalRecordWrite t ok => exact kept_execJournalRecordWrite _ _ (fun _ => id) (Kept.start _ s)
  | ringHoldDrop t => exact kept_execRingHoldDrop _ (fun _ => id) (Kept.start _ s)
  | compactionDone t ok => exact kept_execCompactionDone _ _ (fun _ => id) (Kept.start _ s)
  | jrnCmdCompact t hdr => exact kept_execJrnCmdCompact _ _ (fun _ => id) (Kept.start _ s)
  | jrnCmdFormat t hdr => exact kept_execJrnCmdFormat _ _ (fun _ => id) (Kept.start _ s)
  | jrnCmdLock t hdr => exact kept_execJrnCmdLock _ _ (fun _ => id) (Kept.start _ s)
  | jrnCmdAsbuilt t hdr => exact kept_execJrnCmdAsbuilt _ _ (fun _ => id) (Kept.start _ s)
  | ledgerPieceTimer t => exact kept_execLedgerPieceTimer _ (fun _ => id) (Kept.start _ s)
  | doseHourlyTimer t => exact kept_execDoseHourlyTimer _ (fun _ => id) (Kept.start _ s)
  | mapRestoreDone t badBands badPieces => exact kept_execMapRestoreDone _ _ _ (fun _ => id) (Kept.start _ s)
  | tlmSnapcmd t hdr value => exact kept_execTlmSnapcmd _ _ _ (fun _ => id) (Kept.start _ s)
  | evcSelWrite t hdr counter value => exact kept_execEvcSelWrite _ _ _ _ (fun _ => id) (Kept.start _ s)
  | evcClear t hdr value => exact kept_execEvcClear _ _ _ (fun _ => id) (Kept.start _ s)
  | markerMissing t lane => exact kept_execMarkerMissing _ _ (fun _ => id) (Kept.start _ s)
  | vaonOutOfWindow t => exact kept_execVaonOutOfWindow _ (fun _ => id) (Kept.start _ s)
  | canResponseTransmitted t => exact kept_execCanResponseTransmitted _ (fun _ => id) (Kept.start _ s)
  | canBusOff t => exact kept_execCanBusOff _ (fun _ => id) (Kept.start _ s)
  | canFrameIgnored t => exact kept_execCanFrameIgnored _ (fun _ => id) (Kept.start _ s)
  | gylorFrameDiscarded t slot own => exact kept_execGylorFrameDiscarded _ _ _ (fun _ => id) (Kept.start _ s)
  | replyWindowClose t => exact kept_execReplyWindowClose _ (fun _ => id) (Kept.start _ s)
  | vioAbPresent t => exact kept_execVioAbPresent _ (fun _ => id) (Kept.start _ s)
  | padClassDecision t ab mv => exact kept_execPadClassDecision _ _ _ (fun _ => id) (Kept.start _ s)
  | dramRefresh t die completed parityErr => exact kept_execDramRefresh _ _ _ _ (fun _ => id) (Kept.start _ s)
  | mapWordRewrite t word value => exact kept_execMapWordRewrite _ _ _ (fun _ => id) (Kept.start _ s)

theorem Kept.safe_ {m : List Part} {s0 s : State} (h : Kept m s0 s) (hs : s0.safe_ = true) : s.safe_ = true := by
  obtain ⟨hrails, hmem⟩ := h.safe hs
  simp [State.safe_, hrails, hmem]

/-- Settles O57: each command's own lemma of `Laws/Kept*` names the parts that it may change. -/
theorem commandsChangeOnlyTheirParts : Obligations.CommandsChangeOnlyTheirParts := by
  intro c s s' hx
  have hk := kept_exec c s s' hx
  exact ⟨hk.rest, hk.pending, hk.now⟩

/-! ## One step -/

theorem step_of_cons {c : Instr} {q : List Instr} {s : State} (h : s.pending = c :: q) :
    step s = exec c { s with pending := q } := by
  simp only [step, h]

theorem step_of_nil {s : State} (h : s.pending = []) : step s = .next { s with now := s.now + 2 } := by
  simp only [step, h, idleTick]

/-- Settles O54: the two arms of `step`. -/
theorem stepRunsTheFrontCommand : Obligations.StepRunsTheFrontCommand :=
  ⟨fun _ _ _ h => step_of_cons h, fun _ h => step_of_nil h⟩

/-- Settles O56: an idle tick touches neither the rails nor DRAM, and every command keeps a safe state. -/
theorem stepKeepsSafe : Obligations.StepKeepsSafe := by
  intro s s' hs hstep
  cases hq : s.pending with
  | nil =>
    rw [step_of_nil hq] at hstep
    cases hstep
    exact hs
  | cons c q =>
    rw [step_of_cons hq] at hstep
    exact (kept_exec c _ s' hstep).safe_ hs

/-- Settles O55: the reset state is closed data. -/
theorem resetIsSafe : Obligations.ResetIsSafe :=
  ⟨by decide, rfl, rfl, rfl, rfl, rfl, fun _ => rfl⟩

/-! ## Completion -/

theorem exec_mapWordRewrite_inside {t w : Nat} {v : BitVec 64} {s : State} (h : 8 * w < dramTop) :
    exec (.mapWordRewrite t w v) s = .next (if (s.at t).boot.stage = .started ∧ repaired (8 * w) then
      mapStore (8 * w) (toBE 8 v.toNat) (s.at t) else s.at t) :=
  if_neg (Nat.not_le.2 h)

theorem exec_mapWordRewrite_outside {t w : Nat} {v : BitVec 64} {s : State} (h : dramTop ≤ 8 * w) :
    exec (.mapWordRewrite t w v) s = .fault .outsideDram :=
  if_pos h

/-- Every other command answers a next state whatever its conditions are. -/
theorem completes_exec (c : Instr) (s : State) (hc : ∀ t w v, c ≠ .mapWordRewrite t w v) : completes (exec c s) = true := by
  cases c
  case mapWordRewrite t w v => exact absurd rfl (hc t w v)
  all_goals rfl

/-- Settles O58: the rewrite of a map word is the one command with a condition on its answer. -/
theorem commandsComplete : Obligations.CommandsComplete := by
  refine ⟨fun c s hin => ?_, fun t w v s => exec_mapWordRewrite_outside⟩
  by_cases hc : ∃ t w v, c = .mapWordRewrite t w v
  · obtain ⟨t, w, v, rfl⟩ := hc
    rw [exec_mapWordRewrite_inside (hin t w v rfl)]
    rfl
  · exact completes_exec c s fun t w v h => hc ⟨t, w, v, h⟩

end Sys2Proof.Machine
end

section
/-!
SUPPORT. A WRITE that is taken, from its command to its answer (R359 to R361): what the counted state is, and what the answer
leaves of the run of the object's own rule.
-/

namespace Sys2Proof.Machine

open Sys2Proof

/-! ## Frames of commands and operations -/

/-- What a command leaves alone besides what its footprint names. -/
theorem exec_frame {c : Instr} {s s' : State} (h : exec c s = .next s') : s.sameBut (footprint c) s' :=
  (kept_exec c s s' h).rest

/-- A command whose footprint leaves out DRAM keeps it. -/
theorem exec_mem {c : Instr} {s s' : State} (h : exec c s = .next s') (hm : Part.mem ∉ footprint c) : s'.mem = s.mem :=
  (exec_frame h).mem hm

/-- A command whose footprint leaves out the operating state keeps it. -/
theorem exec_boot {c : Instr} {s s' : State} (h : exec c s = .next s') (hm : Part.boot ∉ footprint c) : s'.boot = s.boot :=
  (exec_frame h).boot hm

/-- What an operation keeps of the state at the time of a command. -/
theorem Kept.at_ (m : List Part) (t : Nat) (s : State) : Kept m s (s.at t) := kept_State_at t (Kept.start m s)

/-! ## The counted state -/

@[simp] theorem counted_pending (h : Hdr) (s : State) : (counted s h).pending = s.pending := by simp [counted]
@[simp] theorem counted_now (h : Hdr) (s : State) : (counted s h).now = s.now := by simp [counted]
@[simp] theorem counted_free (h : Hdr) (s : State) : (counted s h).free = s.free := by simp [counted]
@[simp] theorem counted_dom (h : Hdr) (s : State) : (counted s h).dom = s.dom := by simp [counted]
@[simp] theorem counted_mem (h : Hdr) (s : State) : (counted s h).mem = s.mem := by simp [counted]
@[simp] theorem counted_poison (h : Hdr) (s : State) : (counted s h).poison = s.poison := by simp [counted]
@[simp] theorem counted_boot (h : Hdr) (s : State) : (counted s h).boot = s.boot := by simp [counted]
@[simp] theorem counted_pwr (h : Hdr) (s : State) : (counted s h).pwr = s.pwr := by simp [counted]
@[simp] theorem counted_evlog (h : Hdr) (s : State) : (counted s h).evlog = s.evlog := by simp [counted]
@[simp] theorem counted_cross (h : Hdr) (s : State) : (counted s h).cross = s.cross := by simp [counted]
@[simp] theorem counted_pxl (h : Hdr) (s : State) : (counted s h).pxl = s.pxl := by simp [counted]
@[simp] theorem counted_trx (h : Hdr) (s : State) : (counted s h).trx = s.trx := by simp [counted]
@[simp] theorem counted_lake (h : Hdr) (s : State) : (counted s h).lake = s.lake := by simp [counted]
@[simp] theorem counted_fst (h : Hdr) (s : State) : (counted s h).fst = s.fst := by simp [counted]
@[simp] theorem counted_bnk (h : Hdr) (s : State) : (counted s h).bnk = s.bnk := by simp [counted]
@[simp] theorem counted_dlk (h : Hdr) (s : State) : (counted s h).dlk = s.dlk := by simp [counted]
@[simp] theorem counted_wear (h : Hdr) (s : State) : (counted s h).wear = s.wear := by simp [counted]
@[simp] theorem counted_safe (h : Hdr) (s : State) : (counted s h).safe = s.safe := by simp [counted]
@[simp] theorem counted_pnl (h : Hdr) (s : State) : (counted s h).pnl = s.pnl := by simp [counted]
@[simp] theorem counted_cal (h : Hdr) (s : State) : (counted s h).cal = s.cal := by simp [counted]
@[simp] theorem counted_gyl (h : Hdr) (s : State) : (counted s h).gyl = s.gyl := by simp [counted]
@[simp] theorem counted_jrn (h : Hdr) (s : State) : (counted s h).jrn = s.jrn := by simp [counted]

theorem oget_counted_at {k : Nat} (h : Hdr) (t : Nat) (s : State) (hc : notCounter k = true) (hk : k ≠ Ob.WNP_EVTPEND) :
    oget (counted (s.at t) h) k = oget s k := oget_counted h (s.at t) hc hk

theorem oflag_counted {k : Nat} (h : Hdr) (s : State) (hc : notCounter k = true) (hk : k ≠ Ob.WNP_EVTPEND) :
    oflag (counted s h) k = oflag s k := by
  unfold oflag
  rw [oget_counted h s hc hk]

theorem kept_counted_at (h : Hdr) (t : Nat) (s : State) : Kept [.obj, .mgt, .pins] s (counted (s.at t) h) :=
  kept_counted h (Sub.trans (by decide) fun _ => id) (Kept.at_ _ t s)

theorem writeGate_counted (h : Hdr) (k n v : Nat) (s : State) :
    writeGate (counted s h) h.port k n v = writeGate s h.port k n v := by
  unfold writeGate
  rw [oflag_counted h s (by decide) (by decide), portOf_counted, counted_boot]

theorem taken_of_writeTaken {s : State} {h : Hdr} {k v : Nat} (ht : writeTaken s h k v = true) :
    taken s h (objBytes k) = true := by
  simp only [writeTaken, Bool.and_eq_true] at ht
  exact ht.1.1

/-! ## The answer to a write -/

section
variable {h : Hdr} {k v : Nat} {own : Nat → State → State × Nat} {s : State} (ht : writeTaken s h k v = true)
include ht

/-- A write that is taken applies the object's own rule to the counted state, and answers the status of the rule. -/
theorem writeRow_of_taken :
    writeRow h k v own s = answerTaken 4 h (k / 256) (k % 256) (toBE (objBytes k) v) (portOf s h.port).gen
      ((own v (counted s h)).1, ⟨(own v (counted s h)).2, []⟩) := by
  have htk := taken_of_writeTaken ht
  simp only [writeTaken, Bool.and_eq_true, decide_eq_true_eq] at ht
  obtain ⟨⟨-, hgate⟩, hv⟩ := ht
  have hrow : writeRow h k v own s =
      request 4 h (k / 256) (k % 256) (toBE (objBytes k) v) (runWrite h.port k (toBE (objBytes k) v) own) s := rfl
  rw [hrow, request_taken _ _ _ _ _ _ _ (by rw [toBE_length]; exact htk)]
  unfold runWrite
  rw [toBE_length, ofBE_toBE _ _ hv, writeGate_counted, hgate]

/-- What holds of every answer to the run of the rule holds of the write. -/
theorem writeRow_ind {P : State → Prop} (hP : ∀ gen, P (answerTaken 4 h (k / 256) (k % 256) (toBE (objBytes k) v) gen
      ((own v (counted s h)).1, ⟨(own v (counted s h)).2, []⟩))) : P (writeRow h k v own s) := by
  rw [writeRow_of_taken ht]
  exact hP _

theorem oget_writeRow {j : Nat} (hj : j ≠ Ob.WNP_EVTPEND) : oget (writeRow h k v own s) j = oget (own v (counted s h)).1 j := by
  rw [writeRow_of_taken ht, oget_answerTaken _ _ _ _ _ _ _ hj]

/-- The newest response is the answer where the rule leaves the session open. -/
theorem lastAnswer_writeRow (hact : (portOf (own v (counted s h)).1 h.port).active = true)
    (hgen : (portOf (own v (counted s h)).1 h.port).gen = (portOf s h.port).gen) (hst : (own v (counted s h)).2 < 256) :
    lastAnswer (writeRow h k v own s) h.port = some (132, h.tag.toNat, (own v (counted s h)).2, []) := by
  rw [writeRow_of_taken ht]
  exact lastAnswer_answerTaken_of_open hact hgen hst

/-- The session of a taken write is open on the counted state. -/
theorem counted_session : (portOf (counted s h) h.port).active = true ∧
    (portOf (counted s h) h.port).gen = (portOf s h.port).gen := by
  rw [portOf_counted]
  exact ⟨active_of_taken (taken_of_writeTaken ht), rfl⟩

/-- The newest response where the rule leaves the management state alone. -/
theorem lastAnswer_writeRow_of_mgt (hm : (own v (counted s h)).1.mgt = (counted s h).mgt)
    (hst : (own v (counted s h)).2 < 256) :
    lastAnswer (writeRow h k v own s) h.port = some (132, h.tag.toNat, (own v (counted s h)).2, []) := by
  obtain ⟨hact, hgen⟩ := counted_session ht
  exact lastAnswer_writeRow ht (by rw [portOf_congr hm]; exact hact) (by rw [portOf_congr hm]; exact hgen) hst

end

/-- The frame of a write is that of its rule and its port. -/
theorem kept_writeRow_of_taken {m : List Part} {h : Hdr} {k v t : Nat} {own : Nat → State → State × Nat} {s : State}
    (ht : writeTaken (s.at t) h k v = true) (hm : Sub [.obj, .pins, .mgt] m)
    (hk : Kept m s (own v (counted (s.at t) h)).1) : Kept m s (writeRow h k v own (s.at t)) :=
  writeRow_ind ht fun _ => kept_answerTaken _ _ _ _ _ _ hm (keptP_mk hk)

/-- A rule that only answers: nothing but the port, its event output and the counters changes. -/
theorem writeRow_answers {h : Hdr} {k v t st : Nat} {own : Nat → State → State × Nat} {s : State}
    (ht : writeTaken (s.at t) h k v = true) (hst : st < 256)
    (hown : own v (counted (s.at t) h) = (counted (s.at t) h, st)) :
    s.sameBut [.obj, .mgt, .pins] (writeRow h k v own (s.at t)) ∧
      lastAnswer (writeRow h k v own (s.at t)) h.port = some (132, h.tag.toNat, st, []) := by
  constructor
  · refine (kept_writeRow_of_taken ht (Sub.trans (by decide) fun _ => id) ?_).rest
    rw [hown]
    exact kept_counted_at h t s
  · have := lastAnswer_writeRow_of_mgt (own := own) ht (by rw [hown]) (by rw [hown]; exact hst)
    rwa [hown] at this

end Sys2Proof.Machine
end

section
/-!
SUPPORT. The rail sets of the bands: what each step of a power-up and of a fall does to its band (R309 to R320).
-/

namespace Sys2Proof.Machine

open Sys2Proof

/-! ## One band's rails and pads -/

theorem railOf_congr {a s : State} (h : s.pnl = a.pnl) (b : Nat) : railOf s b = railOf a b := by unfold railOf; rw [h]

theorem padsOf_congr {a s : State} (h : s.pins = a.pins) (b : Nat) : padsOf s b = padsOf a b := by unfold padsOf; rw [h]

@[simp] theorem State.at_now (t : Nat) (s : State) : (s.at t).now = max s.now t := rfl

@[simp] theorem railOf_at (t b : Nat) (s : State) : railOf (s.at t) b = railOf s b := rfl

@[simp] theorem padsOf_at (t b : Nat) (s : State) : padsOf (s.at t) b = padsOf s b := rfl

@[simp] theorem railOf_setRailPads (b c : Nat) (pven pdis : Bool) (s : State) :
    railOf (setRailPads b pven pdis s) c = railOf s c := rfl

@[simp] theorem padsOf_setRail (b c : Nat) (v : Rail) (s : State) : padsOf (setRail b v s) c = padsOf s c := rfl

theorem railOf_setRail_ne {b c : Nat} (v : Rail) (s : State) (h : c ≠ b) : railOf (setRail b v s) c = railOf s c :=
  get_put_ne _ _ _ h

theorem padsOf_setPads_ne {b c : Nat} (v : BandPins) (s : State) (h : c ≠ b) : padsOf (setPads b v s) c = padsOf s c :=
  get_put_ne _ _ _ h

@[simp] theorem padsOf_setRailPads (b : Nat) (pven pdis : Bool) (s : State) :
    padsOf (setRailPads b pven pdis s) b = { padsOf s b with pven := pven, pdis := pdis && !pven } := by simp [setRailPads]

@[simp] theorem setRailPads_obj (b : Nat) (pven pdis : Bool) (s : State) : (setRailPads b pven pdis s).obj = s.obj := rfl

@[simp] theorem setRailPads_mem (b : Nat) (pven pdis : Bool) (s : State) : (setRailPads b pven pdis s).mem = s.mem := rfl

@[simp] theorem railOf_goeLow (b c : Nat) (s : State) : railOf (goeLow b s) c = railOf s c := rfl

@[simp] theorem goeLow_obj (b : Nat) (s : State) : (goeLow b s).obj = s.obj := rfl

@[simp] theorem goeLow_mem (b : Nat) (s : State) : (goeLow b s).mem = s.mem := rfl

/-! ## The steps of a power-up -/

theorem openBand_of_due {b : Nat} {s : State} (hdue : (railOf s b).due = true) (hat : (railOf s b).at_ ≤ s.now)
    (hop : s.boot.op = .setup) (hpen : s.pins.pen3 = true)
    (hst : (railOf s b).state = .off ∨ (railOf s b).state = .cut) :
    openBand b s = setRailPads b false false (setRail b { railOf s b with
      state := .opening, due := false, at_ := s.now + 1000 * oget s Ob.PNL_TPDOFF } s) := by
  unfold openBand
  rw [if_neg (by simp [hop, hpen]), if_pos ⟨hdue, hat, hst⟩]

theorem openBand_outside {b : Nat} {s : State} (h : s.boot.op ≠ .setup ∨ s.pins.pen3 = false) :
    openBand b s = setRail b { railOf s b with due := false } s :=
  if_pos (by simpa using h)

section
variable {t : Nat} {band : Fin 4} {s : State}

theorem exec_tpdoffExpiry_due (hst : (railOf s band.val).state = .opening) (hf : (railOf s band.val).fallDue = none)
    (hat : (railOf s band.val).at_ ≤ max s.now t) :
    exec (.tpdoffExpiry t band) s = .next (setRailPads band.val true false (setRail band.val { railOf s band.val with
      state := .rising, at_ := max s.now t + 1000 * oget s Ob.PNL_TRISE } (s.at t))) :=
  congrArg Host.Outcome.next (if_pos ⟨hst, by simp [hf], hat⟩)

theorem exec_tpdoffExpiry_early (h : max s.now t < (railOf s band.val).at_) :
    exec (.tpdoffExpiry t band) s = .next (s.at t) :=
  congrArg Host.Outcome.next (if_neg fun ⟨_, _, hat⟩ => Nat.not_le.2 h hat)

/-- The rail set is ON and the rows with a selected spare are queued. -/
theorem exec_triseExpiry_due (hst : (railOf s band.val).state = .rising) (hf : (railOf s band.val).fallDue = none)
    (hat : (railOf s band.val).at_ ≤ max s.now t) :
    exec (.triseExpiry t band) s = .next (queueSelected band.val (evc 0xCC (oset Ob.SAF_CUTBANDS
      (clearBit (oget s Ob.SAF_CUTBANDS) band.val) (setRail band.val { railOf s band.val with
        state := .on, powerups := satInc 0xFFFF (railOf s band.val).powerups } (s.at t))))) :=
  congrArg Host.Outcome.next (if_pos ⟨hst, by simp [hf], hat⟩)

theorem exec_triseExpiry_early (h : max s.now t < (railOf s band.val).at_) :
    exec (.triseExpiry t band) s = .next (s.at t) :=
  congrArg Host.Outcome.next (if_neg fun ⟨_, _, hat⟩ => Nat.not_le.2 h hat)

end

theorem queueSelected_frame (b : Nat) (s : State) : s.sameBut [.wear] (queueSelected b s) :=
  (kept_queueSelected b (fun _ => id) (Kept.start _ s)).rest

theorem queueSelected_pins (b : Nat) (s : State) : (queueSelected b s).pins = s.pins :=
  (queueSelected_frame b s).pins (by decide)

theorem queueSelected_mem (b : Nat) (s : State) : (queueSelected b s).mem = s.mem :=
  (queueSelected_frame b s).mem (by decide)

theorem oget_queueSelected (b k : Nat) (s : State) : oget (queueSelected b s) k = oget s k :=
  oget_congr ((queueSelected_frame b s).obj (by decide)) k

theorem railOf_queueSelected (b c : Nat) (s : State) : railOf (queueSelected b s) c = railOf s c :=
  railOf_congr ((queueSelected_frame b s).pnl (by decide)) c

@[simp] theorem railOf_evc (e b : Nat) (s : State) : railOf (evc e s) b = railOf s b := railOf_congr (by simp) b

@[simp] theorem railOf_oset (k v b : Nat) (s : State) : railOf (oset k v s) b = railOf s b := rfl

theorem bit_clearBit_same (n i : Nat) : bit (clearBit n i) i = false := by
  have hpos : 0 < 2 ^ i := Nat.two_pow_pos i
  unfold clearBit
  split
  · next h =>
    simp only [bit, decide_eq_true_eq] at h
    have hle : 2 ^ i ≤ n := by
      by_contra hlt
      rw [Nat.div_eq_of_lt (Nat.not_le.1 hlt)] at h
      omega
    have hdiv : (n - 2 ^ i) / 2 ^ i = n / 2 ^ i - 1 := by
      simpa using Nat.sub_mul_div n (2 ^ i) 1
    simp only [bit, decide_eq_false_iff_not, hdiv]
    omega
  · next h => simpa using h

/-! ## The steps of a fall -/

theorem discharged_of_falling {b : Nat} {s : State} (h : (railOf s b).state = .falling) :
    discharged b s = setRail b { railOf s b with state := if (railOf s b).toCut then .cut else .off, toCut := false }
      (setRailPads b false true s) :=
  if_pos h

theorem fallStep_of_up {b d : Nat} {s : State} (hd : (railOf s b).fallDue = some d) (hup : railUp s b = true) :
    fallStep b s = setRail b { railOf s b with
      state := .falling, lastDown := d, due := false, fallDue := none, at_ := s.now + 1000 * oget s Ob.PNL_TPD }
      (setRailPads b false false (goeLow b s)) := by
  simp only [fallStep, hd, fallIn, if_pos hup, Bool.false_or]

theorem whenTime_of_due {b : Nat} {f : State → State} {s : State} (h : (railOf s b).at_ ≤ s.now) : whenTime b f s = f s :=
  if_pos h

theorem whenTime_of_early {b : Nat} {f : State → State} {s : State} (h : s.now < (railOf s b).at_) : whenTime b f s = s :=
  if_neg (Nat.not_le.2 h)

/-- A discharged band is OFF or CUT, with its discharge switch closed. -/
theorem discharged_spec {t b : Nat} {s : State} (h : (railOf s b).state = .falling) :
    (railOf (discharged b (s.at t)) b).state = (if (railOf s b).toCut then .cut else .off) ∧
      (padsOf (discharged b (s.at t)) b).pven = false ∧ (padsOf (discharged b (s.at t)) b).pdis = true ∧
      (discharged b (s.at t)).obj = s.obj ∧ (discharged b (s.at t)).mem = s.mem := by
  rw [discharged_of_falling (s := s.at t) h]
  refine ⟨?_, ?_⟩
  · rw [railOf_setRail]
    rfl
  · simp

/-- Settles O25: each timer's equation at its time, read off at its band. -/
theorem railsRiseAndFall : Obligations.RailsRiseAndFall := by
  intro t band s
  refine ⟨?stagger, ?outside, ?opening, ?rising, ?discharge, ?fallDue, ?falling, ?early⟩
  case stagger =>
    intro hdue hat hop hpen hst
    refine ⟨_, congrArg Host.Outcome.next (openBand_of_due (s := s.at t) hdue hat hop hpen hst), ?_⟩
    simp [oget_at]
  case outside =>
    intro h
    refine ⟨_, congrArg Host.Outcome.next (openBand_outside (s := s.at t) h), ?_⟩
    simp
  case opening =>
    intro hst hf hat
    refine ⟨_, exec_tpdoffExpiry_due hst hf hat, ?_⟩
    simp
  case rising =>
    intro hst hf hat
    refine ⟨_, exec_triseExpiry_due hst hf hat, ?_⟩
    rw [railOf_queueSelected, oget_queueSelected, queueSelected_pins, queueSelected_mem, oget_evc _ _ _ (by decide),
      railOf_evc]
    simp [bit_clearBit_same]
  case discharge =>
    intro hst hat
    exact ⟨_, congrArg Host.Outcome.next (whenTime_of_due (s := s.at t) hat), discharged_spec hst⟩
  case fallDue =>
    intro d hd hup hat
    have hx : exec (.lampblackPdisTimer t band) s = .next (fallStep band.val (s.at t)) :=
      (congrArg Host.Outcome.next (whenTime_of_due (s := s.at t) hat)).trans (by rw [if_pos (by simp [hd])])
    refine ⟨_, hx.trans (congrArg _ (fallStep_of_up (s := s.at t) hd hup)), ?_⟩
    simp [oget_at]
  case falling =>
    intro hst hf hat
    have hx : exec (.lampblackPdisTimer t band) s = .next (discharged band.val (s.at t)) :=
      (congrArg Host.Outcome.next (whenTime_of_due (s := s.at t) hat)).trans (by rw [if_neg (by simp [hf])])
    exact ⟨_, hx, discharged_spec hst⟩
  case early =>
    intro h
    exact ⟨exec_tpdoffExpiry_early h, exec_triseExpiry_early h,
      congrArg Host.Outcome.next (whenTime_of_early (s := s.at t) h),
      congrArg Host.Outcome.next (whenTime_of_early (s := s.at t) h)⟩

end Sys2Proof.Machine
end

section
/-!
SUPPORT. The requests for rails: which bands a value turns on and which it takes down, and what opening a band and an orderly
rail-down do to it (R310 to R314).
-/

namespace Sys2Proof.Machine

open Sys2Proof

/-! ## Bits -/

theorem bit_eq_testBit (n i : Nat) : bit n i = n.testBit i := Nat.testBit_eq_decide_div_mod_eq.symm

/-- The bits of the complement within four bits. -/
theorem bit_fifteen_sub {n : Nat} (i : Nat) (hn : n < 16) : bit (15 - n) i = (decide (i < 4) && !bit n i) := by
  have h : 15 - n = 2 ^ 4 - (n + 1) := by omega
  rw [bit_eq_testBit, bit_eq_testBit, h, Nat.testBit_two_pow_sub_succ hn]

theorem bit_mod_sixteen (n : Nat) {i : Nat} (hi : i < 4) : bit (n % 16) i = bit n i := by
  have h : n % 16 = n % 2 ^ 4 := rfl
  rw [bit_eq_testBit, bit_eq_testBit, h, Nat.testBit_mod_two_pow, decide_eq_true hi, Bool.true_and]

theorem bit_and (a b i : Nat) : bit (a &&& b) i = (bit a i && bit b i) := by simp [bit_eq_testBit]

/-- One of four bands alone passes a filter. -/
theorem filter_bands_eq_singleton {p : Nat → Bool} (band : Fin 4) (hb : p band.val = true)
    (hne : ∀ c < 4, c ≠ band.val → p c = false) : [0, 1, 2, 3].filter p = [band.val] := by
  have h0 := hne 0 (by decide)
  have h1 := hne 1 (by decide)
  have h2 := hne 2 (by decide)
  have h3 := hne 3 (by decide)
  fin_cases band <;> simp_all

/-- No band passes a filter. -/
theorem filter_bands_eq_nil {p : Nat → Bool} (h : ∀ c < 4, p c = false) : [0, 1, 2, 3].filter p = [] := by
  simp [h 0, h 1, h 2, h 3]

/-! ## The pins of an answer -/

theorem refreshEvt_pins (s : State) : ∃ e, (refreshEvt s).pins = { s.pins with evtN := e } := by
  unfold refreshEvt
  dsimp only
  split
  · exact ⟨_, rfl⟩
  · exact ⟨_, rfl⟩

theorem pendEvt_pins (b : Nat) (s : State) : ∃ e, (pendEvt b s).pins = { s.pins with evtN := e } := by
  unfold pendEvt
  dsimp only
  split
  · exact refreshEvt_pins _
  · exact refreshEvt_pins _

/-- A port changes no pin but EVT_N. -/
theorem setPort_pins (q : Port) (v : PortState) (s : State) : ∃ e, (setPort q v s).pins = { s.pins with evtN := e } := by
  cases q
  · exact ⟨_, rfl⟩
  · simp only [setPort]
    split
    · exact refreshEvt_pins _
    · exact pendEvt_pins _ _

theorem counted_pins (h : Hdr) (s : State) : ∃ e, (counted s h).pins = { s.pins with evtN := e } := by
  simpa [counted] using setPort_pins h.port _ s

theorem answerTaken_pins (op : Nat) (h : Hdr) (ix sub : Nat) (data : List Byte) (gen : Nat) (sa : State × Answer) :
    ∃ e, (answerTaken op h ix sub data gen sa).pins = { sa.1.pins with evtN := e } := by
  obtain ⟨v, hv⟩ | hv := answerTaken_cases op h ix sub data gen sa
  · rw [hv]
    exact setPort_pins _ _ _
  · rw [hv]
    exact ⟨_, rfl⟩

@[simp] theorem counted_pen3 (h : Hdr) (s : State) : (counted s h).pins.pen3 = s.pins.pen3 := by
  obtain ⟨e, he⟩ := counted_pins h s
  rw [he]

@[simp] theorem padsOf_counted (h : Hdr) (s : State) (b : Nat) : padsOf (counted s h) b = padsOf s b := by
  obtain ⟨e, he⟩ := counted_pins h s
  simp [padsOf, he]

@[simp] theorem railOf_counted (h : Hdr) (s : State) (b : Nat) : railOf (counted s h) b = railOf s b :=
  railOf_congr (by simp) b

@[simp] theorem padsOf_answerTaken (op : Nat) (h : Hdr) (ix sub : Nat) (data : List Byte) (gen : Nat) (sa : State × Answer)
    (b : Nat) : padsOf (answerTaken op h ix sub data gen sa) b = padsOf sa.1 b := by
  obtain ⟨e, he⟩ := answerTaken_pins op h ix sub data gen sa
  simp [padsOf, he]

@[simp] theorem railOf_answerTaken (op : Nat) (h : Hdr) (ix sub : Nat) (data : List Byte) (gen : Nat) (sa : State × Answer)
    (b : Nat) : railOf (answerTaken op h ix sub data gen sa) b = railOf sa.1 b :=
  railOf_congr (by simp) b

@[simp] theorem padsOf_oset (k v b : Nat) (s : State) : padsOf (oset k v s) b = padsOf s b := rfl

/-! ## The conditions of a power-up -/

@[simp] theorem railUp_counted (h : Hdr) (s : State) (b : Nat) : railUp (counted s h) b = railUp s b := by simp [railUp]

@[simp] theorem railUp_at (t : Nat) (s : State) (b : Nat) : railUp (s.at t) b = railUp s b := rfl

@[simp] theorem railErr_at (t : Nat) (s : State) (b : Nat) : railErr (s.at t) b = railErr s b := rfl

@[simp] theorem railErr_counted (h : Hdr) (s : State) (b : Nat) : railErr (counted s h) b = railErr s b := by
  have ho {k : Nat} (hc : notCounter k = true) (hk : k ≠ Ob.WNP_EVTPEND) : oget (counted s h) k = oget s k :=
    oget_counted h s hc hk
  have hs := ho (k := Ob.PNL_VRESSTAT) (by decide) (by decide)
  have hv := ho (k := Ob.PNL_VRES_MV) (by decide) (by decide)
  have hm := ho (k := Ob.PNL_VRESMIN) (by decide) (by decide)
  have hl : linkReady (counted s h) b = linkReady s b := by
    unfold linkReady dlkOf
    rw [counted_dlk]
  have hp (n : Nat) : loopOf (counted s h) n = loopOf s n := by simp [loopOf]
  simp only [railErr, hl, hp, hs, hv, hm, counted_boot, counted_pen3, counted_pnl]

theorem pen3_of_railErr_eq_zero {s : State} {b : Nat} (h : railErr s b = 0) : s.pins.pen3 = true := by
  by_contra hp
  rw [Bool.not_eq_true] at hp
  unfold railErr at h
  split at h
  · cases h
  · rw [if_pos (.inl (by simp [hp]))] at h
    cases h

theorem railUp_of_off {s : State} {b : Nat} (h : (railOf s b).state = .off) : railUp s b = false := by simp [railUp, h]

theorem railUp_of_on {s : State} {b : Nat} (h : (railOf s b).state = .on) : railUp s b = true := by simp [railUp, h]

/-! ## An orderly rail-down -/

theorem fallLater_of_up {i b down : Nat} {toCut : Bool} {s : State} (h : railUp s b = true) :
    fallLater i b down toCut s = setRail b { railOf s b with
      due := false, toCut := toCut || (railOf s b).toCut, fallDue := some ((railOf s b).fallDue.getD down)
      at_ := if (railOf s b).fallDue.isSome then
          min (railOf s b).at_ (s.now + 1000 * (oget s Ob.PNL_TPV + i * oget s Ob.PNL_TSTAG))
        else s.now + 1000 * (oget s Ob.PNL_TPV + i * oget s Ob.PNL_TSTAG) } (goeLow b s) :=
  if_pos h

theorem fallLater_frame (i b down : Nat) (toCut : Bool) (s : State) : s.sameBut [.pins, .pnl] (fallLater i b down toCut s) :=
  (kept_fallLater i b down toCut (fun _ => id) (Kept.start _ s)).rest

theorem fallLater_now (i b down : Nat) (toCut : Bool) (s : State) : (fallLater i b down toCut s).now = s.now := by
  simp only [fallLater, fallOn]
  split <;> rfl

/-- A fall leaves the other bands as they are. -/
theorem fallLater_other {i b c down : Nat} {toCut : Bool} {s : State} (h : c ≠ b) :
    railOf (fallLater i b down toCut s) c = railOf s c ∧ padsOf (fallLater i b down toCut s) c = padsOf s c := by
  have hp : padsOf (goeLow b s) c = padsOf s c := padsOf_setPads_ne _ _ h
  simp only [fallLater, fallOn]
  split
  · exact ⟨(railOf_setRail_ne _ _ h).trans rfl, hp⟩
  · exact ⟨(railOf_setRail_ne _ _ h).trans rfl, hp⟩

theorem fallLater_pen3 (i b down : Nat) (toCut : Bool) (s : State) : (fallLater i b down toCut s).pins.pen3 = s.pins.pen3 := by
  simp only [fallLater, fallOn]
  split <;> rfl

/-- What an operation on each element leaves of the state, where every single one does. -/
theorem each_keeps {α β : Type} {f : α → State → State} {obs : State → β} {xs : List α} {s : State}
    (h : ∀ x ∈ xs, ∀ a, obs (f x a) = obs a) : obs (each xs f s) = obs s :=
  foldl_keeps (fun a => obs a = obs s) _ xs (fun x hx a ha => (h x hx a).trans ha) s rfl

theorem railDown_now (mask : Nat) (s : State) : (railDown mask s).now = s.now :=
  each_keeps fun _ _ _ => fallLater_now ..

theorem railDown_pen3 (mask : Nat) (s : State) : (railDown mask s).pins.pen3 = s.pins.pen3 :=
  each_keeps (obs := fun a => a.pins.pen3) fun _ _ _ => fallLater_pen3 ..

theorem railDown_frame (mask : Nat) (s : State) : s.sameBut [.pins, .pnl] (railDown mask s) :=
  (kept_railDown mask (fun _ => id) (Kept.start _ s)).rest

@[simp] theorem railDown_boot (mask : Nat) (s : State) : (railDown mask s).boot = s.boot :=
  (railDown_frame mask s).boot (by decide)

@[simp] theorem oget_railDown (mask k : Nat) (s : State) : oget (railDown mask s) k = oget s k :=
  oget_congr ((railDown_frame mask s).obj (by decide)) k

/-- A band that the mask leaves out is not touched. -/
theorem railDown_of_not_named {mask b : Nat} {s : State} (h : bit mask b = false) :
    railOf (railDown mask s) b = railOf s b ∧ padsOf (railDown mask s) b = padsOf s b := by
  have hne {e : Nat × Nat} {xs : List Nat} (he : e ∈ (xs.filter (fun c =>
      bit mask c && (railUp s c || (railOf s c).due))).zipIdx) : b ≠ e.1 := by
    rintro rfl
    have := (List.mem_filter.1 (List.fst_mem_of_mem_zipIdx he)).2
    simp [h] at this
  exact ⟨each_keeps (obs := fun a => railOf a b) fun e he a => (fallLater_other (hne he)).1,
    each_keeps (obs := fun a => padsOf a b) fun e he a => (fallLater_other (hne he)).2⟩

/-- A band that the mask names falls as one of the list, before and after which the others fall. -/
theorem railDown_of_named {mask b : Nat} {s : State} (h : bit mask b = true) (hb : b < bandCount s)
    (hup : railUp s b = true) :
    ∃ (i : Nat) (a : State), a.now = s.now ∧ a.obj = s.obj ∧ railOf a b = railOf s b ∧
      railOf (railDown mask s) b = railOf (fallLater i b 1 false a) b ∧
      padsOf (railDown mask s) b = padsOf (fallLater i b 1 false a) b := by
  unfold railDown
  generalize hl : (usedBands s).filter (fun b => bit mask b && (railUp s b || (railOf s b).due)) = l
  have hmem : b ∈ l := by
    rw [← hl, List.mem_filter]
    exact ⟨List.mem_range.2 hb, by simp [h, hup]⟩
  have hnd : l.Nodup := by
    rw [← hl]
    exact List.nodup_range.filter _
  obtain ⟨l1, l2, rfl⟩ := List.append_of_mem hmem
  have hnd1 := List.nodup_middle.1 hnd
  have hnot : b ∉ l1 ++ l2 := (List.nodup_cons.1 hnd1).1
  simp only [List.mem_append, not_or] at hnot
  obtain ⟨hn1, hn2⟩ := hnot
  have hsplit (a : State) : each ((l1 ++ b :: l2).zipIdx) (fun e => fallLater e.2 e.1 1 false) a =
      each (l2.zipIdx (0 + l1.length + 1)) (fun e => fallLater e.2 e.1 1 false)
        (fallLater (0 + l1.length) b 1 false (each l1.zipIdx (fun e => fallLater e.2 e.1 1 false) a)) := by
    simp only [each, List.zipIdx_append, List.zipIdx_cons, List.foldl_append, List.foldl_cons]
  have hne {e : Nat × Nat} {k : Nat} {xs : List Nat} (he : e ∈ xs.zipIdx k) (hx : b ∉ xs) : b ≠ e.1 :=
    fun hbe => hx (hbe ▸ List.fst_mem_of_mem_zipIdx he)
  rw [hsplit]
  refine ⟨0 + l1.length, each l1.zipIdx (fun e => fallLater e.2 e.1 1 false) s, ?_, ?_, ?_, ?_, ?_⟩
  · exact each_keeps fun _ _ _ => fallLater_now ..
  · exact each_keeps (obs := State.obj) fun _ _ _ => (fallLater_frame ..).obj (by decide)
  · exact each_keeps (obs := fun a => railOf a b) fun e he a => (fallLater_other (hne he hn1)).1
  · exact each_keeps (obs := fun a => railOf a b) fun e he a => (fallLater_other (hne he hn2)).1
  · exact each_keeps (obs := fun a => padsOf a b) fun e he a => (fallLater_other (hne he hn2)).2

/-- A band that is up and goes down keeps its place until its step, with GOE low. -/
theorem railDown_band {mask b : Nat} {s : State} (h : bit mask b = true) (hb : b < bandCount s)
    (hst : (railOf s b).state = .on) (hd : (railOf s b).fallDue = none) :
    (railOf (railDown mask s) b).fallDue = some 1 ∧
      s.now + 1000 * oget s Ob.PNL_TPV ≤ (railOf (railDown mask s) b).at_ ∧
      (padsOf (railDown mask s) b).goe = false := by
  have hup := railUp_of_on hst
  obtain ⟨i, a, hnow, hobj, hrail, hr, hp⟩ := railDown_of_named h hb hup
  have hupa : railUp a b = true := by rw [← hup, railUp, railUp, hrail]
  rw [hr, hp, fallLater_of_up hupa]
  simp only [railOf_setRail, hrail, hd, padsOf_setRail, hnow, oget_congr hobj]
  refine ⟨rfl, ?_, by simp [goeLow]⟩
  simp only [Option.isSome_none, Bool.false_eq_true, if_false]
  rw [Nat.mul_add]
  omega

/-! ## A request -/

/-- A single band that is accepted opens at once. -/
theorem acceptBands_singleton {b : Nat} {s : State} (hop : s.boot.op = .setup) (hpen : s.pins.pen3 = true)
    (hst : (railOf s b).state = .off) :
    (railOf (acceptBands [b] s) b).state = .opening ∧ (padsOf (acceptBands [b] s) b).pven = false ∧
      (acceptBands [b] s).obj = s.obj := by
  have hx : acceptBands [b] s = openBand b (setRail b { railOf s b with due := true, at_ := s.now } s) := by
    simp [acceptBands, each, hst]
  rw [hx, openBand_of_due (s := setRail b { railOf s b with due := true, at_ := s.now } s) (by rw [railOf_setRail])
    (by rw [railOf_setRail]; exact le_refl s.now) hop hpen
    (.inl (by rw [railOf_setRail]; exact hst))]
  simp

section
variable {v : Nat} {s : State}

theorem ownRailReq_ok {ups : List Nat} (hu : [0, 1, 2, 3].filter (fun b => bit v b && !railUp s b) = ups)
    (hop : s.boot.op = .setup) (herr : ∀ b ∈ ups, railErr s b = 0) :
    ownRailReq v s = (acceptBands ups (railDown (15 - v % 16) (oset Ob.PNL_RAILREQ v s)), St.ok) := by
  have hfind : ups.find? (fun b => decide (railErr s b ≠ 0)) = none := by
    rw [List.find?_eq_none]
    intro b hb
    simp [herr b hb]
  unfold ownRailReq
  rw [hu]
  simp only [hop, ne_eq, not_true_eq_false, and_false, if_false, hfind]

theorem ownRailReq_refused {b : Nat} (hu : [0, 1, 2, 3].filter (fun b => bit v b && !railUp s b) = [b])
    (herr : railErr s b ≠ 0) : ownRailReq v s = (oset Ob.PNL_RAILERR (railErr s b) s, St.refused) := by
  unfold ownRailReq
  rw [hu]
  simp [herr]

end

/-- The automatic request of one band. -/
theorem exec_autorailRequest_single {t b : Nat} {s : State} (hop : s.boot.op = .setup) (hb : autoBands (s.at t) = [b])
    (hst : (railOf s b).state = .off) :
    ∃ pnl : Pnl, pnl.rails = s.pnl.rails ∧ exec (.autorailRequest t) s = .next (if railErr s b = 0 then
        acceptBands [b] (oset Ob.PNL_RAILREQ (setBit (oget s Ob.PNL_RAILREQ) b) { s.at t with pnl := pnl })
      else oset Ob.PNL_RAILERR (railErr s b) { s.at t with pnl := pnl }) := by
  have hup := railUp_of_off hst
  refine ⟨{ s.pnl with auto := autoMade b (railErr s b) s.pnl.auto }, rfl, ?_⟩
  change Host.Outcome.next _ = _
  rw [if_pos (show (s.at t).boot.op = .setup from hop), hb]
  by_cases he : railErr s b = 0
  · simp [each, he, hup]
    rfl
  · simp [each, he, acceptBands]

/-- Settles O24: the bands that the value turns on are the band alone, or none; the others that it leaves out go down. -/
theorem railsFollowTheirRequests : Obligations.RailsFollowTheirRequests := by
  intro t band s hop
  refine ⟨?up, ?down, ?auto⟩
  case up =>
    rintro h bands v hv ht hbit hst hothers
    have hups : [0, 1, 2, 3].filter (fun b => bit v b && !railUp (counted (s.at t) h) b) = [band.val] := by
      refine filter_bands_eq_singleton band (by simp [hbit, railUp_of_off hst]) fun c hc hne => ?_
      cases hvc : bit v c
      · rfl
      · simp [hothers c hc hvc hne]
    have hx : exec (.railPowerUpReq t h bands) s = .next (writeRow h Ob.PNL_RAILREQ v ownRailReq (s.at t)) := by
      rw [hv]
      rfl
    refine ⟨fun herr => ⟨_, hx, ?_⟩, fun herr => ⟨_, hx, ?_⟩⟩
    · have hown := ownRailReq_ok hups (by simpa using hop) (by simpa using herr)
      have hnot : bit (15 - v % 16) band.val = false := by
        rw [bit_fifteen_sub _ (Nat.mod_lt _ (by decide)), bit_mod_sixteen _ band.isLt, hbit]
        simp
      obtain ⟨hrail, -⟩ := railDown_of_not_named (s := oset Ob.PNL_RAILREQ v (counted (s.at t) h)) hnot
      obtain ⟨hopen, hpven, hobj⟩ := acceptBands_singleton
        (s := railDown (15 - v % 16) (oset Ob.PNL_RAILREQ v (counted (s.at t) h))) (b := band.val) (by simpa using hop)
        (by rw [railDown_pen3]; simpa using pen3_of_railErr_eq_zero herr) (by rw [hrail]; simpa using hst)
      refine ⟨?_, ?_, ?_, exec_mem hx (by simp [footprint]), exec_boot hx (by simp [footprint])⟩
      · rw [writeRow_of_taken ht, railOf_answerTaken, hown, hopen]
      · rw [oget_writeRow ht (by decide), hown, oget_congr hobj]
        simp
      · rw [writeRow_of_taken ht, padsOf_answerTaken, hown, hpven]
    · have hown := ownRailReq_refused hups (by simpa using herr)
      refine ⟨?_, ?_, ?_⟩
      · rw [oget_writeRow ht (by decide), hown]
        simp
      · rw [oget_writeRow ht (by decide), hown, oget_oset_ne _ _ (by decide),
          oget_counted_at _ _ _ (by decide) (by decide)]
      · rw [writeRow_of_taken ht]
        simp [hown]
  case down =>
    rintro h bands v hv ht hbit hb hst hd hothers
    have hvb : bit v band.val = false := by
      rw [hv, bit_and, bit_fifteen_sub _ bands.isLt, hbit]
      simp
    have hups : [0, 1, 2, 3].filter (fun b => bit v b && !railUp (counted (s.at t) h) b) = [] := by
      refine filter_bands_eq_nil fun c hc => ?_
      cases hvc : bit v c
      · rfl
      · simp [hothers c hc hvc]
    have hx : exec (.railDownReq t h bands) s = .next (writeRow h Ob.PNL_RAILREQ v ownRailReq (s.at t)) := by
      rw [hv]
      rfl
    have hown := ownRailReq_ok hups (by simpa using hop) (by simp)
    have hnamed : bit (15 - v % 16) band.val = true := by
      rw [bit_fifteen_sub _ (Nat.mod_lt _ (by decide)), bit_mod_sixteen _ band.isLt, hvb]
      simp [band.isLt]
    have hcount : bandCount (oset Ob.PNL_RAILREQ v (counted (s.at t) h)) = bandCount s := by
      have hsb : oget (oset Ob.PNL_RAILREQ v (counted (s.at t) h)) Ob.SCAN_BANDS = oget s Ob.SCAN_BANDS :=
        (oget_oset_ne _ _ (by decide)).trans (oget_counted_at _ _ _ (by decide) (by decide))
      unfold bandCount
      rw [hsb]
    obtain ⟨hfall, hat, hgoe⟩ := railDown_band (s := oset Ob.PNL_RAILREQ v (counted (s.at t) h)) hnamed
      (hcount ▸ hb) (by simpa using hst) (by simpa using hd)
    have htpv : oget (oset Ob.PNL_RAILREQ v (counted (s.at t) h)) Ob.PNL_TPV = oget s Ob.PNL_TPV :=
      (oget_oset_ne _ _ (by decide)).trans (oget_counted_at _ _ _ (by decide) (by decide))
    rw [htpv] at hat
    refine ⟨_, hx, ?_, ?_, ?_, ?_, exec_mem hx (by simp [footprint]), exec_boot hx (by simp [footprint])⟩
    · rw [writeRow_of_taken ht, railOf_answerTaken, hown]
      exact hfall
    · rw [writeRow_of_taken ht, railOf_answerTaken, hown]
      simpa [acceptBands, each] using hat
    · rw [writeRow_of_taken ht, padsOf_answerTaken, hown]
      exact hgoe
    · rw [oget_writeRow ht (by decide), hown]
      simp [acceptBands, each]
  case auto =>
    intro hauto hst
    obtain ⟨pnl, hrails, hx⟩ := exec_autorailRequest_single hop hauto hst
    refine ⟨fun herr => ?_, fun herr => ?_⟩
    · rw [if_pos herr] at hx
      obtain ⟨hopen, -, hobj⟩ := acceptBands_singleton (b := band.val)
        (s := oset Ob.PNL_RAILREQ (setBit (oget s Ob.PNL_RAILREQ) band.val) { s.at t with pnl := pnl }) hop
        (pen3_of_railErr_eq_zero (s := s) herr) (by rw [railOf_oset]; simpa [railOf, hrails] using hst)
      exact ⟨_, hx, hopen, by rw [oget_congr hobj]; simp, exec_mem hx (by simp [footprint]), exec_boot hx (by simp [footprint])⟩
    · rw [if_neg herr] at hx
      refine ⟨_, hx, ?_, by simp, ?_⟩
      · rw [railOf_oset]
        simpa [railOf, hrails] using hst
      · rw [oget_oset_ne _ _ (by decide)]
        rfl

end Sys2Proof.Machine
end

section
/-!
SUPPORT. Power-on: the supplies in their order, and what a power-on reset leaves (R455, R457, R458).
-/

namespace Sys2Proof.Machine

open Sys2Proof

/-! ## The power sequence -/

section
variable {t : Nat} {s : State}

theorem exec_fuseLoad_first (h : s.boot.stage = .aonReset) : exec (.fuseLoad t) s =
    .next (enableSupplies { s.at t with pins := { s.pins with fused := true, pdisWeak := false } }) :=
  congrArg Host.Outcome.next (if_pos h)

theorem exec_pgoodRise_awaited (h : s.boot.stage = .waitPgood) : exec (.pgoodRise t) s =
    .next { s.at t with boot := { s.boot with stage := .waitPen1, stageAt := max s.now t }
                        pins := { s.pins with pgood := s.pins.pen0, pen1 := true } } :=
  congrArg Host.Outcome.next (if_pos h)

/-- VDRAM and VLANE are both in their windows: PEN2 goes high. -/
theorem exec_supplyInWindow_both {w : Supply} (h : (supplyOk w s.pins s.boot).stage = .waitPen1)
    (hd : (supplyOk w s.pins s.boot).vdramOk = true) (hl : (supplyOk w s.pins s.boot).vlaneOk = true) :
    exec (.supplyInWindow t w) s = .next { s.at t with
      boot := { supplyOk w s.pins s.boot with stage := .waitPen2, stageAt := max s.now t }
      pins := { s.pins with pen2 := true } } :=
  congrArg Host.Outcome.next (if_pos ⟨h, hd, hl⟩)

/-- One of the two is still awaited. -/
theorem exec_supplyInWindow_one {w : Supply} (h : (supplyOk w s.pins s.boot).stage = .waitPen1)
    (hl : (supplyOk w s.pins s.boot).vlaneOk = false) :
    exec (.supplyInWindow t w) s = .next { s.at t with boot := supplyOk w s.pins s.boot } :=
  congrArg Host.Outcome.next ((if_neg (by simp [hl])).trans (if_neg (by simp [h])))

/-- The last supply makes them complete. -/
theorem exec_supplyInWindow_last {w : Supply} (h : (supplyOk w s.pins s.boot).stage = .waitPen2)
    (hv : (supplyOk w s.pins s.boot).viocdOk = true) :
    exec (.supplyInWindow t w) s = .next { s.at t with
      boot := { supplyOk w s.pins s.boot with stage := .supplied, attempts := 0 } } :=
  congrArg Host.Outcome.next ((if_neg (by simp [h])).trans (if_pos ⟨h, hv⟩))

theorem exec_supplyStartTimeout_due (h : s.boot.stage = .waitPgood ∨ s.boot.stage = .waitPen1 ∨ s.boot.stage = .waitPen2)
    (hat : s.boot.stageAt + 5000000 ≤ max s.now t) :
    exec (.supplyStartTimeout t) s = .next ((if 2 ≤ s.boot.attempts then oset Ob.PWR_BOOTFAIL (failCode s.boot.stage) else id)
      { s.at t with
        boot := { s.boot with
          attempts := s.boot.attempts + 1, stage := if 2 ≤ s.boot.attempts then .failed else .retryWait
          stageAt := max s.now t }
        pins := { s.pins with pen0 := false, pen1 := false, pen2 := false, pgood := false, padsCd18 := none } }) := by
  refine congrArg Host.Outcome.next ((if_pos ⟨h, hat⟩).trans ?_)
  by_cases h2 : 2 ≤ s.boot.attempts
  · simp [h2]
  · simp [h2]

theorem exec_supplyRetryTimer_due (h : s.boot.stage = .retryWait) (hat : s.boot.stageAt + 100000000 ≤ max s.now t) :
    exec (.supplyRetryTimer t) s = .next (enableSupplies (s.at t)) :=
  congrArg Host.Outcome.next (if_pos ⟨h, hat⟩)

end

/-! ## A power-on reset -/

/-- An object that a filter takes out reads its default. -/
theorem look_filter_of_not {α : Type} {p : Nat → Bool} {k : Nat} (m : SMap α) (h : p k = false) :
    look (m.filter (fun e => p e.1)) k = none := by
  induction m with
  | nil => rfl
  | cons e r ih =>
    obtain ⟨j, v⟩ := e
    by_cases hj : p j = true
    · have hjk : j ≠ k := by
        rintro rfl
        rw [h] at hj
        cases hj
      simp [hj, look, hjk, ih]
    · simp [hj, ih]

/-- The state that a power-on reset starts from, before the strap is read. -/
def porState (s : State) : State := { State.reset with
  pending := s.pending, now := s.now, free := s.free
  obj := s.obj.filter (fun e => decide (e.1 = Ob.JRN_SEQ))
  boot := { Boot.initial with factoryKey := s.boot.factoryKey }
  pins := { Pins.initial with rstExt := s.pins.rstExt, wakeN := s.pins.wakeN }
  mgt := keepPatches s.mgt
  pnl := { Pnl.initial with path := s.pnl.path }
  jrn := keepDevice s.jrn }

theorem exec_powerOnReset (t : Nat) (lost : Bool) (straps : List (BitVec 12)) (s : State) :
    exec (.powerOnReset t lost straps) s =
      .next (readStrap straps (whenDo lost (oset Ob.PWR_RETLOSS 2) (porState (s.at t)))) := rfl

theorem oget_porState {k : Nat} (s : State) (h : k ≠ Ob.JRN_SEQ) : oget (porState s) k = objDefault k := by
  have hl : look (porState s).obj k = none :=
    look_filter_of_not (p := fun j => decide (j = Ob.JRN_SEQ)) s.obj (decide_eq_false h)
  rw [oget, get, hl, Option.getD_none]

/-- A loss of the retention area is shown in PWR_RETLOSS alone. -/
theorem oget_retLoss {k : Nat} (lost : Bool) (s : State) :
    oget (whenDo lost (oset Ob.PWR_RETLOSS 2) s) k = if lost = true ∧ k = Ob.PWR_RETLOSS then 2 else oget s k := by
  cases lost
  · simp [whenDo]
  · simp [whenDo, oget_oset]

/-- The strap record is the median, the site and the two signs of a bad strap. -/
theorem oget_readStrap_ne {k : Nat} (xs : List (BitVec 12)) (s : State) (h : k ≠ Ob.RST_STRAP_CODE) (h1 : k ≠ Ob.RST_STRAP_SITE)
    (h2 : k ≠ Ob.RST_STRAP_MARGIN) (h3 : k ≠ Ob.RST_STRAP_SPREAD) : oget (readStrap xs s) k = oget s k := by
  change oget (oset Ob.RST_STRAP_CODE _ _) k = oget s k
  rw [oget_oset_ne _ _ h, oget_oset_ne _ _ h1, oget_oset_ne _ _ h2, oget_oset_ne _ _ h3]

theorem oget_readStrap_code (xs : List (BitVec 12)) (s : State) :
    oget (readStrap xs s) Ob.RST_STRAP_CODE = lowerMedian (xs.map (·.toNat)) := by
  change oget (oset Ob.RST_STRAP_CODE _ _) Ob.RST_STRAP_CODE = _
  rw [oget_oset_same]

theorem oget_readStrap_site (xs : List (BitVec 12)) (s : State) :
    oget (readStrap xs s) Ob.RST_STRAP_SITE = lowerMedian (xs.map (·.toNat)) / 256 := by
  change oget (oset Ob.RST_STRAP_CODE _ _) Ob.RST_STRAP_SITE = _
  rw [oget_oset_ne _ _ (by decide), oget_oset_same]

/-- Settles O1: the equation of each command of the sequence, and the state that a power-on reset starts from. -/
theorem powerComesOn : Obligations.PowerComesOn := by
  refine ⟨fun t s => ⟨fun h => ?fuse, fun h => ?pgood, fun h hpen => ⟨fun hd => ?vlane, fun hl => ?vdram, fun hl => ?one⟩,
    fun h hpen => ?viocd, fun h hat => ?timeout, fun h hat => ?retry⟩, fun t lost straps s => ?por⟩
  case fuse => exact ⟨_, exec_fuseLoad_first h, rfl, rfl, rfl, rfl, rfl, rfl⟩
  case pgood => exact ⟨_, exec_pgoodRise_awaited h, rfl, rfl, rfl, rfl⟩
  case vlane =>
    exact ⟨_, exec_supplyInWindow_both h hd (by simp [supplyOk, hpen]), rfl, by simp [supplyOk, hpen], rfl⟩
  case vdram =>
    exact ⟨_, exec_supplyInWindow_both h (by simp [supplyOk, hpen]) hl, rfl, by simp [supplyOk, hpen], rfl⟩
  case one => exact ⟨_, exec_supplyInWindow_one h hl, rfl, by simp [supplyOk, hpen], h⟩
  case viocd => exact ⟨_, exec_supplyInWindow_last h (by simp [supplyOk, hpen]), by simp [supplyOk, hpen], rfl, rfl⟩
  case timeout =>
    refine ⟨_, exec_supplyStartTimeout_due h hat, ?_⟩
    by_cases h2 : 2 ≤ s.boot.attempts <;> simp [h2]
  case retry => exact ⟨_, exec_supplyRetryTimer_due h hat, rfl, rfl, rfl, rfl⟩
  case por =>
    refine ⟨_, exec_powerOnReset t lost straps s, ?_⟩
    have hobj (k : Nat) (hk : k ∉ [Ob.RST_STRAP_CODE, Ob.RST_STRAP_SITE, Ob.RST_STRAP_MARGIN, Ob.RST_STRAP_SPREAD,
        Ob.PWR_RETLOSS, Ob.JRN_SEQ]) :
        oget (readStrap straps (whenDo lost (oset Ob.PWR_RETLOSS 2) (porState (s.at t)))) k = oget State.reset k := by
      simp only [List.mem_cons, List.not_mem_nil, or_false, not_or] at hk
      obtain ⟨hcode, hsite, hmargin, hspread, hloss, hseq⟩ := hk
      rw [oget_readStrap_ne _ _ hcode hsite hmargin hspread, oget_retLoss, if_neg (fun h => hloss h.2), oget_porState _ hseq]
      rfl
    have hloss : oget (readStrap straps (whenDo lost (oset Ob.PWR_RETLOSS 2) (porState (s.at t)))) Ob.PWR_RETLOSS =
        if lost then 2 else 0 := by
      rw [oget_readStrap_ne _ _ (by decide) (by decide) (by decide) (by decide), oget_retLoss,
        oget_porState _ (by decide)]
      simp
      rfl
    cases lost <;> exact ⟨rfl, rfl, rfl, rfl, rfl, rfl, rfl, rfl, rfl, rfl, rfl, rfl, oget_readStrap_code .., oget_readStrap_site ..,
      hloss, hobj⟩

end Sys2Proof.Machine
end

section
/-!
SUPPORT. The lampblack path and the resets that wait for it (R315 to R320, R451 to R454), and the device-class reaction (R295): what
each changes of the operating state, the pins and the rails.
-/

namespace Sys2Proof.Machine

open Sys2Proof

/-! ## One element of a list of operations -/

/-- What a list of operations makes of an element, where every other operation leaves what is looked at alone. -/
theorem each_at {ι β : Type} [DecidableEq ι] {f : ι → State → State} {obs : State → β} {xs : List ι} {x : ι} (hx : x ∈ xs)
    (hnd : xs.Nodup) (hother : ∀ y, y ≠ x → ∀ a, obs (f y a) = obs a) (s : State) :
    ∃ a, obs a = obs s ∧ obs (each xs f s) = obs (f x a) := by
  obtain ⟨l1, l2, rfl⟩ := List.append_of_mem hx
  have hnot := (List.nodup_cons.1 (List.nodup_middle.1 hnd)).1
  simp only [List.mem_append, not_or] at hnot
  obtain ⟨hn1, hn2⟩ := hnot
  have hsplit : each (l1 ++ x :: l2) f s = each l2 f (f x (each l1 f s)) := by
    simp only [each, List.foldl_append, List.foldl_cons]
  rw [hsplit]
  exact ⟨each l1 f s, each_keeps fun y hy a => hother y (fun h => hn1 (h ▸ hy)) a,
    each_keeps fun y hy a => hother y (fun h => hn2 (h ▸ hy)) a⟩

/-! ## The falls change rails and pads alone -/

/-- An operation that has changed nothing but the rails and the pads of the bands. -/
def RailsOnly (s s' : State) : Prop :=
  ∃ bands rails, s' = { s with pins := { s.pins with bands := bands }, pnl := { s.pnl with rails := rails } }

theorem RailsOnly.refl (s : State) : RailsOnly s s := ⟨_, _, rfl⟩

theorem RailsOnly.trans {a b c : State} (h : RailsOnly a b) (h' : RailsOnly b c) : RailsOnly a c := by
  obtain ⟨_, _, rfl⟩ := h
  obtain ⟨_, _, rfl⟩ := h'
  exact ⟨_, _, rfl⟩

theorem railsOnly_setRail (b : Nat) (v : Rail) (s : State) : RailsOnly s (setRail b v s) := ⟨_, _, rfl⟩

theorem railsOnly_setPads (b : Nat) (v : BandPins) (s : State) : RailsOnly s (setPads b v s) := ⟨_, _, rfl⟩

theorem railsOnly_fallIn (wait b down : Nat) (toCut : Bool) (s : State) : RailsOnly s (fallIn wait b down toCut s) := by
  simp only [fallIn, fallOn]
  split
  · exact ((railsOnly_setPads _ _ _).trans (railsOnly_setPads _ _ _)).trans (railsOnly_setRail _ _ _)
  · exact (railsOnly_setPads _ _ _).trans (railsOnly_setRail _ _ _)

theorem railsOnly_fallLater (i b down : Nat) (toCut : Bool) (s : State) : RailsOnly s (fallLater i b down toCut s) := by
  simp only [fallLater, fallOn]
  split
  · exact (railsOnly_setPads _ _ _).trans (railsOnly_setRail _ _ _)
  · exact (railsOnly_setPads _ _ _).trans (railsOnly_setRail _ _ _)

theorem railsOnly_fallBy (i b down : Nat) (toCut : Bool) (s : State) : RailsOnly s (fallBy i b down toCut s) := by
  unfold fallBy
  split
  · exact railsOnly_fallLater ..
  · exact railsOnly_fallIn ..

theorem railsOnly_discharged (b : Nat) (s : State) : RailsOnly s (discharged b s) := by
  simp only [discharged]
  split
  · exact (railsOnly_setPads _ _ _).trans (railsOnly_setRail _ _ _)
  · exact RailsOnly.refl _

theorem railsOnly_fallStep (b : Nat) (s : State) : RailsOnly s (fallStep b s) := by
  simp only [fallStep]
  split
  · exact railsOnly_fallIn ..
  · exact RailsOnly.refl _

theorem railsOnly_fallDone (b : Nat) (s : State) : RailsOnly s (fallDone b s) :=
  (railsOnly_fallStep b s).trans (railsOnly_discharged b _)

theorem railsOnly_each {f : Nat → State → State} (hf : ∀ b s, RailsOnly s (f b s)) (xs : List Nat) (s : State) :
    RailsOnly s (each xs f s) :=
  foldl_keeps (RailsOnly s) _ xs (fun b _ a ha => ha.trans (hf b a)) s (RailsOnly.refl s)

/-! ## A band is discharged at the end of a sequence -/

/-- The two sides of a band that a fall concerns. -/
def bandSides (b : Nat) (s : State) : Rail × BandPins := (railOf s b, padsOf s b)

theorem bandSides_fallDone_other {b c : Nat} (h : c ≠ b) (s : State) : bandSides b (fallDone c s) = bandSides b s := by
  have hb : b ≠ c := fun e => h e.symm
  have hr (v : Rail) (a : State) : bandSides b (setRail c v a) = bandSides b a :=
    Prod.ext (railOf_setRail_ne v a hb) rfl
  have hp (v : BandPins) (a : State) : bandSides b (setPads c v a) = bandSides b a :=
    Prod.ext rfl (padsOf_setPads_ne v a hb)
  have hd (a : State) : bandSides b (discharged c a) = bandSides b a := by
    simp only [discharged]
    split
    · exact (hr _ _).trans (hp _ _)
    · rfl
  have hf (w d : Nat) (k : Bool) (a : State) : bandSides b (fallIn w c d k a) = bandSides b a := by
    simp only [fallIn, fallOn]
    split
    · exact ((hr _ _).trans (hp _ _)).trans (hp _ _)
    · exact (hr _ _).trans (hp _ _)
  unfold fallDone
  rw [hd]
  simp only [fallStep]
  split
  · exact hf _ _ _ _
  · rfl

/-- A band falls, or is up and has to fall. -/
def mustFall (r : Rail) : Prop :=
  r.state = .falling ∨ ((r.state = .opening ∨ r.state = .rising ∨ r.state = .on) ∧ r.fallDue.isSome = true)

theorem railUp_iff {s : State} {b : Nat} : railUp s b = true ↔
    (railOf s b).state = .opening ∨ (railOf s b).state = .rising ∨ (railOf s b).state = .on := by
  simp [railUp, or_assoc]

/-- A band that is discharged: OFF, or CUT where it was cut, with its discharge switch closed. -/
def isDischarged (toCut : Bool) (x : Rail × BandPins) : Prop :=
  x.1.state = (if toCut then .cut else .off) ∧ x.2.pdis = true ∧ x.2.pven = false

theorem isDischarged_discharged {b : Nat} {s : State} (h : (railOf s b).state = .falling) :
    isDischarged (railOf s b).toCut (bandSides b (discharged b s)) := by
  rw [discharged_of_falling h]
  simp [isDischarged, bandSides]

/-- The end of a sequence discharges a band that must fall. -/
theorem isDischarged_fallDone {b : Nat} {s : State} (h : mustFall (railOf s b)) :
    isDischarged (railOf s b).toCut (bandSides b (fallDone b s)) := by
  have hstep : (railOf (fallStep b s) b).state = .falling ∧ (railOf (fallStep b s) b).toCut = (railOf s b).toCut := by
    cases hd : (railOf s b).fallDue with
    | some d =>
      by_cases hup : railUp s b = true
      · rw [fallStep_of_up hd hup]
        simp
      · have hst : (railOf s b).state = .falling := by
          obtain h | ⟨h, -⟩ := h
          · exact h
          · exact absurd (railUp_iff.2 h) hup
        simp only [fallStep, hd, fallIn, if_neg hup, fallOn, railOf_setRail, Bool.false_and, Bool.or_false]
        exact ⟨hst, rfl⟩
    | none =>
      have hst : (railOf s b).state = .falling := by
        obtain h | ⟨-, h⟩ := h
        · exact h
        · simp [hd] at h
      simp only [fallStep, hd]
      exact ⟨hst, trivial⟩
  have := isDischarged_discharged hstep.1
  rwa [hstep.2] at this

/-- The end of the sequences of all bands. -/
theorem isDischarged_each_fallDone {b : Nat} {s : State} (hb : b < 4) (h : mustFall (railOf s b)) :
    isDischarged (railOf s b).toCut (bandSides b (each [0, 1, 2, 3] fallDone s)) := by
  have hmem : b ∈ [0, 1, 2, 3] := by
    simp only [List.mem_cons, List.not_mem_nil, or_false]
    omega
  obtain ⟨a, ha, hx⟩ := each_at (obs := bandSides b) hmem (by decide) (fun c hc a => bandSides_fallDone_other hc a) s
  have hr : railOf a b = railOf s b := congrArg Prod.fst ha
  rw [hx, ← hr]
  exact isDischarged_fallDone (hr ▸ h)

/-! ## The path -/

theorem holdBlack_frame (b : Nat) (rel : Bool) (s : State) : s.sameBut [.dlk] (holdBlack b rel s) :=
  (kept_holdBlack b rel (fun _ => id) (Kept.start _ s)).rest

theorem startPath_frame (c : Nat) (s : State) : s.sameBut [.obj, .pins, .dlk, .pnl] (startPath c s) :=
  (kept_startPath c (fun _ => id) (Kept.start _ s)).rest

@[simp] theorem assertFault_faultN (s : State) : (assertFault s).pins.faultN = false := by
  unfold assertFault
  split
  · simp
  · next h => simpa using h

theorem assertFault_pnl (s : State) : (assertFault s).pnl = s.pnl := by
  unfold assertFault
  split
  · simp
  · rfl

theorem oget_assertFault {k : Nat} (s : State) (h : notCounter k = true) : oget (assertFault s) k = oget s k := by
  unfold assertFault
  split
  · rw [oget_evc _ _ _ h]
    rfl
  · rfl

/-- Each band of a path falls and holds its link: the path, FAULT_N and the objects stay. -/
theorem each_fallBy_keeps (down : Nat) (xs : List Nat) (s : State) :
    let s' := each xs (fun b st => holdBlack b false (fallBy b b down false st)) s
    s'.pnl.path = s.pnl.path ∧ s'.pins.faultN = s.pins.faultN ∧ s'.obj = s.obj := by
  refine foldl_keeps (fun a => a.pnl.path = s.pnl.path ∧ a.pins.faultN = s.pins.faultN ∧ a.obj = s.obj) _ xs
    (fun b _ a ha => ?_) s ⟨rfl, rfl, rfl⟩
  obtain ⟨hpath, hfault, hobj⟩ := ha
  have hh := holdBlack_frame b false (fallBy b b down false a)
  obtain ⟨bands, rails, he⟩ := railsOnly_fallBy b b down false a
  rw [hh.pnl (by decide), hh.pins (by decide), hh.obj (by decide), he]
  exact ⟨hpath, hfault, hobj⟩

/-- The objects that a path shows and counts in. -/
def pathObjects : List Nat := [Ob.PNL_LB_LAST, Ob.PNL_LB_RESET, Ob.PNL_LB_PFAIL, Ob.PNL_LB_CRACK]

theorem pathCounter_mem (c : Nat) : pathCounter c ∈ pathObjects := by
  unfold pathCounter pathObjects
  split
  · simp
  · split <;> simp

theorem oget_pathCounter {k c : Nat} {s : State} (h : k ∉ pathObjects) : oget (cnt (pathCounter c) s) k = oget s k :=
  oget_cnt_ne _ fun e => h (e ▸ pathCounter_mem c)

/-- A path is in progress, with FAULT_N low, and no object changes but those of the path. -/
theorem startPath_spec (c : Nat) (s : State) : (startPath c s).pnl.path.isSome = true ∧ (startPath c s).pins.faultN = false ∧
    ∀ k, notCounter k = true → k ∉ pathObjects → oget (startPath c s) k = oget s k := by
  have hlast {k : Nat} (h : k ∉ pathObjects) : k ≠ Ob.PNL_LB_LAST := fun e => h (by simp [pathObjects, e])
  unfold startPath
  cases hp : s.pnl.path with
  | some p =>
    dsimp only
    rw [assertFault_pnl, assertFault_faultN]
    have hstep (a : State) : RailsOnly a (whenDo (decide (c ≠ 0)) (each (usedBands a) (fun b => fallBy b b (c + 2) false)) a) := by
      unfold whenDo
      split
      · exact railsOnly_each (fun b a => railsOnly_fallBy ..) _ _
      · exact RailsOnly.refl _
    obtain ⟨bands, rails, he⟩ := hstep (addCause p (2 ^ c) s)
    rw [he]
    refine ⟨rfl, rfl, fun k hk hkp => ?_⟩
    rw [oget_assertFault _ hk, oget_pathCounter hkp]
    exact oget_oset_ne _ _ (hlast hkp)
  | none =>
    dsimp only
    rw [evc_pnl, evc_pins, cnt_pnl, cnt_pins]
    generalize hs1 : oset Ob.PNL_LB_LAST _ _ = s1
    obtain ⟨hpath, hfault, hobj⟩ := each_fallBy_keeps (c + 2) (usedBands s1) s1
    rw [hpath, hfault]
    refine ⟨?_, ?_, fun k hk hkp => ?_⟩
    · rw [← hs1, oset_pnl, assertFault_pnl]
      rfl
    · rw [← hs1, oset_pins, assertFault_faultN]
    · rw [oget_evc _ _ _ hk, oget_pathCounter hkp, oget_congr hobj, ← hs1, oget_oset_ne _ _ (hlast hkp), oget_assertFault _ hk]
      rfl

/-! ## The reset triggers -/

theorem resetTrigger_frame (src : ResetSrc) (s : State) : s.sameBut [.obj, .boot, .pins, .pwr, .dlk, .pnl] (resetTrigger src s) :=
  (kept_resetTrigger src (fun _ => id) (Kept.start _ s)).rest

/-- A first trigger waits for the path that it starts, and is entered as the source of the reset. -/
theorem resetTrigger_spec {src : ResetSrc} {s : State} (hst : s.boot.stage ≠ .inReset) (hp : s.boot.pending = none) :
    (resetTrigger src s).boot = { s.boot with pending := some src, resetLogged := s.boot.resetLogged ++ [src] } ∧
      (resetTrigger src s).pnl.path.isSome = true ∧ (resetTrigger src s).pins.faultN = false ∧
      oget (resetTrigger src s) Ob.RST_LAST = src.code ∧
      oget (resetTrigger src s) Ob.RST_EXTLOW = oget s Ob.RST_EXTLOW := by
  have hx : resetTrigger src s = startPath (if src = .pfail then 1 else 0)
      { oset Ob.RST_LAST src.code { countReset src s with boot := { (countReset src s).boot with pending := some src } } with
        pwr := { s.pwr with entry := .idle, p3Off := false } } := by
    unfold resetTrigger
    rw [if_neg (show (countReset src s).boot.stage ≠ .inReset from hst), show (countReset src s).boot.pending = none from hp]
    rfl
  rw [hx]
  generalize hs3 : ({ oset Ob.RST_LAST src.code { countReset src s with boot := { (countReset src s).boot with pending := some src } }
    with pwr := { s.pwr with entry := .idle, p3Off := false } } : State) = s3
  obtain ⟨hpath, hfault, hobj⟩ := startPath_spec (if src = .pfail then 1 else 0) s3
  refine ⟨?_, hpath, hfault, ?_, ?_⟩
  · rw [(startPath_frame _ s3).boot (by decide), ← hs3]
    rfl
  · rw [hobj _ (by decide) (by decide), ← hs3]
    exact oget_oset_same _ _ _
  · rw [hobj _ (by decide) (by decide), ← hs3]
    refine (oget_oset_ne _ _ (by decide)).trans (oget_cnt_ne _ ?_)
    cases src <;> decide

section
variable {t : Nat} {s : State}

theorem exec_pinReset_failed {low : Nat} (hl : 0 < low) (h : s.boot.stage = .failed) :
    exec (.pinReset t low) s = .next (enableSupplies { oset Ob.RST_EXTLOW (min low 0xFFFFFFFF) (s.at t) with
      boot := { s.boot with attempts := 0 } }) :=
  congrArg Host.Outcome.next ((if_neg (Nat.pos_iff_ne_zero.1 hl)).trans (if_pos h))

theorem exec_pinReset_driven {low : Nat} (h : s.boot.stage ≠ .failed) (hd : s.pins.rstDrive = true) :
    exec (.pinReset t low) s = .next (s.at t) := by
  by_cases hl : low = 0
  · exact congrArg Host.Outcome.next (if_pos hl)
  · exact congrArg Host.Outcome.next ((if_neg hl).trans ((if_neg h).trans (if_pos hd)))

theorem exec_pinReset_trigger {low : Nat} (hl : 0 < low) (h : s.boot.stage ≠ .failed) (hd : s.pins.rstDrive = false) :
    exec (.pinReset t low) s = .next (resetTrigger .pin (oset Ob.RST_EXTLOW (min low 0xFFFFFFFF) (s.at t))) :=
  congrArg Host.Outcome.next ((if_neg (Nat.pos_iff_ne_zero.1 hl)).trans ((if_neg h).trans (if_neg (by simp [hd]))))

theorem exec_lockstepReset_due {e : Nat} (h : s.boot.lockstepAt = some e) (hst : s.boot.stage = .started)
    (he : e ≤ max s.now t) : exec (.lockstepReset t) s =
      .next (resetTrigger .lockstep { s.at t with boot := { s.boot with lockstepAt := none } }) := by
  change Host.Outcome.next _ = _
  rw [show (s.at t).boot.lockstepAt = some e from h]
  exact congrArg Host.Outcome.next (if_pos ⟨hst, he⟩)

end

/-- Settles O2: each source ends in the one trigger of the path. -/
theorem resetsStartThePath : Obligations.ResetsStartThePath := by
  intro t s
  refine ⟨fun hst hp _ => ⟨?pin, ?soft, ?lockstep⟩, ?failed, fun low h hd => exec_pinReset_driven h hd⟩
  case pin =>
    intro low hl hd
    obtain ⟨hboot, hpath, -, hlast, hext⟩ := resetTrigger_spec (src := .pin)
      (s := oset Ob.RST_EXTLOW (min low 0xFFFFFFFF) (s.at t)) (by simp [hst]) hp
    refine ⟨_, exec_pinReset_trigger hl (by simp [hst]) hd, ?_, hpath, ?_, hlast, ?_⟩
    · rw [hboot]
    · rw [hboot]
      rfl
    · rw [hext, oget_oset_same]
  case soft =>
    intro h v ht
    obtain ⟨hboot, hpath, -, hlast, -⟩ := resetTrigger_spec (src := .soft) (s := counted (s.at t) h) (by simp [hst])
      (by simpa using hp)
    have hx : exec (.rstSoft t h v) s = .next (writeRow h Ob.RST_SOFT v.toNat ownRstSoft (s.at t)) := rfl
    refine ⟨_, hx, ?_, ?_, ?_, ?_⟩
    · rw [writeRow_of_taken ht, answerTaken_boot, ownRstSoft, hboot]
    · rw [writeRow_of_taken ht, answerTaken_pnl, ownRstSoft, hpath]
    · rw [writeRow_of_taken ht, answerTaken_boot, ownRstSoft, hboot]
      simp
    · rw [oget_writeRow ht (by decide), ownRstSoft, hlast]
      rfl
  case lockstep =>
    intro e he hle
    obtain ⟨hboot, hpath, -, hlast, -⟩ := resetTrigger_spec (src := .lockstep)
      (s := { s.at t with boot := { s.boot with lockstepAt := none } }) (by simp [hst]) hp
    refine ⟨_, exec_lockstepReset_due he hst hle, ?_, hpath, ?_, ?_, hlast⟩
    all_goals rw [hboot]
  case failed => exact fun low hl h => ⟨_, exec_pinReset_failed hl h, rfl, rfl, rfl⟩

end Sys2Proof.Machine
end

section
/-!
SUPPORT. The end of a lampblack path (R316 to R320), and what the device-class reaction (R295) leaves of the operating state.
-/

namespace Sys2Proof.Machine

open Sys2Proof

/-! ## The frame of an operation -/

/-- What an operation that keeps all but some parts leaves alone. -/
theorem frameOf {l : List Part} {f : State → State}
    (h : ∀ {m : List Part} {s0 s : State}, Sub l m → Kept m s0 s → Kept m s0 (f s)) (s : State) : s.sameBut l (f s) :=
  (h (fun _ => id) (Kept.start _ s)).rest

/-! ## The device-class reaction -/

theorem changeOp_boot (v : OpState) (s : State) : (changeOp v s).boot = { s.boot with op := v } := by
  unfold changeOp
  by_cases h : s.boot.op = v
  · rw [if_pos h, ← h]
  · rw [if_neg h]
    have hleave : (if s.boot.op = .setup then leaveSetup s else s).boot = s.boot := by
      split
      · exact (frameOf kept_leaveSetup s).boot (by decide)
      · rfl
    have hlog (x y z : Nat) (a : State) : (backEvent 4 x y (logEv 0x03 0 0 z a)).boot = a.boot :=
      ((frameOf (kept_backEvent 4 x y) _).boot (by decide)).trans ((frameOf (kept_logEv 0x03 0 0 z) a).boot (by decide))
    by_cases hv : v = .setup
    · dsimp only
      rw [if_pos hv, (frameOf kept_firstTraining _).boot (by decide), (frameOf kept_startLink _).boot (by decide), hlog, hleave]
    · dsimp only
      rw [if_neg hv, hlog, hleave]

theorem changeOp_frame (v : OpState) (s : State) :
    s.sameBut [.obj, .boot, .pins, .evlog, .cross, .pxl, .trx, .mgt, .scan, .dlk, .pnl, .jrn] (changeOp v s) :=
  frameOf (kept_changeOp v) s

/-- The mechanism's record, and the reset that a lockstep failure is followed by. -/
def reactionMarked (n : Nat) (stay : Bool) (s : State) : State :=
  let s1 := setMech n { mechOf s n with lastClass := 3, active := (mechOf s n).active || stay } s
  if n = 10 ∧ s1.boot.lockstepAt = none then
    { s1 with boot := { s1.boot with lockstepAt := some (s1.now + 10000000) } } else s1

/-- FAULT_N, the record of the last reaction and its log entry. -/
def reactionShown (n : Nat) (inj : Bool) (s : State) : State :=
  logEv 0x04 4 0 (reactData n 0 inj) (assertFault (recordLast n inj (sleepEnds s)))

/-- The operating state under a reaction: recorded in BOOT, SAFE-DARK elsewhere. -/
def reactionEnters (op : OpState) (s : State) : State :=
  if op = .boot then { s with boot := { s.boot with unfit := true } }
  else pendEvt 1 (changeOp .safeDark (if op = .run then leaveRun s else stateNaks s))

/-- Every band is dark and its link holds. -/
def allDark (s : State) : State := evc 0x9B (each [0, 1, 2, 3] (fun b => holdBlack b true) (darkenBands s))

theorem deviceReaction_eq (n : Nat) (stay inj : Bool) (s : State) : deviceReaction n stay inj s =
    if s.boot.op = .safeDark ∨ s.boot.stage ≠ .started then reactionMarked n stay s
    else allDark (reactionEnters s.boot.op (reactionShown n inj (reactionMarked n stay s))) := rfl

theorem reactionShown_frame (n : Nat) (inj : Bool) (s : State) :
    s.sameBut [.obj, .pins, .pwr, .evlog, .pxl, .trx, .fst, .mgt, .scan, .dlk, .pnl, .gyl, .jrn] (reactionShown n inj s) := by
  have h1 := kept_sleepEnds (m := [.obj, .pins, .pwr, .evlog, .pxl, .trx, .fst, .mgt, .scan, .dlk, .pnl, .gyl, .jrn])
    (fun _ => id) (Kept.start _ s)
  have h2 := kept_recordLast n inj (Sub.trans (by decide) fun _ => id) h1
  have h3 := kept_assertFault (Sub.trans (by decide) fun _ => id) h2
  exact (kept_logEv 0x04 4 0 (reactData n 0 inj) (Sub.trans (by decide) fun _ => id) h3).rest

theorem allDark_frame (s : State) : s.sameBut [.obj, .pins, .scan, .dlk] (allDark s) := by
  have h1 := kept_darkenBands (m := [.obj, .pins, .scan, .dlk]) (Sub.trans (by decide) fun _ => id) (Kept.start _ s)
  have h2 : Kept _ s (each [0, 1, 2, 3] (fun b => holdBlack b true) (darkenBands s)) :=
    foldl_keeps (Kept _ s) _ _ (fun b _ a ha => kept_holdBlack b true (Sub.trans (by decide) fun _ => id) ha) _ h1
  exact (kept_evc 0x9B (Sub.trans (by decide) fun _ => id) h2).rest

theorem reactionEnters_boot (op : OpState) (s : State) : (reactionEnters op s).boot =
    { s.boot with op := if op = .boot then s.boot.op else .safeDark, unfit := s.boot.unfit || decide (op = .boot) } := by
  unfold reactionEnters
  by_cases hop : op = .boot
  · simp [hop]
  · have hrun : (if op = .run then leaveRun s else stateNaks s).boot = s.boot := by
      split
      · exact (frameOf kept_leaveRun s).boot (by decide)
      · exact (frameOf kept_stateNaks s).boot (by decide)
    rw [if_neg hop, (frameOf (kept_pendEvt 1) _).boot (by decide), changeOp_boot, hrun]
    simp [hop]

theorem reactionEnters_safe (op : OpState) (s : State) : (reactionEnters op s).safe = s.safe := by
  unfold reactionEnters
  split
  · rfl
  · rw [(frameOf (kept_pendEvt 1) _).safe (by decide), (changeOp_frame _ _).safe (by decide)]
    split
    · exact (frameOf kept_leaveRun s).safe (by decide)
    · exact (frameOf kept_stateNaks s).safe (by decide)

theorem reactionMarked_boot (n : Nat) (stay : Bool) (s : State) :
    ∃ at_, (reactionMarked n stay s).boot = { s.boot with lockstepAt := at_ } := by
  unfold reactionMarked
  dsimp only
  split
  · exact ⟨_, rfl⟩
  · exact ⟨_, rfl⟩

theorem reactionMarked_safe (n : Nat) (stay : Bool) (s : State) : (reactionMarked n stay s).safe =
    (setMech n { mechOf s n with lastClass := 3, active := (mechOf s n).active || stay } s).safe := by
  unfold reactionMarked
  dsimp only
  split
  · rfl
  · rfl

/-- The reaction changes of the boot state the operating state, the failure of BOOT and the lockstep reset alone. -/
theorem deviceReaction_boot (n : Nat) (stay inj : Bool) (s : State) : ∃ op unfit at_,
    (deviceReaction n stay inj s).boot = { s.boot with op := op, unfit := unfit, lockstepAt := at_ } := by
  obtain ⟨at_, hat⟩ := reactionMarked_boot n stay s
  rw [deviceReaction_eq]
  split
  · exact ⟨_, _, _, hat⟩
  · rw [(allDark_frame _).boot (by decide), reactionEnters_boot, (reactionShown_frame n inj _).boot (by decide), hat]
    exact ⟨_, _, _, rfl⟩

/-- A reaction of a running controller out of BOOT leaves it in SAFE-DARK. -/
theorem deviceReaction_op {n : Nat} {stay inj : Bool} {s : State} (h : s.boot.op ≠ .boot) (hst : s.boot.stage = .started) :
    (deviceReaction n stay inj s).boot.op = .safeDark := by
  obtain ⟨at_, hat⟩ := reactionMarked_boot n stay s
  rw [deviceReaction_eq]
  by_cases hd : s.boot.op = .safeDark
  · rw [if_pos (Or.inl hd), hat]
    exact hd
  · rw [if_neg (by simp [hd, hst]), (allDark_frame _).boot (by decide), reactionEnters_boot, if_neg h]

/-- The mechanisms of the reaction are those of its first record. -/
theorem deviceReaction_safe (n : Nat) (stay inj : Bool) (s : State) : (deviceReaction n stay inj s).safe =
    (setMech n { mechOf s n with lastClass := 3, active := (mechOf s n).active || stay } s).safe := by
  rw [deviceReaction_eq]
  split
  · exact reactionMarked_safe n stay s
  · rw [(allDark_frame _).safe (by decide), reactionEnters_safe, (reactionShown_frame n inj _).safe (by decide),
      reactionMarked_safe]

theorem deviceReaction_frame (n : Nat) (stay inj : Bool) (s : State) :
    s.sameBut [.obj, .boot, .pins, .pwr, .evlog, .cross, .pxl, .trx, .lake, .fst, .mgt, .scan, .dlk, .safe, .pnl, .cal, .gyl,
      .jrn] (deviceReaction n stay inj s) := frameOf (kept_deviceReaction n stay inj) s

/-! ## The commands of the path -/

section
variable {a b : State}

theorem RailsOnly.pdisWeak (h : RailsOnly a b) : b.pins.pdisWeak = a.pins.pdisWeak := by
  obtain ⟨_, _, rfl⟩ := h
  rfl

theorem RailsOnly.boot (h : RailsOnly a b) : b.boot = a.boot := by
  obtain ⟨_, _, rfl⟩ := h
  rfl

theorem RailsOnly.obj (h : RailsOnly a b) : b.obj = a.obj := by
  obtain ⟨_, _, rfl⟩ := h
  rfl

theorem RailsOnly.mem (h : RailsOnly a b) : b.mem = a.mem := by
  obtain ⟨_, _, rfl⟩ := h
  rfl

theorem RailsOnly.path (h : RailsOnly a b) : b.pnl.path = a.pnl.path ∧ b.pnl.cutPath = a.pnl.cutPath := by
  obtain ⟨_, _, rfl⟩ := h
  exact ⟨rfl, rfl⟩

end

theorem inDeep_of_started {s : State} (h : s.boot.stage = .started) : inDeep s = false := by simp [inDeep, h]

theorem isDischarged_sides {b : Nat} {k : Bool} {s : State} (h : isDischarged k (bandSides b s)) :
    (railOf s b).state = (if k then .cut else .off) ∧ (padsOf s b).pdis = true ∧ (padsOf s b).pven = false := h

/-- A band whose path is over: its links are released, which touches no rail. -/
theorem releaseLinks_frame (bs : List Nat) (s : State) : s.sameBut [.dlk] (releaseLinks bs s) := frameOf (kept_releaseLinks bs) s

theorem bandSides_congr {a s : State} (hp : s.pnl = a.pnl) (hq : s.pins = a.pins) (b : Nat) : bandSides b s = bandSides b a :=
  Prod.ext (railOf_congr hp b) (padsOf_congr hq b)

theorem proceedReset_of_started {s : State} (h : s.boot.stage = .started) :
    (proceedReset s).boot.stage = .inReset ∧ (proceedReset s).boot.pending = none ∧
      (proceedReset s).pins.rstDrive = true ∧ (proceedReset s).mem = [] := by
  unfold proceedReset
  rw [inDeep_of_started h]
  simp only [holdInReset]
  rw [if_pos (Or.inl h)]
  exact ⟨rfl, rfl, rfl, rfl⟩

/-- All bands are discharged where a path was over. -/
def pathEnded (p : LbPath) (s : State) : State :=
  each [0, 1, 2, 3] fallDone (pathTook p { s with pnl := { s.pnl with path := none } })

theorem pathEnded_spec (p : LbPath) (s : State) : (pathEnded p s).boot = s.boot ∧ (pathEnded p s).mem = s.mem ∧
    (pathEnded p s).pnl.path = none ∧
    ∀ b < 4, mustFall (railOf s b) → isDischarged (railOf s b).toCut (bandSides b (pathEnded p s)) := by
  unfold pathEnded
  have hrail (b : Nat) : railOf (pathTook p { s with pnl := { s.pnl with path := none } }) b = railOf s b := rfl
  have hboot : (pathTook p { s with pnl := { s.pnl with path := none } }).boot = s.boot := rfl
  have hmem : (pathTook p { s with pnl := { s.pnl with path := none } }).mem = s.mem := rfl
  have hpath : (pathTook p { s with pnl := { s.pnl with path := none } }).pnl.path = none := rfl
  generalize pathTook p { s with pnl := { s.pnl with path := none } } = a at hrail hboot hmem hpath
  have hr := railsOnly_each railsOnly_fallDone [0, 1, 2, 3] a
  refine ⟨hr.boot.trans hboot, hr.mem.trans hmem, hr.path.1.trans hpath, fun b hb h => ?_⟩
  rw [← hrail]
  exact isDischarged_each_fallDone hb (by rwa [hrail])

section
variable {t : Nat} {s : State}

theorem exec_lampblackComplete_over {p : LbPath} (h : s.pnl.path = some p) (ho : pathOver (s.at t) p = true) :
    exec (.lampblackComplete t) s = .next (if s.boot.pending.isSome then proceedReset (pathEnded p (s.at t))
      else releaseLinks (usedBands (pathEnded p (s.at t))) (pathEnded p (s.at t))) := by
  have hb := (pathEnded_spec p (s.at t)).1
  have hx : exec (.lampblackComplete t) s = .next (if (pathEnded p (s.at t)).boot.pending.isSome
      then proceedReset (pathEnded p (s.at t)) else releaseLinks (usedBands (pathEnded p (s.at t))) (pathEnded p (s.at t))) := by
    unfold pathEnded
    simp only [exec, execLampblackComplete]
    rw [show (s.at t).pnl.path = some p from h]
    dsimp only
    rw [if_neg (show ¬ (!pathOver (s.at t) p) = true by simp [ho])]
  rw [hx, hb]
  rfl

theorem exec_lampblackComplete_early {p : LbPath} (h : s.pnl.path = some p) (ho : pathOver (s.at t) p = false) :
    exec (.lampblackComplete t) s = .next (s.at t) := by
  change Host.Outcome.next _ = _
  rw [show (s.at t).pnl.path = some p from h]
  exact congrArg Host.Outcome.next (if_pos (by simp [ho]))

theorem exec_lampblackComplete_cut {b : Nat} {p : LbPath} (h : s.pnl.path = none)
    (hf : s.pnl.cutPath.find? (fun e => pathOver (s.at t) e.2) = some (b, p)) :
    exec (.lampblackComplete t) s = .next (releaseLinks [b] (fallDone b (pathTook p { s.at t with
      pnl := { s.pnl with cutPath := del s.pnl.cutPath b } }))) := by
  change Host.Outcome.next _ = _
  rw [show (s.at t).pnl.path = none from h]
  dsimp only
  rw [show (s.at t).pnl.cutPath.find? (fun e => pathOver (s.at t) e.2) = some (b, p) from hf]
  rfl

theorem exec_pfailTrigger_unwatched {source : PfailSrc} (h : watched s source = false) :
    exec (.pfailTrigger t source) s = .next (s.at t) :=
  congrArg Host.Outcome.next (if_pos (by rw [show watched (s.at t) source = false from h]; rfl))

/-- A watched supply of a running controller: the reaction, then the trigger. -/
theorem exec_pfailTrigger_watched {source : PfailSrc} (h : watched s source = true) : ∃ a : State,
    exec (.pfailTrigger t source) s = .next (resetTrigger .pfail a) ∧ a.boot.stage = s.boot.stage ∧
      a.boot.pending = s.boot.pending := by
  refine ⟨_, congrArg Host.Outcome.next (if_neg (by rw [show watched (s.at t) source = true from h]; simp)), ?_⟩
  dsimp only
  split
  · exact ⟨rfl, rfl⟩
  · obtain ⟨op, unfit, at_, hb⟩ := deviceReaction_boot 12 false false (failure 12 (s.at t))
    rw [hb, failure_boot]
    exact ⟨rfl, rfl⟩

end

/-- On the reserve alone the bands that fall are discharged. -/
theorem exec_vresSupplyEnd_reserve {t : Nat} {s : State} (hv : s.pins.vresOnly = true) :
    ∃ s', exec (.vresSupplyEnd t) s = .next s' ∧ s'.pins.pdisWeak = true ∧ s'.boot = s.boot ∧
      s'.obj = s.obj ∧ s'.mem = s.mem ∧
      ∀ b < 4, (railOf s b).state = .falling → (padsOf s' b).pdis = true ∧ (padsOf s' b).pven = false := by
  have hx : exec (.vresSupplyEnd t) s = .next (each [0, 1, 2, 3] fallDone
      { s.at t with pins := { s.pins with pdisWeak := true } }) := congrArg Host.Outcome.next (if_pos hv)
  generalize ha : ({ s.at t with pins := { s.pins with pdisWeak := true } } : State) = a at hx
  have hrail (b : Nat) : railOf a b = railOf s b := by rw [← ha]; rfl
  have hweak : a.pins.pdisWeak = true := by rw [← ha]
  have hboot : a.boot = s.boot := by rw [← ha]; rfl
  have hobj : a.obj = s.obj := by rw [← ha]; rfl
  have hmem : a.mem = s.mem := by rw [← ha]; rfl
  have hr := railsOnly_each railsOnly_fallDone [0, 1, 2, 3] a
  refine ⟨_, hx, hr.pdisWeak.trans hweak, hr.boot.trans hboot, hr.obj.trans hobj, hr.mem.trans hmem, fun b hb h => ?_⟩
  have hd := isDischarged_each_fallDone (s := a) hb (Or.inl ((congrArg Rail.state (hrail b)).trans h))
  exact (isDischarged_sides hd).2

/-- Settles O26: the trigger of the path, and `pathEnded` for its end. -/
theorem lampblackEnds : Obligations.LampblackEnds := by
  intro t s
  refine ⟨?trigger, fun source h => exec_pfailTrigger_unwatched h, ?ended, ?reset, ?cut,
    fun p h ho => exec_lampblackComplete_early h ho, ⟨_, rfl, rfl, rfl, rfl, rfl⟩, ?weak, ?mains⟩
  case trigger =>
    intro source hst hw hp _
    obtain ⟨a, hx, hstage, hpend⟩ := exec_pfailTrigger_watched (t := t) hw
    obtain ⟨hboot, hpath, hfault, -, -⟩ := resetTrigger_spec (src := .pfail) (s := a) (by simp [hstage, hst]) (hpend.trans hp)
    exact ⟨_, hx, by rw [hboot], hpath, hfault⟩
  case ended =>
    intro p h ho hp
    have hx := exec_lampblackComplete_over h ho
    rw [hp, if_neg (by decide)] at hx
    obtain ⟨hboot, hmem, hpath, hbands⟩ := pathEnded_spec p (s.at t)
    generalize pathEnded p (s.at t) = a at hx hboot hmem hpath hbands
    have hl := releaseLinks_frame (usedBands a) a
    refine ⟨_, hx, ?_, ?_, ?_, fun b hb h => isDischarged_sides ?_⟩
    · exact (congrArg Pnl.path (hl.pnl (by decide))).trans hpath
    · exact (hl.boot (by decide)).trans hboot
    · exact (hl.mem (by decide)).trans hmem
    · rw [bandSides_congr (hl.pnl (by decide)) (hl.pins (by decide))]
      exact hbands b hb (h.imp id fun ⟨hup, hd⟩ => ⟨railUp_iff.1 hup, hd⟩)
  case reset =>
    intro p r h ho hp hst
    have hx := exec_lampblackComplete_over h ho
    rw [hp, if_pos (by rfl)] at hx
    exact ⟨_, hx, proceedReset_of_started (by rw [(pathEnded_spec p (s.at t)).1]; exact hst)⟩
  case cut =>
    intro b p h hf
    have hr := railsOnly_fallDone b (pathTook p { s.at t with
      pnl := { s.pnl with cutPath := del s.pnl.cutPath b } })
    have hl := releaseLinks_frame [b] (fallDone b (pathTook p { s.at t with
      pnl := { s.pnl with cutPath := del s.pnl.cutPath b } }))
    refine ⟨_, exec_lampblackComplete_cut h hf, ?_, ?_, ?_⟩
    · exact (congrArg Pnl.cutPath (hl.pnl (by decide))).trans hr.path.2
    · exact (hl.boot (by decide)).trans hr.boot
    · exact (hl.mem (by decide)).trans hr.mem
  case weak => exact exec_vresSupplyEnd_reserve
  case mains => exact fun hv => congrArg Host.Outcome.next (if_neg (by simp [hv]))

end Sys2Proof.Machine
end

section
/-!
SUPPORT. The start of BOOT (R4, R33, R446, R453) and its end (R295, R302): which pins, objects and mechanisms the work of BOOT leaves.
-/

namespace Sys2Proof.Machine

open Sys2Proof

/-! ## The pins that BOOT watches -/

/-- PEN3, FAULT_N and the drive of RST_N, which the events and the pads of the bands leave alone. -/
def mains (s : State) : Bool × Bool × Bool := (s.pins.pen3, s.pins.faultN, s.pins.rstDrive)

theorem mains_congr {a s : State} (h : s.pins = a.pins) : mains s = mains a := by unfold mains; rw [h]

theorem pen3_of_mains {a s : State} (h : mains s = mains a) : s.pins.pen3 = a.pins.pen3 := congrArg (·.1) h

theorem faultN_of_mains {a s : State} (h : mains s = mains a) : s.pins.faultN = a.pins.faultN := congrArg (·.2.1) h

theorem rstDrive_of_mains {a s : State} (h : mains s = mains a) : s.pins.rstDrive = a.pins.rstDrive := congrArg (·.2.2) h

@[simp] theorem mains_modPxl (f : Pxl → Pxl) (s : State) : mains (modPxl f s) = mains s := rfl

theorem mains_of_evtN {a s : State} (h : ∃ e, s.pins = { a.pins with evtN := e }) : mains s = mains a := by
  obtain ⟨e, he⟩ := h
  unfold mains
  rw [he]

@[simp] theorem mains_pendEvt (b : Nat) (s : State) : mains (pendEvt b s) = mains s := mains_of_evtN (pendEvt_pins b s)

@[simp] theorem mains_setPort (q : Port) (v : PortState) (s : State) : mains (setPort q v s) = mains s :=
  mains_of_evtN (setPort_pins q v s)

@[simp] theorem mains_oset (k v : Nat) (s : State) : mains (oset k v s) = mains s := rfl

@[simp] theorem mains_evc (k : Nat) (s : State) : mains (evc k s) = mains s := mains_congr (by simp)

@[simp] theorem mains_cnt (k : Nat) (s : State) : mains (cnt k s) = mains s := rfl

@[simp] theorem mains_logEv (code sev bands data : Nat) (s : State) : mains (logEv code sev bands data s) = mains s := by
  unfold logEv
  dsimp only
  rw [mains_pendEvt, mains_evc]
  rfl

@[simp] theorem mains_jrnFault (cause detail : Nat) (s : State) : mains (jrnFault cause detail s) = mains s := by
  simp [jrnFault]

@[simp] theorem mains_releasePads (gs : List Nat) (s : State) : mains (releasePads gs s) = mains s := rfl

@[simp] theorem oget_releasePads (gs : List Nat) (s : State) (k : Nat) : oget (releasePads gs s) k = oget s k := rfl

@[simp] theorem mains_setBandState (b v : Nat) (s : State) : mains (setBandState b v s) = mains s := by
  unfold setBandState
  dsimp only
  split
  · rfl
  · rfl

@[simp] theorem mains_refreshBands (s : State) : mains (refreshBands s) = mains s :=
  each_keeps fun b _ a => mains_setBandState b _ a

@[simp] theorem mains_setLink (v : LinkState) (s : State) : mains (setLink v s) = mains s := by
  unfold setLink
  split
  · rfl
  · exact mains_pendEvt _ _

/-! ## The change of the operating state -/

@[simp] theorem mains_xflush (sub : Nat) (s : State) : mains (xflush sub s) = mains s := by
  unfold xflush
  dsimp only
  split
  · rw [mains_logEv]
    exact mains_evc _ _
  · exact mains_evc _ _

@[simp] theorem mains_clearLink (s : State) : mains (clearLink s) = mains s := by
  have hlanes : mains (each (List.range 16) resetLane s) = mains s := each_keeps fun n _ a => by
    unfold resetLane
    split
    · exact mains_xflush _ _
    · rfl
  unfold clearLink
  rw [mains_modPxl, mains_congr ((frameOf (kept_eachLane fun _ => Lane.restart) _).pins (by decide)), hlanes]

@[simp] theorem mains_toDetect (s : State) : mains (toDetect s) = mains s := by
  have hhello (a : State) : mains (sendHello a) = mains a := mains_congr ((frameOf kept_sendHello a).pins (by decide))
  unfold toDetect
  dsimp only
  split
  · rw [hhello, mains_setLink, mains_clearLink]
  · rw [mains_setLink, mains_modPxl, mains_clearLink]

@[simp] theorem mains_startLink (s : State) : mains (startLink s) = mains s := by
  unfold startLink
  split
  · exact mains_toDetect s
  · rfl

@[simp] theorem mains_abortTransfer (p : Port) (s : State) : mains (abortTransfer p s) = mains s := by
  unfold abortTransfer
  split
  · rfl
  · next x _ =>
    rw [mains_congr ((frameOf (kept_transferFails x) _).pins (by decide)), mains_cnt, mains_setPort]

@[simp] theorem mains_leaveSetup (s : State) : mains (leaveSetup s) = mains s := by
  have hdrop (p : Port) (a : State) : mains (if rwsTransfer a p then abortTransfer p a else a) = mains a := by
    split
    · exact mains_abortTransfer p a
    · rfl
  exact (hdrop .spi _).trans (hdrop .can s)

@[simp] theorem mains_changeOp (v : OpState) (s : State) : mains (changeOp v s) = mains s := by
  have hback (x y z : Nat) (a : State) : mains (backEvent x y z a) = mains a :=
    mains_congr ((frameOf (kept_backEvent x y z) a).pins (by decide))
  have hfirst (a : State) : mains (firstTraining a) = mains a :=
    mains_congr ((frameOf kept_firstTraining a).pins (by decide))
  have hleave : mains (if s.boot.op = .setup then leaveSetup s else s) = mains s := by
    split
    · exact mains_leaveSetup s
    · rfl
  unfold changeOp
  dsimp only
  split
  · rfl
  · split
    · rw [hfirst, mains_startLink, hback, mains_logEv]
      exact hleave
    · rw [hback, mains_logEv]
      exact hleave

/-! ## BOOT begins -/

theorem loadFuses_boot (f : FuseRead) (s : State) : ∃ key, (loadFuses f s).boot = { s.boot with
    factoryOk := f.factoryOk, customerOk := f.customerOk, blank := !(f.customerOk && !f.blank)
    fuseBands := if f.customerOk && !f.blank then 2 ^ f.bands.val else 1, factoryKey := key } := by
  unfold loadFuses
  dsimp only
  split
  · next h => exact ⟨_, by simp only [oset_boot, h]; rfl⟩
  · next h => exact ⟨_, by simp only [oset_boot, h]; rfl⟩

theorem oget_loadFuses_bands (f : FuseRead) (s : State) :
    oget (loadFuses f s) Ob.SCAN_BANDS = if f.customerOk && !f.blank then 2 ^ f.bands.val else 1 := by
  unfold loadFuses
  dsimp only
  split
  · rw [oget_oset_ne _ _ (by decide), oget_oset_ne _ _ (by decide), oget_oset_ne _ _ (by decide), oget_oset_ne _ _ (by decide),
      oget_oset_same]
  · exact oget_oset_same _ _ _

theorem oget_loadFuses_pmbus {f : FuseRead} (s : State) (hc : f.customerOk = true) (hb : f.blank = false) :
    oget (loadFuses f s) Ob.PMB_ADDR = f.pmbAddr.toNat ∧ oget (loadFuses f s) Ob.PMB_CLK = f.pmbClk.val := by
  unfold loadFuses
  dsimp only
  rw [if_pos (by simp [hc, hb])]
  exact ⟨oget_oset_same _ _ _, (oget_oset_ne _ _ (by decide)).trans (oget_oset_same _ _ _)⟩

/-- BOOT begins with the fuses in force, and asks the regulator for its first value. -/
theorem enterBoot_eq (f : FuseRead) (mode : Bool) (s : State) : ∃ a : State, enterBoot f mode s = refreshBands (askVcore 850 a) ∧
    a.boot = (loadFuses f { s with boot := { s.boot with stage := .started, op := .boot, testMode := mode } }).boot ∧
    a.pins.rstDrive = false ∧ a.safe = s.safe ∧ oget a Ob.SAF_ROMID = Config.romId.toNat ∧
    ∀ k, k ≠ Ob.SAF_ROMID → k ≠ Ob.PWR_PADREL_MGT →
      oget a k = oget (loadFuses f { s with boot := { s.boot with stage := .started, op := .boot, testMode := mode } }) k := by
  let b : State := { s with boot := { s.boot with stage := .started, op := .boot, testMode := mode },
                            pins := { s.pins with rstDrive := false } }
  have hl := frameOf (kept_loadFuses f) b
  have hbands : (loadFuses f b).boot =
      (loadFuses f { s with boot := { s.boot with stage := .started, op := .boot, testMode := mode } }).boot := by
    unfold loadFuses
    dsimp only
    split
    · rfl
    · rfl
  have hobj (k : Nat) : oget (loadFuses f b) k =
      oget (loadFuses f { s with boot := { s.boot with stage := .started, op := .boot, testMode := mode } }) k := by
    unfold loadFuses
    dsimp only
    split
    · rfl
    · rfl
  by_cases hp3 : (loadFuses f b).boot.fromP3 = true
  · refine ⟨oset Ob.SAF_ROMID Config.romId.toNat (releasePads [0] (oset Ob.PWR_PADREL_MGT 1 (loadFuses f b))),
      congrArg (fun a => refreshBands (askVcore 850 (oset Ob.SAF_ROMID Config.romId.toNat a))) (if_pos hp3), hbands,
      (congrArg Pins.rstDrive (hl.pins (by decide))), hl.safe (by decide), oget_oset_same _ _ _, fun k h1 h2 => ?_⟩
    rw [oget_oset_ne _ _ h1, oget_releasePads, oget_oset_ne _ _ h2]
    exact hobj k
  · refine ⟨oset Ob.SAF_ROMID Config.romId.toNat (loadFuses f b),
      congrArg (fun a => refreshBands (askVcore 850 (oset Ob.SAF_ROMID Config.romId.toNat a))) (if_neg hp3), hbands,
      (congrArg Pins.rstDrive (hl.pins (by decide))), hl.safe (by decide), oget_oset_same _ _ _, fun k h1 _ => ?_⟩
    rw [oget_oset_ne _ _ h1]
    exact hobj k

theorem oget_askVcore {k : Nat} (mv : Nat) (s : State) (h : k ≠ Ob.PMB_VREQ) : oget (askVcore mv s) k = oget s k := by
  unfold askVcore
  split
  · rfl
  · exact oget_oset_ne _ _ h

theorem bootBegun_enterBoot (f : FuseRead) (mode : Bool) (s : State) : bootBegun f mode s (enterBoot f mode s) := by
  obtain ⟨a, he, hboot, hrst, hsafe, hrom, hobj⟩ := enterBoot_eq f mode s
  obtain ⟨fk, hload⟩ := loadFuses_boot f { s with boot := { s.boot with stage := .started, op := .boot, testMode := mode } }
  have hv := frameOf (kept_askVcore 850) a
  have hr := frameOf kept_refreshBands (askVcore 850 a)
  have hb : (enterBoot f mode s).boot = a.boot := by rw [he, hr.boot (by decide), hv.boot (by decide)]
  have ho {k : Nat} (h : k ≠ Ob.PMB_VREQ) : oget (enterBoot f mode s) k = oget a k := by
    rw [he, oget_congr (hr.obj (by decide)), oget_askVcore _ _ h]
  have hm : (enterBoot f mode s).pins.rstDrive = a.pins.rstDrive := by
    rw [he, rstDrive_of_mains (mains_refreshBands _), hv.pins (by decide)]
  rw [bootBegun, hb, hboot, hload, ho (by decide), ho (by decide), ho (by decide), ho (by decide),
    hrom, hobj _ (by decide) (by decide), hobj _ (by decide) (by decide), hobj _ (by decide) (by decide), hm]
  refine ⟨rfl, rfl, hrst, rfl, rfl, rfl, rfl, rfl, oget_loadFuses_bands _ _, rfl, fun hc hbl => oget_loadFuses_pmbus _ hc hbl,
    ?_, rfl⟩
  rw [he, hr.safe (by decide), hv.safe (by decide), hsafe]

theorem oget_enterBoot {k : Nat} (f : FuseRead) (mode : Bool) (s : State)
    (h : k ∉ [Ob.SCAN_BANDS, Ob.PMB_ADDR, Ob.PMB_CLK, Ob.PMB_PEC, Ob.PMB_VEXP, Ob.PMB_VREQ, Ob.SAF_ROMID, Ob.PWR_PADREL_MGT]) :
    oget (enterBoot f mode s) k = oget s k := by
  simp only [List.mem_cons, List.not_mem_nil, or_false, not_or] at h
  obtain ⟨h1, h2, h3, h4, h5, h6, h7, h8⟩ := h
  obtain ⟨a, he, -, -, -, -, hobj⟩ := enterBoot_eq f mode s
  rw [he, oget_congr ((frameOf kept_refreshBands _).obj (by decide)), oget_askVcore _ _ h6, hobj k h7 h8]
  unfold loadFuses
  dsimp only
  split
  · rw [oget_oset_ne _ _ h2, oget_oset_ne _ _ h3, oget_oset_ne _ _ h4, oget_oset_ne _ _ h5, oget_oset_ne _ _ h1]
    rfl
  · rw [oget_oset_ne _ _ h1]
    rfl

end Sys2Proof.Machine
end

section
/-!
SUPPORT. The end of BOOT (R302): the restore of the journal and the entries of the boot leave the main pins and the mechanisms alone.
-/

namespace Sys2Proof.Machine

open Sys2Proof

/-! ## The work of BOOT takes no time of its own -/

theorem iter_now {f : State → State} (hf : ∀ a, (f a).now = a.now) (n : Nat) (s : State) : (iter f n s).now = s.now := by
  induction n generalizing s with
  | zero => rfl
  | succ n ih => exact (ih (f s)).trans (hf s)

theorem findGeneration_now (r : BootReport) (s : State) : (findGeneration r s).now = s.now := by
  unfold findGeneration
  repeat' split
  all_goals rfl

theorem showPartitions_now (n : Nat) (dtr : Bool) (s : State) : (showPartitions n dtr s).now = s.now := by
  unfold showPartitions
  extract_lets
  exact (oset_now ..).trans ((oset_now ..).trans ((oset_now ..).trans ((oset_now ..).trans ((oset_now ..).trans (oset_now ..)))))

theorem showRing_now (s : State) : (showRing s).now = s.now := by
  unfold showRing
  exact oset_now ..

theorem restoreObjects_now (por : Bool) (s : State) : (restoreObjects por s).now = s.now :=
  each_keeps (obs := State.now) fun e _ a => oset_now e.1 e.2 a

theorem restoreLog_now (s : State) : (restoreLog s).now = s.now := by
  unfold restoreLog
  split
  · rfl
  · rfl

theorem fillGrid_now (s : State) : (fillGrid s).now = s.now := by
  unfold fillGrid
  split
  · rfl
  · rfl

theorem fwMemJob_now (n dir elem flip base pitch w h : Nat) (s : State) :
    (fwMemJob n dir elem flip base pitch w h s).1.now = s.now := by
  have hsw (a : State) : (evc 0xAE (cnt Ob.LAKE_SWITCHES a)).now = a.now := by simp
  have hst (a : State) : (evc 0xAD a).now = a.now := by simp
  unfold fwMemJob fwJob whenDo
  dsimp only
  rw [setSlot_now, iter_now hst]
  split
  · rw [readPoison_now]
    split
    · exact iter_now hsw 2 s
    · rfl
  · split
    · exact iter_now hsw 2 s
    · rfl

theorem restoreMaps_now (s : State) : (restoreMaps s).now = s.now := by
  unfold restoreMaps
  rw [fillGrid_now, each_keeps (obs := State.now) fun i _ a => memRun_now _ _ a]
  unfold restoreDefect whenDo
  change State.now (if _ then _ else _) = _
  split
  · exact fwMemJob_now ..
  · rfl

theorem retireRow_now (r : Nat) (s : State) : (retireRow r s).now = s.now := by
  have hshow (n : Nat) (a : State) : (showUnusable r n a).now = a.now := by
    unfold showUnusable
    dsimp only
    split
    · rfl
    · rfl
  unfold retireRow
  dsimp only
  split
  · exact hshow _ _
  · exact hshow _ _

theorem restoreGens_now (s : State) : (restoreGens s).now = s.now := each_keeps (obs := State.now) fun e _ a => by
  split
  · rfl
  · rfl

theorem showPatch_now (s : State) : (showPatch s).now = s.now := by
  unfold showPatch
  split
  · split
    · rfl
    · rfl
  · rfl

theorem restoreImage_now (lost : Bool) (s : State) : (restoreImage lost s).now = s.now := by
  unfold restoreImage
  split
  · exact each_keeps (obs := State.now) fun e _ a => oset_now e.1 e.2 a
  · rfl

/-! ## What the end of BOOT decides by -/

/-- The main pins and the mechanisms, by which the end of BOOT decides, and the time. -/
def bootView (s : State) : (Bool × Bool × Bool) × SMap Mech × Nat := (mains s, s.safe.mech, s.now)

theorem bootView_congr {a s : State} (hp : mains s = mains a) (hs : s.safe = a.safe) (hn : s.now = a.now) :
    bootView s = bootView a := Prod.ext hp (Prod.ext (congrArg Safe.mech hs) hn)

theorem bootView_of_frame {l : List Part} {a s : State} (h : a.sameBut l s) (hn : s.now = a.now)
    (hp : l.contains .pins = false) (hs : l.contains .safe = false) : bootView s = bootView a :=
  bootView_congr (mains_congr (h.pins (by simpa using hp))) (h.safe (by simpa using hs)) hn

theorem bootView_oset (k v : Nat) (s : State) : bootView (oset k v s) = bootView s := rfl

theorem bootView_logEv (code sev bands data : Nat) (s : State) : bootView (logEv code sev bands data s) = bootView s :=
  bootView_congr (mains_logEv code sev bands data s) (by simp) (by simp)

theorem bootView_pendEvt (b : Nat) (s : State) : bootView (pendEvt b s) = bootView s :=
  bootView_congr (mains_pendEvt b s) (by simp) (by simp)

theorem bootView_jrnFault (cause detail : Nat) (s : State) : bootView (jrnFault cause detail s) = bootView s := by
  unfold jrnFault
  rw [bootView_logEv, bootView_oset]

theorem bootView_startSeal (s : State) : bootView (startSeal s) = bootView s := rfl

theorem bootView_startRaster (s : State) : bootView (startRaster s) = bootView s := rfl

theorem deviceCause_of_bootView {a s : State} (h : bootView s = bootView a) : deviceCause s = deviceCause a := by
  unfold deviceCause
  rw [show s.safe.mech = a.safe.mech from congrArg (·.2.1) h]

/-! ## The restore of the journal -/

theorem bootView_restoreFaults (r : BootReport) (s : State) : bootView (restoreFaults r s) = bootView s := by
  have htorn (a : State) : bootView (jrnFault 9 (freeOf a % 2 ^ 24) (tookFree a)) = bootView a := bootView_jrnFault ..
  unfold restoreFaults
  extract_lets s1 s2
  have h1 : bootView s1 = bootView s := by
    unfold s1
    split
    · rfl
    · split
      · exact bootView_jrnFault ..
      · split
        · exact bootView_jrnFault ..
        · rfl
  have h2 : bootView s2 = bootView s := by
    unfold s2
    split
    · exact (htorn s1).trans h1
    · exact h1
  split
  · exact bootView_jrnFault ..
  · split
    · exact (bootView_jrnFault ..).trans h2
    · exact h2

theorem bootView_restoreCal (s : State) : bootView (restoreCal s) = bootView s := by
  unfold restoreCal
  split
  · rfl
  · extract_lets g _ bands all _ s1
    have h1 : bootView s1 = bootView s := rfl
    split
    · exact h1
    · rw [bootView_pendEvt, bootView_logEv, bootView_oset, h1]

theorem bootView_applyRow (e : Nat × Nat × Nat) (s : State) : bootView (applyRow e s) = bootView s := by
  have hretire (r : Nat) (a : State) : bootView (retireRow r a) = bootView a :=
    bootView_of_frame (frameOf (kept_retireRow r) a) (retireRow_now r a) (by decide) (by decide)
  unfold applyRow
  dsimp only
  split
  · rfl
  · split
    · rfl
    · exact hretire _ _

theorem bootView_restoreJournal (por : Bool) (r : BootReport) (s : State) :
    bootView (restoreJournal por r s) = bootView s := by
  have hfill (a : State) : bootView (fillGrid a) = bootView a :=
    bootView_of_frame (frameOf kept_fillGrid a) (fillGrid_now a) (by decide) (by decide)
  have hgens (a : State) : bootView (restoreGens a) = bootView a :=
    bootView_of_frame (frameOf kept_restoreGens a) (restoreGens_now a) (by decide) (by decide)
  unfold restoreJournal
  extract_lets n _ s1 s2 nv _ s3 s4 s5
  have h1 : bootView s1 = bootView s :=
    (bootView_of_frame (frameOf (kept_findGeneration r) _) (findGeneration_now r _) (by decide) (by decide)).trans
      (bootView_congr rfl rfl rfl)
  have h2 : bootView s2 = bootView s :=
    ((bootView_of_frame (frameOf kept_restoreLog _) (restoreLog_now _) (by decide) (by decide)).trans
      (bootView_of_frame (frameOf (kept_restoreObjects por) _) (restoreObjects_now por _) (by decide) (by decide))).trans
      ((bootView_of_frame (frameOf (kept_showPartitions n r.jrnDtr) s1) (showPartitions_now ..) (by decide) (by decide)).trans h1)
  have h3 : bootView s3 = bootView s := by
    unfold s3
    rw [bootView_oset, bootView_oset, ← h2]
    exact bootView_congr rfl rfl rfl
  have h4 : bootView s4 = bootView s := by
    unfold s4
    rw [each_keeps (obs := bootView) (fun e _ a => bootView_applyRow e a), bootView_startSeal, bootView_startRaster, h3]
  have h5 : bootView s5 = bootView s :=
    ((bootView_restoreCal _).trans (bootView_of_frame (frameOf kept_restoreMaps s4) (restoreMaps_now s4) (by decide) (by decide))).trans h4
  split
  · rw [bootView_restoreFaults, bootView_startSeal, bootView_startRaster, hfill]
    exact bootView_congr rfl rfl rfl
  · rw [bootView_restoreFaults, bootView_of_frame (frameOf kept_showRing _) (showRing_now _) (by decide) (by decide)]
    split
    · rw [hgens, h5]
    · exact h5

/-! ## The patch and the entries -/

theorem bootPatch_frame (ok : Bool) (s : State) : s.sameBut [.obj, .pins, .evlog, .mgt, .jrn] (bootPatch ok s).1 :=
  (kept_bootPatch ok (fun _ => id) (Kept.start _ s)).rest

theorem bootView_bootPatch (ok : Bool) (s : State) : bootView (bootPatch ok s).1 = bootView s := by
  unfold bootPatch
  extract_lets s1
  have h1 : bootView s1 = bootView s := (bootView_of_frame (frameOf kept_showPatch _) (showPatch_now _) (by decide) (by decide)).trans rfl
  split
  · exact h1
  · split
    · exact h1
    · split
      · split
        · exact (bootView_logEv ..).trans h1
        · exact h1
      · exact h1

/-- A patch that is verified is no dead one. -/
theorem bootPatch_ok (s : State) : (bootPatch true s).2 = false := by
  unfold bootPatch
  dsimp only
  split
  · rfl
  · rfl

theorem bootView_jrnStatus (s : State) : bootView (jrnStatus s) = bootView s :=
  bootView_of_frame (frameOf kept_jrnStatus s) (by simp) (by decide) (by decide)

theorem bootEntries_spec (por : Bool) (s : State) : bootView (bootEntries por s) = bootView s ∧
    ∃ w, (bootEntries por s).boot = { s.boot with resetLogged := [], strapWarn := w } := by
  unfold bootEntries
  extract_lets s1 _ s2 code spread _ s3
  have h1 : bootView s1 = bootView s ∧ s1.boot = s.boot := by
    unfold s1
    split
    · exact ⟨rfl, rfl⟩
    · exact ⟨rfl, rfl⟩
  have h2 : bootView s2 = bootView s ∧ s2.boot = { s.boot with resetLogged := [] } := by
    unfold s2
    rw [each_keeps (obs := bootView) (fun r _ a => bootView_logEv 0x02 0 0 r.code a),
      each_keeps (obs := State.boot) (fun r _ a => logEv_boot 0x02 0 0 r.code a)]
    exact ⟨h1.1, congrArg (fun b : Boot => { b with resetLogged := [] }) h1.2⟩
  have h3 : bootView s3 = bootView s ∧ ∃ w, s3.boot = { s.boot with resetLogged := [], strapWarn := w } := by
    unfold s3
    split
    · rw [bootView_logEv, logEv_boot]
      exact ⟨h2.1, false, congrArg (fun b : Boot => { b with strapWarn := false }) h2.2⟩
    · exact ⟨h2.1, _, h2.2⟩
  rw [bootView_jrnStatus, bootView_logEv, (frameOf kept_jrnStatus _).boot (by decide), logEv_boot]
  exact h3

/-! ## The end of BOOT -/

/-- Everything of the end of BOOT that comes before its verdict. -/
def bootWorked (r : BootReport) (s : State) : State :=
  let por := s.boot.resetLogged.contains .por
  let s1 := restoreJournal por r { s with pins := { s.pins with pen3 := true } }
  let s2 := (bootPatch r.patchOk s1).1
  let s3 := cntBy Ob.PWR_RETCORR r.retCorr (if s2.boot.fromP3 then restoreImage r.retLost s2 else s2)
  bootEntries por { s3 with boot := { s3.boot with upSince := s3.now }, fst := { s3.fst with passFrom := s3.now } }

/-- The boot patch fails with no fallback. -/
def patchDead (r : BootReport) (s : State) : Bool :=
  (bootPatch r.patchOk (restoreJournal (s.boot.resetLogged.contains .por) r { s with pins := { s.pins with pen3 := true } })).2

/-- BOOT ends in SAFE-DARK. -/
def bootFails (r : BootReport) (s : State) : Bool :=
  let s4 := bootWorked r s
  !r.selfTest || !s4.boot.factoryOk || !s4.boot.customerOk || patchDead r s || s4.boot.unfit || deviceCause s4

/-- The verdict on BOOT is entered. -/
def bootJudged (bad : Bool) (s : State) : State :=
  let s5 := gylStart (if bad then releasePads [2] (oset Ob.PWR_PADREL_AON 1 (pendEvt 1 (changeOp .safeDark s))) else bootSetup s)
  let s6 := wakesDone (if bad then s5 else bootWake s5)
  refreshBands { s6 with boot := { s6.boot with fromP3 := false, unfit := false, gensLost := false }
                         pwr := { s6.pwr with retImage := [], retImageOk := false } }

theorem exec_bootEnd {t : Nat} {r : BootReport} {s : State} (hst : s.boot.stage = .started) (hop : s.boot.op = .boot)
    (hm : s.boot.testMode = false) :
    exec (.bootEnd t r) s = .next (bootJudged (bootFails r (s.at t)) (bootWorked r (s.at t))) :=
  congrArg Host.Outcome.next (if_neg (by simp [hst, hop, hm]))

theorem exec_bootEnd_testMode {t : Nat} {r : BootReport} {s : State} (hm : s.boot.testMode = true) :
    exec (.bootEnd t r) s = .next (s.at t) := congrArg Host.Outcome.next (if_pos (by simp [hm]))

theorem bootWorked_spec (r : BootReport) (s : State) : (bootWorked r s).pins.pen3 = true ∧
    deviceCause (bootWorked r s) = deviceCause s ∧
    ∃ w, (bootWorked r s).boot = { s.boot with upSince := s.now, resetLogged := [], strapWarn := w } := by
  unfold bootWorked
  extract_lets por _ s1 s2 s3
  have h1 : bootView s1 = bootView { s with pins := { s.pins with pen3 := true } } := bootView_restoreJournal ..
  have hf1 := frameOf (kept_restoreJournal por r) { s with pins := { s.pins with pen3 := true } }
  have hn : s3.boot = s.boot ∧ bootView s3 = bootView s1 := by
    have h2 : s2.boot = s.boot ∧ bootView s2 = bootView s1 :=
      ⟨((bootPatch_frame r.patchOk s1).boot (by decide)).trans (hf1.boot (by decide)), bootView_bootPatch ..⟩
    have hi := frameOf (kept_restoreImage r.retLost) s2
    unfold s3
    split
    · exact ⟨(hi.boot (by decide)).trans h2.1,
        (bootView_of_frame hi (restoreImage_now _ _) (by decide) (by decide)).trans h2.2⟩
    · exact h2
  obtain ⟨hboot, hview⟩ := hn
  have hnow : s3.now = s.now := congrArg (·.2.2) (hview.trans h1)
  obtain ⟨hv, w, hw⟩ := bootEntries_spec por { s3 with boot := { s3.boot with upSince := s3.now },
                                                       fst := { s3.fst with passFrom := s3.now } }
  have hall := hv.trans ((show _ = bootView s3 from rfl).trans (hview.trans h1))
  refine ⟨congrArg (·.1.1) hall, (deviceCause_of_bootView hall).trans rfl, w, ?_⟩
  rw [hw, hnow, hboot]

/-- The verdict enters SAFE-DARK or SETUP; the rest of the boot state that BOOT keeps is done with. -/
theorem bootJudged_boot (bad : Bool) (s : State) : (bootJudged bad s).boot =
    { s.boot with op := if bad then .safeDark else .setup, fromP3 := false, unfit := false, gensLost := false } := by
  have hraise (a : State) : (raiseToFloor a).boot = a.boot := (frameOf kept_raiseToFloor a).boot (by decide)
  have hpads (a : State) : (padsAtSetup a).boot = a.boot := (frameOf kept_padsAtSetup a).boot (by decide)
  have hgyl (a : State) : (gylStart a).boot = a.boot := (frameOf kept_gylStart a).boot (by decide)
  have hwake (a : State) : (bootWake a).boot = a.boot := (frameOf kept_bootWake a).boot (by decide)
  unfold bootJudged
  dsimp only
  rw [(frameOf kept_refreshBands _).boot (by decide)]
  dsimp only
  cases bad
  · simp only [Bool.false_eq_true, if_false]
    rw [(frameOf kept_wakesDone _).boot (by decide), hwake, hgyl]
    unfold bootSetup
    dsimp only
    rw [hraise]
    dsimp only
    rw [hpads, changeOp_boot]
  · simp only [if_true]
    rw [(frameOf kept_wakesDone _).boot (by decide), hgyl, (frameOf (kept_releasePads [2]) _).boot (by decide), oset_boot,
      pendEvt_boot, changeOp_boot]

theorem mains_bootJudged_bad (s : State) : mains (bootJudged true s) = mains s := by
  have hgyl (a : State) : mains (gylStart a) = mains a := mains_congr ((frameOf kept_gylStart a).pins (by decide))
  have hdone (a : State) : mains (wakesDone a) = mains a := rfl
  have hset (a : State) (b : Boot) (p : Pwr) : mains { a with boot := b, pwr := p } = mains a := rfl
  unfold bootJudged
  dsimp only
  rw [mains_refreshBands, hset, if_pos rfl, if_pos rfl, hdone, hgyl, mains_releasePads, mains_oset, mains_pendEvt, mains_changeOp]

/-- SETUP begins with FAULT_N high and the test of the reserve due. -/
theorem bootSetup_spec (s : State) : mains (bootSetup s) = (s.pins.pen3, true, s.pins.rstDrive) ∧
    (bootSetup s).pnl.vresTest = true := by
  have hraise (a : State) : a.sameBut [.obj, .pwr] (raiseToFloor a) := frameOf kept_raiseToFloor a
  have hpads (a : State) : mains (padsAtSetup a) = mains a := rfl
  unfold bootSetup
  extract_lets s2 auto
  refine ⟨?_, congrArg Pnl.vresTest ((hraise _).pnl (by decide))⟩
  rw [mains_congr ((hraise _).pins (by decide))]
  exact (hpads _).trans (mains_changeOp _ _)

theorem bootJudged_good (s : State) : mains (bootJudged false s) = (s.pins.pen3, true, s.pins.rstDrive) ∧
    (bootJudged false s).pnl.vresTest = true := by
  have hgyl (a : State) := frameOf kept_gylStart a
  have hwake (a : State) := frameOf kept_bootWake a
  have hdone (a : State) : mains (wakesDone a) = mains a := rfl
  have hset (a : State) (b : Boot) (p : Pwr) : mains { a with boot := b, pwr := p } = mains a := rfl
  obtain ⟨hm, hv⟩ := bootSetup_spec s
  unfold bootJudged
  dsimp only
  rw [mains_refreshBands, hset, if_neg Bool.false_ne_true, if_neg Bool.false_ne_true, hdone,
    mains_congr ((hwake _).pins (by decide)), mains_congr ((hgyl _).pins (by decide)), hm]
  refine ⟨rfl, ?_⟩
  rw [(frameOf kept_refreshBands _).pnl (by decide)]
  dsimp only
  rw [(frameOf kept_wakesDone _).pnl (by decide), (hwake _).pnl (by decide), (hgyl _).pnl (by decide), hv]

theorem pins_of_mains {s : State} {p f d : Bool} (h : mains s = (p, f, d)) : s.pins.pen3 = p ∧ s.pins.faultN = f :=
  ⟨congrArg (·.1) h, congrArg (·.2.1) h⟩

theorem bootJudged_pen3 (bad : Bool) (s : State) : (bootJudged bad s).pins.pen3 = s.pins.pen3 := by
  cases bad
  · exact (pins_of_mains (bootJudged_good s).1).1
  · exact pen3_of_mains (mains_bootJudged_bad s)

/-- Settles O3: `enterBoot` begins BOOT, and the verdict of `bootFails` ends it. -/
theorem dieBootsAndLeavesBoot : Obligations.DieBootsAndLeavesBoot := by
  refine ⟨fun t f mode s => ⟨fun hst => ?leaves, fun low hst hat hgood => ?stretch⟩,
    fun t r s hst hop => ⟨exec_bootEnd_testMode, fun hm => ?ends⟩⟩
  case leaves => exact ⟨_, congrArg Host.Outcome.next (if_pos hst), bootBegun_enterBoot f mode (s.at t)⟩
  case stretch =>
    have hx : exec (.resetStretchEnd t f low mode) s = .next (enterBoot f mode
        (if low = 0 then s.at t else oset Ob.RST_EXTLOW (min low 0xFFFFFFFF) (s.at t))) :=
      congrArg Host.Outcome.next (if_pos ⟨hst, hat, hgood⟩)
    refine ⟨_, hx, ?_, fun hl => ?_⟩
    · by_cases hl : low = 0
      · rw [if_pos hl]
        exact bootBegun_enterBoot f mode (s.at t)
      · rw [if_neg hl]
        exact bootBegun_enterBoot f mode (oset Ob.RST_EXTLOW (min low 0xFFFFFFFF) (s.at t))
    · rw [if_neg hl, oget_enterBoot _ _ _ (by decide), oget_oset_same]
  case ends =>
    obtain ⟨hpen, hcause, w, hboot⟩ := bootWorked_spec r (s.at t)
    have hj := bootJudged_boot (bootFails r (s.at t)) (bootWorked r (s.at t))
    refine ⟨_, exec_bootEnd hst hop hm, ?_⟩
    rw [hj, hboot]
    refine ⟨hst, rfl, rfl, rfl, ?_, rfl, ?_, fun h => ?_, fun h1 h2 h3 h4 h5 h6 => ?_⟩
    · rw [bootJudged_pen3, hpen]
    · cases bootFails r (s.at t)
      · exact .inl rfl
      · exact .inr rfl
    · have hbad : bootFails r (s.at t) = true := by
        unfold bootFails
        dsimp only
        rw [hboot]
        obtain h | h | h | h := h <;> simp [h]
      rw [hbad]
      rfl
    · have hgood : bootFails r (s.at t) = false := by
        have hdead : patchDead r (s.at t) = false := by
          unfold patchDead
          rw [h5]
          exact bootPatch_ok _
        unfold bootFails
        dsimp only
        rw [hboot, hcause, hdead, show deviceCause (s.at t) = deviceCause s from rfl, h6]
        simp [h1, h2, h3, h4]
      rw [hgood]
      obtain ⟨hm, hv⟩ := bootJudged_good (bootWorked r (s.at t))
      exact ⟨rfl, (pins_of_mains hm).2, hv⟩

end Sys2Proof.Machine
end

section
/-!
SUPPORT. The tests of the reserve capacitor and of the crack loops (R321 to R327): no reaction and no path touches a check that runs.
-/

namespace Sys2Proof.Machine

open Sys2Proof

/-! ## The check of the crack loops -/

/-- The check in progress and the record of the loops. -/
def checkView (s : State) : Bool × Nat × Bool × Nat × SMap Loop :=
  (s.pnl.checkOn, s.pnl.loop, s.pnl.step2, s.pnl.r1, s.pnl.loops)

theorem checkView_congr {a s : State} (h : s.pnl = a.pnl) : checkView s = checkView a := by unfold checkView; rw [h]

theorem checkView_auto (s : State) (boot : Boot) (n : Nat) :
    checkView { s with boot := boot, pnl := { s.pnl with auto := n } } = checkView s := rfl

theorem loopOf_of_checkView {a s : State} (h : checkView s = checkView a) (n : Nat) : loopOf s n = loopOf a n := by
  unfold loopOf
  rw [show s.pnl.loops = a.pnl.loops from congrArg (·.2.2.2.2) h]

theorem checkOn_of_checkView {a s : State} (h : checkView s = checkView a) :
    s.pnl.checkOn = a.pnl.checkOn ∧ s.pnl.loop = a.pnl.loop ∧ s.pnl.step2 = a.pnl.step2 :=
  ⟨congrArg (·.1) h, congrArg (·.2.1) h, congrArg (·.2.2.1) h⟩

theorem checkView_firstTraining (s : State) : checkView (firstTraining s) = checkView s :=
  each_keeps fun b _ a => by
    have ht (d : DlkBand) (x : State) : checkView (trainDrv b 1 0 0 (setDlk b d x)) = checkView x :=
      checkView_congr (((frameOf (kept_trainDrv b 1 0 0) _).pnl (by decide)).trans rfl)
    split
    · exact (ht _ _).trans (checkView_auto a a.boot _)
    · rfl

theorem checkView_rollback (s : State) : checkView (rollback s) = checkView s := by
  unfold rollback
  extract_lets st s1 _ s2 s3
  have h1 : checkView s1 = checkView s := by
    unfold s1 whenDo
    split
    · exact checkView_congr ((frameOf kept_wakeDram s).pnl (by decide))
    · rfl
  have h2 : checkView s2 = checkView s := by
    unfold s2
    split
    · exact (checkView_firstTraining _).trans ((checkView_congr rfl).trans h1)
    · exact h1
  have h3 : checkView s3 = checkView s := by
    unfold s3 whenDo
    split
    · exact (checkView_congr ((frameOf kept_releaseHeld s2).pnl (by decide))).trans h2
    · exact h2
  exact (checkView_congr rfl).trans h3

theorem checkView_entryEnds (cause : Nat) (s : State) : checkView (entryEnds cause s) = checkView s := by
  have hshow (a : State) : checkView (refreshBands a) = checkView a := checkView_congr ((frameOf kept_refreshBands a).pnl (by decide))
  have hlog (x y z w : Nat) (a : State) : checkView (logEv x y z w a) = checkView a := checkView_congr (by simp)
  have hdone (a : State) (p : Pwr) : checkView (wakesDone { a with pwr := p }) = checkView a := rfl
  have hset (a : State) (p : Pwr) : checkView { a with pwr := p } = checkView a := rfl
  unfold entryEnds
  split
  · extract_lets s1 _ s2 _
    have h2 : checkView s2 = checkView s := by
      have hevc (a : State) : checkView (evc 0xB9 (cnt Ob.PWR_ABORTS a)) = checkView a := checkView_congr (by simp)
      unfold s2
      rw [hevc]
      exact (hset _ _).trans (checkView_rollback s)
    split
    · split
      · rw [hshow, hset, h2]
      · rw [hlog, hshow, hdone, h2]
    · rw [hshow, hdone, h2]
  · rfl

theorem checkView_evc (k : Nat) (s : State) : checkView (evc k s) = checkView s := checkView_congr (by simp)

theorem checkView_sleepEnds (s : State) : checkView (sleepEnds s) = checkView s := by
  have hset (a : State) (p : Pwr) : checkView { a with pwr := p } = checkView a := rfl
  have hwake (a : State) : checkView (wakeActs 6 a) = checkView a := by
    unfold wakeActs
    split
    · split
      · rfl
      · rw [checkView_evc]
        exact checkView_entryEnds 3 a
    · split
      · rw [checkView_evc]
        exact checkView_congr ((frameOf kept_reachP0 a).pnl (by decide))
      · split
        · rfl
        · dsimp only
          rw [checkView_congr ((frameOf kept_stepGoal _).pnl (by decide)), hset, checkView_evc]
          rfl
      · rfl
  unfold sleepEnds
  split
  · exact checkView_entryEnds 4 s
  · rw [hwake, hset]

theorem checkView_leaveRun (s : State) : checkView (leaveRun s) = checkView s := by
  unfold leaveRun
  rw [checkView_congr ((frameOf kept_stateNaks _).pnl (by decide)), checkView_congr ((frameOf (kept_abandonCal 2) _).pnl (by decide))]
  split
  · rfl
  · exact checkView_entryEnds 5 s

theorem checkView_changeOp (v : OpState) (s : State) : checkView (changeOp v s) = checkView s := by
  have hback (x y z : Nat) (a : State) : checkView (backEvent x y z a) = checkView a :=
    checkView_congr ((frameOf (kept_backEvent x y z) a).pnl (by decide))
  have hlog (x y z w : Nat) (a : State) : checkView (logEv x y z w a) = checkView a := checkView_congr (by simp)
  have hleave : checkView (if s.boot.op = .setup then leaveSetup s else s) = checkView s := by
    split
    · exact checkView_congr ((frameOf kept_leaveSetup s).pnl (by decide))
    · rfl
  unfold changeOp
  dsimp only
  split
  · rfl
  · split
    · rw [checkView_firstTraining, checkView_congr ((frameOf kept_startLink _).pnl (by decide)), hback, hlog, checkView_auto, hleave]
    · rw [hback, hlog, checkView_auto, hleave]

theorem checkView_deviceReaction (n : Nat) (stay inj : Bool) (s : State) :
    checkView (deviceReaction n stay inj s) = checkView s := by
  have hmarked : checkView (reactionMarked n stay s) = checkView s := by
    unfold reactionMarked
    dsimp only
    split
    · rfl
    · rfl
  have hshown (a : State) : checkView (reactionShown n inj a) = checkView a := by
    unfold reactionShown
    rw [checkView_congr ((frameOf (kept_logEv 0x04 4 0 _) _).pnl (by decide)), checkView_congr (assertFault_pnl _),
      checkView_congr ((frameOf (kept_recordLast n inj) _).pnl (by decide)), checkView_sleepEnds]
  have henters (op : OpState) (a : State) : checkView (reactionEnters op a) = checkView a := by
    unfold reactionEnters
    split
    · rfl
    · rw [checkView_congr (pendEvt_pnl 1 _), checkView_changeOp]
      split
      · exact checkView_leaveRun a
      · exact checkView_congr ((frameOf kept_stateNaks a).pnl (by decide))
  rw [deviceReaction_eq]
  split
  · exact hmarked
  · rw [checkView_congr ((allDark_frame _).pnl (by decide)), henters, hshown, hmarked]

theorem checkView_of_railsOnly {a s : State} (h : RailsOnly a s) : checkView s = checkView a := by
  obtain ⟨_, _, rfl⟩ := h
  rfl

theorem checkView_startPath (c : Nat) (s : State) : checkView (startPath c s) = checkView s := by
  have hpath (a : State) (p : LbPath) (pins : Pins) :
      checkView { a with pins := pins, pnl := { a.pnl with path := some p } } = checkView a := rfl
  have hcause (p : LbPath) (n : Nat) (a : State) : checkView (addCause p n a) = checkView a := rfl
  have hoset (k v : Nat) (a : State) : checkView (oset k v a) = checkView a := rfl
  have hcnt (k : Nat) (a : State) : checkView (cnt k a) = checkView a := rfl
  have hfault (a : State) : checkView (assertFault a) = checkView a := checkView_congr (assertFault_pnl a)
  have hfall (d : Nat) (a : State) : checkView (each (usedBands a) (fun b => fallBy b b d false) a) = checkView a :=
    checkView_of_railsOnly (railsOnly_each (fun b a => railsOnly_fallBy ..) _ _)
  unfold startPath
  split
  · rw [hfault, hcnt]
    unfold whenDo
    split
    · rw [hfall, hcause]
    · exact hcause _ _ _
  · extract_lets causes p _ s1 s2
    have h1 : checkView s1 = checkView s := by
      unfold s1
      rw [hoset, hfault]
      rfl
    have h2 : checkView s2 = checkView s1 := each_keeps (obs := checkView) fun b _ a => by
      rw [checkView_congr ((holdBlack_frame b false _).pnl (by decide)), checkView_of_railsOnly (railsOnly_fallBy ..)]
    rw [checkView_evc, hcnt, h2, h1]

/-! ## A measurement of a loop -/

theorem loopOf_setLoop_ne {n k : Nat} (v : Loop) (s : State) (h : k ≠ n) : loopOf (setLoop n v s) k = loopOf s k :=
  get_put_ne _ _ _ h

theorem plainWrite_frame (k v : Nat) (s : State) : s.sameBut [.obj, .safe, .jrn] (plainWrite k v s) := frameOf (kept_plainWrite k v) s

/-- The record of one loop, with nothing else of the check changed. -/
theorem checkView_crackJudge (n cause : Nat) (s : State) : checkView (crackJudge n cause s) = checkView (setLoop n { loopOf s n with
    fails := if cause = 0 then 0 else (loopOf s n).fails + 1
    passes := if cause = 0 then min 2 ((loopOf s n).passes + 1) else 0 } s) := by
  have hshow (c : Nat) (a : State) : checkView (showCrack n c a) = checkView a :=
    checkView_congr ((frameOf (kept_showCrack n c) a).pnl (by decide))
  have hfail (a : State) : checkView (failure 13 a) = checkView a := checkView_congr (by simp)
  have hmech (v : Mech) (a : State) : checkView (setMech 13 v a) = checkView a := rfl
  unfold crackJudge
  extract_lets l s1 s2 s3 _
  have h2 : checkView s2 = checkView s1 := by
    unfold s2
    split
    · rfl
    · exact checkView_evc _ _
  have h3 : checkView s3 = checkView s1 := by
    unfold s3
    split
    · rw [checkView_startPath, checkView_deviceReaction, hfail, h2]
    · exact h2
  rw [hmech, h3]
  exact hshow _ _

/-- The failing checks in a row of a loop, and the passing ones. -/
def loopCounts (s : State) (n : Nat) : Nat × Nat := ((loopOf s n).fails, (loopOf s n).passes)

theorem loopCounts_of_checkView {a s : State} (h : checkView s = checkView a) (n : Nat) : loopCounts s n = loopCounts a n := by
  unfold loopCounts
  rw [loopOf_of_checkView h]

theorem loopCounts_crackJudge_same (n cause : Nat) (s : State) : loopCounts (crackJudge n cause s) n =
    (if cause = 0 then 0 else (loopOf s n).fails + 1, if cause = 0 then min 2 ((loopOf s n).passes + 1) else 0) := by
  rw [loopCounts_of_checkView (checkView_crackJudge n cause s), loopCounts, loopOf_setLoop]

theorem loopCounts_crackJudge_ne {n k : Nat} (cause : Nat) (s : State) (h : k ≠ n) :
    loopCounts (crackJudge n cause s) k = loopCounts s k := by
  rw [loopCounts_of_checkView (checkView_crackJudge n cause s), loopCounts, loopOf_setLoop_ne _ _ h, loopCounts]

/-- Learning keeps the check and the counts of the loops. -/
theorem crackLearn_spec (n r abs : Nat) (s : State) : (crackLearn n r abs s).pnl.checkOn = s.pnl.checkOn ∧
    (crackLearn n r abs s).pnl.loop = s.pnl.loop ∧ ∀ k, loopCounts (crackLearn n r abs s) k = loopCounts s k := by
  unfold crackLearn
  extract_lets l d ok sum bad s1
  have h1 : s1.pnl.checkOn = s.pnl.checkOn ∧ s1.pnl.loop = s.pnl.loop ∧ ∀ k, loopCounts s1 k = loopCounts s k := by
    refine ⟨rfl, rfl, fun k => ?_⟩
    unfold s1 loopCounts
    by_cases hk : k = n
    · rw [hk, loopOf_setLoop]
    · rw [loopOf_setLoop_ne _ _ hk]
  split
  · exact ⟨rfl, rfl, fun _ => rfl⟩
  · split
    · have hp := (plainWrite_frame (Ob.PNL_CRKBASE + n) (sum.1 / (8 * sum.2) % 2 ^ 32) s1).pnl (by decide)
      refine ⟨(congrArg Pnl.checkOn hp).trans h1.1, (congrArg Pnl.loop hp).trans h1.2.1, fun k => ?_⟩
      rw [loopCounts_of_checkView (checkView_congr hp), h1.2.2]
    · exact h1

/-! ## The commands of the tests -/

section
variable {t : Nat} {s : State}

/-- The conversions of a step of the check leave PNL and what the limits depend on. -/
theorem crackConvs_frame (n v1 v2 : Nat) (s : State) : s.sameBut [.obj, .cal] (crackConvs n v1 v2 s) := frameOf (kept_crackConvs n v1 v2) s

theorem oget_noteConv {k : Nat} (i code : Nat) (trig : Bool) (s : State) (hc : notCounter k = true) (hk : k ≠ Ob.CAL_ADCCONV) :
    oget (noteConv i code trig s) k = oget s k := by
  unfold noteConv
  rw [oget_evc _ _ _ hc, oget_cnt_ne _ hk]
  rfl

theorem oget_crackConvs {k : Nat} (n v1 v2 : Nat) (s : State) (hc : notCounter k = true) (hk : k ≠ Ob.CAL_ADCCONV) :
    oget (crackConvs n v1 v2 s) k = oget s k := by
  unfold crackConvs
  dsimp only
  split
  · exact oget_noteConv _ _ _ _ hc hk
  · rw [oget_noteConv _ _ _ _ hc hk, oget_noteConv _ _ _ _ hc hk]

/-- The cause of a measurement depends on the limits and on the thermistors alone. -/
theorem crackCause_congr {a s : State} {n : Nat} (r v1 : Nat) (hn : n ≤ 1)
    (h : ∀ k, notCounter k = true → k ≠ Ob.CAL_ADCCONV → oget s k = oget a k) : crackCause s n r v1 = crackCause a n r v1 := by
  have hbase : oget s (Ob.PNL_CRKBASE + n) = oget a (Ob.PNL_CRKBASE + n) := by
    obtain rfl | rfl : n = 0 ∨ n = 1 := by omega
    · exact h _ (by decide) (by decide)
    · exact h _ (by decide) (by decide)
  have htherm : validTherms s = validTherms a := by
    have h4 : ∀ i ∈ List.range 4, oget s (Ob.CAL_THMTEMP + i) = oget a (Ob.CAL_THMTEMP + i) := by
      intro i hi
      have : ∀ i ∈ List.range 4, notCounter (Ob.CAL_THMTEMP + i) = true ∧ Ob.CAL_THMTEMP + i ≠ Ob.CAL_ADCCONV := by decide
      exact h _ (this i hi).1 (this i hi).2
    unfold validTherms
    rw [List.filter_congr fun i hi => by rw [h4 i hi]]
    exact List.map_congr_left fun i hi => by rw [h4 i (List.mem_of_mem_filter hi)]
  have hscale : crackScale s = crackScale a := by
    unfold crackScale crackTemp
    rw [htherm, h _ (by decide) (by decide)]
  unfold crackCause
  rw [hbase, hscale, h Ob.PNL_CRKREL (by decide) (by decide)]

/-- A step of a check of loop `n` that is over. -/
def crackStep (n v1 v2 : Nat) (s : State) : State :=
  if !s.pnl.checkOn then s
  else if !s.pnl.step2 then
    oset (Ob.PNL_CRKR + n) (crackOhms v1 v2) { s with pnl := { s.pnl with r1 := crackOhms v1 v2, step2 := true } }
  else
    let s1 := crackJudge n (crackCause s n s.pnl.r1 v1) (crackLearn n s.pnl.r1 (crackAbs s.pnl.r1 v1) s)
    if n = 0 then { s1 with pnl := { s1.pnl with loop := 1, step2 := false } }
    else evc 0xC7 { s1 with pnl := { s1.pnl with checkOn := false, step2 := false } }

theorem exec_crackStepDone {v1 v2 : BitVec 12} (hon : s.pnl.checkOn = true) : exec (.crackStepDone t v1 v2) s =
    .next (crackStep s.pnl.loop v1.toNat v2.toNat (crackConvs s.pnl.loop v1.toNat v2.toNat (s.at t))) := by
  have hw : whenDo (s.at t).pnl.checkOn (crackConvs s.pnl.loop v1.toNat v2.toNat) (s.at t) =
      crackConvs s.pnl.loop v1.toNat v2.toNat (s.at t) := if_pos hon
  rw [← hw]
  rfl

theorem crackStep_first {n v1 v2 : Nat} (hon : s.pnl.checkOn = true) (h : s.pnl.step2 = false) : crackStep n v1 v2 s =
    oset (Ob.PNL_CRKR + n) (crackOhms v1 v2) { s with pnl := { s.pnl with r1 := crackOhms v1 v2, step2 := true } } :=
  (if_neg (by simp [hon])).trans (if_pos (by simp [h]))

theorem crackStep_frame (n v1 v2 : Nat) (s : State) : (crackStep n v1 v2 s).mem = s.mem := by
  have hj (a : State) (c : Nat) : (crackJudge n c a).mem = a.mem := (frameOf (kept_crackJudge n c) a).mem (by decide)
  have hl (a : State) (r c : Nat) : (crackLearn n r c a).mem = a.mem := (frameOf (kept_crackLearn n r c) a).mem (by decide)
  unfold crackStep
  dsimp only
  split
  · rfl
  · split
    · rfl
    · split
      · exact (hj _ _).trans (hl _ _ _)
      · rw [evc_mem]
        exact (hj _ _).trans (hl _ _ _)

/-- The second step judges the loop and goes on to the next, or ends the check. -/
theorem crackStep_second {n v1 v2 : Nat} (hon : s.pnl.checkOn = true) (h : s.pnl.step2 = true) :
    (crackStep n v1 v2 s).pnl.step2 = false ∧
    (n = 0 → (crackStep n v1 v2 s).pnl.loop = 1 ∧ (crackStep n v1 v2 s).pnl.checkOn = true) ∧
    (n = 1 → (crackStep n v1 v2 s).pnl.checkOn = false) ∧
    loopCounts (crackStep n v1 v2 s) n =
      (if crackCause s n s.pnl.r1 v1 = 0 then 0 else (loopOf s n).fails + 1,
        if crackCause s n s.pnl.r1 v1 = 0 then min 2 ((loopOf s n).passes + 1) else 0) := by
  obtain ⟨hon1, -, hcounts⟩ := crackLearn_spec n s.pnl.r1 (crackAbs s.pnl.r1 v1) s
  have hx : crackStep n v1 v2 s = (let s1 := crackJudge n (crackCause s n s.pnl.r1 v1) (crackLearn n s.pnl.r1 (crackAbs s.pnl.r1 v1) s)
    if n = 0 then { s1 with pnl := { s1.pnl with loop := 1, step2 := false } }
    else evc 0xC7 { s1 with pnl := { s1.pnl with checkOn := false, step2 := false } }) :=
    (if_neg (by simp [hon])).trans (if_neg (by simp [h]))
  generalize crackStep n v1 v2 s = a at hx
  generalize crackLearn n s.pnl.r1 (crackAbs s.pnl.r1 v1) s = b at hx hon1 hcounts
  have hj := loopCounts_crackJudge_same n (crackCause s n s.pnl.r1 v1) b
  have hb : (loopOf b n).fails = (loopOf s n).fails ∧ (loopOf b n).passes = (loopOf s n).passes := Prod.mk.inj (hcounts n)
  have hon2 : (crackJudge n (crackCause s n s.pnl.r1 v1) b).pnl.checkOn = true :=
    ((checkOn_of_checkView (checkView_crackJudge n _ b)).1.trans hon1).trans hon
  generalize crackJudge n (crackCause s n s.pnl.r1 v1) b = d at hx hj hon2
  rw [hb.1, hb.2] at hj
  by_cases hn : n = 0
  · subst hn
    rw [hx]
    exact ⟨rfl, fun _ => ⟨rfl, hon2⟩, fun h => absurd h (by decide), hj⟩
  · rw [hx, ← hj]
    dsimp only
    rw [if_neg hn, evc_pnl]
    exact ⟨rfl, fun h => absurd h hn, fun _ => rfl, by unfold loopCounts loopOf; rw [evc_pnl]⟩

theorem exec_crackCheckLate (hon : s.pnl.checkOn = true) : exec (.crackCheckLate t) s = .next (evc 0xC7
    (each ((List.range 2).drop s.pnl.loop) (fun n st => crackJudge n 4 (crackLearn n 0 4 st))
      { s.at t with pnl := { s.pnl with checkOn := false, step2 := false } })) :=
  congrArg Host.Outcome.next (if_neg (by simp [hon]))

end

/-- A loop that a check has not finished fails. -/
theorem crackLate_spec (n : Nat) (s : State) : (crackJudge n 4 (crackLearn n 0 4 s)).pnl.checkOn = s.pnl.checkOn ∧
    (crackJudge n 4 (crackLearn n 0 4 s)).mem = s.mem ∧
    loopCounts (crackJudge n 4 (crackLearn n 0 4 s)) n = ((loopOf s n).fails + 1, 0) ∧
    ∀ k, k ≠ n → loopCounts (crackJudge n 4 (crackLearn n 0 4 s)) k = loopCounts s k := by
  obtain ⟨hon, -, hcounts⟩ := crackLearn_spec n 0 4 s
  have hc : (loopOf (crackLearn n 0 4 s) n).fails = (loopOf s n).fails := congrArg Prod.fst (hcounts n)
  refine ⟨(checkOn_of_checkView (checkView_crackJudge n 4 _)).1.trans hon, ?_, ?_, fun k hk => ?_⟩
  · rw [(frameOf (kept_crackJudge n 4) _).mem (by decide), (frameOf (kept_crackLearn n 0 4) s).mem (by decide)]
  · rw [loopCounts_crackJudge_same, hc]
    rfl
  · rw [loopCounts_crackJudge_ne _ _ hk, hcounts]

theorem crackLates_spec {i : Nat} (hi : i ≤ 1) (s : State) :
    ∃ s', each ((List.range 2).drop i) (fun n st => crackJudge n 4 (crackLearn n 0 4 st)) s = s' ∧
      s'.pnl.checkOn = s.pnl.checkOn ∧ s'.mem = s.mem ∧ loopCounts s' 1 = ((loopOf s 1).fails + 1, 0) := by
  obtain rfl | rfl : i = 0 ∨ i = 1 := by omega
  · rw [show (List.range 2).drop 0 = [0, 1] from rfl]
    refine ⟨_, rfl, ?_⟩
    simp only [each, List.foldl_cons, List.foldl_nil]
    obtain ⟨h1, h2, -, h4⟩ := crackLate_spec 0 s
    generalize crackJudge 0 4 (crackLearn 0 0 4 s) = a at h1 h2 h4
    obtain ⟨g1, g2, g3, -⟩ := crackLate_spec 1 a
    have hf : (loopOf a 1).fails = (loopOf s 1).fails := congrArg Prod.fst (h4 1 (by decide))
    exact ⟨g1.trans h1, g2.trans h2, by rw [g3, hf]⟩
  · rw [show (List.range 2).drop 1 = [1] from rfl]
    refine ⟨_, rfl, ?_⟩
    simp only [each, List.foldl_cons, List.foldl_nil]
    obtain ⟨h1, h2, h3, -⟩ := crackLate_spec 1 s
    exact ⟨h1, h2, h3⟩

theorem oget_showMicro_ne {k j : Nat} (v : Option Nat) (s : State) (h : j ≠ k) : oget (showMicro k v s) j = oget s j := by
  unfold showMicro
  split
  · split
    · exact oget_oset_ne _ _ h
    · exact oget_oset_ne _ _ h
  · exact oget_oset_ne _ _ h

theorem oget_showMicro_of_fits {k c : Nat} (s : State) (h : c < 0xFFFF) : oget (showMicro k (some c) s) k = c := by
  unfold showMicro
  dsimp only
  rw [if_pos h, oget_oset_same]

theorem exec_vresTestDone {t dropMv : Nat} {s : State} (h : s.pnl.vresTest = true) : ∃ a : State,
    exec (.vresTestDone t dropMv) s = .next (oset Ob.PNL_VRESSTAT
      (if 5000 < s.pnl.vresV ∧ !decide (12 * 15 * 10 ^ 9 * dropMv ≤ 1000000 * (s.pnl.vresV * s.pnl.vresV - 25 * 10 ^ 6)) then 2
        else if s.pnl.vresV < oget s Ob.PNL_VRESMIN then 3 else 1) a) ∧
      a.mem = s.mem ∧ a.boot = s.boot ∧ a.pnl.vresTest = false ∧ (1 < dropMv → oget a Ob.PNL_VRESCAP = 100000 / dropMv) := by
  have hf (b : State) (k : Nat) (v : Option Nat) : b.sameBut [.free, .obj] (showMicro k v b) := frameOf (kept_showMicro k v) b
  have hx : exec (.vresTestDone t dropMv) s = _ := congrArg Host.Outcome.next (if_neg (by simp [h]))
  refine ⟨_, hx, ?_, ?_, ?_, fun hd => ?_⟩
  · rw [(hf _ _ _).mem (by decide), (hf _ _ _).mem (by decide)]
    rfl
  · rw [(hf _ _ _).boot (by decide), (hf _ _ _).boot (by decide)]
    rfl
  · rw [(hf _ _ _).pnl (by decide), (hf _ _ _).pnl (by decide)]
  · rw [oget_showMicro_ne _ _ (by decide), if_neg (by omega)]
    exact oget_showMicro_of_fits _ (by
      have : 100000 / dropMv ≤ 100000 / 2 := Nat.div_le_div_left hd (by decide)
      omega)

theorem ownVresTest_asked {v : Nat} {s : State} (hv : v ≠ 0) (hop : s.boot.op = .setup)
    (h : ∀ b < 4, (railOf s b).state = .off ∨ (railOf s b).state = .cut) : ownVresTest v s =
    ({ s with pnl := { s.pnl with vresTest := true, vresV := oget s Ob.PNL_VRES_MV } }, St.ok) := by
  have hb (b : Nat) (hb : b < 4) : (decide ((railOf s b).state ≠ .off) && decide ((railOf s b).state ≠ .cut)) = false := by
    obtain h | h := h b hb <;> simp [h]
  unfold ownVresTest
  rw [if_neg hv, if_neg (by simp [hop]), if_neg]
  simp only [List.any_cons, List.any_nil, hb 0 (by decide), hb 1 (by decide), hb 2 (by decide), hb 3 (by decide)]
  decide

theorem ownVresTest_railUp {v b : Nat} {s : State} (hv : v ≠ 0) (hop : s.boot.op = .setup) (hb : b < 4)
    (h1 : (railOf s b).state ≠ .off) (h2 : (railOf s b).state ≠ .cut) :
    ownVresTest v s = (oset Ob.PNL_VRESSTAT 4 s, St.refused) := by
  unfold ownVresTest
  rw [if_neg hv, if_neg (by simp [hop]), if_pos]
  exact List.any_eq_true.2 ⟨b, by simp only [List.mem_cons, List.not_mem_nil, or_false]; omega, by simp [h1, h2]⟩

/-- Learning starts over eight checks, and a loop keeps its counts. -/
theorem loopOf_learn {m : List Nat} {n : Nat} (hn : n ∈ m) (hnd : m.Nodup) (s : State) :
    let s' := each m (fun n st => setLoop n { loopOf st n with learn := 8, sum := (0, 1), bad := false } st) s
    (loopOf s' n).learn = 8 ∧ (loopOf s' n).fails = (loopOf s n).fails := by
  obtain ⟨a, ha, hx⟩ := each_at (obs := fun a => loopOf a n)
    (f := fun n st => setLoop n { loopOf st n with learn := 8, sum := (0, 1), bad := false } st) hn hnd
    (fun k hk a => loopOf_setLoop_ne _ _ (Ne.symm hk)) s
  dsimp only at ha hx ⊢
  rw [hx, loopOf_setLoop, ha]
  exact ⟨rfl, rfl⟩

/-- Settles O27: the tests of the reserve, and the steps of the check. -/
theorem reserveAndLoopsAreTested : Obligations.ReserveAndLoopsAreTested := by
  refine ⟨fun t s => ⟨fun h v ht => ⟨?asked, ?railUp, ?nothing⟩, ?done, fun dropMv h => ?idle⟩,
    fun t s => ⟨?begins, ?asleep, fun v1 v2 hon hloop => ⟨?first, ?second⟩, ?late, ?lateIdle, fun h v ht => ⟨?learn, ?noLearn⟩⟩⟩
  case asked =>
    intro hv hop hrails
    have hx : exec (.pnlVrestest t h v) s = .next (writeRow h Ob.PNL_VRESTEST v.toNat ownVresTest (s.at t)) := rfl
    have ho := ownVresTest_asked (s := counted (s.at t) h) (v := v.toNat) (by simpa [BitVec.toNat_eq] using hv) (by simpa using hop)
      (by simpa using hrails)
    refine ⟨_, hx, ?_, ?_, exec_mem hx (by simp [footprint]), exec_boot hx (by simp [footprint])⟩
    · rw [writeRow_of_taken ht, answerTaken_pnl, ho]
    · rw [writeRow_of_taken ht, answerTaken_pnl, ho]
      exact oget_counted_at h t s (by decide) (by decide)
  case railUp =>
    intro hv hop b hb h1 h2
    have hx : exec (.pnlVrestest t h v) s = .next (writeRow h Ob.PNL_VRESTEST v.toNat ownVresTest (s.at t)) := rfl
    have ho := ownVresTest_railUp (s := counted (s.at t) h) (v := v.toNat) (b := b) (by simpa [BitVec.toNat_eq] using hv)
      (by simpa using hop) hb (by simpa using h1) (by simpa using h2)
    refine ⟨_, hx, ?_, ?_, exec_mem hx (by simp [footprint]), exec_boot hx (by simp [footprint])⟩
    · rw [writeRow_of_taken ht, answerTaken_pnl, ho, oset_pnl, counted_pnl]
      rfl
    · rw [oget_writeRow ht (by decide), ho, oget_oset_same]
  case nothing =>
    intro h0
    have hx : exec (.pnlVrestest t h v) s = .next (writeRow h Ob.PNL_VRESTEST v.toNat ownVresTest (s.at t)) := rfl
    refine ⟨_, hx, ?_, exec_mem hx (by simp [footprint]), exec_boot hx (by simp [footprint])⟩
    rw [writeRow_of_taken ht, answerTaken_pnl]
    have ho : (ownVresTest v.toNat (counted (s.at t) h)).1 = counted (s.at t) h := by
      unfold ownVresTest
      obtain h0 | h0 := h0
      · rw [if_pos (by simp [h0])]
      · split
        · rfl
        · rw [if_pos (by simpa using h0)]
    rw [ho, counted_pnl]
    rfl
  case done =>
    intro dropMv h
    obtain ⟨a, hx, hmem, hboot, htest, hcap⟩ := exec_vresTestDone (t := t) (dropMv := dropMv) h
    refine ⟨_, hx, htest, fun hd => ?_, hmem, hboot, ?_⟩
    · rw [oget_oset_ne _ _ (by decide)]
      exact hcap hd
    · rw [oget_oset_same]
      simp
  case idle => exact congrArg Host.Outcome.next (if_pos (by simp [h]))
  case begins => exact fun h => ⟨_, congrArg Host.Outcome.next (if_pos h), rfl, rfl, rfl, rfl, rfl⟩
  case asleep => exact fun h => congrArg Host.Outcome.next (if_neg (by rw [show crackRuns (s.at t) = crackRuns s from rfl, h]; simp))
  case first =>
    intro h2
    have hp := (crackConvs_frame s.pnl.loop v1.toNat v2.toNat (s.at t)).pnl (by decide)
    have hm := (crackConvs_frame s.pnl.loop v1.toNat v2.toNat (s.at t)).mem (by decide)
    have hx := exec_crackStepDone (t := t) (v1 := v1) (v2 := v2) hon
    generalize crackConvs s.pnl.loop v1.toNat v2.toNat (s.at t) = a at hp hm hx
    rw [crackStep_first (by rw [hp]; exact hon) (by rw [hp]; exact h2)] at hx
    have hloops : a.pnl.loops = s.pnl.loops := congrArg Pnl.loops hp
    exact ⟨_, hx, oget_oset_same _ _ _, rfl, rfl, hloops, hm⟩
  case second =>
    intro h2
    have hp := (crackConvs_frame s.pnl.loop v1.toNat v2.toNat (s.at t)).pnl (by decide)
    have hm := (crackConvs_frame s.pnl.loop v1.toNat v2.toNat (s.at t)).mem (by decide)
    have hc := crackCause_congr (a := s.at t) s.pnl.r1 v1.toNat hloop fun k hk hne =>
      oget_crackConvs s.pnl.loop v1.toNat v2.toNat (s.at t) hk hne
    have hx := exec_crackStepDone (t := t) (v1 := v1) (v2 := v2) hon
    generalize crackConvs s.pnl.loop v1.toNat v2.toNat (s.at t) = a at hp hm hx hc
    obtain ⟨k1, k2, k3, k4⟩ := crackStep_second (n := s.pnl.loop) (v1 := v1.toNat) (v2 := v2.toNat) (s := a)
      (by rw [hp]; exact hon) (by rw [hp]; exact h2)
    have hr : a.pnl.r1 = s.pnl.r1 := congrArg Pnl.r1 hp
    have hl : loopOf a s.pnl.loop = loopOf s s.pnl.loop := by
      unfold loopOf
      rw [hp]
      rfl
    rw [hr, hc, hl] at k4
    obtain ⟨k4, k5⟩ := Prod.mk.inj k4
    refine ⟨_, hx, k1, k2, k3, (crackStep_frame _ _ _ a).trans hm, fun h0 => ?_, fun h0 => ?_⟩
    · rw [k4, k5, if_pos h0, if_pos h0]
      exact ⟨rfl, rfl⟩
    · rw [k4, k5, if_neg h0, if_neg h0]
      exact ⟨rfl, rfl⟩
  case late =>
    intro hon hloop
    have hx := exec_crackCheckLate (t := t) hon
    obtain ⟨a, ha, h1, h2, h3⟩ := crackLates_spec hloop { s.at t with pnl := { s.pnl with checkOn := false, step2 := false } }
    rw [ha] at hx
    obtain ⟨h3, h4⟩ := Prod.mk.inj h3
    have hl : loopOf (evc 0xC7 a) 1 = loopOf a 1 := by unfold loopOf; rw [evc_pnl]
    exact ⟨_, hx, by rw [evc_pnl, h1], by rw [hl, h3]; rfl, by rw [hl, h4], by rw [evc_mem, h2]; rfl⟩
  case lateIdle => exact fun h => congrArg Host.Outcome.next (if_pos (by simp [h]))
  case learn =>
    intro n hop hseal hn hbit
    have hx : exec (.pnlCrklearn t h v) s = .next (writeRow h Ob.PNL_CRKLEARN v.toNat ownCrkLearn (s.at t)) := rfl
    have ho : ownCrkLearn v.toNat (counted (s.at t) h) = (each ([0, 1].filter (bit v.toNat))
        (fun n st => setLoop n { loopOf st n with learn := 8, sum := (0, 1), bad := false } st) (counted (s.at t) h), St.ok) :=
      (if_neg (by simp [hop])).trans (if_neg (by
        rw [oflag_counted h (s.at t) (by decide) (by decide), show oflag (s.at t) Ob.SAF_SEALED = false from hseal]
        decide))
    have hmem : n ∈ [0, 1].filter (bit v.toNat) := by
      simp only [List.mem_filter, List.mem_cons, List.not_mem_nil, or_false]
      exact ⟨by omega, hbit⟩
    obtain ⟨h1, h2⟩ := loopOf_learn hmem ((by decide : [0, 1].Nodup).filter _) (counted (s.at t) h)
    have hl : loopOf (writeRow h Ob.PNL_CRKLEARN v.toNat ownCrkLearn (s.at t)) n =
        loopOf (ownCrkLearn v.toNat (counted (s.at t) h)).1 n := by
      unfold loopOf
      rw [writeRow_of_taken ht, answerTaken_pnl]
    have hc : loopOf (counted (s.at t) h) n = loopOf s n := by
      unfold loopOf
      rw [counted_pnl]
      rfl
    refine ⟨_, hx, ?_, ?_, exec_mem hx (by simp [footprint]), exec_boot hx (by simp [footprint])⟩
    · rw [hl, ho, h1]
    · rw [hl, ho, h2, hc]
  case noLearn =>
    intro h0
    have hx : exec (.pnlCrklearn t h v) s = .next (writeRow h Ob.PNL_CRKLEARN v.toNat ownCrkLearn (s.at t)) := rfl
    refine ⟨_, hx, ?_⟩
    rw [writeRow_of_taken ht, answerTaken_pnl]
    have ho : (ownCrkLearn v.toNat (counted (s.at t) h)).1 = counted (s.at t) h := by
      unfold ownCrkLearn
      obtain h0 | h0 := h0
      · rw [if_pos (by simpa using h0)]
      · split
        · rfl
        · rw [if_pos ((oflag_counted h (s.at t) (by decide) (by decide)).trans h0)]
    rw [ho, counted_pnl]
    rfl

end Sys2Proof.Machine
end

section
/-!
SUPPORT. The counters, the timers of a port, the pending events and the patches (R360, R370, R374 to R377, R390, R491, R492).
-/

namespace Sys2Proof.Machine

open Sys2Proof

/-! ## Frames and elements -/

theorem State.sameBut.mono {l m : List Part} {a s : State} (h : a.sameBut l s) (hs : Sub l m) : a.sameBut m s where
  free n := h.free fun e => n (hs _ e)
  obj n := h.obj fun e => n (hs _ e)
  dom n := h.dom fun e => n (hs _ e)
  mem n := h.mem fun e => n (hs _ e)
  poison n := h.poison fun e => n (hs _ e)
  boot n := h.boot fun e => n (hs _ e)
  pins n := h.pins fun e => n (hs _ e)
  pwr n := h.pwr fun e => n (hs _ e)
  evlog n := h.evlog fun e => n (hs _ e)
  cross n := h.cross fun e => n (hs _ e)
  pxl n := h.pxl fun e => n (hs _ e)
  trx n := h.trx fun e => n (hs _ e)
  lake n := h.lake fun e => n (hs _ e)
  fst n := h.fst fun e => n (hs _ e)
  bnk n := h.bnk fun e => n (hs _ e)
  mgt n := h.mgt fun e => n (hs _ e)
  scan n := h.scan fun e => n (hs _ e)
  dlk n := h.dlk fun e => n (hs _ e)
  drvRec n := h.drvRec fun e => n (hs _ e)
  wear n := h.wear fun e => n (hs _ e)
  safe n := h.safe fun e => n (hs _ e)
  pnl n := h.pnl fun e => n (hs _ e)
  cal n := h.cal fun e => n (hs _ e)
  gyl n := h.gyl fun e => n (hs _ e)
  jrn n := h.jrn fun e => n (hs _ e)

/-- The frame of a command within a list of parts that covers its footprint. -/
theorem exec_frame_sub {c : Instr} {m : List Part} {s s' : State} (h : exec c s = .next s') (hs : Sub (footprint c) m) :
    s.sameBut m s' := (exec_frame h).mono hs

/-- The frame of a write that touches its object and its port alone. -/
theorem sub_ports : Sub [.obj, .pins, .mgt] [.obj, .mgt, .pins] := fun e he =>
  (show ∀ e ∈ [Part.obj, .pins, .mgt], e ∈ [Part.obj, .mgt, .pins] by decide) e he

theorem oget_each_oset {f : Nat → Nat} {v : Nat} {xs : List Nat} {k : Nat} (s : State) (h : ∀ n ∈ xs, f n ≠ k) :
    oget (each xs (fun n => oset (f n) v) s) k = oget s k :=
  each_keeps (obs := fun a => oget a k) fun n hn _ => oget_oset_ne _ _ (Ne.symm (h n hn))

theorem oget_each_oset_same {f : Nat → Nat} (hf : Function.Injective f) {v n : Nat} {xs : List Nat} (hn : n ∈ xs)
    (hnd : xs.Nodup) (s : State) : oget (each xs (fun n => oset (f n) v) s) (f n) = v := by
  obtain ⟨a, -, hx⟩ := each_at (obs := fun a => oget a (f n)) (f := fun n => oset (f n) v) hn hnd
    (fun m hm a => oget_oset_ne _ _ fun e => hm (hf e).symm) s
  rw [hx, oget_oset_same]

/-! ## Bits -/

theorem low_bit_and (x c : Nat) : (x &&& c) % 2 = 1 ↔ x % 2 = 1 ∧ c % 2 = 1 := by
  have h := Nat.testBit_and x c 0
  simpa only [Nat.testBit_zero, ← Bool.decide_and, decide_eq_decide] using h

/-- What is left of a number without the bits of a mask. -/
theorem testBit_sub_and (x c i : Nat) : (x - (x &&& c)).testBit i = (x.testBit i && !c.testBit i) := by
  induction i generalizing x c with
  | zero =>
    have h0 := low_bit_and x c
    have hle := Nat.and_le_left (n := x) (m := c)
    generalize x &&& c = y at h0 hle
    rw [Bool.eq_iff_iff]
    simp only [Nat.testBit_zero, Bool.and_eq_true, Bool.not_eq_true', decide_eq_true_eq, decide_eq_false_iff_not]
    omega
  | succ i ih =>
    have h0 := low_bit_and x c
    have hle := Nat.and_le_left (n := x) (m := c)
    have hdiv : (x - (x &&& c)) / 2 = x / 2 - (x / 2 &&& c / 2) := by
      rw [← Nat.and_div_two]
      generalize x &&& c = y at h0 hle
      omega
    rw [Nat.testBit_succ, hdiv, ih, ← Nat.testBit_succ, ← Nat.testBit_succ]

theorem clearBit_eq (n i : Nat) : clearBit n i = n - (n &&& 2 ^ i) := by
  unfold clearBit
  rw [Nat.and_two_pow, bit_eq_testBit]
  cases n.testBit i <;> simp

theorem bit_clearBit (n i j : Nat) : bit (clearBit n i) j = (bit n j && !decide (i = j)) := by
  rw [clearBit_eq, bit_eq_testBit, bit_eq_testBit, testBit_sub_and, Nat.testBit_two_pow]

theorem bit_setBit_ne {n i j : Nat} (h : i ≠ j) : bit (setBit n i) j = bit n j := by
  unfold setBit
  split
  · rfl
  · next hb =>
    have hset : bit (n + 2 ^ i) i = true := by
      simp only [bit, decide_eq_true_eq] at hb ⊢
      rw [Nat.add_div_right _ (by positivity)]
      omega
    have hclear : clearBit (n + 2 ^ i) i = n := by
      unfold clearBit
      rw [if_pos hset, Nat.add_sub_cancel]
    have := bit_clearBit (n + 2 ^ i) i j
    rw [hclear] at this
    simp [this, h]

/-- A port moves bit 4 of WNP_EVTPEND alone. -/
theorem bit_pending_setPort {n : Nat} (p : Port) (v : PortState) (s : State) (h : n ≠ 4) :
    bit (oget (setPort p v s) Ob.WNP_EVTPEND) n = bit (oget s Ob.WNP_EVTPEND) n := by
  have hr (a : State) : oget (refreshEvt a) Ob.WNP_EVTPEND = oget a Ob.WNP_EVTPEND := by
    unfold refreshEvt
    dsimp only
    split
    · rfl
    · rfl
  cases p
  · rfl
  · simp only [setPort]
    split
    · rw [hr, oget_oset_same, bit_clearBit]
      simp only [show ¬ 4 = n from fun e => h e.symm, decide_false, Bool.not_false, Bool.and_true]
      rfl
    · unfold pendEvt
      dsimp only
      rw [hr]
      split
      · exact (congrArg (bit · n) (oget_oset_same _ _ _)).trans (bit_setBit_ne (Ne.symm h))
      · exact (congrArg (bit · n) (oget_oset_same _ _ _)).trans (bit_setBit_ne (Ne.symm h))

theorem bit_pending_counted {n : Nat} (h : Hdr) (s : State) (hn : n ≠ 4) :
    bit (oget (counted s h) Ob.WNP_EVTPEND) n = bit (oget s Ob.WNP_EVTPEND) n := by
  unfold counted
  rw [oget_evc _ _ _ (by decide)]
  exact bit_pending_setPort _ _ _ hn

theorem bit_pending_answerTaken {n : Nat} (op : Nat) (h : Hdr) (ix sub : Nat) (data : List Byte) (gen : Nat) (sa : State × Answer)
    (hn : n ≠ 4) : bit (oget (answerTaken op h ix sub data gen sa) Ob.WNP_EVTPEND) n = bit (oget sa.1 Ob.WNP_EVTPEND) n := by
  obtain ⟨v, hv⟩ | hv := answerTaken_cases op h ix sub data gen sa
  · rw [hv]
    exact bit_pending_setPort _ _ _ hn
  · rw [hv]

/-! ## The counters -/

theorem notCounter_of_outside {k : Nat} (h : k < Ob.EVC_VAL ∨ Ob.EVC_VAL + 32 ≤ k) : notCounter k = true := by
  simpa [notCounter] using h

theorem outside_ne_counter {k n : Nat} (h : k < Ob.EVC_VAL ∨ Ob.EVC_VAL + 32 ≤ k) (hn : n < 32) : k ≠ Ob.EVC_VAL + n := by omega

/-- Settles O50: each write changes its object and the counters it clears. -/
theorem countersFollowTheirWrites : Obligations.CountersFollowTheirWrites := by
  intro t h s
  have hc {k : Nat} (hk : k < Ob.EVC_VAL ∨ Ob.EVC_VAL + 32 ≤ k) (he : k ≠ Ob.WNP_EVTPEND) :
      oget (counted (s.at t) h) k = oget s k := oget_counted_at h t s (notCounter_of_outside hk) he
  refine ⟨fun v ht => ?snap, fun counter v ht => ?sel, fun v ht => ?clear⟩
  case snap =>
    have hx : exec (.tlmSnapcmd t h v) s = .next (writeRow h Ob.TLM_SNAPCMD v.toNat ownSnapCmd (s.at t)) := rfl
    have hv : v = 1 ↔ v.toNat = 1 := by simp [BitVec.toNat_eq]
    refine ⟨_, hx, ?_, exec_frame_sub hx sub_ports, fun k hk h1 h2 => ?_⟩
    · rw [oget_writeRow ht (by decide), ownSnapCmd]
      by_cases h1 : v = 1
      · rw [if_pos h1, if_pos (hv.1 h1), oget_oset_same]
      · rw [if_neg h1, if_neg fun e => h1 (hv.2 e)]
        exact hc (by decide) (by decide)
    · rw [oget_writeRow ht h2, ownSnapCmd]
      dsimp only
      split
      · rw [oget_oset_ne _ _ h1, hc hk h2]
      · exact hc hk h2
  case sel =>
    have hx : exec (.evcSelWrite t h counter v) s =
        .next (writeRow h (Ob.EVC_SEL + counter.val) v.toNat (ownEvcSel counter.val) (s.at t)) := rfl
    have hlt := counter.isLt
    have hsel : Ob.EVC_SEL + counter.val ≠ Ob.EVC_VAL + counter.val := by
      have : Ob.EVC_SEL ≠ Ob.EVC_VAL := by decide
      omega
    have hself : ∀ c : Fin 32, Ob.EVC_SEL + c.val ≠ Ob.WNP_EVTPEND ∧ Ob.EVC_VAL + c.val ≠ Ob.WNP_EVTPEND := by decide
    refine ⟨_, hx, ?_, ?_, exec_frame_sub hx sub_ports, fun k hk h1 h2 => ?_⟩
    · rw [oget_writeRow ht (hself counter).1, ownEvcSel, oget_oset_ne _ _ hsel, oget_oset_same]
    · rw [oget_writeRow ht (hself counter).2, ownEvcSel, oget_oset_same]

    · rw [oget_writeRow ht h2, ownEvcSel, oget_oset_ne _ _ (outside_ne_counter hk hlt), oget_oset_ne _ _ h1, hc hk h2]
  case clear =>
    have hx : exec (.evcClear t h v) s = .next (writeRow h Ob.EVC_CLEAR v.toNat ownEvcClear (s.at t)) := rfl
    have hlt {n : Nat} (hn : n ∈ (List.range 32).filter (bit v.toNat)) : n < 32 := List.mem_range.1 (List.mem_of_mem_filter hn)
    refine ⟨_, hx, fun n hn hb => ?_, exec_frame_sub hx sub_ports, fun k hk h2 => ?_⟩
    · have hne : ∀ n < 32, Ob.EVC_VAL + n ≠ Ob.WNP_EVTPEND := by decide
      rw [oget_writeRow ht (hne n hn), ownEvcClear]
      exact oget_each_oset_same (f := fun n => Ob.EVC_VAL + n) (fun a b e => by dsimp only at e; omega)
        (List.mem_filter.2 ⟨List.mem_range.2 hn, hb⟩) (List.nodup_range.filter _) _
    · rw [oget_writeRow ht h2, ownEvcClear]
      exact (oget_each_oset (f := fun n => Ob.EVC_VAL + n) _ fun n hn => (outside_ne_counter hk (hlt hn)).symm).trans (hc hk h2)

/-! ## The timers of a port -/

theorem exec_lockoutExpiry_over {t u : Nat} {p : Port} {s : State} (hb : (portOf s p).blocked = some u) (h : u ≤ max s.now t) :
    exec (.lockoutExpiry t p) s = .next (setPort p { portOf s p with blocked := none } (s.at t)) := by
  refine congrArg Host.Outcome.next (if_neg ?_)
  unfold challengeBlocked
  rw [show (portOf (s.at t) p).blocked = some u from hb]
  exact fun hd => Nat.not_le.2 (of_decide_eq_true hd) h

theorem exec_lockoutExpiry_early {t u : Nat} {p : Port} {s : State} (hb : (portOf s p).blocked = some u) (h : max s.now t < u) :
    exec (.lockoutExpiry t p) s = .next (s.at t) := by
  refine congrArg Host.Outcome.next (if_pos ?_)
  unfold challengeBlocked
  rw [show (portOf (s.at t) p).blocked = some u from hb]
  simpa using h

/-! ## The patches -/

theorem ownPatchCmd_refused {v : Nat} {s : State} (hv : v = 1) (h : s.boot.op ≠ .setup ∨ s.mgt.patchLoaded = false) :
    ownPatchCmd v s = (s, if s.boot.op ≠ .setup then St.state else St.refused) := by
  unfold ownPatchCmd
  by_cases hop : s.boot.op ≠ .setup
  · rw [if_pos hop, if_pos hop]
  · rw [if_neg hop, if_neg hop, if_pos hv, if_neg (by simpa using h.resolve_left hop)]

theorem ownPatchCmd_kept {v : Nat} {s : State} (hv : v = 2) (h : s.boot.op ≠ .setup ∨ s.mgt.patchLoaded = false) :
    (ownPatchCmd v s).1 = s := by
  unfold ownPatchCmd
  by_cases hop : s.boot.op ≠ .setup
  · rw [if_pos hop]
  · rw [if_neg hop, if_neg (by omega), if_neg (by simpa using h.resolve_left hop)]

/-- The patch slots of the management block. -/
def patches (s : State) : Option PatchSlot × Option PatchSlot × Bool × Bool :=
  (s.mgt.patchRun, s.mgt.patchFb, s.mgt.patchLoaded, s.mgt.patchPend)

theorem patches_congr {a s : State} (h : s.mgt = a.mgt) : patches s = patches a := by unfold patches; rw [h]

theorem patches_setPort (p : Port) (v : PortState) (s : State) : patches (setPort p v s) = patches s := by
  have hr (a : State) : patches (refreshEvt a) = patches a := by
    unfold refreshEvt
    dsimp only
    split
    · rfl
    · rfl
  cases p
  · rfl
  · simp only [setPort]
    split
    · rw [hr]
      rfl
    · unfold pendEvt
      dsimp only
      rw [hr]
      split
      · rfl
      · rfl

theorem patches_counted (h : Hdr) (s : State) : patches (counted s h) = patches s :=
  (patches_congr (evc_mgt _ _)).trans (patches_setPort _ _ s)

theorem patches_writeRow {h : Hdr} {k v : Nat} {own : Nat → State → State × Nat} {s : State} (ht : writeTaken s h k v = true) :
    patches (writeRow h k v own s) = patches (own v (counted s h)).1 := by
  rw [writeRow_of_taken ht]
  obtain ⟨x, hx⟩ | hx := answerTaken_cases 4 h (k / 256) (k % 256) (toBE (objBytes k) v) (portOf s h.port).gen
    ((own v (counted s h)).1, ⟨(own v (counted s h)).2, []⟩)
  · rw [hx, patches_setPort]
  · rw [hx]

theorem loaded_of_patches {a s : State} (h : patches s = patches a) : s.mgt.patchRun = a.mgt.patchRun ∧
    s.mgt.patchFb = a.mgt.patchFb ∧ s.mgt.patchLoaded = a.mgt.patchLoaded ∧ s.mgt.patchPend = a.mgt.patchPend :=
  ⟨congrArg (·.1) h, congrArg (·.2.1) h, congrArg (·.2.2.1) h, congrArg (·.2.2.2) h⟩

/-! ## The event log begins again -/

theorem logEv_evlog (code sev bands data : Nat) (s : State) : (logEv code sev bands data s).evlog.next = s.evlog.next % 64 + 1 ∧
    (logEv code sev bands data s).evlog.total = satInc 0xFFFFFFFF s.evlog.total ∧
    ∃ n e, (logEv code sev bands data s).evlog.entries = settleEv n s.evlog.next (ins s.evlog.entries s.evlog.next e) := by
  unfold logEv
  dsimp only
  rw [pendEvt_evlog, evc_evlog]
  exact ⟨rfl, rfl, _, _, rfl⟩

theorem settleEv_single (n : Nat) (e : EvEntry) : settleEv n 1 [(1, e)] = [(1, e)] := by
  cases n with
  | zero => rfl
  | succ n => rfl

/-! ## The pending events -/

theorem bit_refreshEvt (n : Nat) (s : State) :
    bit (oget (refreshEvt s) Ob.WNP_EVTPEND) n = bit (oget s Ob.WNP_EVTPEND) n := by
  unfold refreshEvt
  dsimp only
  split
  · rfl
  · rfl

theorem bit_ownEvtPend {n : Nat} (v : Nat) (s : State) (hn : n ≠ 4) :
    bit (oget (ownEvtPend v s).1 Ob.WNP_EVTPEND) n = (bit (oget s Ob.WNP_EVTPEND) n && !bit v n) := by
  unfold ownEvtPend
  dsimp only
  rw [bit_refreshEvt]
  refine (congrArg (bit · n) (oget_oset_same _ _ _)).trans ?_
  simp only [bit_eq_testBit, testBit_sub_and]
  rw [← bit_eq_testBit (clearBit v 4), bit_clearBit, bit_eq_testBit]
  simp [Ne.symm hn]

/-- Settles O38: the timers act at their time, and the writes follow their rules. -/
theorem timersEventsAndPatches : Obligations.TimersEventsAndPatches := by
  intro t p h s
  refine ⟨fun tag => ?cache, fun u hb => ⟨fun hu => ?lockout, exec_lockoutExpiry_early hb⟩, fun ha h0 hl => ?idle, fun h0 => ?busy,
    fun v ht => ?evtPend, fun v ht => ⟨fun hv => ?evClr, fun hv => ?evClrNone⟩, fun ht => ⟨fun hop hl => ?activate, fun hr => ?activateNot⟩,
    fun ht => ⟨fun hop hl => ?discard, fun hr => ?discardNot⟩⟩
  case cache =>
    have hx : exec (.cacheEntryExpiry t p tag) s = .next (setPort p { portOf (s.at t) p with
      cache := (portOf (s.at t) p).cache.filter (fun e => decide (e.tag ≠ tag.toNat) || e.live (s.at t).now) } (s.at t)) := rfl
    refine ⟨_, hx, ?_, ?_, exec_frame_sub hx sub_ports⟩
    · rw [portOf_setPort_same]
      rfl
    · rw [portOf_setPort_same]
      rfl
  case lockout =>
    have hx := exec_lockoutExpiry_over (t := t) hb hu
    refine ⟨_, hx, ?_, ?_, exec_frame_sub hx sub_ports⟩
    · rw [portOf_setPort_same]
    · rw [portOf_setPort_same]
  case idle =>
    have hx : exec (.sessionIdleTimeout t p) s = .next (setPort p { portOf (s.at t) p with level := 0 } (s.at t)) :=
      congrArg Host.Outcome.next (if_pos ⟨ha, h0, hl⟩)
    refine ⟨_, hx, ?_, ?_, exec_frame_sub hx sub_ports⟩
    · rw [portOf_setPort_same]
    · rw [portOf_setPort_same]
      exact ha
  case busy =>
    refine congrArg Host.Outcome.next (if_neg ?_)
    rintro ⟨h1, h2, h3⟩
    obtain h0 | h0 | h0 := h0
    · exact absurd (h0.symm.trans h1) (by decide)
    · exact h2 h0
    · exact Nat.not_le.2 h0 h3
  case evtPend =>
    have hx : exec (.wnpEvtpendWrite t h v) s = .next (writeRow h Ob.WNP_EVTPEND v.toNat ownEvtPend (s.at t)) := rfl
    refine ⟨_, hx, fun n hn => ?_, exec_frame_sub hx sub_ports⟩
    rw [writeRow_of_taken ht, bit_pending_answerTaken _ _ _ _ _ _ _ hn, bit_ownEvtPend _ _ hn, bit_pending_counted _ _ hn]
    rfl
  case evClr =>
    have hx : exec (.devEvclr t h v) s = .next (writeRow h Ob.DEV_EVCLR v.toNat ownEvClr (s.at t)) := rfl
    have hv0 : v.toNat ≠ 0 := fun e => hv (BitVec.eq_of_toNat_eq e)
    have ho : (ownEvClr v.toNat (counted (s.at t) h)).1 = logEv 0x18 0 0 0 { counted (s.at t) h with
        evlog := { (counted (s.at t) h).evlog with entries := [], next := 1, run := 0 } } := congrArg Prod.fst (if_neg hv0)
    have he : (writeRow h Ob.DEV_EVCLR v.toNat ownEvClr (s.at t)).evlog = (ownEvClr v.toNat (counted (s.at t) h)).1.evlog := by
      rw [writeRow_of_taken ht, answerTaken_evlog]
    rw [ho] at he
    obtain ⟨hnext, htotal, n, e, hentries⟩ := logEv_evlog 0x18 0 0 0 { counted (s.at t) h with
      evlog := { (counted (s.at t) h).evlog with entries := [], next := 1, run := 0 } }
    refine ⟨_, hx, ?_, ?_, ?_, exec_mem hx (by simp [footprint]), exec_boot hx (by simp [footprint])⟩
    · rw [he, hnext]
      rfl
    · rw [he, hentries]
      exact congrArg List.length (settleEv_single n e)
    · have hlog : (counted (s.at t) h).evlog.total = s.evlog.total := congrArg EvLog.total (counted_evlog h (s.at t))
      rw [he, htotal, ← hlog]
  case evClrNone =>
    have hx : exec (.devEvclr t h v) s = .next (writeRow h Ob.DEV_EVCLR v.toNat ownEvClr (s.at t)) := rfl
    exact ⟨_, hx, (writeRow_answers ht (by decide) (if_pos (by simp [hv]))).1⟩
  case activate =>
    have hx : exec (.patchActivate t h) s = .next (writeRow h Ob.SAF_PATCH_CMD 1 ownPatchCmd (s.at t)) := rfl
    have hp := patches_counted h (s.at t)
    have ho : (ownPatchCmd 1 (counted (s.at t) h)).1 = oset Ob.SAF_PATCH_STAT 2 { counted (s.at t) h with
        mgt := { (counted (s.at t) h).mgt with patchPend := true } } := by
      unfold ownPatchCmd
      rw [if_neg (by simp [hop]), if_pos rfl, if_pos ((loaded_of_patches hp).2.2.1.trans hl)]
    have hw := loaded_of_patches (patches_writeRow (own := ownPatchCmd) ht)
    rw [ho] at hw
    exact ⟨_, hx, hw.2.2.2, by rw [oget_writeRow ht (by decide), ho, oget_oset_same],
      hw.1.trans (loaded_of_patches hp).1, exec_frame_sub hx sub_ports⟩
  case activateNot =>
    have hx : exec (.patchActivate t h) s = .next (writeRow h Ob.SAF_PATCH_CMD 1 ownPatchCmd (s.at t)) := rfl
    have hp := patches_counted h (s.at t)
    have ho := ownPatchCmd_refused (v := 1) (s := counted (s.at t) h) rfl (by
      rw [(loaded_of_patches hp).2.2.1, counted_boot]
      exact hr)
    obtain ⟨hframe, hans⟩ := writeRow_answers ht (by split <;> decide) ho
    have hw := (patches_writeRow (own := ownPatchCmd) ht).trans ((congrArg (fun x => patches x.1) ho).trans hp)
    refine ⟨_, hx, (loaded_of_patches hw).2.2.2, hframe, ?_⟩
    rw [hans, counted_boot]
    rfl
  case discard =>
    have hx : exec (.patchDiscard t h) s = .next (writeRow h Ob.SAF_PATCH_CMD 2 ownPatchCmd (s.at t)) := rfl
    have hp := patches_counted h (s.at t)
    have ho : (ownPatchCmd 2 (counted (s.at t) h)).1 = oset Ob.SAF_PATCH_LDVER 0xFFFFFFFF (oset Ob.SAF_PATCH_STAT 0
        { counted (s.at t) h with
          mgt := { (counted (s.at t) h).mgt with patchFb := none, patchLoaded := false, patchPend := false } }) := by
      unfold ownPatchCmd
      rw [if_neg (by simp [hop]), if_neg (by decide), if_pos ((loaded_of_patches hp).2.2.1.trans hl)]
    have hw := loaded_of_patches (patches_writeRow (own := ownPatchCmd) ht)
    rw [ho] at hw
    refine ⟨_, hx, hw.2.2.1, hw.2.2.2, hw.2.1, ?_, hw.1.trans (loaded_of_patches hp).1, exec_frame_sub hx sub_ports⟩
    rw [oget_writeRow ht (by decide), ho, oget_oset_ne _ _ (by decide), oget_oset_same]
  case discardNot =>
    have hx : exec (.patchDiscard t h) s = .next (writeRow h Ob.SAF_PATCH_CMD 2 ownPatchCmd (s.at t)) := rfl
    have hp := patches_counted h (s.at t)
    have ho := ownPatchCmd_kept (v := 2) (s := counted (s.at t) h) rfl (by
      rw [(loaded_of_patches hp).2.2.1, counted_boot]
      exact hr)
    have hw := (patches_writeRow (own := ownPatchCmd) ht).trans ((congrArg patches ho).trans hp)
    exact ⟨_, hx, (loaded_of_patches hw).2.1, (loaded_of_patches hw).2.2.1, exec_frame_sub hx sub_ports⟩

end Sys2Proof.Machine
end

section
/-!
SUPPORT. The requests of a port: what it answers without running them (R351, R352, R359, R360), the sessions (R350) and the levels
(R369, R370).
-/

namespace Sys2Proof.Machine

open Sys2Proof

/-! ## A response is queued -/

theorem portOf_queueResp (p : Port) (r : Resp) (s : State) :
    portOf (queueResp p r s) p = { portOf s p with queue := (portOf s p).queue ++ [r] } := portOf_setPort_same _ _ _

theorem lastAnswer_congr {a s : State} (h : s.mgt = a.mgt) (p : Port) : lastAnswer s p = lastAnswer a p := by
  unfold lastAnswer
  rw [portOf_congr h]

theorem lastAnswer_queueResp (p : Port) (op : Nat) (h : Hdr) (ix sub : Nat) (a : Answer) (o : Bool) (now : Nat) (s : State)
    (hst : a.status < 256) :
    lastAnswer (queueResp p (respOf op h ix sub a o now) s) p = some (128 + op % 128, h.tag.toNat, a.status, a.data) := by
  have hone : (toBE 1 a.status).length = 1 := toBE_length 1 _
  rw [lastAnswer, portOf_queueResp, List.getLast?_concat, Option.map_some]
  simp only [respOf, List.take_left' hone, List.drop_left' hone, ofBE_toBE 1 _ hst]

theorem kept_queueResp_at (p : Port) (r : Resp) (t : Nat) (s : State) : Kept [.obj, .mgt, .pins] s (queueResp p r (s.at t)) :=
  kept_queueResp p r sub_ports (Kept.at_ _ t s)

theorem oget_queueResp {k : Nat} (p : Port) (r : Resp) (s : State) (h : k ≠ Ob.WNP_EVTPEND) :
    oget (queueResp p r s) k = oget s k := oget_setPort _ _ _ h

/-- A response that is queued and counted. -/
theorem kept_queueResp_counted (e k : Nat) (p : Port) (r : Resp) (t : Nat) (s : State) :
    Kept [.obj, .mgt, .pins] s (evc e (cnt k (queueResp p r (s.at t)))) :=
  kept_evc e (Sub.trans (by decide) fun _ => id) (kept_cnt k (Sub.trans (by decide) fun _ => id) (kept_queueResp_at p r t s))

/-! ## Requests that do not run -/

section
variable {op : Nat} {h : Hdr} {ix sub : Nat} {data : List Byte} {run : State → State × Answer} {s : State}

theorem request_unserved (hs : portServes s h.port = false ∨ portMax h.port < data.length) :
    request op h ix sub data run s = s := if_pos (by simpa using hs)

section
variable (hs : portServes s h.port = true) (hl : data.length ≤ portMax h.port)
include hs hl

theorem request_stale (hv : (portOf s h.port).active = false ∨ h.gen.toNat ≠ (portOf s h.port).gen ∨ h.gen = 0) :
    request op h ix sub data run s = evc 0xB4 (cnt (Ob.WNP_STALE + portNo h.port) s) :=
  (if_neg (by simp [hs, hl])).trans (if_pos (by simpa using hv))

variable (ha : (portOf s h.port).active = true) (hg : h.gen.toNat = (portOf s h.port).gen) (h0 : h.gen ≠ 0)
include ha hg h0

/-- A request in a session is answered by the entry that holds its tag, by a full port, or it runs. -/
theorem request_open : request op h ix sub data run s =
    match (portOf s h.port).cache.find? (fun e => decide (e.tag = h.tag.toNat) && e.live s.now) with
    | some e =>
      if e.digest = digestOf op ix sub data then
        match e.sent with
        | none => s
        | some _ => evc 0xB3 (cnt Ob.WNP_CACHEHIT (queueResp h.port { e.resp with outst := true, queued := s.now } s))
      else evc 0xB2 (cnt Ob.WNP_TAGCONF (queueResp h.port (respOf op h ix sub
        ⟨St.tagConflict, toBE 4 (digestOf op ix sub data)⟩ false s.now) s))
    | none =>
      if 64 ≤ outstanding (portOf s h.port) then
        cnt Ob.WNP_QFULL (queueResp h.port (respOf op h ix sub ⟨St.queueFull, []⟩ false s.now) s)
      else answerTaken op h ix sub data (portOf s h.port).gen (run (counted s h)) :=
  (if_neg (by simp [hs, hl])).trans (if_neg (by simpa [ha, hg] using h0))

end
end

theorem portOf_cnt (k : Nat) (s : State) (p : Port) : portOf (cnt k s) p = portOf s p := portOf_congr rfl p

/-- Every request but OPEN is served by the one rule. -/
theorem exec_request {t op : Nat} {f : Frame} {c : Instr} (s : State)
    (hc : (op, c) ∈ [(2, Instr.close t f), (3, .read t f), (4, .write t f), (5, .segInit t f), (6, .segData t f), (7, .segRead t f),
      (8, .segEnd t f), (9, .segAbort t f), (10, .challenge t f), (11, .elevate t f), (12, .drop t f)]) :
    op < 128 ∧ exec c s = .next (request op f.hdr f.index.toNat f.sub.toNat f.data
      (runRequest op f.hdr.port f.index.toNat f.sub.toNat f.data) (s.at t)) := by
  simp only [List.mem_cons, Prod.mk.injEq, List.not_mem_nil, or_false] at hc
  obtain ⟨rfl, rfl⟩ | ⟨rfl, rfl⟩ | ⟨rfl, rfl⟩ | ⟨rfl, rfl⟩ | ⟨rfl, rfl⟩ | ⟨rfl, rfl⟩ | ⟨rfl, rfl⟩ | ⟨rfl, rfl⟩ | ⟨rfl, rfl⟩ |
    ⟨rfl, rfl⟩ | ⟨rfl, rfl⟩ := hc
  all_goals exact ⟨by decide, rfl⟩

theorem stale_ne (p : Port) : Ob.WNP_STALE + portNo p ≠ Ob.WNP_EVTPEND ∧ notCounter (Ob.WNP_STALE + portNo p) = true := by
  cases p
  · exact ⟨by decide, by decide⟩
  · exact ⟨by decide, by decide⟩

/-- A stale frame is counted, and that is all. -/
theorem stale_spec (t : Nat) (p : Port) (s : State) : let s' := evc 0xB4 (cnt (Ob.WNP_STALE + portNo p) (s.at t))
    s.sameBut [.obj] s' ∧ oget s' (Ob.WNP_STALE + portNo p) = satInc 0xFFFFFFFF (oget s (Ob.WNP_STALE + portNo p)) := by
  refine ⟨(kept_evc _ (fun _ => id) (kept_cnt _ (fun _ => id) (Kept.at_ [.obj] t s))).rest, ?_⟩
  rw [oget_evc _ _ _ (stale_ne p).2, oget_cnt_same]
  rfl

/-- Settles O34: `request_open` by what the cache and the port hold. -/
theorem requestsRunOnce : Obligations.RequestsRunOnce := by
  intro t op f c s hc
  obtain ⟨hop, hx⟩ := exec_request s hc
  have hop : op % 128 = op := Nat.mod_eq_of_lt hop
  refine ⟨fun h => hx.trans (congrArg Host.Outcome.next (request_unserved h)), fun hs hl => ⟨fun hv => ?stale,
    fun ha hg h0 => ⟨fun hnone hfull => ?full, fun e he => ?held⟩⟩⟩
  case stale =>
    rw [request_stale hs hl hv] at hx
    exact ⟨_, hx, stale_spec t f.hdr.port s⟩
  case full =>
    rw [request_open hs hl ha hg h0, show (portOf (s.at t) f.hdr.port).cache.find? _ = none from hnone] at hx
    dsimp only at hx
    rw [if_pos (show 64 ≤ outstanding (portOf (s.at t) f.hdr.port) from hfull)] at hx
    refine ⟨_, hx, (kept_cnt _ (Sub.trans (by decide) fun _ => id) (kept_queueResp_at ..)).rest, ?_, ?_, ?_⟩
    · rw [lastAnswer_congr (cnt_mgt _ _), lastAnswer_queueResp _ _ _ _ _ _ _ _ _ (by decide), hop]
    · rw [portOf_cnt, portOf_queueResp]
      rfl
    · rw [oget_cnt_same, oget_queueResp _ _ _ (by decide)]
      rfl
  case held =>
    rw [request_open hs hl ha hg h0, show (portOf (s.at t) f.hdr.port).cache.find? _ = some e from he] at hx
    dsimp only at hx
    by_cases hd : e.digest = digestOf op f.index.toNat f.sub.toNat f.data
    · rw [if_pos hd] at hx
      cases hsent : e.sent with
      | none =>
        rw [hsent] at hx
        exact ⟨_, hx, (Kept.at_ _ t s).rest, rfl, rfl, rfl, fun _ _ => rfl, fun _ h => absurd rfl h, fun h => absurd hd h⟩
      | some u =>
        rw [hsent] at hx
        refine ⟨_, hx, (kept_queueResp_counted ..).rest, ?_, ?_, ?_, fun _ h => by simp at h, fun _ _ => ⟨?_, ?_⟩, fun h => absurd hd h⟩
        · rw [portOf_evc, portOf_cnt, portOf_queueResp]
          rfl
        · rw [portOf_evc, portOf_cnt, portOf_queueResp]
          rfl
        · rw [portOf_evc, portOf_cnt, portOf_queueResp]
          rfl
        · rw [portOf_evc, portOf_cnt, portOf_queueResp]
          rfl
        · rw [oget_evc _ _ _ (by decide), oget_cnt_same, oget_queueResp _ _ _ (by decide)]
          rfl
    · rw [if_neg hd] at hx
      refine ⟨_, hx, (kept_queueResp_counted ..).rest, ?_, ?_, ?_, fun h => absurd h hd, fun h => absurd h hd, fun _ => ?_⟩
      · rw [portOf_evc, portOf_cnt, portOf_queueResp]
        rfl
      · rw [portOf_evc, portOf_cnt, portOf_queueResp]
        rfl
      · rw [portOf_evc, portOf_cnt, portOf_queueResp]
        rfl
      · rw [lastAnswer_congr (evc_mgt _ _), lastAnswer_congr (cnt_mgt _ _),
          lastAnswer_queueResp _ _ _ _ _ _ _ _ _ (show St.tagConflict < 256 by decide), hop]

/-! ## The session -/

theorem abortTransfer_transfer (p : Port) (s : State) : (portOf (abortTransfer p s) p).transfer = none := by
  unfold abortTransfer
  split
  · assumption
  · next x _ => rw [portOf_congr ((frameOf (kept_transferFails x) _).mgt (by decide)), portOf_cnt, portOf_setPort_same]

/-- Nothing is left of a session that ends but what its port keeps. -/
theorem portOf_endWenip (p : Port) (s : State) : portOf (endWenip p s) p =
    { portOf (abortTransfer p s) p with active := false, level := 0, nonce := none, queue := [], cache := [], transfer := none } := by
  have hdue (a : State) (d : Option Nat) : portOf { a with mgt := { a.mgt with canDue := d } } p = portOf a p := by
    cases p
    · rfl
    · rfl
  rw [← abortTransfer_transfer p s]
  unfold endWenip
  dsimp only
  split
  · rw [hdue, portOf_setPort_same]
  · rw [portOf_setPort_same]

/-- The frame of the objects: a session that ends counts an aborted transfer. -/
theorem oget_endWenip {k : Nat} (p : Port) (s : State) (h1 : k ≠ Ob.WNP_EVTPEND) (h2 : k ≠ Ob.WNP_SEGABORT) :
    oget (endWenip p s) k = oget s k := by
  have habort : oget (abortTransfer p s) k = oget s k := by
    unfold abortTransfer
    split
    · rfl
    · next x _ =>
      rw [oget_congr ((frameOf (kept_transferFails x) _).obj (by decide)), oget_cnt_ne _ h2, oget_setPort _ _ _ h1]
  unfold endWenip
  dsimp only
  split
  · exact (oget_setPort p _ _ h1).trans habort
  · rw [oget_setPort _ _ _ h1, habort]

theorem endWenip_frame (p : Port) (s : State) : s.sameBut [.obj, .pins, .mgt, .scan, .jrn] (endWenip p s) := frameOf (kept_endWenip p) s

section
variable {t : Nat} {f : Frame} {s : State}

theorem exec_openReq_eq : exec (.openReq t f) s = .next (serveOpen f.hdr f.index.toNat f.sub.toNat f.data (s.at t)) := rfl

theorem serveOpen_unserved {h : Hdr} {ix sub : Nat} {data : List Byte}
    (hs : portServes s h.port = false ∨ portMax h.port < data.length) : serveOpen h ix sub data s = s :=
  if_pos (by simpa using hs)

/-- OPEN where its port serves it. -/
theorem serveOpen_served {h : Hdr} {ix sub : Nat} {data : List Byte} (hs : portServes s h.port = true)
    (hl : data.length ≤ portMax h.port) : serveOpen h ix sub data s =
    if h.gen ≠ 0 then evc 0xB4 (cnt (Ob.WNP_STALE + portNo h.port) s)
    else if 64 ≤ outstanding (portOf s h.port) then
      cnt Ob.WNP_QFULL (queueResp h.port (respOf 1 h ix sub ⟨St.queueFull, []⟩ false s.now) s)
    else if ix ≠ 0 ∨ sub ≠ 0 then evc (0xB0 + portNo h.port) (queueResp h.port (respOf 1 h ix sub ⟨St.noObject, []⟩ true s.now) s)
    else if data ≠ [] then evc (0xB0 + portNo h.port) (queueResp h.port (respOf 1 h ix sub ⟨St.length, []⟩ true s.now) s)
    else openSession h s := if_neg (by simp [hs, hl])

end

/-- A new session, with its response alone queued. -/
theorem openSession_spec (h : Hdr) (s : State) : let v := portOf (openSession h s) h.port
    v.active = true ∧ v.gen = nextGen (portOf s h.port).gen ∧ v.level = 0 ∧ v.transfer = none ∧ v.nonce = none ∧ v.cache = [] ∧
      v.queue.length = 1 ∧ (openSession h s).mem = s.mem ∧ v.lastReq = s.now ∧
      lastAnswer (openSession h s) h.port = some (129, h.tag.toNat, St.ok,
        toBE 4 (oget s Ob.DEV_BOOTCNT) ++ toBE 1 s.boot.op.code ++ toBE 1 0) := by
  have hv := portOf_endWenip h.port (evc (0xB0 + portNo h.port) s)
  have hf := endWenip_frame h.port (evc (0xB0 + portNo h.port) s)
  have hcnt : oget (endWenip h.port (evc (0xB0 + portNo h.port) s)) Ob.DEV_BOOTCNT = oget s Ob.DEV_BOOTCNT := by
    rw [oget_endWenip _ _ (by decide) (by decide), oget_evc _ _ _ (by decide)]
  have hop : (endWenip h.port (evc (0xB0 + portNo h.port) s)).boot = s.boot := by rw [hf.boot (by decide), evc_boot]
  have hmem : (endWenip h.port (evc (0xB0 + portNo h.port) s)).mem = s.mem := by rw [hf.mem (by decide), evc_mem]
  unfold openSession
  dsimp only
  generalize endWenip h.port (evc (0xB0 + portNo h.port) s) = a at hv hcnt hop hmem
  rw [portOf_queueResp, portOf_setPort_same, queueResp_mem, setPort_mem, hv, hmem, hcnt, hop]
  refine ⟨rfl, rfl, rfl, rfl, rfl, rfl, rfl, rfl, rfl, ?_⟩
  have hone : (toBE 1 St.ok).length = 1 := toBE_length 1 _
  rw [lastAnswer, portOf_queueResp, List.getLast?_concat, Option.map_some]
  simp only [respOf, List.take_left' hone, List.drop_left' hone, ofBE_toBE 1 _ (show St.ok < 256 ^ 1 by decide)]

/-- A response of OPEN that opens nothing: the port keeps its session. -/
theorem openRefused_spec {t e : Nat} {h : Hdr} {ix sub : Nat} {o : Bool} {s : State} (st : Nat) (hst : st < 256) :
    let s' := evc e (queueResp h.port (respOf 1 h ix sub ⟨st, []⟩ o (s.at t).now) (s.at t))
    s.sameBut [.obj, .mgt, .pins] s' ∧ lastAnswer s' h.port = some (129, h.tag.toNat, st, []) ∧
      (portOf s' h.port).gen = (portOf s h.port).gen := by
  refine ⟨(kept_evc e (Sub.trans (by decide) fun _ => id) (kept_queueResp_at _ _ t s)).rest, ?_, ?_⟩
  · rw [lastAnswer_congr (evc_mgt _ _), lastAnswer_queueResp _ _ _ _ _ _ _ _ _ hst]
  · rw [portOf_evc, portOf_queueResp]
    rfl

/-- Settles O30: `serveOpen_served` by what the frame and the port hold, and `endWenip_spec` for CLOSE. -/
theorem sessionsOpenAndClose : Obligations.SessionsOpenAndClose := by
  intro t f s
  have hz : f.index.toNat = 0 ↔ f.index = 0 := by simp [BitVec.toNat_eq]
  have hzs : f.sub.toNat = 0 ↔ f.sub = 0 := by simp [BitVec.toNat_eq]
  refine ⟨fun h1 h2 h3 hs hg ho => ?opens, fun h => congrArg Host.Outcome.next (serveOpen_unserved h),
    fun hs hl => ⟨fun hg => ?stale, fun hg ho => ?full, fun hg ho hi => ?named, fun hg ho h1 h2 h3 => ?length⟩,
    fun h1 h2 h3 ht => ?closes⟩
  case opens =>
    have hx : exec (.openReq t f) s = .next (openSession f.hdr (s.at t)) := by
      rw [exec_openReq_eq, serveOpen_served hs (by simp [h3]), if_neg (by simpa using hg),
        if_neg (show ¬ 64 ≤ outstanding (portOf (s.at t) f.hdr.port) from Nat.not_le.2 ho), if_neg (by simp [h1, h2]), if_neg (by simpa using h3)]
    exact ⟨_, hx, openSession_spec f.hdr (s.at t)⟩
  case stale =>
    have hx : exec (.openReq t f) s = .next (evc 0xB4 (cnt (Ob.WNP_STALE + portNo f.hdr.port) (s.at t))) := by
      rw [exec_openReq_eq, serveOpen_served hs hl, if_pos hg]
    exact ⟨_, hx, stale_spec t f.hdr.port s⟩
  case full =>
    have hx : exec (.openReq t f) s = .next (cnt Ob.WNP_QFULL (queueResp f.hdr.port
        (respOf 1 f.hdr f.index.toNat f.sub.toNat ⟨St.queueFull, []⟩ false (s.at t).now) (s.at t))) := by
      rw [exec_openReq_eq, serveOpen_served hs hl, if_neg (by simpa using hg),
        if_pos (show 64 ≤ outstanding (portOf (s.at t) f.hdr.port) from ho)]
    refine ⟨_, hx, ?_, (kept_cnt _ (Sub.trans (by decide) fun _ => id) (kept_queueResp_at ..)).rest, ?_⟩
    · rw [lastAnswer_congr (cnt_mgt _ _), lastAnswer_queueResp _ _ _ _ _ _ _ _ _ (by decide)]
    · rw [portOf_cnt, portOf_queueResp]
      rfl
  case named =>
    have hx : exec (.openReq t f) s = .next (evc (0xB0 + portNo f.hdr.port) (queueResp f.hdr.port
        (respOf 1 f.hdr f.index.toNat f.sub.toNat ⟨St.noObject, []⟩ true (s.at t).now) (s.at t))) := by
      rw [exec_openReq_eq, serveOpen_served hs hl, if_neg (by simpa using hg),
        if_neg (show ¬ 64 ≤ outstanding (portOf (s.at t) f.hdr.port) from Nat.not_le.2 ho), if_pos (by rwa [Ne, hz, Ne, hzs])]
    exact ⟨_, hx, openRefused_spec St.noObject (by decide)⟩
  case length =>
    have hx : exec (.openReq t f) s = .next (evc (0xB0 + portNo f.hdr.port) (queueResp f.hdr.port
        (respOf 1 f.hdr f.index.toNat f.sub.toNat ⟨St.length, []⟩ true (s.at t).now) (s.at t))) := by
      rw [exec_openReq_eq, serveOpen_served hs hl, if_neg (by simpa using hg),
        if_neg (show ¬ 64 ≤ outstanding (portOf (s.at t) f.hdr.port) from Nat.not_le.2 ho), if_neg (by simp [h1, h2]), if_pos h3]
    exact ⟨_, hx, openRefused_spec St.length (by decide)⟩
  case closes =>
    have hop : (counted (s.at t) f.hdr).boot.op ≠ .boot := by
      rw [counted_boot]
      simp only [taken, portServes, Bool.and_eq_true, decide_eq_true_eq] at ht
      exact ht.1.1.1.1.1.1.1.1.2
    have hx : exec (.close t f) s = .next (queueResp f.hdr.port (respOf 2 f.hdr f.index.toNat f.sub.toNat ⟨St.ok, []⟩ true
        (endWenip f.hdr.port (counted (s.at t) f.hdr)).now) (endWenip f.hdr.port (counted (s.at t) f.hdr))) := by
      rw [(exec_request (t := t) (f := f) (op := 2) (c := .close t f) s (by simp)).2, request_taken _ _ _ _ _ _ _ (by rw [h3]; exact ht)]
      have hrun : runRequest 2 f.hdr.port f.index.toNat f.sub.toNat f.data (counted (s.at t) f.hdr) =
          (endWenip f.hdr.port (counted (s.at t) f.hdr), ⟨St.ok, []⟩) :=
        (if_neg (by simp [h1, h2])).trans (if_neg (by simpa using h3))
      have hact := congrArg PortState.active (portOf_endWenip f.hdr.port (counted (s.at t) f.hdr))
      rw [hrun]
      unfold answerTaken
      dsimp only at hact ⊢
      rw [if_neg (by simp [hact]), if_pos ⟨rfl, by rw [(endWenip_frame _ _).boot (by decide)]; exact hop⟩]
    have hmem : (endWenip f.hdr.port (counted (s.at t) f.hdr)).mem = s.mem := by
      rw [(endWenip_frame _ _).mem (by decide), counted_mem]
      rfl
    refine ⟨_, hx, ?_⟩
    rw [portOf_queueResp, portOf_endWenip, queueResp_mem, hmem, lastAnswer_queueResp _ _ _ _ _ _ _ _ _ (by decide)]
    exact ⟨rfl, rfl, rfl, rfl, rfl, rfl, rfl, rfl⟩

end Sys2Proof.Machine
end

section
/-!
SUPPORT. The levels of a session (R354, R369, R370): what CHALLENGE, ELEVATE and DROP answer, and what they leave of the port.
-/

namespace Sys2Proof.Machine

open Sys2Proof

/-! ## A request that is taken -/

section
variable {t op : Nat} {f : Frame} {s : State}

theorem exec_request_taken {c : Instr} (ht : taken (s.at t) f.hdr f.data.length = true)
    (hc : (op, c) ∈ [(2, Instr.close t f), (3, .read t f), (4, .write t f), (5, .segInit t f), (6, .segData t f), (7, .segRead t f),
      (8, .segEnd t f), (9, .segAbort t f), (10, .challenge t f), (11, .elevate t f), (12, .drop t f)]) :
    exec c s = .next (answerTaken op f.hdr f.index.toNat f.sub.toNat f.data (portOf (s.at t) f.hdr.port).gen
      (runRequest op f.hdr.port f.index.toNat f.sub.toNat f.data (counted (s.at t) f.hdr))) := by
  rw [(exec_request s hc).2, request_taken _ _ _ _ _ _ _ ht]

/-- A port whose session the run of a request has left open. -/
def keepsSession (p : Port) (a : State) (s : State) : Prop :=
  (portOf s p).active = (portOf a p).active ∧ (portOf s p).gen = (portOf a p).gen

/-- The answer to a request that leaves its session open. -/
theorem answered_spec {n : Nat} {ix sub : Nat} {data : List Byte} {sa : State × Answer} (ht : taken (s.at t) f.hdr n = true)
    (hk : keepsSession f.hdr.port (counted (s.at t) f.hdr) sa.1) (hst : sa.2.status < 256) :
    let s' := answerTaken op f.hdr ix sub data (portOf (s.at t) f.hdr.port).gen sa
    lastAnswer s' f.hdr.port = some (128 + op % 128, f.hdr.tag.toNat, sa.2.status, sa.2.data) ∧
      (portOf s' f.hdr.port).level = (portOf sa.1 f.hdr.port).level ∧
      (portOf s' f.hdr.port).nonce = (portOf sa.1 f.hdr.port).nonce ∧
      (portOf s' f.hdr.port).auths = (portOf sa.1 f.hdr.port).auths ∧
      (portOf s' f.hdr.port).transfer = (portOf sa.1 f.hdr.port).transfer := by
  obtain ⟨ha, hg⟩ := hk
  rw [portOf_counted] at ha hg
  have hact := ha.trans (active_of_taken ht)
  obtain ⟨cache, hp⟩ := answerTaken_of_open (op := op) (ix := ix) (sub := sub) (data := data) hact hg
  refine ⟨lastAnswer_answerTaken_of_open hact hg hst, ?_⟩
  rw [hp, portOf_setPort_same]
  exact ⟨rfl, rfl, rfl, rfl⟩

/-- A request that is answered and does nothing else. -/
theorem answered_only {n st : Nat} {ix sub : Nat} {data d : List Byte} (ht : taken (s.at t) f.hdr n = true) (hst : st < 256) :
    let s' := answerTaken op f.hdr ix sub data (portOf (s.at t) f.hdr.port).gen (counted (s.at t) f.hdr, ⟨st, d⟩)
    s.sameBut [.obj, .mgt, .pins] s' ∧ lastAnswer s' f.hdr.port = some (128 + op % 128, f.hdr.tag.toNat, st, d) ∧
      (portOf s' f.hdr.port).level = (portOf s f.hdr.port).level ∧ (portOf s' f.hdr.port).nonce = (portOf s f.hdr.port).nonce ∧
      (portOf s' f.hdr.port).transfer = (portOf s f.hdr.port).transfer := by
  obtain ⟨h1, h2, h3, -, h5⟩ := answered_spec (op := op) (ix := ix) (sub := sub) (data := data)
    (sa := (counted (s.at t) f.hdr, ⟨st, d⟩)) ht ⟨rfl, rfl⟩ hst
  refine ⟨(kept_answerTaken _ _ _ _ _ _ sub_ports (keptP_mk (kept_counted_at f.hdr t s))).rest, h1, h2.trans ?_, h3.trans ?_,
    h5.trans ?_⟩
  iterate 3
    rw [portOf_counted]
    rfl

end

/-! ## An authentication that fails -/

theorem portOf_pendEvt (b : Nat) (s : State) (p : Port) : portOf (pendEvt b s) p = portOf s p := by
  have hr (a : State) : portOf (refreshEvt a) p = portOf a p := portOf_congr (by unfold refreshEvt; dsimp only; split <;> rfl) p
  unfold pendEvt
  dsimp only
  rw [hr]
  cases p
  · split <;> rfl
  · split <;> rfl

theorem portOf_logEv (code sev bands data : Nat) (s : State) (p : Port) : portOf (logEv code sev bands data s) p = portOf s p := by
  unfold logEv
  dsimp only
  rw [portOf_pendEvt, portOf_evc]
  exact portOf_congr rfl p

theorem authFailed_spec (p : Port) (s : State) : let v := portOf (authFailed p s).1 p
    v.active = (portOf s p).active ∧ v.gen = (portOf s p).gen ∧ v.level = (portOf s p).level ∧ v.nonce = (portOf s p).nonce ∧
      (authFailed p s).2 = ⟨St.auth, []⟩ := by
  have h1 : portOf (evc 0xB6 (pendEvt 6 (cnt Ob.ACC_FAILS s))) p = portOf s p := by
    rw [portOf_evc, portOf_pendEvt, portOf_cnt]
  unfold authFailed
  dsimp only
  rw [h1]
  split
  · rw [portOf_setPort_same]
    exact ⟨rfl, rfl, rfl, rfl, rfl⟩
  · rw [portOf_logEv, portOf_cnt, portOf_setPort_same]
    exact ⟨rfl, rfl, rfl, rfl, rfl⟩

theorem kept_authFailed_at {m : List Part} {s0 s : State} (p : Port) (hm : Sub [.obj, .pins, .evlog, .mgt, .jrn] m)
    (h : Kept m s0 s) : Kept m s0 (authFailed p s).1 := kept_authFailed p hm h

/-! ## What the levels depend on is not counted -/

theorem challengeBlocked_counted (h : Hdr) (s : State) : challengeBlocked (counted s h) h.port = challengeBlocked s h.port := by
  unfold challengeBlocked
  rw [portOf_counted, counted_now]

theorem keyOfLevel_counted (h : Hdr) (s : State) (level : Nat) : keyOfLevel (counted s h) level = keyOfLevel s level := by
  unfold keyOfLevel dget
  rw [counted_boot, counted_dom]

theorem macMatches_counted (h : Hdr) (s : State) (level : Nat) (mac : List Byte) :
    macMatches (counted s h) h.port level mac = macMatches s h.port level mac := by
  unfold macMatches
  rw [portOf_counted, keyOfLevel_counted, counted_now]

/-! ## The bytes of a request -/

theorem ofBE_singleton (b : Byte) : ofBE [b] = b.toNat := by simp [ofBE]

/-! ## CHALLENGE, ELEVATE and DROP -/

section
variable {p : Port} {data : List Byte} {s : State}

theorem runChallenge_length (h : data.length ≠ 1) : runChallenge p data s = (s, ⟨St.length, []⟩) := if_pos h

/-- The nonce that a CHALLENGE keeps. -/
def newNonce (level : Nat) (s : State) : Nonce := ⟨toBE 16 (freeOf s), level, s.now⟩

theorem one_byte (b : Byte) : ¬ [b].length ≠ 1 := by simp

theorem runChallenge_range {b : Byte} (h : b.toNat < 1 ∨ 3 < b.toNat) : runChallenge p [b] s = (s, ⟨St.range, []⟩) := by
  unfold runChallenge
  rw [if_neg (one_byte b), ofBE_singleton, if_pos h]

section
variable {b : Byte} (h1 : 1 ≤ b.toNat) (h3 : b.toNat ≤ 3)
include h1 h3

theorem runChallenge_blocked (hb : challengeBlocked s p = true) :
    runChallenge p [b] s = (pendEvt 6 s, ⟨St.authLockout, []⟩) := by
  unfold runChallenge
  rw [if_neg (one_byte b), ofBE_singleton, if_neg (by omega), if_pos hb]

theorem runChallenge_noKey (hb : challengeBlocked s p = false) (hk : keyOfLevel s b.toNat = none) :
    runChallenge p [b] s = authFailed p s := by
  unfold runChallenge
  rw [if_neg (one_byte b), ofBE_singleton, if_neg (by omega), if_neg (by simp [hb]), if_pos hk]

theorem runChallenge_nonce (hb : challengeBlocked s p = false) (hk : keyOfLevel s b.toNat ≠ none) :
    runChallenge p [b] s = (setPort p { portOf s p with nonce := some (newNonce b.toNat s) } (tookFree s),
      ⟨St.ok, toBE 16 (freeOf s)⟩) := by
  unfold runChallenge
  rw [if_neg (one_byte b), ofBE_singleton, if_neg (by omega), if_neg (by simp [hb]), if_neg hk]
  rfl

end

theorem runElevate_length (h : data.length ≠ 36) : runElevate p data s = (s, ⟨St.length, []⟩) := if_pos h

theorem runElevate_range (h : data.length = 36)
    (hr : ofBE (data.take 1) < 1 ∨ 3 < ofBE (data.take 1) ∨ ofBE ((data.drop 1).take 3) ≠ 0) :
    runElevate p data s = (s, ⟨St.range, []⟩) := (if_neg (by simp [h])).trans (if_pos hr)

theorem runElevate_checked {b : Byte} {mac : List Byte} (hm : mac.length = 32) (h1 : 1 ≤ b.toNat) (h3 : b.toNat ≤ 3) :
    runElevate p (b :: 0#8 :: 0#8 :: 0#8 :: mac) s =
      if macMatches s p b.toNat mac then
        (setPort p { portOf s p with nonce := none, level := b.toNat, auths := 0 } (setPort p { portOf s p with nonce := none } s),
          ⟨St.ok, []⟩)
      else authFailed p (setPort p { portOf s p with nonce := none } s) := by
  have hb : ofBE (List.take 1 (b :: 0#8 :: 0#8 :: 0#8 :: mac)) = b.toNat := ofBE_singleton b
  unfold runElevate
  dsimp only
  rw [if_neg (by simp [hm]), hb, if_neg]
  · rw [portOf_setPort_same]
    rfl
  · rintro (h | h | h)
    · omega
    · omega
    · exact h rfl

theorem runDrop_length (h : data.length ≠ 1) : runDrop p data s = (s, ⟨St.length, []⟩) := if_pos h

theorem runDrop_range {b : Byte} (h : 3 < b.toNat) : runDrop p [b] s = (s, ⟨St.range, []⟩) := by
  unfold runDrop
  rw [if_neg (one_byte b), ofBE_singleton, if_pos h]

theorem runDrop_above {b : Byte} (h3 : b.toNat ≤ 3) (h : (portOf s p).level < b.toNat) :
    runDrop p [b] s = (s, ⟨St.refused, []⟩) := by
  unfold runDrop
  rw [if_neg (one_byte b), ofBE_singleton, if_neg (by omega), if_pos h]

theorem runDrop_to {b : Byte} (h3 : b.toNat ≤ 3) (h : b.toNat ≤ (portOf s p).level) :
    runDrop p [b] s = (setPort p { portOf s p with level := b.toNat } s, ⟨St.ok, []⟩) := by
  unfold runDrop
  rw [if_neg (one_byte b), ofBE_singleton, if_neg (by omega), if_neg (by omega)]

/-- An opcode outside the table. -/
theorem runRequest_undefined {op ix sub : Nat} (h : op = 0 ∨ 12 < op) :
    runRequest op p ix sub data s = (s, ⟨St.opcode, []⟩) := by
  unfold runRequest
  split <;> first | omega | rfl

end

section
variable {t : Nat} {f : Frame} {s : State}

theorem keepsSession_setPort {v : PortState} {p : Port} {a b : State} (h1 : v.active = (portOf a p).active)
    (h2 : v.gen = (portOf a p).gen) : keepsSession p a (setPort p v b) := by
  unfold keepsSession
  rw [portOf_setPort_same]
  exact ⟨h1, h2⟩

/-- Settles O33: each request by its own checks, in their order. -/
theorem levelsAreEarned : Obligations.LevelsAreEarned := by
  intro t f s
  have hz : f.index.toNat = 0 ↔ f.index = 0 := by simp [BitVec.toNat_eq]
  have hzs : f.sub.toNat = 0 ↔ f.sub = 0 := by simp [BitVec.toNat_eq]
  refine ⟨fun n c hc => ?served, fun ht => ⟨fun op hop => ?opcode, fun n c hc hi => ?named, fun h1 h2 => ?run⟩⟩
  case served =>
    simp only [List.mem_cons, Prod.mk.injEq, List.not_mem_nil, or_false] at hc
    obtain ⟨rfl, rfl⟩ | ⟨rfl, rfl⟩ | ⟨rfl, rfl⟩ | ⟨rfl, rfl⟩ | ⟨rfl, rfl⟩ | ⟨rfl, rfl⟩ | ⟨rfl, rfl⟩ | ⟨rfl, rfl⟩ | ⟨rfl, rfl⟩ |
      ⟨rfl, rfl⟩ | ⟨rfl, rfl⟩ | ⟨rfl, rfl⟩ := hc
    all_goals rfl
  case opcode =>
    have hne : op.toNat = 0 ∨ 12 < op.toNat := hop.imp (fun h => by simp [h]) id
    have hx : exec (.undefinedOpcode t op f) s = .next (request op.toNat f.hdr f.index.toNat f.sub.toNat f.data
        (runRequest op.toNat f.hdr.port f.index.toNat f.sub.toNat f.data) (s.at t)) :=
      congrArg Host.Outcome.next (if_neg (by omega))
    rw [request_taken _ _ _ _ _ _ _ ht, runRequest_undefined hne] at hx
    obtain ⟨hf, hl, -⟩ := answered_only (op := op.toNat) (ix := f.index.toNat) (sub := f.sub.toNat) (data := f.data) (d := []) ht
      (show St.opcode < 256 by decide)
    exact ⟨_, hx, hl, hf⟩
  case named =>
    have hi : f.index.toNat ≠ 0 ∨ f.sub.toNat ≠ 0 := by rwa [Ne, hz, Ne, hzs]
    have hx := exec_request_taken (c := c) (op := n) ht (by
      simp only [List.mem_cons, List.not_mem_nil, or_false] at hc ⊢
      tauto)
    have hrun : n < 128 ∧ runRequest n f.hdr.port f.index.toNat f.sub.toNat f.data (counted (s.at t) f.hdr) =
        (counted (s.at t) f.hdr, ⟨St.noObject, []⟩) := by
      simp only [List.mem_cons, Prod.mk.injEq, List.not_mem_nil, or_false] at hc
      obtain ⟨rfl, -⟩ | ⟨rfl, -⟩ | ⟨rfl, -⟩ := hc
      all_goals exact ⟨by decide, if_pos hi⟩
    rw [hrun.2] at hx
    obtain ⟨hf, hl, -⟩ := answered_only (op := n) (ix := f.index.toNat) (sub := f.sub.toNat) (data := f.data) (d := []) ht
      (show St.noObject < 256 by decide)
    rw [Nat.mod_eq_of_lt hrun.1] at hl
    exact ⟨_, hx, hf, hl⟩
  case run =>
    have hobj : ¬ (f.index.toNat ≠ 0 ∨ f.sub.toNat ≠ 0) := by rw [Ne, hz, Ne, hzs]; tauto
    have hch : exec (.challenge t f) s = .next (answerTaken 10 f.hdr f.index.toNat f.sub.toNat f.data
        (portOf (s.at t) f.hdr.port).gen (runChallenge f.hdr.port f.data (counted (s.at t) f.hdr))) :=
      (exec_request_taken (op := 10) ht (by simp)).trans (congrArg (fun sa => Host.Outcome.next (answerTaken 10 f.hdr f.index.toNat
        f.sub.toNat f.data (portOf (s.at t) f.hdr.port).gen sa)) (if_neg hobj))
    have hel : exec (.elevate t f) s = .next (answerTaken 11 f.hdr f.index.toNat f.sub.toNat f.data
        (portOf (s.at t) f.hdr.port).gen (runElevate f.hdr.port f.data (counted (s.at t) f.hdr))) :=
      (exec_request_taken (op := 11) ht (by simp)).trans (congrArg (fun sa => Host.Outcome.next (answerTaken 11 f.hdr f.index.toNat
        f.sub.toNat f.data (portOf (s.at t) f.hdr.port).gen sa)) (if_neg hobj))
    have hdr : exec (.drop t f) s = .next (answerTaken 12 f.hdr f.index.toNat f.sub.toNat f.data
        (portOf (s.at t) f.hdr.port).gen (runDrop f.hdr.port f.data (counted (s.at t) f.hdr))) :=
      (exec_request_taken (op := 12) ht (by simp)).trans (congrArg (fun sa => Host.Outcome.next (answerTaken 12 f.hdr f.index.toNat
        f.sub.toNat f.data (portOf (s.at t) f.hdr.port).gen sa)) (if_neg hobj))
    have hkc := kept_counted_at f.hdr t s
    have hlev : (portOf (counted (s.at t) f.hdr) f.hdr.port).level = (portOf s f.hdr.port).level ∧
        (portOf (counted (s.at t) f.hdr) f.hdr.port).nonce = (portOf s f.hdr.port).nonce := by
      rw [portOf_counted]
      exact ⟨rfl, rfl⟩
    refine ⟨fun level hd h1 h3 => ⟨fun hb hk => ?nonce, fun hb => ?blocked, fun hb hk => ?noKey⟩, fun level hd hr => ?chRange,
      fun level mac hd hm h1 h3 => ⟨fun hmac => ?elevated, fun hmac => ?badMac⟩, fun hl hr => ?elRange, fun hl => ?elLength,
      fun hl => ⟨?chLength, ?drLength⟩, fun level hd => ⟨fun h3 hle => ?dropped, fun h3 hlt => ?tooHigh, fun h3 => ?drRange⟩⟩
    case nonce =>
      rw [hd, runChallenge_nonce h1 h3 (by rw [challengeBlocked_counted]; exact hb) (by rw [keyOfLevel_counted]; exact hk)] at hch
      obtain ⟨hl, hv, hn, -⟩ := answered_spec (op := 10) (ix := f.index.toNat) (sub := f.sub.toNat) (data := [level])
        (sa := (setPort f.hdr.port { portOf (counted (s.at t) f.hdr) f.hdr.port with
            nonce := some (newNonce level.toNat (counted (s.at t) f.hdr)) } (tookFree (counted (s.at t) f.hdr)),
          ⟨St.ok, toBE 16 (freeOf (counted (s.at t) f.hdr))⟩)) ht (keepsSession_setPort rfl rfl) (show St.ok < 256 by decide)
      have hfree : freeOf (counted (s.at t) f.hdr) = freeOf s := by
        unfold freeOf
        rw [counted_free]
        rfl
      dsimp only at hl hv hn
      rw [portOf_setPort_same] at hv hn
      have hnonce : newNonce level.toNat (counted (s.at t) f.hdr) = ⟨toBE 16 (freeOf s), level.toNat, (s.at t).now⟩ := by
        unfold newNonce
        rw [hfree, counted_now]
      refine ⟨_, hch, hn.trans (congrArg some hnonce), hv.trans hlev.1, hl.trans (by rw [hfree]),
        (kept_answerTaken _ _ _ _ _ _ (Sub.trans (by decide) fun _ => id)
        (keptP_mk (kept_setPort _ _ (Sub.trans (by decide) fun _ => id) (kept_tookFree (Sub.trans (by decide) fun _ => id)
          (kept_counted f.hdr (Sub.trans (by decide) fun _ => id) (Kept.at_ _ t s)))))).rest⟩
    case blocked =>
      rw [hd, runChallenge_blocked h1 h3 (by rw [challengeBlocked_counted]; exact hb)] at hch
      obtain ⟨hl, hv, hn, -⟩ := answered_spec (op := 10) (ix := f.index.toNat) (sub := f.sub.toNat) (data := [level])
        (sa := (pendEvt 6 (counted (s.at t) f.hdr), ⟨St.authLockout, []⟩)) ht
        (by unfold keepsSession; rw [portOf_pendEvt]; exact ⟨rfl, rfl⟩) (show St.authLockout < 256 by decide)
      rw [portOf_pendEvt] at hn
      exact ⟨_, hch, hl, hn.trans hlev.2, (kept_answerTaken _ _ _ _ _ _ sub_ports (keptP_mk (kept_pendEvt 6 sub_ports hkc))).rest⟩
    case noKey =>
      rw [hd, runChallenge_noKey h1 h3 (by rw [challengeBlocked_counted]; exact hb) (by rw [keyOfLevel_counted]; exact hk)] at hch
      obtain ⟨ha, hg, hv, hn, hans⟩ := authFailed_spec f.hdr.port (counted (s.at t) f.hdr)
      have hst : (authFailed f.hdr.port (counted (s.at t) f.hdr)).2.status < 256 := by rw [hans]; decide
      obtain ⟨hl, hv', hn', -⟩ := answered_spec (op := 10) (ix := f.index.toNat) (sub := f.sub.toNat) (data := [level])
        (sa := authFailed f.hdr.port (counted (s.at t) f.hdr)) ht ⟨ha, hg⟩ hst
      have hf := (kept_authFailed (m := [.obj, .pins, .evlog, .mgt, .jrn]) f.hdr.port (fun _ => id)
        (kept_counted f.hdr (Sub.trans (by decide) fun _ => id) (Kept.at_ _ t s))).rest
      rw [hans] at hl
      refine ⟨_, hch, hl, hv'.trans (hv.trans hlev.1), hn'.trans (hn.trans hlev.2), ?_, ?_⟩
      · rw [answerTaken_mem, hf.mem (by decide)]
      · rw [answerTaken_pnl, hf.pnl (by decide)]
    case chRange =>
      have hr' : level.toNat < 1 ∨ 3 < level.toNat := hr.imp (fun h => by simp [h]) id
      rw [hd, runChallenge_range hr'] at hch
      obtain ⟨hf, hl, -⟩ := answered_only (op := 10) (ix := f.index.toNat) (sub := f.sub.toNat) (data := [level]) (d := []) ht
        (show St.range < 256 by decide)
      exact ⟨_, hch, hl, hf⟩
    case elevated =>
      rw [hd, runElevate_checked hm h1 h3, if_pos (by rw [macMatches_counted]; exact hmac)] at hel
      obtain ⟨hl, hv, hn, hau, -⟩ := answered_spec (op := 11) (ix := f.index.toNat) (sub := f.sub.toNat)
        (data := level :: 0#8 :: 0#8 :: 0#8 :: mac) (sa := (setPort f.hdr.port { portOf (counted (s.at t) f.hdr) f.hdr.port with
          nonce := none, level := level.toNat, auths := 0 } (setPort f.hdr.port { portOf (counted (s.at t) f.hdr) f.hdr.port with
          nonce := none } (counted (s.at t) f.hdr)), ⟨St.ok, []⟩)) ht (keepsSession_setPort rfl rfl) (show St.ok < 256 by decide)
      dsimp only at hv hn hau
      rw [portOf_setPort_same] at hv hn hau
      exact ⟨_, hel, hv, hn, hau, hl, (kept_answerTaken _ _ _ _ _ _ sub_ports (keptP_mk (kept_setPort _ _ sub_ports
        (kept_setPort _ _ sub_ports hkc)))).rest⟩
    case badMac =>
      rw [hd, runElevate_checked hm h1 h3, if_neg (by rw [macMatches_counted, hmac]; decide)] at hel
      generalize hs1 : setPort f.hdr.port { portOf (counted (s.at t) f.hdr) f.hdr.port with nonce := none }
        (counted (s.at t) f.hdr) = a at hel
      have hp : portOf a f.hdr.port = { portOf (counted (s.at t) f.hdr) f.hdr.port with nonce := none } := by
        rw [← hs1, portOf_setPort_same]
      obtain ⟨ha, hg, hv, hn, hans⟩ := authFailed_spec f.hdr.port a
      have hst : (authFailed f.hdr.port a).2.status < 256 := by rw [hans]; decide
      rw [hp] at ha hg hv hn
      obtain ⟨hl, hv', hn', -⟩ := answered_spec (op := 11) (ix := f.index.toNat) (sub := f.sub.toNat)
        (data := level :: 0#8 :: 0#8 :: 0#8 :: mac) (sa := authFailed f.hdr.port a) ht ⟨ha, hg⟩ hst
      have hka : Kept [.obj, .pins, .evlog, .mgt, .jrn] s a := by
        rw [← hs1]
        exact kept_setPort _ _ (Sub.trans (by decide) fun _ => id)
          (kept_counted f.hdr (Sub.trans (by decide) fun _ => id) (Kept.at_ _ t s))
      have hf := (kept_authFailed (m := [.obj, .pins, .evlog, .mgt, .jrn]) f.hdr.port (fun _ => id) hka).rest
      rw [hans] at hl
      refine ⟨_, hel, hv'.trans (hv.trans hlev.1), hn'.trans hn, hl, ?_, ?_, ?_⟩
      · rw [answerTaken_mem, hf.mem (by decide)]
      · rw [answerTaken_boot, hf.boot (by decide)]
      · rw [answerTaken_pnl, hf.pnl (by decide)]
    case elRange =>
      rw [runElevate_range hl hr] at hel
      obtain ⟨hf, hl, -, hn, -⟩ := answered_only (op := 11) (ix := f.index.toNat) (sub := f.sub.toNat) (data := f.data) (d := []) ht
        (show St.range < 256 by decide)
      exact ⟨_, hel, hf, hl, hn⟩
    case elLength =>
      rw [runElevate_length hl] at hel
      obtain ⟨hf, hl, -, hn, -⟩ := answered_only (op := 11) (ix := f.index.toNat) (sub := f.sub.toNat) (data := f.data) (d := []) ht
        (show St.length < 256 by decide)
      exact ⟨_, hel, hf, hl, hn⟩
    case chLength =>
      rw [runChallenge_length hl] at hch
      obtain ⟨hf, hl, -⟩ := answered_only (op := 10) (ix := f.index.toNat) (sub := f.sub.toNat) (data := f.data) (d := []) ht
        (show St.length < 256 by decide)
      exact ⟨_, hch, hf, hl⟩
    case drLength =>
      rw [runDrop_length hl] at hdr
      obtain ⟨hf, hl, -⟩ := answered_only (op := 12) (ix := f.index.toNat) (sub := f.sub.toNat) (data := f.data) (d := []) ht
        (show St.length < 256 by decide)
      exact ⟨_, hdr, hf, hl⟩
    case dropped =>
      rw [hd, runDrop_to h3 (by rw [hlev.1]; exact hle)] at hdr
      obtain ⟨hl, hv, -⟩ := answered_spec (op := 12) (ix := f.index.toNat) (sub := f.sub.toNat) (data := [level])
        (sa := (setPort f.hdr.port { portOf (counted (s.at t) f.hdr) f.hdr.port with level := level.toNat }
          (counted (s.at t) f.hdr), ⟨St.ok, []⟩)) ht (keepsSession_setPort rfl rfl) (show St.ok < 256 by decide)
      dsimp only at hv
      rw [portOf_setPort_same] at hv
      exact ⟨_, hdr, hv, hl, (kept_answerTaken _ _ _ _ _ _ sub_ports (keptP_mk (kept_setPort _ _ sub_ports hkc))).rest⟩
    case tooHigh =>
      rw [hd, runDrop_above h3 (by rw [hlev.1]; exact hlt)] at hdr
      obtain ⟨hf, hl, hv, -⟩ := answered_only (op := 12) (ix := f.index.toNat) (sub := f.sub.toNat) (data := [level]) (d := []) ht
        (show St.refused < 256 by decide)
      exact ⟨_, hdr, hl, hv, hf⟩
    case drRange =>
      rw [hd, runDrop_range h3] at hdr
      obtain ⟨hf, hl, hv, -⟩ := answered_only (op := 12) (ix := f.index.toNat) (sub := f.sub.toNat) (data := [level]) (d := []) ht
        (show St.range < 256 by decide)
      exact ⟨_, hdr, hl, hv, hf⟩

end

end Sys2Proof.Machine
end

section
/-!
SUPPORT. VCORE and its requests to the regulator (R23, R447 to R450): what a request, its end and its failure leave.
-/

namespace Sys2Proof.Machine

open Sys2Proof

/-! ## The value in force -/

theorem askVcore_vack (mv : Nat) (s : State) : (askVcore mv s).pwr.vack = s.pwr.vack := by
  unfold askVcore
  split
  · rfl
  · rfl

theorem stepGoal_vack (s : State) : (stepGoal s).pwr.vack = s.pwr.vack := by
  unfold stepGoal
  split
  · rfl
  · split
    · exact askVcore_vack _ _
    · split
      · split
        · rfl
        · exact askVcore_vack _ _
      · rfl

theorem raiseVcore_vack (s : State) : (raiseVcore s).pwr.vack = s.pwr.vack := by
  unfold raiseVcore
  split
  · split
    · rfl
    · rfl
  · split
    · exact askVcore_vack _ _
    · rfl

/-- OPERATION touches what went out on PMBus alone. -/
theorem sendOperation_spec (s : State) : ∃ sent out, sendOperation s = { s with pwr := { s.pwr with operSent := sent, pmbOut := out } } := by
  unfold sendOperation
  split
  · exact ⟨_, _, rfl⟩
  · exact ⟨_, _, rfl⟩

theorem pmbNext_vack (s : State) : (pmbNext s).pwr.vack = s.pwr.vack := by
  obtain ⟨sent, out, hs⟩ := sendOperation_spec { s with pwr := { s.pwr with pmbFree := s.now + 10000 } }
  have hv : (sendOperation { s with pwr := { s.pwr with pmbFree := s.now + 10000 } }).pwr.vack = s.pwr.vack := by rw [hs]
  unfold pmbNext
  dsimp only
  generalize sendOperation { s with pwr := { s.pwr with pmbFree := s.now + 10000 } } = a at hv
  rw [← hv]
  split
  · exact raiseVcore_vack _
  · split
    · exact stepGoal_vack a
    · split
      · exact raiseVcore_vack a
      · rfl

/-- The regulator is idle where nothing waits for a step. -/
theorem pmbNext_idle {s : State} (h1 : s.pwr.raiseDue = false) (h2 : s.pwr.goal = none) (h3 : slackShort s = false) :
    ∃ sent out, pmbNext s = { s with pwr := { s.pwr with pmbFree := s.now + 10000, operSent := sent, pmbOut := out } } := by
  obtain ⟨sent, out, hs⟩ := sendOperation_spec { s with pwr := { s.pwr with pmbFree := s.now + 10000 } }
  refine ⟨sent, out, ?_⟩
  unfold pmbNext
  rw [hs]
  dsimp only
  rw [if_neg (by simp [h1]), if_neg (by simp [h2])]
  exact if_neg fun h => Bool.false_ne_true (h3.symm.trans h)

/-- The entry of a sleep state ends: VCORE stays. -/
theorem entryEnds_vack (cause : Nat) (s : State) : (entryEnds cause s).pwr.vack = s.pwr.vack := by
  have hroll : (rollback s).pwr.vack = s.pwr.vack := by
    unfold rollback whenDo
    extract_lets st s1 _ s2 s3
    have h1 : s1.pwr = s.pwr := by
      unfold s1
      split
      · exact (frameOf kept_wakeDram s).pwr (by decide)
      · rfl
    have h2 : s2.pwr = s1.pwr := by
      unfold s2
      split
      · exact ((frameOf kept_firstTraining _).pwr (by decide)).trans rfl
      · rfl
    have h3 : s3.pwr = s2.pwr := by
      unfold s3
      split
      · exact (frameOf kept_releaseHeld s2).pwr (by decide)
      · rfl
    exact (show _ = s3.pwr.vack from rfl).trans (congrArg Pwr.vack (h3.trans (h2.trans h1)))
  have hshow (a : State) : (refreshBands a).pwr = a.pwr := (frameOf kept_refreshBands a).pwr (by decide)
  have hdone (a : State) (p : Pwr) : (wakesDone { a with pwr := p }).pwr.vack = p.vack := rfl
  unfold entryEnds
  split
  · extract_lets s1 _ s2 _
    have h2 : s2.pwr.vack = s.pwr.vack := by
      unfold s2
      rw [evc_pwr]
      exact hroll
    split
    · split
      · rw [hshow]
        exact h2
      · rw [logEv_pwr, hshow, hdone]
        exact h2
    · rw [hshow, hdone]
      exact h2
  · rfl

theorem sleepEnds_vack (s : State) : (sleepEnds s).pwr.vack = s.pwr.vack := by
  have hwake (a : State) : (wakeActs 6 a).pwr.vack = a.pwr.vack := by
    unfold wakeActs
    split
    · split
      · rfl
      · rw [evc_pwr]
        exact entryEnds_vack 3 a
    · split
      · rw [evc_pwr]
        rfl
      · split
        · rfl
        · dsimp only
          rw [stepGoal_vack]
          dsimp only
          rw [evc_pwr]
          rfl
      · rfl
  unfold sleepEnds
  split
  · exact entryEnds_vack 4 s
  · exact hwake _

theorem deviceReaction_vack (n : Nat) (stay inj : Bool) (s : State) : (deviceReaction n stay inj s).pwr.vack = s.pwr.vack := by
  have hmarked : (reactionMarked n stay s).pwr = s.pwr := by
    unfold reactionMarked
    dsimp only
    split
    · rfl
    · rfl
  have hshown (a : State) : (reactionShown n inj a).pwr.vack = a.pwr.vack := by
    unfold reactionShown
    rw [logEv_pwr, (frameOf kept_assertFault _).pwr (by decide), (frameOf (kept_recordLast n inj) _).pwr (by decide),
      sleepEnds_vack]
  have hleave (a : State) : (leaveRun a).pwr.vack = a.pwr.vack := by
    unfold leaveRun
    rw [(frameOf kept_stateNaks _).pwr (by decide), (frameOf (kept_abandonCal 2) _).pwr (by decide)]
    split
    · rfl
    · exact entryEnds_vack 5 a
  have henters (op : OpState) (a : State) : (reactionEnters op a).pwr.vack = a.pwr.vack := by
    unfold reactionEnters
    split
    · rfl
    · rw [pendEvt_pwr, (changeOp_frame _ _).pwr (by decide)]
      split
      · exact hleave a
      · rw [(frameOf kept_stateNaks a).pwr (by decide)]
  rw [deviceReaction_eq]
  split
  · rw [hmarked]
  · rw [(allDark_frame _).pwr (by decide), henters, hshown, hmarked]

theorem oget_stepGoal {k : Nat} (s : State) (h : k ≠ Ob.PMB_VREQ) : oget (stepGoal s) k = oget s k := by
  unfold stepGoal
  split
  · rfl
  · split
    · exact oget_askVcore _ _ h
    · split
      · split
        · rfl
        · exact oget_askVcore _ _ h
      · rfl

theorem oget_raiseVcore {k : Nat} (s : State) (h : k ≠ Ob.PMB_VREQ) : oget (raiseVcore s) k = oget s k := by
  unfold raiseVcore
  split
  · split
    · rfl
    · rfl
  · split
    · exact oget_askVcore _ _ h
    · rfl

/-- The request that follows another changes no object but the value asked for. -/
theorem oget_pmbNext {k : Nat} (s : State) (h : k ≠ Ob.PMB_VREQ) : oget (pmbNext s) k = oget s k := by
  obtain ⟨sent, out, hs⟩ := sendOperation_spec { s with pwr := { s.pwr with pmbFree := s.now + 10000 } }
  have hv : oget (sendOperation { s with pwr := { s.pwr with pmbFree := s.now + 10000 } }) k = oget s k := by
    rw [hs]
    rfl
  unfold pmbNext
  dsimp only
  generalize sendOperation { s with pwr := { s.pwr with pmbFree := s.now + 10000 } } = a at hv
  rw [← hv]
  split
  · exact oget_raiseVcore _ h
  · split
    · exact oget_stepGoal a h
    · split
      · exact oget_raiseVcore a h
      · rfl

/-! ## The attempts of a request (R447) -/

theorem exec_attemptDone {t : Nat} {acked pgood : Bool} {w : BitVec 16} {s : State} {r : PmbReq} (h : s.pwr.pmb = some r) :
    exec (.pmbusAttemptDone t acked w pgood) s = .next (
      if (s.at t).now < r.at_ then s.at t
      else if r.at_ + 2000000 < (s.at t).now then attemptFailed r (s.at t)
      else if acked ∧ w.toNat &&& oget s Ob.PMB_STATMASK = 0 ∧ pgood then
        pmbNext (evc 0xBB (cnt Ob.PMB_STEPS (oset Ob.PMB_VACK r.target
          { (if acked then oset Ob.PMB_STATUS w.toNat (s.at t) else s.at t) with
            pwr := { (if acked then oset Ob.PMB_STATUS w.toNat (s.at t) else s.at t).pwr with pmb := none, vack := r.target } })))
      else attemptFailed r (if acked then oset Ob.PMB_STATUS w.toNat (s.at t) else s.at t)) := by
  change Host.Outcome.next _ = _
  rw [show (s.at t).pwr.pmb = some r from h]
  rfl

theorem exec_attemptTimeout {t : Nat} {s : State} {r : PmbReq} (h : s.pwr.pmb = some r) :
    exec (.pmbusAttemptTimeout t) s = .next (if r.at_ + 2000000 ≤ (s.at t).now then attemptFailed r (s.at t) else s.at t) := by
  change Host.Outcome.next _ = _
  rw [show (s.at t).pwr.pmb = some r from h]

theorem exec_attempt_none {s : State} (h : s.pwr.pmb = none) (t : Nat) : exec (.pmbusAttemptTimeout t) s = .next (s.at t) ∧
    ∀ acked w pgood, exec (.pmbusAttemptDone t acked w pgood) s = .next (s.at t) := by
  constructor
  · change Host.Outcome.next _ = _
    rw [show (s.at t).pwr.pmb = none from h]
  · intro acked w pgood
    change Host.Outcome.next _ = _
    rw [show (s.at t).pwr.pmb = none from h]

/-- A first or second failure is tried again at once, and counted. -/
theorem attemptFailed_retry {m : List Part} {r : PmbReq} {s0 s : State} (hm : Sub [.obj, .pwr] m) (hk : Kept m s0 s)
    (h : r.tries < 2) :
    (attemptFailed r s).pwr = { s.pwr with pmb := some { r with tries := r.tries + 1, at_ := s.now } } ∧
    s0.sameBut m (attemptFailed r s) ∧
    oget (attemptFailed r s) Ob.PMB_RETRY = satInc 0xFFFFFFFF (oget s Ob.PMB_RETRY) := by
  have he : attemptFailed r s =
      evc 0xBC (cnt Ob.PMB_RETRY { s with pwr := { s.pwr with pmb := some { r with tries := r.tries + 1, at_ := s.now } } }) :=
    if_pos h
  rw [he]
  refine ⟨?_, ?_, ?_⟩
  · rw [evc_pwr]
    rfl
  · exact (kept_evc _ (fun e he => hm e (by simp at he; simp [he])) (kept_cnt _ (fun e he => hm e (by simp at he; simp [he]))
      (kept_set_pwr (fun e he => hm e (by simp at he; simp [he])) hk))).rest
  · rw [oget_evc _ _ _ (by decide), oget_cnt_same]
    rfl

/-- The state in which a lowering is given up: nothing is asked for until the holdoff ends. -/
def lowerGivenUp (s : State) : State :=
  { oset Ob.PMB_VREQ s.pwr.vack { s with pwr := { s.pwr with pmb := none } } with
    pwr := { (oset Ob.PMB_VREQ s.pwr.vack { s with pwr := { s.pwr with pmb := none } }).pwr with holdoffTo := s.now + 10000000000 } }

theorem lowerGivenUp_pwr (s : State) :
    (lowerGivenUp s).pwr = { s.pwr with pmb := none, holdoffTo := s.now + 10000000000 } := rfl

/-- The state in which a raise is given up. -/
def raiseGivenUp (s : State) : State :=
  { oset Ob.PMB_VREQ s.pwr.vack { s with pwr := { s.pwr with pmb := none } } with
    pwr := { (oset Ob.PMB_VREQ s.pwr.vack { s with pwr := { s.pwr with pmb := none } }).pwr with raiseDue := false, goal := none } }

/-- A lowering that has failed three times is given up for ten seconds. -/
theorem attemptFailed_lower {r : PmbReq} {s : State} (h : 2 ≤ r.tries) (hr : r.raise = false) (h1 : s.pwr.raiseDue = false)
    (h2 : s.pwr.goal = none) (h3 : slackShort s = false) :
    (attemptFailed r s).pwr.pmb = none ∧ (attemptFailed r s).pwr.vack = s.pwr.vack ∧
    oget (attemptFailed r s) Ob.PMB_VREQ = s.pwr.vack ∧ (attemptFailed r s).pwr.holdoffTo = s.now + 10000000000 ∧
    (attemptFailed r s).boot = s.boot := by
  have hlog (d : Nat) : (logEv 0x14 1 0 d (cnt Ob.PMB_FAIL (failure 17 s))).pwr = s.pwr ∧
      (logEv 0x14 1 0 d (cnt Ob.PMB_FAIL (failure 17 s))).scan = s.scan ∧
      (logEv 0x14 1 0 d (cnt Ob.PMB_FAIL (failure 17 s))).now = s.now ∧
      (logEv 0x14 1 0 d (cnt Ob.PMB_FAIL (failure 17 s))).boot = s.boot := by
    refine ⟨?_, ?_, ?_, ?_⟩ <;> simp
  obtain ⟨hpwr, hscan, hnow, hboot⟩ := hlog (3 * 256 + oget s Ob.PMB_STATUS % 256)
  have he : attemptFailed r s = pmbNext (lowerGivenUp (logEv 0x14 1 0 (3 * 256 + oget s Ob.PMB_STATUS % 256)
      (cnt Ob.PMB_FAIL (failure 17 s)))) := (if_neg (not_lt.mpr h)).trans (if_neg (by simp [hr]))
  generalize logEv 0x14 1 0 (3 * 256 + oget s Ob.PMB_STATUS % 256) (cnt Ob.PMB_FAIL (failure 17 s)) = a at he hpwr hscan hnow hboot
  have hslacks : slacks (lowerGivenUp a) = slacks s := by
    unfold slacks streamRuns bandScan
    rw [show (lowerGivenUp a).scan = a.scan from rfl, lowerGivenUp_pwr, hpwr, hscan]
  have hslack : slackShort (lowerGivenUp a) = slackShort s := by
    unfold slackShort worstSlack
    rw [hslacks]
  obtain ⟨sent, out, hidle⟩ := pmbNext_idle (s := lowerGivenUp a) (by rw [lowerGivenUp_pwr, hpwr]; exact h1)
    (by rw [lowerGivenUp_pwr, hpwr]; exact h2) (hslack.trans h3)
  rw [he, hidle]
  refine ⟨rfl, (show _ = a.pwr.vack from rfl).trans (congrArg Pwr.vack hpwr), ?_, ?_, hboot⟩
  · exact (oget_oset_same ..).trans (congrArg Pwr.vack hpwr)
  · exact congrArg (· + 10000000000) hnow

/-- A raise that has failed three times is a device-class reaction. -/
theorem attemptFailed_raise {r : PmbReq} {s : State} (h : 2 ≤ r.tries) (hr : r.raise = true) (hst : s.boot.stage = .started)
    (hop : s.boot.op ≠ .boot) :
    (attemptFailed r s).boot.op = .safeDark ∧ (attemptFailed r s).pwr.vack = s.pwr.vack := by
  have hboot (d : Nat) : (logEv 0x14 1 0 d (cnt Ob.PMB_FAIL (failure 17 s))).boot = s.boot := by simp
  have hpwr (d : Nat) : (logEv 0x14 1 0 d (cnt Ob.PMB_FAIL (failure 17 s))).pwr = s.pwr := by simp
  have he : attemptFailed r s = deviceReaction 17 false false (raiseGivenUp (logEv 0x14 1 0
      (3 * 256 + oget s Ob.PMB_STATUS % 256) (cnt Ob.PMB_FAIL (failure 17 s)))) := (if_neg (not_lt.mpr h)).trans (if_pos hr)
  specialize hboot (3 * 256 + oget s Ob.PMB_STATUS % 256)
  specialize hpwr (3 * 256 + oget s Ob.PMB_STATUS % 256)
  generalize logEv 0x14 1 0 (3 * 256 + oget s Ob.PMB_STATUS % 256) (cnt Ob.PMB_FAIL (failure 17 s)) = a at he hboot hpwr
  have hb : (raiseGivenUp a).boot = s.boot := hboot
  rw [he, deviceReaction_vack]
  exact ⟨deviceReaction_op (by rw [hb]; exact hop) (by rw [hb]; exact hst), (show _ = a.pwr.vack from rfl).trans (congrArg Pwr.vack hpwr)⟩

/-- An attempt that is acknowledged with a good status and good power puts its request in force. -/
theorem attemptDone_ok (t : Nat) {s : State} {r : PmbReq} (h : s.pwr.pmb = some r) (hlo : r.at_ ≤ max s.now t)
    (hhi : max s.now t ≤ r.at_ + 2000000) {w : BitVec 16} (hw : w.toNat &&& oget s Ob.PMB_STATMASK = 0) :
    ∃ s', exec (.pmbusAttemptDone t true w true) s = .next s' ∧
      s'.pwr.vack = r.target ∧ oget s' Ob.PMB_VACK = r.target ∧ oget s' Ob.PMB_STATUS = w.toNat ∧
      oget s' Ob.PMB_STEPS = satInc 0xFFFFFFFF (oget s Ob.PMB_STEPS) ∧ s'.mem = s.mem := by
  have hx := (exec_attemptDone (t := t) (acked := true) (pgood := true) (w := w) h).trans (congrArg Host.Outcome.next
    ((if_neg (not_lt.mpr hlo)).trans ((if_neg (not_lt.mpr hhi)).trans (if_pos ⟨rfl, hw, rfl⟩))))
  refine ⟨_, hx, ?_, ?_, ?_, ?_, exec_mem hx (by simp [footprint])⟩
  · rw [pmbNext_vack, evc_pwr]
    rfl
  · rw [oget_pmbNext _ (by decide), oget_evc _ _ _ (by decide), oget_cnt_ne _ (by decide), oget_oset_same]
  · rw [oget_pmbNext _ (by decide), oget_evc _ _ _ (by decide), oget_cnt_ne _ (by decide), oget_oset_ne _ _ (by decide)]
    exact oget_oset_same ..
  · rw [oget_pmbNext _ (by decide), oget_evc _ _ _ (by decide), oget_cnt_same, oget_oset_ne _ _ (by decide)]
    exact congrArg (satInc _) (oget_oset_ne (k := Ob.PMB_STATUS) _ (s.at t) (by decide))

/-- The status word of an attempt, where it was acknowledged. -/
def statusTaken (acked : Bool) (w : BitVec 16) (s : State) : State :=
  if acked then oset Ob.PMB_STATUS w.toNat s else s

theorem statusTaken_spec (acked : Bool) (w : BitVec 16) (s : State) : (statusTaken acked w s).pwr = s.pwr ∧
    (statusTaken acked w s).now = s.now ∧ oget (statusTaken acked w s) Ob.PMB_RETRY = oget s Ob.PMB_RETRY := by
  unfold statusTaken
  split
  · exact ⟨rfl, rfl, oget_oset_ne _ _ (by decide)⟩
  · exact ⟨rfl, rfl, rfl⟩

theorem kept_statusTaken (acked : Bool) (w : BitVec 16) (t : Nat) (s : State) :
    Kept [.obj, .pwr] s (statusTaken acked w (s.at t)) := by
  unfold statusTaken
  split
  · exact kept_oset _ _ (fun e he => by simp at he; simp [he]) (Kept.at_ _ t s)
  · exact Kept.at_ _ t s

/-- A bad attempt in its time is tried again. -/
theorem attemptDone_bad (t : Nat) {s : State} {r : PmbReq} (h : s.pwr.pmb = some r) (hlo : r.at_ ≤ max s.now t)
    (htr : r.tries < 2) (hhi : max s.now t ≤ r.at_ + 2000000) {acked pgood : Bool} {w : BitVec 16}
    (hbad : acked = false ∨ w.toNat &&& oget s Ob.PMB_STATMASK ≠ 0 ∨ pgood = false) :
    ∃ s', exec (.pmbusAttemptDone t acked w pgood) s = .next s' ∧
      s'.pwr = { s.pwr with pmb := some { r with tries := r.tries + 1, at_ := max s.now t } } ∧ s.sameBut [.obj, .pwr] s' ∧
      oget s' Ob.PMB_RETRY = satInc 0xFFFFFFFF (oget s Ob.PMB_RETRY) := by
  have hn : ¬(acked = true ∧ w.toNat &&& oget s Ob.PMB_STATMASK = 0 ∧ pgood = true) := by
    rintro ⟨ha, hw, hp⟩
    simp [ha, hw, hp] at hbad
  have hx := (exec_attemptDone (t := t) (acked := acked) (pgood := pgood) (w := w) h).trans (congrArg Host.Outcome.next
    ((if_neg (not_lt.mpr hlo)).trans ((if_neg (not_lt.mpr hhi)).trans (if_neg hn))))
  obtain ⟨hpwr, hnow, hget⟩ := statusTaken_spec acked w (s.at t)
  obtain ⟨h1, h2, h3⟩ := attemptFailed_retry (r := r) (fun _ he => he) (kept_statusTaken acked w t s) htr
  refine ⟨_, hx, h1.trans ?_, h2, h3.trans (congrArg (satInc _) hget)⟩
  rw [hpwr, hnow]
  rfl

theorem attemptDone_late (t : Nat) {s : State} {r : PmbReq} (h : s.pwr.pmb = some r) (hlate : r.at_ + 2000000 < max s.now t)
    (htr : r.tries < 2) (acked : Bool) (w : BitVec 16) (pgood : Bool) :
    ∃ s', exec (.pmbusAttemptDone t acked w pgood) s = .next s' ∧
      s'.pwr = { s.pwr with pmb := some { r with tries := r.tries + 1, at_ := max s.now t } } ∧ s.sameBut [.obj, .pwr] s' := by
  have hx := (exec_attemptDone (t := t) (acked := acked) (pgood := pgood) (w := w) h).trans (congrArg Host.Outcome.next
    ((if_neg (by rw [State.at_now]; omega)).trans (if_pos hlate)))
  obtain ⟨h1, h2, -⟩ := attemptFailed_retry (r := r) (fun _ he => he) (Kept.at_ [.obj, .pwr] t s) htr
  exact ⟨_, hx, h1, h2⟩

/-! ## A run of steps goes on (R449) -/

/-- A run of steps goes on down: the next 10 mV are asked for. -/
theorem stepGoal_down {s : State} {g : Nat} (hg : s.pwr.goal = some g) (hlt : g < s.pwr.vack) (hh : s.pwr.holdoffTo ≤ s.now)
    (hp : s.pwr.pmb = none) : stepGoal s = oset Ob.PMB_VREQ (max g (s.pwr.vack - 10)) { s with pwr := { s.pwr with
      pmb := some { target := max g (s.pwr.vack - 10), tries := 0, raise := false, at_ := max s.now s.pwr.pmbFree }
      pmbOut := [voutCommand s (max g (s.pwr.vack - 10)), statusWordRead s] } } := by
  have hd : decide (s.pwr.vack < max g (s.pwr.vack - 10)) = false := by
    rw [decide_eq_false_iff_not]
    omega
  unfold stepGoal
  rw [hg]
  dsimp only
  rw [if_neg (not_lt.mpr hlt.le), if_pos hlt, if_neg (not_lt.mpr hh)]
  unfold askVcore
  rw [if_neg (by simp [hp]), hd]

/-- Settles O46. An attempt keeps its request in force, is tried again, or is given up for good: then a lowering waits and a
raise is a reaction. -/
theorem vcoreSteps : Obligations.VcoreSteps := by
  unfold Obligations.VcoreSteps
  intro t s
  refine ⟨fun r h => ⟨?_, ?_, ?_, ?_, ?_, ?_⟩, fun h => exec_attempt_none h t, ?_, ?_, ?_⟩
  · exact fun hlo hhi w hw => attemptDone_ok t h hlo hhi hw
  · exact fun acked w pgood hlo htr hhi hbad => attemptDone_bad t h hlo htr hhi hbad
  · exact fun acked w pgood hlate htr => attemptDone_late t h hlate htr acked w pgood
  · exact fun acked w pgood hlt => (exec_attemptDone h).trans (congrArg Host.Outcome.next (if_pos hlt))
  · exact fun hlt => (exec_attemptTimeout h).trans (congrArg Host.Outcome.next (if_neg (not_le.mpr hlt)))
  · intro hle
    have hx := (exec_attemptTimeout h).trans (congrArg Host.Outcome.next (if_pos (c := r.at_ + 2000000 ≤ (s.at t).now) hle))
    refine ⟨fun htr => ?_, fun htr hr h1 h2 h3 => ?_, fun htr hr hst hop => ?_⟩
    · obtain ⟨h1, h2, h3⟩ := attemptFailed_retry (r := r) (fun _ he => he) (Kept.at_ [.obj, .pwr] t s) htr
      exact ⟨_, hx, h2, h1, h3⟩
    · obtain ⟨hpmb, hvack, hreq, hto, hboot⟩ := attemptFailed_lower (s := s.at t) htr hr h1 h2 h3
      exact ⟨_, hx, hpmb, hvack, hreq, hto, hboot, exec_mem hx (by simp [footprint])⟩
    · obtain ⟨hdark, hvack⟩ := attemptFailed_raise (s := s.at t) htr hr hst hop
      exact ⟨_, hx, hdark, hvack⟩
  · intro w hst
    have hx : exec (.pmbAlert t w) s = .next (evc 0xBD (cnt Ob.PMB_ALERTS (oset Ob.PMB_STATUS w.toNat (s.at t)))) :=
      congrArg Host.Outcome.next (if_pos hst)
    refine ⟨_, hx, ?_, ?_, exec_frame hx⟩
    · rw [oget_evc _ _ _ (by decide), oget_cnt_ne _ (by decide), oget_oset_same]
    · rw [oget_evc _ _ _ (by decide), oget_cnt_same, oget_oset_ne _ _ (by decide)]
      rfl
  · intro g hh hg hlt hp
    have hx : exec (.pmbHoldoffExpiry t) s = .next (stepGoal (s.at t)) := congrArg Host.Outcome.next (if_pos hh)
    have hs := stepGoal_down (s := s.at t) hg hlt hh hp
    refine ⟨_, hx, ?_, ?_, ?_, exec_frame hx⟩
    · rw [hs]
      exact oget_oset_same ..
    · rw [hs]
      rfl
    · rw [hs]
      rfl
  · rintro (hlt | hg)
    · exact congrArg Host.Outcome.next (if_neg (not_le.mpr hlt))
    · have hs : stepGoal (s.at t) = s.at t := by
        unfold stepGoal
        rw [show (s.at t).pwr.goal = none from hg]
      change Host.Outcome.next (if _ then _ else _) = _
      rw [hs, ite_self]

end Sys2Proof.Machine
end

section
/-!
SUPPORT. The wake sources, the entry of a sleep state and its end (R429 to R441): what each leaves of the power state.
-/

namespace Sys2Proof.Machine

open Sys2Proof

/-! ## The wake sources -/

/-- The latched sources of a wake. -/
def wakeFlags (p : Pwr) : List Bool := [p.edgeWake, p.gylWake, p.fwdActive, p.reqWake, p.timerWake, p.safetyWake]

/-- What a sample of the sources reads: their enables, the pin, the latches and whether the forward direction sleeps. -/
def wakeView (s : State) : Nat × Nat × Bool × Bool × List Bool :=
  (oget s Ob.PWR_WAKEEN, oget s Ob.PWR_WAKEMODE, s.pins.wakeN, s.pxl.fwdAsleep, wakeFlags s.pwr)

theorem wakeStanding_congr {a b : State} (h : wakeView a = wakeView b) (n : Nat) : wakeStanding a n = wakeStanding b n := by
  simp only [wakeView, wakeFlags, Prod.mk.injEq, List.cons.injEq, and_true] at h
  obtain ⟨hen, hmode, hpin, hfwd, hedge, hgyl, hact, hreq, htimer, hsafe⟩ := h
  unfold wakeStanding wakeNActs
  rw [hen, hmode, hpin, hfwd, hedge, hgyl, hact, hreq, htimer, hsafe]

/-- A state that no source holds awake is held by none in P3. -/
theorem wakeStanding_three {s : State} {n : Nat} (h : wakeStanding s n = none) : wakeStanding s 3 = none := by
  unfold wakeStanding at h
  split_ifs at h with h1 h2 h3 h4 h5 h6
  unfold wakeStanding
  rw [if_neg h1, if_neg h2, if_neg (fun h => absurd h.1 (by decide)), if_neg (fun h => absurd h.1 (by decide)), if_neg h5,
    if_neg (fun h => absurd h.1 (by decide))]

theorem sampleWakes_none {s : State} (h : wakeStanding s s.pwr.target = none) : sampleWakes s = s := by
  have h3 : p3Sample s = s := by
    unfold p3Sample
    rw [wakeStanding_three h, ite_self]
  unfold sampleWakes
  rw [h, h3, ite_self]

/-! ## A step is asked -/

theorem askStep_pwr (n : Nat) (s : State) : (askStep n s).pwr = { s.pwr with step := n, stepAt := s.now } := by
  unfold askStep
  dsimp only
  split
  · split
    · rfl
    · rfl
  · split
    · exact (frameOf (kept_railDown _) _).pwr (by decide)
    · rfl

theorem askStep_fwdAsleep (n : Nat) (s : State) : (askStep n s).pxl.fwdAsleep = s.pxl.fwdAsleep := by
  unfold askStep
  dsimp only
  split
  · split
    · rfl
    · rfl
  · split
    · exact congrArg Pxl.fwdAsleep ((frameOf (kept_railDown _) _).pxl (by decide))
    · rfl

theorem askStep_pins {n : Nat} (s : State) (h : n ≠ 8) : (askStep n s).pins = s.pins := by
  unfold askStep
  dsimp only
  rw [if_neg h]
  split
  · split
    · rfl
    · rfl
  · rfl

theorem askStep_wakeView {n : Nat} (s : State) (h : n ≠ 8) : wakeView (askStep n s) = wakeView s := by
  have hobj : (askStep n s).obj = s.obj := (frameOf (kept_askStep n) s).obj (by decide)
  unfold wakeView
  rw [oget_congr hobj, oget_congr hobj, askStep_pins s h, askStep_fwdAsleep, askStep_pwr]
  rfl

/-- The first step of the list of a target. -/
theorem stepAfter_start (target : Nat) : stepAfter target 0 = if target = 1 then 4 else 1 := by
  by_cases h1 : target = 1
  · subst h1
    decide
  · by_cases h2 : target = 2
    · subst h2
      decide
    · have hl (n : Nat) : stepListed target n = decide (1 ≤ n ∧ n ≤ 17) := by
        unfold stepListed
        rw [if_neg h1, if_neg h2]
      unfold stepAfter
      simp only [hl, if_neg h1]
      decide

/-- An entry starts: its first step is asked, and nothing else happens where no source stands. -/
theorem startEntry_quiet {s : State} (h : wakeStanding s s.pwr.target = none) :
    startEntry s = askStep (if s.pwr.target = 1 then 4 else 1) { s with pwr := { s.pwr with entry := .inProgress, stopped := 0 } } := by
  have hn : (if s.pwr.target = 1 then 4 else 1) ≠ 8 := by split <;> decide
  unfold startEntry
  rw [stepAfter_start]
  refine sampleWakes_none ?_
  rw [wakeStanding_congr (askStep_wakeView _ hn), askStep_pwr]
  exact h

/-! ## The end of an entry (R433 to R435) -/

theorem rollback_pwr (s : State) : ∃ a, (rollback s).pwr = { s.pwr with stopped := 0, stepAt := a } := by
  unfold rollback whenDo
  extract_lets st s1 _ s2 s3
  have h1 : s1.pwr = s.pwr := by
    unfold s1
    split
    · exact (frameOf kept_wakeDram s).pwr (by decide)
    · rfl
  have h2 : s2.pwr = s1.pwr := by
    unfold s2
    split
    · exact ((frameOf kept_firstTraining _).pwr (by decide)).trans rfl
    · rfl
  have h3 : s3.pwr = s2.pwr := by
    unfold s3
    split
    · exact (frameOf kept_releaseHeld s2).pwr (by decide)
    · rfl
  exact ⟨s3.now, congrArg (fun p : Pwr => { p with stopped := 0, stepAt := s3.now }) (h3.trans (h2.trans h1))⟩

/-- The power state when an entry has ended with a cause, before what the end is called. -/
def endedPwr (cause at_ : Nat) (p : Pwr) : Pwr :=
  { p with stopped := 0, stepAt := at_, abortCause := cause, abortStep := p.step }

/-- A refused or an unanswered entry is tried again, up to eight times. -/
theorem entryEnds_retried {cause : Nat} {s : State} (h : s.pwr.entry = .inProgress ∨ s.pwr.entry = .waitRetry) (hc : cause ≤ 2)
    (hr : s.pwr.retries < 8) : ∃ a, (entryEnds cause s).pwr = { endedPwr cause a s.pwr with entry := .waitRetry } := by
  obtain ⟨a, ha⟩ := rollback_pwr s
  refine ⟨a, ?_⟩
  unfold entryEnds
  rw [if_pos h]
  dsimp only
  rw [if_pos hc, if_pos (by rw [evc_pwr, cnt_pwr]; dsimp only; rw [ha]; exact hr), (frameOf kept_refreshBands _).pwr (by decide)]
  dsimp only
  rw [evc_pwr, cnt_pwr, ha]
  rfl

theorem entryEnds_failed {cause : Nat} {s : State} (h : s.pwr.entry = .inProgress ∨ s.pwr.entry = .waitRetry) (hc : cause ≤ 2)
    (hr : 8 ≤ s.pwr.retries) : (entryEnds cause s).pwr.entry = .failed ∧ (entryEnds cause s).pwr.abortCause = cause ∧
    (entryEnds cause s).gyl.armed = false := by
  obtain ⟨a, ha⟩ := rollback_pwr s
  unfold entryEnds
  rw [if_pos h]
  dsimp only
  rw [if_pos hc, if_neg (by rw [evc_pwr, cnt_pwr]; dsimp only; rw [ha]; exact not_lt.mpr hr), logEv_pwr, logEv_gyl,
    (frameOf kept_refreshBands _).pwr (by decide), (frameOf kept_refreshBands _).gyl (by decide)]
  refine ⟨rfl, ?_, rfl⟩
  unfold wakesDone
  dsimp only
  rw [evc_pwr, cnt_pwr]

/-- Any other cause ends an entry for good. -/
theorem entryEnds_aborted {cause : Nat} {s : State} (h : s.pwr.entry = .inProgress ∨ s.pwr.entry = .waitRetry) (hc : 2 < cause) :
    (entryEnds cause s).pwr.entry = .aborted ∧ (entryEnds cause s).pwr.abortCause = cause ∧
    (entryEnds cause s).pwr.abortStep = s.pwr.step ∧ (entryEnds cause s).pwr.stopped = 0 ∧
    oget (entryEnds cause s) Ob.PWR_ABORTS = satInc 0xFFFFFFFF (oget s Ob.PWR_ABORTS) := by
  obtain ⟨a, ha⟩ := rollback_pwr s
  have hobj : (rollback s).obj = s.obj := (frameOf kept_rollback s).obj (by decide)
  unfold entryEnds
  rw [if_pos h]
  dsimp only
  rw [if_neg (not_le.mpr hc), (frameOf kept_refreshBands _).pwr (by decide),
    oget_congr ((frameOf kept_refreshBands _).obj (by decide))]
  unfold wakesDone
  refine ⟨rfl, ?_, ?_, ?_, ?_⟩
  · dsimp only
    rw [evc_pwr, cnt_pwr]
  · dsimp only
    rw [evc_pwr, cnt_pwr]
  · dsimp only
    rw [evc_pwr, cnt_pwr]
    dsimp only
    rw [ha]
  · refine (oget_evc (k := Ob.PWR_ABORTS) 0xB9 _ (by decide)).trans ?_
    rw [oget_cnt_same]
    exact congrArg (satInc _) (oget_congr (t := rollback s) hobj _)

/-! ## The ends of P1 and P2 (R440, R441) -/

theorem askVcore_pwr (mv : Nat) (s : State) : ∃ req out, (askVcore mv s).pwr = { s.pwr with pmb := req, pmbOut := out } := by
  unfold askVcore
  split
  · exact ⟨_, _, rfl⟩
  · exact ⟨_, _, rfl⟩

/-- A run of steps changes its request and its goal alone. -/
theorem stepGoal_pwr (s : State) :
    ∃ req out goal, (stepGoal s).pwr = { s.pwr with pmb := req, pmbOut := out, goal := goal } := by
  have hask (mv : Nat) : ∃ req out goal, (askVcore mv s).pwr = { s.pwr with pmb := req, pmbOut := out, goal := goal } := by
    obtain ⟨req, out, h⟩ := askVcore_pwr mv s
    exact ⟨req, out, s.pwr.goal, h⟩
  unfold stepGoal
  split
  · exact ⟨_, _, _, rfl⟩
  · split
    · exact hask _
    · split
      · split
        · exact ⟨_, _, _, rfl⟩
        · exact hask _
      · exact ⟨_, _, _, rfl⟩

theorem wakeActs_p1 {src : Nat} {s : State} (h1 : s.pwr.entry ≠ .inProgress) (h2 : s.pwr.entry ≠ .waitRetry)
    (hp : s.pwr.state = .p1) :
    wakeActs src s = evc 0xBA (cnt Ob.PWR_WAKECNT (lastWake false 1 src (reachP0 s))) := by
  unfold wakeActs
  rw [if_neg (by simp [h1, h2]), hp]

theorem wakeActs_p2 {src : Nat} {s : State} (h1 : s.pwr.entry ≠ .inProgress) (h2 : s.pwr.entry ≠ .waitRetry)
    (hp : s.pwr.state = .p2) (hw : s.pwr.waking = false) : (wakeActs src s).pwr.state = .p2 ∧ (wakeActs src s).pwr.waking = true ∧
    oget (wakeActs src s) Ob.PWR_WAKECNT = satInc 0xFFFFFFFF (oget s Ob.PWR_WAKECNT) := by
  unfold wakeActs
  rw [if_neg (by simp [h1, h2]), hp]
  dsimp only
  rw [if_neg (by simp [hw])]
  obtain ⟨a, ha⟩ : ∃ a, a = evc 0xBA (cnt Ob.PWR_WAKECNT (lastWake false 2 src { s with pwr := { s.pwr with waking := true } })) :=
    ⟨_, rfl⟩
  have hpwr : a.pwr = { s.pwr with waking := true } := by
    rw [ha, evc_pwr]
    rfl
  have hcnt : oget a Ob.PWR_WAKECNT = satInc 0xFFFFFFFF (oget s Ob.PWR_WAKECNT) := by
    rw [ha, oget_evc _ _ _ (by decide), oget_cnt_same]
    exact congrArg (satInc _) (oget_oset_ne (k := Ob.PWR_LASTWAKE) _ _ (by decide))
  rw [← ha]
  obtain ⟨req, out, goal, hgoal⟩ := stepGoal_pwr { a with pwr := { a.pwr with goal := some (wakeGoal a) } }
  rw [oget_stepGoal _ (by decide), hgoal]
  refine ⟨?_, ?_, hcnt⟩
  · dsimp only
    rw [hpwr]
    exact hp
  · dsimp only
    rw [hpwr]

end Sys2Proof.Machine
end

section
/-!
PROOF. The requests of a power state (R424, R429, R431): O43.
-/

namespace Sys2Proof.Machine

open Sys2Proof

/-- The state in which a request has been entered, before its first step is asked. -/
def requestEntered (v : Nat) (s : State) : State :=
  evc 0xB8 { s with pwr := { s.pwr with target := v, retries := 0, edgeWake := false }
                    gyl := { s.gyl with armed := true, armedAt := s.now } }

theorem requestEntered_pwr (v : Nat) (s : State) :
    (requestEntered v s).pwr = { s.pwr with target := v, retries := 0, edgeWake := false } := evc_pwr _ _

theorem requestEntered_gyl (v : Nat) (s : State) :
    (requestEntered v s).gyl = { s.gyl with armed := true, armedAt := s.now } := evc_gyl _ _

theorem requestEntered_now (v : Nat) (s : State) : (requestEntered v s).now = s.now := evc_now _ _

theorem requestEntered_wakeView (v : Nat) (s : State) :
    wakeView (requestEntered v s) = wakeView { s with pwr := { s.pwr with edgeWake := false } } := by
  unfold wakeView
  rw [requestEntered_pwr]
  unfold requestEntered
  rw [oget_evc _ _ _ (by decide), oget_evc _ _ _ (by decide), evc_pins, evc_pxl]
  rfl

/-- A request that may begin enters its first step, with the detector armed. -/
theorem ownPwrReq_enters {v : Nat} {s : State} (hv : v ≠ 0) (h1 : s.pwr.entry ≠ .inProgress) (h2 : s.pwr.entry ≠ .waitRetry)
    (hp : s.pwr.state = .p0) (hop : s.boot.op = .run ∨ v = 3 ∧ s.boot.op = .setup)
    (hw : wakeStanding { s with pwr := { s.pwr with edgeWake := false } } v = none) :
    ownPwrReq v s = (askStep (if v = 1 then 4 else 1)
      { requestEntered v s with pwr := { s.pwr with target := v, retries := 0, edgeWake := false, entry := .inProgress, stopped := 0 } },
      St.ok) := by
  have hs : startEntry (requestEntered v s) = askStep (if v = 1 then 4 else 1)
      { requestEntered v s with pwr := { s.pwr with target := v, retries := 0, edgeWake := false, entry := .inProgress, stopped := 0 } } := by
    have ht : (requestEntered v s).pwr.target = v := by rw [requestEntered_pwr]
    rw [startEntry_quiet (by rw [ht, wakeStanding_congr (requestEntered_wakeView v s)]; exact hw), ht, requestEntered_pwr]
  rw [← hs]
  unfold ownPwrReq
  dsimp only
  rw [if_neg hv, if_neg (by simp [h1, h2]), if_pos ⟨hp, hop⟩]
  rfl

theorem writePwrReq_enters {v t : Nat} {h : Hdr} {s : State} (ht : writeTaken (s.at t) h Ob.PWR_REQ v = true) (hv : v ≠ 0)
    (h1 : s.pwr.entry ≠ .inProgress) (h2 : s.pwr.entry ≠ .waitRetry) (hp : s.pwr.state = .p0)
    (hop : s.boot.op = .run ∨ v = 3 ∧ s.boot.op = .setup)
    (hw : wakeStanding { s.at t with pwr := { s.pwr with edgeWake := false } } v = none) :
    ∃ s', writeRow h Ob.PWR_REQ v ownPwrReq (s.at t) = s' ∧ s'.pwr.entry = .inProgress ∧ s'.pwr.target = v ∧
      s'.pwr.step = (if v = 1 then 4 else 1) ∧ s'.pwr.stopped = 0 ∧ s'.pwr.state = .p0 ∧ s'.gyl.armed = true ∧
      s'.boot = s.boot := by
  have hc : wakeView { counted (s.at t) h with pwr := { (counted (s.at t) h).pwr with edgeWake := false } } =
      wakeView { s.at t with pwr := { s.pwr with edgeWake := false } } := by
    have hget {k : Nat} (hn : notCounter k = true) (hk : k ≠ Ob.WNP_EVTPEND) : oget (counted (s.at t) h) k = oget (s.at t) k :=
      oget_counted_at h t s hn hk
    have hpins : (counted (s.at t) h).pins.wakeN = s.pins.wakeN := by
      obtain ⟨e, he⟩ := counted_pins h (s.at t)
      rw [he]
      rfl
    have hpxl : (counted (s.at t) h).pxl.fwdAsleep = s.pxl.fwdAsleep := by rw [counted_pxl]; rfl
    change (oget (counted (s.at t) h) Ob.PWR_WAKEEN, oget (counted (s.at t) h) Ob.PWR_WAKEMODE, (counted (s.at t) h).pins.wakeN,
      (counted (s.at t) h).pxl.fwdAsleep, wakeFlags { (counted (s.at t) h).pwr with edgeWake := false }) = _
    rw [hget (by decide) (by decide), hget (by decide) (by decide), hpins, hpxl, counted_pwr]
    rfl
  have hown := ownPwrReq_enters (s := counted (s.at t) h) hv (by rw [counted_pwr]; exact h1) (by rw [counted_pwr]; exact h2)
    (by rw [counted_pwr]; exact hp) (by rw [counted_boot]; exact hop) (by rw [wakeStanding_congr hc]; exact hw)
  refine ⟨_, rfl, ?_⟩
  rw [writeRow_of_taken ht, hown, answerTaken_pwr, answerTaken_gyl, answerTaken_boot]
  dsimp only
  rw [askStep_pwr, (frameOf (kept_askStep _) _).gyl (by decide), (frameOf (kept_askStep _) _).boot (by decide)]
  dsimp only
  rw [requestEntered_gyl, counted_pwr]
  refine ⟨rfl, rfl, rfl, rfl, hp, rfl, ?_⟩
  unfold requestEntered
  rw [evc_boot]
  exact counted_boot h (s.at t)

theorem ownPwrReq_busy {v : Nat} {s : State} (hv : v ≠ 0) (hb : s.pwr.entry = .inProgress ∨ s.pwr.entry = .waitRetry) :
    ownPwrReq v s = (s, St.busy) := by
  unfold ownPwrReq
  dsimp only
  rw [if_neg hv, if_pos (by simpa using hb)]

theorem ownPwrReq_state {v : Nat} {s : State} (hv : v ≠ 0) (h1 : s.pwr.entry ≠ .inProgress) (h2 : s.pwr.entry ≠ .waitRetry)
    (hn : s.pwr.state ≠ .p0 ∨ (s.boot.op ≠ .run ∧ (v ≠ 3 ∨ s.boot.op ≠ .setup))) : ownPwrReq v s = (s, St.state) := by
  unfold ownPwrReq
  dsimp only
  rw [if_neg hv, if_neg (by simp [h1, h2]), if_neg (by tauto)]

theorem ownPwrReq_aborts {s : State} (hb : s.pwr.entry = .inProgress ∨ s.pwr.entry = .waitRetry) :
    ownPwrReq 0 s = (entryEnds 6 s, St.ok) := by
  unfold ownPwrReq
  dsimp only
  rw [if_pos rfl, if_pos (by simpa using hb)]

theorem ownPwrReq_wakes {s : State} (h1 : s.pwr.entry ≠ .inProgress) (h2 : s.pwr.entry ≠ .waitRetry)
    (hp : s.pwr.state = .p1 ∨ s.pwr.state = .p2) :
    ownPwrReq 0 s = (wakeActs 4 { s with pwr := { s.pwr with reqWake := true } }, St.ok) := by
  unfold ownPwrReq
  dsimp only
  rw [if_pos rfl, if_neg (by simp [h1, h2]), if_pos hp]

theorem ownPwrReq_awake {s : State} (h1 : s.pwr.entry ≠ .inProgress) (h2 : s.pwr.entry ≠ .waitRetry)
    (hp : s.pwr.state = .p0 ∨ s.pwr.state = .p3) : ownPwrReq 0 s = (s, St.state) := by
  unfold ownPwrReq
  dsimp only
  rw [if_pos rfl, if_neg (by simp [h1, h2]), if_neg (by rcases hp with hp | hp <;> simp [hp])]

theorem exec_pwrReq (t : Nat) (h : Hdr) (s : State) : ∀ p ∈ [(1, Instr.pwrReqP1 t h), (2, .pwrReqP2 t h), (3, .pwrReqP3 t h)],
    p.1 ≠ 0 ∧ exec p.2 s = .next (writeRow h Ob.PWR_REQ p.1 ownPwrReq (s.at t)) := by
  intro p hp
  simp only [List.mem_cons, List.not_mem_nil, or_false] at hp
  obtain rfl | rfl | rfl := hp
  · exact ⟨Nat.succ_ne_zero _, rfl⟩
  · exact ⟨Nat.succ_ne_zero _, rfl⟩
  · exact ⟨Nat.succ_ne_zero _, rfl⟩

/-- Settles O43: a request of a sleep state enters its list or is answered, and a request of P0 ends what runs. -/
theorem powerRequestsBeginAndEnd : Obligations.PowerRequestsBeginAndEnd := by
  unfold Obligations.PowerRequestsBeginAndEnd
  intro t h s
  refine ⟨fun h1 h2 hp => ⟨fun ht hop hw => ?_, fun ht hop hw => ?_, fun ht hop hw => ?_⟩, ?_, fun ht => ⟨fun hb => ?_, fun h1 h2 =>
    ⟨fun hp => ?_, fun hp hwk => ?_, fun hp => ?_⟩⟩⟩
  · obtain ⟨s', he, hentry, htarget, hstep, hstopped, hstate, harmed, hboot⟩ :=
      writePwrReq_enters ht (by decide) h1 h2 hp (.inl hop) hw
    have hx : exec (.pwrReqP1 t h) s = .next s' := congrArg Host.Outcome.next he
    exact ⟨s', hx, hentry, htarget, hstep, hstopped, hstate, harmed, exec_mem hx (by simp [footprint]), hboot⟩
  · obtain ⟨s', he, hentry, htarget, hstep, hstopped, hstate, harmed, hboot⟩ :=
      writePwrReq_enters ht (by decide) h1 h2 hp (.inl hop) hw
    have hx : exec (.pwrReqP2 t h) s = .next s' := congrArg Host.Outcome.next he
    exact ⟨s', hx, hentry, htarget, hstep, hstopped, hstate, harmed, exec_mem hx (by simp [footprint]), hboot⟩
  · obtain ⟨s', he, hentry, htarget, hstep, hstopped, hstate, harmed, hboot⟩ :=
      writePwrReq_enters ht (by decide) h1 h2 hp (hop.imp id fun h => ⟨rfl, h⟩) hw
    have hx : exec (.pwrReqP3 t h) s = .next s' := congrArg Host.Outcome.next he
    exact ⟨s', hx, hentry, htarget, hstep, hstopped, hstate, harmed, exec_mem hx (by simp [footprint]), hboot⟩
  · intro v c hc ht
    obtain ⟨hv, hx⟩ := exec_pwrReq t h s _ hc
    refine ⟨fun hb => ?_, fun h1 h2 hn => ?_⟩
    · obtain ⟨hsame, hans⟩ := writeRow_answers ht (show St.busy < 256 by decide)
        (ownPwrReq_busy hv (by rw [counted_pwr]; exact hb))
      exact ⟨_, hx, hans, hsame⟩
    · obtain ⟨hsame, hans⟩ := writeRow_answers ht (show St.state < 256 by decide)
        (ownPwrReq_state hv (by rw [counted_pwr]; exact h1) (by rw [counted_pwr]; exact h2)
          (by rw [counted_pwr, counted_boot]; exact hn))
      exact ⟨_, hx, hans, hsame⟩
  · have hb' : (counted (s.at t) h).pwr.entry = .inProgress ∨ (counted (s.at t) h).pwr.entry = .waitRetry := by
      rw [counted_pwr]
      exact hb
    have hx : exec (.pwrReqP0 t h) s = .next (writeRow h Ob.PWR_REQ 0 ownPwrReq (s.at t)) := rfl
    obtain ⟨hentry, hcause, hstep, hstopped, hcnt⟩ := entryEnds_aborted hb' (show 2 < 6 by decide)
    refine ⟨_, hx, ?_, ?_, ?_, ?_, ?_, exec_mem hx (by simp [footprint]), ?_⟩
    · rw [writeRow_of_taken ht, ownPwrReq_aborts hb', answerTaken_pwr]
      exact hentry
    · rw [writeRow_of_taken ht, ownPwrReq_aborts hb', answerTaken_pwr]
      exact hcause
    · rw [writeRow_of_taken ht, ownPwrReq_aborts hb', answerTaken_pwr]
      exact hstep.trans (by rw [counted_pwr]; rfl)
    · rw [writeRow_of_taken ht, ownPwrReq_aborts hb', answerTaken_pwr]
      exact hstopped
    · rw [oget_writeRow ht (by decide), ownPwrReq_aborts hb', hcnt, oget_counted_at h t s (by decide) (by decide)]
    · rw [writeRow_of_taken ht, ownPwrReq_aborts hb', answerTaken_boot]
      exact ((frameOf (kept_entryEnds 6) _).boot (by decide)).trans (counted_boot h (s.at t))
  · have hown := ownPwrReq_wakes (s := counted (s.at t) h) (by rw [counted_pwr]; exact h1) (by rw [counted_pwr]; exact h2)
      (.inl (by rw [counted_pwr]; exact hp))
    have hx : exec (.pwrReqP0 t h) s = .next (writeRow h Ob.PWR_REQ 0 ownPwrReq (s.at t)) := rfl
    refine ⟨_, hx, ?_, ?_, exec_mem hx (by simp [footprint]), ?_⟩
    · rw [writeRow_of_taken ht, hown, answerTaken_pwr, wakeActs_p1 (by rw [counted_pwr]; exact h1)
        (by rw [counted_pwr]; exact h2) (by rw [counted_pwr]; exact hp), evc_pwr]
      rfl
    · rw [oget_writeRow ht (by decide), hown, wakeActs_p1 (by rw [counted_pwr]; exact h1)
        (by rw [counted_pwr]; exact h2) (by rw [counted_pwr]; exact hp), oget_evc _ _ _ (by decide), oget_cnt_same]
      refine congrArg (satInc _) ((oget_oset_ne (k := Ob.PWR_LASTWAKE) _ _ (by decide)).trans ?_)
      exact oget_counted_at h t s (by decide) (by decide)
    · rw [writeRow_of_taken ht, hown, answerTaken_boot]
      exact ((frameOf (kept_wakeActs 4) _).boot (by decide)).trans (counted_boot h (s.at t))
  · have hown := ownPwrReq_wakes (s := counted (s.at t) h) (by rw [counted_pwr]; exact h1) (by rw [counted_pwr]; exact h2)
      (.inr (by rw [counted_pwr]; exact hp))
    obtain ⟨hstate, hwaking, hcnt⟩ := wakeActs_p2 (src := 4)
      (s := { counted (s.at t) h with pwr := { (counted (s.at t) h).pwr with reqWake := true } })
      (by rw [counted_pwr]; exact h1) (by rw [counted_pwr]; exact h2) (by rw [counted_pwr]; exact hp)
      (by rw [counted_pwr]; exact hwk)
    have hx : exec (.pwrReqP0 t h) s = .next (writeRow h Ob.PWR_REQ 0 ownPwrReq (s.at t)) := rfl
    refine ⟨_, hx, ?_, ?_, ?_, exec_mem hx (by simp [footprint]), ?_⟩
    · rw [writeRow_of_taken ht, hown, answerTaken_pwr]
      exact hstate
    · rw [writeRow_of_taken ht, hown, answerTaken_pwr]
      exact hwaking
    · rw [oget_writeRow ht (by decide), hown, hcnt]
      exact congrArg (satInc _) (oget_counted_at h t s (by decide) (by decide))
    · rw [writeRow_of_taken ht, hown, answerTaken_boot]
      exact ((frameOf (kept_wakeActs 4) _).boot (by decide)).trans (counted_boot h (s.at t))
  · obtain ⟨hsame, hans⟩ := writeRow_answers ht (show St.state < 256 by decide)
      (ownPwrReq_awake (by rw [counted_pwr]; exact h1) (by rw [counted_pwr]; exact h2) (by rw [counted_pwr]; exact hp))
    exact ⟨_, rfl, hans, hsame⟩

end Sys2Proof.Machine
end

section
/-!
SUPPORT. The steps of the sleep handshake (R432): what a step that is accepted leaves.
-/

namespace Sys2Proof.Machine

open Sys2Proof

/-! ## No step takes time -/

theorem each_now {α : Type} {f : α → State → State} (hf : ∀ x a, (f x a).now = a.now) (xs : List α) (s : State) :
    (each xs f s).now = s.now := each_keeps (obs := State.now) fun x _ a => hf x a

theorem holdBlack_now (b : Nat) (release : Bool) (s : State) : (holdBlack b release s).now = s.now := by
  unfold holdBlack
  dsimp only
  split <;> rfl

theorem refreshBands_now (s : State) : (refreshBands s).now = s.now := by
  refine each_now (fun b a => ?_) _ _
  unfold setBandState
  dsimp only
  split
  · rfl
  · rfl

theorem fallStep_now (b : Nat) (s : State) : (fallStep b s).now = s.now := by
  unfold fallStep fallIn fallOn
  split
  · dsimp only
    split
    · rfl
    · rfl
  · rfl

theorem fallDone_now (b : Nat) (s : State) : (fallDone b s).now = s.now := by
  refine Eq.trans ?_ (fallStep_now b s)
  unfold fallDone discharged
  dsimp only
  split
  · rfl
  · rfl

theorem fwJob_now (n dir elem flip w h : Nat) (blocks : List (Option (List (List Nat)))) (bad : List Nat) (s : State) :
    (fwJob n dir elem flip w h blocks bad s).1.now = s.now := by
  unfold fwJob whenDo
  dsimp only
  rw [setSlot_now, iter_now (evc_now _)]
  have hswitch (a : State) : (evc 0xAE (cnt Ob.LAKE_SWITCHES a)).now = a.now := evc_now _ _
  split
  · rw [readPoison_now]
    split
    · exact iter_now hswitch _ _
    · rfl
  · split
    · exact iter_now hswitch _ _
    · rfl

theorem writeDose_now (s : State) : (writeDose s).now = s.now := by
  have hdose (a : State) (w : Wear) : ({ a with wear := w } : State).now = a.now := rfl
  unfold writeDose
  exact (hdose _ _).trans ((jrnAdd_now _ _ _ _ _ _ _).trans (fwJob_now _ _ _ _ _ _ _ _ _))

/-- The same moment. A predicate of its own, so that no proof evaluates a state to read its time. -/
def SameNow (s s' : State) : Prop := s'.now = s.now

theorem SameNow.ite {c : Prop} [Decidable c] {s a b : State} (ha : SameNow s a) (hb : SameNow s b) :
    SameNow s (if c then a else b) := by
  split
  · exact ha
  · exact hb

theorem SameNow.showRing {s a : State} (ha : SameNow s a) : SameNow s (showRing a) := (showRing_now a).trans ha

theorem SameNow.evc {s a : State} (code : Nat) (ha : SameNow s a) : SameNow s (evc code a) := (evc_now code a).trans ha

theorem SameNow.jrn {s a : State} (j : Jrn) (ha : SameNow s a) : SameNow s { a with jrn := j } := ha

theorem SameNow.startCompact {s a : State} (ha : SameNow s a) : SameNow s (startCompact a) := by
  unfold Machine.startCompact
  exact (ha.jrn _).ite (ha.jrn _)

theorem sameNow_programHead (r : JRec) (rest : List JRec) (s : State) : SameNow s (programHead r rest s) := by
  have hiter : SameNow s (iter (Machine.evc 0xD3) (newSectors s (recSize r)) (Machine.evc 0xD0 s)) :=
    (iter_now (fun a => evc_now _ a) _ _).trans (evc_now _ _)
  unfold programHead
  extract_lets n coded s1 _ s2 s3
  have h2 : SameNow s s2 := hiter.jrn _
  have h3 : SameNow s s3 := ((h2.evc _).ite h2).showRing
  exact h3.startCompact.ite h3

theorem journalEntry_now (s : State) : (journalEntry s).now = s.now := by
  have hdrain (a : State) : (drainBuffer a).now = a.now := by
    refine each_now (fun _ st => ?_) _ _
    split
    · exact sameNow_programHead _ _ _
    · rfl
  unfold journalEntry
  dsimp only
  rw [hdrain, jrnAdd_now, jrnAdd_now]
  split
  · exact writeDose_now s
  · rfl

theorem sendNext_now (s : State) : (sendNext s).now = s.now := by
  have hblocks (ns : List Nat) (ptr : Nat) (f : Nat → List (BitVec 32)) (a : State) : (sendBlocks ns 0 ptr f a).now = a.now := by
    unfold sendBlocks
    rw [modPxl_now]
    exact each_now (f := fun n => sendLane _ (f n) n) (fun n c => rfl) _ _
  unfold sendNext
  split
  · rfl
  · split
    · rfl
    · unfold sendBack sendStream
      exact (each_now (fun b c => hblocks _ _ _ c) _ _).trans rfl

theorem flushLinkstate_now (n : Nat) (s : State) : (flushLinkstate n s).now = s.now := by
  induction n generalizing s with
  | zero => rfl
  | succ n ih =>
    unfold flushLinkstate
    split
    · exact (ih _).trans (sendNext_now s)
    · rfl

theorem gateBack_now (n : Nat) (s : State) : (gateBack n s).now = s.now := by
  unfold gateBack xflush
  dsimp only
  split
  · split
    · rw [setCross_now, logEv_now, setCross_now, evc_now, setCross_now]
    · rw [setCross_now, evc_now, setCross_now]
  · rfl

theorem doStep_now (n : Nat) (s : State) : (doStep n s).now = s.now := by
  unfold doStep
  dsimp only
  split
  · rfl
  · rfl
  · exact journalEntry_now s
  · rw [refreshBands_now]
    split
    · rfl
    · exact each_now (fun b a => holdBlack_now b false a) _ _
  · exact each_now (fun b a => fallDone_now b a) _ _
  · rw [modPxl_now]
    split
    · exact (flushLinkstate_now _ _).trans rfl
    · rfl
  · rfl
  · rfl
  · rfl
  · exact (gateBack_now 1 _).trans (gateBack_now 0 s)
  · split
    · rfl
    · rfl
  · rfl

/-! ## What a step does -/

/-- What the handshake reads of the power state. -/
def handshakeView (p : Pwr) : EntryState × Nat × Nat × Nat := (p.entry, p.target, p.step, p.stopped)

theorem doStep_handshakeView (n : Nat) (s : State) : handshakeView (doStep n s).pwr = handshakeView s.pwr := by
  unfold doStep
  dsimp only
  split
  · rfl
  · rfl
  · rw [(frameOf kept_journalEntry s).pwr (by decide)]
  · rw [(frameOf kept_refreshBands _).pwr (by decide)]
    split
    · rfl
    · exact congrArg handshakeView (each_keeps (obs := State.pwr) fun b _ a => (frameOf (kept_holdBlack b false) a).pwr (by decide))
  · exact congrArg handshakeView (each_keeps (obs := State.pwr)
      (s := { s with pins := { s.pins with pen3 := false } }) fun b _ a => (frameOf (kept_fallDone b) a).pwr (by decide))
  · rw [modPxl_pwr]
    split
    · rw [(frameOf (kept_flushLinkstate _) _).pwr (by decide)]
      rfl
    · rfl
  · rfl
  · rfl
  · rfl
  · rw [(frameOf (kept_gateBack 1) _).pwr (by decide), (frameOf (kept_gateBack 0) _).pwr (by decide)]
  · split
    · rfl
    · rfl
  · rfl

/-- The rails of every band fall with PEN3. -/
theorem doStep_pen3 (s : State) : (doStep 8 s).pins.pen3 = false := by
  obtain ⟨pins, pnl, hr⟩ := railsOnly_each (fun b a => railsOnly_fallDone b a) (usedBands s)
    { s with pins := { s.pins with pen3 := false } }
  have he : (doStep 8 s).pins = (each (usedBands s) fallDone { s with pins := { s.pins with pen3 := false } }).pins := rfl
  rw [he, hr]

theorem askStep_pxl (n : Nat) (s : State) : ∃ req, (askStep n s).pxl = { s.pxl with sleepReq := req } := by
  unfold askStep
  dsimp only
  split
  · split
    · exact ⟨_, rfl⟩
    · exact ⟨_, rfl⟩
  · split
    · exact ⟨s.pxl.sleepReq, (frameOf (kept_railDown _) _).pxl (by decide)⟩
    · exact ⟨_, rfl⟩

/-- The rails are asked to fall once in an entry. -/
theorem stepAfter_rails (target : Nat) : stepAfter target 8 ≠ 8 := by
  by_cases h1 : target = 1
  · subst h1
    decide
  · by_cases h2 : target = 2
    · subst h2
      decide
    · have hl (n : Nat) : stepListed target n = decide (1 ≤ n ∧ n ≤ 17) := by
        unfold stepListed
        rw [if_neg h1, if_neg h2]
      unfold stepAfter
      simp only [hl]
      decide

/-- A step that is not the last gives way to the next of the list. -/
theorem acceptStep_next {n : Nat} (s : State) (h : n ≠ 17) : acceptStep n s = askStep (stepAfter s.pwr.target n)
    (doStep n { s with pwr := { s.pwr with stopped := setBit s.pwr.stopped n } }) := by
  have hv := doStep_handshakeView n { s with pwr := { s.pwr with stopped := setBit s.pwr.stopped n } }
  have ht := congrArg (fun v => v.2.1) hv
  unfold acceptStep
  dsimp only
  rw [if_neg h]
  exact congrArg (fun k => askStep (stepAfter k n) (doStep n { s with pwr := { s.pwr with stopped := setBit s.pwr.stopped n } })) ht

/-- The last step reaches the state. -/
theorem acceptStep_last (s : State) :
    acceptStep 17 s = stateReached { s with pwr := { s.pwr with stopped := setBit s.pwr.stopped 17 } } := rfl

/-! ## The state is reached (R431, R436) -/

theorem dropSlices_frame (s : State) : s.sameBut [.cal] (dropSlices s) := frameOf kept_dropSlices s

/-- A state with another power state has the same sources where its latches are the same. -/
theorem wakeView_setPwr {d s : State} {p : Pwr} (hobj : d.obj = s.obj) (hpins : d.pins = s.pins) (hpxl : d.pxl = s.pxl)
    (hp : wakeFlags p = wakeFlags s.pwr) : wakeView { d with pwr := p } = wakeView s := by
  unfold wakeView
  dsimp only
  rw [← hp, ← hpxl, ← hpins, oget_congr (s := d) hobj.symm, oget_congr (s := d) hobj.symm]
  rfl

/-- The state that is reached, from the state `d` without its slices. -/
theorem stateReached_eq {s d : State} (hd : dropSlices { s with pwr := { s.pwr with entry := .done } } = d) : stateReached s =
    if s.pwr.target = 1 then sampleWakes { d with pwr := { d.pwr with state := .p1 } }
    else if s.pwr.target = 2 then
      sampleWakes (stepGoal (refreshBands { d with pwr := { d.pwr with state := .p2, goal := some (oget d Ob.PWR_VP2) } }))
    else { d with pwr := { d.pwr with state := .p3, p3Off := true, stepAt := d.now, p3At := d.now },
                  boot := { d.boot with stage := .asleep } } := by
  subst hd
  rfl

theorem stateReached_p1 {s : State} (ht : s.pwr.target = 1) (hw : wakeStanding s 1 = none) :
    (stateReached s).pwr.state = .p1 ∧ (stateReached s).pwr.entry = .done ∧ (stateReached s).boot = s.boot := by
  have hf := dropSlices_frame { s with pwr := { s.pwr with entry := .done } }
  have he := stateReached_eq (s := s) rfl
  generalize dropSlices { s with pwr := { s.pwr with entry := .done } } = d at hf he
  have hpwr := hf.pwr (by decide)
  have hobj : d.obj = s.obj := hf.obj (by decide)
  have hpins : d.pins = s.pins := hf.pins (by decide)
  have hpxl : d.pxl = s.pxl := hf.pxl (by decide)
  have hboot : d.boot = s.boot := hf.boot (by decide)
  rw [he, if_pos ht, hpwr, sampleWakes_none]
  · exact ⟨rfl, rfl, hboot⟩
  · refine (wakeStanding_congr (wakeView_setPwr (s := s) (d := d) (p := { s.pwr with entry := .done, state := .p1 })
      hobj hpins hpxl rfl) _).trans ?_
    dsimp only
    rw [ht]
    exact hw

theorem refreshBands_wakeN (s : State) : (refreshBands s).pins.wakeN = s.pins.wakeN := by
  unfold refreshBands
  refine each_keeps (obs := fun a : State => a.pins.wakeN) fun b _ a => ?_
  unfold setBandState
  dsimp only
  split
  · rfl
  · rfl

theorem stepGoal_wakeView (s : State) : wakeView (stepGoal s) = wakeView s := by
  obtain ⟨req, out, goal, hp⟩ := stepGoal_pwr s
  unfold wakeView
  rw [oget_stepGoal _ (by decide), oget_stepGoal _ (by decide), hp, (frameOf kept_stepGoal s).pins (by decide),
    (frameOf kept_stepGoal s).pxl (by decide)]
  rfl

theorem refreshBands_wakeView (s : State) : wakeView (refreshBands s) = wakeView s := by
  have hf := frameOf kept_refreshBands s
  unfold wakeView
  rw [oget_congr (hf.obj (by decide)), oget_congr (hf.obj (by decide)), hf.pwr (by decide), hf.pxl (by decide),
    refreshBands_wakeN]

theorem stateReached_p2 {s : State} (ht : s.pwr.target = 2) (hw : wakeStanding s 2 = none) :
    (stateReached s).pwr.state = .p2 ∧ (stateReached s).pwr.entry = .done ∧ (stateReached s).boot = s.boot := by
  have hf := dropSlices_frame { s with pwr := { s.pwr with entry := .done } }
  have he := stateReached_eq (s := s) rfl
  generalize dropSlices { s with pwr := { s.pwr with entry := .done } } = d at hf he
  have hpwr := hf.pwr (by decide)
  have hobj : d.obj = s.obj := hf.obj (by decide)
  have hpins : d.pins = s.pins := hf.pins (by decide)
  have hpxl : d.pxl = s.pxl := hf.pxl (by decide)
  have hboot : d.boot = s.boot := hf.boot (by decide)
  rw [if_neg (by rw [ht]; decide), if_pos ht, hpwr] at he
  have hview := wakeView_setPwr (s := s) (d := d)
    (p := { s.pwr with entry := .done, state := .p2, goal := some (oget d Ob.PWR_VP2) }) hobj hpins hpxl rfl
  obtain ⟨a, ha⟩ : ∃ a : State, a = { d with
    pwr := { s.pwr with entry := .done, state := .p2, goal := some (oget d Ob.PWR_VP2) } } := ⟨_, rfl⟩
  have hap : a.pwr = { s.pwr with entry := .done, state := .p2, goal := some (oget d Ob.PWR_VP2) } := by rw [ha]
  have hab : a.boot = s.boot := by rw [ha, ← hboot]
  rw [← ha] at hview
  obtain ⟨req, out, goal', hg⟩ := stepGoal_pwr (refreshBands a)
  rw [(frameOf kept_refreshBands a).pwr (by decide), hap] at hg
  have hes : stateReached s = stepGoal (refreshBands a) := by
    rw [he, ha]
    refine sampleWakes_none ?_
    rw [← ha, wakeStanding_congr ((stepGoal_wakeView _).trans ((refreshBands_wakeView a).trans hview)), hg]
    dsimp only
    rw [ht]
    exact hw
  rw [hes, hg]
  refine ⟨rfl, rfl, ?_⟩
  rw [(frameOf kept_stepGoal _).boot (by decide), (frameOf kept_refreshBands a).boot (by decide), hab]

theorem stateReached_p3 {s : State} (ht : s.pwr.target = 3) :
    (stateReached s).pwr.state = .p3 ∧ (stateReached s).pwr.entry = .done ∧ (stateReached s).pwr.p3Off = true ∧
    (stateReached s).boot.stage = .asleep := by
  have hf := dropSlices_frame { s with pwr := { s.pwr with entry := .done } }
  have he := stateReached_eq (s := s) rfl
  generalize dropSlices { s with pwr := { s.pwr with entry := .done } } = d at hf he
  rw [he, if_neg (by rw [ht]; decide), if_neg (by rw [ht]; decide), hf.pwr (by decide)]
  exact ⟨rfl, rfl, rfl, rfl⟩

end Sys2Proof.Machine
end

section
/-!
PROOF. The sleep handshake (R432 to R435): O44.
-/

namespace Sys2Proof.Machine

open Sys2Proof

/-! ## The answers (R432) -/

/-- An answer in its time ends the entry where the block refuses, and otherwise takes the step, once the rails are down. -/
theorem exec_handshakeAnswer {t : Nat} {answer : SleepAnswer} {s : State} (hst : s.boot.stage = .started)
    (he : s.pwr.entry = .inProgress) (hov : stepOverdue (s.at t) 1 = false) :
    exec (.handshakeAnswer t answer) s = .next (
      if (match answer with | .refuse _ => decide (s.pwr.step ≤ 6) | .accept => false) = true ∨ stepRefuses (s.at t) s.pwr.step
      then entryEnds 1 (s.at t)
      else if s.pwr.step = 8 ∧ !railsDown (s.at t) then s.at t
      else acceptStep s.pwr.step (s.at t)) :=
  congrArg Host.Outcome.next ((if_neg (by simp [hst, he])).trans (if_neg (by rw [hov]; exact Bool.false_ne_true)))

theorem exec_handshake_accepted {t : Nat} {s : State} (hst : s.boot.stage = .started) (he : s.pwr.entry = .inProgress)
    (hov : stepOverdue (s.at t) 1 = false) (hr : stepRefuses (s.at t) s.pwr.step = false)
    (h8 : s.pwr.step ≠ 8 ∨ railsDown s = true) : exec (.handshakeAnswer t .accept) s = .next (acceptStep s.pwr.step (s.at t)) := by
  have hrails : railsDown (s.at t) = railsDown s := rfl
  rw [exec_handshakeAnswer hst he hov, if_neg (by simp [hr]), hrails, if_neg]
  rintro ⟨hs, hd⟩
  rcases h8 with h8 | h8
  · exact h8 hs
  · simp [h8] at hd

theorem exec_handshake_refused {t : Nat} {answer : SleepAnswer} {s : State} (hst : s.boot.stage = .started)
    (he : s.pwr.entry = .inProgress) (hov : stepOverdue (s.at t) 1 = false)
    (hr : (∃ cause, answer = .refuse cause ∧ s.pwr.step ≤ 6) ∨ stepRefuses (s.at t) s.pwr.step = true) :
    exec (.handshakeAnswer t answer) s = .next (entryEnds 1 (s.at t)) := by
  rw [exec_handshakeAnswer hst he hov, if_pos]
  rcases hr with ⟨cause, rfl, hs⟩ | hr
  · exact .inl (by simpa using hs)
  · exact .inr hr

/-- What the acceptance of a step leaves, the last one apart. -/
theorem acceptStep_spec {n : Nat} {s : State} (h : n ≠ 17) :
    (acceptStep n s).pwr.step = stepAfter s.pwr.target n ∧ (acceptStep n s).pwr.stopped = setBit s.pwr.stopped n ∧
    (acceptStep n s).pwr.entry = s.pwr.entry ∧ (acceptStep n s).pwr.stepAt = s.now ∧
    (n = 3 → (acceptStep n s).mgt.stopped = true) ∧ (n = 4 → (acceptStep n s).pxl.fwdAsleep = true) ∧
    (n = 8 → (acceptStep n s).pins.pen3 = false) ∧ (n = 10 → (acceptStep n s).pxl.backAsleep = true) ∧
    (n = 12 → (acceptStep n s).fst.selfRef = decide (s.pwr.target ≠ 3)) ∧ (acceptStep n s).boot = s.boot := by
  obtain ⟨c, hc⟩ : ∃ c : State, c = { s with pwr := { s.pwr with stopped := setBit s.pwr.stopped n } } := ⟨_, rfl⟩
  have hcn : c.now = s.now := by rw [hc]
  have hcb : c.boot = s.boot := by rw [hc]
  have hct : c.pwr.target = s.pwr.target := by rw [hc]
  have hv : handshakeView (doStep n c).pwr = (s.pwr.entry, s.pwr.target, s.pwr.step, setBit s.pwr.stopped n) := by
    rw [doStep_handshakeView, hc]
    rfl
  simp only [handshakeView, Prod.mk.injEq] at hv
  obtain ⟨hentry, -, -, hstopped⟩ := hv
  obtain ⟨req, hpxl⟩ := askStep_pxl (stepAfter s.pwr.target n) (doStep n c)
  rw [acceptStep_next s h, ← hc, askStep_pwr, hpxl]
  refine ⟨rfl, hstopped, hentry, (doStep_now n c).trans hcn, ?_, ?_, ?_, ?_, ?_, ?_⟩
  · rintro rfl
    rw [(frameOf (kept_askStep _) _).mgt (by decide)]
    rfl
  · rintro rfl
    rfl
  · rintro rfl
    rw [askStep_pins _ (stepAfter_rails _)]
    exact doStep_pen3 c
  · rintro rfl
    rfl
  · rintro rfl
    rw [(frameOf (kept_askStep _) _).fst (by decide)]
    change (!decide (c.pwr.target = 3)) = _
    rw [hct, decide_not]
  · rw [(frameOf (kept_askStep _) _).boot (by decide), (frameOf (kept_doStep n) c).boot (by decide), hcb]

/-- Beyond the steps that may refuse, a refusal is taken for an acceptance. -/
theorem exec_handshake_beyond (t : Nat) {s : State} (cause : BitVec 8) (h : 6 < s.pwr.step) :
    exec (.handshakeAnswer t (.refuse cause)) s = exec (.handshakeAnswer t .accept) s := by
  have hd : decide ((s.at t).pwr.step ≤ 6) = false := decide_eq_false (not_le.mpr h)
  change Host.Outcome.next (if _ then _ else if _ then _ else if decide ((s.at t).pwr.step ≤ 6) = true ∨ _ then _ else _) =
    Host.Outcome.next (if _ then _ else if _ then _ else if false = true ∨ _ then _ else _)
  rw [hd]

theorem entryEnds_boot (cause : Nat) (s : State) : (entryEnds cause s).boot = s.boot :=
  (frameOf (kept_entryEnds cause) s).boot (by decide)

/-- Settles O44: what an answer, a refusal, a silence and a retry leave of the entry. -/
theorem handshakesStep : Obligations.HandshakesStep := by
  unfold Obligations.HandshakesStep
  intro t s hst
  refine ⟨fun he hov => ⟨?_, ?_, ?_, ?_, ?_, ?_, ?_, ?_⟩, fun he hov => ⟨?_, ?_⟩, ?_, ?_, ?_, ?_⟩
  · intro _ hlt hr h8
    have hx := exec_handshake_accepted hst he hov hr h8
    obtain ⟨hstep, hstopped, hentry, hat, h3, h4, h8', h10, h12, hboot⟩ := acceptStep_spec (s := s.at t) hlt.ne
    exact ⟨_, hx, hstep, hstopped, hentry.trans he, hat, h3, h4, h8', h10, h12, exec_mem hx (by simp [footprint]), hboot⟩
  · intro h8 hd
    have hrails : railsDown (s.at t) = false := hd
    rw [exec_handshakeAnswer hst he hov, if_neg (by rw [h8]; simp [stepRefuses]), if_pos (by rw [hrails]; exact ⟨h8, rfl⟩)]
  · intro h17 htg hw
    have hx := exec_handshake_accepted (t := t) hst he hov (by rw [h17]; rfl) (.inl (by rw [h17]; decide))
    rw [h17, acceptStep_last] at hx
    obtain ⟨hs, hd, hb⟩ := stateReached_p1 (s := { s.at t with pwr := { (s.at t).pwr with stopped := setBit (s.at t).pwr.stopped 17 } })
      htg hw
    exact ⟨_, hx, hs, hd, exec_mem hx (by simp [footprint]), hb⟩
  · intro h17 htg hw
    have hx := exec_handshake_accepted (t := t) hst he hov (by rw [h17]; rfl) (.inl (by rw [h17]; decide))
    rw [h17, acceptStep_last] at hx
    obtain ⟨hs, hd, hb⟩ := stateReached_p2 (s := { s.at t with pwr := { (s.at t).pwr with stopped := setBit (s.at t).pwr.stopped 17 } })
      htg hw
    exact ⟨_, hx, hs, hd, exec_mem hx (by simp [footprint]), hb⟩
  · intro h17 htg
    have hx := exec_handshake_accepted (t := t) hst he hov (by rw [h17]; rfl) (.inl (by rw [h17]; decide))
    rw [h17, acceptStep_last] at hx
    obtain ⟨hs, hd, ho, hb⟩ :=
      stateReached_p3 (s := { s.at t with pwr := { (s.at t).pwr with stopped := setBit (s.at t).pwr.stopped 17 } }) htg
    exact ⟨_, hx, hs, hd, ho, hb, exec_mem hx (by simp [footprint])⟩
  · intro cause h6 hret
    have hx := exec_handshake_refused hst he hov (.inl ⟨cause, rfl, h6⟩)
    obtain ⟨a, ha⟩ := entryEnds_retried (s := s.at t) (cause := 1) (.inl he) (by decide) hret
    refine ⟨_, hx, ?_, ?_, ?_, ?_, exec_mem hx (by simp [footprint]), entryEnds_boot _ _⟩ <;> rw [ha] <;> rfl
  · intro hr hret
    have hx := exec_handshake_refused (answer := .accept) hst he hov (.inr hr)
    obtain ⟨a, ha⟩ := entryEnds_retried (s := s.at t) (cause := 1) (.inl he) (by decide) hret
    refine ⟨_, hx, ?_, ?_, ?_, exec_mem hx (by simp [footprint]), entryEnds_boot _ _⟩ <;> rw [ha] <;> rfl
  · exact fun cause h6 => exec_handshake_beyond t cause h6
  · intro hret
    have hx : exec (.handshakeTimeout t) s = .next (entryEnds 2 (s.at t)) := congrArg Host.Outcome.next (if_pos ⟨he, hst, hov⟩)
    obtain ⟨a, ha⟩ := entryEnds_retried (s := s.at t) (cause := 2) (.inl he) (by decide) hret
    refine ⟨_, hx, ?_, ?_, ?_, ?_, exec_mem hx (by simp [footprint]), entryEnds_boot _ _⟩ <;> rw [ha] <;> rfl
  · intro hret
    have hx : exec (.handshakeTimeout t) s = .next (entryEnds 2 (s.at t)) := congrArg Host.Outcome.next (if_pos ⟨he, hst, hov⟩)
    obtain ⟨hf, hc, hg⟩ := entryEnds_failed (s := s.at t) (cause := 2) (.inl he) (by decide) hret
    exact ⟨_, hx, hf, hc, hg, exec_mem hx (by simp [footprint]), entryEnds_boot _ _⟩
  · intro hn
    refine congrArg Host.Outcome.next (if_neg ?_)
    rintro ⟨he, -, hov⟩
    rcases hn with hn | hn
    · exact hn he
    · exact Bool.false_ne_true (hn.symm.trans hov)
  · exact fun hn a => congrArg Host.Outcome.next (if_pos (.inl hn))
  · intro he hat hw
    have hx : exec (.sleepRetryTimer t) s =
        .next (startEntry { s.at t with pwr := { (s.at t).pwr with retries := (s.at t).pwr.retries + 1 } }) :=
      congrArg Host.Outcome.next (if_pos ⟨he, hst, hat⟩)
    have hs := startEntry_quiet (s := { s.at t with pwr := { (s.at t).pwr with retries := (s.at t).pwr.retries + 1 } }) hw
    refine ⟨_, hx, ?_, ?_, ?_, exec_mem hx (by simp [footprint]), ?_⟩
    · rw [hs, askStep_pwr]
    · rw [hs, askStep_pwr]
      rfl
    · rw [hs, askStep_pwr, stepAfter_start]
      rfl
    · rw [hs]
      exact (frameOf (kept_askStep _) _).boot (by decide)
  · rintro (hn | hlt)
    · exact congrArg Host.Outcome.next (if_neg fun h => hn h.1)
    · exact congrArg Host.Outcome.next (if_neg fun h => absurd h.2.2 (not_le.mpr hlt))

end Sys2Proof.Machine
end

section
/-!
PROOF. The ways out of the sleep states (R39, R40, R436, R441, R442): O45.
-/

namespace Sys2Proof.Machine

open Sys2Proof

/-! ## The sources of P3 -/

/-- A sample in P3 changes the start-up and the record of the wake alone. -/
theorem p3Sample_frame (s : State) : s.sameBut [.obj, .boot] (p3Sample s) := frameOf kept_p3Sample s

theorem oget_p3Sample {k : Nat} (s : State) (h : k ≠ Ob.PWR_WAKECNT) (h' : k ≠ Ob.PWR_LASTWAKE) :
    oget (p3Sample s) k = oget s k := by
  unfold p3Sample
  split
  · split
    · exact (oget_cnt_ne _ h).trans (oget_oset_ne _ _ h')
    · rfl
  · rfl

/-- A source that stands in P3 starts the supplies, after its slot where it is the phrase. -/
theorem p3Sample_wakes {s : State} {src : Nat} (hst : s.boot.stage = .asleep) (ho : s.pwr.p3Off = false)
    (hw : wakeStanding s 3 = some src) : p3Sample s = p3Wake src s := by
  unfold p3Sample
  rw [if_pos ⟨hst, by rw [ho]; rfl⟩, hw]

theorem p3Wake_boot (src : Nat) (s : State) : (p3Wake src s).boot =
    { s.boot with fromP3 := true, stage := if src = 2 then .wakeSlot else .waitVioAb, stageAt := (p3Wake src s).boot.stageAt } := rfl

theorem oget_p3Wake_last (src : Nat) (s : State) : oget (p3Wake src s) Ob.PWR_LASTWAKE = 48 + src :=
  (oget_cnt_ne (k := Ob.PWR_WAKECNT) (lastWake false 3 src s) (by decide)).trans ((oget_oset_same ..).trans (by simp [b2n]))

/-- The pin at its level is the source with the lowest code. -/
theorem wakeStanding_pin {s : State} (hen : bit (oget s Ob.PWR_WAKEEN) 0 = true) (hm : oget s Ob.PWR_WAKEMODE = 0)
    (hp : s.pins.wakeN = true) (n : Nat) : wakeStanding s n = some 1 := by
  unfold wakeStanding wakeNActs
  rw [if_pos (by simp [hen, hm, hp])]

theorem wakeStanding_timer {s : State} (h : s.pwr.timerWake = true) (n : Nat) : ∃ src, wakeStanding s n = some src := by
  unfold wakeStanding
  simp only [h, if_true]
  split_ifs
  · exact ⟨_, rfl⟩
  · exact ⟨_, rfl⟩
  · exact ⟨_, rfl⟩
  · exact ⟨_, rfl⟩
  · exact ⟨_, rfl⟩

theorem sampleWakes_started {s : State} {src : Nat} (hst : s.boot.stage = .started)
    (hw : wakeStanding s s.pwr.target = some src) : sampleWakes s = wakeActs src s := by
  unfold sampleWakes
  rw [if_pos hst, hw]

theorem sampleWakes_asleep {s : State} {src : Nat} (hst : s.boot.stage = .asleep) (ho : s.pwr.p3Off = false)
    (hw : wakeStanding s 3 = some src) : sampleWakes s = p3Wake src s := by
  unfold sampleWakes
  rw [if_neg (by rw [hst]; exact StartStage.noConfusion), p3Sample_wakes hst ho hw]

/-! ## The commands -/

/-- A low that is enabled and not held samples the sources. -/
theorem exec_wakeN_level {t : Nat} {s : State} (hen : bit (oget s Ob.PWR_WAKEEN) 0 = true) (hm : oget s Ob.PWR_WAKEMODE = 0)
    (he : s.pwr.entry ≠ .inProgress) (ho : s.pwr.p3Off = false) :
    exec (.wakeN t true) s = .next (sampleWakes { s.at t with pins := { s.pins with wakeN := true } }) := by
  have hlate : (decide ((s.at t).pwr.entry = .inProgress ∧ (s.at t).pwr.target = 3 ∧ 8 ≤ (s.at t).pwr.step) || (s.at t).pwr.p3Off) =
      false := by simp [he, ho]
  have hen' : bit (oget (s.at t) Ob.PWR_WAKEEN) 0 = true := hen
  have hm' : oget (s.at t) Ob.PWR_WAKEMODE = 0 := hm
  have he' : decide ((s.at t).pwr.entry = .inProgress) = false := decide_eq_false he
  change exec (.wakeN t true) s = _
  change execWakeN t true s = _
  unfold execWakeN
  dsimp only
  rw [hlate, hen', he', if_neg (by simp), if_neg (by simp [hm']), if_neg Bool.false_ne_true, if_pos hm']
  rfl

theorem exec_p3Timer_due {t : Nat} {s : State} (hst : s.boot.stage = .asleep) (hn : oget s Ob.PWR_P3TIMER ≠ 0)
    (hat : s.pwr.p3At + 950000000 * oget s Ob.PWR_P3TIMER ≤ max s.now t) :
    exec (.p3TimerExpiry t) s = .next (p3Sample { s.at t with pwr := { s.pwr with timerWake := true } }) :=
  congrArg Host.Outcome.next (if_pos ⟨hst, hn, hat⟩)

theorem exec_p2WakeDone_done {t : Nat} {s : State} (hp : s.pwr.state = .p2) (hw : s.pwr.waking = true)
    (hv : vcoreFloor s ≤ s.pwr.vack ∨ s.pwr.goal = none) :
    exec (.p2WakeDone t) s = .next (refreshBands (reachP0 (releaseHeld (wakeDram (s.at t))))) :=
  congrArg Host.Outcome.next (if_pos ⟨hp, hw, hv⟩)

/-- What the way out of P2 leaves. -/
theorem p2Left_spec (s : State) : (refreshBands (reachP0 (releaseHeld (wakeDram s)))).pwr.state = .p0 ∧
    (refreshBands (reachP0 (releaseHeld (wakeDram s)))).pwr.waking = false ∧
    (refreshBands (reachP0 (releaseHeld (wakeDram s)))).fst.selfRef = false := by
  rw [(frameOf kept_refreshBands _).pwr (by decide), (frameOf kept_refreshBands _).fst (by decide)]
  refine ⟨rfl, rfl, ?_⟩
  rw [(frameOf kept_reachP0 _).fst (by decide), (frameOf kept_releaseHeld _).fst (by decide)]
  rfl

/-- The last supply of P3 falls: the die is off, and a source that stands then is sampled. -/
theorem exec_p3PenOff_last {t : Nat} {s : State} (ho : s.pwr.p3Off = true) (h2 : s.pins.pen2 = false)
    (hat : s.pwr.stepAt + 100000 ≤ max s.now t) (h1 : s.pins.pen1 = false) : exec (.p3PenOffTimer t) s =
      .next (p3Sample (dieOff { s.at t with pins := { s.pins with pen0 := false, pgood := false } })) :=
  congrArg Host.Outcome.next ((if_neg (by simp [ho])).trans ((if_neg (by simp [h2])).trans
    ((if_neg (not_lt.mpr hat)).trans (if_neg (by simp [h1])))))

theorem exec_vioAbWait_due {t : Nat} {s : State} (hst : s.boot.stage = .waitVioAb)
    (hat : s.boot.stageAt + 100000000 ≤ max s.now t) : exec (.vioAbWaitTimeout t) s =
      .next (p3Sample { oset Ob.PWR_BOOTFAIL 4 (s.at t) with
        boot := { s.boot with stage := .asleep, fromP3 := false }
        pins := { s.pins with vioAb := false, padsAb18 := none }
        pwr := { s.pwr with edgeWake := false } }) :=
  congrArg Host.Outcome.next (if_pos ⟨hst, hat⟩)

/-- Settles O45. Each way out of a sleep state, and that none comes before its time. -/
theorem sleepsEnd : Obligations.SleepsEnd := by
  unfold Obligations.SleepsEnd
  intro t s
  refine ⟨fun ho => ⟨fun h2 => ?_, fun h2 hat => ⟨fun h1 => ?_, fun h1 => ?_⟩, fun h2 hlt => ?_⟩, fun ho => ?_, fun low hen => ?_,
    fun hen hm => ⟨fun hst he hp ho => ?_, fun hst he ho => ?_⟩, fun hst ho hn hat => ?_, fun hn => ?_,
    fun hp hw => ⟨fun hv => ?_, fun hlt hg => ?_⟩, fun hst => ⟨fun hat => ?_, fun hlt => ?_⟩⟩
  · exact congrArg Host.Outcome.next ((if_neg (by simp [ho])).trans (if_pos (by simp [h2])))
  · exact congrArg Host.Outcome.next ((if_neg (by simp [ho])).trans ((if_neg (by simp [h2])).trans
      ((if_neg (not_lt.mpr hat)).trans (if_pos (by simp [h1])))))
  · have hf := p3Sample_frame (dieOff { s.at t with pins := { s.pins with pen0 := false, pgood := false } })
    refine ⟨_, exec_p3PenOff_last ho h2 hat h1, ?_, ?_, ?_, ?_, ?_, ?_⟩
    · rw [hf.pins (by decide)]
      rfl
    · rw [hf.pins (by decide)]
      rfl
    · rw [hf.mem (by decide)]
      rfl
    · rw [hf.pwr (by decide)]
      rfl
    · rw [hf.pwr (by decide)]
      rfl
    · rw [hf.jrn (by decide)]
      rfl
  · exact congrArg Host.Outcome.next ((if_neg (by simp [ho])).trans ((if_neg (by simp [h2])).trans (if_pos hlt)))
  · exact congrArg Host.Outcome.next (if_pos (by simp [ho]))
  · have hen' : bit (oget (s.at t) Ob.PWR_WAKEEN) 0 = false := hen
    exact congrArg Host.Outcome.next (if_pos (by rw [hen']; rfl))
  · have hw := wakeStanding_pin (s := { s.at t with pins := { s.pins with wakeN := true } }) hen hm rfl
    have hx := exec_wakeN_level (t := t) hen hm (by rw [he]; exact EntryState.noConfusion) ho
    have hsample : sampleWakes { s.at t with pins := { s.pins with wakeN := true } } =
        evc 0xBA (cnt Ob.PWR_WAKECNT (lastWake false 1 1 (reachP0 { s.at t with pins := { s.pins with wakeN := true } }))) := by
      have hn {v : EntryState} (hv : EntryState.done ≠ v) : s.pwr.entry ≠ v := by
        rw [he]
        exact hv
      exact (sampleWakes_started (s := { s.at t with pins := { s.pins with wakeN := true } }) hst (hw _)).trans
        (wakeActs_p1 (hn EntryState.noConfusion) (hn EntryState.noConfusion) hp)
    rw [hsample] at hx
    refine ⟨_, hx, ?_, ?_, ?_, exec_mem hx (by simp [footprint]), ?_⟩
    · rw [evc_pwr]
      rfl
    · rw [oget_evc _ _ _ (by decide), oget_cnt_ne _ (by decide)]
      exact (oget_oset_same ..).trans (by simp [b2n])
    · rw [evc_pins]
      rfl
    · rw [evc_boot]
      rfl
  · have hw := wakeStanding_pin (s := { s.at t with pins := { s.pins with wakeN := true } }) hen hm rfl
    have hx := exec_wakeN_level (t := t) hen hm he ho
    have hsample : sampleWakes { s.at t with pins := { s.pins with wakeN := true } } =
        p3Wake 1 { s.at t with pins := { s.pins with wakeN := true } } :=
      sampleWakes_asleep (s := { s.at t with pins := { s.pins with wakeN := true } }) hst ho (hw 3)
    rw [hsample] at hx
    exact ⟨_, hx, rfl, rfl, oget_p3Wake_last _ _, exec_mem hx (by simp [footprint])⟩
  · obtain ⟨src, hw⟩ := wakeStanding_timer (s := { s.at t with pwr := { s.pwr with timerWake := true } }) rfl 3
    have hx := exec_p3Timer_due hst hn hat
    rw [p3Sample_wakes (s := { s.at t with pwr := { s.pwr with timerWake := true } }) hst ho hw] at hx
    refine ⟨_, hx, ?_, rfl, exec_mem hx (by simp [footprint]), rfl⟩
    rw [p3Wake_boot]
    dsimp only
    split
    · exact .inl rfl
    · exact .inr rfl
  · refine congrArg Host.Outcome.next (if_neg ?_)
    rintro ⟨h1, h2, h3⟩
    rcases hn with hn | hn | hn
    · exact hn h1
    · exact h2 hn
    · exact absurd h3 (not_le.mpr hn)
  · have hx := exec_p2WakeDone_done (t := t) hp hw hv
    obtain ⟨h1, h2, h3⟩ := p2Left_spec (s.at t)
    exact ⟨_, hx, h1, h2, h3, exec_mem hx (by simp [footprint]), exec_boot hx (by simp [footprint]),
      (exec_frame hx).obj (by simp [footprint])⟩
  · refine congrArg Host.Outcome.next (if_neg ?_)
    rintro ⟨-, -, h | h⟩
    · exact absurd h (not_le.mpr hlt)
    · exact hg h
  · have hx := exec_vioAbWait_due hst hat
    have hf := p3Sample_frame { oset Ob.PWR_BOOTFAIL 4 (s.at t) with
      boot := { s.boot with stage := .asleep, fromP3 := false }
      pins := { s.pins with vioAb := false, padsAb18 := none }
      pwr := { s.pwr with edgeWake := false } }
    refine ⟨_, hx, ?_, ?_, ?_, ?_, exec_mem hx (by simp [footprint])⟩
    · rw [oget_p3Sample _ (by decide) (by decide)]
      exact oget_oset_same Ob.PWR_BOOTFAIL 4 (s.at t)
    · rw [hf.pwr (by decide)]
    · rw [hf.pins (by decide)]
    · rw [hf.pins (by decide)]
  · exact congrArg Host.Outcome.next (if_neg fun h => absurd h.2 (not_le.mpr hlt))

end Sys2Proof.Machine
end

section
/-!
PROOF. The seal of a configuration with a region commit that waits (R281, R303): O4 fails.
-/

namespace Sys2Proof.Machine

open Sys2Proof

/-- The record of a pending region commit is noted with the commit. -/
theorem journalPending_pendReg {s : State} {e : Nat} {r : Option Nat} (h : s.scan.pendReg = some (e, r)) :
    (journalPending s).scan.pendReg = some (e, some (oget s Ob.JRN_SEQ)) := by
  unfold journalPending
  rw [h]

/-- A SEAL of an open configuration notes the record of the commit that waits. -/
theorem ownSealCmd_pendReg {s : State} {e : Nat} {r : Option Nat} (hop : s.boot.op = .setup) (ho : oflag s Ob.SAF_SEALED = false)
    (h : s.scan.pendReg = some (e, r)) : ∃ n, (ownSealCmd 1 s).1.scan.pendReg = some (e, some n) := by
  unfold ownSealCmd
  rw [if_neg (not_not.mpr hop), if_pos rfl, if_neg (by simp [ho])]
  dsimp only
  refine ⟨_, journalPending_pendReg (r := r) ?_⟩
  simpa [jrnObj, regionRecord, jrnStatus, jrnStatusOf] using h

theorem exec_sealCfg (t : Nat) (h : Hdr) (s : State) :
    exec (.sealCfg t h) s = .next (writeRow h Ob.SAF_SEALCMD 1 ownSealCmd (s.at t)) := rfl

/-- So does the command. -/
theorem sealCfg_pendReg {t e : Nat} {h : Hdr} {r : Option Nat} {s s' : State} (ht : writeTaken (s.at t) h Ob.SAF_SEALCMD 1 = true)
    (hop : s.boot.op = .setup) (ho : oflag s Ob.SAF_SEALED = false) (hp : s.scan.pendReg = some (e, r))
    (hx : exec (.sealCfg t h) s = .next s') : ∃ n, s'.scan.pendReg = some (e, some n) := by
  obtain ⟨n, hn⟩ := ownSealCmd_pendReg (s := counted (s.at t) h) (by rw [counted_boot]; exact hop)
    (by rw [oflag_counted _ _ (by decide) (by decide)]; exact ho) (by rw [counted_scan]; exact hp)
  refine ⟨n, ?_⟩
  rw [Host.Outcome.next.inj (hx.symm.trans (exec_sealCfg t h s)), writeRow_of_taken ht, answerTaken_scan]
  exact hn

/-- An open configuration in SETUP, with a session at Factory level and a region commit that waits for its frame. -/
def commitWaits : State :=
  { State.reset with
    boot := { State.reset.boot with stage := .started, op := .setup }
    mgt := { State.reset.mgt with spi := { State.reset.mgt.spi with gen := 1, active := true, level := 3 } }
    scan := { State.reset.scan with pendReg := some (0, none) } }

/-- Refutes O4. A SEAL hands the record of a pending region commit to the journal and notes its number with the commit (R281), so
it does not leave the scan's state as it was: `commitWaits` has its commit without a number before, and with one after. -/
theorem not_stateAndSealRequests : ¬ Obligations.StateAndSealRequests := by
  unfold Obligations.StateAndSealRequests
  intro hall
  have ht : writeTaken (commitWaits.at 1000) { port := .spi, tag := 0, gen := 1 } Ob.SAF_SEALCMD 1 = true := by decide +kernel
  have ho : oflag commitWaits Ob.SAF_SEALED = false := by decide +kernel
  obtain ⟨s', hx, -, -, -, -, -, -, hscan⟩ := (hall.2 1000 { port := .spi, tag := 0, gen := 1 } commitWaits rfl).1 ht ho
  obtain ⟨n, hpend⟩ := sealCfg_pendReg (r := none) ht rfl ho rfl hx
  rw [hscan] at hpend
  exact absurd hpend (by simp [commitWaits])

end Sys2Proof.Machine
end

section
/-!
PROOF. The clears of bands and of the device (R25, R300, R301, R327): O5.
-/

namespace Sys2Proof.Machine

open Sys2Proof

/-! ## SAF_BANDCLR -/

/-- The bands that a SAF_BANDCLR names and that nothing holds back. -/
def cleared (v : Nat) (s : State) : List Nat :=
  (usedBands s).filter (fun b => bit v b && decide ((bandScan s b).state = 2) && decide (clearErr s b = 0))

theorem ownBandClr_spec (v : Nat) (s : State) : (ownBandClr v s).1.scan = s.scan ∧ (ownBandClr v s).1.safe.dark = s.safe.dark ∧
    (ownBandClr v s).1.safe.clearDue = (cleared v s).foldl setBit s.safe.clearDue := by
  have hgood : ((usedBands s).filter (fun b => bit v b && decide ((bandScan s b).state = 2))).filter
      (fun b => decide (clearErr s b = 0)) = cleared v s := by
    rw [List.filter_filter]
    exact List.filter_congr fun b _ => Bool.and_comm ..
  unfold ownBandClr
  dsimp only
  rw [hgood]
  split
  · exact ⟨rfl, rfl, rfl⟩
  · rw [(frameOf kept_behindCleared _).scan (by decide), (frameOf kept_behindCleared _).safe (by decide)]
    exact ⟨rfl, rfl, rfl⟩

/-! ## SAF_CLEAR -/

theorem toNat_ne_zero {n : Nat} {v : BitVec n} (h : v ≠ 0) : v.toNat ≠ 0 := fun h0 => h (BitVec.eq_of_toNat_eq h0)


theorem ownSafClear_clears {v : Nat} {s : State} (hv : v ≠ 0) (hop : s.boot.op = .safeDark) (hc : deviceCause s = false)
    (hb : crackBad s = false) : (ownSafClear v s).1.boot.op = .setup ∧ (ownSafClear v s).1.pins.faultN = true ∧
    oget (ownSafClear v s).1 Ob.SAF_CLRSTAT = 0 := by
  unfold ownSafClear
  rw [if_neg hv, if_neg (not_not.mpr hop), if_neg (by simp [hc, hb])]
  dsimp only
  refine ⟨?_, ?_, ?_⟩
  · rw [evc_boot]
    dsimp only
    rw [(frameOf kept_padsAtSetup _).boot (by decide), logEv_boot, oset_boot, changeOp_boot]
  · rw [evc_pins]
  · rw [oget_evc _ _ _ (by decide)]
    refine (oget_congr (t := { padsAtSetup _ with pins := _ }) (s := padsAtSetup _) rfl _).trans ?_
    unfold padsAtSetup
    rw [oget_congr ((frameOf (kept_releasePads _) _).obj (by decide)), oget_oset_ne _ _ (by decide),
      oget_oset_ne _ _ (by decide), oget_logEv _ _ _ _ _ (by decide) (by decide) (by decide), oget_oset_same]

theorem ownSafClear_held {v : Nat} {s : State} (hv : v ≠ 0) (hop : s.boot.op = .safeDark)
    (hc : deviceCause s = true ∨ crackBad s = true) : ownSafClear v s = (oset Ob.SAF_CLRSTAT 1 s, St.refused) := by
  unfold ownSafClear
  rw [if_neg hv, if_neg (not_not.mpr hop), if_pos hc]

theorem ownSafClear_idle {v : Nat} {s : State} (h : v = 0 ∨ s.boot.op ≠ .safeDark) : (ownSafClear v s).1 = s := by
  unfold ownSafClear
  split
  · rfl
  · next hv => rw [if_pos (h.resolve_left hv)]

theorem answerTaken_faultN (op : Nat) (h : Hdr) (ix sub : Nat) (data : List Byte) (gen : Nat) (sa : State × Answer) :
    (answerTaken op h ix sub data gen sa).pins.faultN = sa.1.pins.faultN := by
  obtain ⟨e, he⟩ := answerTaken_pins op h ix sub data gen sa
  rw [he]

theorem counted_faultN (h : Hdr) (s : State) : (counted s h).pins.faultN = s.pins.faultN := by
  obtain ⟨e, he⟩ := counted_pins h s
  rw [he]

/-- Settles O5: the bands are marked and stay as they are, and the device is cleared where no cause is left. -/
theorem darknessIsCleared : Obligations.DarknessIsCleared := by
  unfold Obligations.DarknessIsCleared
  refine ⟨fun t h v s ht => ?_, fun t h v s ht => ⟨fun hv hop hc hb => ?_, fun hv hop hc => ?_, fun hn => ?_⟩⟩
  · obtain ⟨hscan, hdark, hdue⟩ := ownBandClr_spec v.toNat (counted (s.at t) h)
    have hnames : cleared v.toNat (counted (s.at t) h) = (usedBands s).filter (fun b => bit v.toNat b &&
        decide ((bandScan s b).state = 2) && decide (clearErr (counted (s.at t) h) b = 0)) := by
      unfold cleared usedBands bandScan
      rw [counted_scan, show bandCount (counted (s.at t) h) = bandCount s from ?_]
      · rfl
      · unfold bandCount
        rw [oget_counted_at h t s (by decide) (by decide)]
    refine ⟨_, rfl, ?_, ?_, ?_⟩
    · rw [writeRow_of_taken ht, answerTaken_scan]
      exact hscan.trans (counted_scan h (s.at t))
    · rw [writeRow_of_taken ht, answerTaken_safe]
      exact hdark.trans (by rw [counted_safe]; rfl)
    · rw [writeRow_of_taken ht, answerTaken_safe]
      exact hdue.trans (by rw [hnames, counted_safe]; rfl)
  · obtain ⟨h1, h2, h3⟩ := ownSafClear_clears (v := v.toNat) (s := counted (s.at t) h) (toNat_ne_zero hv)
      (by rw [counted_boot]; exact hop) (by unfold deviceCause; rw [counted_safe]; exact hc)
      (by unfold crackBad loopOf; rw [counted_pnl]; exact hb)
    refine ⟨_, rfl, ?_, ?_, ?_⟩
    · rw [writeRow_of_taken ht, answerTaken_boot]
      exact h1
    · rw [writeRow_of_taken ht, answerTaken_faultN]
      exact h2
    · rw [oget_writeRow ht (by decide)]
      exact h3
  · have hown := ownSafClear_held (v := v.toNat) (s := counted (s.at t) h) (toNat_ne_zero hv) (by rw [counted_boot]; exact hop)
      (by unfold deviceCause crackBad loopOf; rw [counted_safe, counted_pnl]; exact hc)
    refine ⟨_, rfl, ?_, ?_, ?_⟩
    · rw [writeRow_of_taken ht, answerTaken_boot, hown, oset_boot, counted_boot]
      exact hop
    · rw [writeRow_of_taken ht, answerTaken_faultN, hown, oset_pins, counted_faultN]
      rfl
    · rw [oget_writeRow ht (by decide), hown, oget_oset_same]
  · have hown := ownSafClear_idle (v := v.toNat) (s := counted (s.at t) h)
      (hn.imp (fun h => by rw [h]; rfl) fun h => by rw [counted_boot]; exact h)
    refine ⟨_, rfl, ?_, ?_⟩
    · rw [writeRow_of_taken ht, answerTaken_boot, hown, counted_boot]
      rfl
    · rw [writeRow_of_taken ht, answerTaken_faultN, hown, counted_faultN]
      rfl

end Sys2Proof.Machine
end

section
/-!
PROOF. The check of the live configuration and the injection of failures (R306, R307): O7.
-/

namespace Sys2Proof.Machine

open Sys2Proof

/-! ## A failure and its reactions -/

theorem failure_safe (n : Nat) (s : State) :
    (failure n s).safe = (setMech n { mechOf s n with count := satInc 0xFFFF (mechOf s n).count } s).safe := by
  unfold failure
  rw [evc_safe]

theorem mechOf_congr {a b : State} (h : a.safe = b.safe) (n : Nat) : mechOf a n = mechOf b n := by
  unfold mechOf
  rw [h]

theorem mechOf_failure (n : Nat) (s : State) :
    mechOf (failure n s) n = { mechOf s n with count := satInc 0xFFFF (mechOf s n).count } :=
  (mechOf_congr (failure_safe n s) n).trans (mechOf_setMech ..)

theorem bandCount_failure (n : Nat) (s : State) : bandCount (failure n s) = bandCount s := by
  have h : oget (failure n s) Ob.SCAN_BANDS = oget s Ob.SCAN_BANDS := by
    unfold failure
    rw [oget_evc _ _ _ (by decide)]
    rfl
  unfold bandCount
  rw [h]

theorem bit_setBit_same (n i : Nat) : bit (setBit n i) i = true := by
  unfold setBit
  split
  · next hb => exact hb
  · next hb =>
    simp only [bit, decide_eq_true_eq] at hb ⊢
    rw [Nat.add_div_right _ (by positivity)]
    omega

theorem tileReaction_safe (n : Nat) (event inj : Bool) (s : State) :
    (tileReaction n event inj s).safe = (setMech n { mechOf s n with lastClass := 1 } s).safe := by
  have h1 : (evc 0x99 (recordLast n inj (setMech n { mechOf s n with lastClass := 1 } s))).safe =
      (setMech n { mechOf s n with lastClass := 1 } s).safe := by rw [evc_safe, recordLast_safe]
  unfold tileReaction
  dsimp only
  split
  · rw [logEv_safe]
    exact h1
  · exact h1

/-- A band takes its reaction: it is DARK, and the mechanism's count stays. -/
theorem bandReaction_spec {n b : Nat} (stay inj : Bool) {s : State} (h : b < bandCount s) :
    (mechOf (bandReaction n b stay inj s) n).count = (mechOf s n).count ∧ bit (bandReaction n b stay inj s).safe.dark b = true := by
  unfold bandReaction
  rw [if_neg (not_le.mpr h)]
  split
  · next hd =>
    rw [mechOf_setMech]
    exact ⟨rfl, hd⟩
  · dsimp only
    have hm (a : State) (v : Mech) (d c : Nat) (cl : SMap Nat) (di : Nat) : mechOf { setMech n v a with
        safe := { (setMech n v a).safe with dark := d, clearDue := c, clean := cl, dirty := di } } n = v := mechOf_setMech n v a
    have hframe (a : State) (x : Nat) : (evc 0x9A (logEv 0x04 3 (2 ^ b) (reactData n (2 ^ b) inj) (pendEvt 2 (backEvent 5 x n
        (recordLast n inj (darkNaks (2 ^ b) (setBandState b 2 a))))))).safe = a.safe := by
      rw [evc_safe, logEv_safe, pendEvt_safe, backEvent_safe, recordLast_safe, (frameOf (kept_darkNaks _) _).safe (by decide),
        (frameOf (kept_setBandState _ _) _).safe (by decide)]
    refine ⟨?_, ?_⟩
    · rw [mechOf_congr (hframe _ _), hm]
    · rw [hframe]
      exact bit_setBit_same _ _

theorem deviceReaction_mech (n : Nat) (stay inj : Bool) (s : State) : mechOf (deviceReaction n stay inj s) n =
    { mechOf s n with lastClass := 3, active := (mechOf s n).active || stay } :=
  (mechOf_congr (deviceReaction_safe n stay inj s) n).trans (mechOf_setMech ..)

/-! ## The check of the live record (R306) -/

theorem configBad_spec {s : State} (h : s.safe.corrupt = false) : (configBad s).safe.corrupt = true ∧
    (configBad s).safe.reload = true ∧ (mechOf (configBad s) 15).count = satInc 0xFFFF (mechOf s 15).count := by
  have he : configBad s = failure 15 { s with safe := { s.safe with corrupt := true, reload := true } } :=
    if_neg (by simp [h])
  rw [he, mechOf_failure, failure_safe]
  exact ⟨rfl, rfl, rfl⟩

/-- A corrupt record, and one whose CRC differs, are bad; another is sound. -/
theorem exec_configCrcCheck {t : Nat} {corrupt : Bool} {s : State} (hr : configRuns s = true) :
    exec (.configCrcCheck t corrupt) s = .next (
      if corrupt then configBad (oset Ob.SAF_LIVECRC (freeOf (s.at t) % 2 ^ 32) (tookFree (s.at t)))
      else if recordCrc (s.at t) = s.safe.sealCrc then oset Ob.SAF_LIVECRC (recordCrc (s.at t)) (s.at t)
      else configBad (oset Ob.SAF_LIVECRC (recordCrc (s.at t)) (s.at t))) := by
  have hr' : configRuns (s.at t) = true := hr
  exact congrArg Host.Outcome.next (if_neg (by simp [hr']))

/-! ## The injection (R307) -/

theorem inject_tile {n b : Nat} {s : State} (h : n = 1 ∨ n = 2 ∨ n = 6) : (inject n b s).safe.inj.isSome = true ∧
    (mechOf (inject n b s) n).lastClass = 1 ∧ (mechOf (inject n b s) n).count = satInc 0xFFFF (mechOf s n).count := by
  have hm : mechOf { failure n s with safe := { (failure n s).safe with
      inj := some (n, if n = 1 then 1 else if n = 2 then 3 else 4, firstFrame (failure n s)) } } n = mechOf (failure n s) n := rfl
  unfold inject
  dsimp only
  rw [if_pos h, mechOf_congr (tileReaction_safe ..), mechOf_setMech, hm, mechOf_failure, tileReaction_safe]
  exact ⟨rfl, rfl, rfl⟩

theorem inject_none {b : Nat} (s : State) : inject 3 b s = failure 3 s := rfl

theorem inject_config {b : Nat} (s : State) : inject 15 b s =
    { failure 15 s with safe := { (failure 15 s).safe with corrupt := true, reload := true } } := rfl

theorem inject_band {n b : Nat} (s : State) (h : [4, 5, 7, 8, 9, 14].contains n = true) :
    inject n b s = bandReaction n b false true (failure n s) := by
  simp only [List.contains_cons, List.contains_nil, Bool.or_false, Bool.or_eq_true, beq_iff_eq] at h
  obtain rfl | rfl | rfl | rfl | rfl | rfl := h <;> rfl

theorem inject_device {n b : Nat} (s : State) (h1 : ¬(n = 1 ∨ n = 2 ∨ n = 6)) (h3 : n ≠ 3) (h15 : n ≠ 15)
    (hb : [4, 5, 7, 8, 9, 14].contains n = false) : inject n b s =
    if n = 13 then startPath 2 (deviceReaction n false true (failure n s)) else deviceReaction n false true (failure n s) := by
  unfold inject
  dsimp only
  rw [if_neg h1, if_neg h3, if_neg h15, if_neg (by rw [hb]; exact Bool.false_ne_true)]

/-- A device-class mechanism: its failure, and the reaction. -/
theorem inject_device_spec {n b : Nat} {s : State} (h1 : ¬(n = 1 ∨ n = 2 ∨ n = 6)) (h3 : n ≠ 3) (h15 : n ≠ 15)
    (hb : [4, 5, 7, 8, 9, 14].contains n = false) :
    mechOf (inject n b s) n = { mechOf (failure n s) n with lastClass := 3, active := (mechOf (failure n s) n).active || false } ∧
    (inject n b s).boot = (deviceReaction n false true (failure n s)).boot := by
  rw [inject_device s h1 h3 h15 hb]
  split
  · exact ⟨(mechOf_congr ((startPath_frame 2 _).safe (by decide)) n).trans (deviceReaction_mech ..),
      (startPath_frame 2 _).boot (by decide)⟩
  · exact ⟨deviceReaction_mech .., rfl⟩

theorem failure_boot' (n : Nat) (s : State) : (failure n s).boot = s.boot := (frameOf (kept_failure n) s).boot (by decide)

/-- An injection counts a failure of its mechanism. -/
theorem inject_count {n b : Nat} {s : State} (hb : [4, 5, 7, 8, 9, 14].contains n = true → b < bandCount s) :
    (mechOf (inject n b s) n).count = satInc 0xFFFF (mechOf s n).count := by
  by_cases h1 : n = 1 ∨ n = 2 ∨ n = 6
  · exact (inject_tile h1).2.2
  · by_cases h3 : n = 3
    · rw [h3, inject_none, mechOf_failure]
    · by_cases h15 : n = 15
      · rw [h15, inject_config]
        exact congrArg Mech.count (mechOf_failure 15 s)
      · by_cases hn : [4, 5, 7, 8, 9, 14].contains n = true
        · rw [inject_band s hn, (bandReaction_spec _ _ (by rw [bandCount_failure]; exact hb hn)).1, mechOf_failure]
        · rw [(inject_device_spec h1 h3 h15 (by simpa using hn)).1, mechOf_failure]

theorem ownInjGo_injects {v : Nat} {s : State} (hv : v ≠ 0) (hop : s.boot.op = .setup) (hn : oget s Ob.SAF_INJ_SM ≠ 0)
    (hb : [4, 5, 7, 8, 9, 14].contains (oget s Ob.SAF_INJ_SM) = true → oget s Ob.SAF_INJ_BAND < bandCount s) :
    ownInjGo v s = (inject (oget s Ob.SAF_INJ_SM) (oget s Ob.SAF_INJ_BAND) s, St.ok) := by
  unfold ownInjGo
  dsimp only
  rw [if_neg hv, if_neg (not_not.mpr hop), if_neg]
  rintro (h | ⟨h, hle⟩)
  · exact hn h
  · exact absurd (hb h) (not_lt.mpr hle)

theorem ownInjGo_refuses {v : Nat} {s : State} (hv : v ≠ 0) (hop : s.boot.op = .setup)
    (h : oget s Ob.SAF_INJ_SM = 0 ∨ [4, 5, 7, 8, 9, 14].contains (oget s Ob.SAF_INJ_SM) = true ∧
      bandCount s ≤ oget s Ob.SAF_INJ_BAND) : ownInjGo v s = (s, St.refused) := by
  unfold ownInjGo
  dsimp only
  rw [if_neg hv, if_neg (not_not.mpr hop), if_pos h]

theorem bandCount_counted (h : Hdr) (t : Nat) (s : State) : bandCount (counted (s.at t) h) = bandCount s := by
  unfold bandCount
  rw [oget_counted_at h t s (by decide) (by decide)]

/-- Settles O7: what the check finds, and what an injection does by the class of its mechanism. -/
theorem configurationIsCheckedAndInjected : Obligations.ConfigurationIsCheckedAndInjected := by
  unfold Obligations.ConfigurationIsCheckedAndInjected
  refine ⟨fun t s hr hc => ⟨fun he => ?_, fun he => ?_, ?_⟩, fun t h v s ht hv hop hst => ?_⟩
  · exact ⟨_, (exec_configCrcCheck hr).trans (congrArg Host.Outcome.next ((if_neg Bool.false_ne_true).trans (if_pos he))),
      oget_oset_same .., rfl⟩
  · exact ⟨_, (exec_configCrcCheck hr).trans (congrArg Host.Outcome.next ((if_neg Bool.false_ne_true).trans (if_neg he))),
      configBad_spec (s := oset Ob.SAF_LIVECRC (recordCrc (s.at t)) (s.at t)) hc⟩
  · exact ⟨_, (exec_configCrcCheck hr).trans (congrArg Host.Outcome.next (if_pos rfl)),
      configBad_spec (s := oset Ob.SAF_LIVECRC (freeOf (s.at t) % 2 ^ 32) (tookFree (s.at t))) hc⟩
  · intro n b band
    have hx : exec (.safInjGo t h v) s = .next (writeRow h Ob.SAF_INJ_GO v.toNat ownInjGo (s.at t)) := rfl
    have hn : oget (counted (s.at t) h) Ob.SAF_INJ_SM = n := oget_counted_at h t s (by decide) (by decide)
    have hb : oget (counted (s.at t) h) Ob.SAF_INJ_BAND = b := oget_counted_at h t s (by decide) (by decide)
    have hop' : (counted (s.at t) h).boot.op = .setup := by
      rw [counted_boot]
      exact hop
    have hmech : mechOf (counted (s.at t) h) n = mechOf s n := mechOf_congr (counted_safe h (s.at t)) n
    refine ⟨fun h0 hin => ?_, fun hbad => ?_⟩
    · have hin' : [4, 5, 7, 8, 9, 14].contains n = true → b < bandCount (counted (s.at t) h) := fun hc => by
        rw [bandCount_counted]
        exact hin hc
      have hown := ownInjGo_injects (v := v.toNat) (toNat_ne_zero hv) hop' (by rw [hn]; exact h0) (by rw [hn, hb]; exact hin')
      rw [hn, hb] at hown
      have hs : (writeRow h Ob.SAF_INJ_GO v.toNat ownInjGo (s.at t)).safe = (inject n b (counted (s.at t) h)).safe := by
        rw [writeRow_of_taken ht, hown, answerTaken_safe]
      have hboot : (writeRow h Ob.SAF_INJ_GO v.toNat ownInjGo (s.at t)).boot = (inject n b (counted (s.at t) h)).boot := by
        rw [writeRow_of_taken ht, hown, answerTaken_boot]
      have hscan : (writeRow h Ob.SAF_INJ_GO v.toNat ownInjGo (s.at t)).scan = (inject n b (counted (s.at t) h)).scan := by
        rw [writeRow_of_taken ht, hown, answerTaken_scan]
      have hmem : (writeRow h Ob.SAF_INJ_GO v.toNat ownInjGo (s.at t)).mem = (inject n b (counted (s.at t) h)).mem := by
        rw [writeRow_of_taken ht, hown, answerTaken_mem]
      have hkept {a : State} (ha : a = failure n (counted (s.at t) h)) : a.mem = s.mem ∧ a.boot = s.boot ∧ a.scan = s.scan := by
        have hf := frameOf (kept_failure n) (counted (s.at t) h)
        subst ha
        exact ⟨(hf.mem (by decide)).trans (counted_mem ..), (hf.boot (by decide)).trans (counted_boot ..),
          (hf.scan (by decide)).trans (counted_scan ..)⟩
      refine ⟨_, hx, ?_, fun h1 => ?_, fun h15 => ?_, fun h3 => ?_, fun hband => ?_, fun hdev => ?_⟩
      · rw [mechOf_congr hs, inject_count hin', hmech]
      · obtain ⟨hi, hl, -⟩ := inject_tile (b := b) (s := counted (s.at t) h) h1
        rw [mechOf_congr hs, hs]
        exact ⟨hi, hl⟩
      · rw [hs, h15, inject_config]
        exact ⟨rfl, rfl⟩
      · rw [hmem, hboot, hscan]
        rcases h3 with h3 | h3
        · rw [h3, inject_none, ← h3]
          exact hkept rfl
        · rw [h3, inject_config]
          rw [← h3]
          exact hkept (a := failure n (counted (s.at t) h)) rfl
      · rw [hs, hboot, inject_band _ hband]
        refine ⟨(bandReaction_spec _ _ (by rw [bandCount_failure]; exact hin' hband)).2, ?_⟩
        rw [(frameOf (kept_bandReaction n b false true) _).boot (by decide), failure_boot']
        exact hop'
      · have hd : ¬(n = 1 ∨ n = 2 ∨ n = 6) ∧ n ≠ 3 ∧ n ≠ 15 ∧ [4, 5, 7, 8, 9, 14].contains n = false := by
          rcases hdev with h | h | h | h <;> rw [h] <;> decide
        obtain ⟨d1, d3, d15, db⟩ := hd
        obtain ⟨hm, hbo⟩ := inject_device_spec (b := b) (s := counted (s.at t) h) d1 d3 d15 db
        rw [hboot, hbo, mechOf_congr hs, hm]
        refine ⟨deviceReaction_op ?_ ?_, rfl⟩
        · rw [failure_boot', hop']
          exact OpState.noConfusion
        · rw [failure_boot', counted_boot]
          exact hst
    · have hown := ownInjGo_refuses (v := v.toNat) (toNat_ne_zero hv) hop' (by rw [hn, hb, bandCount_counted]; exact hbad)
      refine ⟨_, hx, ?_, ?_, ?_⟩
      · rw [writeRow_of_taken ht, hown, answerTaken_safe, counted_safe]
        rfl
      · rw [writeRow_of_taken ht, hown, answerTaken_boot, counted_boot]
        rfl
      · rw [writeRow_of_taken ht, hown, answerTaken_scan]
        exact counted_scan ..

end Sys2Proof.Machine
end

section
/-!
SUPPORT. The firmware's coding jobs and the generation they commit (R146, R161, R475, R480): the objects they leave alone.
-/

namespace Sys2Proof.Machine

open Sys2Proof

theorem iter_obs {β : Type} {f : State → State} {obs : State → β} (h : ∀ a, obs (f a) = obs a) (n : Nat) (s : State) :
    obs (iter f n s) = obs s := by
  induction n generalizing s with
  | zero => rfl
  | succ n ih => exact (ih (f s)).trans (h s)

theorem oget_iter_evc {k : Nat} (code n : Nat) (s : State) (hc : notCounter k = true) :
    oget (iter (evc code) n s) k = oget s k := iter_obs (obs := fun a => oget a k) (fun a => oget_evc code k a hc) n s

/-- The counters that a coding job moves. -/
abbrev jobObjects : List Nat := [Ob.FST_ECC_LAST, Ob.FST_ECC_UNCORR, Ob.LAKE_SWITCHES]

theorem oget_readPoison {k : Nat} (ws : List Nat) (s : State) (hc : notCounter k = true) (h : k ∉ jobObjects) :
    oget (readPoison ws s) k = oget s k := by
  simp only [List.mem_cons, List.not_mem_nil, or_false, not_or] at h
  obtain ⟨h1, h2, -⟩ := h
  refine each_keeps (obs := fun a => oget a k) fun w _ a => ?_
  rw [oget_evc _ _ _ hc, oget_oset_ne _ _ h1, oget_cnt_ne _ h2]

/-- A coding job changes no object but the counters of its switches and of the words it could not read. -/
theorem oget_fwJob {k : Nat} (n dir elem flip w h : Nat) (blocks : List (Option (List (List Nat)))) (bad : List Nat) (s : State)
    (hc : notCounter k = true) (hk : k ∉ jobObjects) : oget (fwJob n dir elem flip w h blocks bad s).1 k = oget s k := by
  have hsw : k ≠ Ob.LAKE_SWITCHES := fun e => hk (by simp [e])
  have hswitch (a : State) : oget (evc 0xAE (cnt Ob.LAKE_SWITCHES a)) k = oget a k := by
    rw [oget_evc _ _ _ hc, oget_cnt_ne _ hsw]
  have hset (v : Slot) (a : State) : oget (setSlot n v a) k = oget a k := rfl
  unfold fwJob whenDo
  dsimp only
  rw [hset, iter_obs (obs := fun a => oget a k) (fun a => oget_evc _ _ _ hc)]
  split
  · rw [oget_readPoison _ _ hc hk]
    split
    · exact iter_obs (obs := fun a => oget a k) hswitch _ _
    · rfl
  · split
    · exact iter_obs (obs := fun a => oget a k) hswitch _ _
    · rfl

theorem fwMemJob_eq (n dir elem flip base pitch w h : Nat) (s : State) : fwMemJob n dir elem flip base pitch w h s =
    fwJob n dir elem flip w h (memBlocks s elem flip base pitch w h) (memPoison s elem base pitch w h) s := rfl

/-- Every block of a raster can be read where no word holds the poison. -/
theorem memBlocks_isSome {s : State} (h : s.poison = []) (elem flip base pitch w h' : Nat) :
    ∀ x ∈ memBlocks s elem flip base pitch w h', x.isSome = true := by
  have hp (a n : Nat) : anyPoison s a n = false := by
    unfold anyPoison poisonIn
    rw [h]
    rfl
  intro x hx
  unfold memBlocks rasterBlocks at hx
  simp only [hp, List.any_eq_false.mpr (fun _ _ => Bool.false_ne_true), List.mem_flatMap, List.mem_map] at hx
  obtain ⟨r, -, c, -, rfl⟩ := hx
  rfl

theorem runFw_done {xs : List (Option (List (List Nat)))} (h : ∀ x ∈ xs, x.isSome = true) (c : LakeCtx) :
    (runFw xs c).2.2 = true := by
  induction xs generalizing c with
  | nil => rfl
  | cons x xs ih =>
    obtain ⟨q, rfl⟩ := Option.isSome_iff_exists.1 (h x List.mem_cons_self)
    exact ih (fun y hy => h y (List.mem_cons_of_mem _ hy)) _

/-- A job over data without poison is DONE. -/
theorem fwMemJob_done {s : State} (h : s.poison = []) (n dir elem flip base pitch w h' : Nat) :
    (fwMemJob n dir elem flip base pitch w h' s).2 = true := by
  rw [fwMemJob_eq]
  exact runFw_done (memBlocks_isSome h elem flip base pitch w h') _

theorem codeArea_done {s : State} (h : s.poison = []) (base pitch w h' : Nat) : (codeArea base pitch w h' s).2.1 = true :=
  fwMemJob_done h 1 0 1 0 base pitch w h'

theorem oget_codeArea {k : Nat} (base pitch w h : Nat) (s : State) (hc : notCounter k = true) (hk : k ∉ jobObjects) :
    oget (codeArea base pitch w h s).1 k = oget s k := oget_fwJob _ _ _ _ _ _ _ _ _ hc hk

/-! ## A generation -/

/-- The objects that a generation's commit shows. -/
abbrev generationObjects : List Nat := [Ob.JRN_GEN, Ob.JRN_FAULT, Ob.JRN_RINGUSE]

/-- No commit of the calibration is in progress, and no object but those of a generation has changed. A predicate of its own, so
that no proof evaluates a state to read it. -/
def CommitOver (s s' : State) : Prop :=
  s'.jrn.commitCal = false ∧ ∀ k, notCounter k = true → k ∉ generationObjects → oget s' k = oget s k

theorem CommitOver.ite {c : Prop} [Decidable c] {s a b : State} (ha : CommitOver s a) (hb : CommitOver s b) :
    CommitOver s (if c then a else b) := by
  split
  · exact ha
  · exact hb

theorem CommitOver.oset {s a : State} {k : Nat} (v : Nat) (hk : k ∈ generationObjects) (ha : CommitOver s a) :
    CommitOver s (oset k v a) :=
  ⟨ha.1, fun j hc hj => (oget_oset_ne v a fun e => hj (by rw [e]; exact hk)).trans (ha.2 j hc hj)⟩

theorem CommitOver.jrn {s a : State} {j : Jrn} (hj : j.commitCal = a.jrn.commitCal) (ha : CommitOver s a) :
    CommitOver s { a with jrn := j } := ⟨hj.trans ha.1, fun k hc hk => (oget_congr (s := a) rfl k).trans (ha.2 k hc hk)⟩

theorem CommitOver.of_oget {s a : State} {j : Jrn} (hj : j.commitCal = false)
    (h : ∀ k, notCounter k = true → oget a k = oget s k) : CommitOver s { a with jrn := j } :=
  ⟨hj, fun k hc _ => (oget_congr (s := a) rfl k).trans (h k hc)⟩

theorem CommitOver.showRing {s a : State} (ha : CommitOver s a) : CommitOver s (showRing a) := by
  unfold Machine.showRing
  exact ha.oset _ (by simp)

/-- A generation has committed, and the calibration's commit with it. -/
theorem compacted_over (newDefect : Bool) (s : State) : CommitOver s (compacted newDefect s) := by
  have h1 (k : Nat) (hc : notCounter k = true) : oget (iter (evc 0xD3) (areaSectors s) (evc 0xD1 s)) k = oget s k :=
    (oget_iter_evc _ _ _ hc).trans (oget_evc _ _ _ hc)
  unfold compacted
  generalize iter (evc 0xD3) (areaSectors s) (evc 0xD1 s) = s1 at h1
  extract_lets nv a _ s2 f s3 _ s4
  have h2 : CommitOver s s2 := CommitOver.oset _ List.mem_cons_self (CommitOver.of_oget rfl h1)
  have h3 : CommitOver s s3 := (h2.oset _ (by simp)).ite h2
  have h4 : CommitOver s s4 := by
    unfold s4
    split
    · exact h3.jrn rfl
    · exact h3
  exact h4.showRing

/-- The objects that the commit of a generation may change. -/
abbrev commitObjects : List Nat := jobObjects ++ generationObjects ++ [Ob.JRN_SEQ, Ob.WNP_EVTPEND]

theorem oget_jrnFault {k : Nat} (cause detail : Nat) (s : State) (hc : notCounter k = true) (h : k ≠ Ob.JRN_FAULT)
    (h1 : k ≠ Ob.JRN_SEQ) (h2 : k ≠ Ob.WNP_EVTPEND) : oget (jrnFault cause detail s) k = oget s k := by
  unfold jrnFault
  rw [oget_logEv _ _ _ _ _ hc h1 h2, oget_oset_ne _ _ h]

theorem jrnFault_commitCal (cause detail : Nat) (s : State) : (jrnFault cause detail s).jrn.commitCal = s.jrn.commitCal := by
  unfold jrnFault logEv
  dsimp only
  rw [pendEvt_jrn, evc_jrn]
  rfl

/-- With no poison in DRAM a generation commits, whatever its area holds. -/
theorem commitGeneration_spec {s : State} (hp : s.poison = []) : (commitGeneration s).jrn.commitCal = false ∧
    ∀ k, notCounter k = true → k ∉ commitObjects → oget (commitGeneration s) k = oget s k := by
  have hdone := codeArea_done hp 0x6C000000 11520 (ceilDiv (lineSubs s) 4) (panelH s)
  unfold commitGeneration
  split
  · obtain ⟨hcal, hobj⟩ := compacted_over false s
    exact ⟨hcal, fun k hc hk => hobj k hc fun h => hk (List.mem_append_left _ (List.mem_append_right _ h))⟩
  · have hjob (k : Nat) (hc : notCounter k = true) (hk : k ∉ commitObjects) :
        oget (codeArea 0x6C000000 11520 (ceilDiv (lineSubs s) 4) (panelH s) s).1 k = oget s k :=
      oget_codeArea _ _ _ _ _ hc fun h => hk (List.mem_append_left _ (List.mem_append_left _ h))
    generalize codeArea 0x6C000000 11520 (ceilDiv (lineSubs s) 4) (panelH s) s = a at hjob hdone
    obtain ⟨a, ok, fits⟩ := a
    simp only at hdone
    subst hdone
    dsimp only
    rw [if_neg (by simp)]
    have hgen (b : Bool) (k : Nat) (hc : notCounter k = true) (hk : k ∉ commitObjects) : oget (compacted b a) k = oget s k :=
      ((compacted_over b a).2 k hc fun h => hk (List.mem_append_left _ (List.mem_append_right _ h))).trans (hjob k hc hk)
    split
    · exact ⟨(compacted_over true a).1, hgen true⟩
    · refine ⟨(jrnFault_commitCal ..).trans (compacted_over false a).1, fun k hc hk => ?_⟩
      rw [oget_jrnFault _ _ _ hc (fun h => hk (by simp [h])) (fun h => hk (by simp [h])) (fun h => hk (by simp [h]))]
      exact hgen false k hc hk

end Sys2Proof.Machine
end

section
/-!
PROOF. The calibration commands (R341, R345, R347): O29.
-/

namespace Sys2Proof.Machine

open Sys2Proof

/-! ## What the commands read -/

/-- Two states that the calibration reads alike: the objects but CAL_RESULT, the raster, the banks and the run. -/
def calAlike (a b : State) : Prop :=
  a.scan = b.scan ∧ a.bnk = b.bnk ∧ a.cal = b.cal ∧
    ∀ k, notCounter k = true → k ≠ Ob.WNP_EVTPEND → k ≠ Ob.CAL_RESULT → oget a k = oget b k

theorem calAlike_counted (e t : Nat) (h : Hdr) (s : State) : calAlike (oset Ob.CAL_RESULT e (counted (s.at t) h)) s :=
  ⟨counted_scan h (s.at t), counted_bnk h (s.at t), counted_cal h (s.at t),
    fun _ hc hk hr => (oget_oset_ne _ _ hr).trans (oget_counted_at h t s hc hk)⟩

section
variable {a b : State} (h : calAlike a b)
include h

theorem calAlike_oget {k : Nat} (hc : notCounter k = true) (hk : k ≠ Ob.WNP_EVTPEND) (hr : k ≠ Ob.CAL_RESULT) :
    oget a k = oget b k := h.2.2.2 k hc hk hr

theorem calAlike_bandH : bandH a = bandH b := by
  have hscan := h.1
  unfold bandH panelH bandCount rget
  rw [hscan, calAlike_oget h (by decide) (by decide) (by decide)]

theorem calAlike_calS : calS a = calS b := by
  obtain ⟨-, hbnk, -⟩ := h
  unfold calS calExtra bankOf
  rw [hbnk]

theorem calAlike_calTotals (rows : Nat) (done : Nat → Nat) : calTotals a rows done = calTotals b rows done := by
  have hb : oget a Ob.CAL_BANDS = oget b Ob.CAL_BANDS := calAlike_oget h (by decide) (by decide) (by decide)
  unfold calTotals
  rw [hb, calAlike_bandH h]

theorem calAlike_calSeconds : calSeconds a = calSeconds b := by
  have hscan := h.1
  unfold calSeconds rget
  rw [calAlike_bandH h, hscan, calAlike_oget h (by decide) (by decide) (by decide),
    calAlike_oget h (k := Ob.CAL_GAPS) (by decide) (by decide) (by decide)]

end

/-! ## The commands -/

theorem jrnMark_cal (m : List Nat) (s : State) : (jrnMark m s).cal = s.cal := jrnAdd_cal ..

theorem oget_jrnMark {k : Nat} (m : List Nat) (s : State) (h : k ≠ Ob.JRN_SEQ) : oget (jrnMark m s) k = oget s k :=
  oget_jrnAdd _ _ _ _ _ _ _ h

/-- A run as START leaves it, before its marker. -/
def calStarted (s : State) : State :=
  oset Ob.CAL_PARCRC (parCrc s (calS s)) (oset Ob.CAL_RUNID ((oget s Ob.CAL_RUNID + 1) % 2 ^ 32)
    (oset Ob.CAL_CLAMP 0 (oset Ob.CAL_FLAT 0 (oset Ob.CAL_ESTTIME (calSeconds s) { s with cal := { s.cal with
      state := .running, s := calS s, extra := calExtra s, staging := [], s2sum := []
      cfg := calKeys.foldl (fun m k => put objDefault m k (oget s k)) []
      bands := calTotals s (calS s) (fun _ => 0) } }))))

theorem calDoStart_eq {s : State} (h : calTotals s (calS s) (fun _ => 0) ≠ []) :
    calDoStart s = jrnMark (calMark (calStarted s)) (calStarted s) := if_neg (by simpa using h)

theorem oget_calStarted {k : Nat} (s : State) (h1 : k ≠ Ob.CAL_PARCRC) (h2 : k ≠ Ob.CAL_RUNID) (h3 : k ≠ Ob.CAL_CLAMP)
    (h4 : k ≠ Ob.CAL_FLAT) (h5 : k ≠ Ob.CAL_ESTTIME) : oget (calStarted s) k = oget s k := by
  unfold calStarted
  rw [oget_oset_ne _ _ h1, oget_oset_ne _ _ h2, oget_oset_ne _ _ h3, oget_oset_ne _ _ h4, oget_oset_ne _ _ h5]
  rfl

theorem calStarted_runid (s : State) : oget (calStarted s) Ob.CAL_RUNID = (oget s Ob.CAL_RUNID + 1) % 2 ^ 32 := by
  unfold calStarted
  rw [oget_oset_ne _ _ (by decide), oget_oset_same]

theorem calStarted_esttime (s : State) : oget (calStarted s) Ob.CAL_ESTTIME = calSeconds s := by
  unfold calStarted
  rw [oget_oset_ne _ _ (by decide), oget_oset_ne _ _ (by decide), oget_oset_ne _ _ (by decide), oget_oset_ne _ _ (by decide),
    oget_oset_same]

theorem ownCalCmd_refused {v : Nat} {s : State} (h : calErr s v ≠ 0) :
    ownCalCmd v s = (oset Ob.CAL_RESULT (calErr s v) s, St.refused) := if_pos h

/-- What an accepted command does, by its number. -/
def calDo (v : Nat) (s : State) : State :=
  if v = 1 then calDoStart s else if v = 2 then calDoResume s else if v = 3 then abandonCal 5 s
  else if v = 4 then calDoCommit s else calErase s

theorem ownCalCmd_taken {v : Nat} {s : State} (h : calErr s v = 0) :
    ownCalCmd v s = (calDo v (oset Ob.CAL_RESULT 0 s), St.ok) := by
  unfold ownCalCmd
  rw [h]
  rfl

/-- An ABORT that is accepted ends a run. -/
theorem running_of_calErr {s : State} (h : calErr s 3 = 0) : s.cal.state = .running := by
  by_contra hn
  unfold calErr at h
  simp [hn] at h

theorem abandonCal_spec {s : State} (h : s.cal.state = .running) : (abandonCal 5 s).cal.state = .abandoned ∧
    (abandonCal 5 s).cal.staging = s.cal.staging ∧ oget (abandonCal 5 s) Ob.CAL_CAUSE = 5 ∧
    oget (abandonCal 5 s) Ob.CAL_RESULT = oget s Ob.CAL_RESULT := by
  unfold abandonCal
  rw [if_pos h]
  dsimp only
  refine ⟨?_, ?_, ?_, ?_⟩
  · rw [pendEvt_cal, logEv_cal]
    rfl
  · rw [pendEvt_cal, logEv_cal]
    rfl
  · rw [oget_pendEvt _ _ (by decide), oget_logEv _ _ _ _ _ (by decide) (by decide) (by decide), oget_oset_same]
  · rw [oget_pendEvt _ _ (by decide), oget_logEv _ _ _ _ _ (by decide) (by decide) (by decide), oget_oset_ne _ _ (by decide)]
    rfl

/-- The demura map rows of some bands, written from the staging set. -/
def demuraWritten (rows : List Nat) (s : State) : State :=
  each rows (fun b st => each (List.range (bandH st)) (fun r st1 =>
    memRun (demuraAt 0 (panelRow st1 b r)) ((List.range (lineSubs st1)).flatMap (fun sub =>
      toBE 2 (get (fun _ => 0) st1.cal.staging (subKey sub (panelRow st1 b r))))) st1)
    (fwMemJob 2 1 1 0 (0x58000000 + 46080 * b * bandH st) 46080 (lineSubs st) (bandH st) st).1) s

theorem oget_memRun (k a : Nat) (bs : List Byte) (s : State) : oget (memRun a bs s) k = oget s k := rfl

theorem demuraWritten_cal (rows : List Nat) (s : State) : (demuraWritten rows s).cal = s.cal := by
  refine each_keeps (obs := State.cal) fun b _ a => ?_
  exact (each_keeps (obs := State.cal) fun r _ a => memRun_cal _ _ a).trans
    ((kept_fwMemJob _ _ _ _ _ _ _ _ (fun _ => id) (Kept.start _ a)).rest.cal (by decide))

theorem oget_demuraWritten {k : Nat} (rows : List Nat) (s : State) (hc : notCounter k = true) (hk : k ∉ jobObjects) :
    oget (demuraWritten rows s) k = oget s k := by
  refine each_keeps (obs := fun a => oget a k) fun b _ a => ?_
  exact (each_keeps (obs := fun a => oget a k) fun r _ a => oget_memRun k _ _ a).trans (oget_fwJob _ _ _ _ _ _ _ _ _ hc hk)

/-- A COMMIT waits for the journal; the rows it writes are no objects. -/
theorem calDoCommit_spec (s : State) : (calDoCommit s).cal = { s.cal with state := .committing } ∧
    (calDoCommit s).jrn.commitCal = true ∧
    ∀ k, notCounter k = true → k ∉ jobObjects → oget (calDoCommit s) k = oget s k := by
  obtain ⟨j, hj, he⟩ : ∃ j : Jrn, j.commitCal = true ∧ calDoCommit s =
      { demuraWritten ((List.range (bandCount s)).filter (fun b => decide ((calBandOf s b).total ≠ 0))) s with
        cal := { (demuraWritten ((List.range (bandCount s)).filter (fun b => decide ((calBandOf s b).total ≠ 0))) s).cal with
          state := .committing }
        jrn := j } := ⟨_, rfl, rfl⟩
  rw [he, demuraWritten_cal]
  exact ⟨rfl, hj, fun k hc hk => oget_demuraWritten _ s hc hk⟩

theorem oget_jrnStatus {k : Nat} (s : State) (h : k ≠ Ob.JRN_SEQ) : oget (jrnStatus s) k = oget s k := by
  unfold jrnStatus jrnStatusOf
  exact oget_jrnAdd _ _ _ _ _ _ _ h

/-- The commit record has committed: the generation is counted and the run is over. -/
theorem calCommitted_spec {s : State} (hp : s.poison = []) (mask : Nat) :
    ∃ d, d = commitGeneration (flipDemura mask (jrnStatus (oset Ob.WEAR_SINCECAL 0 (cnt Ob.CAL_GEN s)))) ∧
      d.jrn.commitCal = false ∧ oget d Ob.CAL_GEN = satInc 0xFFFFFFFF (oget s Ob.CAL_GEN) ∧ oget d Ob.WEAR_SINCECAL = 0 := by
  have hfp (a : State) (ha : a.poison = []) : (flipDemura mask (jrnStatus a)).poison = [] := by
    rw [(frameOf (kept_flipDemura mask) _).poison (by decide), (frameOf kept_jrnStatus a).poison (by decide)]
    exact ha
  have hfo (a : State) (k : Nat) (h1 : k ≠ Ob.JRN_DEMPTR) (h2 : k ≠ Ob.JRN_SEQ) :
      oget (flipDemura mask (jrnStatus a)) k = oget a k :=
    (oget_oset_ne _ _ h1).trans (oget_jrnStatus a h2)
  obtain ⟨hcal, hobj⟩ := commitGeneration_spec (hfp (oset Ob.WEAR_SINCECAL 0 (cnt Ob.CAL_GEN s)) hp)
  refine ⟨_, rfl, hcal, ?_, ?_⟩
  · rw [hobj _ (by decide) (by decide), hfo _ _ (by decide) (by decide), oget_oset_ne _ _ (by decide), oget_cnt_same]
  · rw [hobj _ (by decide) (by decide), hfo _ _ (by decide) (by decide), oget_oset_same]

theorem exec_calCommitDone {t : Nat} {s : State} (h : s.cal.state = .committing) (hp : s.poison = []) :
    ∃ d, d.jrn.commitCal = false ∧ oget d Ob.CAL_GEN = satInc 0xFFFFFFFF (oget s Ob.CAL_GEN) ∧ oget d Ob.WEAR_SINCECAL = 0 ∧
      exec (.calCommitDone t) s = .next (calErase d) := by
  obtain ⟨d, hd, hcal, hgen, hsince⟩ := calCommitted_spec (s := s.at t) hp
    (ofBits ([0, 1, 2, 3].map (fun b => decide ((calBandOf (s.at t) b).total ≠ 0))))
  refine ⟨d, hcal, hgen, hsince, ?_⟩
  change Host.Outcome.next (if (s.at t).cal.state = .committing then
    (if (commitGeneration _).jrn.commitCal then commitGeneration (s.at t) else calErase (commitGeneration _)) else s.at t) = _
  rw [if_pos (show (s.at t).cal.state = .committing from h), ← hd, if_neg (by simp [hcal])]

theorem oget_calErase {k : Nat} (s : State) (h : k ≠ Ob.JRN_SEQ) : oget (calErase s) k = oget s k :=
  oget_jrnMark _ { s with cal := { s.cal with state := .idle, staging := [], bands := [] } } h

theorem calErase_cal (s : State) : (calErase s).cal = { s.cal with state := .idle, staging := [], bands := [] } :=
  jrnMark_cal ..

/-- A write of CAL_CMD that is accepted does its command on the counted state, with the result 0. -/
theorem writeCalCmd_taken {v t : Nat} {h : Hdr} {s : State} (ht : writeTaken (s.at t) h Ob.CAL_CMD v = true)
    (he : calErr (counted (s.at t) h) v = 0) :
    (writeRow h Ob.CAL_CMD v ownCalCmd (s.at t)).cal = (calDo v (oset Ob.CAL_RESULT 0 (counted (s.at t) h))).cal ∧
    (writeRow h Ob.CAL_CMD v ownCalCmd (s.at t)).mem = (calDo v (oset Ob.CAL_RESULT 0 (counted (s.at t) h))).mem ∧
    (writeRow h Ob.CAL_CMD v ownCalCmd (s.at t)).jrn = (calDo v (oset Ob.CAL_RESULT 0 (counted (s.at t) h))).jrn ∧
    ∀ k, k ≠ Ob.WNP_EVTPEND → oget (writeRow h Ob.CAL_CMD v ownCalCmd (s.at t)) k =
      oget (calDo v (oset Ob.CAL_RESULT 0 (counted (s.at t) h))) k := by
  refine ⟨?_, ?_, ?_, fun k hk => ?_⟩
  · rw [writeRow_of_taken ht, ownCalCmd_taken he, answerTaken_cal]
  · rw [writeRow_of_taken ht, ownCalCmd_taken he, answerTaken_mem]
  · rw [writeRow_of_taken ht, ownCalCmd_taken he, answerTaken_jrn]
  · rw [oget_writeRow ht hk, ownCalCmd_taken he]

theorem exec_calCmd (t : Nat) (h : Hdr) (s : State) : ∀ p ∈ [(1, Instr.calStart t h), (2, .calResume t h), (3, .calAbort t h),
    (4, .calCommit t h), (5, .calDiscard t h)], exec p.2 s = .next (writeRow h Ob.CAL_CMD p.1 ownCalCmd (s.at t)) := by
  intro p hp
  simp only [List.mem_cons, List.not_mem_nil, or_false] at hp
  obtain rfl | rfl | rfl | rfl | rfl := hp <;> rfl

/-- Settles O29: each command on the state that has counted its request, and the end of a commit. -/
theorem calibrationFollowsItsCommands : Obligations.CalibrationFollowsItsCommands := by
  unfold Obligations.CalibrationFollowsItsCommands
  intro t h s
  have ha := calAlike_counted 0 t h s
  have hres : oget (oset Ob.CAL_RESULT 0 (counted (s.at t) h)) Ob.CAL_RESULT = 0 := oget_oset_same ..
  have hmem : (oset Ob.CAL_RESULT 0 (counted (s.at t) h)).mem = s.mem := counted_mem h (s.at t)
  have hstag : (oset Ob.CAL_RESULT 0 (counted (s.at t) h)).cal.staging = s.cal.staging := congrArg Cal.staging ha.2.2.1
  refine ⟨fun ht he hne => ?_, fun ht he => ?_, fun ht he => ?_, fun ht he => ?_, fun ht he => ?_, fun n c hc ht he => ?_,
    fun hst hp => ?_, fun hst => ?_⟩
  · obtain ⟨wcal, wmem, -, wobj⟩ := writeCalCmd_taken ht he
    have hdo : calDo 1 (oset Ob.CAL_RESULT 0 (counted (s.at t) h)) =
        calDoStart (oset Ob.CAL_RESULT 0 (counted (s.at t) h)) := rfl
    have hrun : oget (oset Ob.CAL_RESULT 0 (counted (s.at t) h)) Ob.CAL_RUNID = oget s Ob.CAL_RUNID :=
      calAlike_oget ha (by decide) (by decide) (by decide)
    have hS := calAlike_calS ha
    have hT (rows : Nat) := calAlike_calTotals ha rows (fun _ => 0)
    have hsec := calAlike_calSeconds ha
    rw [hdo, calDoStart_eq (by rw [hS, hT]; exact hne)] at wcal wmem wobj
    generalize oset Ob.CAL_RESULT 0 (counted (s.at t) h) = c at *
    have hcs : (calStarted c).cal = { c.cal with state := .running, s := calS c, extra := calExtra c, staging := [], s2sum := []
                                                 cfg := calKeys.foldl (fun m k => put objDefault m k (oget c k)) []
                                                 bands := calTotals c (calS c) (fun _ => 0) } := rfl
    rw [jrnMark_cal, hcs] at wcal
    refine ⟨_, rfl, ?_, ?_, ?_, ?_, ?_, ?_, ?_, ?_⟩
    · rw [wcal]
    · rw [wobj _ (by decide), oget_jrnMark _ _ (by decide),
        oget_calStarted _ (by decide) (by decide) (by decide) (by decide) (by decide), hres]
    · rw [wcal]
    · rw [wcal]
      dsimp only
      rw [hS, hT]
    · rw [wcal]
      exact hS
    · rw [wobj _ (by decide), oget_jrnMark _ _ (by decide), calStarted_esttime, hsec]
    · rw [wobj _ (by decide), oget_jrnMark _ _ (by decide), calStarted_runid, hrun]
    · exact wmem.trans hmem
  · obtain ⟨wcal, wmem, -, wobj⟩ := writeCalCmd_taken ht he
    have hdo : calDo 2 (oset Ob.CAL_RESULT 0 (counted (s.at t) h)) =
        calDoResume (oset Ob.CAL_RESULT 0 (counted (s.at t) h)) := rfl
    rw [hdo] at wcal wmem wobj
    refine ⟨_, rfl, ?_, ?_, ?_, ?_, ?_⟩
    · rw [wcal]
      rfl
    · exact (wobj _ (by decide)).trans hres
    · rw [wcal]
      exact hstag
    · exact (wobj _ (by decide)).trans (calAlike_oget ha (by decide) (by decide) (by decide))
    · exact wmem.trans hmem
  · obtain ⟨wcal, wmem, -, wobj⟩ := writeCalCmd_taken ht he
    have hdo : calDo 3 (oset Ob.CAL_RESULT 0 (counted (s.at t) h)) =
        abandonCal 5 (oset Ob.CAL_RESULT 0 (counted (s.at t) h)) := rfl
    rw [hdo] at wcal wmem wobj
    have hrun : (counted (s.at t) h).cal.state = .running := running_of_calErr he
    obtain ⟨h1, h2, h3, h4⟩ := abandonCal_spec (s := oset Ob.CAL_RESULT 0 (counted (s.at t) h)) hrun
    refine ⟨_, rfl, ?_, ?_, ?_, ?_, ?_⟩
    · rw [wcal]
      exact h1
    · exact (wobj _ (by decide)).trans h3
    · exact (wobj _ (by decide)).trans (h4.trans hres)
    · rw [wcal]
      exact h2.trans hstag
    · exact wmem.trans (((frameOf (kept_abandonCal 5) _).mem (by decide)).trans hmem)
  · obtain ⟨wcal, wmem, wjrn, wobj⟩ := writeCalCmd_taken ht he
    have hdo : calDo 4 (oset Ob.CAL_RESULT 0 (counted (s.at t) h)) =
        calDoCommit (oset Ob.CAL_RESULT 0 (counted (s.at t) h)) := rfl
    obtain ⟨hc, hj, ho⟩ := calDoCommit_spec (oset Ob.CAL_RESULT 0 (counted (s.at t) h))
    rw [hdo, hc] at wcal
    rw [hdo] at wjrn wobj
    refine ⟨_, rfl, ?_, ?_, ?_, ?_, ?_⟩
    · rw [wcal]
    · rw [wjrn]
      exact hj
    · rw [wobj _ (by decide), ho _ (by decide) (by decide), hres]
    · rw [wcal]
      exact hstag
    · rw [wobj _ (by decide), ho _ (by decide) (by decide)]
      exact calAlike_oget ha (by decide) (by decide) (by decide)
  · obtain ⟨wcal, wmem, -, wobj⟩ := writeCalCmd_taken ht he
    have hdo : calDo 5 (oset Ob.CAL_RESULT 0 (counted (s.at t) h)) =
        calErase (oset Ob.CAL_RESULT 0 (counted (s.at t) h)) := rfl
    rw [hdo] at wcal wmem wobj
    rw [calErase_cal] at wcal
    refine ⟨_, rfl, ?_, ?_, ?_, ?_⟩
    · rw [wcal]
    · rw [wcal]
    · rw [wobj _ (by decide), oget_calErase _ (by decide), hres]
    · exact wmem.trans (((frameOf kept_calErase _).mem (by decide)).trans hmem)
  · have hown := ownCalCmd_refused he
    refine ⟨_, exec_calCmd t h s _ hc, ?_, ?_, ?_, ?_⟩
    · rw [writeRow_of_taken ht, hown, answerTaken_cal]
      exact counted_cal h (s.at t)
    · rw [oget_writeRow ht (by decide), hown, oget_oset_same]
    · rw [writeRow_of_taken ht, hown, answerTaken_mem]
      exact counted_mem h (s.at t)
    · rw [writeRow_of_taken ht, hown, answerTaken_jrn]
      exact counted_jrn h (s.at t)
  · obtain ⟨d, -, hgen, hsince, hx⟩ := exec_calCommitDone (t := t) hst hp
    refine ⟨_, hx, ?_, ?_, ?_, ?_, exec_mem hx (by simp [footprint])⟩
    · rw [calErase_cal]
    · rw [calErase_cal]
    · rw [oget_calErase _ (by decide), hgen]
    · rw [oget_calErase _ (by decide), hsince]
  · exact congrArg Host.Outcome.next (if_neg hst)

end Sys2Proof.Machine
end

section
/-!
SUPPORT. The objects that a device-class reaction leaves alone, and those of the changes of state that it makes (R23, R109, R302).
-/

namespace Sys2Proof.Machine

open Sys2Proof

theorem ne_of_not_mem {k j : Nat} {l : List Nat} (hk : k ∉ l) (hj : j ∈ l) : k ≠ j := (ne_of_mem_of_not_mem hj hk).symm

/-- The objects that the end of a sleep state shows. -/
abbrev sleepObjects : List Nat :=
  [Ob.PWR_ABORTS, Ob.PWR_LASTWAKE, Ob.PWR_WAKECNT, Ob.PMB_VREQ, Ob.JRN_SEQ, Ob.WNP_EVTPEND]

section
variable {k : Nat} (hc : notCounter k = true)
include hc

theorem oget_entryEnds (hk : k ∉ sleepObjects) (cause : Nat) (s : State) : oget (entryEnds cause s) k = oget s k := by
  have hshow (a : State) : oget (refreshBands a) k = oget a k := oget_congr ((frameOf kept_refreshBands a).obj (by decide)) k
  have hdone (a : State) (p : Pwr) : oget (wakesDone { a with pwr := p }) k = oget a k := rfl
  have hset (a : State) (p : Pwr) : oget { a with pwr := p } k = oget a k := rfl
  have hroll : oget (rollback s) k = oget s k := oget_congr ((frameOf kept_rollback s).obj (by decide)) k
  have hlog (x y z w : Nat) (a : State) : oget (logEv x y z w a) k = oget a k :=
    oget_logEv _ _ _ _ _ hc (ne_of_not_mem hk (by decide)) (ne_of_not_mem hk (by decide))
  unfold entryEnds
  split
  · extract_lets s1 _ s2 _
    have h2 : oget s2 k = oget s k := by
      unfold s2
      rw [oget_evc _ _ _ hc, oget_cnt_ne _ (ne_of_not_mem hk (by decide))]
      exact (hset _ _).trans hroll
    split
    · split
      · rw [hshow, hset, h2]
      · rw [hlog, hshow, hdone, h2]
    · rw [hshow, hdone, h2]
  · rfl

theorem oget_wakeActs (hk : k ∉ sleepObjects) (src : Nat) (s : State) : oget (wakeActs src s) k = oget s k := by
  have hlast (abort : Bool) (x : Nat) (a : State) : oget (lastWake abort x src a) k = oget a k :=
    oget_oset_ne _ _ (ne_of_not_mem hk (by decide))
  have hcnt (a : State) : oget (cnt Ob.PWR_WAKECNT a) k = oget a k := oget_cnt_ne _ (ne_of_not_mem hk (by decide))
  unfold wakeActs
  split
  · split
    · rfl
    · rw [oget_evc _ _ _ hc, hlast, oget_entryEnds hc hk]
  · split
    · rw [oget_evc _ _ _ hc, hcnt, hlast]
      rfl
    · split
      · rfl
      · dsimp only
        rw [oget_stepGoal _ (ne_of_not_mem hk (by decide))]
        refine (oget_congr (s := evc _ _) rfl k).trans ?_
        rw [oget_evc _ _ _ hc, hcnt, hlast]
        rfl
    · rfl

theorem oget_sleepEnds (hk : k ∉ sleepObjects) (s : State) : oget (sleepEnds s) k = oget s k := by
  unfold sleepEnds
  split
  · exact oget_entryEnds hc hk 4 s
  · exact (oget_wakeActs hc hk 6 _).trans rfl

theorem oget_stateNaks (hk : k ≠ Ob.TRX_NAKCNT + 13) (s : State) : oget (stateNaks s) k = oget s k := by
  have hnak (p : BackPkt) (hp : p.w1 / 2 ^ 24 - 1 = 13) (a : State) : oget (sendNak p a) k = oget a k := by
    unfold sendNak
    rw [oget_evc _ _ _ hc, hp, oget_cnt_ne _ hk]
    rfl
  have htx (t : Nat) (a : State) : oget (nakTx t 0x0E 0 0 a) k = oget a k := by
    have hfree (b : State) : oget (freeTag t false b) k = oget b k := rfl
    have hdetach (b : State) : oget (detachTag t b) k = oget b k := oget_congr ((frameOf (kept_detachTag t) b).obj (by decide)) k
    unfold nakTx
    rw [hfree, hdetach, hnak _ (by change nakWord 0x0E 0 0 / 2 ^ 24 - 1 = 13; decide)]
  have hgr (g : Nat) (a : State) : oget (nakGroup g 0x0E 0 a) k = oget a k := by
    have hset (v : Group) (b : State) : oget (setGroup g v b) k = oget b k := rfl
    unfold nakGroup
    rw [hset, hnak _ (by change nakWord 0x0E 0 0 / 2 ^ 24 - 1 = 13; decide)]
  unfold stateNaks
  extract_lets _ s0 s1 gs s2 _
  have h1 : oget s1 k = oget s k := (each_keeps (obs := fun a => oget a k) fun t _ a => htx t a).trans rfl
  have h2 : oget s2 k = oget s1 k := each_keeps (obs := fun a => oget a k) fun g _ a => hgr g a
  exact (oget_congr (s := s2) rfl k).trans (h2.trans h1)

theorem oget_abandonCal (cause : Nat) (h1 : k ≠ Ob.CAL_CAUSE) (h2 : k ≠ Ob.JRN_SEQ) (h3 : k ≠ Ob.WNP_EVTPEND) (s : State) :
    oget (abandonCal cause s) k = oget s k := by
  unfold abandonCal
  split
  · rw [oget_pendEvt _ _ h3, oget_logEv _ _ _ _ _ hc h2 h3, oget_oset_ne _ _ h1]
    rfl
  · rfl

theorem oget_leaveRun (hk : k ∉ sleepObjects) (h1 : k ≠ Ob.TRX_NAKCNT + 13) (h2 : k ≠ Ob.CAL_CAUSE) (s : State) :
    oget (leaveRun s) k = oget s k := by
  unfold leaveRun
  rw [oget_stateNaks hc h1, oget_abandonCal hc 2 h2 (ne_of_not_mem hk (by decide)) (ne_of_not_mem hk (by decide))]
  split
  · rfl
  · exact oget_entryEnds hc hk 5 s

theorem oget_xflush (sub : Nat) (h1 : k ≠ Ob.JRN_SEQ) (h2 : k ≠ Ob.WNP_EVTPEND) (s : State) :
    oget (xflush sub s) k = oget s k := by
  have hset (v : Crossing) (a : State) : oget (setCross sub v a) k = oget a k := rfl
  unfold xflush
  dsimp only
  split
  · rw [oget_logEv _ _ _ _ _ hc h1 h2, hset, oget_evc _ _ _ hc, hset]
  · rw [oget_evc _ _ _ hc, hset]

theorem oget_resetLane (n : Nat) (h1 : k ≠ Ob.JRN_SEQ) (h2 : k ≠ Ob.WNP_EVTPEND) (s : State) :
    oget (resetLane n s) k = oget s k := by
  unfold resetLane
  split
  · exact oget_xflush hc (n + 1) h1 h2 s
  · rfl

omit hc in
theorem oget_modPxl (f : Pxl → Pxl) (s : State) : oget (modPxl f s) k = oget s k := rfl

omit hc in
theorem oget_setLane (n : Nat) (v : Lane) (s : State) : oget (setLane n v s) k = oget s k := rfl

omit hc in
theorem oget_eachLane (f : Nat → Lane → Lane) (s : State) : oget (eachLane f s) k = oget s k :=
  each_keeps (obs := fun a => oget a k) fun n _ a => oget_setLane n (f n (laneOf a n)) a

theorem oget_clearLink (h1 : k ≠ Ob.JRN_SEQ) (h2 : k ≠ Ob.WNP_EVTPEND) (s : State) : oget (clearLink s) k = oget s k := by
  have hreset : oget (each (List.range 16) resetLane s) k = oget s k :=
    each_keeps (obs := fun a => oget a k) fun n _ a => oget_resetLane hc n h1 h2 a
  exact (oget_modPxl _ _).trans ((oget_eachLane _ _).trans hreset)

omit hc in
theorem oget_setLink (v : LinkState) (h : k ≠ Ob.WNP_EVTPEND) (s : State) : oget (setLink v s) k = oget s k := by
  unfold setLink
  split
  · rfl
  · exact oget_pendEvt 8 _ h

/-- A return of the link to DETECT shows its event alone. -/
theorem oget_toDetect (h1 : k ≠ Ob.JRN_SEQ) (h2 : k ≠ Ob.WNP_EVTPEND) (s : State) : oget (toDetect s) k = oget s k := by
  have hclear := oget_clearLink hc h1 h2 s
  unfold toDetect
  generalize clearLink s = a at hclear
  dsimp only
  split
  · rw [oget_congr ((frameOf kept_sendHello _).obj (by decide)), oget_setLink _ h2, hclear]
  · rw [oget_setLink _ h2, oget_modPxl, hclear]

omit hc in
theorem oget_abortTransfer (p : Port) (h1 : k ≠ Ob.WNP_SEGABORT) (h2 : k ≠ Ob.WNP_EVTPEND) (s : State) :
    oget (abortTransfer p s) k = oget s k := by
  unfold abortTransfer
  split
  · rfl
  · next x _ => rw [oget_congr ((frameOf (kept_transferFails x) _).obj (by decide)), oget_cnt_ne _ h1, oget_setPort _ _ _ h2]

theorem oget_changeOp (v : OpState) (h1 : k ≠ Ob.JRN_SEQ) (h2 : k ≠ Ob.WNP_EVTPEND) (h3 : k ≠ Ob.WNP_SEGABORT) (s : State) :
    oget (changeOp v s) k = oget s k := by
  have hback (x y z : Nat) (a : State) : oget (backEvent x y z a) k = oget a k := by
    unfold backEvent
    exact oget_evc _ _ _ hc
  have hauto (a : State) (boot : Boot) (n : Nat) : oget { a with boot := boot, pnl := { a.pnl with auto := n } } k = oget a k := rfl
  have hdrop (p : Port) (a : State) : oget (if rwsTransfer a p then abortTransfer p a else a) k = oget a k := by
    split
    · exact oget_abortTransfer p h3 h2 a
    · rfl
  have hleave : oget (if s.boot.op = .setup then leaveSetup s else s) k = oget s k := by
    split
    · unfold leaveSetup
      exact (hdrop .spi _).trans (hdrop .can s)
    · rfl
  have hstart (a : State) : oget (startLink a) k = oget a k := by
    unfold startLink
    split
    · exact oget_toDetect hc h1 h2 a
    · rfl
  unfold changeOp
  dsimp only
  split
  · rfl
  · split
    · rw [oget_congr ((frameOf kept_firstTraining _).obj (by decide)), hstart, hback, oget_logEv _ _ _ _ _ hc h1 h2, hauto, hleave]
    · rw [hback, oget_logEv _ _ _ _ _ hc h1 h2, hauto, hleave]

omit hc in
theorem oget_recordLast (n : Nat) (inj : Bool) (h1 : k ≠ Ob.SAF_LAST_SM) (h2 : k ≠ Ob.SAF_LAST_EPOCH) (h3 : k ≠ Ob.JRN_SEQ)
    (s : State) : oget (recordLast n inj s) k = oget s k := by
  unfold recordLast
  rw [oget_jrnStatus _ h3, oget_oset_ne _ _ h2, oget_oset_ne _ _ h1]

/-- The objects that a device-class reaction may change. -/
abbrev reactionObjects : List Nat :=
  sleepObjects ++ [Ob.TRX_NAKCNT + 13, Ob.CAL_CAUSE, Ob.WNP_SEGABORT, Ob.SAF_LAST_SM, Ob.SAF_LAST_EPOCH]

theorem oget_deviceReaction (hk : k ∉ reactionObjects) (n : Nat) (stay inj : Bool) (s : State) :
    oget (deviceReaction n stay inj s) k = oget s k := by
  have hs : k ∉ sleepObjects := fun h => hk (List.mem_append_left _ h)
  have hne {j : Nat} (hj : j ∈ reactionObjects) : k ≠ j := ne_of_not_mem hk hj
  have hmarked : oget (reactionMarked n stay s) k = oget s k := by
    unfold reactionMarked
    dsimp only
    split
    · rfl
    · rfl
  have hshown (a : State) : oget (reactionShown n inj a) k = oget a k := by
    unfold reactionShown
    rw [oget_logEv _ _ _ _ _ hc (hne (by decide)) (hne (by decide)), oget_assertFault _ hc,
      oget_recordLast n inj (hne (by decide)) (hne (by decide)) (hne (by decide)), oget_sleepEnds hc hs]
  have henters (op : OpState) (a : State) : oget (reactionEnters op a) k = oget a k := by
    unfold reactionEnters
    split
    · rfl
    · rw [oget_pendEvt _ _ (hne (by decide)), oget_changeOp hc .safeDark (hne (by decide)) (hne (by decide)) (hne (by decide))]
      split
      · exact oget_leaveRun hc hs (hne (by decide)) (hne (by decide)) a
      · exact oget_stateNaks hc (hne (by decide)) a
  have hdark (a : State) : oget (allDark a) k = oget a k := by
    unfold allDark
    rw [oget_evc _ _ _ hc]
    refine (each_keeps (obs := fun a => oget a k) fun b _ c =>
      oget_congr ((frameOf (kept_holdBlack b true) c).obj (by decide)) k).trans ?_
    exact oget_congr ((frameOf kept_darkenBands a).obj (by decide)) k
  rw [deviceReaction_eq]
  split
  · exact hmarked
  · rw [hdark, henters, hshown, hmarked]

end

end Sys2Proof.Machine
end

section
/-!
PROOF. The conversions of the sense ADC and the reports of a calibration (R332 to R335, R339, R340): O28.
-/

namespace Sys2Proof.Machine

open Sys2Proof

/-! ## The converter -/

/-- The results of the inputs, the conversion in progress and the scheduled ones that wait. -/
def adcView (s : State) : SMap AdcIn × Option (Nat × Bool) × List Nat := (s.cal.adc, s.cal.conv, s.cal.sched)

theorem adcView_congr {a b : State} (h : a.cal = b.cal) : adcView a = adcView b := by
  unfold adcView
  rw [h]

theorem adcView_abandonCal (cause : Nat) (s : State) : adcView (abandonCal cause s) = adcView s := by
  unfold abandonCal
  split
  · dsimp only
    exact (adcView_congr ((pendEvt_cal ..).trans (logEv_cal ..))).trans rfl
  · rfl

theorem adcView_deviceReaction (n : Nat) (stay inj : Bool) (s : State) : adcView (deviceReaction n stay inj s) = adcView s := by
  have hmarked : adcView (reactionMarked n stay s) = adcView s := by
    unfold reactionMarked
    dsimp only
    split
    · rfl
    · rfl
  have hleave (a : State) : adcView (leaveRun a) = adcView a := by
    unfold leaveRun
    rw [adcView_congr ((frameOf kept_stateNaks _).cal (by decide)), adcView_abandonCal]
    split
    · rfl
    · exact adcView_congr ((frameOf (kept_entryEnds 5) a).cal (by decide))
  have henters (op : OpState) (a : State) : adcView (reactionEnters op a) = adcView a := by
    unfold reactionEnters
    split
    · rfl
    · rw [adcView_congr (pendEvt_cal ..), adcView_congr ((changeOp_frame _ _).cal (by decide))]
      split
      · exact hleave a
      · exact adcView_congr ((frameOf kept_stateNaks a).cal (by decide))
  rw [deviceReaction_eq]
  split
  · exact hmarked
  · rw [adcView_congr ((allDark_frame _).cal (by decide)), henters,
      adcView_congr ((reactionShown_frame n inj _).cal (by decide)), hmarked]

theorem adcOf_of_view {a b : State} (h : adcView a = adcView b) (i : Nat) : adcOf a i = adcOf b i := by
  unfold adcOf
  rw [show a.cal.adc = b.cal.adc from congrArg (·.1) h]

theorem adcOf_setAdc_ne {n k : Nat} (v : AdcIn) (s : State) (h : k ≠ n) : adcOf (setAdc n v s) k = adcOf s k :=
  get_put_ne _ _ _ h

/-- A judgement of input `i` marks it at most as bad, and leaves the converter and the count of conversions alone. -/
def JudgesInput (i : Nat) (s s' : State) : Prop :=
  (∃ bad, adcOf s' i = { adcOf s i with bad := bad }) ∧ s'.cal.conv = s.cal.conv ∧ s'.cal.sched = s.cal.sched ∧
    oget s' Ob.CAL_ADCCONV = oget s Ob.CAL_ADCCONV

theorem JudgesInput.of_view {i : Nat} {s s' : State} (h : adcView s' = adcView s)
    (ho : oget s' Ob.CAL_ADCCONV = oget s Ob.CAL_ADCCONV) : JudgesInput i s s' :=
  ⟨⟨(adcOf s i).bad, adcOf_of_view h i⟩, congrArg (·.2.1) h, congrArg (·.2.2) h, ho⟩

theorem JudgesInput.after {i : Nat} {s a s' : State} (h : adcView a = adcView s)
    (ho : oget a Ob.CAL_ADCCONV = oget s Ob.CAL_ADCCONV) (h' : JudgesInput i a s') : JudgesInput i s s' := by
  obtain ⟨⟨bad, hb⟩, hconv, hsched, hcnt⟩ := h'
  exact ⟨⟨bad, by rw [hb, adcOf_of_view h]⟩, hconv.trans (congrArg (·.2.1) h), hsched.trans (congrArg (·.2.2) h), hcnt.trans ho⟩

theorem judges_sm12Input (i : Nat) (out fail : Bool) (s : State) : JudgesInput i s (sm12Input i out fail s) := by
  have hset {a : State} (h : adcView a = adcView (setAdc i { adcOf s i with bad := out } s))
      (ho : oget a Ob.CAL_ADCCONV = oget s Ob.CAL_ADCCONV) : JudgesInput i s a :=
    ⟨⟨out, (adcOf_of_view h i).trans (adcOf_setAdc ..)⟩, congrArg (·.2.1) h, congrArg (·.2.2) h, ho⟩
  unfold sm12Input
  dsimp only
  split
  · split
    · exact hset rfl rfl
    · refine hset ((adcView_deviceReaction ..).trans (adcView_congr ((frameOf (kept_failure 12) _).cal (by decide)))) ?_
      rw [oget_deviceReaction (by decide) (by decide)]
      unfold failure
      rw [oget_evc _ _ _ (by decide)]
      rfl
  · split
    · exact hset rfl rfl
    · exact hset rfl rfl

theorem judges_vresRead (code : Nat) (s : State) : JudgesInput 8 s (vresRead code s) := by
  unfold vresRead
  extract_lets mv s1 low n _ s2 s3
  have h1 : s1.cal = s.cal := evc_cal ..
  have o1 : oget s1 Ob.CAL_ADCCONV = oget s Ob.CAL_ADCCONV := by
    unfold s1
    rw [oget_evc _ _ _ (by decide), oget_oset_ne _ _ (by decide)]
  have h3 : s3.cal = s.cal := by
    unfold s3
    split
    · exact ((oset_cal ..).trans (logEv_cal ..)).trans h1
    · exact h1
  have o3 : oget s3 Ob.CAL_ADCCONV = oget s Ob.CAL_ADCCONV := by
    unfold s3
    split
    · rw [oget_oset_ne _ _ (by decide), oget_logEv _ _ _ _ _ (by decide) (by decide) (by decide)]
      exact o1
    · exact o1
  split
  · exact (judges_sm12Input 8 _ _ s3).after (adcView_congr h3) o3
  · exact .of_view (adcView_congr h3) o3

theorem judges_readConv (i code : Nat) (was : Bool) (s : State) : JudgesInput i s (readConv i code was s) := by
  unfold readConv
  split
  · exact .of_view rfl (oget_oset_ne _ _ (by unfold Ob.CAL_ADCCONV Ob.CAL_THMTEMP; omega))
  · split
    · next h => exact h ▸ judges_vresRead code s
    · split
      · unfold judgeRail
        split
        · exact judges_sm12Input i _ _ s
        · exact .of_view rfl rfl
      · exact .of_view rfl rfl

/-- A conversion that has ended is kept; what is queued stays so. -/
theorem noteConv_spec (i code : Nat) (trig : Bool) (s : State) :
    adcOf (noteConv i code trig s) i = { adcOf s i with valid := true, trig := trig, at_ := s.now, code := code } ∧
    (∀ k, (adcOf (noteConv i code trig s) k).queued = (adcOf s k).queued) ∧
    (noteConv i code trig s).cal.conv = s.cal.conv ∧ (noteConv i code trig s).cal.sched = s.cal.sched ∧
    oget (noteConv i code trig s) Ob.CAL_ADCCONV = satInc 0xFFFFFFFF (oget s Ob.CAL_ADCCONV) := by
  have hcal : (noteConv i code trig s).cal =
      (setAdc i { adcOf s i with valid := true, trig := trig, at_ := s.now, code := code } s).cal := evc_cal ..
  have hadc (k : Nat) := adcOf_of_view (adcView_congr hcal) k
  refine ⟨(hadc i).trans (adcOf_setAdc ..), fun k => ?_, ?_, ?_, ?_⟩
  · rw [hadc]
    by_cases hk : k = i
    · rw [hk, adcOf_setAdc]
    · rw [adcOf_setAdc_ne _ _ hk]
  · rw [hcal]
    rfl
  · rw [hcal]
    rfl
  · unfold noteConv
    rw [oget_evc _ _ _ (by decide), oget_cnt_same]
    rfl

/-- The converter goes on with the lowest queued trigger, else with the oldest scheduled conversion. -/
theorem nextConv_spec (s : State) : (∀ i, ∃ q, adcOf (nextConv s) i = { adcOf s i with queued := q }) ∧
    (∀ k, oget (nextConv s) k = oget s k) ∧
    (∀ k, (List.range 16).find? (fun k => (adcOf s k).queued) = some k →
      (nextConv s).cal.conv = some (k, true) ∧ (nextConv s).cal.sched = s.cal.sched) ∧
    ((List.range 16).find? (fun k => (adcOf s k).queued) = none →
      (nextConv s).cal.conv = s.cal.sched.head?.map (fun k => (k, false)) ∧ (nextConv s).cal.sched = s.cal.sched.drop 1) := by
  unfold nextConv
  split
  · next k hk =>
    refine ⟨fun i => ?_, fun _ => rfl, fun j hj => ?_, fun hn => ?_⟩
    · by_cases hi : i = k
      · rw [hi, adcOf_setAdc]
        exact ⟨false, rfl⟩
      · rw [adcOf_setAdc_ne _ _ hi]
        exact ⟨(adcOf s i).queued, rfl⟩
    · rw [hk] at hj
      cases hj
      exact ⟨rfl, rfl⟩
    · rw [hk] at hn
      exact absurd hn (by simp)
  · next hn =>
    refine ⟨fun i => ⟨(adcOf s i).queued, rfl⟩, fun _ => rfl, fun j hj => ?_, fun _ => ⟨rfl, rfl⟩⟩
    rw [hn] at hj
    exact absurd hj (by simp)

theorem exec_supplyConversionDone {t i : Nat} {code : BitVec 12} {trig : Bool} {s : State} (hon : adcOn s = true)
    (h : s.cal.conv = some (i, trig)) : exec (.supplyConversionDone t code) s =
      .next (readConv i code.toNat (adcOf (s.at t) i).bad (nextConv (noteConv i code.toNat trig (s.at t)))) := by
  have hon' : adcOn (s.at t) = true := hon
  change Host.Outcome.next _ = _
  rw [show (s.at t).cal.conv = some (i, trig) from h]
  exact congrArg Host.Outcome.next (if_neg (by simp [hon']))

/-! ## A trigger -/

theorem exec_calAdctrig_cal {t : Nat} {h : Hdr} {v : Nat} {s : State} (ht : writeTaken (s.at t) h Ob.CAL_ADCTRIG v = true) :
    (writeRow h Ob.CAL_ADCTRIG v ownAdctrig (s.at t)).cal = (trigAdc v (counted (s.at t) h)).cal ∧
    (writeRow h Ob.CAL_ADCTRIG v ownAdctrig (s.at t)).mem = (trigAdc v (counted (s.at t) h)).mem := by
  rw [writeRow_of_taken ht, answerTaken_cal, answerTaken_mem]
  exact ⟨rfl, rfl⟩

/-! ## The reports of a run (R339, R340) -/

/-- The values of driver `j` among the records of a report. -/
def calVals (records : List (Nat × Option (List Nat))) (j : Nat) : Option (List Nat) :=
  (records.find? (fun r => decide (r.1 = j))).bind (·.2)

/-- A report that takes its slot: the sample is added, or taken again. -/
def calrepTaken (b : Nat) (w : CalWait) (vals : Nat → Option (List Nat)) (s : State) : State :=
  let c := calBandOf s b
  let drvs := List.range (rget s Ob.DLK_NDRV)
  let bad := drvs.filter (fun j => (vals j).isNone)
  let s1 := setCalBand b { c with wait := c.wait.filter (· ≠ w) } s
  if !bad.isEmpty then
    each bad (fun _ st => evc 0xCF (cnt Ob.CAL_REPERR st))
      (setCalBand b { calBandOf s1 b with redo := c.redo ++ [w.gap] } s1)
  else
    let n := rget s Ob.DLK_NCH
    let acc := drvs.foldl (fun m j =>
      (((vals j).getD []).zipIdx).foldl (fun m v =>
        let sub := j * n + w.gap.phase + 64 * v.2
        if sub < lineSubs s then upd (fun _ => 0) m (accKey w.gap.level w.gap.row sub) (· + v.1) else m) m) c.acc
    trySlice b (setCalBand b { calBandOf s1 b with acc := acc, taken := c.taken + 1 } s1)

/-- The sample that a report is for. -/
def calrepFor (s : State) (b : Nat) (hd : Nat) : Option CalWait :=
  (if headOk 0xB hd && calMay s b then (calBandOf s b).wait else []).find? (fun w =>
    decide (w.slot = field hd 46 14) && decide (w.epoch % 65536 = field hd 30 16))

theorem exec_calrepReceived (t : Nat) (band : Fin 4) (header : BitVec 64) (words : List (BitVec 32)) (s : State) :
    exec (.calrepReceived t band header words) s = .next (match calrepFor (s.at t) band.val header.toNat with
      | none => s.at t
      | some w => calrepTaken band.val w (calVals (calRecs (ceilDiv (rget s Ob.DLK_NCH) 64) 24 words)) (s.at t)) := by
  change Host.Outcome.next _ = _
  cases h : calrepFor (s.at t) band.val header.toNat with
  | none =>
    unfold calrepFor at h
    rw [h]
  | some w =>
    unfold calrepFor at h
    rw [h]
    rfl

theorem calBandOf_congr {a s : State} (h : a.cal = s.cal) (b : Nat) : calBandOf a b = calBandOf s b := by
  unfold calBandOf
  rw [h]

/-- A driver's record is missing or bad: the sample is taken again. -/
theorem calrepTaken_bad {b : Nat} {w : CalWait} {vals : Nat → Option (List Nat)} {s : State}
    (h : ∃ j, j < rget s Ob.DLK_NDRV ∧ vals j = none) : calBandOf (calrepTaken b w vals s) b =
      { calBandOf s b with wait := (calBandOf s b).wait.filter (· ≠ w), redo := (calBandOf s b).redo ++ [w.gap] } := by
  obtain ⟨j, hj, hn⟩ := h
  have hbad : (List.range (rget s Ob.DLK_NDRV)).filter (fun j => (vals j).isNone) ≠ [] := by
    have : j ∈ (List.range (rget s Ob.DLK_NDRV)).filter (fun j => (vals j).isNone) := by simp [hj, hn]
    exact List.ne_nil_of_mem this
  unfold calrepTaken
  dsimp only
  rw [if_pos (by simpa using hbad), calBandOf_congr (each_keeps (obs := State.cal) fun _ _ a => ?_), calBandOf_setCalBand,
    calBandOf_setCalBand]
  rw [evc_cal]
  rfl

/-- Every record is good and other samples are to be taken again: the sample counts, and the slice goes on. -/
theorem calrepTaken_good {b : Nat} {w : CalWait} {vals : Nat → Option (List Nat)} {s : State}
    (h : ∀ j, j < rget s Ob.DLK_NDRV → vals j ≠ none) (hr : (calBandOf s b).redo ≠ []) : ∃ acc,
      calBandOf (calrepTaken b w vals s) b = { calBandOf s b with
        wait := (calBandOf s b).wait.filter (· ≠ w), acc := acc, taken := (calBandOf s b).taken + 1 } := by
  have hbad : (List.range (rget s Ob.DLK_NDRV)).filter (fun j => (vals j).isNone) = [] := by
    refine List.filter_eq_nil_iff.2 fun j hj hn => ?_
    exact h j (List.mem_range.1 hj) (Option.isNone_iff_eq_none.1 hn)
  have htry (a : State) (ha : (calBandOf a b).redo ≠ []) : trySlice b a = a := by
    refine if_neg ?_
    rintro ⟨-, -, he, -⟩
    exact ha (List.isEmpty_iff.1 he)
  unfold calrepTaken
  dsimp only
  rw [hbad, if_neg (by simp), calBandOf_setCalBand,
    htry _ (by rw [calBandOf_setCalBand]; exact hr), calBandOf_setCalBand]
  exact ⟨_, rfl⟩

/-- Settles O28: what the converter keeps and goes on with, and the report that takes its slot. -/
theorem conversionsAndReportsAreKept : Obligations.ConversionsAndReportsAreKept := by
  unfold Obligations.ConversionsAndReportsAreKept
  refine ⟨fun t s => ⟨fun input hon hin => ⟨fun hc => ?_, fun hc hs => ?_⟩, fun input hoff => ?_, fun h v ht =>
    ⟨fun hc => ?_, fun hc hq => ?_, fun hc hq => ?_⟩, fun code i trig hon hc hi => ?_, fun code hc => ?_⟩,
    fun t band header words records w s hrec => ⟨fun hok hmay hfind => ⟨fun hbad => ?_, fun hredo hgood => ?_⟩, fun hno => ?_⟩⟩
  · have hon' : adcOn (s.at t) = true := hon
    have hsch : hasSchedule input.val = true := by simpa [hasSchedule] using hin
    exact congrArg Host.Outcome.next ((if_neg (by simp [hon', hsch])).trans
      (if_pos (show (s.at t).cal.conv.isNone = true by simp [hc])))
  · have hon' : adcOn (s.at t) = true := hon
    have hsch : hasSchedule input.val = true := by simpa [hasSchedule] using hin
    exact congrArg Host.Outcome.next ((if_neg (by simp [hon', hsch])).trans
      ((if_neg (show ¬(s.at t).cal.conv.isNone = true by simpa [Option.isNone_iff_eq_none] using hc)).trans
        (if_neg (show ¬(s.at t).cal.sched.contains input.val = true by simpa using hs))))
  · refine congrArg Host.Outcome.next (if_pos ?_)
    rcases hoff with hoff | ⟨h4, h8⟩
    · have hoff' : adcOn (s.at t) = false := hoff
      exact .inl (by simp [hoff'])
    · exact .inr (by simp [hasSchedule]; omega)
  · obtain ⟨hcal, hmem⟩ := exec_calAdctrig_cal ht
    have htrig : trigAdc v.toNat (counted (s.at t) h) =
        { counted (s.at t) h with cal := { (counted (s.at t) h).cal with conv := some (v.toNat, true) } } :=
      if_pos (by rw [counted_cal]; simp [hc])
    refine ⟨_, rfl, ?_, ?_⟩
    · rw [hcal, htrig]
      dsimp only
      rw [counted_cal]
      rfl
    · rw [hmem, htrig]
      exact counted_mem ..
  · obtain ⟨hcal, hmem⟩ := exec_calAdctrig_cal ht
    have hadc : adcOf (counted (s.at t) h) v.toNat = adcOf s v.toNat := adcOf_of_view (adcView_congr (counted_cal h (s.at t))) _
    have htrig : trigAdc v.toNat (counted (s.at t) h) = setAdc v.toNat { adcOf s v.toNat with queued := true } (counted (s.at t) h) :=
      (if_neg (by rw [counted_cal]; simpa [Option.isNone_iff_eq_none] using hc)).trans
        ((if_neg (by rw [hadc, hq]; exact Bool.false_ne_true)).trans (by rw [hadc]))
    refine ⟨_, rfl, ?_, ?_, ?_⟩
    · rw [hcal, htrig]
      exact (show _ = (counted (s.at t) h).cal.conv from rfl).trans (congrArg Cal.conv (counted_cal h (s.at t)))
    · rw [adcOf_of_view (adcView_congr hcal), htrig, adcOf_setAdc]
    · rw [hmem, htrig]
      exact counted_mem ..
  · obtain ⟨hcal, hmem⟩ := exec_calAdctrig_cal ht
    have hadc : adcOf (counted (s.at t) h) v.toNat = adcOf s v.toNat := adcOf_of_view (adcView_congr (counted_cal h (s.at t))) _
    have htrig : trigAdc v.toNat (counted (s.at t) h) = evc 0xBF (cnt Ob.CAL_ADCMERGE (counted (s.at t) h)) :=
      (if_neg (by rw [counted_cal]; simpa [Option.isNone_iff_eq_none] using hc)).trans (if_pos (by rw [hadc]; exact hq))
    refine ⟨_, rfl, ?_, ?_, ?_⟩
    · rw [hcal, htrig, evc_cal]
      exact counted_cal h (s.at t)
    · rw [oget_writeRow ht (by decide), ownAdctrig, htrig, oget_evc _ _ _ (by decide), oget_cnt_same,
        oget_counted_at h t s (by decide) (by decide)]
    · rw [hmem, htrig, evc_mem]
      exact counted_mem ..
  · have hx := exec_supplyConversionDone (t := t) (code := code) hon hc
    obtain ⟨hadc, hqueued, -, hsched, hcnt⟩ := noteConv_spec i code.toNat trig (s.at t)
    have hfind : (List.range 16).find? (fun k => (adcOf (noteConv i code.toNat trig (s.at t)) k).queued) =
        (List.range 16).find? (fun k => (adcOf s k).queued) :=
      congrArg (fun f => (List.range 16).find? f) (funext hqueued)
    have hthm {k : Nat} (hk : notCounter k = true) (hk' : k ≠ Ob.CAL_ADCCONV) :
        oget (noteConv i code.toNat trig (s.at t)) k = oget s k := oget_noteConv _ _ _ _ hk hk'
    have hdom : (noteConv i code.toNat trig (s.at t)).dom = s.dom := by
      unfold noteConv
      rw [evc_dom]
      rfl
    generalize noteConv i code.toNat trig (s.at t) = a at hx hadc hsched hcnt hfind hthm hdom
    obtain ⟨hnadc, hnobj, hnsome, hnnone⟩ := nextConv_spec a
    obtain ⟨q, hq⟩ := hnadc i
    have hndom : (nextConv a).dom = a.dom := by
      unfold nextConv
      split
      · rfl
      · rfl
    obtain ⟨⟨bad, hb⟩, hconv, hsch, hcc⟩ := judges_readConv i code.toNat (adcOf (s.at t) i).bad (nextConv a)
    rw [hq, hadc] at hb
    rw [hfind] at hnsome hnnone
    refine ⟨_, hx, ?_, ?_, ?_, ?_, exec_mem hx (by simp [footprint]), ?_, fun k hk => ?_, fun hk => ?_, fun h4 => ?_⟩
    · rw [hb]
    · rw [hb]
    · rw [hb]
    · rw [hb]
      rfl
    · rw [hcc, hnobj, hcnt]
      rfl
    · obtain ⟨h1, h2⟩ := hnsome k hk
      exact ⟨hconv.trans h1, hsch.trans (h2.trans hsched)⟩
    · obtain ⟨h1, h2⟩ := hnnone hk
      rw [hconv, h1, hsch, h2, hsched]
      exact ⟨rfl, rfl⟩
    · have hr : readConv i code.toNat (adcOf (s.at t) i).bad (nextConv a) = oset (Ob.CAL_THMTEMP + i)
          (thermOf (oget (nextConv a) Ob.CAL_THMLO) (oget (nextConv a) Ob.CAL_THMHI) (dget (nextConv a) Ob.CAL_THMTAB) code.toNat)
          (nextConv a) := if_pos h4
      rw [hr, oget_oset_same, hnobj, hnobj, hthm (by decide) (by decide), hthm (by decide) (by decide)]
      unfold dget
      rw [hndom, hdom]
  · change Host.Outcome.next _ = _
    rw [show (s.at t).cal.conv = none from hc]
  · have hfor : calrepFor (s.at t) band.val header.toNat = some w := by
      unfold calrepFor
      rw [hok, hmay]
      exact hfind
    have hx := exec_calrepReceived t band header words s
    rw [hfor, ← hrec] at hx
    have hc := calrepTaken_bad (b := band.val) (w := w) (vals := calVals records) (s := s.at t) hbad
    refine ⟨_, hx, ?_, ?_, ?_, ?_, exec_mem hx (by simp [footprint])⟩
    · rw [hc]
      rfl
    · rw [hc]
      rfl
    · rw [hc]
      rfl
    · rw [hc]
      rfl
  · have hfor : calrepFor (s.at t) band.val header.toNat = some w := by
      unfold calrepFor
      rw [hok, hmay]
      exact hfind
    have hx := exec_calrepReceived t band header words s
    rw [hfor, ← hrec] at hx
    obtain ⟨acc, hc⟩ := calrepTaken_good (b := band.val) (w := w) (vals := calVals records) (s := s.at t) hgood hredo
    refine ⟨_, hx, ?_, ?_, ?_, exec_mem hx (by simp [footprint])⟩
    · rw [hc]
      rfl
    · rw [hc]
      rfl
    · rw [hc]
      rfl
  · have hfor : calrepFor (s.at t) band.val header.toNat = none := by
      unfold calrepFor
      rcases hno with hno | hno | hno
      · rw [hno]
        rfl
      · rw [hno, Bool.and_false]
        rfl
      · split
        · exact hno
        · rfl
    rw [exec_calrepReceived, hfor]

end Sys2Proof.Machine
end

section
/-!
PROOF. Show requests, region commits and the sync of a table's copy (R178, R224, R279, R281): O16.
-/

namespace Sys2Proof.Machine

open Sys2Proof

theorem firstFrame_congr {a b : State} (h : a.scan = b.scan) : firstFrame a = firstFrame b := by
  unfold firstFrame
  rw [h]

theorem plateOf_congr {a b : State} (h : a.scan = b.scan) (n : Nat) : plateOf a n = plateOf b n := by
  unfold plateOf
  rw [h]

theorem ended_scan (k v : Nat) (s : State) : (ended k v s).scan = s.scan := by
  unfold ended
  rw [pendEvt_scan, oset_scan]

theorem oget_ended_same {k : Nat} (v : Nat) (s : State) (h : k ≠ Ob.WNP_EVTPEND) : oget (ended k v s) k = v := by
  unfold ended
  rw [oget_pendEvt _ _ h, oget_oset_same]

/-! ## Show requests -/

section
variable {v : Nat} {s : State}

/-- A show request that passes its checks is pending for its frame. -/
theorem ownShowReq_pends (hn : s.scan.pend = none) (h6 : v % 16 ≤ 6) (hp : v % 16 = 0 ∨ plateOf s (v % 16 - 1) = 2)
    (hlate : s.scan.epoch + 1 < oget s Ob.SCAN_SHOW_EPOCH ∨ bit v 7 = true)
    (hfar : oget s Ob.SCAN_SHOW_EPOCH ≤ s.scan.epoch + oget s Ob.TRX_EPOCH_AHEAD) :
    ownShowReq v s = (oset Ob.SCAN_SHOW_STAT 1 { s with scan := { s.scan with
      pend := some (v % 16, max (oget s Ob.SCAN_SHOW_EPOCH) (firstFrame s), false) } }, St.ok) := by
  unfold ownShowReq
  dsimp only
  rw [if_neg (not_lt.mpr h6), if_neg (fun ⟨h0, h2⟩ => hp.elim h0 h2), if_neg (by simp [hn]), if_neg, if_neg (not_lt.mpr hfar)]
  rintro ⟨hle, hl⟩
  rcases hlate with hlate | hlate
  · exact absurd hle (not_le.mpr hlate)
  · simp [hlate] at hl

theorem ownShowReq_unloaded (h6 : v % 16 ≤ 6) (h0 : v % 16 ≠ 0) (hp : plateOf s (v % 16 - 1) ≠ 2) :
    ownShowReq v s = (ended Ob.SCAN_SHOW_STAT 4 s, St.refused) := by
  unfold ownShowReq
  dsimp only
  rw [if_neg (not_lt.mpr h6), if_pos ⟨h0, hp⟩]

theorem ownShowReq_pending (h0 : v % 16 = 0) (hp : s.scan.pend.isSome = true) :
    ownShowReq v s = (ended Ob.SCAN_SHOW_STAT 5 s, St.refused) := by
  unfold ownShowReq
  dsimp only
  rw [if_neg (by omega), if_neg (fun h => h.1 h0), if_pos hp]

end

/-! ## Region commits -/

theorem oget_setScan (k : Nat) (x : Scan) (s : State) : oget { s with scan := x } k = oget s k := rfl

theorem oget_stagedRecord {k : Nat} (flags arg gen tag : Nat) (s : State) (h : k ≠ Ob.JRN_SEQ) :
    oget (stagedRecord flags arg gen tag s) k = oget s k := by
  unfold stagedRecord
  exact oget_jrnAdd _ _ _ _ _ _ _ h

theorem journalPending_spec {s : State} {e : Nat} {r : Option Nat} (h : s.scan.pendReg = some (e, r)) :
    (journalPending s).scan.regAct = s.scan.regAct ∧ (journalPending s).scan.pendReg.map (·.1) = some e ∧
    ∀ k, k ≠ Ob.JRN_SEQ → oget (journalPending s) k = oget s k := by
  unfold journalPending
  rw [h]
  exact ⟨rfl, rfl, fun k hk => (oget_setScan k _ (stagedRecord 0 0 0 0 s)).trans (oget_stagedRecord _ _ _ _ _ hk)⟩

/-- A region commit that passes its checks is pending for its frame; that of a sealed configuration with its record. -/
theorem ownRegReq_pends {v : Nat} {s : State} (hn : s.scan.pendReg = none) (h0 : bit v 0 = true)
    (hlate : s.scan.epoch + 1 < oget s Ob.FRS_REG_EPOCH ∨ bit v 7 = true)
    (hfar : oget s Ob.FRS_REG_EPOCH ≤ s.scan.epoch + oget s Ob.TRX_EPOCH_AHEAD)
    (hr : regionErr s (stagedRegions s) = none)
    (hc : capOk (oset Ob.FRS_REG_ERRIDX 0xFFFF s) (stagedRegions (oset Ob.FRS_REG_ERRIDX 0xFFFF s)) = true) :
    ∃ a, a = oset Ob.FRS_REG_STAT 1 { oset Ob.FRS_REG_ERRIDX 0xFFFF s with scan := { s.scan with
        pendReg := some (max (oget s Ob.FRS_REG_EPOCH) (firstFrame s), none) } } ∧
      ownRegReq v s = (whenDo (oflag a Ob.SAF_SEALED) journalPending a, St.ok) := by
  refine ⟨_, rfl, ?_⟩
  unfold ownRegReq
  dsimp only
  rw [if_neg (by simp [h0]), if_neg (by simp [hn]), if_neg, if_neg (not_lt.mpr hfar), hr]
  · exact if_neg (by rw [hc]; simp)
  · rintro ⟨hle, hl⟩
    rcases hlate with hlate | hlate
    · exact absurd hle (not_le.mpr hlate)
    · simp [hlate] at hl

/-- Settles O16: the request waits for its frame, and what is in force stays. -/
theorem requestsWaitForTheirFrame : Obligations.RequestsWaitForTheirFrame := by
  unfold Obligations.RequestsWaitForTheirFrame
  intro t s
  refine ⟨fun index sub hb => ?_, fun h v ht hn h6 hp hlate hfar => ?_, fun h v ht h6 => ⟨fun h0 hp => ?_, fun h0 hp => ?_⟩,
    fun h v ht hn h0 hlate hfar hr hc => ?_⟩
  · exact ⟨_, congrArg Host.Outcome.next (if_pos hb), look_del_same .., rfl, rfl, rfl⟩
  · have hscan : (counted (s.at t) h).scan = s.scan := counted_scan h (s.at t)
    have he : oget (counted (s.at t) h) Ob.SCAN_SHOW_EPOCH = oget s Ob.SCAN_SHOW_EPOCH :=
      oget_counted_at h t s (by decide) (by decide)
    have ha : oget (counted (s.at t) h) Ob.TRX_EPOCH_AHEAD = oget s Ob.TRX_EPOCH_AHEAD :=
      oget_counted_at h t s (by decide) (by decide)
    have hown := ownShowReq_pends (v := v.toNat) (s := counted (s.at t) h) (by rw [hscan]; exact hn) h6
      (by rw [plateOf_congr hscan]; exact hp) (by rw [hscan, he]; exact hlate) (by rw [hscan, he, ha]; exact hfar)
    have hx : exec (.scanShowReq t h v) s = .next (writeRow h Ob.SCAN_SHOW_REQ v.toNat ownShowReq (s.at t)) := rfl
    have hs : (writeRow h Ob.SCAN_SHOW_REQ v.toNat ownShowReq (s.at t)).scan = { s.scan with
        pend := some (v.toNat % 16, max (oget s Ob.SCAN_SHOW_EPOCH) (firstFrame s), false) } := by
      rw [writeRow_of_taken ht, hown, answerTaken_scan, oset_scan]
      dsimp only
      rw [hscan, he, firstFrame_congr hscan]
    refine ⟨_, hx, ?_, ?_, ?_, exec_mem hx (by simp [footprint])⟩
    · rw [oget_writeRow ht (by decide), hown, oget_oset_same]
    · rw [hs]
    · rw [hs]
  · have hscan : (counted (s.at t) h).scan = s.scan := counted_scan h (s.at t)
    have hown := ownShowReq_unloaded (v := v.toNat) (s := counted (s.at t) h) h6 h0 (by rw [plateOf_congr hscan]; exact hp)
    refine ⟨_, rfl, ?_, ?_⟩
    · rw [oget_writeRow ht (by decide), hown, oget_ended_same _ _ (by decide)]
    · rw [writeRow_of_taken ht, hown, answerTaken_scan, ended_scan, hscan]
  · have hscan : (counted (s.at t) h).scan = s.scan := counted_scan h (s.at t)
    have hown := ownShowReq_pending (v := v.toNat) (s := counted (s.at t) h) h0 (by rw [hscan]; exact hp)
    refine ⟨_, rfl, ?_, ?_⟩
    · rw [oget_writeRow ht (by decide), hown, oget_ended_same _ _ (by decide)]
    · rw [writeRow_of_taken ht, hown, answerTaken_scan, ended_scan, hscan]
  · have hscan : (counted (s.at t) h).scan = s.scan := counted_scan h (s.at t)
    have he : oget (counted (s.at t) h) Ob.FRS_REG_EPOCH = oget s Ob.FRS_REG_EPOCH :=
      oget_counted_at h t s (by decide) (by decide)
    have ha : oget (counted (s.at t) h) Ob.TRX_EPOCH_AHEAD = oget s Ob.TRX_EPOCH_AHEAD :=
      oget_counted_at h t s (by decide) (by decide)
    have hsealed : oget (counted (s.at t) h) Ob.SAF_SEALED = oget s Ob.SAF_SEALED :=
      oget_counted_at h t s (by decide) (by decide)
    obtain ⟨a, hae, hown⟩ := ownRegReq_pends (v := v.toNat) (s := counted (s.at t) h) (by rw [hscan]; exact hn) h0
      (by rw [hscan, he]; exact hlate) (by rw [hscan, he, ha]; exact hfar) hr hc
    have hx : exec (.regionCommitReq t h v) s = .next (writeRow h Ob.FRS_REG_REQ v.toNat ownRegReq (s.at t)) := rfl
    have hasc : a.scan = { s.scan with pendReg := some (max (oget s Ob.FRS_REG_EPOCH) (firstFrame s), none) } := by
      rw [hae, oset_scan]
      dsimp only
      rw [hscan, he, firstFrame_congr hscan]
    have hstat : oget a Ob.FRS_REG_STAT = 1 := by
      rw [hae, oget_oset_same]
    have herr : oget a Ob.FRS_REG_ERRIDX = 0xFFFF := by
      rw [hae, oget_oset_ne _ _ (by decide)]
      exact (oget_setScan _ _ (oset Ob.FRS_REG_ERRIDX 0xFFFF (counted (s.at t) h))).trans (oget_oset_same ..)
    have hseal : oflag a Ob.SAF_SEALED = oflag s Ob.SAF_SEALED := by
      have : oget a Ob.SAF_SEALED = oget s Ob.SAF_SEALED := by
        rw [hae, oget_oset_ne _ _ (by decide)]
        exact (oget_setScan _ _ (oset Ob.FRS_REG_ERRIDX 0xFFFF (counted (s.at t) h))).trans
          ((oget_oset_ne _ _ (by decide)).trans hsealed)
      unfold oflag
      rw [this]
    obtain ⟨hact, hmap, hobj⟩ := journalPending_spec (s := a) (e := max (oget s Ob.FRS_REG_EPOCH) (firstFrame s)) (r := none)
      (by rw [hasc])
    have hws : (writeRow h Ob.FRS_REG_REQ v.toNat ownRegReq (s.at t)).scan =
        (whenDo (oflag s Ob.SAF_SEALED) journalPending a).scan := by
      rw [writeRow_of_taken ht, hown, answerTaken_scan, hseal]
    have hwo (k : Nat) (hk : k ≠ Ob.WNP_EVTPEND) (hk' : k ≠ Ob.JRN_SEQ) :
        oget (writeRow h Ob.FRS_REG_REQ v.toNat ownRegReq (s.at t)) k = oget a k := by
      rw [oget_writeRow ht hk, hown]
      unfold whenDo
      split
      · exact hobj k hk'
      · rfl
    refine ⟨_, hx, (hwo _ (by decide) (by decide)).trans hstat, (hwo _ (by decide) (by decide)).trans herr, ?_,
      exec_mem hx (by simp [footprint]), ?_, fun ho => ?_⟩
    · rw [hws]
      unfold whenDo
      split
      · rw [hact, hasc]
      · rw [hasc]
    · rw [hws]
      unfold whenDo
      split
      · exact hmap
      · rw [hasc]
        rfl
    · rw [hws, ho]
      change a.scan.pendReg.map (·.2) = _
      rw [hasc]
      rfl

end Sys2Proof.Machine
end

section
/-! SUPPORT. What a journal fault, a request of a compaction, a program and a generation leave of the journal's own state. -/

namespace Sys2Proof.Machine
open Sys2Proof

/-- An event log entry is one more record in the write buffer. -/
theorem logEv_jrn (code sev bands data : Nat) (s : State) :
    ∃ r, (logEv code sev bands data s).jrn = { s.jrn with buf := s.jrn.buf ++ [r] } := by
  unfold logEv
  dsimp only
  rw [pendEvt_jrn, evc_jrn]
  exact ⟨_, rfl⟩

theorem jrnFault_jrn (cause detail : Nat) (s : State) :
    ∃ r, (jrnFault cause detail s).jrn = { s.jrn with buf := s.jrn.buf ++ [r] } :=
  logEv_jrn 0x17 1 0 _ (oset Ob.JRN_FAULT cause s)

theorem jrnFault_fault (cause detail : Nat) (s : State) : oget (jrnFault cause detail s) Ob.JRN_FAULT = cause :=
  (oget_logEv _ _ _ _ _ (by decide) (by decide) (by decide)).trans (oget_oset_same ..)

/-- An abandoned calibration adds at most its event log entry. -/
theorem abandonCal_jrn (cause : Nat) (s : State) :
    ∃ rs, (abandonCal cause s).jrn = { s.jrn with buf := s.jrn.buf ++ rs } := by
  unfold abandonCal
  split
  · obtain ⟨r, hr⟩ := logEv_jrn 0x10 0 0 (0x0200 + cause)
      (oset Ob.CAL_CAUSE cause { s with cal := { s.cal with state := .abandoned } })
    exact ⟨[r], (pendEvt_jrn ..).trans hr⟩
  · exact ⟨[], by rw [List.append_nil]⟩

/-- A request of a compaction changes neither the write buffer nor the ring. -/
theorem startCompact_jrn (s : State) : ∃ c a cand since, (startCompact s).jrn =
    { s.jrn with compact := c, again := a, cand := cand, since := since } := by
  unfold startCompact
  split <;> exact ⟨_, _, _, _, rfl⟩

theorem startCompact_asks (s : State) : (startCompact s).jrn.compact = true ∨ (startCompact s).jrn.again = true := by
  unfold startCompact
  split
  · exact .inr rfl
  · exact .inl rfl

theorem iter_jrn {f : State → State} (h : ∀ a, (f a).jrn = a.jrn) (n : Nat) (s : State) : (iter f n s).jrn = s.jrn :=
  iter_obs (obs := State.jrn) h n s

theorem showRing_jrn (s : State) : (showRing s).jrn = s.jrn := by
  unfold showRing
  exact oset_jrn ..

theorem evc_ite_jrn (c : Prop) [Decidable c] (code : Nat) (s : State) : (if c then evc code s else s).jrn = s.jrn := by
  split
  · exact evc_jrn code s
  · rfl

/-- The journal behind the program of a record: the buffer has lost it, its header stands at the head and the total has moved. -/
def Programmed (rest : List JRec) (head : List Byte) (total : Nat) (a : State) : Prop :=
  a.jrn.buf = rest ∧ a.jrn.head = head ∧ a.jrn.total = total

theorem Programmed.of_jrn {rest : List JRec} {head : List Byte} {total : Nat} {a b : State} (h : b.jrn = a.jrn)
    (ha : Programmed rest head total a) : Programmed rest head total b := by
  unfold Programmed
  rw [h]
  exact ha

theorem Programmed.record {rest : List JRec} {head : List Byte} {total : Nat} {a : State} {j : Jrn} (hb : j.buf = rest)
    (hh : j.head = head) (ht : j.total = total) : Programmed rest head total { a with jrn := j } := ⟨hb, hh, ht⟩

theorem Programmed.startCompact {rest : List JRec} {head : List Byte} {total : Nat} {a : State}
    (ha : Programmed rest head total a) : Programmed rest head total (startCompact a) := by
  obtain ⟨c, again, cand, since, h⟩ := startCompact_jrn a
  unfold Programmed
  rw [h]
  exact ha

/-- A program takes the record from the buffer and writes its header at the head. -/
theorem programHead_programmed (r : JRec) (rest : List JRec) (s : State) :
    Programmed rest (recHeader r) (s.jrn.total + recSize r) (programHead r rest s) := by
  unfold programHead
  extract_lets n coded s1 _ s2 s3
  have hev : s1.jrn = s.jrn := (iter_jrn (evc_jrn 0xD3) _ _).trans (evc_jrn ..)
  clear_value s1
  have h2 : Programmed rest (recHeader r) (s.jrn.total + recSize r) s2 := by
    refine Programmed.record rfl rfl ?_
    exact congrArg (Jrn.total · + recSize r) hev
  have h3 : Programmed rest (recHeader r) (s.jrn.total + recSize r) s3 :=
    h2.of_jrn ((showRing_jrn _).trans (evc_ite_jrn ..))
  split
  · exact h3.startCompact
  · exact h3

/-! ## A generation -/

/-- The journal after the commit of generation `gen`, with `since` bytes of records behind its fold point. -/
def GenerationMade (since gen : Nat) (a : State) : Prop :=
  a.jrn.compact = false ∧ a.jrn.again = false ∧ a.jrn.used = since ∧ a.jrn.nv.gen = gen ∧ oget a Ob.JRN_GEN = gen

theorem GenerationMade.oset {since gen k : Nat} {a : State} (v : Nat) (hk : Ob.JRN_GEN ≠ k) (h : GenerationMade since gen a) :
    GenerationMade since gen (oset k v a) := by
  obtain ⟨hc, ha, hu, hn, hg⟩ := h
  exact ⟨hc, ha, hu, hn, (oget_oset_ne v a hk).trans hg⟩

theorem GenerationMade.showRing {since gen : Nat} {a : State} (h : GenerationMade since gen a) :
    GenerationMade since gen (showRing a) := by
  unfold Machine.showRing
  exact h.oset _ (by decide)

theorem GenerationMade.jrnFault {since gen : Nat} {a : State} (cause detail : Nat) (h : GenerationMade since gen a) :
    GenerationMade since gen (jrnFault cause detail a) := by
  obtain ⟨hc, ha, hu, hn, hg⟩ := h
  obtain ⟨r, hr⟩ := jrnFault_jrn cause detail a
  refine ⟨?_, ?_, ?_, ?_, (oget_jrnFault _ _ _ (by decide) (by decide) (by decide) (by decide)).trans hg⟩ <;> rw [hr]
  · exact hc
  · exact ha
  · exact hu
  · exact hn

/-- The journal's state is `j`. A predicate of its own, so that no proof evaluates a state to read it. -/
def JrnIs (j : Jrn) (a : State) : Prop := a.jrn = j

theorem erased_jrnIs (n : Nat) (s : State) : JrnIs s.jrn (iter (evc 0xD3) n (evc 0xD1 s)) :=
  (iter_jrn (evc_jrn 0xD3) _ _).trans (evc_jrn ..)

theorem GenerationMade.of_commit {a : State} {j : Jrn} (h : JrnIs j a) (ha : j.again = false) (nv : Nv) :
    GenerationMade j.since nv.gen (Machine.oset Ob.JRN_GEN nv.gen { a with jrn := { a.jrn with
      nv := nv, base := nv, older := a.jrn.cand, used := a.jrn.since, compact := false, commitCal := false } }) := by
  subst h
  exact ⟨rfl, ha, rfl, rfl, oget_oset_same ..⟩

theorem capture_gen (newDefect : Bool) (s : State) (nv : Nv) : (capture newDefect s nv).gen = (nv.gen + 1) % 2 ^ 32 := by
  unfold capture
  dsimp only

/-- The commit of a generation once the sectors of its areas are erased. -/
def generationShown (nv : Nv) (s1 : State) : State :=
  let s2 := oset Ob.JRN_GEN nv.gen { s1 with jrn := { s1.jrn with
    nv := nv, base := nv, older := s1.jrn.cand, used := s1.jrn.since, compact := false, commitCal := false } }
  let f := oget s2 Ob.JRN_FAULT
  let s3 := if f ≠ 1 ∧ f ≠ 2 ∧ f ≠ 5 ∧ f ≠ 10 then oset Ob.JRN_FAULT 0 s2 else s2
  let s4 := if s3.jrn.again ∧ !bankAway s3 2 then
      { s3 with jrn := { s3.jrn with compact := true, again := false, cand := s3.jrn.base, since := 0 } } else s3
  showRing s4

theorem compacted_eq (newDefect : Bool) (s : State) : compacted newDefect s =
    generationShown (capture newDefect s s.jrn.nv) (iter (evc 0xD3) (areaSectors s) (evc 0xD1 s)) := by
  unfold compacted generationShown
  rfl

theorem generationShown_made {s1 : State} {j : Jrn} (hj : JrnIs j s1) (ha : j.again = false) (nv : Nv) :
    GenerationMade j.since nv.gen (generationShown nv s1) := by
  unfold generationShown
  extract_lets _ s2 f s3 _ s4
  have h2 : GenerationMade j.since nv.gen s2 := .of_commit hj ha nv
  have h3 : GenerationMade j.since nv.gen s3 := by
    unfold s3
    split
    · exact h2.oset _ (by decide)
    · exact h2
  have h4 : GenerationMade j.since nv.gen s4 := by
    unfold s4
    rw [if_neg fun h => by simp [h3.2.1] at h]
    exact h3
  exact h4.showRing

theorem compacted_made {s : State} (ha : s.jrn.again = false) (newDefect : Bool) :
    GenerationMade s.jrn.since ((s.jrn.nv.gen + 1) % 2 ^ 32) (compacted newDefect s) := by
  rw [compacted_eq, ← capture_gen newDefect s s.jrn.nv]
  exact generationShown_made (erased_jrnIs (areaSectors s) s) ha _

theorem codeArea_jrn (base pitch w h : Nat) (s : State) : (codeArea base pitch w h s).1.jrn = s.jrn :=
  (kept_codeArea base pitch w h (fun _ => id) (Kept.start [.obj, .lake] s)).rest.jrn (by decide)

theorem codeArea_poison (base pitch w h : Nat) (s : State) : (codeArea base pitch w h s).1.poison = s.poison :=
  (kept_codeArea base pitch w h (fun _ => id) (Kept.start [.obj, .lake] s)).rest.poison (by decide)

/-- With no poison in DRAM a generation is made, whatever its area holds. -/
theorem commitGeneration_made {s : State} (hp : s.poison = []) (ha : s.jrn.again = false) :
    GenerationMade s.jrn.since ((s.jrn.nv.gen + 1) % 2 ^ 32) (commitGeneration s) := by
  have hdone := codeArea_done hp 0x6C000000 11520 (ceilDiv (lineSubs s) 4) (panelH s)
  have hjrn := codeArea_jrn 0x6C000000 11520 (ceilDiv (lineSubs s) 4) (panelH s) s
  unfold commitGeneration
  split
  · exact compacted_made ha false
  · generalize codeArea 0x6C000000 11520 (ceilDiv (lineSubs s) 4) (panelH s) s = a at hdone hjrn
    obtain ⟨a, ok, fits⟩ := a
    simp only at hdone hjrn
    subst hdone
    dsimp only
    rw [if_neg (by simp), ← hjrn]
    have hmade (b : Bool) := compacted_made (s := a) (by rw [hjrn]; exact ha) b
    split
    · exact hmade true
    · exact (hmade false).jrnFault 6 2

/-- A coding of the demura bands that has met no poison: the journal differs in its write buffer alone. -/
def DemuraCoded (s : State) (a : State × Option Nat) : Prop :=
  a.1.poison = [] ∧ (∃ buf, a.1.jrn = { s.jrn with buf := buf }) ∧ ∃ m, a.2 = some m

/-- With no poison in DRAM every used band is coded. -/
theorem codeDemura_coded {s : State} (hp : s.poison = []) : DemuraCoded s (codeDemura s) := by
  unfold codeDemura
  refine List.foldlRecOn (motive := DemuraCoded s) _ _ ⟨hp, ⟨_, rfl⟩, _, rfl⟩ ?_
  rintro ⟨a, m⟩ ⟨hpa, ⟨buf, hbuf⟩, m, rfl⟩ b _
  have hdone := codeArea_done hpa (0x58000000 + 46080 * b * bandH s) 46080 (lineSubs s) (bandH s)
  have hjrn := (codeArea_jrn (0x58000000 + 46080 * b * bandH s) 46080 (lineSubs s) (bandH s) a).trans hbuf
  have hpoison := (codeArea_poison (0x58000000 + 46080 * b * bandH s) 46080 (lineSubs s) (bandH s) a).trans hpa
  dsimp only
  generalize codeArea (0x58000000 + 46080 * b * bandH s) 46080 (lineSubs s) (bandH s) a = c at hdone hjrn hpoison
  obtain ⟨c, ok, fits⟩ := c
  simp only at hdone hjrn hpoison
  subst hdone
  dsimp only
  rw [if_neg (by simp)]
  split
  · exact ⟨hpoison, ⟨_, hjrn⟩, _, rfl⟩
  · obtain ⟨r, hr⟩ := jrnFault_jrn 6 (3 + b) c
    have hpf : (jrnFault 6 (3 + b) c).poison = c.poison :=
      (frameOf (kept_jrnFault 6 (3 + b)) c).poison (by decide)
    exact ⟨hpf.trans hpoison, ⟨_, by rw [hr, hjrn]⟩, _, rfl⟩

end Sys2Proof.Machine
end

section
/-! PROOF. O48. -/

namespace Sys2Proof.Machine
open Sys2Proof

theorem flipDemura_jrn (m : Nat) (s : State) :
    ∃ p d, (flipDemura m s).jrn = { s.jrn with nv := { s.jrn.nv with demPtr := p, demura := d } } := ⟨_, _, rfl⟩

/-- A compaction that succeeds makes the next generation. -/
theorem exec_compactionDone {t : Nat} {s : State} (hc : s.jrn.compact = true) (hcal : s.jrn.commitCal = false)
    (hb : bankAway s 2 = false) (ha : s.jrn.again = false) (hp : s.poison = []) :
    ∃ s', exec (.compactionDone t true) s = .next s' ∧ GenerationMade s.jrn.since ((s.jrn.nv.gen + 1) % 2 ^ 32) s' := by
  have hgo : ¬(!(s.at t).jrn.compact ∨ (s.at t).jrn.commitCal ∨ bankAway (s.at t) 2) := by
    rw [show (s.at t).jrn.compact = true from hc, show (s.at t).jrn.commitCal = false from hcal,
      show bankAway (s.at t) 2 = false from hb]
    decide
  refine ⟨_, congrArg Host.Outcome.next ((if_neg hgo).trans (if_neg (show ¬(!true) = true by decide))), ?_⟩
  split
  · exact commitGeneration_made (s := s.at t) hp ha
  · obtain ⟨hpoison, ⟨buf, hjrn⟩, m, hm⟩ := codeDemura_coded (s := s.at t) hp
    generalize codeDemura (s.at t) = c at hpoison hjrn hm
    obtain ⟨c, m'⟩ := c
    simp only at hpoison hjrn hm
    subst hm
    dsimp only
    obtain ⟨p, d, hflip⟩ := flipDemura_jrn m { c with jrn := { c.jrn with persist := false } }
    have hpf : (flipDemura m { c with jrn := { c.jrn with persist := false } }).poison = [] := hpoison
    generalize flipDemura m { c with jrn := { c.jrn with persist := false } } = f at hflip hpf
    have hmade := commitGeneration_made (s := f) hpf (by rw [hflip, hjrn]; exact ha)
    rw [hflip, hjrn] at hmade
    exact hmade

/-- The state after a program that failed: the sector of the head is retired, and the total is past it. -/
def programFailed (r : JRec) (s : State) : State :=
  let s1 := jrnFault 3 (headSector s) (evc 0xD4 s)
  let s2 := { s1 with jrn := { s1.jrn with retired := headSector s :: s1.jrn.retired
                                           total := (s1.jrn.total / 65536 + 1) * 65536 } }
  if r.type = 9 then abandonCal 7 s2 else s2

theorem programFailed_spec (r : JRec) (s : State) : (programFailed r s).jrn.retired = headSector s :: s.jrn.retired ∧
    (∃ rs, (programFailed r s).jrn.buf = s.jrn.buf ++ rs) ∧ oget (programFailed r s) Ob.JRN_FAULT = 3 := by
  obtain ⟨r1, h1⟩ := jrnFault_jrn 3 (headSector s) (evc 0xD4 s)
  have hf := jrnFault_fault 3 (headSector s) (evc 0xD4 s)
  rw [evc_jrn] at h1
  unfold programFailed
  generalize jrnFault 3 (headSector s) (evc 0xD4 s) = s1 at h1 hf
  dsimp only
  rw [h1]
  generalize hj : ({ s.jrn with
    buf := s.jrn.buf ++ [r1], retired := headSector s :: s.jrn.retired, total := (s.jrn.total / 65536 + 1) * 65536 } : Jrn) = j
  have hret : j.retired = headSector s :: s.jrn.retired := by rw [← hj]
  have hbuf : j.buf = s.jrn.buf ++ [r1] := by rw [← hj]
  have hf2 : oget { s1 with jrn := j } Ob.JRN_FAULT = 3 := hf
  split
  · obtain ⟨rs, h2⟩ := abandonCal_jrn 7 { s1 with jrn := j }
    refine ⟨by rw [h2]; exact hret, ⟨r1 :: rs, by rw [h2]; exact (congrArg (· ++ rs) hbuf).trans (by simp)⟩, ?_⟩
    exact (oget_abandonCal (k := Ob.JRN_FAULT) (by decide) 7 (by decide) (by decide) (by decide) _).trans hf2
  · exact ⟨hret, ⟨[r1], hbuf⟩, hf2⟩

/-- Settles O48: the head of the write buffer through a program that succeeds, that fails and that finds no room, the hold timer, and
a compaction that succeeds and that fails. -/
theorem recordsAndSnapshotsAreKept : Obligations.RecordsAndSnapshotsAreKept := by
  unfold Obligations.RecordsAndSnapshotsAreKept
  refine ⟨fun t r rest s hbuf => ⟨fun hpres hown hup => ⟨fun hroom => ⟨?_, ?_⟩, fun hfull ok => ?_⟩, fun hpres ok => ?_,
    fun hdue => ?_, fun hearly => ?_⟩, fun t s => ⟨fun hc hcal hb => ⟨fun ha hp => ?_, ?_⟩, fun hidle ok => ?_⟩⟩
  · have hgo : ¬(!(s.at t).jrn.present ∨ !hasBuffer (s.at t) ∨ !crossUp (s.at t) 0x1B) := by
      rw [show (s.at t).jrn.present = true from hpres, show hasBuffer (s.at t) = true from hown, hup]
      decide
    have hx : exec (.journalRecordWrite t true) s = .next (programHead r rest (s.at t)) := by
      change Host.Outcome.next _ = _
      rw [show (s.at t).jrn.buf = r :: rest from hbuf]
      dsimp only
      rw [if_neg hgo, if_neg (by rw [show ringFull (s.at t) (recSize r) = false from hroom]; decide), if_pos rfl]
    obtain ⟨hb, hh, ht⟩ := programHead_programmed r rest (s.at t)
    exact ⟨_, hx, hb, hh, ht, exec_mem hx (by simp [footprint]), exec_boot hx (by simp [footprint])⟩
  · have hgo : ¬(!(s.at t).jrn.present ∨ !hasBuffer (s.at t) ∨ !crossUp (s.at t) 0x1B) := by
      rw [show (s.at t).jrn.present = true from hpres, show hasBuffer (s.at t) = true from hown, hup]
      decide
    have hx : exec (.journalRecordWrite t false) s = .next (programFailed r (s.at t)) := by
      change Host.Outcome.next _ = _
      rw [show (s.at t).jrn.buf = r :: rest from hbuf]
      dsimp only
      rw [if_neg hgo, if_neg (by rw [show ringFull (s.at t) (recSize r) = false from hroom]; decide), if_neg (by decide)]
      rfl
    obtain ⟨hr, ⟨rs, hb⟩, hf⟩ := programFailed_spec r (s.at t)
    refine ⟨_, hx, hr, hf, ?_, exec_mem hx (by simp [footprint]), exec_boot hx (by simp [footprint])⟩
    rw [hb, show (s.at t).jrn.buf = r :: rest from hbuf]
    rfl
  · have hgo : ¬(!(s.at t).jrn.present ∨ !hasBuffer (s.at t) ∨ !crossUp (s.at t) 0x1B) := by
      rw [show (s.at t).jrn.present = true from hpres, show hasBuffer (s.at t) = true from hown, hup]
      decide
    have hx : exec (.journalRecordWrite t ok) s =
        .next (if (s.at t).jrn.compact then s.at t else startCompact (s.at t)) := by
      change Host.Outcome.next _ = _
      rw [show (s.at t).jrn.buf = r :: rest from hbuf]
      dsimp only
      rw [if_neg hgo, if_pos (show ringFull (s.at t) (recSize r) = true from hfull)]
    refine ⟨_, hx, ?_⟩
    split
    case isTrue h => exact ⟨rfl, .inl h, (Kept.at_ [.jrn] t s).rest⟩
    case isFalse =>
      obtain ⟨c, a, cand, since, h⟩ := startCompact_jrn (s.at t)
      exact ⟨(congrArg Jrn.buf h).trans rfl, startCompact_asks _,
        (kept_startCompact (fun _ => id) (Kept.at_ [.jrn] t s)).rest⟩
  · change Host.Outcome.next _ = _
    rw [show (s.at t).jrn.buf = r :: rest from hbuf]
    dsimp only
    rw [if_pos (.inl (by rw [show (s.at t).jrn.present = false from hpres]; rfl))]
  · have hx : exec (.ringHoldDrop t) s = .next (jrnFault 7 r.type (cnt Ob.JRN_DROPPED
        { s.at t with jrn := { (s.at t).jrn with buf := rest } })) := by
      change Host.Outcome.next _ = _
      rw [show (s.at t).jrn.buf = r :: rest from hbuf]
      exact congrArg Host.Outcome.next (if_neg (Nat.not_lt.mpr hdue))
    obtain ⟨r', hj⟩ := jrnFault_jrn 7 r.type (cnt Ob.JRN_DROPPED { s.at t with jrn := { (s.at t).jrn with buf := rest } })
    refine ⟨_, hx, jrnFault_fault .., ?_, ?_, (congrArg Jrn.nv hj).trans rfl, exec_mem hx (by simp [footprint])⟩
    · exact (oget_jrnFault _ _ _ (by decide) (by decide) (by decide) (by decide)).trans (oget_oset_same ..)
    · rw [hj]
      exact List.take_left ..
  · change Host.Outcome.next _ = _
    rw [show (s.at t).jrn.buf = r :: rest from hbuf]
    exact congrArg Host.Outcome.next (if_pos hearly)
  · obtain ⟨s', hx, hcomp, _, hu, hn, hg⟩ := exec_compactionDone (t := t) hc hcal hb ha hp
    exact ⟨s', hx, hcomp, hu, hn, hg, exec_mem hx (by simp [footprint]), exec_boot hx (by simp [footprint])⟩
  · have hgo : ¬(!(s.at t).jrn.compact ∨ (s.at t).jrn.commitCal ∨ bankAway (s.at t) 2) := by
      rw [show (s.at t).jrn.compact = true from hc, show (s.at t).jrn.commitCal = false from hcal,
        show bankAway (s.at t) 2 = false from hb]
      decide
    have hx : exec (.compactionDone t false) s = .next (jrnFault 3 0 (evc 0xD4 (s.at t))) :=
      congrArg Host.Outcome.next ((if_neg hgo).trans (if_pos rfl))
    obtain ⟨r, hj⟩ := jrnFault_jrn 3 0 (evc 0xD4 (s.at t))
    rw [evc_jrn] at hj
    exact ⟨_, hx, (congrArg Jrn.compact hj).trans hc, (congrArg Jrn.nv hj).trans rfl, jrnFault_fault ..,
      exec_mem hx (by simp [footprint]), exec_boot hx (by simp [footprint])⟩
  · refine congrArg Host.Outcome.next (if_pos ?_)
    obtain h | h | h := hidle
    · exact .inl (by rw [show (s.at t).jrn.compact = false from h]; rfl)
    · exact .inr (.inl h)
    · exact .inr (.inr h)

end Sys2Proof.Machine
end

section
/-! PROOF. O49: the commands of JRN_CMD and the journal's own timers. -/

namespace Sys2Proof.Machine
open Sys2Proof

/-! ## JRN_CMD -/

/-- A write of JRN_CMD that is accepted does its command on the counted state. -/
theorem writeJrnCmd_taken {v t : Nat} {h : Hdr} {s : State} (ht : writeTaken (s.at t) h Ob.JRN_CMD v = true) :
    (writeRow h Ob.JRN_CMD v ownJrnCmd (s.at t)).jrn = (ownJrnCmd v (counted (s.at t) h)).1.jrn ∧
    (writeRow h Ob.JRN_CMD v ownJrnCmd (s.at t)).mem = (ownJrnCmd v (counted (s.at t) h)).1.mem ∧
    ∀ k, k ≠ Ob.WNP_EVTPEND → oget (writeRow h Ob.JRN_CMD v ownJrnCmd (s.at t)) k =
      oget (ownJrnCmd v (counted (s.at t) h)).1 k := by
  refine ⟨?_, ?_, fun k hk => oget_writeRow ht hk⟩
  · rw [writeRow_of_taken ht, answerTaken_jrn]
  · rw [writeRow_of_taken ht, answerTaken_mem]

theorem ownJrnCmd_state {v : Nat} {s : State} (hv : v ≠ 1) (hop : s.boot.op ≠ .setup) : ownJrnCmd v s = (s, St.state) :=
  if_pos ⟨hv, hop⟩

/-- A command that the operating state lets pass. -/
theorem ownJrnCmd_allowed {v : Nat} {s : State} (hv : v = 1 ∨ s.boot.op = .setup) : ownJrnCmd v s =
    if (v = 1 ∨ v = 4) ∧ bankAway s 2 then (s, St.busy)
    else if !s.jrn.present then (s, St.refused)
    else if v = 1 then (startCompact s, St.ok)
    else if v = 2 then (formatDevice s, St.ok)
    else if v = 3 then (if oflag s Ob.JRN_FACTLOCK then (s, St.refused) else (lockFactory s, St.ok))
    else if s.jrn.nv.asBuilt.isNone then (s, St.refused)
    else (startCompact { restoreBuilt s with jrn := { (restoreBuilt s).jrn with persist := true } }, St.ok) :=
  if_neg fun h => hv.elim h.1 h.2

theorem ownJrnCmd_busy {v : Nat} {s : State} (hv : v = 1 ∨ v = 4 ∧ s.boot.op = .setup) (hb : bankAway s 2 = true) :
    ownJrnCmd v s = (s, St.busy) :=
  (ownJrnCmd_allowed (hv.imp_right (·.2))).trans (if_pos ⟨hv.imp_right (·.1), hb⟩)

theorem ownJrnCmd_refused {v : Nat} {s : State} (hv : v = 1 ∨ s.boot.op = .setup) (hb : bankAway s 2 = false)
    (hp : s.jrn.present = false) : ownJrnCmd v s = (s, St.refused) := by
  rw [ownJrnCmd_allowed hv, if_neg (by simp [hb]), hp]
  rfl

/-- A command that runs: bank 2 is there where it codes, and so is the device. -/
theorem ownJrnCmd_runs {v : Nat} {s : State} (hv : v = 1 ∨ s.boot.op = .setup) (hb : v = 1 ∨ v = 4 → bankAway s 2 = false)
    (hp : s.jrn.present = true) : ownJrnCmd v s =
    if v = 1 then (startCompact s, St.ok)
    else if v = 2 then (formatDevice s, St.ok)
    else if v = 3 then (if oflag s Ob.JRN_FACTLOCK then (s, St.refused) else (lockFactory s, St.ok))
    else if s.jrn.nv.asBuilt.isNone then (s, St.refused)
    else (startCompact { restoreBuilt s with jrn := { (restoreBuilt s).jrn with persist := true } }, St.ok) := by
  rw [ownJrnCmd_allowed hv, if_neg (fun h => by simp [hb h.1] at h), if_neg (by simp [hp])]

/-- A request that is carried out: a compaction runs, and a further one is wanted where one ran already. -/
theorem startCompact_starts {s : State} (hb : bankAway s 2 = false) (hp : s.jrn.present = true) :
    (startCompact s).jrn.compact = true ∧ (s.jrn.compact = true → (startCompact s).jrn.again = true) ∧
      (startCompact s).jrn.nv = s.jrn.nv ∧ (startCompact s).jrn.persist = s.jrn.persist := by
  unfold startCompact
  by_cases hc : s.jrn.compact = true
  · rw [if_pos (.inl hc)]
    exact ⟨hc, fun _ => rfl, rfl, rfl⟩
  · rw [if_neg (by simp [hc, hb, hp])]
    exact ⟨rfl, fun h => absurd h hc, rfl, rfl⟩

/-- A format leaves a blank device, with the as-built record of a locked factory partition. -/
theorem formatDevice_spec (s : State) :
    (formatDevice s).jrn.nv = { Nv.blank with
      asBuilt := if oflag s Ob.JRN_FACTLOCK then s.jrn.nv.asBuilt else none
      asGrids := if oflag s Ob.JRN_FACTLOCK then s.jrn.nv.asGrids else [] } ∧
    (formatDevice s).jrn.used = 0 ∧ (formatDevice s).jrn.retired = [] ∧ oget (formatDevice s) Ob.JRN_GEN = 0 := by
  unfold formatDevice
  extract_lets locked _ nv _ s1 _ s2
  have h2 : s2.jrn = s1.jrn := by
    unfold s2
    split <;> rfl
  have hj : (showRing (oset Ob.JRN_DEMPTR 0 (oset Ob.JRN_GEN 0 s2))).jrn = s1.jrn := (showRing_jrn _).trans h2
  refine ⟨(congrArg Jrn.nv hj).trans rfl, (congrArg Jrn.used hj).trans rfl, (congrArg Jrn.retired hj).trans rfl, ?_⟩
  unfold showRing
  rw [oget_oset_ne _ _ (by decide), oget_oset_ne _ _ (by decide), oget_oset_same]

theorem restoreBuilt_jrn (s : State) : (restoreBuilt s).jrn = s.jrn := (frameOf kept_restoreBuilt s).jrn (by decide)

/-- The as-built maps restored are to be made the snapshot by the compaction that is asked for. -/
theorem asbuiltRestored_spec {s : State} (hb : bankAway s 2 = false) (hp : s.jrn.present = true) :
    (startCompact { restoreBuilt s with jrn := { (restoreBuilt s).jrn with persist := true } }).jrn.persist = true ∧
    (startCompact { restoreBuilt s with jrn := { (restoreBuilt s).jrn with persist := true } }).jrn.nv = s.jrn.nv ∧
    (startCompact { restoreBuilt s with jrn := { (restoreBuilt s).jrn with persist := true } }).jrn.compact = true := by
  have hbnk : (restoreBuilt s).bnk = s.bnk := (frameOf kept_restoreBuilt s).bnk (by decide)
  have hjrn := restoreBuilt_jrn s
  generalize restoreBuilt s = r at hbnk hjrn
  have hbank : bankAway { r with jrn := { r.jrn with persist := true } } 2 = false := by
    rw [← hb]
    unfold bankAway bankOf
    rw [hbnk]
  obtain ⟨hc, -, hn, hper⟩ := startCompact_starts hbank ((congrArg Jrn.present hjrn).trans hp)
  exact ⟨hper, hn.trans ((congrArg Jrn.nv hjrn :)), hc⟩

theorem exec_jrnCmd (t : Nat) (h : Hdr) (s : State) : ∀ p ∈ [(1, Instr.jrnCmdCompact t h), (2, .jrnCmdFormat t h),
    (3, .jrnCmdLock t h), (4, .jrnCmdAsbuilt t h)], exec p.2 s = .next (writeRow h Ob.JRN_CMD p.1 ownJrnCmd (s.at t)) := by
  intro p hp
  simp only [List.mem_cons, List.not_mem_nil, or_false] at hp
  obtain rfl | rfl | rfl | rfl := hp <;> rfl

/-! ## The journal's own timers -/

theorem pieceJob_done {s : State} (hp : s.poison = []) (dir base flip p : Nat) : (pieceJob dir base flip p s).2 = true :=
  fwMemJob_done hp ..

theorem pieceJob_frame (dir base flip p : Nat) (s : State) : s.sameBut [.obj, .lake] (pieceJob dir base flip p s).1 :=
  (kept_fwMemJob 1 dir 2 flip _ 46080 _ 4 (fun _ => id) (Kept.start [.obj, .lake] s)).rest

/-- Both planes of a piece are coded where DRAM holds no poison. -/
def pieceCodedState (p : Nat) (s : State) : State := (pieceJob 0 0x4C000000 0 p (pieceJob 0 0x40000000 3 p s).1).1

theorem pieceCodedState_frame (p : Nat) (s : State) : s.sameBut [.obj, .lake] (pieceCodedState p s) :=
  (kept_fwMemJob 1 0 2 0 _ 46080 _ 4 (fun _ => id)
    (kept_fwMemJob 1 0 2 3 _ 46080 _ 4 (fun _ => id) (Kept.start [.obj, .lake] s))).rest

/-- The record of a piece, or the fault of one that does not fit its bound. -/
def pieceRecorded (p size nominal : Nat) (bytes : List Byte) (b : State) : State :=
  if nominal * 9 < size * 8 then jrnFault 6 (0x800000 + p) b else jrnAdd 8 0 0 p size bytes b

theorem pieceRecorded_jrn (p size nominal : Nat) (bytes : List Byte) (b : State) :
    ∃ r, (pieceRecorded p size nominal bytes b).jrn = { b.jrn with buf := b.jrn.buf ++ [r] } ∧
      (size * 8 ≤ nominal * 9 → (r.type, r.key, r.value) = (8, p, size)) := by
  unfold pieceRecorded
  split
  case isTrue h =>
    obtain ⟨r, hr⟩ := jrnFault_jrn 6 (0x800000 + p) b
    exact ⟨r, hr, fun hle => absurd hle (Nat.not_le.mpr h)⟩
  case isFalse => exact ⟨_, rfl, fun _ => rfl⟩

theorem pieceRecorded_now (p size nominal : Nat) (bytes : List Byte) (b : State) :
    (pieceRecorded p size nominal bytes b).now = b.now := by
  unfold pieceRecorded
  split
  · unfold jrnFault
    rw [logEv_now, oset_now]
  · exact jrnAdd_now ..

/-- The piece of the cycle that follows the due one. -/
def nextPiece (s : State) : Nat := if pieceCount s ≤ oget s Ob.JRN_LEDPIECE + 1 then 0 else oget s Ob.JRN_LEDPIECE + 1

/-- The due piece coded and handed over. -/
def pieceWritten (s : State) : State :=
  pieceRecorded (oget s Ob.JRN_LEDPIECE) (pieceCoded s (oget s Ob.JRN_LEDPIECE)) (128 * ceilDiv (lineSubs s) 16)
    (pieceBytes s 0x40000000 (oget s Ob.JRN_LEDPIECE) ++ pieceBytes s 0x4C000000 (oget s Ob.JRN_LEDPIECE))
    (pieceCodedState (oget s Ob.JRN_LEDPIECE) s)

theorem pieceWritten_spec (s : State) : (pieceWritten s).now = s.now ∧
    ∃ r, (pieceWritten s).jrn = { s.jrn with buf := s.jrn.buf ++ [r] } ∧
      (pieceCoded s (oget s Ob.JRN_LEDPIECE) * 8 ≤ 128 * ceilDiv (lineSubs s) 16 * 9 →
        (r.type, r.key, r.value) = (8, oget s Ob.JRN_LEDPIECE, pieceCoded s (oget s Ob.JRN_LEDPIECE))) := by
  have hjrn := (pieceCodedState_frame (oget s Ob.JRN_LEDPIECE) s).jrn (by decide)
  have hnow : (pieceCodedState (oget s Ob.JRN_LEDPIECE) s).now = s.now := (fwJob_now ..).trans (fwJob_now ..)
  unfold pieceWritten
  generalize pieceCodedState (oget s Ob.JRN_LEDPIECE) s = b at hjrn hnow
  refine ⟨(pieceRecorded_now ..).trans hnow, ?_⟩
  rw [← hjrn]
  exact pieceRecorded_jrn ..

theorem writePiece_eq {s : State} (hp : s.poison = []) : writePiece s = oset Ob.JRN_LEDPIECE (nextPiece s)
    { pieceWritten s with jrn := { (pieceWritten s).jrn with
      fresh := (pieceWritten s).jrn.fresh && decide (nextPiece s ≠ 0), ledAt := (pieceWritten s).now } } := by
  have hA := pieceJob_done hp 0 0x40000000 3 (oget s Ob.JRN_LEDPIECE)
  have hB := pieceJob_done (s := (pieceJob 0 0x40000000 3 (oget s Ob.JRN_LEDPIECE) s).1)
    (((pieceJob_frame ..).poison (by decide)).trans hp) 0 0x4C000000 0 (oget s Ob.JRN_LEDPIECE)
  unfold writePiece pieceWritten pieceCodedState
  unfold pieceRecorded nextPiece
  dsimp only
  rw [if_pos hA, hB, if_neg (by decide)]

theorem jrnAdd_record (type v : Nat) (data : List Byte) (s : State) :
    ∃ r : JRec, (jrnAdd type 0 0 0 v data s).jrn = { s.jrn with buf := s.jrn.buf ++ [r] } ∧ (r.type, r.data) = (type, data) :=
  ⟨_, rfl, rfl⟩

/-- A dose record leaves the doses less than a unit. -/
theorem writeDose_spec (s : State) : ∃ r : JRec, (writeDose s).jrn = { s.jrn with buf := s.jrn.buf ++ [r] } ∧
    (r.type, r.data) = (7, (doseUnits s).flatMap (fun e => toBE 4 e.1 ++ toBE 4 e.2)) ∧
    (writeDose s).wear.dose = (s.wear.dose.map (fun e => (e.1, e.2 % 2 ^ 40))).filter (fun e => decide (e.2 ≠ 0)) := by
  have hf := (kept_fwJob 0 0 2 0 360 136 (doseBlocks s) [] (fun _ => id) (Kept.start [.obj, .lake] s)).rest
  have hjrn := hf.jrn (by decide)
  have hwear := hf.wear (by decide)
  unfold writeDose
  generalize (fwJob 0 0 2 0 360 136 (doseBlocks s) [] s).1 = a at hjrn hwear
  obtain ⟨r, hr, hd⟩ := jrnAdd_record 7 (doseCoded s) ((doseUnits s).flatMap (fun e => toBE 4 e.1 ++ toBE 4 e.2)) a
  have hw := jrnAdd_wear 7 0 0 0 (doseCoded s) ((doseUnits s).flatMap (fun e => toBE 4 e.1 ++ toBE 4 e.2)) a
  generalize jrnAdd 7 0 0 0 (doseCoded s) ((doseUnits s).flatMap (fun e => toBE 4 e.1 ++ toBE 4 e.2)) a = b at hr hw
  rw [hjrn] at hr
  rw [hwear] at hw
  refine ⟨r, hr, hd, ?_⟩
  dsimp only
  rw [hw]


/-- The state once the maps are restored, each of those of a failed download or all of them at boot. -/
def mapsRestored (mask : Nat) (bad : List Nat) (s : State) : State :=
  let s1 := if !s.jrn.redo.isEmpty then restoreFailed mask bad s else restoreLedger bad (restoreDemura mask s)
  { s1 with jrn := { s1.jrn with mapsDone := true, redo := [] } }

theorem bankAway_counted (t : Nat) (h : Hdr) (s : State) (n : Nat) : bankAway (counted (s.at t) h) n = bankAway s n := by
  unfold bankAway bankOf
  rw [counted_bnk]
  rfl

theorem oflag_counted_lock (t : Nat) (h : Hdr) (s : State) :
    oflag (counted (s.at t) h) Ob.JRN_FACTLOCK = oflag s Ob.JRN_FACTLOCK :=
  oflag_counted h (s.at t) (by decide) (by decide)

theorem demuraImage_congr {a b : State} (h : a.mem = b.mem) : demuraImage a = demuraImage b := by
  unfold demuraImage mapImage
  rw [h]

theorem defectImage_congr {a b : State} (h : a.mem = b.mem) : defectImage a = defectImage b := by
  unfold defectImage mapImage
  rw [h]

/-- Settles O49: every command of JRN_CMD by the outcome of its rule, then the journal's timers. -/
theorem journalKeepsItsContent : Obligations.JournalKeepsItsContent := by
  unfold Obligations.JournalKeepsItsContent
  refine ⟨fun t h s => ⟨fun hp => ⟨fun ht hb => ?_, fun hop => ⟨fun ht => ?_, fun ht => ⟨fun hl => ?_, fun hl => ?_⟩,
      fun ht hb => ⟨fun hbuilt => ?_, fun hbuilt => ?_⟩⟩⟩, fun n c hc ht => ?_⟩,
    fun t s => ⟨fun hcodes hmaps hdue hpoison hroom => ?_, fun hidle => ?_, fun hcodes hdue => ?_, fun hidle => ?_,
      fun bad pieces hst hop hmaps hsrc => ?_, fun bad pieces hidle => ?_⟩⟩
  · obtain ⟨wjrn, wmem, -⟩ := writeJrnCmd_taken ht
    have hjrn : (counted (s.at t) h).jrn = s.jrn := counted_jrn h (s.at t)
    have hb' : bankAway (counted (s.at t) h) 2 = false := (bankAway_counted t h s 2).trans hb
    rw [ownJrnCmd_runs (.inl rfl) (fun _ => hb') ((congrArg Jrn.present hjrn).trans hp), if_pos rfl] at wjrn wmem
    obtain ⟨h1, h2, h3, -⟩ := startCompact_starts hb' ((congrArg Jrn.present hjrn).trans hp)
    refine ⟨_, rfl, ?_, fun hc => ?_, ?_, ?_⟩
    · rw [wjrn]
      exact h1
    · rw [wjrn]
      exact h2 ((congrArg Jrn.compact hjrn).trans hc)
    · rw [wjrn]
      exact h3.trans (congrArg Jrn.nv hjrn)
    · exact wmem.trans (((frameOf kept_startCompact _).mem (by decide)).trans (counted_mem h (s.at t)))
  · obtain ⟨wjrn, wmem, wobj⟩ := writeJrnCmd_taken ht
    have hjrn : (counted (s.at t) h).jrn = s.jrn := counted_jrn h (s.at t)
    have hop' : (counted (s.at t) h).boot.op = .setup := (congrArg Boot.op (counted_boot h (s.at t))).trans hop
    rw [ownJrnCmd_runs (.inr hop') (by simp) ((congrArg Jrn.present hjrn).trans hp), if_neg (by decide), if_pos rfl]
      at wjrn wmem wobj
    obtain ⟨h1, h2, h3, h4⟩ := formatDevice_spec (counted (s.at t) h)
    rw [hjrn, oflag_counted_lock] at h1
    refine ⟨_, rfl, ?_, ?_, ?_, ?_,
      wmem.trans (((frameOf kept_formatDevice _).mem (by decide)).trans (counted_mem h (s.at t)))⟩
    · rw [wjrn]
      exact h1
    · rw [wjrn]
      exact h2
    · rw [wjrn]
      exact h3
    · exact (wobj _ (by decide)).trans h4
  · obtain ⟨wjrn, wmem, wobj⟩ := writeJrnCmd_taken ht
    have hjrn : (counted (s.at t) h).jrn = s.jrn := counted_jrn h (s.at t)
    have hop' : (counted (s.at t) h).boot.op = .setup := (congrArg Boot.op (counted_boot h (s.at t))).trans hop
    have hl' : ¬oflag (counted (s.at t) h) Ob.JRN_FACTLOCK = true := by
      rw [oflag_counted_lock, hl]
      decide
    rw [ownJrnCmd_runs (.inr hop') (by simp) ((congrArg Jrn.present hjrn).trans hp), if_neg (by decide), if_neg (by decide),
      if_pos rfl, if_neg hl'] at wjrn wmem wobj
    have hmem : (counted (s.at t) h).mem = s.mem := counted_mem h (s.at t)
    refine ⟨_, rfl, ?_, ?_, wmem.trans hmem⟩
    · unfold oflag
      rw [wobj _ (by decide), lockFactory, oget_oset_same]
      decide
    · rw [wjrn, ← demuraImage_congr hmem, ← defectImage_congr hmem]
      rfl
  · have hjrn : (counted (s.at t) h).jrn = s.jrn := counted_jrn h (s.at t)
    have hop' : (counted (s.at t) h).boot.op = .setup := (congrArg Boot.op (counted_boot h (s.at t))).trans hop
    have hown : ownJrnCmd 3 (counted (s.at t) h) = (counted (s.at t) h, St.refused) := by
      rw [ownJrnCmd_runs (.inr hop') (by simp) ((congrArg Jrn.present hjrn).trans hp), if_neg (by decide), if_neg (by decide),
        if_pos rfl, if_pos (oflag_counted_lock t h s ▸ hl)]
    obtain ⟨hframe, hans⟩ := writeRow_answers ht (by decide) hown
    exact ⟨_, rfl, hframe.jrn (by decide), hans⟩
  · obtain ⟨wjrn, -, -⟩ := writeJrnCmd_taken ht
    have hjrn : (counted (s.at t) h).jrn = s.jrn := counted_jrn h (s.at t)
    have hop' : (counted (s.at t) h).boot.op = .setup := (congrArg Boot.op (counted_boot h (s.at t))).trans hop
    have hb' : bankAway (counted (s.at t) h) 2 = false := (bankAway_counted t h s 2).trans hb
    have hp' : (counted (s.at t) h).jrn.present = true := (congrArg Jrn.present hjrn).trans hp
    rw [ownJrnCmd_runs (.inr hop') (fun _ => hb') hp', if_neg (by decide), if_neg (by decide), if_neg (by decide), if_neg
      (by rw [hjrn]; simpa using hbuilt)] at wjrn
    obtain ⟨h1, h2, h3⟩ := asbuiltRestored_spec hb' hp'
    refine ⟨_, rfl, ?_, exec_boot (c := .jrnCmdAsbuilt t h) rfl (by simp [footprint]), ?_, fun _ => ?_⟩
    · rw [wjrn]
      exact h1
    · rw [wjrn]
      exact h2.trans (congrArg Jrn.nv hjrn)
    · rw [wjrn]
      exact h3
  · have hjrn : (counted (s.at t) h).jrn = s.jrn := counted_jrn h (s.at t)
    have hop' : (counted (s.at t) h).boot.op = .setup := (congrArg Boot.op (counted_boot h (s.at t))).trans hop
    have hb' : bankAway (counted (s.at t) h) 2 = false := (bankAway_counted t h s 2).trans hb
    have hown : ownJrnCmd 4 (counted (s.at t) h) = (counted (s.at t) h, St.refused) := by
      rw [ownJrnCmd_runs (.inr hop') (fun _ => hb') ((congrArg Jrn.present hjrn).trans hp), if_neg (by decide),
        if_neg (by decide), if_neg (by decide), if_pos (by rw [hjrn, hbuilt]; rfl)]
    obtain ⟨hframe, hans⟩ := writeRow_answers ht (by decide) hown
    exact ⟨_, rfl, hframe.jrn (by decide), hframe.mem (by decide), hans⟩
  · have hx := exec_jrnCmd t h s (n, c) hc
    have hbk := bankAway_counted t h s 2
    have hbo : (counted (s.at t) h).boot = s.boot := counted_boot h (s.at t)
    have hjrn : (counted (s.at t) h).jrn = s.jrn := counted_jrn h (s.at t)
    refine ⟨fun hn hop => ⟨_, hx, ?_⟩, fun hn hb => ⟨_, hx, ?_⟩, fun hn hb hp => ⟨_, hx, ?_⟩⟩
    · exact writeRow_answers ht (by decide) (ownJrnCmd_state hn (by rw [hbo]; exact hop))
    · exact writeRow_answers ht (by decide) (ownJrnCmd_busy (by rw [hbo]; exact hn) (hbk.trans hb))
    · exact writeRow_answers ht (by decide)
        (ownJrnCmd_refused (by rw [hbo]; exact hn) (hbk.trans hb) ((congrArg Jrn.present hjrn).trans hp))
  · have hgo : ¬(!codes (s.at t) ∨ !pieceDue (s.at t) ∨ !(s.at t).jrn.mapsDone ∨
        ringFull (s.at t) (2 * pieceCoded (s.at t) (oget (s.at t) Ob.JRN_LEDPIECE))) := by
      rw [show codes (s.at t) = true from hcodes, hdue, show (s.at t).jrn.mapsDone = true from hmaps,
        show ringFull (s.at t) (2 * pieceCoded (s.at t) (oget (s.at t) Ob.JRN_LEDPIECE)) = false from hroom]
      decide
    have hx : exec (.ledgerPieceTimer t) s = .next (writePiece (s.at t)) := congrArg Host.Outcome.next (if_neg hgo)
    obtain ⟨hnow, r, hj, hr⟩ := pieceWritten_spec (s.at t)
    have hw := writePiece_eq (s := s.at t) hpoison
    have hmem := exec_mem hx (by simp [footprint])
    generalize pieceWritten (s.at t) = w at hnow hj hw
    generalize writePiece (s.at t) = s' at hx hw hmem
    refine ⟨s', hx, hmem, ?_, ?_, ?_, ?_, fun hle => ?_⟩ <;> rw [hw]
    · exact (congrArg Jrn.nv hj :)
    · exact oget_oset_same ..
    · exact hnow
    · exact (congrArg (fun j : Jrn => j.buf.length) hj).trans (List.length_append ..)
    · rw [show (oset Ob.JRN_LEDPIECE (nextPiece (s.at t)) { w with jrn := { w.jrn with
        fresh := w.jrn.fresh && decide (nextPiece (s.at t) ≠ 0), ledAt := w.now } }).jrn.buf = s.jrn.buf ++ [r] from
        congrArg Jrn.buf hj, List.getLast?_concat]
      exact congrArg some (hr hle)
  · refine congrArg Host.Outcome.next (if_pos ?_)
    obtain h | h | h := hidle
    · exact .inl (by rw [show codes (s.at t) = false from h]; rfl)
    · exact .inr (.inl (by rw [h]; rfl))
    · exact .inr (.inr (.inl (by rw [show (s.at t).jrn.mapsDone = false from h]; rfl)))
  · have hgo : ¬(!codes (s.at t) ∨ (s.at t).now < max (s.at t).jrn.doseAt (s.at t).boot.upSince + 3600000000000) := by
      rw [show codes (s.at t) = true from hcodes]
      exact fun h => h.elim (by decide) (Nat.not_lt.mpr hdue)
    have hx : exec (.doseHourlyTimer t) s = .next (writeDose { s.at t with jrn := { (s.at t).jrn with doseAt := (s.at t).now } }) :=
      congrArg Host.Outcome.next (if_neg hgo)
    obtain ⟨r, hj, hr, hdose⟩ := writeDose_spec { s.at t with jrn := { (s.at t).jrn with doseAt := (s.at t).now } }
    have hmem := exec_mem hx (by simp [footprint])
    refine ⟨_, hx, ?_, ?_, hdose, ?_, hmem⟩ <;> rw [hj]
    · exact List.length_append ..
    · rw [List.getLast?_concat]
      exact congrArg some hr
    · rfl
  · refine congrArg Host.Outcome.next (if_pos ?_)
    obtain h | h := hidle
    · exact .inl (by rw [show codes (s.at t) = false from h]; rfl)
    · exact .inr h
  · have hgo : ¬((s.at t).boot.stage ≠ .started ∨ (s.at t).boot.op = .boot ∨ (s.at t).jrn.mapsDone ∨
        (!(s.at t).jrn.present ∧ !!(s.at t).jrn.redo.isEmpty)) := by
      rintro (h | h | h | ⟨h1, h2⟩)
      · exact h hst
      · exact hop h
      · exact absurd hmaps (by simpa using h)
      · obtain hs | hs := hsrc
        · rw [show (s.at t).jrn.present = true from hs] at h1
          exact absurd h1 (by decide)
        · exact hs (by simpa using h2)
    have hx : exec (.mapRestoreDone t bad pieces) s = .next (mapsRestored bad.toNat pieces (s.at t)) :=
      congrArg Host.Outcome.next (if_neg hgo)
    exact ⟨_, hx, rfl, rfl, exec_boot hx (by simp [footprint]), (exec_frame hx).scan (by simp [footprint])⟩
  · refine congrArg Host.Outcome.next (if_pos ?_)
    obtain h | h | h := hidle
    · exact .inl h
    · exact .inr (.inl h)
    · exact .inr (.inr (.inl h))

end Sys2Proof.Machine
end

section
/-! SUPPORT. The objects that the loss of a lane, a band-class reaction and a failed PMBus attempt leave alone. -/

namespace Sys2Proof.Machine
open Sys2Proof

theorem oget_failure {k : Nat} (hc : notCounter k = true) (n : Nat) (s : State) : oget (failure n s) k = oget s k := by
  unfold failure
  rw [oget_evc _ _ _ hc]
  rfl

section
variable {k : Nat} (hc : notCounter k = true)
include hc

/-- A NAK counts its reason alone. -/
theorem oget_sendNak {p : BackPkt} (hk : k ≠ Ob.TRX_NAKCNT + (p.w1 / 2 ^ 24 - 1)) (s : State) :
    oget (sendNak p s) k = oget s k := by
  unfold sendNak
  rw [oget_evc _ _ _ hc, oget_cnt_ne _ hk]
  rfl

theorem oget_backEvent (code w1 w2 : Nat) (s : State) : oget (backEvent code w1 w2 s) k = oget s k := by
  unfold backEvent
  exact oget_evc _ _ _ hc

theorem oget_nakTx {t reason sm detail : Nat} (hk : k ≠ Ob.TRX_NAKCNT + (nakWord reason sm detail / 2 ^ 24 - 1)) (s : State) :
    oget (nakTx t reason sm detail s) k = oget s k := by
  have hfree (a : State) : oget (freeTag t false a) k = oget a k := oget_congr ((frameOf (kept_freeTag t false) a).obj (by decide)) k
  have hdetach (a : State) : oget (detachTag t a) k = oget a k := oget_congr ((frameOf (kept_detachTag t) a).obj (by decide)) k
  unfold nakTx
  rw [hfree, hdetach, oget_sendNak hc hk]

/-- Transactions of a band that goes dark end under their NAK's counter. -/
theorem oget_darkNaks (hk : k ≠ Ob.TRX_NAKCNT + 19) (bands : Nat) (s : State) : oget (darkNaks bands s) k = oget s k :=
  each_keeps (obs := fun a => oget a k) fun _ _ a => oget_nakTx hc (by simpa [nakWord] using hk) a

/-- The objects that a band-class reaction may change. -/
abbrev bandObjects : List Nat := [Ob.TRX_NAKCNT + 19, Ob.SAF_LAST_SM, Ob.SAF_LAST_EPOCH, Ob.JRN_SEQ, Ob.WNP_EVTPEND]

theorem oget_bandReaction (hk : k ∉ bandObjects) (n b : Nat) (stay inj : Bool) (s : State) :
    oget (bandReaction n b stay inj s) k = oget s k := by
  have hne {j : Nat} (hj : j ∈ bandObjects) : k ≠ j := ne_of_not_mem hk hj
  have hset (v : Nat) (a : State) : oget (setBandState b v a) k = oget a k :=
    oget_congr ((frameOf (kept_setBandState b v) a).obj (by decide)) k
  have hsafe (a : State) (v : Safe) : oget { a with safe := v } k = oget a k := rfl
  have hmech (m : Mech) (a : State) : oget (setMech n m a) k = oget a k := rfl
  unfold bandReaction
  split
  · rfl
  · split
    · exact hmech ..
    · dsimp only
      rw [oget_evc _ _ _ hc, oget_logEv _ _ _ _ _ hc (hne (by decide)) (hne (by decide)), oget_pendEvt _ _ (hne (by decide)),
        oget_backEvent hc, oget_recordLast n inj (hne (by decide)) (hne (by decide)) (hne (by decide)),
        oget_darkNaks hc (hne (by decide)), hset, hsafe, hmech]

/-! ## The loss of a lane -/

theorem oget_dropLink (h1 : k ≠ Ob.JRN_SEQ) (h2 : k ≠ Ob.WNP_EVTPEND) (cause : Nat) (s : State) :
    oget (dropLink cause s) k = oget s k := by
  unfold dropLink
  rw [oget_toDetect hc h1 h2, oget_modPxl]
  exact oget_congr ((frameOf kept_endSession s).obj (by decide)) k

theorem oget_nakInFlight (hk : k ≠ Ob.TRX_NAKCNT + 14) (s : State) : oget (nakInFlight s) k = oget s k := by
  unfold nakInFlight
  refine (each_keeps (obs := fun a => oget a k) fun x _ a => ?_).trans
    (oget_congr ((frameOf kept_forgetPartial s).obj (by decide)) k)
  rw [oget_evc _ _ _ hc, oget_sendNak hc (by simpa [nakWord] using hk)]

/-- The objects that the loss of a lane may change, beside the lane's own counter. -/
abbrev lossObjects : List Nat := [Ob.TRX_NAKCNT + 14, Ob.JRN_SEQ, Ob.WNP_EVTPEND]

theorem oget_narrow (hk : k ∉ lossObjects) (s : State) : oget (narrow s) k = oget s k := by
  have hne {j : Nat} (hj : j ∈ lossObjects) : k ≠ j := ne_of_not_mem hk hj
  have hsend (c m l t p d : Nat) (a : State) : oget (sendLinkstate c m l t p d a) k = oget a k := rfl
  have hbound (a : State) : oget (loseBoundary a) k = oget a k := rfl
  have hout (ns : List Nat) : oget (each ns resetLane s) k = oget s k :=
    each_keeps (obs := fun a => oget a k) fun n _ a => oget_resetLane hc n (hne (by decide)) (hne (by decide)) a
  unfold narrow
  dsimp only
  split
  · exact oget_dropLink hc (hne (by decide)) (hne (by decide)) 1 s
  · rw [hsend, oget_setLink _ (hne (by decide)), oget_modPxl, oget_eachLane, hbound, oget_nakInFlight hc (hne (by decide)), hout]

theorem oget_failLane {n : Nat} (hk : k ∉ lossObjects) (hn : k ≠ Ob.PXL_ERR_LOSS + n) (cause : Nat) (s : State) :
    oget (failLane n cause s) k = oget s k := by
  have hne {j : Nat} (hj : j ∈ lossObjects) : k ≠ j := ne_of_not_mem hk hj
  have hreset (a : State) : oget (resetLane n a) k = oget a k := oget_resetLane hc n (hne (by decide)) (hne (by decide)) a
  unfold failLane
  split
  · unfold loseLane markLost
    rw [oget_narrow hc hk, oget_setLane, oget_evc _ _ _ hc, oget_cnt_ne _ hn, hreset]
  · unfold failOutside
    dsimp only
    split
    · exact oget_setLane ..
    · split
      · exact (oget_setLane ..).trans (hreset s)
      · exact oget_setLane ..

theorem oget_loseBack (h1 : k ≠ Ob.JRN_SEQ) (h2 : k ≠ Ob.WNP_EVTPEND) (lost : Nat) (s : State) :
    oget (loseBack lost s) k = oget s k := by
  have hsend (c m l t p d : Nat) (a : State) : oget (sendLinkstate c m l t p d a) k = oget a k := rfl
  unfold loseBack
  dsimp only
  split
  · rfl
  · split
    · exact oget_dropLink hc h1 h2 2 s
    · rw [hsend, oget_modPxl, oget_eachLane]

omit hc in
theorem oget_tryDetect (h : k ≠ Ob.WNP_EVTPEND) (s : State) : oget (tryDetect s) k = oget s k := by
  have htrain (m : TrainMsg) (a : State) : oget (sendTrain m a) k = oget a k :=
    oget_congr ((frameOf (kept_sendTrain m) a).obj (by decide)) k
  have hhello (a : State) : oget (sendHello a) k = oget a k := htrain _ a
  unfold tryDetect
  dsimp only
  split
  · rfl
  · split
    · rw [oget_modPxl, hhello]
    · split
      · unfold toNegotiate
        rw [htrain, oget_setLink _ h, oget_modPxl, oget_eachLane, hhello]
      · rw [oget_modPxl, hhello]

/-! ## A failed PMBus attempt -/

/-- The objects that a failed attempt may change. -/
abbrev attemptObjects : List Nat := Ob.PMB_RETRY :: Ob.PMB_FAIL :: reactionObjects

theorem oget_attemptFailed (hk : k ∉ attemptObjects) (r : PmbReq) (s : State) : oget (attemptFailed r s) k = oget s k := by
  have hne {j : Nat} (hj : j ∈ attemptObjects) : k ≠ j := ne_of_not_mem hk hj
  have hpwr (a : State) (p : Pwr) : oget { a with pwr := p } k = oget a k := rfl
  unfold attemptFailed
  split
  · rw [oget_evc _ _ _ hc, oget_cnt_ne _ (hne (by decide)), hpwr]
  · extract_lets s1 _ s2
    have h2 : oget s2 k = oget s k := by
      unfold s2 s1
      rw [oget_oset_ne _ _ (hne (by decide)), hpwr, oget_logEv _ _ _ _ _ hc (hne (by decide)) (hne (by decide)),
        oget_cnt_ne _ (hne (by decide)), oget_failure hc]
    split
    · rw [oget_deviceReaction hc fun h => hk (List.mem_cons_of_mem _ (List.mem_cons_of_mem _ h)), hpwr, h2]
    · rw [oget_pmbNext _ (hne (by decide)), hpwr, h2]

end

end Sys2Proof.Machine
end

section
/-! PROOF. O47: the clock monitor, the resets of the domains, and the pads. -/

namespace Sys2Proof.Machine
open Sys2Proof

/-! ## A timeout -/

theorem crossOf_setXState (sub : Nat) (v : XState) (s : State) : (crossOf (setXState sub v s) sub).state = v := by
  unfold setXState crossOf setCross
  dsimp only
  rw [get_put_same]

/-- A flush leaves the state of the crossings. -/
theorem crossOf_xflush (sub : Nat) (s : State) : (crossOf (xflush sub s) sub).state = (crossOf s sub).state := by
  have hset (v : Crossing) (a : State) : crossOf (setCross sub v a) sub = v := get_put_same ..
  have hcongr {a b : State} (h : a.cross = b.cross) : crossOf a sub = crossOf b sub := by
    unfold crossOf
    rw [h]
  unfold xflush
  dsimp only
  split
  · rw [hcongr (logEv_cross ..), hset, hcongr (evc_cross ..), hset]
  · rw [hcongr (evc_cross ..), hset]

/-- What every timeout but a lane's does: it is recorded, and the crossings are held. -/
def held (k : Nat) (s : State) : State := xflush k (setXState k .timeout (timedOut k s))

theorem held_cross (k : Nat) (s : State) : (crossOf (held k s) k).state = .timeout := by
  unfold held
  rw [crossOf_xflush, crossOf_setXState]

theorem held_boot (k : Nat) (s : State) : (held k s).boot = s.boot := by
  have h1 : (timedOut k s).boot = s.boot := (frameOf (kept_timedOut k) s).boot (by decide)
  have h2 (a : State) : (xflush k a).boot = a.boot := (frameOf (kept_xflush k) a).boot (by decide)
  exact (h2 _).trans h1

/-- The counter of the timeouts of a domain. -/
abbrev timeoutCnt (d : Domain) : Nat := Ob.CDC_TIMEOUT + domainSub d - 1

/-- The objects that the reaction to a timeout may change. -/
abbrev timeoutObjects : List Nat := attemptObjects ++ bandObjects ++ lossObjects

theorem timeoutCnt_free (d : Domain) : notCounter (timeoutCnt d) = true ∧ timeoutCnt d ∉ timeoutObjects := by
  cases d with
  | lane n => revert n; decide
  | band n => revert n; decide
  | raster => decide
  | can => decide
  | spi => decide
  | pmbus => decide
  | qspi => decide
  | aon => decide

theorem timeoutCnt_ne_loss (d : Domain) {n : Nat} (hn : n < 16) : timeoutCnt d ≠ Ob.PXL_ERR_LOSS + n := by
  have h1 : Ob.PXL_ERR_LOSS + 16 < Ob.CDC_TIMEOUT := by decide
  have h2 : Ob.CDC_TIMEOUT ≤ timeoutCnt d + 1 := by
    unfold timeoutCnt
    omega
  omega

theorem timedOut_counts (d : Domain) (s : State) :
    oget (timedOut (domainSub d) s) (timeoutCnt d) = satInc 0xFFFFFFFF (oget s (timeoutCnt d)) := by
  have hc := (timeoutCnt_free d).1
  have hset (v : Crossing) : oget (setCross (domainSub d) v s) (timeoutCnt d) = oget s (timeoutCnt d) := rfl
  unfold timedOut
  rw [oget_evc _ _ _ hc, oget_cnt_same, oget_failure hc, hset]

theorem oget_held (d : Domain) (s : State) :
    oget (held (domainSub d) s) (timeoutCnt d) = satInc 0xFFFFFFFF (oget s (timeoutCnt d)) := by
  obtain ⟨hc, hk⟩ := timeoutCnt_free d
  have hne {j : Nat} (hj : j ∈ timeoutObjects) : timeoutCnt d ≠ j := ne_of_not_mem hk hj
  have hset (v : XState) (a : State) : oget (setXState (domainSub d) v a) (timeoutCnt d) = oget a (timeoutCnt d) := rfl
  unfold held
  rw [oget_xflush hc _ (hne (by decide)) (hne (by decide)), hset, timedOut_counts]

/-- A lane's clock is its loss: a forward lane fails, a back lane leaves the session. -/
def laneTimedOut (n : Fin 18) (s : State) : State :=
  let s1 := timedOut (domainSub (.lane n)) s
  if n.val < 16 then
    tryDetect (failLane n.val 1 (setLane n.val { laneOf s1 n.val with cdr := false, mlock := false, lastSeq := none }
      (resetLane n.val s1)))
  else
    let s2 := setXState (domainSub (.lane n)) .peerReset (xflush (domainSub (.lane n)) s1)
    if inSession s2 then loseBack (2 ^ (n.val - 16)) s2 else s2

theorem laneTimedOut_counts (n : Fin 18) (s : State) :
    oget (laneTimedOut n s) (timeoutCnt (.lane n)) = satInc 0xFFFFFFFF (oget s (timeoutCnt (.lane n))) := by
  obtain ⟨hc, hk⟩ := timeoutCnt_free (.lane n)
  have hne {j : Nat} (hj : j ∈ timeoutObjects) : timeoutCnt (.lane n) ≠ j := ne_of_not_mem hk hj
  have hset (v : XState) (a : State) : oget (setXState (domainSub (.lane n)) v a) (timeoutCnt (.lane n)) = oget a (timeoutCnt (.lane n)) := rfl
  have hcount : oget (timedOut (domainSub (.lane n)) s) (timeoutCnt (.lane n)) = _ := timedOut_counts (.lane n) s
  unfold laneTimedOut
  dsimp only
  split
  case isTrue hn =>
    rw [oget_tryDetect (hne (by decide)), oget_failLane hc (fun h => hk (List.mem_append_right _ h)) (timeoutCnt_ne_loss _ hn),
      oget_setLane, oget_resetLane hc _ (hne (by decide)) (hne (by decide)), hcount]
  case isFalse =>
    have hflush := oget_xflush hc (domainSub (.lane n)) (hne (by decide)) (hne (by decide)) (timedOut (domainSub (.lane n)) s)
    split
    · rw [oget_loseBack hc (hne (by decide)) (hne (by decide)), hset, hflush, hcount]
    · rw [hset, hflush, hcount]

/-- A timeout of the PMBus domain fails the attempt that is out. -/
def pmbusTimedOut (s : State) : State :=
  match (held (domainSub .pmbus) s).pwr.pmb with
  | some r => attemptFailed r (held (domainSub .pmbus) s)
  | none => held (domainSub .pmbus) s

theorem dlkOf_bandReaction (n b : Nat) (stay inj : Bool) (s : State) (j : Nat) :
    dlkOf (bandReaction n b stay inj s) j = dlkOf s j := by
  unfold dlkOf
  rw [(frameOf (kept_bandReaction n b stay inj) s).dlk (by decide)]

theorem crossOf_bandReaction (n b : Nat) (stay inj : Bool) (s : State) (j : Nat) :
    crossOf (bandReaction n b stay inj s) j = crossOf s j := by
  unfold crossOf
  rw [(frameOf (kept_bandReaction n b stay inj) s).cross (by decide)]

/-- The outcome of a timeout of a domain that is watched. -/
def monitorTimedOut (s : State) : Domain → State
  | .lane n => laneTimedOut n s
  | .band b => bandReaction 16 b.val true false
      (setDlk b.val { dlkOf s b.val with state := .off, readyDue := false } (held (domainSub (.band b)) s))
  | .raster => deviceReaction 16 true false (held (domainSub .raster) s)
  | .aon => deviceReaction 16 true false (held (domainSub .aon) s)
  | .can => held (domainSub .can) s
  | .spi => held (domainSub .spi) s
  | .qspi => held (domainSub .qspi) s
  | .pmbus => pmbusTimedOut s

theorem exec_monitored {t : Nat} {d : Domain} {s : State} (h : monitored (s.at t) d = true) :
    exec (.clockMonitorTimeout t d) s = .next (monitorTimedOut (s.at t) d) := by
  have hgo : ¬(!monitored (s.at t) d) = true := by simp [h]
  change Host.Outcome.next _ = _
  rw [if_neg hgo]
  cases d with
  | pmbus =>
    rw [monitorTimedOut, pmbusTimedOut, held] <;>
      (dsimp only
       generalize xflush (domainSub .pmbus) (setXState (domainSub .pmbus) .timeout (timedOut (domainSub .pmbus) (s.at t))) = a
       rfl)
  | lane n => rw [monitorTimedOut, laneTimedOut]
  | band b =>
    rw [monitorTimedOut, held]
  | raster => rw [monitorTimedOut, held]
  | aon => rw [monitorTimedOut, held]
  | can => rw [monitorTimedOut, held]
  | spi => rw [monitorTimedOut, held]
  | qspi => rw [monitorTimedOut, held]

theorem bandTimedOut (b : Fin 4) (s : State) : (dlkOf (monitorTimedOut s (.band b)) b.val).state = .off ∧
    (crossOf (monitorTimedOut s (.band b)) (domainSub (.band b))).state = .timeout := by
  have hx := held_cross (domainSub (.band b)) s
  rw [monitorTimedOut, dlkOf_bandReaction, crossOf_bandReaction, dlkOf_setDlk]
  generalize held (domainSub (.band b)) s = a at hx
  exact ⟨rfl, hx⟩

theorem heldReaction_op (k : Nat) {s : State} (hop : s.boot.op ≠ .boot) (hst : s.boot.stage = .started) :
    (deviceReaction 16 true false (held k s)).boot.op = .safeDark := by
  have hb := held_boot k s
  generalize held k s = a at hb
  exact deviceReaction_op (by rw [hb]; exact hop) (by rw [hb]; exact hst)

theorem monitorTimedOut_counts (d : Domain) (s : State) :
    oget (monitorTimedOut s d) (timeoutCnt d) = satInc 0xFFFFFFFF (oget s (timeoutCnt d)) := by
  obtain ⟨hc, hk⟩ := timeoutCnt_free d
  have hband : timeoutCnt d ∉ bandObjects := fun h => hk (List.mem_append_left _ (List.mem_append_right _ h))
  have hatt : timeoutCnt d ∉ attemptObjects := fun h => hk (List.mem_append_left _ (List.mem_append_left _ h))
  have hreact : timeoutCnt d ∉ reactionObjects := fun h => hatt (List.mem_cons_of_mem _ (List.mem_cons_of_mem _ h))
  have hheld := oget_held d s
  have hdlk (b : Nat) (v : DlkBand) (a : State) : oget (setDlk b v a) (timeoutCnt d) = oget a (timeoutCnt d) := rfl
  cases d with
  | lane n => exact laneTimedOut_counts n s
  | band b => rw [monitorTimedOut, oget_bandReaction hc hband, hdlk, hheld]
  | raster => rw [monitorTimedOut, oget_deviceReaction hc hreact, hheld]
  | aon => rw [monitorTimedOut, oget_deviceReaction hc hreact, hheld]
  | can => exact hheld
  | spi => exact hheld
  | qspi => exact hheld
  | pmbus =>
    rw [monitorTimedOut, pmbusTimedOut]
    split
    · rw [oget_attemptFailed hc hatt, hheld]
    · exact hheld

/-! ## The resets of the domains, and the supplies -/

theorem setXState_frame (k : Nat) (v : XState) (t : Nat) (s : State) : s.sameBut [.cross] (setXState k v (s.at t)) :=
  (kept_setXState k v (fun _ => id) (Kept.at_ [.cross] t s)).rest

/-- The state after a band's PLL has come back. -/
def pllBack (b : Nat) (s : State) : State :=
  startTraining b false (setMech 16 { mechOf s 16 with active := sm16Active s } s)

/-- What the lanes put onto a band's link leaves the state of its training. -/
theorem dlkOf_trainDrv (b ttype rate chain : Nat) (s : State) :
    dlkOf (trainDrv b ttype rate chain s) b = { dlkOf s b with lanes := (dlkOf (trainDrv b ttype rate chain s) b).lanes } := by
  unfold trainDrv eachDrv
  rw [dlkOf_setDlk]

theorem startTraining_state (b : Nat) (retry : Bool) (s : State) : (dlkOf (startTraining b retry s) b).state = .detect ∧
    (dlkOf (startTraining b retry s) b).retries =
      if retry then satInc 0xFFFF (dlkOf s b).retries else (dlkOf s b).retries := by
  unfold startTraining
  dsimp only
  rw [dlkOf_trainDrv, dlkOf_setDlk]
  exact ⟨rfl, rfl⟩

theorem pllBack_frame (b : Nat) (s : State) : s.sameBut [.dlk, .safe, .pnl] (pllBack b s) := by
  have h : Kept [.dlk, .safe, .pnl] s (setMech 16 { mechOf s 16 with active := sm16Active s } s) :=
    kept_setMech _ _ (Sub.trans (by decide) fun _ => id) (Kept.start _ s)
  exact (kept_startTraining b false (Sub.trans (by decide) fun _ => id) h).rest

/-! ## The converter through a reaction -/

theorem abandonCal_adc (cause : Nat) (s : State) : (abandonCal cause s).cal.adc = s.cal.adc := by
  unfold abandonCal
  split
  · dsimp only
    rw [pendEvt_cal, logEv_cal, oset_cal]
  · rfl

theorem leaveRun_adc (s : State) : (leaveRun s).cal.adc = s.cal.adc := by
  have hends (a : State) : (entryEnds 5 a).cal = a.cal := (frameOf (kept_entryEnds 5) a).cal (by decide)
  unfold leaveRun
  rw [(frameOf kept_stateNaks _).cal (by decide), abandonCal_adc]
  split
  · rfl
  · rw [hends]

/-- A device-class reaction takes no reading. -/
theorem deviceReaction_adc (n : Nat) (stay inj : Bool) (s : State) : (deviceReaction n stay inj s).cal.adc = s.cal.adc := by
  have hmarked : (reactionMarked n stay s).cal = s.cal := by
    unfold reactionMarked
    dsimp only
    split <;> rfl
  have henters (op : OpState) (a : State) : (reactionEnters op a).cal.adc = a.cal.adc := by
    unfold reactionEnters
    split
    · rfl
    · rw [pendEvt_cal, (changeOp_frame _ _).cal (by decide)]
      split
      · exact leaveRun_adc a
      · rw [(frameOf kept_stateNaks a).cal (by decide)]
  rw [deviceReaction_eq]
  split
  · rw [hmarked]
  · rw [(allDark_frame _).cal (by decide), henters, (reactionShown_frame n inj _).cal (by decide), hmarked]

/-- A first failure of SM12 by a reading outside takes its reaction. -/
theorem sm12Input_fails {k : Nat} {s : State} (h : (mechOf s 12).active = false) :
    sm12Input k true true s = deviceReaction 12 true false (failure 12 (setAdc k { adcOf s k with bad := true } s)) := by
  have hm : mechOf (setAdc k { adcOf s k with bad := true } s) 12 = mechOf s 12 := rfl
  unfold sm12Input
  dsimp only
  rw [if_pos rfl, hm, h]
  rfl

theorem sm12Failed_adc (k : Nat) (s : State) :
    (adcOf (deviceReaction 12 true false (failure 12 (setAdc k { adcOf s k with bad := true } s))) k).bad = true := by
  unfold adcOf
  rw [deviceReaction_adc, failure_cal]
  unfold setAdc
  dsimp only
  rw [get_put_same]

/-! ## The release of the pads -/

theorem releasePads_held {n : List Nat} {a b : State} (h : a.pins.held = b.pins.held) :
    (releasePads n a).pins.held = (releasePads n b).pins.held := by
  unfold releasePads
  rw [h]

/-- The outcome of a write of 1 to a release bit. -/
theorem writePadrel_one {t k : Nat} {h : Hdr} {s : State} (hk : k ≠ Ob.WNP_EVTPEND)
    (ht : writeTaken (s.at t) h k 1 = true) :
    oget (writeRow h k 1 (ownPadrel k) (s.at t)) k = 1 ∧
    (writeRow h k 1 (ownPadrel k) (s.at t)).pins.held = (releasePads [k - Ob.PWR_PADREL_MGT] s).pins.held := by
  have hown (a : State) : ownPadrel k 1 a = (releasePads [k - Ob.PWR_PADREL_MGT] (oset k 1 a), St.ok) := if_neg (by decide)

  constructor
  · rw [oget_writeRow ht hk, hown]
    exact oget_oset_same ..
  · obtain ⟨e, he⟩ := answerTaken_pins 4 h (k / 256) (k % 256) (toBE (objBytes k) 1) (portOf (s.at t) h.port).gen
      (releasePads [k - Ob.PWR_PADREL_MGT] (oset k 1 (counted (s.at t) h)), ⟨St.ok, []⟩)
    obtain ⟨c, hc⟩ := counted_pins h (s.at t)
    rw [writeRow_of_taken ht, hown, he]
    exact releasePads_held ((congrArg Pins.held hc :))

/-- The value of PWR_PADREL names the group of its lowest bit (log entry 60). -/
theorem exec_pwrPadrel_one {t n : Nat} {h : Hdr} {v : BitVec 8} {s : State}
    (hn : (n = 0 ∧ bit v.toNat 0 = true) ∨ (n = 1 ∧ bit v.toNat 0 = false ∧ bit v.toNat 1 = true) ∨ (n = 2 ∧ v = 4)) :
    exec (.pwrPadrel t h v) s =
      .next (writeRow h (Ob.PWR_PADREL_MGT + n) 1 (ownPadrel (Ob.PWR_PADREL_MGT + n)) (s.at t)) := by
  change Host.Outcome.next _ = _
  obtain ⟨rfl, h0⟩ | ⟨rfl, h0, h1⟩ | ⟨rfl, rfl⟩ := hn
  · have hv : v.toNat % 8 ≠ 0 := by
      simp only [bit, decide_eq_true_eq] at h0
      omega
    rw [if_pos (.inl h0), if_neg (fun h => by simp [h] at hv), if_neg hv]
  · have hv : v.toNat % 8 ≠ 0 := by
      simp only [bit, decide_eq_true_eq] at h1
      omega
    rw [if_neg (by rw [h0]; exact fun h => h.elim (by decide) fun h => by simp [h] at hv), if_pos h1,
      if_neg (fun h => by simp [h] at hv), if_neg hv]
  · rfl

/-- Settles O47: a timeout by its domain, the resets of the domains, VAON, the pad classes and the release of the pads. -/
theorem clocksAndPadsAreWatched : Obligations.ClocksAndPadsAreWatched := by
  unfold Obligations.ClocksAndPadsAreWatched
  refine fun t s => ⟨fun d hm => ⟨_, exec_monitored hm, ?_, ?_, ?_, ?_, ?_⟩, fun d hm => ?_, fun d hlo hhi => ⟨fun hdue => ?_,
    fun hdue => ?_⟩, fun band => ⟨fun hdue => ⟨fun hpen => ?_, ?_⟩, fun hdue relocked => ?_⟩, fun d => ⟨fun hst => ?_,
    fun hst => ?_⟩, fun hst hop hact => ?_, fun hst => ?_, fun mv => ⟨fun hab => ?_, fun hcd hpen => ?_, fun hab => ?_⟩,
    fun h v n k hn hk ht => ?_, fun h ht => ?_⟩
  · refine exec_mem (exec_monitored hm) (by simp [footprint])
  · exact monitorTimedOut_counts d (s.at t)
  · rintro (rfl | rfl | rfl) <;> exact ⟨held_cross .., held_boot ..⟩
  · rintro b rfl
    exact bandTimedOut b (s.at t)
  · rintro hd hop
    have hst : s.boot.stage = .started := by
      unfold monitored at hm
      simp only [Bool.and_eq_true, decide_eq_true_eq] at hm
      exact hm.1
    obtain rfl | rfl := hd
    · rw [monitorTimedOut]
      exact heldReaction_op _ hop hst
    · rw [monitorTimedOut]
      exact heldReaction_op _ hop hst
  · exact congrArg Host.Outcome.next (if_pos (by rw [hm]; rfl))
  · exact ⟨_, congrArg Host.Outcome.next (if_pos ⟨by simp [hlo, hhi], hdue⟩), crossOf_setXState .., setXState_frame ..⟩
  · exact congrArg Host.Outcome.next (if_neg fun h => by simp [hdue] at h)
  · have hx : exec (.bandPllResetTimer t band true) s = .next (pllBack band.val (setXState (band.val + 0x13) .peerReset (s.at t))) :=
      congrArg Host.Outcome.next ((if_pos hdue).trans ((if_pos rfl).trans (if_pos hpen)))
    have hf := pllBack_frame band.val (setXState (band.val + 0x13) .peerReset (s.at t))
    refine ⟨_, hx, ?_, (startTraining_state band.val false _).1, hf.obj (by decide), hf.mem (by decide)⟩
    unfold crossOf
    rw [hf.cross (by decide)]
    exact crossOf_setXState ..
  · exact ⟨_, congrArg Host.Outcome.next (if_pos hdue), crossOf_setXState .., setXState_frame ..⟩
  · exact congrArg Host.Outcome.next (if_neg (by simp [hdue]))
  · exact ⟨_, congrArg Host.Outcome.next (if_pos hst), crossOf_setXState .., setXState_frame ..⟩
  · exact congrArg Host.Outcome.next (if_neg hst)
  · have hx : exec (.vaonOutOfWindow t) s =
        .next (deviceReaction 12 true false (failure 12 (setAdc 18 { adcOf (s.at t) 18 with bad := true } (s.at t)))) :=
      congrArg Host.Outcome.next ((if_pos hst).trans (sm12Input_fails hact))
    refine ⟨_, hx, deviceReaction_op ?_ ?_, sm12Failed_adc 18 (s.at t), exec_mem hx (by simp [footprint])⟩
    · rw [failure_boot]
      exact hop
    · rw [failure_boot]
      exact hst
  · exact congrArg Host.Outcome.next (if_neg hst)
  · change Host.Outcome.next _ = _
    rw [if_pos rfl, show (s.at t).pins.padsAb18 = none from hab]
    rfl
  · change Host.Outcome.next _ = _
    rw [if_neg (by decide), if_neg (by rw [show (s.at t).pins.padsCd18 = none from hcd, show (s.at t).pins.pen2 = true from hpen]; decide)]
    rfl
  · change Host.Outcome.next _ = _
    rw [if_pos (show (s.at t).pins.padsAb18.isSome = true from Option.isSome_iff_ne_none.mpr hab)]
    rfl
  · have hx : exec (.pwrPadrel t h v) s = .next (writeRow h k 1 (ownPadrel k) (s.at t)) := by
      rw [exec_pwrPadrel_one hn, hk]
    have hkn : k - Ob.PWR_PADREL_MGT = n := by omega
    have hev : k ≠ Ob.WNP_EVTPEND := by
      obtain ⟨rfl, -⟩ | ⟨rfl, -⟩ | ⟨rfl, -⟩ := hn <;> subst hk <;> decide
    obtain ⟨h1, h2⟩ := writePadrel_one hev ht
    rw [hkn] at h2
    exact ⟨_, hx, h1, h2, exec_frame hx⟩
  · have hx : exec (.pwrPadrel t h 0) s = .next (writeRow h Ob.PWR_PADREL_MGT 0 (ownPadrel Ob.PWR_PADREL_MGT) (s.at t)) := rfl
    obtain ⟨e, he⟩ := answerTaken_pins 4 h (Ob.PWR_PADREL_MGT / 256) (Ob.PWR_PADREL_MGT % 256)
      (toBE (objBytes Ob.PWR_PADREL_MGT) 0) (portOf (s.at t) h.port).gen (counted (s.at t) h, ⟨St.ok, []⟩)
    obtain ⟨c, hc⟩ := counted_pins h (s.at t)
    refine ⟨_, hx, ?_, exec_frame hx⟩
    rw [writeRow_of_taken ht, show ownPadrel Ob.PWR_PADREL_MGT 0 (counted (s.at t) h) = (counted (s.at t) h, St.ok) from rfl, he]
    exact (congrArg Pins.held hc :)

end Sys2Proof.Machine
end

section
/-!
PROOF. A retraining that is asked for while a lampblack path runs (R38, R254, log entry 40): O17 fails.
-/

namespace Sys2Proof.Machine
open Sys2Proof

/-- While a lampblack path holds the lanes of a band that shows no content, its training waits for their release. -/
theorem retrainBand_hold {b : Nat} {s : State} (hb : (bandScan s b).state ≠ 0) (hp : onPath s b = true) :
    (dlkOf (retrainBand b s) b).state = .hold := by
  unfold retrainBand
  dsimp only
  rw [if_neg hb, if_pos hp, dlkOf_setDlk]

theorem exec_dlkRetrain (t : Nat) (h : Hdr) (v : BitVec 8) (s : State) :
    exec (.dlkRetrain t h v) s = .next (writeRow h Ob.DLK_RETRAIN v.toNat ownDlkRetrain (s.at t)) := rfl

/-- A retraining of the one band in use, with a path on it: the link holds. -/
theorem dlkRetrain_hold {t : Nat} {h : Hdr} {s s' : State} (ht : writeTaken (s.at t) h Ob.DLK_RETRAIN 1 = true)
    (hpen : s.pins.pen3 = true) (hone : bandCount s = 1) (hb : (bandScan s 0).state ≠ 0) (hp : onPath s 0 = true)
    (hx : exec (.dlkRetrain t h 1) s = .next s') : (dlkOf s' 0).state = .hold := by
  have hused : (usedBands (counted (s.at t) h)).filter (bit 1) = [0] := by
    unfold usedBands
    rw [bandCount_counted, hone]
    decide
  have hown : (ownDlkRetrain 1 (counted (s.at t) h)).1 = retrainBand 0 (counted (s.at t) h) := by
    unfold ownDlkRetrain
    rw [if_neg (by rw [counted_pen3, show (s.at t).pins.pen3 = true from hpen]; decide), hused]
    rfl
  have hhold : (dlkOf (retrainBand 0 (counted (s.at t) h)) 0).state = .hold := by
    refine retrainBand_hold ?_ ?_
    · unfold bandScan
      rw [counted_scan]
      exact hb
    · unfold onPath
      rw [counted_pnl]
      exact hp
  rw [Host.Outcome.next.inj (hx.symm.trans (exec_dlkRetrain t h 1 s))]
  unfold dlkOf
  rw [show (1 : BitVec 8).toNat = 1 from rfl, writeRow_of_taken ht, answerTaken_dlk, hown]
  exact hhold

/-- A panel under power in SETUP, with a session at Factory level and a lampblack path on its one band. -/
def pathHeld : State :=
  { State.reset with
    boot := { State.reset.boot with stage := .started, op := .setup }
    pins := { State.reset.pins with pen3 := true }
    pnl := { State.reset.pnl with path := some { bands := 1, causes := 1, from_ := 0 } }
    mgt := { State.reset.mgt with spi := { State.reset.mgt.spi with gen := 1, active := true, level := 3 } } }

/-- Refutes O17. DLK_RETRAIN of a band on a lampblack path leaves its link in HOLD until the lanes are released (log entry 40), not
in DETECT, and the statement does not leave such a band out: `pathHeld` under a DLK_RETRAIN of band 0. -/
theorem not_driverLinksTrain : ¬ Obligations.DriverLinksTrain := by
  unfold Obligations.DriverLinksTrain
  intro hall
  have ht : writeTaken (pathHeld.at 1000) { port := .spi, tag := 0, gen := 1 } Ob.DLK_RETRAIN 1 = true := by decide +kernel
  have hone : bandCount pathHeld = 1 := by decide +kernel
  obtain ⟨-, -, -, -, -, hretrain⟩ := hall 1000 0 pathHeld
  obtain ⟨s', hx, hdetect, -⟩ := (hretrain { port := .spi, tag := 0, gen := 1 } 1 ht).1 rfl (by rw [hone]; decide) (by decide)
  have hhold := dlkRetrain_hold ht rfl hone (by decide) (by decide) hx
  exact absurd (hdetect.symm.trans hhold) (by decide)

end Sys2Proof.Machine
end

section
/-!
PROOF. A driver register written from an object above its 16 bits (R243): O18 fails.
-/

namespace Sys2Proof.Machine
open Sys2Proof

/-- A band whose link carries packets in SETUP, with a session at Factory level, and DLK_DRVREG_DATA one above its largest value. -/
def dataTooLarge : State :=
  oset Ob.DLK_DRVREG_DATA 65536 (setDlk 0 { DlkBand.initial with state := .ready }
    { State.reset with
      boot := { State.reset.boot with stage := .started, op := .setup }
      mgt := { State.reset.mgt with spi := { State.reset.mgt.spi with gen := 1, active := true, level := 3 } } })

/-- The register 0x8000 of driver 0 after a write of DLK_DRVREG_WRITE that names it. -/
def writtenReg (o : Host.Outcome State Fault Refusal) : Option Nat :=
  match o with
  | .next s => some (get (fun _ => 0) (dlkOf s 0).regs 0x8000)
  | _ => none

/-- Refutes O18. A driver register has 16 bits and takes DLK_DRVREG_DATA modulo 65536, so a state whose object holds 65536 has the
register 0 after the write. -/
theorem not_driverLinksCarry : ¬ Obligations.DriverLinksCarry := by
  unfold Obligations.DriverLinksCarry
  intro hall
  have ht : writeTaken (dataTooLarge.at 1000) { port := .spi, tag := 0, gen := 1 } (Ob.DLK_DRVREG_WRITE + 0) 1 = true := by
    decide +kernel
  obtain ⟨-, -, hwrite, -⟩ := hall 1000 0 dataTooLarge
  obtain ⟨s', hx, hreg, -⟩ := (hwrite { port := .spi, tag := 0, gen := 1 } 1 ht).1 rfl (by decide +kernel)
  have hdata := hreg 0 (by decide) (by decide +kernel) (by decide)
  have haddr : 65536 * 0 + oget dataTooLarge Ob.DLK_DRVREG_ADDR = 0x8000 := by decide +kernel
  have hval : oget dataTooLarge Ob.DLK_DRVREG_DATA = 65536 := by decide +kernel
  have hrun : writtenReg (exec (.dlkDrvregWrite 1000 { port := .spi, tag := 0, gen := 1 } 0 1) dataTooLarge) = some 0 := by
    decide +kernel
  rw [hx] at hrun
  have hzero : get (fun _ => 0) (dlkOf s' 0).regs 0x8000 = 0 := Option.some.inj hrun
  rw [haddr, hval] at hdata
  exact absurd (hdata.symm.trans hzero) (by decide)

end Sys2Proof.Machine
end

section
/-! SUPPORT. The objects that the stores of the ledger and the change of an emitter leave alone. -/

namespace Sys2Proof.Machine
open Sys2Proof

section
variable {k : Nat} (hc : notCounter k = true)
include hc

/-! ## Stores -/

theorem oget_memPart (hk : k ∉ jobObjects) (a : Nat) (bs : List Byte) (s : State) : oget (memPart a bs s) k = oget s k := by
  unfold memPart
  split
  · exact oget_readPoison _ s hc hk
  · rfl

theorem oget_memStore (hk : k ∉ jobObjects) (a : Nat) (bs : List Byte) (s : State) : oget (memStore a bs s) k = oget s k := by
  unfold memStore
  extract_lets head mid s1 s2
  have h1 : oget s1 k = oget s k := by
    unfold s1
    split
    · rfl
    · exact oget_memPart hc hk ..
  have h2 : oget s2 k = oget s k := by
    unfold s2
    split
    · exact h1
    · exact (oget_memRun ..).trans h1
  split
  · exact h2
  · exact (oget_memPart hc hk ..).trans h2

theorem oget_mapStore (hk : k ∉ jobObjects) (a : Nat) (bs : List Byte) (s : State) : oget (mapStore a bs s) k = oget s k := by
  unfold mapStore
  split
  · exact oget_memStore hc hk ..
  · refine each_keeps (obs := fun a => oget a k) fun e _ a => ?_
    split
    · rfl
    · exact oget_memStore hc hk ..

theorem oget_releaseWrites (hk : k ∉ jobObjects) (s : State) : oget (releaseWrites s) k = oget s k := by
  unfold releaseWrites
  refine (each_keeps (obs := fun a => oget a k) fun e _ a => ?_).trans rfl
  split
  · rfl
  · exact oget_memStore hc hk ..

/-! ## The change of an emitter -/

omit hc in
/-- An entry of WEAR_LOG stands above every object below the log. -/
theorem oget_wearEntry (hlog : k < Ob.WEAR_LOGIDX) (event cls sub y : Nat) (s : State) :
    oget (wearEntry event cls sub y s) k = oget s k := by
  have h2 : Ob.WEAR_LOGIDX < Ob.WEAR_LOG := by decide
  unfold wearEntry
  rw [oget_oset_ne _ _ (Nat.ne_of_lt hlog), oget_oset_ne _ _ (by omega)]

/-- The objects that a safety event of a tile mechanism may change. -/
abbrev eventObjects : List Nat := [Ob.SAF_LAST_SM, Ob.SAF_LAST_EPOCH, Ob.JRN_SEQ, Ob.WNP_EVTPEND]

theorem oget_tileReaction (hk : k ∉ eventObjects) (n : Nat) (log inj : Bool) (s : State) :
    oget (tileReaction n log inj s) k = oget s k := by
  have hne {j : Nat} (hj : j ∈ eventObjects) : k ≠ j := ne_of_not_mem hk hj
  have hmech (m : Mech) (a : State) : oget (setMech n m a) k = oget a k := rfl
  have h (a : State) : oget (evc 0x99 (recordLast n inj a)) k = oget a k := by
    rw [oget_evc _ _ _ hc, oget_recordLast n inj (hne (by decide)) (hne (by decide)) (hne (by decide))]
  have hlog (a : State) (l : EvLog) : oget { a with evlog := l } k = oget a k := rfl
  unfold tileReaction
  dsimp only
  split
  · rw [oget_logEv _ _ _ _ _ hc (hne (by decide)) (hne (by decide)), hlog, h, hmech]
  · rw [h, hmech]

/-- The objects that the change of an emitter may change, beside the log of WEAR. -/
abbrev emitterObjects : List Nat := jobObjects ++ eventObjects ++ [Ob.WEAR_DEAD]

theorem oget_spendEmitter (hlog : k < Ob.WEAR_LOGIDX) (hk : k ∉ emitterObjects) (sub y b r : Nat) (short : Bool) (s : State) :
    oget (spendEmitter sub y b r short s) k = oget s k := by
  have hjob : k ∉ jobObjects := fun h => hk (List.mem_append_left _ (List.mem_append_left _ h))
  have hev : k ∉ eventObjects := fun h => hk (List.mem_append_left _ (List.mem_append_right _ h))
  have hne {j : Nat} (hj : j ∈ emitterObjects) : k ≠ j := ne_of_not_mem hk hj
  have hdef (v : Nat) (a : State) : oget (setDefect sub y v a) k = oget a k := oget_memPart hc hjob ..
  have hwear (e : Nat) (a : State) : oget (wearLog e sub y a) k = oget a k := oget_wearEntry hlog ..
  have hjrn (a : State) : oget (jrnDefect sub y a) k = oget a k := oget_oset_ne _ _ (hne (by decide))
  have htouch (b r : Nat) (x : Bool) (a : State) : oget (touchRow b r x a) k = oget a k :=
    oget_congr ((frameOf (kept_touchRow b r x) a).obj (by decide)) k
  have hdead (a : State) : oget (addDead sub y a) k = oget a k := rfl
  have hshort (a : State) : oget (resolveShort sub y a) k = oget a k := rfl
  have hage (a : State) : oget (map16 (ageAt sub y) 0xFFFF a) k = oget a k := oget_mapStore hc hjob ..
  have hdeclare (a : State) : oget (declareDead sub y short a) k = oget a k := by
    unfold declareDead
    extract_lets s0 s1 s2 s3
    have h0 : oget s0 k = oget a k := by
      unfold s0 whenDo
      split
      · exact htouch ..
      · rfl
    have h3 : oget s3 k = oget a k := by
      unfold s3 s2 s1
      rw [hshort, oget_evc _ _ _ hc, hdead, hjrn, oget_cnt_ne _ (hne (by decide)), hwear, hage, hdef, h0]
    split
    · unfold safetyEvent
      rw [oget_tileReaction hc hev, oget_failure hc, h3]
    · exact h3
  unfold spendEmitter
  extract_lets e sel e1 other e2 s1
  split
  · unfold s1
    rw [htouch, oget_evc _ _ _ hc, hjrn, hwear, hdef]
  · rw [hdeclare, hdef]

end

end Sys2Proof.Machine
end

section
/-! PROOF. O19: the ledger's row update and the shadow check of a row. -/

namespace Sys2Proof.Machine
open Sys2Proof

/-! ## The row update -/

/-- The objects that the update of a subpixel may change, beside the log of WEAR. -/
abbrev updateObjects : List Nat := emitterObjects ++ [Ob.MDL_BSAT, Ob.MDL_ASAT]

theorem oget_updateSub {k : Nat} (hc : notCounter k = true) (hlog : k < Ob.WEAR_LOGIDX) (hk : k ∉ updateObjects)
    (b row sub : Nat) (y8 : List Nat) (s : State) : oget (updateSub b row sub y8 s) k = oget s k := by
  have hemit : k ∉ emitterObjects := fun h => hk (List.mem_append_left _ h)
  have hjob : k ∉ jobObjects := fun h => hemit (List.mem_append_left _ (List.mem_append_left _ h))
  have hne {j : Nat} (hj : j ∈ updateObjects) : k ≠ j := ne_of_not_mem hk hj
  have hage (x v : Nat) (a : State) : oget (map16 x v a) k = oget a k := oget_mapStore hc hjob ..
  have hbias (x v : Nat) (a : State) : oget (mem16 x v a) k = oget a k := oget_memPart hc hjob ..
  have hwear (w : Wear) (a : State) : oget { a with wear := w } k = oget a k := rfl
  unfold updateSub
  extract_lets y a
  split
  · rfl
  · split
    next bias clamped age _ =>
      extract_lets s1 s2 s3 _ s4
      have h1 : oget s1 k = oget s k := (hage ..).trans (hbias ..)
      have h2 : oget s2 k = oget s k := by
        unfold s2
        split
        · rw [oget_evc _ _ _ hc, oget_cnt_ne _ (hne (by decide)), h1]
        · exact h1
      have h3 : oget s3 k = oget s k := by
        unfold s3
        split
        · rw [oget_cnt_ne _ (hne (by decide)), h2]
        · exact h2
      have h4 : oget s4 k = oget s k := (hwear _ s3).trans h3
      split
      · rw [oget_spendEmitter hc hlog hemit, h4]
      · exact h4

/-- A row updated: its subpixels' stores, its count and its mark. -/
def rowStored (b row : Nat) (s : State) : State :=
  let y := panelRow s b row
  let n := 2 * lineSubs s
  each (List.range (lineSubs s)) (fun sub => updateSub b row sub (get (fun _ => []) s.wear.sample (8192 * b + row)))
    (readPoison (poisonIn s (biasAt 0 y) (biasAt 0 y + n) ++ poisonIn s (ageAt 0 y) (ageAt 0 y + n)) s)

theorem rowStored_rows (b row : Nat) (s : State) : oget (rowStored b row s) Ob.MDL_ROWS = oget s Ob.MDL_ROWS := by
  unfold rowStored
  refine (each_keeps (obs := fun a => oget a Ob.MDL_ROWS) fun sub _ a =>
    oget_updateSub (by decide) (by decide) (by decide) b row sub _ a).trans ?_
  exact oget_readPoison _ s (by decide) (by decide)

theorem rowStored_scan (b row : Nat) (s : State) : (rowStored b row s).scan = s.scan := by
  unfold rowStored
  refine (each_keeps (obs := State.scan) fun sub _ a => ?_).trans (readPoison_scan ..)
  exact (frameOf (kept_updateSub b row sub _) a).scan (by decide)

/-- The mark and the count of a row whose subpixels are stored. -/
def rowCounted (k lo : Nat) (s1 : State) : State :=
  evc 0xC0 (cnt Ob.MDL_ROWS { s1 with wear := { s1.wear with
    confirm := splice s1.wear.confirm (32 * k) (32 * (k + 1)) []
    zeroed := splice s1.wear.zeroed lo (lo + 32768) []
    sample := del s1.wear.sample k
    updated := ins s1.wear.updated k (s1.scan.epoch + 1) } })

theorem rowCounted_spec (k lo : Nat) (s1 : State) :
    get (fun _ => 0) (rowCounted k lo s1).wear.updated k = s1.scan.epoch + 1 ∧
    oget (rowCounted k lo s1) Ob.MDL_ROWS = satInc 0xFFFFFFFF (oget s1 Ob.MDL_ROWS) := by
  unfold rowCounted
  rw [evc_wear, oget_evc _ _ _ (by decide), oget_cnt_same]
  refine ⟨?_, rfl⟩
  unfold get
  rw [cnt_wear, look_ins_same]
  rfl

theorem exec_ledgerRowUpdate {t row : Nat} {band : Fin 4} {s : State} (h : updateDue s band.val row = true) :
    exec (.ledgerRowUpdate t band row) s =
      .next (rowCounted (8192 * band.val + row) (subKey 0 (panelRow (s.at t) band.val row)) (rowStored band.val row (s.at t))) :=
  congrArg Host.Outcome.next (if_neg (by rw [show updateDue (s.at t) band.val row = true from h]; decide))

/-! ## The shadow check -/

/-- The row out of the rows awaited, with its pixels, and the writes that waited for it. -/
def rowChecked (b row lag : Nat) (x : Sent) (l : Latch) (s : State) : State :=
  let bs := bandScan s b
  let px := sampled s l (panelRow s b row)
  let s1 := releaseWrites (setBandScan b { bs with
    hist := bs.hist.filter (fun z => decide (z.row ≠ row))
    shadowDue := if x.epoch = s.scan.epoch then bs.shadowDue - px.length else bs.shadowDue
    shadowNext := if x.epoch = s.scan.epoch + 1 then bs.shadowNext - px.length else bs.shadowNext } s)
  oset Ob.IND_SHADOW_LAG (max (oget s1 Ob.IND_SHADOW_LAG) (min lag 0xFFFF))
    { s1 with scan := { s1.scan with shadowPix := s1.scan.shadowPix + px.length } }

/-- The differences of a row that the checker finds. -/
def diffsCounted (b y : Nat) (bad : List (Nat × Nat × Nat)) (s : State) : State :=
  each bad (fun c st =>
    evc (0x68 + 8 * b + 3) (cnt (Ob.IND_SM07 + b)
      (oset Ob.IND_SHADOW_FIRST (c.1 * 2 ^ 19 + y * 2 ^ 6 + min c.2.1 3 * 16) st))) s

theorem exec_shadowRowChecked {t row lag : Nat} {band : Fin 4} {codes : List (Fin 7680 × Fin 6 × BitVec 10)} {x : Sent}
    {l : Latch} {s : State} (hx : (bandScan s band.val).hist.find? (fun z => decide (z.row = row)) = some x)
    (hl : latchFor s x.epoch = some l) : exec (.shadowRowChecked t band row codes lag) s = .next (
      if (shadowDiffs s l band.val x codes).isEmpty then
        diffsCounted band.val (panelRow s band.val row) (shadowDiffs s l band.val x codes) (rowChecked band.val row lag x l (s.at t))
      else bandReaction 7 band.val false false (failure 7 (diffsCounted band.val (panelRow s band.val row)
        (shadowDiffs s l band.val x codes) (rowChecked band.val row lag x l (s.at t))))) := by
  have hrow : x.row = row := by simpa using List.find?_some hx
  subst hrow
  change Host.Outcome.next _ = _
  rw [show (bandScan (s.at t) band.val).hist.find? (fun z => decide (z.row = x.row)) = some x from hx]
  dsimp only
  rw [show latchFor (s.at t) x.epoch = some l from hl]
  rfl

theorem releaseWrites_frame (s : State) : s.sameBut [.obj, .mem, .poison, .fst] (releaseWrites s) := frameOf kept_releaseWrites s

/-- The scan behind a row's check, and the frame of the check. -/
theorem rowChecked_scan (b row lag : Nat) (x : Sent) (l : Latch) (s : State) :
    (bandScan (rowChecked b row lag x l s) b).hist = (bandScan s b).hist.filter (fun z => decide (z.row ≠ row)) ∧
    (rowChecked b row lag x l s).scan.shadowPix = s.scan.shadowPix + (sampled s l (panelRow s b row)).length ∧
    (rowChecked b row lag x l s).safe = s.safe := by
  have hpix (k v n : Nat) (a : State) :
      bandScan (oset k v { a with scan := { a.scan with shadowPix := n } }) b = bandScan a b := rfl
  have hrel (a : State) : bandScan (releaseWrites a) b = bandScan a b := by
    unfold bandScan
    rw [(releaseWrites_frame a).scan (by decide)]
  unfold rowChecked
  dsimp only
  refine ⟨?_, ?_, ?_⟩
  · rw [hpix, hrel, bandScan_setBandScan]
  · rw [oset_scan]
    dsimp only
    rw [(releaseWrites_frame _).scan (by decide)]
    rfl
  · rw [oset_safe]
    exact (releaseWrites_frame _).safe (by decide)

/-- The check of a row raises the largest lag seen. -/
theorem rowChecked_lag (b row lag : Nat) (x : Sent) (l : Latch) (s : State) :
    oget (rowChecked b row lag x l s) Ob.IND_SHADOW_LAG = max (oget s Ob.IND_SHADOW_LAG) (min lag 0xFFFF) := by
  have hset (v : BandScan) (a : State) : oget (setBandScan b v a) Ob.IND_SHADOW_LAG = oget a Ob.IND_SHADOW_LAG := rfl
  unfold rowChecked
  dsimp only
  rw [oget_oset_same, oget_releaseWrites (by decide) (by decide), hset]

/-- Where no write waits, the check of a row stores nothing. -/
theorem rowChecked_mem {s : State} (h : s.fst.held = []) (b row lag : Nat) (x : Sent) (l : Latch) :
    (rowChecked b row lag x l s).mem = s.mem := by
  have hrel {a : State} (ha : a.fst.held = []) : (releaseWrites a).mem = a.mem := by
    unfold releaseWrites
    rw [ha]
    rfl
  unfold rowChecked
  dsimp only
  rw [oset_mem]
  exact hrel h

theorem diffsCounted_frame (b y : Nat) (bad : List (Nat × Nat × Nat)) (s : State) :
    s.sameBut [.obj] (diffsCounted b y bad s) :=
  (kept_each (fun _ _ ha => kept_evc _ (fun _ => id) (kept_cnt _ (fun _ => id) (kept_oset _ _ (fun _ => id) ha)))
    (Kept.start [.obj] s)).rest

theorem bandCount_diffsCounted (b y : Nat) (bad : List (Nat × Nat × Nat)) (s : State) :
    bandCount (diffsCounted b y bad s) = bandCount s := by
  have hlt : Ob.SCAN_BANDS < Ob.IND_SM07 := by decide
  have h : oget (diffsCounted b y bad s) Ob.SCAN_BANDS = oget s Ob.SCAN_BANDS := by
    refine each_keeps (obs := fun a => oget a Ob.SCAN_BANDS) fun c _ a => ?_
    rw [oget_evc _ _ _ (by decide), oget_cnt_ne _ (by omega), oget_oset_ne _ _ (by decide)]
  unfold bandCount
  rw [h]

theorem bandCount_rowChecked (b row lag : Nat) (x : Sent) (l : Latch) (s : State) :
    bandCount (rowChecked b row lag x l s) = bandCount s := by
  have hscan (a : State) (v : Scan) : oget { a with scan := v } Ob.SCAN_BANDS = oget a Ob.SCAN_BANDS := rfl
  have hset (v : BandScan) (a : State) : oget (setBandScan b v a) Ob.SCAN_BANDS = oget a Ob.SCAN_BANDS := rfl
  have h : oget (rowChecked b row lag x l s) Ob.SCAN_BANDS = oget s Ob.SCAN_BANDS := by
    unfold rowChecked
    dsimp only
    rw [oget_oset_ne _ _ (by decide), hscan, oget_releaseWrites (by decide) (by decide), hset]
  unfold bandCount
  rw [h]

/-- A transaction that a band's darkness ends leaves what the bands have sent. -/
theorem darkNaks_bands (bands : Nat) (s : State) : (darkNaks bands s).scan.bands = s.scan.bands := by
  have hdetach (t : Nat) (a : State) : (detachTag t a).scan.bands = a.scan.bands := by
    unfold detachTag
    dsimp only
    split <;> rfl
  unfold darkNaks
  refine each_keeps (obs := fun a => a.scan.bands) fun t _ a => ?_
  unfold nakTx
  dsimp only
  rw [(frameOf (kept_freeTag t false) _).scan (by decide), hdetach, (frameOf (kept_sendNak _) _).scan (by decide)]

/-- A band's reaction changes its state, and leaves the rows that it awaits. -/
theorem bandReaction_hist (n b : Nat) (stay inj : Bool) (s : State) :
    (bandScan (bandReaction n b stay inj s) b).hist = (bandScan s b).hist := by
  have hstate (v : Nat) (a : State) : (bandScan (setBandState b v a) b).hist = (bandScan a b).hist := by
    have hpads (w : BandPins) (c : State) : bandScan (setPads b w c) b = bandScan c b := rfl
    unfold setBandState
    dsimp only
    split
    · rw [bandScan_setBandScan]
    · rw [hpads, bandScan_setBandScan]
  unfold bandReaction
  split
  · rfl
  · split
    · rfl
    · dsimp only
      unfold bandScan
      rw [evc_scan, logEv_scan, pendEvt_scan, backEvent_scan, recordLast_scan, darkNaks_bands]
      exact hstate 2 _

/-- Settles O19: a row's update and a row's check, each through the states that they pass. -/
theorem rowsAreUpdatedAndChecked : Obligations.RowsAreUpdatedAndChecked := by
  unfold Obligations.RowsAreUpdatedAndChecked
  refine fun t band row s => ⟨fun hdue => ?_, fun hdue => ?_, fun codes lag x l hfind hl => ⟨fun hnone => ?_, fun hsome hb => ?_⟩⟩
  · have hx := exec_ledgerRowUpdate (t := t) hdue
    obtain ⟨h1, h2⟩ := rowCounted_spec (8192 * band.val + row) (subKey 0 (panelRow (s.at t) band.val row))
      (rowStored band.val row (s.at t))
    rw [rowStored_scan] at h1
    rw [rowStored_rows] at h2
    have hf := exec_frame hx
    exact ⟨_, hx, h1, h2, hf.scan (by simp [footprint]), hf.boot (by simp [footprint]), hf.dlk (by simp [footprint]),
      hf.trx (by simp [footprint])⟩
  · exact congrArg Host.Outcome.next (if_pos (by rw [show updateDue (s.at t) band.val row = false from hdue]; rfl))
  · have hx := exec_shadowRowChecked (t := t) (lag := lag) (codes := codes) hfind hl
    rw [hnone] at hx
    obtain ⟨h1, h2, h3⟩ := rowChecked_scan band.val row lag x l (s.at t)
    have hx' : exec (.shadowRowChecked t band row codes lag) s = .next (rowChecked band.val row lag x l (s.at t)) := hx
    exact ⟨_, hx', h1, h2, rowChecked_lag .., h3, fun hheld => rowChecked_mem (s := s.at t) hheld ..⟩
  · have hx := exec_shadowRowChecked (t := t) (lag := lag) (codes := codes) hfind hl
    rw [if_neg (by simpa using hsome)] at hx
    obtain ⟨h1, -, h3⟩ := rowChecked_scan band.val row lag x l (s.at t)
    have hcount := (bandCount_diffsCounted band.val (panelRow s band.val row) (shadowDiffs s l band.val x codes) _).trans
      (bandCount_rowChecked band.val row lag x l (s.at t))
    have hf := diffsCounted_frame band.val (panelRow s band.val row) (shadowDiffs s l band.val x codes)
      (rowChecked band.val row lag x l (s.at t))
    generalize diffsCounted band.val (panelRow s band.val row) (shadowDiffs s l band.val x codes)
      (rowChecked band.val row lag x l (s.at t)) = a at hx hf hcount
    obtain ⟨hm, hdark⟩ := bandReaction_spec (n := 7) false false (s := failure 7 a) (b := band.val)
      (by rw [bandCount_failure, hcount]; exact hb)
    refine ⟨_, hx, ?_, ?_, hdark⟩
    · rw [bandReaction_hist]
      refine Eq.trans ?_ h1
      unfold bandScan
      rw [failure_scan, hf.scan (by decide)]
    · rw [hm, mechOf_failure]
      refine congrArg (satInc 0xFFFF) (congrArg Mech.count (mechOf_congr ((hf.safe (by decide)).trans h3) 7))

end Sys2Proof.Machine
end

section
/-! SUPPORT. The slots of the lake coder: what a stop, a turn and a start leave of each. -/

namespace Sys2Proof.Machine
open Sys2Proof

theorem slotOf_congr {a b : State} (h : a.lake.slots = b.lake.slots) (n : Nat) : slotOf a n = slotOf b n := by
  unfold slotOf
  rw [h]

theorem slotOf_setSlot_ne {n m : Nat} (h : m ≠ n) (v : Slot) (s : State) : slotOf (setSlot n v s) m = slotOf s m :=
  get_put_ne _ _ v h

/-! ## The next slot and the turn -/

/-- The next slot in the round robin runs or waits. -/
theorem nextSlot_state {n k : Nat} {s : State} (h : nextSlot s n = some k) :
    (slotOf s k).state = .running ∨ (slotOf s k).state = .waiting := by
  have hmem : k ∈ runningSlots s := by
    unfold nextSlot at h
    dsimp only at h
    split at h
    next j hj =>
      obtain rfl := Option.some.inj h
      exact List.mem_of_find?_eq_some hj
    next => exact List.mem_of_head? h
  simpa [runningSlots] using (List.mem_filter.mp hmem).2

/-- The state once slot `m` has the turn. -/
def turnGiven (m : Nat) (s : State) : State :=
  let s1 := { s with lake := { s.lake with current := some m, quantum := oget s Ob.LAKE_QUANTUM } }
  setSlot m { slotOf s1 m with state := .running } s1

/-- The slot that had the turn waits, where it still ran, and the switch is counted. -/
def turnTaken (o : Nat) (s2 : State) : State :=
  evc 0xAE (cnt Ob.LAKE_SWITCHES
    (if (slotOf s2 o).state = .running then setSlot o { slotOf s2 o with state := .waiting } s2 else s2))

theorem switchTo_none (n : Nat) (s : State) : switchTo (some n) none s =
    { s with lake := { s.lake with current := none, quantum := oget s Ob.LAKE_QUANTUM } } := rfl

theorem switchTo_some (n m : Nat) (s : State) : switchTo (some n) (some m) s =
    if n = m then turnGiven m s else turnTaken n (turnGiven m s) := rfl

theorem turnGiven_lake (m : Nat) (s : State) : (turnGiven m s).lake.current = some m ∧
    (turnGiven m s).lake.quantum = oget s Ob.LAKE_QUANTUM ∧ (slotOf (turnGiven m s) m).state = .running := by
  refine ⟨rfl, rfl, ?_⟩
  unfold turnGiven
  dsimp only
  rw [slotOf_setSlot]

theorem slotOf_turnGiven_ne {m k : Nat} (h : k ≠ m) (s : State) : slotOf (turnGiven m s) k = slotOf s k :=
  slotOf_setSlot_ne h ..

/-- The lake coder behind a switch: the turn stays with the new slot, and the old one waits. -/
theorem turnTaken_lake (o : Nat) (s : State) : (turnTaken o s).lake.current = s.lake.current ∧
    (turnTaken o s).lake.quantum = s.lake.quantum ∧ (∀ k, k ≠ o → slotOf (turnTaken o s) k = slotOf s k) ∧
    ((slotOf s o).state = .running → (slotOf (turnTaken o s) o).state = .waiting) ∧
    ((slotOf s o).state ≠ .running → slotOf (turnTaken o s) o = slotOf s o) := by
  have hlake (a : State) : (evc 0xAE (cnt Ob.LAKE_SWITCHES a)).lake = a.lake := (evc_lake ..).trans (cnt_lake ..)
  have hslot (a : State) (k : Nat) : slotOf (evc 0xAE (cnt Ob.LAKE_SWITCHES a)) k = slotOf a k :=
    slotOf_congr (congrArg Lake.slots (hlake a)) k
  unfold turnTaken
  by_cases hr : (slotOf s o).state = .running
  · rw [if_pos hr]
    refine ⟨by rw [hlake]; rfl, by rw [hlake]; rfl, fun k hk => ?_, fun _ => ?_, fun h => absurd hr h⟩
    · rw [hslot, slotOf_setSlot_ne hk]
    · rw [hslot, slotOf_setSlot]
  · rw [if_neg hr]
    exact ⟨by rw [hlake], by rw [hlake], fun k _ => hslot s k, fun h => absurd h hr, fun _ => hslot s o⟩

/-- A switch away from a slot that has stopped leaves it as it is. -/
theorem slotOf_switchTo {n : Nat} {s : State} (hr : (slotOf s n).state ≠ .running) (hw : (slotOf s n).state ≠ .waiting) :
    slotOf (switchTo (some n) (nextSlot s n) s) n = slotOf s n := by
  cases hk : nextSlot s n with
  | none => rfl
  | some m =>
    have hne : n ≠ m := by
      rintro rfl
      exact (nextSlot_state hk).elim hr hw
    have hgiven : slotOf (turnGiven m s) n = slotOf s n := slotOf_turnGiven_ne hne s
    obtain ⟨-, -, -, -, hstay⟩ := turnTaken_lake n (turnGiven m s)
    rw [switchTo_some, if_neg hne, hstay (by rw [hgiven]; exact hr), hgiven]

/-! ## A stop -/

/-- The slot that stops holds its state and cause, and asks for nothing more. -/
theorem slotOf_stopSlot {n : Nat} {st : JobState} (hr : st ≠ .running) (hw : st ≠ .waiting) (cause : Nat) (s : State) :
    slotOf (stopSlot n st cause s) n = { slotOf s n with state := st, cause := cause, suspend := false, cancel := false } := by
  unfold stopSlot
  extract_lets _ s1 s2 s3
  have h3 : slotOf s3 n = { slotOf s n with state := st, cause := cause, suspend := false, cancel := false } := by
    have h1 : slotOf s1 n = _ := slotOf_setSlot ..
    have h2 : slotOf s2 n = slotOf s1 n := slotOf_congr (congrArg Lake.slots (evc_lake ..)) n
    refine Eq.trans ?_ (h2.trans h1)
    unfold s3
    split
    · exact slotOf_congr (congrArg Lake.slots (evc_lake ..)) n
    · rfl
  split
  · rw [slotOf_switchTo (by rw [h3]; exact hr) (by rw [h3]; exact hw), h3]
  · exact h3

theorem stopSlot_mem (n : Nat) (st : JobState) (cause : Nat) (s : State) : (stopSlot n st cause s).mem = s.mem :=
  (frameOf (kept_stopSlot n st cause) s).mem (by decide)

/-- A slot that meets data which cannot be read stops with FAULT where it stands. -/
theorem slotOf_faultSlot (n : Nat) (words : List Nat) (s : State) : slotOf (faultSlot n words s) n =
    { slotOf s n with state := .fault, cause := 0, suspend := false, cancel := false } := by
  unfold faultSlot
  rw [slotOf_stopSlot (by decide) (by decide), slotOf_congr (congrArg Lake.slots (readPoison_lake words s))]

theorem faultSlot_mem (n : Nat) (words : List Nat) (s : State) : (faultSlot n words s).mem = s.mem :=
  (stopSlot_mem ..).trans (readPoison_mem ..)

/-! ## A block boundary, and a start -/

/-- A boundary stops the slot, or leaves it; its job stands where it stood. -/
theorem boundary_cases (n : Nat) (s : State) : boundary n s = s ∨
    ∃ st cause, st ≠ .running ∧ st ≠ .waiting ∧ st ≠ .escape ∧ boundary n s = stopSlot n st cause s := by
  unfold boundary
  dsimp only
  split
  · exact .inr ⟨.done, 0, by decide, by decide, by decide, rfl⟩
  · split
    · split
      · exact .inr ⟨.outFull, 0, by decide, by decide, by decide, rfl⟩
      · exact .inr ⟨.inEmpty, 0, by decide, by decide, by decide, rfl⟩
    · split
      · exact .inr ⟨.cancelled, 0, by decide, by decide, by decide, rfl⟩
      · split
        · exact .inr ⟨.suspended, 0, by decide, by decide, by decide, rfl⟩
        · exact .inl rfl

theorem boundary_codePos (n : Nat) (s : State) : (slotOf (boundary n s) n).codePos = (slotOf s n).codePos := by
  obtain h | ⟨st, cause, hr, hw, -, h⟩ := boundary_cases n s
  · rw [h]
  · rw [h, slotOf_stopSlot hr hw]

theorem boundary_mem (n : Nat) (s : State) : (boundary n s).mem = s.mem := by
  obtain h | ⟨st, cause, -, -, -, h⟩ := boundary_cases n s
  · rw [h]
  · rw [h, stopSlot_mem]

/-- A boundary that has nothing to stop for. -/
theorem boundary_goes {n : Nat} {s : State} (hf : (slotOf s n).ctx.finished = false)
    (hl : (slotOf s n).ctx.slot / 8 ≤ (slotOf s n).codeLen - (slotOf s n).codePos) (hc : (slotOf s n).cancel = false)
    (hs : (slotOf s n).suspend = false) : boundary n s = s := by
  unfold boundary
  dsimp only
  rw [if_neg (by rw [hf]; decide), if_neg (Nat.not_lt.mpr hl), if_neg (by rw [hc]; decide), if_neg (by rw [hs]; decide)]

/-- The slot as a start leaves it before its first boundary. -/
def startedSlot (v : Slot) (s : State) : Slot :=
  { v with state := if s.lake.current.isNone then .running else .waiting, cause := 0, suspend := false, cancel := false }

/-- The state in which a start meets its first boundary. -/
def slotStarted (n : Nat) (v : Slot) (s : State) : State :=
  if s.lake.current.isNone then
    { setSlot n (startedSlot v s) s with
      lake := { (setSlot n (startedSlot v s) s).lake with current := some n, quantum := oget s Ob.LAKE_QUANTUM } }
  else setSlot n (startedSlot v s) s

theorem startSlot_eq (n : Nat) (v : Slot) (s : State) : startSlot n v s = boundary n (slotStarted n v s) := rfl

theorem slotOf_slotStarted (n : Nat) (v : Slot) (s : State) : slotOf (slotStarted n v s) n = startedSlot v s := by
  unfold slotStarted
  split
  · exact (slotOf_congr rfl n).trans (slotOf_setSlot n _ s)
  · exact slotOf_setSlot ..

theorem slotStarted_mem (n : Nat) (v : Slot) (s : State) : (slotStarted n v s).mem = s.mem := by
  unfold slotStarted
  split <;> rfl

theorem startSlot_mem (n : Nat) (v : Slot) (s : State) : (startSlot n v s).mem = s.mem :=
  (boundary_mem ..).trans (slotStarted_mem ..)

/-- A start with a block left and room for its code runs, or waits for its turn. -/
theorem slotOf_startSlot {n : Nat} {v : Slot} {s : State} (hf : v.ctx.finished = false)
    (hl : v.ctx.slot / 8 ≤ v.codeLen - v.codePos) : slotOf (startSlot n v s) n = startedSlot v s := by
  have hslot := slotOf_slotStarted n v s
  rw [startSlot_eq, boundary_goes (by rw [hslot]; exact hf) (by rw [hslot]; exact hl) (by rw [hslot]; rfl) (by rw [hslot]; rfl),
    hslot]

theorem startSlot_codePos (n : Nat) (v : Slot) (s : State) : (slotOf (startSlot n v s) n).codePos = v.codePos := by
  rw [startSlot_eq, boundary_codePos, slotOf_slotStarted]
  rfl

/-- A start leaves the state in which its job escaped. -/
theorem startSlot_not_escape (n : Nat) (v : Slot) (s : State) : (slotOf (startSlot n v s) n).state ≠ .escape := by
  have hslot := slotOf_slotStarted n v s
  rw [startSlot_eq]
  obtain h | ⟨st, cause, hr, hw, he, h⟩ := boundary_cases n (slotStarted n v s)
  · rw [h, hslot]
    unfold startedSlot
    dsimp only
    split <;> decide
  · rw [h, slotOf_stopSlot hr hw]
    exact he

end Sys2Proof.Machine
end

section
/-! PROOF. The blocks and the turns of the lake coder. -/

namespace Sys2Proof.Machine
open Sys2Proof

/-! ## A block of an encoder -/

section
variable {n : Nat} {s : State}

/-- The code of a slot's raster block. -/
def blockCode (n : Nat) (s : State) : Option (Nat × List (List Nat)) :=
  encodeBlock (elemFmt (slotOf s n).ctx.elem) (slotOf s n).ctx.slot (decide ((slotOf s n).ctx.mode = 0))
    (slotOf s n).ctx.qmax (slotOf s n).ctx.hist (rastBlock s (slotOf s n))

/-- The place of the coded buffer at which a slot stands. -/
def codeAt (n : Nat) (s : State) : Nat := (slotOf s n).codeAddr + (slotOf s n).codePos

/-- The bytes of one code of a slot. -/
def codeBytes (n : Nat) (s : State) : Nat := (slotOf s n).ctx.slot / 8

/-- A coded block is written where the job stands, and the job goes on by one slot of code. -/
theorem encodeStep_code {bits : Nat} {rec_ : List (List Nat)}
    (hread : rastBad s (slotOf s n) ++ edgePoison s (codeAt n s) (codeBytes n s) = []) (hcode : blockCode n s = some (bits, rec_)) :
    (encodeStep n s).mem = (memRun (codeAt n s) (toBE (codeBytes n s) bits) s).mem ∧
      (slotOf (encodeStep n s) n).codePos = (slotOf s n).codePos + codeBytes n s := by
  unfold blockCode at hcode
  unfold codeAt codeBytes at hread ⊢
  unfold encodeStep
  dsimp only
  rw [hread, if_neg (by decide), hcode]
  exact ⟨boundary_mem .., by rw [boundary_codePos, slotOf_setSlot]⟩

/-- A block that has no code is written as an escape, and the job stops with NOFIT. -/
theorem encodeStep_noFit
    (hread : rastBad s (slotOf s n) ++ edgePoison s (codeAt n s) (codeBytes n s) = []) (hcode : blockCode n s = none) :
    (slotOf (encodeStep n s) n).state = .noFit ∧
      (encodeStep n s).mem = (memRun (codeAt n s) (toBE (codeBytes n s) (escapeBlock (slotOf s n).ctx.slot)) s).mem ∧
      (slotOf (encodeStep n s) n).codePos = (slotOf s n).codePos + codeBytes n s := by
  unfold blockCode at hcode
  unfold codeAt codeBytes at hread ⊢
  unfold encodeStep
  dsimp only
  rw [hread, if_neg (by decide), hcode]
  dsimp only
  rw [slotOf_stopSlot (by decide) (by decide), slotOf_setSlot]
  exact ⟨rfl, stopSlot_mem .., rfl⟩

/-- Data that cannot be read stops the encoder. -/
theorem encodeStep_fault (hbad : rastBad s (slotOf s n) ≠ []) :
    (slotOf (encodeStep n s) n).state = .fault ∧ (encodeStep n s).mem = s.mem := by
  unfold encodeStep
  dsimp only
  rw [if_pos (by simp [hbad])]
  exact ⟨by rw [slotOf_faultSlot], faultSlot_mem ..⟩

end

/-! ## A block of a decoder -/

section
variable {n : Nat} {s : State}

/-- The block that a slot's code spells. -/
def codeBlock (n : Nat) (s : State) :=
  decodeBlock (elemFmt (slotOf s n).ctx.elem) (slotOf s n).ctx.slot (decide ((slotOf s n).ctx.mode = 0)) false
    (slotOf s n).ctx.hist (memBE s (codeAt n s) (codeBytes n s))

/-- The poison among a slot's next code. -/
def codePoison (n : Nat) (s : State) : List Nat := poisonIn s (codeAt n s) (codeAt n s + codeBytes n s)

theorem decodedBlock_slot (blk : List (List Nat)) : (decodedBlock n blk s).mem = (putBlock (slotOf s n) blk s).mem ∧
    (slotOf (decodedBlock n blk s) n).codePos = (slotOf s n).codePos + codeBytes n s := by
  unfold decodedBlock
  dsimp only
  exact ⟨rfl, by rw [slotOf_setSlot]; rfl⟩

/-- A decoded block is written into the raster, and the job goes on by one slot of code. -/
theorem decodeStep_block {blk : List (List Nat)} (hread : codePoison n s = []) (hcode : codeBlock n s = .block blk)
    (hopen : rastShut s (slotOf s n) = []) : (decodeStep n s).mem = (putBlock (slotOf s n) blk s).mem ∧
      (slotOf (decodeStep n s) n).codePos = (slotOf s n).codePos + codeBytes n s := by
  unfold codePoison codeAt codeBytes at hread
  unfold codeBlock codeAt codeBytes at hcode
  unfold decodeStep
  dsimp only
  rw [hread, if_neg (by decide), hcode]
  dsimp only
  rw [hopen, if_pos (by decide), boundary_mem, boundary_codePos]
  exact decodedBlock_slot blk

/-- A decoder stops at an escape, where it stands. -/
theorem decodeStep_escape (hread : codePoison n s = []) (hcode : codeBlock n s = .escape) :
    (slotOf (decodeStep n s) n).state = .escape ∧ (slotOf (decodeStep n s) n).codePos = (slotOf s n).codePos ∧
      (decodeStep n s).mem = s.mem := by
  unfold codePoison codeAt codeBytes at hread
  unfold codeBlock codeAt codeBytes at hcode
  unfold decodeStep
  dsimp only
  rw [hread, if_neg (by decide), hcode]
  dsimp only
  rw [slotOf_stopSlot (by decide) (by decide), slotOf_setSlot]
  exact ⟨rfl, rfl, stopSlot_mem ..⟩

/-- A code that is no block stops the decoder with its cause. -/
theorem decodeStep_fail {k : Nat} (hread : codePoison n s = []) (hcode : codeBlock n s = .fail k) :
    (slotOf (decodeStep n s) n).state = .decodeErr ∧ (slotOf (decodeStep n s) n).cause = k ∧
      (decodeStep n s).mem = s.mem := by
  unfold codePoison codeAt codeBytes at hread
  unfold codeBlock codeAt codeBytes at hcode
  unfold decodeStep
  dsimp only
  rw [hread, if_neg (by decide), hcode]
  dsimp only
  rw [slotOf_stopSlot (by decide) (by decide)]
  exact ⟨rfl, rfl, stopSlot_mem ..⟩

end

/-! ## The commands -/

section
variable {t n : Nat} {s : State}

/-- The state in which a block of the turn is worked on. -/
def blockBegun (t : Nat) (s : State) : State :=
  { s.at t with lake := { s.lake with quantum := s.lake.quantum - 1 } }

/-- A block of the slot that has the turn is one step of its coder. -/
theorem exec_lakeBlockDone (hruns : lakeRuns s = true) (hcur : s.lake.current = some n) (hq : s.lake.quantum ≠ 0)
    (hst : (slotOf s n).state = .running) : exec (.lakeBlockDone t) s = .next
      (if (slotOf s n).ctx.dir = 0 then encodeStep n (blockBegun t s) else decodeStep n (blockBegun t s)) := by
  change Host.Outcome.next (match s.lake.current with | some n => _ | none => _) = _
  rw [hcur]
  refine congrArg Host.Outcome.next ((if_neg ?_).trans (if_neg hq))
  rintro (h | h)
  · rw [show lakeRuns (s.at t) = true from hruns] at h
    exact absurd h (by decide)
  · exact h hst

theorem exec_lakeBlockDone_encode (hruns : lakeRuns s = true) (hcur : s.lake.current = some n) (hq : s.lake.quantum ≠ 0)
    (hst : (slotOf s n).state = .running) (hdir : (slotOf s n).ctx.dir = 0) :
    exec (.lakeBlockDone t) s = .next (encodeStep n (blockBegun t s)) := by
  rw [exec_lakeBlockDone hruns hcur hq hst, if_pos hdir]

theorem exec_lakeBlockDone_decode (hruns : lakeRuns s = true) (hcur : s.lake.current = some n) (hq : s.lake.quantum ≠ 0)
    (hst : (slotOf s n).state = .running) (hdir : (slotOf s n).ctx.dir ≠ 0) :
    exec (.lakeBlockDone t) s = .next (decodeStep n (blockBegun t s)) := by
  rw [exec_lakeBlockDone hruns hcur hq hst, if_neg hdir]

/-- With the turn over, a block waits. -/
theorem exec_lakeBlockDone_over (hcur : s.lake.current = some n) (hq : s.lake.quantum = 0) :
    exec (.lakeBlockDone t) s = .next (s.at t) := by
  change Host.Outcome.next (match s.lake.current with | some n => _ | none => _) = _
  rw [hcur]
  refine congrArg Host.Outcome.next ?_
  dsimp only
  split
  · rfl
  · exact if_pos hq

theorem exec_lakeQuantumExpiry (hruns : lakeRuns s = true) (hcur : s.lake.current = some n) (hq : s.lake.quantum = 0) :
    exec (.lakeQuantumExpiry t) s = .next (switchTo (some n) (nextSlot s n) (s.at t)) := by
  change Host.Outcome.next (match s.lake.current with | some n => _ | none => _) = _
  rw [hcur]
  exact congrArg Host.Outcome.next (if_pos ⟨hruns, hq⟩)

theorem exec_lakeQuantumExpiry_early (hcur : s.lake.current = some n) (hq : s.lake.quantum ≠ 0) :
    exec (.lakeQuantumExpiry t) s = .next (s.at t) := by
  change Host.Outcome.next (match s.lake.current with | some n => _ | none => _) = _
  rw [hcur]
  exact congrArg Host.Outcome.next (if_neg fun h => hq h.2)

/-- A switch gives the turn to the slot named; the one that had it waits. -/
theorem switchTo_turn (n m : Nat) (s : State) : (switchTo (some n) (some m) s).lake.current = some m ∧
    (slotOf (switchTo (some n) (some m) s) m).state = .running ∧
    (switchTo (some n) (some m) s).lake.quantum = oget s Ob.LAKE_QUANTUM ∧ (switchTo (some n) (some m) s).mem = s.mem ∧
    (n ≠ m → (slotOf s n).state = .running → (slotOf (switchTo (some n) (some m) s) n).state = .waiting) := by
  obtain ⟨hcur, hq, hst⟩ := turnGiven_lake m s
  have hmem : (switchTo (some n) (some m) s).mem = s.mem := (frameOf (kept_switchTo (some n) (some m)) s).mem (by decide)
  rw [switchTo_some] at hmem ⊢
  split
  next h => exact ⟨hcur, hst, hq, rfl, fun hne => absurd h hne⟩
  next h =>
    rw [if_neg h] at hmem
    obtain ⟨hcur', hq', hother, hwaits, -⟩ := turnTaken_lake n (turnGiven m s)
    refine ⟨hcur'.trans hcur, ?_, hq'.trans hq, hmem, fun _ hr => hwaits ?_⟩
    · rw [hother m (Ne.symm h)]
      exact hst
    · rw [slotOf_turnGiven_ne h]
      exact hr

end

/-- Settles O21: a block is one step of the slot's encoder or decoder on the state with the block taken off the turn, and
a boundary or a stop keeps the place that the step reached; a turn that is over goes to the next slot. -/
theorem lakeEngineRunsBlocks : Obligations.LakeEngineRunsBlocks := by
  unfold Obligations.LakeEngineRunsBlocks
  intro t n s hruns hcur
  refine ⟨fun hq hst => ⟨fun hdir hbad hedge => ⟨fun bits rec_ hcode => ?_, fun hcode => ?_⟩, fun hdir hbad => ?_,
    fun r hdir hread hcode => ⟨fun blk hr hopen => ?_, fun hr => ?_, fun k hr => ?_⟩⟩,
    fun hq => ⟨exec_lakeBlockDone_over hcur hq, fun m hm => ?_⟩, exec_lakeQuantumExpiry_early hcur⟩
  · exact ⟨_, exec_lakeBlockDone_encode hruns hcur hq hst hdir,
      encodeStep_code (s := blockBegun t s) (List.append_eq_nil_iff.mpr ⟨hbad, hedge⟩) hcode⟩
  · exact ⟨_, exec_lakeBlockDone_encode hruns hcur hq hst hdir,
      encodeStep_noFit (s := blockBegun t s) (List.append_eq_nil_iff.mpr ⟨hbad, hedge⟩) hcode⟩
  · exact ⟨_, exec_lakeBlockDone_encode hruns hcur hq hst hdir, encodeStep_fault (s := blockBegun t s) hbad⟩
  · exact ⟨_, exec_lakeBlockDone_decode hruns hcur hq hst hdir,
      decodeStep_block (s := blockBegun t s) hread (hcode.trans hr) hopen⟩
  · exact ⟨_, exec_lakeBlockDone_decode hruns hcur hq hst hdir,
      decodeStep_escape (s := blockBegun t s) hread (hcode.trans hr)⟩
  · exact ⟨_, exec_lakeBlockDone_decode hruns hcur hq hst hdir,
      decodeStep_fail (s := blockBegun t s) hread (hcode.trans hr)⟩
  · exact ⟨_, exec_lakeQuantumExpiry hruns hcur hq, by rw [hm]; exact switchTo_turn n m (s.at t)⟩

end Sys2Proof.Machine
end

section
/-! PROOF. The commands of the lake coder's fourth slot, and its context. -/

namespace Sys2Proof.Machine
open Sys2Proof

/-! ## The rule of LAKE_JOB_CMD -/

section
variable {s : State}

theorem ownLakeCmd_start (hbank : lakeHasBank s = true) (hok : jobOk s = true)
    (hst : [JobState.idle, .done, .cancelled, .decodeErr, .fault].contains (slotOf s 3).state = true) :
    (ownLakeCmd 1 s).1 = startSlot 3 (.mk (slotOf s 3).state 0 (jobCtx s) (oget s Ob.LAKE_JOB_RASTADDR)
      (oget s Ob.LAKE_JOB_STRIDE) (oget s Ob.LAKE_JOB_CODEADDR) (oget s Ob.LAKE_JOB_CODELEN) 0 false false) s := by
  unfold ownLakeCmd
  dsimp only
  rw [if_pos rfl, if_pos (by simpa [hbank, hok] using hst)]

theorem ownLakeCmd_start_no (h : lakeHasBank s = false ∨ jobOk s = false) : (ownLakeCmd 1 s).1 = s := by
  unfold ownLakeCmd
  dsimp only
  rw [if_pos rfl, if_neg]
  rintro hgo
  simp only [Bool.and_eq_true] at hgo
  obtain ⟨⟨-, hok⟩, hbank⟩ := hgo
  obtain h | h := h
  · exact absurd (h.symm.trans hbank) (by decide)
  · exact absurd (h.symm.trans hok) (by decide)

theorem ownLakeCmd_resume (hbank : lakeHasBank s = true)
    (hst : [JobState.outFull, .inEmpty, .noFit, .suspended].contains (slotOf s 3).state = true)
    (hstride : strideOk (slotOf s 3).ctx.elem (8 * ((slotOf s 3).ctx.wblk + 1)) (slotOf s 3).stride = true)
    (hplace : jobPlaced (slotOf s 3).ctx.dir (slotOf s 3).rastAddr (rastExtent (slotOf s 3).ctx.elem
      (8 * ((slotOf s 3).ctx.wblk + 1)) (4 * ((slotOf s 3).ctx.hblk + 1)) (slotOf s 3).stride)
      (oget s Ob.LAKE_JOB_CODEADDR) (oget s Ob.LAKE_JOB_CODELEN) = true) :
    (ownLakeCmd 2 s).1 = startSlot 3 { slotOf s 3 with
      codeAddr := oget s Ob.LAKE_JOB_CODEADDR, codeLen := oget s Ob.LAKE_JOB_CODELEN, codePos := 0 } s := by
  unfold ownLakeCmd
  dsimp only
  rw [if_neg (by decide), if_pos rfl, if_pos (by simpa [hbank, hstride, hplace] using hst)]

/-- The poison that stands between a raw block and the raster. -/
def rawPoison (s : State) : List Nat :=
  poisonIn s (oget s Ob.LAKE_JOB_RAWADDR) (oget s Ob.LAKE_JOB_RAWADDR + 32 * (elemFmt (slotOf s 3).ctx.elem).bytes) ++
    rastShut s (slotOf s 3)

/-- A raw block is passed where the job escaped, unless poison stands in its way. -/
theorem ownLakeCmd_rawblk (hbank : lakeHasBank s = true) (hst : (slotOf s 3).state = .escape)
    (htop : oget s Ob.LAKE_JOB_RAWADDR + 32 * (elemFmt (slotOf s 3).ctx.elem).bytes ≤ dramTop) :
    (rawPoison s = [] → ∃ blk, (ownLakeCmd 3 s).1 = startSlot 3 (slotOf (decodedBlock 3 blk s) 3) (decodedBlock 3 blk s)) ∧
    (rawPoison s ≠ [] → (ownLakeCmd 3 s).1 = faultSlot 3 (rawPoison s) s) := by
  unfold rawPoison ownLakeCmd
  dsimp only
  rw [if_neg (by decide), if_neg (by decide), if_pos rfl, if_neg (by simp [hst, hbank]), if_neg (Nat.not_lt.mpr htop)]
  refine ⟨fun h => ?_, fun h => ?_⟩
  · rw [h, if_neg (by decide)]
    exact ⟨_, rfl⟩
  · rw [if_pos (by simpa using h)]

theorem ownLakeCmd_suspend : ((slotOf s 3).state = .running →
      (ownLakeCmd 4 s).1 = setSlot 3 { slotOf s 3 with suspend := true } s) ∧
    ((slotOf s 3).state = .waiting → (ownLakeCmd 4 s).1 = stopSlot 3 .suspended 0 s) := by
  unfold ownLakeCmd
  dsimp only
  rw [if_neg (by decide), if_neg (by decide), if_neg (by decide), if_pos rfl]
  refine ⟨fun h => by rw [if_pos h], fun h => by rw [if_neg (by simp [h]), if_pos h]⟩

theorem ownLakeCmd_cancel : ((slotOf s 3).state = .running →
      (ownLakeCmd 5 s).1 = setSlot 3 { slotOf s 3 with cancel := true } s) ∧
    ((slotOf s 3).state ≠ .running → (slotOf s 3).state ≠ .idle → (ownLakeCmd 5 s).1 = stopSlot 3 .cancelled 0 s) := by
  unfold ownLakeCmd
  dsimp only
  rw [if_neg (by decide), if_neg (by decide), if_neg (by decide), if_neg (by decide), if_pos rfl]
  refine ⟨fun h => by rw [if_pos h], fun hr hi => by rw [if_neg hr, if_neg hi]⟩

end

/-! ## What the coder reads of the counted state -/

section
variable (t : Nat) (h : Hdr) (s : State)

theorem slotOf_counted (n : Nat) : slotOf (counted (s.at t) h) n = slotOf s n :=
  slotOf_congr (congrArg Lake.slots (counted_lake h (s.at t))) n

theorem lakeHasBank_counted : lakeHasBank (counted (s.at t) h) = lakeHasBank s := by
  unfold lakeHasBank bankOf
  rw [counted_bnk]
  rfl

theorem jobOk_counted : jobOk (counted (s.at t) h) = jobOk s := by
  unfold jobOk
  dsimp only
  simp only [oget_counted_at h t s (k := Ob.LAKE_JOB_ELEM) (by decide) (by decide),
    oget_counted_at h t s (k := Ob.LAKE_JOB_W) (by decide) (by decide),
    oget_counted_at h t s (k := Ob.LAKE_JOB_H) (by decide) (by decide),
    oget_counted_at h t s (k := Ob.LAKE_JOB_STRIDE) (by decide) (by decide),
    oget_counted_at h t s (k := Ob.LAKE_JOB_FLIP) (by decide) (by decide),
    oget_counted_at h t s (k := Ob.LAKE_JOB_DIR) (by decide) (by decide),
    oget_counted_at h t s (k := Ob.LAKE_JOB_RASTADDR) (by decide) (by decide),
    oget_counted_at h t s (k := Ob.LAKE_JOB_CODEADDR) (by decide) (by decide),
    oget_counted_at h t s (k := Ob.LAKE_JOB_CODELEN) (by decide) (by decide)]

theorem jobCtx_counted : jobCtx (counted (s.at t) h) = jobCtx s := by
  unfold jobCtx
  simp only [oget_counted_at h t s (k := Ob.LAKE_JOB_ELEM) (by decide) (by decide),
    oget_counted_at h t s (k := Ob.LAKE_JOB_RATIO) (by decide) (by decide),
    oget_counted_at h t s (k := Ob.LAKE_JOB_MODE) (by decide) (by decide),
    oget_counted_at h t s (k := Ob.LAKE_JOB_QMAX) (by decide) (by decide),
    oget_counted_at h t s (k := Ob.LAKE_JOB_FLIP) (by decide) (by decide),
    oget_counted_at h t s (k := Ob.LAKE_JOB_DIR) (by decide) (by decide),
    oget_counted_at h t s (k := Ob.LAKE_JOB_W) (by decide) (by decide),
    oget_counted_at h t s (k := Ob.LAKE_JOB_H) (by decide) (by decide)]

theorem rawPoison_counted : rawPoison (counted (s.at t) h) =
    poisonIn s (oget s Ob.LAKE_JOB_RAWADDR) (oget s Ob.LAKE_JOB_RAWADDR + 32 * (elemFmt (slotOf s 3).ctx.elem).bytes) ++
      rastShut s (slotOf s 3) := by
  unfold rawPoison poisonIn rastShut edgePoison poisoned
  rw [slotOf_counted, oget_counted_at h t s (by decide) (by decide), counted_poison]
  rfl

end

/-! ## The writes -/

/-- A write of LAKE_JOB_CMD that is accepted does its command on the counted state. -/
theorem writeLakeCmd_taken {v t : Nat} {h : Hdr} {s : State} (ht : writeTaken (s.at t) h Ob.LAKE_JOB_CMD v = true) :
    (writeRow h Ob.LAKE_JOB_CMD v ownLakeCmd (s.at t)).lake = (ownLakeCmd v (counted (s.at t) h)).1.lake ∧
    (writeRow h Ob.LAKE_JOB_CMD v ownLakeCmd (s.at t)).mem = (ownLakeCmd v (counted (s.at t) h)).1.mem := by
  rw [writeRow_of_taken ht, answerTaken_lake, answerTaken_mem]
  exact ⟨rfl, rfl⟩

section
variable {v t : Nat} {h : Hdr} {s s1 : State} (ht : writeTaken (s.at t) h Ob.LAKE_JOB_CMD v = true)
include ht

/-- The slot and the memory behind a write whose command leads to `s1`. -/
theorem slotOf_writeLakeCmd (hown : (ownLakeCmd v (counted (s.at t) h)).1 = s1) :
    slotOf (writeRow h Ob.LAKE_JOB_CMD v ownLakeCmd (s.at t)) 3 = slotOf s1 3 ∧
    (writeRow h Ob.LAKE_JOB_CMD v ownLakeCmd (s.at t)).mem = s1.mem := by
  obtain ⟨hlake, hmem⟩ := writeLakeCmd_taken ht
  rw [hown] at hlake hmem
  exact ⟨slotOf_congr (congrArg Lake.slots hlake) 3, hmem⟩

/-- A command that starts the slot at `u`, with a block left and room for its code. -/
theorem writeLakeCmd_starts {u : Slot} (hown : (ownLakeCmd v (counted (s.at t) h)).1 = startSlot 3 u (counted (s.at t) h))
    (hf : u.ctx.finished = false) (hl : u.ctx.slot / 8 ≤ u.codeLen - u.codePos) :
    slotOf (writeRow h Ob.LAKE_JOB_CMD v ownLakeCmd (s.at t)) 3 = startedSlot u s ∧
    (writeRow h Ob.LAKE_JOB_CMD v ownLakeCmd (s.at t)).mem = s.mem := by
  obtain ⟨hslot, hmem⟩ := slotOf_writeLakeCmd ht hown
  rw [slotOf_startSlot hf hl] at hslot
  rw [startSlot_mem, counted_mem] at hmem
  refine ⟨hslot.trans ?_, hmem⟩
  unfold startedSlot
  rw [counted_lake]
  rfl

/-- A command that sets the slot to `u`. -/
theorem writeLakeCmd_sets {u : Slot} (hown : (ownLakeCmd v (counted (s.at t) h)).1 = setSlot 3 u (counted (s.at t) h)) :
    slotOf (writeRow h Ob.LAKE_JOB_CMD v ownLakeCmd (s.at t)) 3 = u ∧
    (writeRow h Ob.LAKE_JOB_CMD v ownLakeCmd (s.at t)).mem = s.mem := by
  obtain ⟨hslot, hmem⟩ := slotOf_writeLakeCmd ht hown
  exact ⟨hslot.trans (slotOf_setSlot ..), hmem.trans (counted_mem h (s.at t))⟩

/-- A command that stops the slot in a state that neither runs nor waits. -/
theorem writeLakeCmd_stops {st : JobState} (hr : st ≠ .running) (hw : st ≠ .waiting)
    (hown : (ownLakeCmd v (counted (s.at t) h)).1 = stopSlot 3 st 0 (counted (s.at t) h)) :
    (slotOf (writeRow h Ob.LAKE_JOB_CMD v ownLakeCmd (s.at t)) 3).state = st ∧
    (slotOf (writeRow h Ob.LAKE_JOB_CMD v ownLakeCmd (s.at t)) 3).ctx = (slotOf s 3).ctx ∧
    (writeRow h Ob.LAKE_JOB_CMD v ownLakeCmd (s.at t)).mem = s.mem := by
  obtain ⟨hslot, hmem⟩ := slotOf_writeLakeCmd ht hown
  rw [slotOf_stopSlot hr hw, slotOf_counted] at hslot
  rw [hslot]
  exact ⟨rfl, rfl, hmem.trans ((stopSlot_mem ..).trans (counted_mem h (s.at t)))⟩

end

/-! ## The context -/

theorem loadCtx_ok {n : Nat} {s : State} (hok : ctxOk n = true)
    (hst : [JobState.idle, .done, .cancelled, .decodeErr, .fault].contains (slotOf s 3).state = true) :
    (slotOf (loadCtx n s).1 3).state = .suspended ∧ (slotOf (loadCtx n s).1 3).ctx = LakeCtx.ofBits n ∧
      (loadCtx n s).1.mem = s.mem := by
  unfold loadCtx
  dsimp only
  rw [if_pos (by simpa [hok] using hst), slotOf_setSlot]
  exact ⟨rfl, rfl, rfl⟩

theorem loadCtx_bad {n : Nat} {s : State} (hbad : ctxOk n = false) : (loadCtx n s).1 = s := by
  unfold loadCtx
  dsimp only
  rw [if_neg (by simp [hbad])]

/-- A context that is taken at its level is loaded on the counted state. -/
theorem lakeCtxWrite_loads {t : Nat} {h : Hdr} {s : State} {ctx : BitVec 512} (ht : taken (s.at t) h 4 = true)
    (hlev : 2 ≤ (portOf s h.port).level) : ∃ s', exec (.lakeCtxWrite t h ctx) s = .next s' ∧
      s'.lake = (loadCtx ctx.toNat (counted (s.at t) h)).1.lake ∧ s'.mem = (loadCtx ctx.toNat (counted (s.at t) h)).1.mem := by
  have hlevel : ¬(portOf (counted (s.at t) h) h.port).level < 2 := by
    rw [portOf_counted]
    exact Nat.not_lt.mpr hlev
  refine ⟨_, rfl, ?_⟩
  rw [request_taken _ _ _ _ _ _ _ (by rw [toBE_length]; exact ht), answerTaken_lake, answerTaken_mem, if_neg hlevel]
  exact ⟨rfl, rfl⟩

/-- Settles O20: each command is its case of `ownLakeCmd` on the counted state, whose slots, bank and descriptor are those
of the state before, and a start, a stop and a set leave of slot 3 what they say. -/
theorem lakeJobsFollowTheirCommands : Obligations.LakeJobsFollowTheirCommands := by
  unfold Obligations.LakeJobsFollowTheirCommands
  intro t h s
  have hslot : slotOf (counted (s.at t) h) 3 = slotOf s 3 := slotOf_counted t h s 3
  have hbnk := lakeHasBank_counted t h s
  have hobj (k : Nat) (hc : notCounter k = true) (hk : k ≠ Ob.WNP_EVTPEND) := oget_counted_at h t s hc hk
  refine ⟨fun ht => ⟨fun hbank hst hok hfin hlen => ?_, fun hno => ?_⟩, fun ht hbank hst hstride hplace hfin hlen => ?_,
    fun ht hbank hst htop => ?_, fun ht => ⟨fun hst => ?_, fun hst => ?_⟩, fun ht => ⟨fun hst => ?_, fun hr hi => ?_⟩,
    fun ctx ht hlev hst => ⟨fun hok => ?_, fun hbad => ?_⟩⟩
  · have hown := ownLakeCmd_start (hbnk.trans hbank) ((jobOk_counted t h s).trans hok) (by rw [hslot]; exact hst)
    rw [jobCtx_counted, hobj Ob.LAKE_JOB_CODEADDR (by decide) (by decide),
      hobj Ob.LAKE_JOB_CODELEN (by decide) (by decide)] at hown
    obtain ⟨hs, hm⟩ := writeLakeCmd_starts ht hown hfin hlen
    exact ⟨_, rfl, by rw [hs]; rfl, by rw [hs]; rfl, by rw [hs]; rfl, hm, by rw [hs]; rfl⟩
  · obtain ⟨hl, hm⟩ := writeLakeCmd_taken ht
    rw [ownLakeCmd_start_no (by rw [hbnk, jobOk_counted]; exact hno)] at hl hm
    exact ⟨_, rfl, hl.trans (counted_lake h (s.at t)), hm.trans (counted_mem h (s.at t))⟩
  · have hown := ownLakeCmd_resume (hbnk.trans hbank) (by rw [hslot]; exact hst) (by rw [hslot]; exact hstride)
      (by rw [hslot, hobj _ (by decide) (by decide), hobj _ (by decide) (by decide)]; exact hplace)
    rw [hslot, hobj Ob.LAKE_JOB_CODEADDR (by decide) (by decide), hobj Ob.LAKE_JOB_CODELEN (by decide) (by decide)] at hown
    obtain ⟨hs, hm⟩ := writeLakeCmd_starts ht hown hfin hlen
    exact ⟨_, rfl, by rw [hs]; rfl, by rw [hs]; rfl, by rw [hs]; rfl, hm, by rw [hs]; rfl⟩
  · obtain ⟨hpass, hfault⟩ := ownLakeCmd_rawblk (hbnk.trans hbank) (by rw [hslot]; exact hst)
      (by rw [hslot, hobj _ (by decide) (by decide)]; exact htop)
    rw [rawPoison_counted] at hpass hfault
    refine ⟨fun hclean => ?_, fun hbad => ?_⟩
    · obtain ⟨blk, hown⟩ := hpass hclean
      obtain ⟨hs, -⟩ := slotOf_writeLakeCmd ht hown
      refine ⟨_, rfl, by rw [hs]; exact startSlot_not_escape _ _ _, ?_⟩
      rw [hs, startSlot_codePos, (decodedBlock_slot blk).2, codeBytes, hslot]
    · obtain ⟨hs, hm⟩ := slotOf_writeLakeCmd ht (hfault hbad)
      rw [slotOf_faultSlot, hslot] at hs
      exact ⟨_, rfl, by rw [hs], by rw [hs], hm.trans ((faultSlot_mem ..).trans (counted_mem h (s.at t)))⟩
  · have hown := ownLakeCmd_suspend.1 (by rw [hslot]; exact hst)
    rw [hslot] at hown
    exact ⟨_, rfl, writeLakeCmd_sets ht hown⟩
  · exact ⟨_, rfl, writeLakeCmd_stops ht (by decide) (by decide) (ownLakeCmd_suspend.2 (by rw [hslot]; exact hst))⟩
  · have hown := ownLakeCmd_cancel.1 (by rw [hslot]; exact hst)
    rw [hslot] at hown
    exact ⟨_, rfl, writeLakeCmd_sets ht hown⟩
  · exact ⟨_, rfl, writeLakeCmd_stops ht (by decide) (by decide)
      (ownLakeCmd_cancel.2 (by rw [hslot]; exact hr) (by rw [hslot]; exact hi))⟩
  · obtain ⟨s', hx, hl, hm⟩ := lakeCtxWrite_loads (ctx := ctx) ht hlev
    obtain ⟨h1, h2, h3⟩ := loadCtx_ok (s := counted (s.at t) h) hok (by rw [hslot]; exact hst)
    have hs := slotOf_congr (congrArg Lake.slots hl) 3
    exact ⟨s', hx, by rw [hs]; exact h1, by rw [hs]; exact h2, (hm.trans h3).trans (counted_mem h (s.at t))⟩
  · obtain ⟨s', hx, hl, hm⟩ := lakeCtxWrite_loads (ctx := ctx) ht hlev
    rw [loadCtx_bad hbad] at hl hm
    exact ⟨s', hx, hl.trans (counted_lake h (s.at t)), hm.trans (counted_mem h (s.at t))⟩

end Sys2Proof.Machine
end

section
/-! PROOF. Source frames, the commit engine and the back queue. -/

namespace Sys2Proof.Machine
open Sys2Proof

/-! ## Source frames -/

theorem sourceTick_frame (s : State) : s.sameBut [.obj, .gyl] (sourceTick s) :=
  (kept_sourceTick (fun _ => id) (Kept.start [.obj, .gyl] s)).rest

/-- A newer source frame as it is kept. -/
def frameTaken (f : Nat) (s : State) : State :=
  { s with trx := { s.trx with history := ((f, s.now / 1000 * 1000) :: s.trx.history).take 256,
                               lastSrcf := f, gapFrom := s.now, gapDone := false } }

section
variable {t : Nat} {hdr : BitVec 128} {s : State}

/-- A source frame that is newer, or the first one, is taken. -/
theorem exec_srcframe_newer (hup : linkUp s = true)
    (h : s.trx.history = [] ∨ newer (field hdr.toNat 32 32) s.trx.lastSrcf = true) : exec (.srcframe t hdr) s = .next
      (sourceTick (evc 0x37 (frameTaken (field hdr.toNat 32 32) (acceptPkt (s.at t))))) := by
  have hup' : ¬(!linkUp (s.at t)) = true := by
    rw [show linkUp (s.at t) = true from hup]
    decide
  refine congrArg Host.Outcome.next ((if_neg hup').trans (if_pos ?_))
  exact h.imp_left fun hn => List.isEmpty_iff.mpr hn

/-- A source frame that is not newer. -/
def frameRefused (f : Nat) (s : State) : State :=
  sm02Fails (backEvent 2 s.trx.lastSrcf f (evc 0x38 (cnt Ob.TRX_SRCF_REJECT s)))

/-- One that is not newer is counted, and is an SM02 failure. -/
theorem exec_srcframe_old (hup : linkUp s = true) (hne : s.trx.history ≠ [])
    (h : newer (field hdr.toNat 32 32) s.trx.lastSrcf = false) : exec (.srcframe t hdr) s = .next
      (frameRefused (field hdr.toNat 32 32) (acceptPkt (s.at t))) := by
  have hup' : ¬(!linkUp (s.at t)) = true := by
    rw [show linkUp (s.at t) = true from hup]
    decide
  refine congrArg Host.Outcome.next ((if_neg hup').trans (if_neg ?_))
  rintro (hn | hn)
  · exact hne (List.isEmpty_iff.mp hn)
  · exact absurd (hn.symm.trans h) (by decide)

theorem sm02Fails_frame (s : State) :
    s.sameBut [.obj, .pins, .evlog, .mgt, .safe, .gyl, .jrn] (sm02Fails s) :=
  (kept_sm02Fails (fun _ => id) (Kept.start _ s)).rest

theorem oget_selectRef {k : Nat} (hc : notCounter k = true) (hk : k ≠ Ob.GYL_REFCNT) (s : State) :
    oget (selectRef s) k = oget s k := by
  unfold selectRef
  extract_lets cur curOk best had
  split
  · rfl
  · split
    · rfl
    · rw [oget_evc _ _ _ hc, oget_cnt_ne _ hk]
      rfl

/-- An SM02 failure counts no object of the source frames. -/
theorem oget_sm02Fails {k : Nat} (hc : notCounter k = true) (hk : k ∉ Ob.GYL_REFCNT :: eventObjects) (s : State) :
    oget (sm02Fails s) k = oget s k := by
  obtain ⟨href, hev⟩ := not_or.mp (List.mem_cons.not.mp hk)
  have hsafe (a : State) : oget (safetyEvent 2 a) k = oget a k := by
    unfold safetyEvent
    rw [oget_tileReaction hc hev, oget_failure hc]
  unfold sm02Fails sourceLost
  exact (oget_selectRef hc href _).trans (hsafe s)

theorem safetyEvent_now (n : Nat) (s : State) : (safetyEvent n s).now = s.now := by
  unfold safetyEvent tileReaction
  dsimp only
  split <;> simp

/-- The reaction of SM02 begins now. -/
theorem sm02Fails_at (s : State) : (sm02Fails s).safe.sm02At = some s.now := by
  have hsel (a : State) : (selectRef a).safe = a.safe :=
    (frameOf kept_selectRef a).safe (by decide)
  unfold sm02Fails sourceLost
  rw [hsel]
  exact congrArg some (safetyEvent_now 2 s)

/-- The silence that is marked once, before its packet. -/
def silenceMarked (s : State) : State := sm02Fails { s with trx := { s.trx with gapDone := true } }

theorem exec_sourceSilent (hop : s.boot.op = .run) (hp : s.pwr.state = .p0) (hd : s.trx.gapDone = false)
    (hgap : s.trx.gapFrom + 50000000 ≤ max s.now t) : exec (.sourceSilent t) s = .next
      (if s.gyl.srcAt = 0 then
        tookFree (backEvent 3 s.trx.lastSrcf (freeOf (silenceMarked (s.at t)) % 2 ^ 32) (silenceMarked (s.at t)))
      else backEvent 3 s.trx.lastSrcf (silentMs (s.at t)) (silenceMarked (s.at t))) := by
  refine congrArg Host.Outcome.next (if_neg ?_)
  rintro (h | h | h | h)
  · exact h hop
  · exact h hp
  · exact absurd (h.symm.trans hd) (by decide)
  · exact absurd h (Nat.not_lt.mpr hgap)

theorem exec_sourceSilent_none (h : s.boot.op ≠ .run ∨ s.trx.gapDone = true) : exec (.sourceSilent t) s = .next (s.at t) :=
  congrArg Host.Outcome.next (if_pos (h.elim .inl fun hd => .inr (.inr (.inl hd))))

end

theorem backEvent_trx (code w1 w2 : Nat) (s : State) :
    ∃ b, (backEvent code w1 w2 s).trx = { s.trx with back := b } :=
  ⟨_, (evc_trx ..).trans rfl⟩

/-- The last source frame, its history and the mark of the gap. -/
structure SourceView where
  last : Nat
  history : List (Nat × Nat)
  marked : Bool

def sourceView (s : State) : SourceView := ⟨s.trx.lastSrcf, s.trx.history, s.trx.gapDone⟩

theorem sourceView_backEvent (code w1 w2 : Nat) (s : State) : sourceView (backEvent code w1 w2 s) = sourceView s := by
  obtain ⟨b, h⟩ := backEvent_trx code w1 w2 s
  unfold sourceView
  rw [h]

theorem sourceView_sm02Fails (s : State) : sourceView (sm02Fails s) = sourceView s := by
  unfold sourceView
  rw [(sm02Fails_frame s).trx (by decide)]

theorem sourceView_frameRefused (f : Nat) (s : State) : sourceView (frameRefused f s) = sourceView s := by
  unfold frameRefused
  rw [sourceView_sm02Fails, sourceView_backEvent]
  unfold sourceView
  rw [evc_trx, cnt_trx]

theorem frameRefused_spec (f : Nat) (s : State) : (frameRefused f s).trx.lastSrcf = s.trx.lastSrcf ∧
    (frameRefused f s).trx.history = s.trx.history ∧
    oget (frameRefused f s) Ob.TRX_SRCF_REJECT = satInc 0xFFFFFFFF (oget s Ob.TRX_SRCF_REJECT) := by
  have hv := sourceView_frameRefused f s
  simp only [sourceView, SourceView.mk.injEq] at hv
  obtain ⟨hlast, hhist, -⟩ := hv
  refine ⟨hlast, hhist, ?_⟩
  unfold frameRefused
  rw [oget_sm02Fails (by decide) (by decide), oget_backEvent (by decide), oget_evc _ _ _ (by decide), oget_cnt_same]

theorem backEvent_frame (code w1 w2 : Nat) (s : State) : s.sameBut [.obj, .trx] (backEvent code w1 w2 s) :=
  (kept_backEvent code w1 w2 (fun _ => id) (Kept.start [.obj, .trx] s)).rest

/-- What the silence of a source leaves: the mark, the last frame, and the time of SM02. -/
theorem silenceMarked_spec (s : State) : sourceView (silenceMarked s) = ⟨s.trx.lastSrcf, s.trx.history, true⟩ ∧
    (silenceMarked s).safe.sm02At = some s.now ∧ (silenceMarked s).mem = s.mem :=
  ⟨sourceView_sm02Fails _, sm02Fails_at _, (sm02Fails_frame _).mem (by decide)⟩

/-! ## The commit engine -/

/-- What the end of a transaction leaves of the commit engine. -/
structure CommitView where
  copying : Option QEntry
  run : Option Nat
  zeros : List (Nat × List Nat)
  queue : List QEntry

def queueView (s : State) : CommitView := ⟨s.trx.copying, s.trx.run, s.trx.zeros, s.trx.queue⟩

/-- The commit engine with its groups. -/
def commitView (s : State) : CommitView × SMap Group := (queueView s, s.trx.groups)

theorem queueView_congr {a b : State} (h : a.trx = b.trx) : queueView a = queueView b := by
  unfold queueView
  rw [h]

theorem commitView_congr {a b : State} (h : a.trx = b.trx) : commitView a = commitView b := by
  unfold commitView queueView
  rw [h]

theorem queueView_of_view {a b : State} (h : commitView a = commitView b) : queueView a = queueView b :=
  congrArg Prod.fst h

theorem groupOf_of_view {a b : State} (h : commitView a = commitView b) (g : Nat) : groupOf a g = groupOf b g := by
  have hg : a.trx.groups = b.trx.groups := congrArg Prod.snd h
  unfold groupOf
  rw [hg]

theorem commitView_setTag (t : Nat) (v : Tag) (s : State) : commitView (setTag t v s) = commitView s := rfl
theorem commitView_setPos (k : Nat) (v : Pos) (s : State) : commitView (setPos k v s) = commitView s := rfl
theorem commitView_pushBack (p : BackPkt) (s : State) : commitView (pushBack p s) = commitView s := rfl
theorem queueView_setGroup (g : Nat) (v : Group) (s : State) : queueView (setGroup g v s) = queueView s := rfl

theorem commitView_freeTag (t : Nat) (seen : Bool) (s : State) : commitView (freeTag t seen s) = commitView s := by
  have hdrop : (dropDecode t s).trx = s.trx := (frameOf (kept_dropDecode t) s).trx (by decide)
  unfold freeTag
  exact (commitView_setTag ..).trans (commitView_congr hdrop)

theorem commitView_sendNak (p : BackPkt) (s : State) : commitView (sendNak p s) = commitView s := by
  unfold sendNak
  exact (commitView_congr ((evc_trx ..).trans (cnt_trx ..))).trans (commitView_pushBack ..)

theorem commitView_nakTx (t reason sm detail : Nat) (s : State) : commitView (nakTx t reason sm detail s) = commitView s := by
  have hdetach (a : State) : commitView (detachTag t a) = commitView a :=
    commitView_congr ((frameOf (kept_detachTag t) a).trx (by decide))
  unfold nakTx
  exact (commitView_freeTag ..).trans ((hdetach _).trans (commitView_sendNak ..))

theorem commitView_overtakePend (k : Nat) (s : State) : commitView (overtakePend k s) = commitView s := by
  unfold overtakePend
  refine (commitView_setPos ..).trans ?_
  split
  · exact commitView_nakTx ..
  · rfl

theorem commitView_applyToken (t : Nat) (s : State) : commitView (applyToken t s) = commitView s := by
  have hrenew (arrived : Nat) (keys : List Nat) (a : State × Nat) :
      (keys.foldl (fun a k => renewPos arrived k a) a).1.trx = a.1.trx := by
    induction keys generalizing a with
    | nil => rfl
    | cons k keys ih =>
      refine (ih _).trans ?_
      unfold renewPos
      dsimp only
      split
      · rfl
      · exact (evc_trx ..).trans rfl
  unfold applyToken
  dsimp only
  refine (commitView_freeTag ..).trans ?_
  refine (commitView_congr (evc_trx ..)).trans ?_
  exact (commitView_pushBack ..).trans (commitView_congr (hrenew _ _ (s, 0)))

/-- A copy starts: the queue goes on, and the groups and runs are as they were. -/
theorem startCopy_spec (e : QEntry) (rest : List QEntry) (s : State) : (startCopy e rest s).trx.copying = some e ∧
    (startCopy e rest s).trx.queue = rest ∧ (startCopy e rest s).trx.run = s.trx.run ∧
    (∀ g, groupOf (startCopy e rest s) g = groupOf s g) ∧ (startCopy e rest s).mem = s.mem := by
  have hview : commitView (if (tagOf s e.tag).token then s
      else overtakePend (posKey (tagOf s e.tag).tx (tagOf s e.tag).ty) s) = commitView s := by
    split
    · rfl
    · exact commitView_overtakePend ..
  refine ⟨rfl, rfl, ?_, fun g => ?_, (frameOf (kept_startCopy e rest) s).mem (by decide)⟩
  · exact congrArg CommitView.run (queueView_of_view hview)
  · exact groupOf_of_view hview g

/-- The run of a group as it starts with its first copy. -/
def runStarted (e : QEntry) (rest : List QEntry) (s : State) : State :=
  let s1 := startCopy e rest (setGroup e.group { groupOf s e.group with state := .committing } s)
  { s1 with trx := { s1.trx with run := some e.group } }

theorem runStarted_spec (e : QEntry) (rest : List QEntry) (s : State) : (runStarted e rest s).trx.copying = some e ∧
    (runStarted e rest s).trx.queue = rest ∧ (runStarted e rest s).trx.run = some e.group ∧
    (groupOf (runStarted e rest s) e.group).state = .committing ∧ (runStarted e rest s).mem = s.mem := by
  obtain ⟨hcopy, hqueue, -, hgroup, hmem⟩ :=
    startCopy_spec e rest (setGroup e.group { groupOf s e.group with state := .committing } s)
  refine ⟨hcopy, hqueue, rfl, ?_, hmem⟩
  have hg := hgroup e.group
  rw [groupOf_setGroup] at hg
  exact congrArg Group.state hg

section
variable {t : Nat} {e : QEntry} {rest : List QEntry} {s : State}

/-- The head of the queue is copied where nothing makes it wait. -/
theorem exec_commitEnginePop (hcopy : s.trx.copying = none) (hq : s.trx.queue = e :: rest)
    (hgo : s.trx.run = some e.group ∨ (groupOf s e.group).atEpoch.isSome = true ∨ waitsHeld s e.group = false)
    (hfit : unfitTiles (s.at t) e.group = []) (hswap : waitsSwap (s.at t) e.tag = false) :
    exec (.commitEnginePop t) s = .next (runStarted e rest (s.at t)) := by
  have hc : ¬s.trx.copying.isSome = true := by simp [hcopy]
  change Host.Outcome.next (if s.trx.copying.isSome then _ else match s.trx.queue with | [] => _ | e :: rest => _) = _
  rw [if_neg hc, hq]
  dsimp only
  rw [hfit]
  refine congrArg Host.Outcome.next ((if_neg ?_).trans (if_neg (by simp [hswap])))
  rintro ⟨hstarts, hnone, hheld⟩
  obtain h | h | h := hgo
  · exact absurd h (of_decide_eq_true hstarts)
  · rw [show (groupOf (s.at t) e.group) = groupOf s e.group from rfl, Option.isNone_iff_eq_none] at hnone
    simp [hnone] at h
  · exact absurd (hheld.symm.trans (show waitsHeld (s.at t) e.group = false from h)) (by decide)

/-- A run with a tile that has become unfit is discarded before it starts. -/
theorem exec_commitEnginePop_discards (hcopy : s.trx.copying = none) (hq : s.trx.queue = e :: rest)
    (hrun : s.trx.run ≠ some e.group) (hbad : unfitTiles (s.at t) e.group ≠ []) :
    ∃ bad, exec (.commitEnginePop t) s = .next (discardRun e.group bad (s.at t)) := by
  obtain ⟨bad, more, hcons⟩ := List.exists_cons_of_ne_nil hbad
  have hc : ¬s.trx.copying.isSome = true := by simp [hcopy]
  refine ⟨bad, ?_⟩
  change Host.Outcome.next (if s.trx.copying.isSome then _ else match s.trx.queue with | [] => _ | e :: rest => _) = _
  rw [if_neg hc, hq]
  dsimp only
  rw [hcons]
  exact congrArg Host.Outcome.next (if_pos (decide_eq_true hrun))

end

/-- With no group that waits for runs, the end of a run changes nothing. -/
theorem runEnded_none (g : Nat) {s : State} (h : s.trx.zeros = []) : runEnded g s = s := by
  have hz : s.trx.zeros.map (fun z => (z.1, z.2.filter (· ≠ g))) = [] := by rw [h]; rfl
  unfold runEnded
  dsimp only
  rw [hz, List.filter_nil, List.filter_nil]
  change { s with trx := { s.trx with zeros := [] } } = s
  rw [← h]

/-- The run without its entries, before its group is NAKed. -/
def runDropped (g : Nat) (s : State) : State :=
  { s with trx := { s.trx with queue := s.trx.queue.filter (fun e => decide (e.group ≠ g)), run := none } }

/-- The members of a discarded run end under their NAKs. -/
def membersEnded (g : Nat) (s : State) : State :=
  each (groupOf s g).members (fun t => nakTx t (if (unfitTiles s g).contains t then 0x05 else 0x10) 0 0) (runDropped g s)

theorem discardRun_eq (g first : Nat) (s : State) :
    discardRun g first s = runEnded g (nakGroup g 0x26 first (membersEnded g s)) := rfl

theorem queueView_nakGroup (g reason detail : Nat) (s : State) : queueView (nakGroup g reason detail s) = queueView s := by
  unfold nakGroup
  exact (queueView_setGroup ..).trans (queueView_of_view (commitView_sendNak ..))

theorem discardRun_spec {g : Nat} (first : Nat) {s : State} (hz : s.trx.zeros = []) :
    (groupOf (discardRun g first s) g).state = .free ∧ (discardRun g first s).trx.run = none ∧
    (discardRun g first s).trx.queue = s.trx.queue.filter (fun q => decide (q.group ≠ g)) ∧ (discardRun g first s).mem = s.mem := by
  have hends : queueView (membersEnded g s) = queueView (runDropped g s) :=
    queueView_of_view (each_keeps fun _ _ _ => commitView_nakTx ..)
  have hview := (queueView_nakGroup g 0x26 first (membersEnded g s)).trans hends
  have hmem : (discardRun g first s).mem = s.mem := (frameOf (kept_discardRun g first) s).mem (by decide)
  rw [discardRun_eq, runEnded_none g ((congrArg CommitView.zeros hview).trans hz)] at hmem ⊢
  exact ⟨by rw [groupOf_nakGroup]; rfl, congrArg CommitView.run hview, congrArg CommitView.queue hview, hmem⟩

/-! ## The end of a copy -/

/-- The runs of words that a copy writes, on the memory alone. -/
theorem each_memRun_mem (xs : List Nat) (addr : Nat → Nat) (bytes : Nat → List Byte) (s : State) :
    (each xs (fun r st => memRun (addr r) (bytes r) st) s).mem =
      xs.foldl (fun m r => memSplice m (addr r) (bytes r)) s.mem := by
  induction xs generalizing s with
  | nil => rfl
  | cons x xs ih => exact ih (memRun (addr x) (bytes x) s)

/-- The address of row `r` of the back side that tile `t` is copied to. -/
def copyRowAt (t : Nat) (s : State) (r : Nat) : Nat :=
  bufWordAt (!(posOf s (posKey (tagOf s t).tx (tagOf s t).ty)).sel) (64 * (tagOf s t).tx) (32 * (tagOf s t).ty + r)

/-- The bytes of row `r` of tile `t`. -/
def copyRow (t : Nat) (s : State) (r : Nat) : List Byte :=
  (List.range 64).flatMap (fun c => toBE 4 (stagedPixel s t (64 * r + c)))

theorem copyTile_mem (t : Nat) (s : State) : (copyTile t s).mem = (List.range 32).foldl (fun m r =>
    memSplice m (copyRowAt t s r) (copyRow t s r)) s.mem := by
  unfold copyTile
  extract_lets g k side bad s2
  have h2 : s2.mem = _ := each_memRun_mem (List.range 32) (copyRowAt t s) (copyRow t s) s
  rw [readPoison_mem, ← h2]

theorem copyTile_trx (t : Nat) (s : State) : (copyTile t s).trx = s.trx := (frameOf (kept_copyTile t) s).trx (by decide)

/-- The state with its copy over. -/
def copyOver (s : State) : State := { s with trx := { s.trx with copying := none } }

/-- What the copy of an entry leaves. -/
def entryCopied (e : QEntry) (s : State) : State :=
  if (tagOf s e.tag).token then copyOver s else copyTile e.tag (copyOver s)

theorem entryCopied_trx (e : QEntry) (s : State) : (entryCopied e s).trx = { s.trx with copying := none } := by
  unfold entryCopied
  split
  · rfl
  · exact copyTile_trx ..

theorem entryCopied_token {e : QEntry} {s : State} (h : (tagOf s e.tag).token = true) : entryCopied e s = copyOver s :=
  if_pos h

theorem entryCopied_tile {e : QEntry} {s : State} (h : (tagOf s e.tag).token = false) :
    (entryCopied e s).mem = (copyTile e.tag s).mem := by
  unfold entryCopied
  rw [if_neg (by simp [h]), copyTile_mem, copyTile_mem]
  rfl

section
variable {t : Nat} {e : QEntry} {s : State}

theorem exec_commitCopyDone (hc : s.trx.copying = some e) : exec (.commitCopyDone t) s = .next
    (if e.last then runEnded e.group (commitGroup e.group
      { entryCopied e (s.at t) with trx := { (entryCopied e (s.at t)).trx with run := none } })
    else entryCopied e (s.at t)) := by
  change Host.Outcome.next (match s.trx.copying with | none => _ | some e => _) = _
  rw [hc]
  rfl

end

/-- A group that commits leaves the queue and the runs as they are, and is FREE. -/
theorem commitGroup_spec (g : Nat) (s : State) : queueView (commitGroup g s) = queueView s ∧
    (groupOf (commitGroup g s) g).state = .free := by
  unfold commitGroup
  extract_lets gr shownAt locked s1 s2 late s3 s4
  have h1 : queueView s1 = queueView s := each_keeps (fun t _ a => by
    dsimp only
    split <;> rfl)
  have h2 : queueView s2 = queueView s1 := each_keeps fun t _ a => queueView_of_view (commitView_applyToken t a)
  have h3 : queueView s3 = queueView s2 := by
    unfold s3
    split
    · exact queueView_congr (cnt_trx ..)
    · rfl
  have h4 : queueView s4 = queueView s3 := queueView_of_view (commitView_pushBack ..)
  have h5 : queueView (evc 0x33 (evc 0x32 s4)) = queueView s4 := queueView_congr ((evc_trx ..).trans (evc_trx ..))
  exact ⟨(((queueView_setGroup ..).trans (h5.trans h4)).trans h3).trans (h2.trans h1), by rw [groupOf_setGroup]; rfl⟩

/-! ## The back queue -/

theorem sendNext_of {p : BackPkt} {s : State} (hup : backUp s = true) (hn : nextBack s = some p) :
    sendNext s = sendBack p s := by
  unfold sendNext
  rw [if_neg (by simp [hup]), hn]

theorem sendBack_trx (p : BackPkt) (s : State) : (sendBack p s).trx = { s.trx with
    back := s.trx.back.erase p, bseq := (s.trx.bseq + 1) % 65536, lastSent := some (s.trx.bseq, p),
    sentHead := backHeader p s.trx.bseq } := by
  unfold sendBack
  exact ((frameOf (kept_sendStream _) _).trx (by decide)).trans rfl

/-- Settles O13: a source frame is taken or refused before `selectRef`, which leaves the transactions alone; the commit
engine's copies, NAKs and applications leave the queue, the runs and the other groups as they are. -/
theorem sourcesAndCommitsGoOn : Obligations.SourcesAndCommitsGoOn := by
  unfold Obligations.SourcesAndCommitsGoOn
  refine ⟨fun t hdr s => ⟨fun hup hnew => ?_, fun hup hne hold => ?_, fun hop hp hd hgap => ?_, fun h => ?_⟩,
    fun t s => ⟨fun e rest hcopy hq hgo hfit hswap => ?_, fun e rest hcopy hq hrun hz hbad => ?_, fun e hc hlast => ?_,
      fun e hc hlast hz => ?_, fun p hup hn => ?_⟩⟩
  · refine ⟨_, exec_srcframe_newer hup hnew, ?_⟩
    have htrx (a : State) : (sourceTick (evc 0x37 a)).trx = a.trx :=
      ((sourceTick_frame _).trx (by decide)).trans (evc_trx ..)
    rw [htrx, (sourceTick_frame _).mem (by decide), evc_mem]
    exact ⟨rfl, rfl, rfl, rfl, rfl⟩
  · have hx := exec_srcframe_old (t := t) hup hne hold
    obtain ⟨hlast, hhist, hcnt⟩ := frameRefused_spec (field hdr.toNat 32 32) (acceptPkt (s.at t))
    exact ⟨_, hx, hlast, hhist, hcnt, exec_mem hx (by simp [footprint])⟩
  · obtain ⟨hview, hat, hmem⟩ := silenceMarked_spec (s.at t)
    have hsent (w : Nat) : sourceView (backEvent 3 s.trx.lastSrcf w (silenceMarked (s.at t))) =
        ⟨s.trx.lastSrcf, s.trx.history, true⟩ := (sourceView_backEvent ..).trans hview
    have hat' (w : Nat) : (backEvent 3 s.trx.lastSrcf w (silenceMarked (s.at t))).safe.sm02At = some (max s.now t) := by
      rw [(backEvent_frame ..).safe (by decide)]
      exact hat
    have hx := exec_sourceSilent (t := t) hop hp hd hgap
    refine ⟨_, hx, ?_, ?_, ?_, exec_mem hx (by simp [footprint])⟩
    · split
      · exact congrArg SourceView.marked (hsent _)
      · exact congrArg SourceView.marked (hsent _)
    · split
      · exact congrArg SourceView.last (hsent _)
      · exact congrArg SourceView.last (hsent _)
    · split
      · exact hat' _
      · exact hat' _
  · exact exec_sourceSilent_none h
  · exact ⟨_, exec_commitEnginePop hcopy hq hgo hfit hswap, runStarted_spec e rest (s.at t)⟩
  · obtain ⟨bad, hx⟩ := exec_commitEnginePop_discards (t := t) hcopy hq hrun hbad
    exact ⟨_, hx, discardRun_spec bad (s := s.at t) hz⟩
  · have hx := exec_commitCopyDone (t := t) hc
    rw [if_neg (by simp [hlast])] at hx
    refine ⟨_, hx, congrArg Trx.copying (entryCopied_trx e (s.at t)), fun htok => ?_, fun htile => entryCopied_tile htile⟩
    rw [entryCopied_token (s := s.at t) htok]
    exact ⟨rfl, rfl⟩
  · have hx := exec_commitCopyDone (t := t) hc
    rw [if_pos hlast] at hx
    have htrx := entryCopied_trx e (s.at t)
    generalize entryCopied e (s.at t) = c at hx htrx
    obtain ⟨hview, hfree⟩ := commitGroup_spec e.group { c with trx := { c.trx with run := none } }
    have hzeros : c.trx.zeros = [] := by
      rw [htrx]
      exact hz
    rw [runEnded_none e.group ((congrArg CommitView.zeros hview).trans hzeros)] at hx
    exact ⟨_, hx, (congrArg CommitView.copying hview).trans (congrArg Trx.copying htrx), congrArg CommitView.run hview, hfree⟩
  · have hx : exec (.backPacketSend t) s = .next (sendBack p (s.at t)) :=
      congrArg Host.Outcome.next (sendNext_of (s := s.at t) hup hn)
    refine ⟨_, hx, ?_, ?_, ?_, ?_, exec_mem hx (by simp [footprint])⟩
    all_goals rw [sendBack_trx]
    all_goals rfl

end Sys2Proof.Machine
end

section
/-! PROOF. A row slot that makes a held write (R180) over a word that reads as uncorrectable (R161): O15 fails. -/

namespace Sys2Proof.Machine
open Sys2Proof

/-- The raster runs, the word at address 0 is poisoned, and a write of it is held for lines that are checked by now. -/
def heldOverPoison : State :=
  { State.reset with
    boot := { State.reset.boot with stage := .started, op := .setup }
    scan := { State.reset.scan with running := true }
    fst := { State.reset.fst with held := [(0, List.replicate 8 0)] }
    poison := [(0, true)] }

/-- Whether DRAM lists no poison where a command completes. -/
def freeOfPoison (o : Host.Outcome State Fault Refusal) : Bool :=
  match o with
  | .next s => s.poison.isEmpty
  | _ => false

/-- Refutes O15. The start of a slot makes the held writes, and one that covers a poisoned word in full takes its poison, so the
poison is not what it was. -/
theorem not_framesSlotsAndRowsRun : ¬ Obligations.FramesSlotsAndRowsRun := by
  unfold Obligations.FramesSlotsAndRowsRun
  intro hall
  obtain ⟨-, -, hslot, -⟩ := hall.1 0 heldOverPoison
  obtain ⟨s', hx, -, -, -, -, -, -, hpoison⟩ := hslot (by decide +kernel) rfl (by decide +kernel)
  have hrun : freeOfPoison (exec (.rowSlotStart 0) heldOverPoison) = true := by decide +kernel
  rw [hx] at hrun
  have hempty : s'.poison.isEmpty = true := hrun
  rw [hpoison] at hempty
  exact absurd hempty (by decide)

end Sys2Proof.Machine
end

section
/-! SUPPORT. The pixel link: what its masks, its lanes, a message, a drop and a new active set leave of the link's state. -/

namespace Sys2Proof.Machine
open Sys2Proof

/-! ## Masks of lanes -/

theorem bit_foldl_setBit (ns : List Nat) (m i : Nat) : bit (ns.foldl setBit m) i = (bit m i || decide (i ∈ ns)) := by
  induction ns generalizing m with
  | nil => simp
  | cons n ns ih =>
    rw [List.foldl_cons, ih]
    by_cases h : n = i
    · subst h
      simp [bit_setBit_same]
    · have hne : i ≠ n := Ne.symm h
      rw [bit_setBit_ne h]
      simp [hne]

theorem bit_maskOf (ns : List Nat) (i : Nat) : bit (maskOf ns) i = decide (i ∈ ns) := by
  unfold maskOf
  rw [bit_foldl_setBit]
  simp [bit]

theorem mem_lanesOf {m i : Nat} : i ∈ lanesOf m ↔ i < 16 ∧ bit m i = true := by simp [lanesOf]

theorem mem_cfgLanes {s : State} {i : Nat} : i ∈ cfgLanes s ↔ i < 16 ∧ i < oget s Ob.PXL_LANES := by
  simp [cfgLanes]

theorem cfgLanes_congr {a b : State} (h : oget a Ob.PXL_LANES = oget b Ob.PXL_LANES) : cfgLanes a = cfgLanes b := by
  unfold cfgLanes
  rw [h]

theorem widest_ne_nil {ns : List Nat} (h : ns ≠ []) : widest ns ≠ [] := by
  have hlen := List.length_pos_iff.mpr h
  have hpow : 0 < pow2Below ns.length := by
    unfold pow2Below
    split_ifs <;> omega
  unfold widest
  rw [← List.length_pos_iff, List.length_take]
  omega

theorem mem_of_mem_widest {ns : List Nat} {i : Nat} (h : i ∈ widest ns) : i ∈ ns := List.mem_of_mem_take h

theorem maskOf_ne_zero {ns : List Nat} (h : ns ≠ []) : maskOf ns ≠ 0 := by
  obtain ⟨i, rest, rfl⟩ := List.exists_cons_of_ne_nil h
  intro h0
  have hbit := bit_maskOf (i :: rest) i
  rw [h0] at hbit
  simp [bit] at hbit

/-! ## Lanes -/

theorem laneOf_congr {a b : State} (h : a.pxl.lanes = b.pxl.lanes) (n : Nat) : laneOf a n = laneOf b n := by
  unfold laneOf
  rw [h]

theorem laneOf_setLane_ne {n m : Nat} (h : m ≠ n) (v : Lane) (s : State) : laneOf (setLane n v s) m = laneOf s m :=
  get_put_ne _ _ v h

theorem setLane_pxl (n : Nat) (v : Lane) (s : State) : ∃ ls, (setLane n v s).pxl = { s.pxl with lanes := ls } := ⟨_, rfl⟩

/-- An operation on each lane gives every lane its image. -/
theorem laneOf_eachLane {n : Nat} (h : n < 16) (f : Nat → Lane → Lane) (s : State) :
    laneOf (eachLane f s) n = f n (laneOf s n) := by
  obtain ⟨a, ha, hout⟩ := each_at (obs := fun a => laneOf a n) (f := fun k st => setLane k (f k (laneOf st k)) st)
    (List.mem_range.mpr h) List.nodup_range (fun m hm b => laneOf_setLane_ne hm.symm ..) s
  exact hout.trans ((laneOf_setLane ..).trans (congrArg (f n) ha))

/-- The link without its lanes. -/
def Pxl.bare (p : Pxl) : Pxl := { p with lanes := [] }

theorem bare_setLane (n : Nat) (v : Lane) (s : State) : (setLane n v s).pxl.bare = s.pxl.bare := rfl

theorem bare_eachLane (f : Nat → Lane → Lane) (s : State) : (eachLane f s).pxl.bare = s.pxl.bare :=
  each_keeps (obs := fun a => a.pxl.bare) fun n _ a => bare_setLane n (f n (laneOf a n)) a


theorem resetLane_pxl (n : Nat) (s : State) : (resetLane n s).pxl = s.pxl := (frameOf (kept_resetLane n) s).pxl (by decide)

theorem eachReset_pxl (ns : List Nat) (s : State) : (each ns resetLane s).pxl = s.pxl :=
  each_keeps fun n _ a => resetLane_pxl n a

theorem setLink_pxl (v : LinkState) (s : State) : (setLink v s).pxl = { s.pxl with link := v } := by
  unfold setLink
  split
  next h => rw [← h]
  next => rw [pendEvt_pxl]; rfl

theorem laneOf_setLink (v : LinkState) (s : State) (n : Nat) : laneOf (setLink v s) n = laneOf s n :=
  laneOf_congr (congrArg Pxl.lanes (setLink_pxl v s) :) n

/-! ## Messages on the back lanes -/

/-- The link without what it sends on the back lanes. -/
def Pxl.quiet (p : Pxl) : Pxl := { p with tx := none, tseq := 0, txLanes := [], txSeq := 0, txLine := [] }

theorem quiet_sendBlocks (ns : List Nat) (type ptr : Nat) (payload : Nat → List (BitVec 32)) (s : State) :
    (sendBlocks ns type ptr payload s).pxl.quiet = s.pxl.quiet := by
  unfold sendBlocks
  exact each_keeps (obs := fun a => a.pxl.quiet) fun _ _ _ => rfl

theorem quiet_sendTrain (m : TrainMsg) (s : State) : (sendTrain m s).pxl.quiet = s.pxl.quiet := by
  unfold sendTrain
  split
  · rfl
  · exact quiet_sendBlocks ..

theorem quiet_sendHello (s : State) : (sendHello s).pxl.quiet = s.pxl.quiet := quiet_sendTrain ..

theorem laneOf_quiet {a b : State} (h : a.pxl.quiet = b.pxl.quiet) (n : Nat) : laneOf a n = laneOf b n :=
  laneOf_congr (congrArg Pxl.lanes h :) n

/-- A step is asked for: the direction, its rate, and the idle time. -/
theorem quiet_sendStep (fwd : Bool) (rate : Nat) (s : State) : (sendStep fwd rate s).pxl.quiet =
    { s.pxl.quiet with link := if fwd then .stepFwd else .stepBack, stepRate := rate, idle := true, awaitRes := false } := by
  unfold sendStep
  refine (quiet_sendTrain ..).trans ?_
  change Pxl.quiet { (setLink _ s).pxl with stepRate := rate, idle := true, awaitRes := false } = _
  rw [setLink_pxl]
  rfl

/-! ## DETECT, and a drop -/

/-- What a return to DETECT keeps of the link. -/
structure DropView where
  cause : Nat
  hadDrop : Bool
  relock : Bool
  fwdAsleep : Bool

def dropView (p : Pxl) : DropView := ⟨p.downCause, p.hadDrop, p.relock, p.fwdAsleep⟩

theorem clearLink_pxl (s : State) : (clearLink s).pxl.link = s.pxl.link ∧ dropView (clearLink s).pxl = dropView s.pxl ∧
    (clearLink s).pxl.srcHello = 0 ∧ (clearLink s).pxl.pendMask = 0 := by
  have hb := (bare_eachLane (fun _ => Lane.restart) (each (List.range 16) resetLane s)).trans
    (congrArg Pxl.bare (eachReset_pxl (List.range 16) s))
  unfold clearLink
  generalize eachLane (fun _ => Lane.restart) (each (List.range 16) resetLane s) = x at hb ⊢
  exact ⟨(congrArg Pxl.link hb :), (congrArg dropView hb :), rfl, rfl⟩

theorem oflag_enable_clearLink (s : State) : oflag (clearLink s) Ob.PXL_ENABLE = oflag s Ob.PXL_ENABLE := by
  unfold oflag
  rw [oget_clearLink (by decide) (by decide) (by decide)]

/-- The link goes to DETECT, or stands DISABLED where it is not enabled; what it keeps is as it was. -/
theorem toDetect_spec (s : State) : (toDetect s).pxl.link = downLink s ∧ dropView (toDetect s).pxl = dropView s.pxl ∧
    (toDetect s).pxl.srcHello = 0 := by
  obtain ⟨-, hview, hhello, -⟩ := clearLink_pxl s
  have hen := oflag_enable_clearLink s
  unfold toDetect downLink
  generalize clearLink s = c at hview hhello hen ⊢
  dsimp only
  rw [hen]
  split
  · have hq : (sendHello (setLink .detect c)).pxl.quiet = Pxl.quiet { c.pxl with link := .detect } :=
      (quiet_sendHello _).trans (congrArg Pxl.quiet (setLink_pxl ..))
    exact ⟨(congrArg Pxl.link hq :), (congrArg dropView hq :).trans hview, (congrArg Pxl.srcHello hq :).trans hhello⟩
  · rw [setLink_pxl]
    exact ⟨rfl, hview, hhello⟩

theorem oflag_enable_endSession (s : State) : oflag (endSession s) Ob.PXL_ENABLE = oflag s Ob.PXL_ENABLE := by
  unfold oflag
  rw [oget_congr ((frameOf kept_endSession s).obj (by decide))]

theorem forgetThose_pxl (f : Incoming → Bool) (s : State) : (forgetThose f s).pxl = s.pxl :=
  (frameOf (kept_forgetThose f) s).pxl (by decide)

/-- What a session's end leaves of the link. -/
theorem discardDrop_pxl (s : State) : (discardDrop s).pxl.relock = s.pxl.relock ∧
    (discardDrop s).pxl.fwdAsleep = s.pxl.fwdAsleep := by
  have hfree (t : Nat) (a : State) : (freeTag t false a).pxl = a.pxl := (frameOf (kept_freeTag t false) a).pxl (by decide)
  unfold discardDrop
  extract_lets gs member s1 _ s2
  have h1 : s1.pxl = s.pxl := each_keeps fun t _ a => hfree t a
  have h2 : s2.pxl = s1.pxl := each_keeps fun _ _ _ => rfl
  exact ⟨(congrArg Pxl.relock (h2.trans h1) :), (congrArg Pxl.fwdAsleep (h2.trans h1) :)⟩

/-- A session that ends had a drop; nothing else of the link changes but the count of what it discards. -/
theorem endSession_pxl (s : State) : (endSession s).pxl.relock = s.pxl.relock ∧
    (endSession s).pxl.fwdAsleep = s.pxl.fwdAsleep ∧ (inSession s = true → (endSession s).pxl.hadDrop = true) := by
  unfold endSession
  split
  · obtain ⟨hr, hf⟩ := discardDrop_pxl (forgetThose (fun _ => true) s)
    rw [forgetThose_pxl] at hr hf
    exact ⟨hr, hf, fun _ => rfl⟩
  next h => exact ⟨rfl, rfl, fun h' => absurd h' h⟩

/-- A drop: the link is in DETECT or DISABLED, and shows its cause. -/
theorem dropLink_spec (cause : Nat) (s : State) : (dropLink cause s).pxl.link = downLink s ∧
    (dropLink cause s).pxl.downCause = cause ∧ (inSession s = true → (dropLink cause s).pxl.hadDrop = true) ∧
    (dropLink cause s).pxl.relock = s.pxl.relock ∧ (dropLink cause s).pxl.fwdAsleep = s.pxl.fwdAsleep ∧
    (dropLink cause s).pxl.srcHello = 0 := by
  obtain ⟨hrel, hsleep, hdrop⟩ := endSession_pxl s
  obtain ⟨hlink, hview, hhello⟩ := toDetect_spec (modPxl (fun p => { p with downCause := cause }) (endSession s))
  have hen : oflag (modPxl (fun p => { p with downCause := cause }) (endSession s)) Ob.PXL_ENABLE = oflag s Ob.PXL_ENABLE :=
    oflag_enable_endSession s
  simp only [dropView, DropView.mk.injEq] at hview
  obtain ⟨hc, hd, hr, hf⟩ := hview
  unfold downLink at hlink ⊢
  rw [hen] at hlink
  unfold dropLink
  exact ⟨hlink, hc, fun h => hd.trans (hdrop h), hr.trans hrel, hf.trans hsleep, hhello⟩

/-! ## A new active set -/

theorem loseBoundary_pxl (s : State) : (loseBoundary s).pxl = { s.pxl with needPtr := true, rxWords := [], rxLeft := 0 } := rfl

theorem nakInFlight_pxl (s : State) : (nakInFlight s).pxl = s.pxl := (frameOf kept_nakInFlight s).pxl (by decide)

/-- The lanes that the link could go on with. -/
def goodLanes (s : State) : List Nat :=
  (cfgLanes s).filter (fun n => (laneOf s n).good && decide ((laneOf s n).heldFail = 0))

theorem narrow_drops {s : State} (h : goodLanes s = []) : narrow s = dropLink 1 s := by
  have he : (goodLanes s).isEmpty = true := by simp [h]
  exact if_pos he

/-- The state in which the link goes on, before its new configuration. -/
def narrowing (s : State) : State :=
  let keep := maskOf (widest (goodLanes s))
  let out := (lanesOf s.pxl.fmask).filter (fun n => (laneOf s n).good && !bit keep n)
  eachLane (fun n l => l.placed (bit s.pxl.fmask n) (bit keep n)) (loseBoundary (nakInFlight (each out resetLane s)))

theorem narrow_goes {s : State} (h : goodLanes s ≠ []) : narrow s = sendLinkstate 0 (maskOf (widest (goodLanes s)))
    (setLink .reconfig (modPxl (fun p => { p with
      fmask := maskOf (widest (goodLanes s)), lcn := (p.lcn + 1) % 16, pendMask := 0, pendLcn := 0, prevLcn := none })
      (narrowing s))).pxl.lcn 0 0 0
    (setLink .reconfig (modPxl (fun p => { p with
      fmask := maskOf (widest (goodLanes s)), lcn := (p.lcn + 1) % 16, pendMask := 0, pendLcn := 0, prevLcn := none })
      (narrowing s))) := by
  have hne : ¬(goodLanes s).isEmpty = true := by simpa using h
  exact if_neg hne

theorem narrowing_pxl (s : State) : (narrowing s).pxl.lcn = s.pxl.lcn ∧ (narrowing s).pxl.relock = s.pxl.relock := by
  unfold narrowing
  extract_lets keep out
  have hp := (nakInFlight_pxl (each out resetLane s)).trans (eachReset_pxl out s)
  generalize nakInFlight (each out resetLane s) = a at hp ⊢
  have hb := bare_eachLane (fun n l => l.placed (bit s.pxl.fmask n) (bit keep n)) (loseBoundary a)
  exact ⟨(congrArg Pxl.lcn hb :).trans (congrArg Pxl.lcn hp :), (congrArg Pxl.relock hb :).trans (congrArg Pxl.relock hp :)⟩

theorem laneOf_narrowing {n : Nat} (hn : n < 16) (s : State) : laneOf (narrowing s) n =
    (laneOf s n).placed (bit s.pxl.fmask n) (bit (maskOf (widest (goodLanes s))) n) := by
  unfold narrowing
  extract_lets keep out
  have hp := (nakInFlight_pxl (each out resetLane s)).trans (eachReset_pxl out s)
  generalize nakInFlight (each out resetLane s) = a at hp ⊢
  have hlane : laneOf (loseBoundary a) n = laneOf s n := laneOf_congr (congrArg Pxl.lanes hp :) n
  rw [laneOf_eachLane hn, hlane]

/-- With a good lane left the link goes on in RECONFIG, on the widest set of them, under the next LCN. -/
theorem narrow_spec {s : State} (h : goodLanes s ≠ []) : (narrow s).pxl.link = .reconfig ∧
    (narrow s).pxl.fmask = maskOf (widest (goodLanes s)) ∧ (narrow s).pxl.lcn = (s.pxl.lcn + 1) % 16 ∧
    (narrow s).pxl.pendMask = 0 ∧ (narrow s).pxl.relock = s.pxl.relock ∧ ∀ n, n < 16 → laneOf (narrow s) n =
      (laneOf s n).placed (bit s.pxl.fmask n) (bit (maskOf (widest (goodLanes s))) n) := by
  obtain ⟨hlcn, hrel⟩ := narrowing_pxl s
  have hl (n : Nat) (hn : n < 16) := laneOf_narrowing hn s
  rw [narrow_goes h]
  generalize narrowing s = a at hlcn hrel hl ⊢
  have hset := setLink_pxl .reconfig (modPxl (fun p => { p with
    fmask := maskOf (widest (goodLanes s)), lcn := (p.lcn + 1) % 16, pendMask := 0, pendLcn := 0, prevLcn := none }) a)
  generalize setLink .reconfig (modPxl _ a) = b at hset ⊢
  have hb : (sendLinkstate 0 (maskOf (widest (goodLanes s))) b.pxl.lcn 0 0 0 b).pxl = b.pxl := rfl
  refine ⟨by rw [hb, hset], by rw [hb, hset]; rfl, ?_, by rw [hb, hset]; rfl, ?_, fun n hn => ?_⟩
  · rw [hb, hset, ← hlcn]
    rfl
  · rw [hb, hset]
    exact hrel
  · refine (laneOf_congr ?_ n).trans (hl n hn)
    rw [hb, hset]
    rfl

end Sys2Proof.Machine
end

section
/-! PROOF. The training of the pixel link, and its drops. -/

namespace Sys2Proof.Machine
open Sys2Proof

/-! ## Steps -/

section
variable {s : State}

theorem nextStep_back (h : s.pxl.brate < s.pxl.btarget) : nextStep s = sendStep false (s.pxl.brate + 1) s := if_pos h

theorem nextStep_fwd (hb : s.pxl.btarget ≤ s.pxl.brate) (hf : s.pxl.frate < s.pxl.ftarget) :
    nextStep s = sendStep true (s.pxl.frate + 1) s :=
  (if_neg (Nat.not_lt.mpr hb)).trans (if_pos hf)

theorem nextStep_go (hb : s.pxl.btarget ≤ s.pxl.brate) (hf : s.pxl.ftarget ≤ s.pxl.frate) : nextStep s = sendGo s :=
  (if_neg (Nat.not_lt.mpr hb)).trans (if_neg (Nat.not_lt.mpr hf))

/-- A step that is asked for shows in the link. -/
theorem sendStep_spec (fwd : Bool) (rate : Nat) (s : State) :
    (sendStep fwd rate s).pxl.link = (if fwd then .stepFwd else .stepBack) ∧ (sendStep fwd rate s).pxl.stepRate = rate ∧
    (sendStep fwd rate s).pxl.idle = true ∧ (sendStep fwd rate s).pxl.awaitRes = false ∧
    (sendStep fwd rate s).pxl.ftarget = s.pxl.ftarget ∧ (sendStep fwd rate s).pxl.btarget = s.pxl.btarget := by
  have h := quiet_sendStep fwd rate s
  generalize sendStep fwd rate s = a at h ⊢
  exact ⟨(congrArg Pxl.link h :), (congrArg Pxl.stepRate h :), (congrArg Pxl.idle h :), (congrArg Pxl.awaitRes h :),
    (congrArg Pxl.ftarget h :), (congrArg Pxl.btarget h :)⟩

/-- A message sent on entering a link state shows that state, and leaves the rest of the link. -/
theorem sendTrain_setLink (m : TrainMsg) (v : LinkState) (s : State) : (sendTrain m (setLink v s)).pxl.link = v ∧
    (sendTrain m (setLink v s)).pxl.lcn = s.pxl.lcn ∧ (sendTrain m (setLink v s)).pxl.fmask = s.pxl.fmask ∧
    (sendTrain m (setLink v s)).pxl.session = s.pxl.session ∧ (sendTrain m (setLink v s)).pxl.lockWait = s.pxl.lockWait ∧
    (sendTrain m (setLink v s)).pxl.srcHello = s.pxl.srcHello ∧ ∀ n, laneOf (sendTrain m (setLink v s)) n = laneOf s n := by
  have hq := (quiet_sendTrain m (setLink v s)).trans (congrArg Pxl.quiet (setLink_pxl v s))
  generalize sendTrain m (setLink v s) = a at hq ⊢
  exact ⟨(congrArg Pxl.link hq :), (congrArg Pxl.lcn hq :), (congrArg Pxl.fmask hq :), (congrArg Pxl.session hq :),
    (congrArg Pxl.lockWait hq :), (congrArg Pxl.srcHello hq :), laneOf_congr (congrArg Pxl.lanes hq :)⟩

/-- GO on the widest set of the lanes trained, as a new session. -/
theorem sendGo_spec (h : trainLanes s ≠ []) : (sendGo s).pxl.link = .go ∧ (sendGo s).pxl.lcn = 1 ∧
    (sendGo s).pxl.fmask = maskOf (widest (trainLanes s)) ∧ (sendGo s).pxl.session = satInc 0xFFFFFFFF s.pxl.session := by
  unfold sendGo
  extract_lets act s1 s2
  rw [if_neg (maskOf_ne_zero (widest_ne_nil h))]
  have h1 : s1.pxl.bare = s.pxl.bare := bare_eachLane ..
  have hsession : s1.pxl.session = s.pxl.session := (congrArg Pxl.session h1 :)
  obtain ⟨hlink, hlcn, hmask, hsent, -⟩ := sendTrain_setLink ⟨5, s2.pxl.frate, s2.pxl.brate, act, s2.pxl.bmask, 1⟩ .go s2
  exact ⟨hlink, hlcn, hmask, hsent.trans (congrArg (satInc 0xFFFFFFFF) hsession)⟩

/-! ## The judgement of a step -/

theorem stepOutcome_all (r p n : Nat) : stepOutcome r p n n = 0 := if_pos rfl

/-- A step that no lane passes is not kept. -/
theorem stepOutcome_none (r p : Nat) {m : Nat} (h : m ≠ 0) : stepOutcome r p 0 m = 2 :=
  (if_neg (Ne.symm h)).trans (if_neg (by simp [pow2Below]))

/-- The back lanes in use. -/
def backLanes (s : State) : List Nat := [0, 1].filter (bit s.pxl.bmask)

/-- The state in which a back step is judged. -/
def backJudged (s : State) : State := modPxl (fun p => { p with awaitRes := false }) s

theorem judgeBack_all {passed : Nat} (h : (backLanes s).all (bit passed) = true) : judgeBack passed s = nextStep (backJudged s) := by
  have hall : (backLanes s).filter (bit passed) = backLanes s := List.filter_eq_self.mpr (List.all_eq_true.mp h)
  have hk : stepOutcome (backRate s.pxl.stepRate) (backRate (s.pxl.stepRate - 1)) ((backLanes s).filter (bit passed)).length
      (backLanes s).length = 0 := by rw [hall]; exact stepOutcome_all ..
  unfold judgeBack
  exact if_pos hk

/-- A back step that no report confirms is tried again one rate lower. -/
theorem judgeBack_none (h : backLanes s ≠ []) : judgeBack 0 s = sendStep false (s.pxl.stepRate - 1)
    (modPxl (fun p => { p with btarget := s.pxl.stepRate - 1 }) (backJudged s)) := by
  have hnone : (backLanes s).filter (bit 0) = [] := List.filter_eq_nil_iff.mpr fun i _ => by simp [bit]
  have hk : stepOutcome (backRate s.pxl.stepRate) (backRate (s.pxl.stepRate - 1)) ((backLanes s).filter (bit 0)).length
      (backLanes s).length = 2 := by
    rw [hnone]
    exact stepOutcome_none _ _ (by simpa using h)
  unfold backLanes at hk
  unfold judgeBack
  exact (if_neg (by rw [hk]; decide)).trans (if_neg (by rw [hk]; decide))

/-- The lanes of a forward step that pass keep its rate. -/
def fwdJudged (ok : List Nat) (s : State) : State :=
  each ok (fun n st => setLane n { laneOf st n with lastRate := s.pxl.stepRate } st) s

theorem fwdJudged_bare (ok : List Nat) (s : State) : (fwdJudged ok s).pxl.bare = s.pxl.bare :=
  each_keeps (obs := fun a => a.pxl.bare) fun _ _ _ => rfl

theorem judgeFwd_all {passed : Nat} (h : (trainLanes s).all (bit passed) = true) :
    judgeFwd passed s = nextStep (fwdJudged (trainLanes s) s) := by
  have hall : (trainLanes s).filter (bit passed) = trainLanes s := List.filter_eq_self.mpr (List.all_eq_true.mp h)
  unfold judgeFwd
  dsimp only
  rw [hall, stepOutcome_all, if_pos rfl]
  rfl

/-- A forward step that no lane passes is tried again one rate lower. -/
theorem judgeFwd_none {passed : Nat} (h : trainLanes s ≠ []) (hnone : ∀ n ∈ trainLanes s, bit passed n = false) :
    judgeFwd passed s = sendStep true (s.pxl.stepRate - 1)
      (modPxl (fun p => { p with ftarget := s.pxl.stepRate - 1 }) (fwdJudged [] s)) := by
  have hnil : (trainLanes s).filter (bit passed) = [] := List.filter_eq_nil_iff.mpr fun n hn => by simp [hnone n hn]
  have hlen : (trainLanes s).length ≠ 0 := by simpa using h
  unfold judgeFwd
  dsimp only
  rw [hnil, List.length_nil, stepOutcome_none _ _ hlen, if_neg (by decide), if_neg (by decide)]
  rfl

end

/-! ## DETECT and NEGOTIATE -/

/-- The lanes locked take part. -/
def lanesJoined (s : State) : State :=
  eachLane (fun n l => { l with good := l.mlock && decide (n < oget s Ob.PXL_LANES) }) s

theorem srcHello_of_bare {a b : State} (h : a.pxl.bare = b.pxl.bare) : a.pxl.srcHello = b.pxl.srcHello :=
  (congrArg Pxl.srcHello h :)

theorem lanesJoined_spec (s : State) : (lanesJoined s).pxl.srcHello = s.pxl.srcHello ∧
    ∀ n, n < 16 → (laneOf (lanesJoined s) n).hello = (laneOf s n).hello := by
  refine ⟨srcHello_of_bare (bare_eachLane ..), fun n hn => ?_⟩
  unfold lanesJoined
  rw [laneOf_eachLane hn]

/-- The link as NEGOTIATE finds it, before its state and its message. -/
def negotiating (back : Nat) (a : State) : State :=
  modPxl (fun p => { p with lockWait := false, bmask := p.srcHello % 4 &&& back }) a

theorem negotiating_spec (back : Nat) (a : State) : (negotiating back a).pxl.lockWait = false ∧
    (negotiating back a).pxl.srcHello = a.pxl.srcHello ∧ ∀ n, laneOf (negotiating back a) n = laneOf a n :=
  ⟨rfl, rfl, fun _ => rfl⟩

theorem toNegotiate_eq (s : State) : toNegotiate s = sendTrain
    ⟨2, oget s Ob.PXL_FWD_MAXRATE, oget s Ob.PXL_BACK_MAXRATE, cfgBack s, 0, 0⟩
    (setLink .negotiate (negotiating (cfgBack s) (lanesJoined s))) := rfl

theorem toNegotiate_spec (s : State) : (toNegotiate s).pxl.link = .negotiate ∧ (toNegotiate s).pxl.lockWait = false ∧
    (toNegotiate s).pxl.srcHello = s.pxl.srcHello ∧ ∀ n, n < 16 → (laneOf (toNegotiate s) n).hello = (laneOf s n).hello := by
  obtain ⟨hsrc, hjoined⟩ := lanesJoined_spec s
  obtain ⟨hwait, hsrc2, hlanes⟩ := negotiating_spec (cfgBack s) (lanesJoined s)
  rw [toNegotiate_eq]
  generalize lanesJoined s = a at *
  generalize negotiating (cfgBack s) a = b at *
  obtain ⟨hlink, -, -, -, hwait', hsent, hl⟩ := sendTrain_setLink
    ⟨2, oget s Ob.PXL_FWD_MAXRATE, oget s Ob.PXL_BACK_MAXRATE, cfgBack s, 0, 0⟩ .negotiate b
  exact ⟨hlink, hwait'.trans hwait, hsent.trans (hsrc2.trans hsrc),
    fun n hn => (congrArg Lane.hello ((hl n).trans (hlanes n))).trans (hjoined n hn)⟩

/-- What follows HELLO keeps the source's mask and the lanes that carry HELLO. -/
theorem tryDetect_hello (s : State) : (tryDetect s).pxl.srcHello = s.pxl.srcHello ∧
    ∀ n, n < 16 → (laneOf (tryDetect s) n).hello = (laneOf s n).hello := by
  have hq := quiet_sendHello s
  have hsrc : (sendHello s).pxl.srcHello = s.pxl.srcHello := (congrArg Pxl.srcHello hq :)
  have hlane (n : Nat) : laneOf (sendHello s) n = laneOf s n := laneOf_quiet hq n
  unfold tryDetect
  generalize sendHello s = a at hsrc hlane ⊢
  dsimp only
  split
  · exact ⟨rfl, fun _ _ => rfl⟩
  · split
    · exact ⟨hsrc, fun n _ => congrArg Lane.hello (hlane n)⟩
    · split
      · obtain ⟨-, -, hs, hl⟩ := toNegotiate_spec a
        exact ⟨hs.trans hsrc, fun n hn => (hl n hn).trans (congrArg Lane.hello (hlane n))⟩
      · exact ⟨hsrc, fun n _ => congrArg Lane.hello (hlane n)⟩

theorem tryDetect_other {s : State} (h : s.pxl.link ≠ .detect) : tryDetect s = s := if_pos h

/-! ## The commands -/

section
variable {t : Nat} {s : State}

/-- The reasons for which a message is not taken, in their order. -/
theorem exec_trainMessage {lane : Fin 16} {m : TrainIn} (hears : fwdHears s lane.val = true) :
    exec (.trainMessageReceived t lane m) s = .next
      (if !trainOk m then setLane lane.val { laneOf s lane.val with testBad := true } (s.at t)
      else if m.ttype.toNat = 1 then
        if s.pxl.link = .detect then tryDetect (modPxl (fun p => { p with srcHello := m.mask.toNat })
          (setLane lane.val { laneOf s lane.val with hello := true } (s.at t)))
        else s.at t
      else if m.ttype.toNat = 2 ∧ s.pxl.link = .negotiate then
        nextStep (modPxl (fun p => { p with
          ftarget := min (oget s Ob.PXL_FWD_MAXRATE) m.frate.toNat
          btarget := min (oget s Ob.PXL_BACK_MAXRATE) m.brate.toNat }) (s.at t))
      else if m.ttype.toNat = 4 ∧ s.pxl.link = .stepBack ∧ s.pxl.awaitRes ∧ m.brate.toNat = s.pxl.stepRate then
        judgeBack m.mask.toNat (s.at t)
      else s.at t) := by
  have hgo : ¬(!fwdHears (s.at t) lane.val) = true := by
    rw [show fwdHears (s.at t) lane.val = true from hears]
    decide
  exact congrArg Host.Outcome.next (if_neg hgo)

theorem exec_acceptanceTestDone {eyes : List (List Nat)} (hlink : s.pxl.link = .stepFwd) (hidle : s.pxl.idle = false) :
    exec (.acceptanceTestDone t eyes) s = .next (judgeFwd (maskOf ((trainLanes s).filter (fun n => (laneOf s n).passes)))
      (each (trainLanes s) (fun n st => setCtle n (widestEye (eyes.getD n [])) st) (s.at t))) :=
  congrArg Host.Outcome.next (if_pos ⟨hlink, by rw [show (s.at t).pxl.idle = false from hidle]; rfl⟩)

theorem eachCtle_pxl (ns : List Nat) (found : Nat → Nat) (s : State) :
    (each ns (fun n st => setCtle n (found n) st) s).pxl = s.pxl :=
  each_keeps fun _ _ _ => rfl

theorem trainLanes_eachCtle (found : Nat → Nat) (s : State) :
    trainLanes (each (trainLanes s) (fun n st => setCtle n (found n) st) s) = trainLanes s := by
  have hp := eachCtle_pxl (trainLanes s) found s
  have hlanes : oget (each (trainLanes s) (fun n st => setCtle n (found n) st) s) Ob.PXL_LANES = oget s Ob.PXL_LANES := by
    refine each_keeps (obs := fun a => oget a Ob.PXL_LANES) fun n hn a => oget_oset_ne _ _ ?_
    have hlt := (mem_cfgLanes.mp (List.mem_of_mem_filter hn)).1
    have hctle : Ob.PXL_LANES + 16 ≤ Ob.PXL_CTLE ∨ Ob.PXL_CTLE + 16 ≤ Ob.PXL_LANES := by decide
    omega
  generalize each (trainLanes s) (fun n st => setCtle n (found n) st) s = a at hp hlanes ⊢
  unfold trainLanes
  rw [cfgLanes_congr hlanes]
  refine List.filter_congr fun n _ => ?_
  rw [laneOf_congr (congrArg Pxl.lanes hp)]

/-- A forward step that every lane passes. -/
theorem judgeFwd_passed {a : State} (ht : trainLanes a = trainLanes s)
    (hall : (trainLanes s).all (fun n => (laneOf s n).passes) = true) :
    judgeFwd (maskOf ((trainLanes s).filter (fun n => (laneOf s n).passes))) a = nextStep (fwdJudged (trainLanes a) a) := by
  refine judgeFwd_all (List.all_eq_true.mpr fun n hn => ?_)
  rw [ht] at hn
  rw [bit_maskOf]
  exact decide_eq_true (List.mem_filter.mpr ⟨hn, List.all_eq_true.mp hall n hn⟩)

/-- The rates and the lanes behind a forward step that is kept. -/
theorem fwdJudged_view (ok : List Nat) (a : State) : (fwdJudged ok a).pxl.brate = a.pxl.brate ∧
    (fwdJudged ok a).pxl.btarget = a.pxl.btarget ∧ (fwdJudged ok a).pxl.frate = a.pxl.frate ∧
    (fwdJudged ok a).pxl.ftarget = a.pxl.ftarget ∧ (fwdJudged ok a).pxl.session = a.pxl.session := by
  have h := fwdJudged_bare ok a
  generalize fwdJudged ok a = b at h ⊢
  exact ⟨(congrArg Pxl.brate h :), (congrArg Pxl.btarget h :), (congrArg Pxl.frate h :), (congrArg Pxl.ftarget h :),
    (congrArg Pxl.session h :)⟩

theorem trainLanes_fwdJudged (ok : List Nat) (a : State) : trainLanes (fwdJudged ok a) = trainLanes a := by
  have hobj : oget (fwdJudged ok a) Ob.PXL_LANES = oget a Ob.PXL_LANES :=
    each_keeps (obs := fun b => oget b Ob.PXL_LANES) fun _ _ _ => rfl
  unfold trainLanes
  rw [cfgLanes_congr hobj]
  refine List.filter_congr fun n _ => ?_
  refine each_keeps (obs := fun b => (laneOf b n).good) fun k _ b => ?_
  by_cases hk : n = k
  · subst hk
    exact (congrArg Lane.good (laneOf_setLane ..) :)
  · exact congrArg Lane.good (laneOf_setLane_ne hk ..)

/-- A write of PXL_RETRAIN that is accepted drops the link on the counted state. -/
theorem pxlRetrain_pxl {h : Hdr} {v : BitVec 8} (ht : writeTaken (s.at t) h Ob.PXL_RETRAIN v.toNat = true) :
    (writeRow h Ob.PXL_RETRAIN v.toNat ownPxlRetrain (s.at t)).pxl =
      if v.toNat = 0 ∨ s.pxl.link = .disabled then s.pxl else (dropLink 5 (counted (s.at t) h)).pxl := by
  rw [writeRow_of_taken ht, answerTaken_pxl]
  unfold ownPxlRetrain
  have hl : (counted (s.at t) h).pxl = s.pxl := counted_pxl h (s.at t)
  rw [hl]
  split
  · exact hl
  · rfl

theorem downLink_counted (t : Nat) (h : Hdr) (s : State) : downLink (counted (s.at t) h) = downLink s := by
  unfold downLink
  rw [oflag_counted h (s.at t) (by decide) (by decide)]
  rfl

end

/-! ## The obligation -/

theorem linkDrops (t : Nat) (s : State) :
    (s.pxl.link = .negotiate → ∃ s', exec (.capTimeout t) s = .next s' ∧
      s'.pxl.link = downLink s ∧ s'.pxl.downCause = 7) ∧
    (s.pxl.link = .go → ∃ s', exec (.goTimeout t) s = .next s' ∧ s'.pxl.link = downLink s ∧ s'.pxl.downCause = 3) ∧
    (s.pxl.link = .reconfig ∨ (s.pxl.link = .active ∧ s.pxl.prevLcn.isSome = true) →
      (lanesOf s.pxl.fmask).all (fun n => !(laneOf s n).newLcn) = true →
      ∃ s', exec (.reconfigTimeout t) s = .next s' ∧ s'.pxl.link = downLink s ∧ s'.pxl.downCause = 4 ∧
        s'.pxl.hadDrop = true) := by
  refine ⟨fun h => ?_, fun h => ?_, fun h hnone => ?_⟩
  · obtain ⟨hl, hc, -⟩ := dropLink_spec 7 (s.at t)
    exact ⟨_, congrArg Host.Outcome.next (if_pos h), hl, hc⟩
  · obtain ⟨hl, hc, -⟩ := dropLink_spec 3 (s.at t)
    exact ⟨_, congrArg Host.Outcome.next (if_pos h), hl, hc⟩
  · obtain ⟨hl, hc, hd, -⟩ := dropLink_spec 4 (s.at t)
    have hsession : inSession (s.at t) = true := by
      unfold inSession
      obtain h' | ⟨h', -⟩ := h
      · rw [show (s.at t).pxl.link = .reconfig from h']; rfl
      · rw [show (s.at t).pxl.link = .active from h']; rfl
    exact ⟨_, congrArg Host.Outcome.next (if_pos ⟨h, hnone⟩), hl, hc, hd hsession⟩

/-- Settles O8: each event is one operation on the link, whose messages on the back lanes change nothing else of it
(`Pxl.quiet`) and whose work on the lanes nothing but them (`Pxl.bare`). -/
theorem linkTrainsAndDrops : Obligations.LinkTrainsAndDrops := by
  unfold Obligations.LinkTrainsAndDrops
  refine ⟨fun t s => ?_, fun t s => ⟨fun lane m hears => ?_, fun hw hd => ?_, fun hi hl hle => ?_, fun hi hl hle => ?_,
    fun hl haw hb => ?_, fun eyes hl hi hne hnone => ?_, fun eyes hl hi hall hb hf => ?_,
    fun eyes hl hi hne hall hb hf => ?_⟩⟩
  · obtain ⟨h1, h2, h3⟩ := linkDrops t s
    refine ⟨h1, h2, h3, fun h v ht hv hdis => ?_, fun h v ht hv => ?_⟩
    · have hp := pxlRetrain_pxl ht
      have hne : v.toNat ≠ 0 := fun h0 => hv (BitVec.eq_of_toNat_eq h0)
      rw [if_neg (by simp [hne, hdis])] at hp
      obtain ⟨hlink, hc, -⟩ := dropLink_spec 5 (counted (s.at t) h)
      exact ⟨_, rfl, (congrArg Pxl.link hp).trans (hlink.trans (downLink_counted t h s)), (congrArg Pxl.downCause hp).trans hc⟩
    · have hp := pxlRetrain_pxl ht
      rw [if_pos (hv.imp_left fun h0 => by rw [h0]; rfl)] at hp
      exact ⟨_, rfl, hp⟩
  · have hx := exec_trainMessage (t := t) (m := m) hears
    have hlt := lane.isLt
    refine ⟨fun hok => ?_, fun hok htt hl => ?_, fun hok htt hl hrate => ?_, fun hok htt hl haw hr hall hb => ?_⟩
    · rw [if_pos (by simp [hok])] at hx
      exact ⟨_, hx, by rw [laneOf_setLane], rfl⟩
    · rw [if_neg (by simp [hok]), if_pos (by rw [htt]; rfl), if_pos hl] at hx
      obtain ⟨hs, hh⟩ := tryDetect_hello (modPxl (fun p => { p with srcHello := m.mask.toNat })
        (setLane lane.val { laneOf s lane.val with hello := true } (s.at t)))
      refine ⟨_, hx, hs, (hh lane.val hlt).trans ?_⟩
      exact congrArg Lane.hello (laneOf_setLane lane.val _ (s.at t))
    · rw [if_neg (by simp [hok]), if_neg (by rw [htt]; decide), if_pos ⟨by rw [htt]; rfl, hl⟩, nextStep_back hrate] at hx
      obtain ⟨h1, h2, h3, -, h5, h6⟩ := sendStep_spec false (s.pxl.brate + 1) (modPxl (fun p => { p with
        ftarget := min (oget s Ob.PXL_FWD_MAXRATE) m.frate.toNat
        btarget := min (oget s Ob.PXL_BACK_MAXRATE) m.brate.toNat }) (s.at t))
      exact ⟨_, hx, h5, h6, h1, h2, h3⟩
    · rw [if_neg (by simp [hok]), if_neg (by rw [htt]; decide), if_neg (by rw [htt]; exact fun h => absurd h.1 (by decide)),
        if_pos ⟨by rw [htt]; rfl, hl, haw, hr⟩, judgeBack_all (s := s.at t) hall, nextStep_back (s := backJudged (s.at t)) hb] at hx
      obtain ⟨h1, h2, h3, h4, -⟩ := sendStep_spec false ((backJudged (s.at t)).pxl.brate + 1) (backJudged (s.at t))
      exact ⟨_, hx, h1, h4, h2, h3⟩
  · obtain ⟨h1, h2, -⟩ := toNegotiate_spec (s.at t)
    exact ⟨_, congrArg Host.Outcome.next (if_pos ⟨hw, hd⟩), h1, h2⟩
  · refine ⟨_, congrArg Host.Outcome.next ((if_neg ?_).trans ((if_pos hl).trans (if_neg (Nat.not_lt.mpr hle)))), rfl, rfl, rfl⟩
    rw [show (s.at t).pxl.idle = true from hi]
    decide
  · refine ⟨_, congrArg Host.Outcome.next ((if_neg ?_).trans ((if_neg ?_).trans ((if_pos hl).trans
      (if_neg (Nat.not_lt.mpr hle))))), rfl, rfl⟩
    · rw [show (s.at t).pxl.idle = true from hi]
      decide
    · rw [show (s.at t).pxl.link = .stepFwd from hl]
      decide
  · have hne : backLanes (s.at t) ≠ [] := by
      intro hnil
      rw [backLanes, List.filter_eq_nil_iff] at hnil
      obtain h | h := hb
      · exact hnil 0 (by decide) h
      · exact hnil 1 (by decide) h
    have hx : exec (.resultTimeout t) s = .next (judgeBack 0 (s.at t)) :=
      congrArg Host.Outcome.next (if_pos ⟨hl, haw⟩)
    rw [judgeBack_none hne] at hx
    obtain ⟨h1, h2, h3, -, -, h6⟩ := sendStep_spec false (s.pxl.stepRate - 1)
      (modPxl (fun p => { p with btarget := s.pxl.stepRate - 1 }) (backJudged (s.at t)))
    exact ⟨_, hx, h1, h2, h6, h3⟩
  all_goals
    have hx := exec_acceptanceTestDone (t := t) (eyes := eyes) hl hi
    have hp := eachCtle_pxl (trainLanes s) (fun n => widestEye (eyes.getD n [])) (s.at t)
    have htl := trainLanes_eachCtle (fun n => widestEye (eyes.getD n [])) (s.at t)
    change trainLanes (each (trainLanes s) _ (s.at t)) = trainLanes s at htl
    generalize each (trainLanes s) (fun n st => setCtle n (widestEye (eyes.getD n [])) st) (s.at t) = a at hx hp htl ⊢
  · have hnil : ∀ n ∈ trainLanes a, bit (maskOf ((trainLanes s).filter (fun n => (laneOf s n).passes))) n = false := by
      intro n hn
      rw [htl] at hn
      have hno := List.all_eq_true.mp hnone n hn
      rw [bit_maskOf]
      simp only [Bool.not_eq_true'] at hno
      simp [hno]
    rw [judgeFwd_none (by rw [htl]; simpa using hne) hnil] at hx
    obtain ⟨h1, h2, h3, -, h5, -⟩ := sendStep_spec true (a.pxl.stepRate - 1)
      (modPxl (fun p => { p with ftarget := a.pxl.stepRate - 1 }) (fwdJudged [] a))
    have hr : a.pxl.stepRate = s.pxl.stepRate := congrArg Pxl.stepRate hp
    exact ⟨_, hx, h1, h5.trans (congrArg (· - 1) hr), h2.trans (congrArg (· - 1) hr), h3⟩
  · obtain ⟨v1, v2, v3, v4, -⟩ := fwdJudged_view (trainLanes a) a
    rw [judgeFwd_passed htl hall] at hx
    rw [hp] at v1 v2 v3 v4
    rw [nextStep_fwd (by rw [v1, v2]; exact hb) (by rw [v3, v4]; exact hf)] at hx
    obtain ⟨h1, h2, h3, -⟩ := sendStep_spec true ((fwdJudged (trainLanes a) a).pxl.frate + 1) (fwdJudged (trainLanes a) a)
    exact ⟨_, hx, h1, h2.trans (congrArg (· + 1) v3), h3⟩
  · obtain ⟨v1, v2, v3, v4, v5⟩ := fwdJudged_view (trainLanes a) a
    rw [judgeFwd_passed htl hall] at hx
    rw [hp] at v1 v2 v3 v4 v5
    rw [nextStep_go (by rw [v1, v2]; exact hb) (by rw [v3, v4]; exact hf)] at hx
    have ht : trainLanes (fwdJudged (trainLanes a) a) = trainLanes s := (trainLanes_fwdJudged ..).trans htl
    obtain ⟨h1, h2, h3, h4⟩ := sendGo_spec (s := fwdJudged (trainLanes a) a) (by rw [ht]; simpa using hne)
    rw [ht] at h3
    rw [v5] at h4
    exact ⟨_, hx, h1, h2, h3, h4⟩

end Sys2Proof.Machine
end

section
/-! PROOF. The lanes of the pixel link: blocks, markers, losses and background training. -/

namespace Sys2Proof.Machine
open Sys2Proof

/-! ## Work on one lane -/

/-- Nothing of the link but lane `n` has changed, and neither the memory, the transactions nor the pins. -/
structure OnLane (n : Nat) (a b : State) : Prop where
  bare : b.pxl.bare = a.pxl.bare
  other : ∀ k, k ≠ n → laneOf b k = laneOf a k
  mem : b.mem = a.mem
  trx : b.trx = a.trx
  pins : b.pins = a.pins

theorem OnLane.trans {n : Nat} {a b c : State} (h : OnLane n a b) (h' : OnLane n b c) : OnLane n a c :=
  ⟨h'.bare.trans h.bare, fun k hk => (h'.other k hk).trans (h.other k hk), h'.mem.trans h.mem, h'.trx.trans h.trx,
    h'.pins.trans h.pins⟩

theorem onLane_setLane (n : Nat) (v : Lane) (s : State) : OnLane n s (setLane n v s) :=
  ⟨rfl, fun _ hk => laneOf_setLane_ne hk .., rfl, rfl, rfl⟩

theorem onLane_counted (n c k : Nat) (s : State) : OnLane n s (evc c (cnt k s)) := by
  have hp : (evc c (cnt k s)).pxl = s.pxl := (evc_pxl ..).trans (cnt_pxl ..)
  exact ⟨congrArg Pxl.bare hp, fun j _ => laneOf_congr (congrArg Pxl.lanes hp) j, (evc_mem ..).trans (cnt_mem ..),
    (evc_trx ..).trans (cnt_trx ..), (evc_pins ..).trans (cnt_pins ..)⟩

/-- The parts of the link that a block asks for. -/
theorem OnLane.link {n : Nat} {a b : State} (h : OnLane n a b) : b.pxl.link = a.pxl.link ∧ b.pxl.fmask = a.pxl.fmask ∧
    b.pxl.pendMask = a.pxl.pendMask ∧ b.pxl.prevLcn = a.pxl.prevLcn :=
  ⟨(congrArg Pxl.link h.bare :), (congrArg Pxl.fmask h.bare :), (congrArg Pxl.pendMask h.bare :),
    (congrArg Pxl.prevLcn h.bare :)⟩

/-! ## The judgement of a block -/

section
variable {n : Nat} {m : MarkerIn} {s : State}

/-- A lane behind a valid marker. -/
def markedLane (n : Nat) (m : MarkerIn) (skew : Int) (s : State) : Lane :=
  { laneOf s n with
    badRun := 0, lastSeq := some m.seq, skew := skew
    newLcn := (laneOf s n).newLcn || (decide (m.type = 0) && decide (m.lcn = s.pxl.lcn) && decide (skew.natAbs ≤ 64))
    pendSeq := if m.type = 0 ∧ s.pxl.pendMask ≠ 0 ∧ m.lcn = s.pxl.pendLcn ∧ bit s.pxl.pendMask n ∧ skew.natAbs ≤ 64
      then some m.seq else (laneOf s n).pendSeq }

theorem judgeMarker_valid {skew : Int} (hok : markerOk s n m = true) (hskew : skew.natAbs ≤ 64) :
    judgeMarker n m skew s = setLane n (markedLane n m skew s) s := by
  unfold judgeMarker
  dsimp only
  rw [if_neg (by simp [hok]), if_neg (Nat.not_lt.mpr hskew)]
  simp only [decide_eq_true_eq]
  rfl

theorem judgeMarker_invalid {skew : Int} (hbad : markerOk s n m = false) : judgeMarker n m skew s = badMarker n s :=
  if_pos (by simp [hbad])

theorem judgeStuff_none : judgeStuff n 0 s = setLane n { laneOf s n with stuffRun := 0 } s := by
  unfold judgeStuff
  exact if_pos rfl

/-- The first bad marker of a run is counted, and fails the lane's test. -/
theorem badMarker_first (h : (laneOf s n).badRun = 0) : badMarker n s =
    setLane n { laneOf s n with badRun := 1, lastSeq := (laneOf s n).lastSeq.map (fun q => (q + 1) % 256), testBad := true }
      (evc (0x10 + n) (cnt (Ob.PXL_ERR_MARKER + n) s)) := by
  unfold badMarker
  dsimp only
  rw [h, if_neg (by decide)]

/-- A second one fails the lane. -/
theorem badMarker_again (h : (laneOf s n).badRun ≠ 0) : badMarker n s = failLane n 2
    (setLane n { laneOf s n with
      badRun := (laneOf s n).badRun + 1, lastSeq := (laneOf s n).lastSeq.map (fun q => (q + 1) % 256), testBad := true }
      (evc (0x10 + n) (cnt (Ob.PXL_ERR_MARKER + n) s))) :=
  if_pos (by omega)

/-- Whether the payload of a block is kept for its stripe block. -/
def keepsPayload (n : Nat) (ok : Bool) (m : MarkerIn) (s : State) : Bool :=
  (laneOf s n).mlock && !(laneOf s n).discard && (!ok || decide (m.type = 0)) &&
    lcnKept s (if ok then m.lcn else s.pxl.lcn) && (bit s.pxl.fmask n || bit s.pxl.pendMask n)

/-- A lane behind the payload of a block. -/
def paidLane (n : Nat) (ok : Bool) (m : MarkerIn) (payload : List (BitVec 32)) (s : State) : Lane :=
  { laneOf s n with
    hist := BitVec.ofNat 23 (descrambleAll (laneOf s n).hist.toNat payload).2
    discard := (laneOf s n).discard && !(laneOf s n).mlock
    wordsSeq := if keepsPayload n ok m s then
      (laneOf s n).lastSeq.map (fun q => (if ok then m.lcn else s.pxl.lcn) * 256 + q) else none
    words := if keepsPayload n ok m s then (descrambleAll (laneOf s n).hist.toNat payload).1 else []
    ptr := if ok then some m.hdrPtr else none }

theorem keepPayload_sets {ok : Bool} {payload : List (BitVec 32)}
    (h : (laneOf s n).discard = false ∨ bit s.pxl.fmask n = false) :
    keepPayload n ok m payload s = setLane n (paidLane n ok m payload s) s := by
  unfold keepPayload
  dsimp only
  rw [if_neg (by obtain h | h := h <;> simp [h])]
  rfl

/-! ## What a block completes -/

theorem lcnArrived_none (hgo : s.pxl.link ≠ .go) (hre : s.pxl.link ≠ .reconfig)
    (hprev : s.pxl.link = .active → s.pxl.prevLcn = none) : lcnArrived s = s := by
  have hwait : ¬(s.pxl.link = .active ∧ s.pxl.prevLcn.isSome = true) := by
    rintro ⟨ha, hp⟩
    rw [hprev ha] at hp
    exact absurd hp (by decide)
  unfold lcnArrived
  rw [if_neg hgo, if_neg hre, if_neg hwait, ite_self]

theorem offerSeen_none (h : s.pxl.pendMask = 0) : offerSeen s = false := by
  have hnil : lanesOf s.pxl.pendMask = [] := by
    rw [h]
    exact List.filter_eq_nil_iff.mpr fun i _ => by simp [bit]
  unfold offerSeen
  dsimp only
  rw [hnil]
  rfl

theorem assemble_waits {key k : Nat} (hk : k < 16) (hbit : bit s.pxl.fmask k = true) (hword : (laneOf s k).wordsSeq = none) :
    assemble key s = s := by
  have hany : (lanesOf s.pxl.fmask).any (fun n => decide ((laneOf s n).wordsSeq ≠ some key)) = true :=
    List.any_eq_true.mpr ⟨k, mem_lanesOf.mpr ⟨hk, hbit⟩, by simp [hword]⟩
  exact if_pos (.inr (.inr hany))

/-- A block on a link in NEGOTIATE completes nothing. -/
theorem blockDone_negotiate (hl : s.pxl.link = .negotiate) (hw : (laneOf s n).wordsSeq = none) : blockDone n s = s := by
  unfold blockDone
  rw [tryDetect_other (by rw [hl]; decide), lcnArrived_none (by rw [hl]; decide) (by rw [hl]; decide)
    (fun h => absurd (hl.symm.trans h) (by decide))]
  dsimp only
  rw [if_neg (by rw [hl]; exact fun h => absurd h.1 (by decide)), hw]

/-- A block on an ACTIVE link that awaits nothing waits for the block of another lane. -/
theorem blockDone_waits {k : Nat} (hl : s.pxl.link = .active) (hpend : s.pxl.pendMask = 0) (hprev : s.pxl.prevLcn = none)
    (hk : k < 16) (hbit : bit s.pxl.fmask k = true) (hword : (laneOf s k).wordsSeq = none) : blockDone n s = s := by
  unfold blockDone
  rw [tryDetect_other (by rw [hl]; decide), lcnArrived_none (by rw [hl]; decide) (by rw [hl]; decide) (fun _ => hprev)]
  dsimp only
  rw [if_neg (by rw [offerSeen_none hpend]; exact fun h => absurd h.2 (by decide))]
  split
  · exact assemble_waits hk hbit hword
  · rfl

end

/-! ## A block as it is received -/

/-- The lane that has taken a block off the line. -/
def blockTaken (n : Nat) (line : LineBits) (s : State) : State :=
  setLane n { laneOf s n with run := (destuff (laneOf s n).run line).run } s

theorem laneOf_blockTaken (n : Nat) (line : LineBits) (s : State) : laneOf (blockTaken n line s) n =
    { laneOf s n with run := (destuff (laneOf s n).run line).run } := laneOf_setLane ..

theorem markerOk_blockTaken (n : Nat) (line : LineBits) (s : State) (m : MarkerIn) :
    markerOk (blockTaken n line s) n m = markerOk s n m := by
  unfold markerOk seqNext
  rw [laneOf_blockTaken]

section
variable {t n : Nat} {lane : Fin 16} {line : LineBits} {skew : Int} {s : State}

/-- A block on a lane that hears and is marker-locked. -/
theorem exec_laneBlock (hears : fwdHears s lane.val = true) (hlock : (laneOf s lane.val).mlock = true) :
    exec (.laneBlockReceived t lane line skew) s = .next (blockDone lane.val (keepPayload lane.val
      (markerOk s lane.val (blockMarker s lane.val line)) (blockMarker s lane.val line)
      (payloadWords (destuff (laneOf s lane.val).run line).out)
      (judgeStuff lane.val (blockBad s lane.val line)
        (judgeMarker lane.val (blockMarker s lane.val line) skew (blockTaken lane.val line (s.at t)))))) := by
  have hgo : ¬(!fwdHears (s.at t) lane.val) = true := by
    rw [show fwdHears (s.at t) lane.val = true from hears]
    decide
  have hl : (laneOf (s.at t) lane.val).mlock = true := hlock
  change Host.Outcome.next _ = _
  rw [if_neg hgo]
  dsimp only
  rw [if_pos hl]
  rfl

/-- The state behind the marker and the stuffing of a valid block. -/
def validJudged (n : Nat) (m : MarkerIn) (skew : Int) (a : State) : State :=
  setLane n { markedLane n m skew a with stuffRun := 0 } (setLane n (markedLane n m skew a) a)

theorem validJudged_spec (n : Nat) (m : MarkerIn) (skew : Int) (a : State) : OnLane n a (validJudged n m skew a) ∧
    laneOf (validJudged n m skew a) n = { markedLane n m skew a with stuffRun := 0 } :=
  ⟨(onLane_setLane ..).trans (onLane_setLane ..), laneOf_setLane ..⟩

theorem judged_valid {m : MarkerIn} {a : State} (hok : markerOk a n m = true) (hskew : skew.natAbs ≤ 64) :
    judgeStuff n 0 (judgeMarker n m skew a) = validJudged n m skew a := by
  rw [judgeMarker_valid hok hskew, judgeStuff_none, laneOf_setLane]
  rfl

/-- A valid block without a violation is taken on its lane alone, before what it completes. -/
theorem exec_validBlock (hears : fwdHears s lane.val = true) (hlock : (laneOf s lane.val).mlock = true)
    (hok : markerOk s lane.val (blockMarker s lane.val line) = true) (hbad : blockBad s lane.val line = 0)
    (hskew : skew.natAbs ≤ 64) (hdrop : (laneOf s lane.val).discard = false ∨ bit s.pxl.fmask lane.val = false) :
    ∃ b, exec (.laneBlockReceived t lane line skew) s = .next (blockDone lane.val b) ∧ OnLane lane.val (s.at t) b ∧
      (laneOf b lane.val).lastSeq = some (blockMarker s lane.val line).seq ∧ (laneOf b lane.val).badRun = 0 ∧
      (laneOf b lane.val).stuffRun = 0 ∧ (laneOf b lane.val).skew = skew ∧
      ∀ keeps, keeps = keepsPayload lane.val true (blockMarker s lane.val line)
        (validJudged lane.val (blockMarker s lane.val line) skew (blockTaken lane.val line (s.at t))) →
        (laneOf b lane.val).wordsSeq = (if keeps then
          some ((blockMarker s lane.val line).lcn * 256 + (blockMarker s lane.val line).seq) else none) ∧
        (laneOf b lane.val).words = (if keeps then (descrambleAll (laneOf s lane.val).hist.toNat
          (payloadWords (destuff (laneOf s lane.val).run line).out)).1 else []) := by
  have hx := exec_laneBlock (t := t) (line := line) (skew := skew) hears hlock
  have htake := laneOf_blockTaken lane.val line (s.at t)
  have hon : OnLane lane.val (s.at t) (blockTaken lane.val line (s.at t)) := onLane_setLane ..
  have hmark : markerOk (blockTaken lane.val line (s.at t)) lane.val (blockMarker s lane.val line) = true :=
    (markerOk_blockTaken ..).trans hok
  rw [hbad, judged_valid hmark hskew, hok] at hx
  generalize blockMarker s lane.val line = m at *
  generalize blockTaken lane.val line (s.at t) = a at *
  obtain ⟨hon', hlane⟩ := validJudged_spec lane.val m skew a
  generalize validJudged lane.val m skew a = c at *
  have hdisc : (laneOf c lane.val).discard = (laneOf s lane.val).discard := by
    rw [hlane]
    exact (congrArg Lane.discard htake :)
  have hhist : (laneOf c lane.val).hist = (laneOf s lane.val).hist := by
    rw [hlane]
    exact (congrArg Lane.hist htake :)
  obtain ⟨-, hmask, -⟩ := (hon.trans hon').link
  rw [keepPayload_sets (hdrop.imp hdisc.trans fun h => (congrArg (bit · lane.val) hmask).trans h)] at hx
  refine ⟨_, hx, (hon.trans hon').trans (onLane_setLane ..), ?_, ?_, ?_, ?_, fun keeps hk => ?_⟩
  all_goals rw [laneOf_setLane]
  · exact congrArg Lane.lastSeq hlane
  · exact congrArg Lane.badRun hlane
  · exact congrArg Lane.stuffRun hlane
  · exact congrArg Lane.skew hlane
  · unfold paidLane
    rw [← hk, hhist, hlane]
    exact ⟨rfl, rfl⟩

end

end Sys2Proof.Machine
end

section
/-! PROOF. O9: the lanes' blocks, their losses and their background training. -/

namespace Sys2Proof.Machine
open Sys2Proof

/-! ## Valid blocks -/

theorem lcnKept_of_bare {a b : State} (h : b.pxl.bare = a.pxl.bare) (lcn : Nat) : lcnKept b lcn = lcnKept a lcn := by
  have h1 : b.pxl.lcn = a.pxl.lcn := (congrArg Pxl.lcn h :)
  have h2 : b.pxl.pendMask = a.pxl.pendMask := (congrArg Pxl.pendMask h :)
  have h3 : b.pxl.pendLcn = a.pxl.pendLcn := (congrArg Pxl.pendLcn h :)
  have h4 : b.pxl.prevLcn = a.pxl.prevLcn := (congrArg Pxl.prevLcn h :)
  unfold lcnKept
  rw [h1, h2, h3, h4]

/-- A valid block's payload is kept as the lane stood before the block. -/
theorem keepsPayload_judged (n t : Nat) (line : LineBits) (m : MarkerIn) (skew : Int) (s : State) :
    keepsPayload n true m (validJudged n m skew (blockTaken n line (s.at t))) = ((laneOf s n).mlock && !(laneOf s n).discard &&
      decide (m.type = 0) && lcnKept s m.lcn && (bit s.pxl.fmask n || bit s.pxl.pendMask n)) := by
  have htake := laneOf_blockTaken n line (s.at t)
  have hon : OnLane n (s.at t) (blockTaken n line (s.at t)) := onLane_setLane ..
  generalize blockTaken n line (s.at t) = a at htake hon ⊢
  obtain ⟨hon', hlane⟩ := validJudged_spec n m skew a
  have hall := hon.trans hon'
  obtain ⟨-, hmask, hpend, -⟩ := hall.link
  have hlcn := lcnKept_of_bare hall.bare m.lcn
  generalize validJudged n m skew a = c at hlane hmask hpend hlcn ⊢
  have hlock : (laneOf c n).mlock = (laneOf s n).mlock := by
    rw [hlane]
    exact (congrArg Lane.mlock htake :)
  have hdisc : (laneOf c n).discard = (laneOf s n).discard := by
    rw [hlane]
    exact (congrArg Lane.discard htake :)
  unfold keepsPayload
  rw [hlock, hdisc, if_pos rfl, hlcn, hmask, hpend]
  rfl

section
variable {t : Nat} {lane : Fin 16} {line : LineBits} {skew : Int} {s : State}

/-- A valid block of a lane that trains on. -/
theorem validBlock_training (hears : fwdHears s lane.val = true) (hlock : (laneOf s lane.val).mlock = true)
    (hok : markerOk s lane.val (blockMarker s lane.val line) = true) (hbad : blockBad s lane.val line = 0)
    (hskew : skew.natAbs ≤ 64) (hl : s.pxl.link = .negotiate) (hmask : bit s.pxl.fmask lane.val = false)
    (hpend : bit s.pxl.pendMask lane.val = false) :
    ∃ s', exec (.laneBlockReceived t lane line skew) s = .next s' ∧
      (laneOf s' lane.val).lastSeq = some (blockMarker s lane.val line).seq ∧ (laneOf s' lane.val).badRun = 0 ∧
      (laneOf s' lane.val).stuffRun = 0 ∧ (laneOf s' lane.val).skew = skew ∧
      s'.mem = s.mem ∧ s'.pins = s.pins ∧ s'.trx = s.trx := by
  obtain ⟨b, hx, hon, hseq, hrun, hstuff, hsk, hword⟩ := exec_validBlock (t := t) hears hlock hok hbad hskew (.inr hmask)
  have hkeeps := keepsPayload_judged lane.val t line (blockMarker s lane.val line) skew s
  rw [hmask, hpend, Bool.or_self, Bool.and_false] at hkeeps
  obtain ⟨hnone, -⟩ := hword false hkeeps.symm
  obtain ⟨hlink, -⟩ := hon.link
  rw [blockDone_negotiate (hlink.trans hl) hnone] at hx
  exact ⟨b, hx, hseq, hrun, hstuff, hsk, hon.mem, hon.pins, hon.trx⟩

/-- A valid block of a session, whose stripe block waits for another lane. -/
theorem validBlock_session {k : Nat} (hears : fwdHears s lane.val = true) (hlock : (laneOf s lane.val).mlock = true)
    (hok : markerOk s lane.val (blockMarker s lane.val line) = true) (hbad : blockBad s lane.val line = 0)
    (hskew : skew.natAbs ≤ 64) (hl : s.pxl.link = .active) (hpend : s.pxl.pendMask = 0) (hprev : s.pxl.prevLcn = none)
    (hdisc : (laneOf s lane.val).discard = false) (hk : k < 16) (hne : k ≠ lane.val) (hbit : bit s.pxl.fmask k = true)
    (hwait : (laneOf s k).wordsSeq = none) (hmask : bit s.pxl.fmask lane.val = true)
    (htype : (blockMarker s lane.val line).type = 0) (hlcn : (blockMarker s lane.val line).lcn = s.pxl.lcn) :
    ∃ s', exec (.laneBlockReceived t lane line skew) s = .next s' ∧
      (laneOf s' lane.val).lastSeq = some (blockMarker s lane.val line).seq ∧ (laneOf s' lane.val).badRun = 0 ∧
      (laneOf s' lane.val).wordsSeq = some (s.pxl.lcn * 256 + (blockMarker s lane.val line).seq) ∧
      (laneOf s' lane.val).words =
        (descrambleAll (laneOf s lane.val).hist.toNat (payloadWords (destuff (laneOf s lane.val).run line).out)).1 ∧
      s'.mem = s.mem ∧ s'.trx = s.trx := by
  obtain ⟨b, hx, hon, hseq, hrun, -, -, hword⟩ := exec_validBlock (t := t) hears hlock hok hbad hskew (.inl hdisc)
  have hkeeps := keepsPayload_judged lane.val t line (blockMarker s lane.val line) skew s
  have hkept : lcnKept s (blockMarker s lane.val line).lcn = true := by simp [lcnKept, hlcn]
  rw [hlock, hdisc, htype, hkept, hmask] at hkeeps
  obtain ⟨hsome, hwords⟩ := hword true (hkeeps.trans (show _ = true from rfl)).symm
  obtain ⟨hlink, hfm, hpm, hpl⟩ := hon.link
  rw [blockDone_waits (k := k) (hlink.trans hl) (hpm.trans hpend) (hpl.trans hprev) hk ((congrArg (bit · k) hfm).trans hbit)
    ((congrArg Lane.wordsSeq (hon.other k hne)).trans hwait)] at hx
  rw [if_pos rfl, hlcn] at hsome
  exact ⟨b, hx, hseq, hrun, hsome, hwords, hon.mem, hon.trx⟩

/-! ## Bad markers -/

theorem notCounter_errMarker (lane : Fin 16) : notCounter (Ob.PXL_ERR_MARKER + lane.val) = true := by
  have hlt := lane.isLt
  have hbelow : Ob.PXL_ERR_MARKER + 16 ≤ Ob.EVC_VAL := by decide
  unfold notCounter
  rw [Bool.or_eq_true]
  exact .inl (decide_eq_true (by omega))

/-- The state behind the first bad marker of a run. -/
def markerFailed (n : Nat) (a : State) : State :=
  setLane n { laneOf a n with badRun := 1, lastSeq := (laneOf a n).lastSeq.map (fun q => (q + 1) % 256), testBad := true }
    (evc (0x10 + n) (cnt (Ob.PXL_ERR_MARKER + n) a))

theorem markerFailed_on (n : Nat) (a : State) : OnLane n a (markerFailed n a) :=
  (onLane_counted n (0x10 + n) (Ob.PXL_ERR_MARKER + n) a).trans (onLane_setLane ..)

theorem laneOf_markerFailed (n : Nat) (a : State) : laneOf (markerFailed n a) n =
    { laneOf a n with badRun := 1, lastSeq := (laneOf a n).lastSeq.map (fun q => (q + 1) % 256), testBad := true } :=
  laneOf_setLane ..

theorem oget_markerFailed (lane : Fin 16) (a : State) : oget (markerFailed lane.val a) (Ob.PXL_ERR_MARKER + lane.val) =
    satInc 0xFFFFFFFF (oget a (Ob.PXL_ERR_MARKER + lane.val)) := by
  unfold markerFailed
  rw [oget_setLane, oget_evc _ _ _ (notCounter_errMarker lane), oget_cnt_same]

/-- A block with an invalid marker in training is counted, and fails the test of its lane. -/
theorem invalidBlock_training (hears : fwdHears s lane.val = true) (hlock : (laneOf s lane.val).mlock = true)
    (hok : markerOk s lane.val (blockMarker s lane.val line) = false) (hbad : blockBad s lane.val line = 0)
    (hl : s.pxl.link = .negotiate) (hrun : (laneOf s lane.val).badRun = 0) (hmask : bit s.pxl.fmask lane.val = false)
    (hpend : bit s.pxl.pendMask lane.val = false) :
    ∃ s', exec (.laneBlockReceived t lane line skew) s = .next s' ∧ (laneOf s' lane.val).badRun = 1 ∧
      (laneOf s' lane.val).testBad = true ∧
      oget s' (Ob.PXL_ERR_MARKER + lane.val) = satInc 0xFFFFFFFF (oget s (Ob.PXL_ERR_MARKER + lane.val)) ∧
      s'.mem = s.mem ∧ s'.trx = s.trx := by
  have hx := exec_laneBlock (t := t) (line := line) (skew := skew) hears hlock
  have htake := laneOf_blockTaken lane.val line (s.at t)
  have hon : OnLane lane.val (s.at t) (blockTaken lane.val line (s.at t)) := onLane_setLane ..
  have hcount : oget (blockTaken lane.val line (s.at t)) (Ob.PXL_ERR_MARKER + lane.val) =
      oget s (Ob.PXL_ERR_MARKER + lane.val) := rfl
  have hmark : markerOk (blockTaken lane.val line (s.at t)) lane.val (blockMarker s lane.val line) = false :=
    (markerOk_blockTaken ..).trans hok
  rw [hbad, judgeMarker_invalid hmark, hok] at hx
  generalize blockMarker s lane.val line = m at hx
  generalize blockTaken lane.val line (s.at t) = a at hx htake hon hcount
  rw [badMarker_first (by rw [htake]; exact hrun), ← markerFailed.eq_1, judgeStuff_none] at hx
  have hfail := (hon.trans (markerFailed_on lane.val a)).trans
    (onLane_setLane lane.val { laneOf (markerFailed lane.val a) lane.val with stuffRun := 0 } _)
  have hlane : (laneOf (setLane lane.val { laneOf (markerFailed lane.val a) lane.val with stuffRun := 0 }
      (markerFailed lane.val a)) lane.val).badRun = 1 ∧ (laneOf (setLane lane.val
      { laneOf (markerFailed lane.val a) lane.val with stuffRun := 0 } (markerFailed lane.val a)) lane.val).testBad = true := by
    rw [laneOf_setLane, laneOf_markerFailed]
    exact ⟨rfl, rfl⟩
  have hobj : oget (setLane lane.val { laneOf (markerFailed lane.val a) lane.val with stuffRun := 0 } (markerFailed lane.val a))
      (Ob.PXL_ERR_MARKER + lane.val) = satInc 0xFFFFFFFF (oget s (Ob.PXL_ERR_MARKER + lane.val)) := by
    rw [oget_setLane, oget_markerFailed, hcount]
  generalize setLane lane.val { laneOf (markerFailed lane.val a) lane.val with stuffRun := 0 } (markerFailed lane.val a) = c
    at hx hfail hlane hobj
  obtain ⟨hlink, hfm, hpm, -⟩ := hfail.link
  have hm : bit c.pxl.fmask lane.val = false := (congrArg (bit · lane.val) hfm).trans hmask
  have hp : bit c.pxl.pendMask lane.val = false := (congrArg (bit · lane.val) hpm).trans hpend
  have hkeeps : keepsPayload lane.val false m c = false := by
    unfold keepsPayload
    rw [hm, hp, Bool.or_self, Bool.and_false]
  have hdone (payload : List (BitVec 32)) : blockDone lane.val (setLane lane.val (paidLane lane.val false m payload c) c) =
      setLane lane.val (paidLane lane.val false m payload c) c :=
    blockDone_negotiate (hlink.trans hl) (by rw [laneOf_setLane, paidLane, hkeeps]; rfl)
  rw [keepPayload_sets (.inr hm), hdone] at hx
  refine ⟨_, hx, ?_, ?_, (oget_setLane ..).trans hobj, hfail.mem, hfail.trx⟩
  · rw [laneOf_setLane]
    exact hlane.1
  · rw [laneOf_setLane]
    exact hlane.2

/-- The lane whose marker is missing holds no words. -/
def wordsGone (n : Nat) (a : State) : State := setLane n { laneOf a n with wordsSeq := none, words := [], ptr := none } a

theorem exec_markerMissing (hears : fwdHears s lane.val = true) (hlock : (laneOf s lane.val).mlock = true) :
    exec (.markerMissing t lane) s = .next (badMarker lane.val (wordsGone lane.val (s.at t))) := by
  refine congrArg Host.Outcome.next (if_neg ?_)
  rintro (h | h)
  · rw [show fwdHears (s.at t) lane.val = true from hears] at h
    exact absurd h (by decide)
  · rw [show (laneOf (s.at t) lane.val).mlock = true from hlock] at h
    exact absurd h (by decide)

/-- The first marker missing is counted, and the lane stays locked. -/
theorem markerMissing_first (hears : fwdHears s lane.val = true) (hlock : (laneOf s lane.val).mlock = true)
    (hrun : (laneOf s lane.val).badRun = 0) :
    ∃ s', exec (.markerMissing t lane) s = .next s' ∧ (laneOf s' lane.val).badRun = 1 ∧ (laneOf s' lane.val).mlock = true ∧
      oget s' (Ob.PXL_ERR_MARKER + lane.val) = satInc 0xFFFFFFFF (oget s (Ob.PXL_ERR_MARKER + lane.val)) ∧
      s'.mem = s.mem ∧ s'.trx = s.trx := by
  have hx := exec_markerMissing (t := t) hears hlock
  have hgone : laneOf (wordsGone lane.val (s.at t)) lane.val =
      { laneOf s lane.val with wordsSeq := none, words := [], ptr := none } := laneOf_setLane ..
  have hon : OnLane lane.val (s.at t) (wordsGone lane.val (s.at t)) := onLane_setLane ..
  have hcount : oget (wordsGone lane.val (s.at t)) (Ob.PXL_ERR_MARKER + lane.val) =
      oget s (Ob.PXL_ERR_MARKER + lane.val) := rfl
  generalize wordsGone lane.val (s.at t) = a at hx hgone hon hcount
  rw [badMarker_first (by rw [hgone]; exact hrun), ← markerFailed.eq_1] at hx
  have hlane := laneOf_markerFailed lane.val a
  have hobj := oget_markerFailed lane a
  have hfail := hon.trans (markerFailed_on lane.val a)
  generalize markerFailed lane.val a = c at hx hlane hobj hfail
  refine ⟨c, hx, (congrArg Lane.badRun hlane :), ?_, by rw [hobj, hcount], hfail.mem, hfail.trx⟩
  exact (congrArg Lane.mlock hlane :).trans ((congrArg Lane.mlock hgone :).trans hlock)

end

/-! ## The loss of the last active lane -/

theorem markLost_pxl (n cause : Nat) (s : State) : (markLost n cause s).pxl.bare = s.pxl.bare ∧
    (laneOf (markLost n cause s) n).good = false ∧ ∀ k, k ≠ n → laneOf (markLost n cause s) k = laneOf s k := by
  have hp : (evc n (cnt (Ob.PXL_ERR_LOSS + n) (resetLane n s))).pxl = s.pxl :=
    (evc_pxl ..).trans ((cnt_pxl ..).trans (resetLane_pxl ..))
  unfold markLost
  generalize evc n (cnt (Ob.PXL_ERR_LOSS + n) (resetLane n s)) = a at hp ⊢
  refine ⟨(bare_setLane ..).trans (congrArg Pxl.bare hp), by rw [laneOf_setLane]; rfl, fun k hk => ?_⟩
  rw [laneOf_setLane_ne hk]
  exact laneOf_congr (congrArg Pxl.lanes hp) k

theorem oget_markLost {k n : Nat} (hc : notCounter k = true) (h1 : k ≠ Ob.JRN_SEQ) (h2 : k ≠ Ob.WNP_EVTPEND)
    (h3 : k ≠ Ob.PXL_ERR_LOSS + n) (cause : Nat) (s : State) : oget (markLost n cause s) k = oget s k := by
  unfold markLost
  rw [oget_setLane, oget_evc _ _ _ hc, oget_cnt_ne _ h3, oget_resetLane hc n h1 h2]

/-- The loss of the only good lane drops the link with cause 1. -/
theorem failLane_last {n : Nat} (hn : n < 16) {s : State} (cause : Nat) (hl : s.pxl.link = .active)
    (hmask : bit s.pxl.fmask n = true)
    (honly : (cfgLanes s).all (fun k => decide (k = n) || !(laneOf s k).good) = true) :
    (failLane n cause s).pxl.link = downLink s ∧ (failLane n cause s).pxl.downCause = 1 ∧
      (failLane n cause s).pxl.srcHello = 0 := by
  obtain ⟨-, hbad, hother⟩ := markLost_pxl n cause s
  have hbelow : Ob.PXL_ENABLE < Ob.PXL_ERR_LOSS ∧ Ob.PXL_LANES < Ob.PXL_ERR_LOSS := by decide
  have hlanes := oget_markLost (k := Ob.PXL_LANES) (n := n) (by decide) (by decide) (by decide) (by omega) cause s
  have hen := oget_markLost (k := Ob.PXL_ENABLE) (n := n) (by decide) (by decide) (by decide) (by omega) cause s
  have hnone : goodLanes (markLost n cause s) = [] := by
    refine List.filter_eq_nil_iff.mpr fun k hk => ?_
    rw [cfgLanes_congr hlanes] at hk
    have hk' := List.all_eq_true.mp honly k hk
    by_cases h : k = n
    · subst h
      simp [hbad]
    · rw [hother k h]
      simp_all
  have hfail : failLane n cause s = dropLink 1 (markLost n cause s) := by
    unfold failLane loseLane
    rw [if_pos ⟨hmask, .inl hl⟩, narrow_drops hnone]
  obtain ⟨hlink, hcause, -, -, -, hhello⟩ := dropLink_spec 1 (markLost n cause s)
  rw [hfail]
  refine ⟨hlink.trans ?_, hcause, hhello⟩
  unfold downLink oflag
  rw [hen]

/-- A link that has heard no HELLO stays where it is. -/
theorem tryDetect_unheard {s : State} (h : s.pxl.srcHello = 0) : (tryDetect s).pxl.link = s.pxl.link ∧
    (tryDetect s).pxl.downCause = s.pxl.downCause := by
  have hq := quiet_sendHello s
  have hsrc : (sendHello s).pxl.srcHello = 0 := (congrArg Pxl.srcHello hq :).trans h
  have hlink : (sendHello s).pxl.link = s.pxl.link := (congrArg Pxl.link hq :)
  have hcause : (sendHello s).pxl.downCause = s.pxl.downCause := (congrArg Pxl.downCause hq :)
  unfold tryDetect
  generalize sendHello s = a at hsrc hlink hcause ⊢
  have hno : detectDone a = false := by
    unfold detectDone
    rw [hsrc]
    simp
  dsimp only
  split
  · exact ⟨rfl, rfl⟩
  · rw [if_pos (by simp [hno])]
    exact ⟨hlink, hcause⟩

/-- The state in which a second bad marker fails its lane. -/
def markerFailedAgain (n : Nat) (a : State) : State :=
  setLane n { laneOf a n with
    badRun := (laneOf a n).badRun + 1, lastSeq := (laneOf a n).lastSeq.map (fun q => (q + 1) % 256), testBad := true }
    (evc (0x10 + n) (cnt (Ob.PXL_ERR_MARKER + n) a))

theorem markerFailedAgain_on (n : Nat) (a : State) : OnLane n a (markerFailedAgain n a) :=
  (onLane_counted n (0x10 + n) (Ob.PXL_ERR_MARKER + n) a).trans (onLane_setLane ..)

theorem oget_markerFailedAgain {k : Nat} (hc : notCounter k = true) (hk : k < Ob.PXL_ERR_MARKER) (n : Nat) (a : State) :
    oget (markerFailedAgain n a) k = oget a k := by
  unfold markerFailedAgain
  rw [oget_setLane, oget_evc _ _ _ hc, oget_cnt_ne _ (by omega)]

section
variable {t : Nat} {lane : Fin 16} {s : State}

/-- The second marker missing on the only good lane. -/
theorem markerMissing_last (hears : fwdHears s lane.val = true) (hlock : (laneOf s lane.val).mlock = true)
    (hrun : (laneOf s lane.val).badRun ≠ 0) (hl : s.pxl.link = .active) (hmask : bit s.pxl.fmask lane.val = true)
    (honly : (cfgLanes s).all (fun n => decide (n = lane.val) || !(laneOf s n).good) = true) :
    ∃ s', exec (.markerMissing t lane) s = .next s' ∧ s'.pxl.link = downLink s ∧ s'.pxl.downCause = 1 := by
  have hx := exec_markerMissing (t := t) hears hlock
  have hgone : laneOf (wordsGone lane.val (s.at t)) lane.val =
      { laneOf s lane.val with wordsSeq := none, words := [], ptr := none } := laneOf_setLane ..
  have hon : OnLane lane.val (s.at t) (wordsGone lane.val (s.at t)) := onLane_setLane ..
  have hobj (k : Nat) : oget (wordsGone lane.val (s.at t)) k = oget s k := rfl
  generalize wordsGone lane.val (s.at t) = a at hx hgone hon hobj
  rw [badMarker_again (by rw [hgone]; exact hrun), ← markerFailedAgain.eq_1] at hx
  have hon' := hon.trans (markerFailedAgain_on lane.val a)
  have hobj' (k : Nat) (hc : notCounter k = true) (hk : k < Ob.PXL_ERR_MARKER) :
      oget (markerFailedAgain lane.val a) k = oget s k := (oget_markerFailedAgain hc hk ..).trans (hobj k)
  generalize markerFailedAgain lane.val a = c at hx hon' hobj'
  obtain ⟨hlink, hfm, -⟩ := hon'.link
  have hall : (cfgLanes c).all (fun k => decide (k = lane.val) || !(laneOf c k).good) = true := by
    rw [cfgLanes_congr (hobj' Ob.PXL_LANES (by decide) (by decide)), List.all_eq_true]
    intro k hk
    by_cases h : k = lane.val
    · simp [h]
    · rw [hon'.other k h]
      exact List.all_eq_true.mp honly k hk
  obtain ⟨h1, h2, -⟩ := failLane_last lane.isLt 2 (hlink.trans hl) ((congrArg (bit · lane.val) hfm).trans hmask) hall
  refine ⟨_, hx, h1.trans ?_, h2⟩
  unfold downLink oflag
  rw [hobj' Ob.PXL_ENABLE (by decide) (by decide)]

/-- The lane out of lock, before the loss is judged. -/
def lockLost (n : Nat) (a : State) : State :=
  setLane n { laneOf a n with cdr := false, mlock := false, lastSeq := none, testBad := true } (resetLane n a)

theorem lockLost_spec (n : Nat) (a : State) : (lockLost n a).pxl.bare = a.pxl.bare ∧
    laneOf (lockLost n a) n = { laneOf a n with cdr := false, mlock := false, lastSeq := none, testBad := true } ∧
    (∀ k, k ≠ n → laneOf (lockLost n a) k = laneOf a k) ∧
    ∀ k, notCounter k = true → k ≠ Ob.JRN_SEQ → k ≠ Ob.WNP_EVTPEND → oget (lockLost n a) k = oget a k := by
  have hp := resetLane_pxl n a
  refine ⟨(bare_setLane ..).trans (congrArg Pxl.bare hp), laneOf_setLane .., fun k hk => ?_, fun k hc h1 h2 => ?_⟩
  · exact (laneOf_setLane_ne hk ..).trans (laneOf_congr (congrArg Pxl.lanes hp) k)
  · exact (oget_setLane ..).trans (oget_resetLane hc n h1 h2 a)

theorem exec_cdrLossOfLock (hears : fwdHears s lane.val = true) :
    exec (.cdrLossOfLock t lane) s = .next (tryDetect (failLane lane.val 1 (lockLost lane.val (s.at t)))) := by
  have hgo : ¬(!fwdHears (s.at t) lane.val) = true := by
    rw [show fwdHears (s.at t) lane.val = true from hears]
    decide
  refine congrArg Host.Outcome.next ((if_neg hgo).trans ?_)
  have hlane : laneOf (resetLane lane.val (s.at t)) lane.val = laneOf (s.at t) lane.val :=
    laneOf_congr (congrArg Pxl.lanes (resetLane_pxl lane.val (s.at t))) lane.val
  unfold lockLost
  rfl

/-- A failure of a lane that is not active leaves it out of lock as it was. -/
theorem failOutside_spec (n cause : Nat) (s : State) : (failOutside n cause s).pxl.link = s.pxl.link ∧
    (laneOf (failOutside n cause s) n).cdr = (laneOf s n).cdr ∧ (laneOf (failOutside n cause s) n).mlock = false := by
  unfold failOutside
  dsimp only
  split
  · rw [laneOf_setLane]
    exact ⟨rfl, rfl, rfl⟩
  · split
    · rw [laneOf_setLane]
      exact ⟨(congrArg Pxl.link (resetLane_pxl n s) :), rfl, rfl⟩
    · rw [laneOf_setLane]
      exact ⟨rfl, rfl, rfl⟩

/-! ## Background training -/

/-- The offer of a mask and its message leave the lanes. -/
theorem laneOf_offered (mask code m lcn time pat dir n : Nat) (b : State) : laneOf (sendLinkstate code m lcn time pat dir
    (modPxl (fun p => { p with pendMask := mask, pendLcn := (p.lcn + 1) % 16 }) b)) n = laneOf b n := rfl

/-- An offer leaves every lane's training as it is. -/
theorem offer_lane {n : Nat} (hn : n < 16) (a : State) : (laneOf (offer a) n).bg = (laneOf a n).bg ∧
    (laneOf (offer a) n).good = (laneOf a n).good ∧ (laneOf (offer a) n).lastRate = (laneOf a n).lastRate := by
  unfold offer
  dsimp only
  split
  · rw [laneOf_offered, laneOf_eachLane hn]
    exact ⟨rfl, rfl, rfl⟩
  · exact ⟨rfl, rfl, rfl⟩

theorem backgroundTraining (t : Nat) (lane : Fin 16) (eyes : List Nat) (s : State) (hin : inSession s = true) :
    ((laneOf s lane.val).bg = .training → lane.val < oget s Ob.PXL_LANES → bit s.pxl.fmask lane.val = false →
      ((laneOf s lane.val).passes = true → ∃ s', exec (.backgroundRetrainDone t lane eyes) s = .next s' ∧
        (laneOf s' lane.val).bg = .passed ∧ (laneOf s' lane.val).good = true ∧
        (laneOf s' lane.val).lastRate = s.pxl.frate ∧ s'.mem = s.mem) ∧
      ((laneOf s lane.val).passes = false → ∃ s', exec (.backgroundRetrainDone t lane eyes) s = .next s' ∧
        (laneOf s' lane.val).bg = .retryWait ∧ s'.trx = s.trx ∧ s'.obj = s.obj)) ∧
    ((laneOf s lane.val).bg = .retryWait → ∃ s', exec (.backgroundRetryTimer t lane) s = .next s' ∧
      (laneOf s' lane.val).bg = .training ∧ (laneOf s' lane.val).testBad = false ∧ s'.trx = s.trx ∧ s'.obj = s.obj) := by
  refine ⟨fun hbg hn hmask => ?_, fun hbg => ?_⟩
  · have hgo : ¬((!inSession (s.at t)) = true ∨ (laneOf (s.at t) lane.val).bg ≠ .training ∨
        oget (s.at t) Ob.PXL_LANES ≤ lane.val ∨ bit (s.at t).pxl.fmask lane.val = true) := by
      rintro (h | h | h | h)
      · rw [show inSession (s.at t) = true from hin] at h
        exact absurd h (by decide)
      · exact h hbg
      · exact absurd hn (Nat.not_lt.mpr h)
      · exact absurd (h.symm.trans (show bit (s.at t).pxl.fmask lane.val = false from hmask)) (by decide)
    refine ⟨fun hpass => ?_, fun hfail => ?_⟩
    · have hx : exec (.backgroundRetrainDone t lane eyes) s = .next (offer (setCtle lane.val (widestEye eyes)
          (setLane lane.val { laneOf s lane.val with bg := .passed, good := true, lastRate := s.pxl.frate } (s.at t)))) :=
        congrArg Host.Outcome.next ((if_neg hgo).trans (if_pos hpass))
      obtain ⟨h1, h2, h3⟩ := offer_lane lane.isLt (setCtle lane.val (widestEye eyes)
        (setLane lane.val { laneOf s lane.val with bg := .passed, good := true, lastRate := s.pxl.frate } (s.at t)))
      have hl : laneOf (setCtle lane.val (widestEye eyes)
          (setLane lane.val { laneOf s lane.val with bg := .passed, good := true, lastRate := s.pxl.frate } (s.at t)))
          lane.val = { laneOf s lane.val with bg := .passed, good := true, lastRate := s.pxl.frate } := laneOf_setLane ..
      rw [hl] at h1 h2 h3
      exact ⟨_, hx, h1, h2, h3, exec_mem hx (by simp [footprint])⟩
    · have hx : exec (.backgroundRetrainDone t lane eyes) s = .next
          (setLane lane.val { laneOf s lane.val with bg := .retryWait } (s.at t)) :=
        congrArg Host.Outcome.next ((if_neg hgo).trans (if_neg (by
          rw [show (laneOf (s.at t) lane.val).passes = false from hfail]
          decide)))
      exact ⟨_, hx, by rw [laneOf_setLane], rfl, rfl⟩
  · refine ⟨_, congrArg Host.Outcome.next (if_pos ⟨hin, hbg⟩), ?_, ?_, rfl, rfl⟩
    · rw [laneOf_setLane]
    · rw [laneOf_setLane]

end

/-- Settles O9: a block works on its lane alone (`OnLane`), and completes nothing on the links of these clauses; the loss of
the only good lane is a drop, behind which no HELLO has been heard. -/
theorem lanesFollowAndRetrain : Obligations.LanesFollowAndRetrain := by
  unfold Obligations.LanesFollowAndRetrain
  refine ⟨fun t lane s hears => ⟨fun line skew hlock hok hbad hskew hl hmask hpend => ?_,
    fun line skew k hlock hok hbad hskew hl hpend hprev hdisc hk hne hbit hwait hmask htype hlcn => ?_,
    fun line skew hlock hok hbad hl hrun hmask hpend => ?_, fun hlock hrun => markerMissing_first hears hlock hrun,
    fun hlock hrun hl hmask honly => markerMissing_last hears hlock hrun hl hmask honly, fun hl => ?_,
    fun hl hmask honly => ?_⟩, fun t lane eyes s hin => backgroundTraining t lane eyes s hin⟩
  · exact validBlock_training hears hlock hok hbad hskew hl hmask hpend
  · exact validBlock_session hears hlock hok hbad hskew hl hpend hprev hdisc hk hne hbit hwait hmask htype hlcn
  · exact invalidBlock_training hears hlock hok hbad hl hrun hmask hpend
  all_goals
    have hx := exec_cdrLossOfLock (t := t) hears
    obtain ⟨hbare, hlane, hother, hobj⟩ := lockLost_spec lane.val (s.at t)
    have hlink : (lockLost lane.val (s.at t)).pxl.link = s.pxl.link := (congrArg Pxl.link hbare :)
    have hfm : (lockLost lane.val (s.at t)).pxl.fmask = s.pxl.fmask := (congrArg Pxl.fmask hbare :)
  · have hfail : failLane lane.val 1 (lockLost lane.val (s.at t)) = failOutside lane.val 1 (lockLost lane.val (s.at t)) := by
      refine if_neg ?_
      rintro ⟨-, h | h⟩
      · exact absurd (hlink.symm.trans h |>.symm.trans hl) (by decide)
      · exact absurd (hlink.symm.trans h |>.symm.trans hl) (by decide)
    obtain ⟨h1, h2, h3⟩ := failOutside_spec lane.val 1 (lockLost lane.val (s.at t))
    have hneg : (failOutside lane.val 1 (lockLost lane.val (s.at t))).pxl.link = .negotiate := h1.trans (hlink.trans hl)
    have hmem := exec_mem hx (by simp [footprint])
    rw [hfail, tryDetect_other (by rw [hneg]; decide)] at hx hmem
    refine ⟨_, hx, h2.trans ?_, h3, hmem, hneg⟩
    rw [hlane]
  · have hall : (cfgLanes (lockLost lane.val (s.at t))).all
        (fun k => decide (k = lane.val) || !(laneOf (lockLost lane.val (s.at t)) k).good) = true := by
      rw [cfgLanes_congr (hobj Ob.PXL_LANES (by decide) (by decide) (by decide)), List.all_eq_true]
      intro k hk
      by_cases h : k = lane.val
      · simp [h]
      · rw [hother k h]
        exact List.all_eq_true.mp honly k hk
    obtain ⟨h1, h2, h3⟩ := failLane_last lane.isLt 1 (hlink.trans hl) ((congrArg (bit · lane.val) hfm).trans hmask) hall
    obtain ⟨h4, h5⟩ := tryDetect_unheard h3
    refine ⟨_, hx, h4.trans (h1.trans ?_), h5.trans h2⟩
    unfold downLink oflag
    rw [hobj Ob.PXL_ENABLE (by decide) (by decide) (by decide)]
    rfl

end Sys2Proof.Machine
end

section
/-! PROOF. O14: the link control packets. -/

namespace Sys2Proof.Machine
open Sys2Proof

/-! ## The loss of several lanes -/

theorem laneOf_markLost (n cause : Nat) (s : State) : (laneOf (markLost n cause s) n).good = false ∧
    (laneOf (markLost n cause s) n).lossCause = cause := by
  unfold markLost
  rw [laneOf_setLane]
  exact ⟨rfl, rfl⟩

/-- The lanes of a list are lost, each with its cause. -/
def lanesLost (ls : List Nat) (cause : Nat → Nat) (s : State) : State := each ls (fun n => markLost n (cause n)) s

section
variable {ls : List Nat} {cause : Nat → Nat} {s : State}

theorem bare_lanesLost : (lanesLost ls cause s).pxl.bare = s.pxl.bare :=
  each_keeps (obs := fun a => a.pxl.bare) fun n _ a => (markLost_pxl n (cause n) a).1

theorem laneOf_lanesLost_other {k : Nat} (hk : k ∉ ls) : laneOf (lanesLost ls cause s) k = laneOf s k :=
  each_keeps (obs := fun a => laneOf a k) fun n hn a =>
    (markLost_pxl n (cause n) a).2.2 k fun h => hk (h ▸ hn)

/-- A lane that is lost is good no more, and shows its cause. -/
theorem laneOf_lanesLost {n : Nat} (hn : n ∈ ls) (hnd : ls.Nodup) : (laneOf (lanesLost ls cause s) n).good = false ∧
    (laneOf (lanesLost ls cause s) n).lossCause = cause n := by
  obtain ⟨a, -, hout⟩ := each_at (obs := fun a => laneOf a n) (f := fun n => markLost n (cause n)) hn hnd
    (fun m hm b => (markLost_pxl m (cause m) b).2.2 n hm.symm) s
  have hl : laneOf (lanesLost ls cause s) n = laneOf (markLost n (cause n) a) n := hout
  rw [hl]
  exact laneOf_markLost n (cause n) a

theorem oget_lanesLost {k : Nat} (hc : notCounter k = true) (h1 : k ≠ Ob.JRN_SEQ)
    (h2 : k ≠ Ob.WNP_EVTPEND) (h3 : k < Ob.PXL_ERR_LOSS) : oget (lanesLost ls cause s) k = oget s k :=
  each_keeps (obs := fun a => oget a k) fun _ _ a => oget_markLost hc h1 h2 (by omega) _ a

theorem lossCause_placed (l : Lane) (was now : Bool) : (l.placed was now).lossCause = l.lossCause := by
  unfold Lane.placed
  dsimp only
  split
  · rfl
  · split <;> rfl

/-- A link that loses lanes but has a good one left goes on without them. -/
theorem narrow_lanesLost {k n : Nat} (hls : ∀ n ∈ ls, n < 16) (hnd : ls.Nodup) (hk : k ∉ ls) (hcfg : k ∈ cfgLanes s)
    (hgood : (laneOf s k).good = true) (hheld : (laneOf s k).heldFail = 0) (hn : n ∈ ls) :
    (narrow (lanesLost ls cause s)).pxl.link = .reconfig ∧
    (narrow (lanesLost ls cause s)).pxl.lcn = (s.pxl.lcn + 1) % 16 ∧ (narrow (lanesLost ls cause s)).pxl.pendMask = 0 ∧
    (narrow (lanesLost ls cause s)).pxl.relock = s.pxl.relock ∧
    bit (narrow (lanesLost ls cause s)).pxl.fmask n = false ∧
    (laneOf (narrow (lanesLost ls cause s)) n).lossCause = cause n := by
  obtain ⟨hbad, hcause⟩ := laneOf_lanesLost (cause := cause) (s := s) hn hnd
  have hbare := bare_lanesLost (ls := ls) (cause := cause) (s := s)
  have hlanes := oget_lanesLost (cause := cause) (s := s) (ls := ls) (k := Ob.PXL_LANES) (by decide) (by decide) (by decide) (by decide)
  have hkeep := laneOf_lanesLost_other (cause := cause) (s := s) hk
  generalize lanesLost ls cause s = x at hbad hcause hbare hlanes hkeep ⊢
  have hne : goodLanes x ≠ [] := by
    have hmem : k ∈ goodLanes x := by
      unfold goodLanes
      rw [cfgLanes_congr hlanes]
      exact List.mem_filter.mpr ⟨hcfg, by rw [hkeep, hgood, hheld]; rfl⟩
    exact List.ne_nil_of_mem hmem
  obtain ⟨hlink, hmask, hlcn, hpend, hrel, hlane⟩ := narrow_spec hne
  have h1 : x.pxl.lcn = s.pxl.lcn := (congrArg Pxl.lcn hbare :)
  have h2 : x.pxl.relock = s.pxl.relock := (congrArg Pxl.relock hbare :)
  refine ⟨hlink, by rw [hlcn, h1], hpend, hrel.trans h2, ?_, ?_⟩
  · rw [hmask, bit_maskOf]
    refine decide_eq_false fun hin => ?_
    have hf := (List.mem_filter.mp (mem_of_mem_widest hin)).2
    simp [hbad] at hf
  · rw [hlane n (hls n hn), lossCause_placed, hcause]

end

/-! ## SWITCH -/

/-- The lanes of an offer that failed while it was pending. -/
def failedOffer (s : State) : List Nat := (lanesOf s.pxl.pendMask).filter (fun n => decide ((laneOf s n).heldFail ≠ 0))

/-- A lane as an offer that is taken finds it. -/
def offeredLane (s : State) (n : Nat) (l : Lane) : Lane :=
  let l1 : Lane := { l with pendSeq := none, newLcn := false }
  if bit s.pxl.pendMask n then { l1 with good := true, bg := .off } else if bit s.pxl.fmask n then l1.retrain else l1

/-- A mask that was offered comes into force. -/
def maskTaken (m : Nat) (a : State) : State :=
  loseBoundary (modPxl (fun p => { p with fmask := m, lcn := p.pendLcn, pendMask := 0, pendLcn := 0 }) a)

/-- The offer in force, before its failures count. -/
def offerTaken (s : State) : State := maskTaken s.pxl.pendMask (eachLane (offeredLane s) s)

theorem takeOffer_eq {s : State} (h : s.pxl.pendMask ≠ 0) : takeOffer s = if (failedOffer s).isEmpty then offerTaken s
    else narrow (lanesLost (failedOffer s) (fun n => (laneOf s n).heldFail) (offerTaken s)) := if_neg h

theorem takeOffer_none {s : State} (h : s.pxl.pendMask = 0) : takeOffer s = s := if_pos h

/-- What a change of the lanes and of the offer leaves of the link. -/
theorem maskTaken_of_bare {a b : State} (m : Nat) (h : a.pxl.bare = b.pxl.bare) :
    (maskTaken m a).pxl.lcn = b.pxl.pendLcn ∧ (maskTaken m a).pxl.link = b.pxl.link :=
  ⟨(congrArg Pxl.pendLcn h :), (congrArg Pxl.link h :)⟩

theorem maskTaken_spec (m : Nat) (a : State) : (maskTaken m a).pxl.fmask = m ∧ (maskTaken m a).pxl.pendMask = 0 ∧
    (∀ n, laneOf (maskTaken m a) n = laneOf a n) ∧ ∀ k, oget (maskTaken m a) k = oget a k :=
  ⟨rfl, rfl, fun _ => rfl, fun _ => rfl⟩

theorem offerTaken_spec (s : State) : (offerTaken s).pxl.fmask = s.pxl.pendMask ∧ (offerTaken s).pxl.lcn = s.pxl.pendLcn ∧
    (offerTaken s).pxl.pendMask = 0 ∧ (offerTaken s).pxl.link = s.pxl.link := by
  obtain ⟨hlcn, hlink⟩ := maskTaken_of_bare s.pxl.pendMask (bare_eachLane (offeredLane s) s)
  obtain ⟨hmask, hpend, -⟩ := maskTaken_spec s.pxl.pendMask (eachLane (offeredLane s) s)
  exact ⟨hmask, hlcn, hpend, hlink⟩

theorem laneOf_offerTaken {n : Nat} (hn : n < 16) (s : State) : laneOf (offerTaken s) n = offeredLane s n (laneOf s n) := by
  obtain ⟨-, -, hlane, -⟩ := maskTaken_spec s.pxl.pendMask (eachLane (offeredLane s) s)
  exact (hlane n).trans (laneOf_eachLane hn ..)

theorem oget_offerTaken (k : Nat) (s : State) : oget (offerTaken s) k = oget s k := by
  obtain ⟨-, -, -, hobj⟩ := maskTaken_spec s.pxl.pendMask (eachLane (offeredLane s) s)
  exact (hobj k).trans (oget_eachLane ..)

theorem offeredLane_in {s : State} {n : Nat} (h : bit s.pxl.pendMask n = true) (l : Lane) :
    (offeredLane s n l).good = true ∧ (offeredLane s n l).heldFail = l.heldFail := by
  unfold offeredLane
  dsimp only
  rw [if_pos h]
  exact ⟨rfl, rfl⟩

theorem ne_zero_of_bit {m i : Nat} (h : bit m i = true) : m ≠ 0 := by
  rintro rfl
  simp [bit] at h

/-- An offer with a failed lane is taken without it, where another lane is good. -/
theorem takeOffer_failed {k n : Nat} {s : State} (hk : bit s.pxl.pendMask k = true) (hk16 : k < 16)
    (hcfg : k < oget s Ob.PXL_LANES) (hheld : (laneOf s k).heldFail = 0) (hn16 : n < 16) (hn : bit s.pxl.pendMask n = true)
    (hfail : (laneOf s n).heldFail ≠ 0) : (takeOffer s).pxl.link = .reconfig ∧
      (takeOffer s).pxl.lcn = (s.pxl.pendLcn + 1) % 16 ∧ (takeOffer s).pxl.pendMask = 0 ∧
      bit (takeOffer s).pxl.fmask n = false := by
  have hmem : n ∈ failedOffer s := List.mem_filter.mpr ⟨mem_lanesOf.mpr ⟨hn16, hn⟩, decide_eq_true hfail⟩
  have hnot : k ∉ failedOffer s := fun h => of_decide_eq_true (List.mem_filter.mp h).2 hheld
  have hls : ∀ x ∈ failedOffer s, x < 16 := fun x hx => (mem_lanesOf.mp (List.mem_of_mem_filter hx)).1
  have hnd : (failedOffer s).Nodup := (List.nodup_range.filter _).filter _
  have hne : ¬(failedOffer s).isEmpty = true := fun h => by
    rw [List.isEmpty_iff.mp h] at hmem
    exact absurd hmem List.not_mem_nil
  obtain ⟨hgood, hheld'⟩ := offeredLane_in hk (laneOf s k)
  rw [← laneOf_offerTaken hk16] at hgood hheld'
  obtain ⟨-, hlcn, -⟩ := offerTaken_spec s
  have hcfg' : k ∈ cfgLanes (offerTaken s) := mem_cfgLanes.mpr ⟨hk16, by rw [oget_offerTaken]; exact hcfg⟩
  obtain ⟨h1, h2, h3, -, h5, -⟩ := narrow_lanesLost (cause := fun n => (laneOf s n).heldFail) hls hnd hnot hcfg' hgood
    (hheld'.trans hheld) hmem
  rw [takeOffer_eq (ne_zero_of_bit hk), if_neg hne]
  exact ⟨h1, h2.trans (by rw [hlcn]), h3, h5⟩

/-! ## BACKLOSS -/

/-- The back lanes that are left. -/
def backLeft (lost : Nat) (s : State) : Nat := maskOf ([0, 1].filter (fun n => bit s.pxl.bmask n && !bit lost n))

theorem loseBack_none {lost : Nat} {s : State} (h : backLeft lost s = s.pxl.bmask) : loseBack lost s = s := if_pos h

theorem loseBack_all {lost : Nat} {s : State} (h : backLeft lost s ≠ s.pxl.bmask) (h0 : backLeft lost s = 0) :
    loseBack lost s = dropLink 2 s :=
  (if_neg h).trans (if_pos h0)

/-- A change of the lanes, of the back mask and of the LCN leaves the link where it is. -/
theorem backNarrowed_of_bare {a b : State} (left : Nat) (h : a.pxl.bare = b.pxl.bare) :
    (modPxl (fun p => { p with
      bmask := left, lcn := (p.lcn + 1) % 16, pendMask := 0, pendLcn := 0
      prevLcn := if p.link = .active then some p.lcn else none }) a).pxl.lcn = (b.pxl.lcn + 1) % 16 ∧
    (modPxl (fun p => { p with
      bmask := left, lcn := (p.lcn + 1) % 16, pendMask := 0, pendLcn := 0
      prevLcn := if p.link = .active then some p.lcn else none }) a).pxl.link = b.pxl.link :=
  ⟨(congrArg (fun p : Pxl => (p.lcn + 1) % 16) h :), (congrArg Pxl.link h :)⟩

theorem loseBack_some {lost : Nat} {s : State} (h : backLeft lost s ≠ s.pxl.bmask) (h0 : backLeft lost s ≠ 0) :
    (loseBack lost s).pxl.bmask = backLeft lost s ∧ (loseBack lost s).pxl.lcn = (s.pxl.lcn + 1) % 16 ∧
    (loseBack lost s).pxl.link = s.pxl.link ∧ (loseBack lost s).pxl.pendMask = 0 := by
  obtain ⟨hlcn, hlink⟩ := backNarrowed_of_bare (backLeft lost s)
    (bare_eachLane (fun _ l => { l with newLcn := false, pendSeq := none }) s)
  unfold backLeft at h h0 hlcn hlink ⊢
  unfold loseBack
  dsimp only
  rw [if_neg h, if_neg h0]
  exact ⟨rfl, hlcn, hlink, rfl⟩

/-! ## The packets -/

section
variable {t : Nat} {hdr : BitVec 128} {s : State} (hup : linkUp s = true)
include hup

/-- A packet that the link takes. -/
theorem packet_taken {a b : State} : (if !linkUp (s.at t) then a else b) = b := by
  rw [show linkUp (s.at t) = true from hup]
  rfl

theorem linkctlSwitch_spec :
    (s.pxl.pendMask ≠ 0 → (lanesOf s.pxl.pendMask).all (fun n => decide ((laneOf s n).heldFail = 0)) = true →
      ∃ s', exec (.linkctlSwitch t) s = .next s' ∧ s'.pxl.fmask = s.pxl.pendMask ∧ s'.pxl.lcn = s.pxl.pendLcn ∧
        s'.pxl.pendMask = 0 ∧ s'.pxl.link = s.pxl.link ∧ s'.mem = s.mem) ∧
    (∀ k n : Fin 16, bit s.pxl.pendMask k.val = true → k.val < oget s Ob.PXL_LANES → (laneOf s k.val).heldFail = 0 →
      bit s.pxl.pendMask n.val = true → (laneOf s n.val).heldFail ≠ 0 →
      ∃ s', exec (.linkctlSwitch t) s = .next s' ∧ s'.pxl.link = .reconfig ∧ s'.pxl.lcn = (s.pxl.pendLcn + 1) % 16 ∧
        s'.pxl.pendMask = 0 ∧ bit s'.pxl.fmask n.val = false ∧ s'.mem = s.mem) ∧
    (s.pxl.pendMask = 0 → exec (.linkctlSwitch t) s = .next (acceptPkt (s.at t))) := by
  have hx : exec (.linkctlSwitch t) s = .next (takeOffer (acceptPkt (s.at t))) :=
    congrArg Host.Outcome.next (packet_taken hup)
  have hmem := exec_mem hx (by simp [footprint])
  refine ⟨fun hpend hall => ?_, fun k n hk hcfg hheld hn hfail => ?_, fun hpend => ?_⟩
  · have hnone : failedOffer (acceptPkt (s.at t)) = [] :=
      List.filter_eq_nil_iff.mpr fun n hn => by
        have h0 : (laneOf (acceptPkt (s.at t)) n).heldFail = 0 := of_decide_eq_true (List.all_eq_true.mp hall n hn)
        simp [h0]
    obtain ⟨h1, h2, h3, h4⟩ := offerTaken_spec (acceptPkt (s.at t))
    rw [takeOffer_eq (s := acceptPkt (s.at t)) hpend, hnone, if_pos (by rfl)] at hx hmem
    exact ⟨_, hx, h1, h2, h3, h4, hmem⟩
  · obtain ⟨h1, h2, h3, h4⟩ := takeOffer_failed (s := acceptPkt (s.at t)) hk k.isLt hcfg hheld n.isLt hn hfail
    exact ⟨_, hx, h1, h2, h3, h4, hmem⟩
  · rw [hx, takeOffer_none (s := acceptPkt (s.at t)) hpend]

theorem linkctlSleep_spec :
    (s.pxl.sleepReq = true → ∃ s', exec (.linkctlSleep t) s = .next s' ∧ s'.pxl.link = .sleep ∧ s'.pxl.fwdAsleep = true ∧
      s'.pxl.sleepReq = false ∧ s'.mem = s.mem) ∧
    (s.pxl.sleepReq = false → exec (.linkctlSleep t) s = .next (acceptPkt (s.at t))) := by
  refine ⟨fun hreq => ?_, fun hreq => ?_⟩
  · have hx : exec (.linkctlSleep t) s = .next (setLink .sleep (modPxl (fun p => { p with sleepReq := false, fwdAsleep := true })
        (loseBoundary (eachLane (fun _ l => { l with cdr := false, mlock := false, lastSeq := none })
          (each (List.range 16) resetLane (acceptPkt (s.at t))))))) :=
      congrArg Host.Outcome.next ((packet_taken hup).trans (if_pos hreq))
    have hmem := exec_mem hx (by simp [footprint])
    generalize eachLane _ (each (List.range 16) resetLane (acceptPkt (s.at t))) = a at hx hmem
    have hp := setLink_pxl .sleep (modPxl (fun p => { p with sleepReq := false, fwdAsleep := true }) (loseBoundary a))
    exact ⟨_, hx, (congrArg Pxl.link hp :), (congrArg Pxl.fwdAsleep hp :), (congrArg Pxl.sleepReq hp :), hmem⟩
  · refine congrArg Host.Outcome.next ((packet_taken hup).trans (if_neg ?_))
    rw [show (acceptPkt (s.at t)).pxl.sleepReq = false from hreq]
    decide

theorem linkctlBackloss_spec (left : Nat) (hleft : left = backLeft (linkctlLost hdr.toNat) s) :
    (left ≠ s.pxl.bmask → left ≠ 0 → ∃ s', exec (.linkctlBackloss t hdr) s = .next s' ∧ s'.pxl.bmask = left ∧
      s'.pxl.lcn = (s.pxl.lcn + 1) % 16 ∧ s'.pxl.link = s.pxl.link ∧ s'.pxl.pendMask = 0 ∧ s'.mem = s.mem) ∧
    (left ≠ s.pxl.bmask → left = 0 → ∃ s', exec (.linkctlBackloss t hdr) s = .next s' ∧ s'.pxl.link = downLink s ∧
      s'.pxl.downCause = 2 ∧ s'.mem = s.mem) ∧
    (left = s.pxl.bmask → exec (.linkctlBackloss t hdr) s = .next (acceptPkt (s.at t))) := by
  subst hleft
  have hx : exec (.linkctlBackloss t hdr) s = .next (loseBack (linkctlLost hdr.toNat) (acceptPkt (s.at t))) :=
    congrArg Host.Outcome.next (packet_taken hup)
  have hmem := exec_mem hx (by simp [footprint])
  refine ⟨fun hne h0 => ?_, fun hne h0 => ?_, fun heq => ?_⟩
  · obtain ⟨h1, h2, h3, h4⟩ := loseBack_some (s := acceptPkt (s.at t)) hne h0
    exact ⟨_, hx, h1, h2, h3, h4, hmem⟩
  · rw [loseBack_all (s := acceptPkt (s.at t)) hne h0] at hx hmem
    obtain ⟨h1, h2, -⟩ := dropLink_spec 2 (acceptPkt (s.at t))
    exact ⟨_, hx, h1, h2, hmem⟩
  · rw [hx, loseBack_none (s := acceptPkt (s.at t)) heq]

theorem linkctlDigestReq_spec : ∃ s', exec (.linkctlDigestReq t) s = .next s' ∧
    s'.trx.back.length = s.trx.back.length + 1 ∧ s'.trx.accepted = satInc 0xFFFFFFFF s.trx.accepted ∧ s'.pxl = s.pxl ∧
    s'.mem = s.mem := by
  have hx : exec (.linkctlDigestReq t) s = .next (sendDigest 0 (acceptPkt (s.at t)).trx.accepted (acceptPkt (s.at t))) :=
    congrArg Host.Outcome.next (packet_taken hup)
  refine ⟨_, hx, ?_, ?_, ?_, exec_mem hx (by simp [footprint])⟩
  · unfold sendDigest
    rw [evc_trx]
    exact List.length_append
  · unfold sendDigest
    rw [evc_trx]
    rfl
  · unfold sendDigest
    rw [evc_pxl]
    rfl

theorem linkctlBadop_spec (hop : linkctlOp hdr.toNat = 0 ∨ 5 ≤ linkctlOp hdr.toNat) :
    ∃ s', exec (.linkctlBadop t hdr) s = .next s' ∧
      oget s' Ob.TRX_BADOP = satInc 0xFFFFFFFF (oget s Ob.TRX_BADOP) ∧ s'.pxl = s.pxl ∧ s'.mem = s.mem := by
  have hx : exec (.linkctlBadop t hdr) s = .next (cnt Ob.TRX_BADOP (acceptPkt (s.at t))) := by
    refine congrArg Host.Outcome.next (if_neg ?_)
    rintro (h | h)
    · rw [show linkUp (s.at t) = true from hup] at h
      exact absurd h (by decide)
    · omega
  refine ⟨_, hx, ?_, rfl, exec_mem hx (by simp [footprint])⟩
  rw [oget_cnt_same]
  rfl

theorem headerLost_spec : ∃ s', exec (.headerLost t) s = .next s' ∧ s'.pxl.needPtr = true ∧
    oget s' Ob.TRX_HDRLOST = satInc 0xFFFFFFFF (oget s Ob.TRX_HDRLOST) ∧ s'.mem = s.mem := by
  have hx : exec (.headerLost t) s = .next (backEvent 1 0 s.trx.accepted (evc 0x36 (cnt Ob.TRX_HDRLOST
      (loseBoundary (forgetPartial (s.at t)))))) := congrArg Host.Outcome.next (packet_taken hup)
  have hobj : oget (loseBoundary (forgetPartial (s.at t))) Ob.TRX_HDRLOST = oget s Ob.TRX_HDRLOST :=
    oget_congr ((frameOf kept_forgetPartial (s.at t)).obj (by decide)) _
  refine ⟨_, hx, ?_, ?_, exec_mem hx (by simp [footprint])⟩
  · rw [backEvent_pxl, evc_pxl, cnt_pxl]
    rfl
  · rw [oget_backEvent (by decide), oget_evc _ _ _ (by decide), oget_cnt_same, hobj]

end

/-- A link that is not up takes no packet. -/
theorem packets_refused {t : Nat} {hdr : BitVec 128} {s : State} (hdown : linkUp s = false) :
    ∀ c ∈ [Instr.linkctlSwitch t, .linkctlSleep t, .linkctlBackloss t hdr, .linkctlDigestReq t, .linkctlBadop t hdr,
      .headerLost t, .srcframe t hdr, .groupBegin t hdr, .groupEnd t hdr, .token t hdr], exec c s = .next (s.at t) := by
  have hno : (!linkUp (s.at t)) = true := by
    rw [show linkUp (s.at t) = false from hdown]
    rfl
  intro c hc
  simp only [List.mem_cons, List.not_mem_nil, or_false] at hc
  obtain rfl | rfl | rfl | rfl | rfl | rfl | rfl | rfl | rfl | rfl := hc
  case inr.inr.inr.inr.inl => exact congrArg Host.Outcome.next (if_pos (.inl hno))
  all_goals exact congrArg Host.Outcome.next (if_pos hno)

/-- Settles O14: each packet is one operation on the link behind its count, and a link that is not up ends before it. -/
theorem linkControlPackets : Obligations.LinkControlPackets := by
  unfold Obligations.LinkControlPackets
  intro t hdr s
  refine ⟨fun hup => ?_, packets_refused⟩
  obtain ⟨h1, h2, h3⟩ := linkctlSwitch_spec (t := t) hup
  obtain ⟨h4, h5⟩ := linkctlSleep_spec (t := t) hup
  exact ⟨h1, h2, h3, h4, h5, linkctlBackloss_spec hup _ rfl, linkctlDigestReq_spec hup, linkctlBadop_spec hup,
    headerLost_spec hup⟩

end Sys2Proof.Machine
end

section
/-! PROOF. O10: the sleep, the relock and the pattern tests of the pixel link. -/

namespace Sys2Proof.Machine
open Sys2Proof

/-! ## Activity on the forward lanes -/

section
variable {t : Nat} {s : State}

/-- A source acts on a controller in P0 only where an entry is in progress. -/
theorem wakeActs_awake {src : Nat} (hp : s.pwr.state = .p0) (h1 : s.pwr.entry ≠ .inProgress) (h2 : s.pwr.entry ≠ .waitRetry) :
    wakeActs src s = s := by
  unfold wakeActs
  rw [if_neg (by simp [h1, h2]), hp]

theorem sampleWakes_awake (hst : s.boot.stage = .started) (hp : s.pwr.state = .p0) (h1 : s.pwr.entry ≠ .inProgress)
    (h2 : s.pwr.entry ≠ .waitRetry) : sampleWakes s = s := by
  unfold sampleWakes
  rw [if_pos hst]
  split
  · exact wakeActs_awake hp h1 h2
  · rfl

/-- The state that has sampled the activity of the forward lanes. -/
def activitySeen (active : Bool) (s : State) : State :=
  { s with pwr := { s.pwr with fwdActive := active && s.pxl.fwdAsleep } }

theorem exec_forwardLaneActivity {active : Bool} (hst : s.boot.stage = .started) :
    exec (.forwardLaneActivity t active) s = .next (sampleWakes (activitySeen active (s.at t))) :=
  congrArg Host.Outcome.next (if_pos hst)

/-- Activity on lanes that sleep is source 3 where no other source stands before it. -/
theorem wakeStanding_activity {n : Nat} (ha : s.pwr.fwdActive = true) (hf : s.pxl.fwdAsleep = true) (hn : n < 3)
    (hen : bit (oget s Ob.PWR_WAKEEN) 2 = true) (hw : wakeNActs s = false) (hg : s.pwr.gylWake = false) :
    wakeStanding s n = some 3 := by
  unfold wakeStanding
  rw [if_neg (by simp [hw]), if_neg (by simp [hg]), if_pos ⟨hn, hen, ha, hf⟩]

/-- A source that acts in P1 ends it, and the sleeping lanes relock. -/
theorem wakeActs_ends_p1 {src : Nat} (hp : s.pwr.state = .p1) (he : s.pwr.entry = .done) (hf : s.pxl.fwdAsleep = true) :
    (wakeActs src s).pwr.state = .p0 ∧ (wakeActs src s).pxl.relock = true ∧
      oget (wakeActs src s) Ob.PWR_LASTWAKE = 16 + src := by
  rw [wakeActs_p1 (by rw [he]; decide) (by rw [he]; decide) hp, evc_pwr, cnt_pwr, evc_pxl, cnt_pxl,
    oget_evc _ _ _ (by decide), oget_cnt_ne _ (by decide)]
  refine ⟨rfl, ?_, ?_⟩
  · change (s.pxl.relock || s.pxl.fwdAsleep || s.pxl.backAsleep) = true
    rw [hf]
    simp
  · unfold lastWake
    rw [oget_oset_same]
    simp [b2n]

/-! ## The relock -/

/-- What a relock shows of the link. -/
structure RelockView where
  link : LinkState
  relock : Bool
  fwdAsleep : Bool
  backAsleep : Bool
  lcn : Nat
  fmask : Nat

def relockView (p : Pxl) : RelockView := ⟨p.link, p.relock, p.fwdAsleep, p.backAsleep, p.lcn, p.fmask⟩

theorem relockView_of_bare {a b : State} (h : a.pxl.bare = b.pxl.bare) : relockView a.pxl = relockView b.pxl :=
  (congrArg relockView h :)

theorem relockView_offered (mask code m lcn time pat dir : Nat) (b : State) : relockView (sendLinkstate code m lcn time pat dir
    (modPxl (fun p => { p with pendMask := mask, pendLcn := (p.lcn + 1) % 16 }) b)).pxl = relockView b.pxl := rfl

theorem relockView_offer (a : State) : relockView (offer a).pxl = relockView a.pxl := by
  unfold offer
  dsimp only
  split
  · exact (relockView_offered ..).trans (relockView_of_bare (bare_eachLane ..))
  · rfl

/-- The lanes of the link that have locked again. -/
def relocked (locked : BitVec 16) (s : State) : Nat := locked.toNat &&& s.pxl.fmask &&& maskOf (cfgLanes s)

/-- The link with its relock over. -/
def relockOver (s : State) : State :=
  modPxl (fun p => { p with relock := false, fwdAsleep := false, backAsleep := false, sleepReq := false }) s

/-- A lane that has locked again. -/
def relockedLane (ok n : Nat) (l : Lane) : Lane :=
  if bit ok n then
    { l with cdr := true, mlock := true, lastSeq := none, badRun := 0, stuffRun := 0, discard := true, newLcn := false }
  else l

/-- The link with its lanes relocked, before it goes on. -/
def lanesRelocked (ok : Nat) (s : State) : State := loseBoundary (eachLane (relockedLane ok) (relockOver s))

theorem lanesRelocked_of_bare {a b : State} (h : a.pxl.bare = b.pxl.bare) :
    relockView (loseBoundary a).pxl = relockView b.pxl :=
  (congrArg relockView h :)

theorem lanesRelocked_spec (ok : Nat) (s : State) : relockView (lanesRelocked ok s).pxl =
    ⟨s.pxl.link, false, false, false, s.pxl.lcn, s.pxl.fmask⟩ :=
  lanesRelocked_of_bare (bare_eachLane (relockedLane ok) (relockOver s))

theorem laneOf_loseBoundary (n : Nat) (s : State) : laneOf (loseBoundary s) n = laneOf s n := rfl

theorem laneOf_lanesRelocked {n : Nat} (hn : n < 16) (ok : Nat) (s : State) :
    (laneOf (lanesRelocked ok s) n).good = (laneOf s n).good ∧
    (laneOf (lanesRelocked ok s) n).heldFail = (laneOf s n).heldFail := by
  have hl : laneOf (relockOver s) n = laneOf s n := rfl
  unfold lanesRelocked
  rw [laneOf_loseBoundary, laneOf_eachLane hn, hl]
  unfold relockedLane
  split
  · exact ⟨rfl, rfl⟩
  · exact ⟨rfl, rfl⟩

theorem oget_lanesRelocked (k ok : Nat) (s : State) : oget (lanesRelocked ok s) k = oget s k :=
  (show oget (lanesRelocked ok s) k = oget (eachLane (relockedLane ok) (relockOver s)) k from rfl).trans (oget_eachLane ..)

/-- The active lanes that have not locked again. -/
def stillLost (locked : BitVec 16) (s : State) : List Nat :=
  (lanesOf s.pxl.fmask).filter (fun n => !bit (relocked locked s) n)

/-- A link that is ACTIVE again, under its next LCN. -/
def relockActive (a : State) : State :=
  setLink .active (modPxl (fun p => { p with lcn := (p.lcn + 1) % 16, pendMask := 0, prevLcn := none }) a)

theorem exec_laneRelockDone {locked : BitVec 16} (hr : s.pxl.relock = true) (hin : inSession s = true) :
    exec (.laneRelockDone t locked) s = .next (if relocked locked s = 0 then dropLink 6 (relockOver (s.at t))
      else if (stillLost locked s).isEmpty then
        offer (sendLinkstate 0 (relockActive (lanesRelocked (relocked locked s) (s.at t))).pxl.fmask
          (relockActive (lanesRelocked (relocked locked s) (s.at t))).pxl.lcn 0 0 0
          (relockActive (lanesRelocked (relocked locked s) (s.at t))))
      else narrow (lanesLost (stillLost locked s) (fun _ => 1) (lanesRelocked (relocked locked s) (s.at t)))) := by
  have h1 : ¬(!(s.at t).pxl.relock) = true := by
    rw [show (s.at t).pxl.relock = true from hr]
    decide
  have h2 : ¬(!inSession (s.at t)) = true := by
    rw [show inSession (s.at t) = true from hin]
    decide
  exact congrArg Host.Outcome.next ((if_neg h1).trans (if_neg h2))

theorem exec_laneRelockDone_unsessioned {locked : BitVec 16} (hr : s.pxl.relock = true) (hin : inSession s = false)
    (hdis : s.pxl.link ≠ .disabled) : exec (.laneRelockDone t locked) s = .next (toDetect (relockOver (s.at t))) := by
  have h1 : ¬(!(s.at t).pxl.relock) = true := by
    rw [show (s.at t).pxl.relock = true from hr]
    decide
  have h2 : (!inSession (s.at t)) = true := by
    rw [show inSession (s.at t) = false from hin]
    rfl
  exact congrArg Host.Outcome.next ((if_neg h1).trans ((if_pos h2).trans (if_neg hdis)))

theorem relockActive_spec (a : State) : relockView (relockActive a).pxl =
    { relockView a.pxl with link := .active, lcn := (a.pxl.lcn + 1) % 16 } := by
  unfold relockActive
  rw [setLink_pxl]
  rfl

/-- A relock of every active lane. -/
theorem relock_all {locked : BitVec 16} (hr : s.pxl.relock = true) (hin : inSession s = true)
    (hok : relocked locked s ≠ 0) (hall : (lanesOf s.pxl.fmask).all (bit (relocked locked s)) = true) :
    ∃ s', exec (.laneRelockDone t locked) s = .next s' ∧
      relockView s'.pxl = ⟨.active, false, false, false, (s.pxl.lcn + 1) % 16, s.pxl.fmask⟩ := by
  have hnone : stillLost locked s = [] :=
    List.filter_eq_nil_iff.mpr fun n hn => by simp [List.all_eq_true.mp hall n hn]
  have hx := exec_laneRelockDone (t := t) (locked := locked) hr hin
  rw [if_neg hok, hnone, if_pos (by rfl)] at hx
  have hv := lanesRelocked_spec (relocked locked s) (s.at t)
  have ha := relockActive_spec (lanesRelocked (relocked locked s) (s.at t))
  have hlcn : (lanesRelocked (relocked locked s) (s.at t)).pxl.lcn = s.pxl.lcn := congrArg RelockView.lcn hv
  rw [hv, hlcn] at ha
  generalize relockActive (lanesRelocked (relocked locked s) (s.at t)) = b at hx ha
  exact ⟨_, hx, (relockView_offer _).trans ((show relockView (sendLinkstate 0 b.pxl.fmask b.pxl.lcn 0 0 0 b).pxl =
    relockView b.pxl from rfl).trans ha)⟩

/-- A relock that misses an active lane while another one is good. -/
theorem relock_some {locked : BitVec 16} {k n : Fin 16} (hr : s.pxl.relock = true) (hin : inSession s = true)
    (hk : bit (relocked locked s) k.val = true) (hgood : (laneOf s k.val).good = true)
    (hheld : (laneOf s k.val).heldFail = 0) (hmask : bit s.pxl.fmask n.val = true)
    (hlost : bit (locked.toNat &&& maskOf (cfgLanes s)) n.val = false) :
    ∃ s', exec (.laneRelockDone t locked) s = .next s' ∧ s'.pxl.link = .reconfig ∧ s'.pxl.relock = false ∧
      s'.pxl.lcn = (s.pxl.lcn + 1) % 16 ∧ bit s'.pxl.fmask n.val = false ∧ (laneOf s' n.val).lossCause = 1 := by
  have hok : relocked locked s ≠ 0 := ne_zero_of_bit hk
  have hbits (i : Nat) : bit (relocked locked s) i =
      (bit locked.toNat i && bit s.pxl.fmask i && decide (i ∈ cfgLanes s)) := by
    unfold relocked
    rw [bit_and, bit_and, bit_maskOf]
  have hn : n.val ∈ stillLost locked s := by
    refine List.mem_filter.mpr ⟨mem_lanesOf.mpr ⟨n.isLt, hmask⟩, ?_⟩
    rw [bit_and, bit_maskOf] at hlost
    rw [hbits, hmask, Bool.and_true, hlost]
    rfl
  have hnot : k.val ∉ stillLost locked s := fun h => by simpa [hk] using (List.mem_filter.mp h).2
  have hls : ∀ x ∈ stillLost locked s, x < 16 := fun x hx => (mem_lanesOf.mp (List.mem_of_mem_filter hx)).1
  have hnd : (stillLost locked s).Nodup := (List.nodup_range.filter _).filter _
  have hne : ¬(stillLost locked s).isEmpty = true := fun h => by
    rw [List.isEmpty_iff.mp h] at hn
    exact absurd hn List.not_mem_nil
  have hcfg : k.val ∈ cfgLanes s := by
    rw [hbits] at hk
    simp only [Bool.and_eq_true, decide_eq_true_eq] at hk
    exact hk.2
  have hx := exec_laneRelockDone (t := t) (locked := locked) hr hin
  rw [if_neg hok, if_neg hne] at hx
  have hv := lanesRelocked_spec (relocked locked s) (s.at t)
  have hlcn : (lanesRelocked (relocked locked s) (s.at t)).pxl.lcn = s.pxl.lcn := congrArg RelockView.lcn hv
  have hrel : (lanesRelocked (relocked locked s) (s.at t)).pxl.relock = false := congrArg RelockView.relock hv
  obtain ⟨hg, hh⟩ := laneOf_lanesRelocked k.isLt (relocked locked s) (s.at t)
  have hcfg' : k.val ∈ cfgLanes (lanesRelocked (relocked locked s) (s.at t)) := by
    rw [cfgLanes_congr (oget_lanesRelocked ..)]
    exact hcfg
  obtain ⟨h1, h2, -, h4, h5, h6⟩ := narrow_lanesLost (cause := fun _ => 1) hls hnd hnot hcfg' (hg.trans hgood)
    (hh.trans hheld) hn
  exact ⟨_, hx, h1, h4.trans hrel, h2.trans (by rw [hlcn]), h5, h6⟩

/-! ## Pattern tests -/

/-- A test that starts leaves the link in TEST, with the direction and the pattern asked for. -/
theorem ownPrbsStart_starts {v : Nat} {c : State} (hv : v ≠ 0) (hop : c.boot.op = .setup) (hl : c.pxl.link = .active)
    (hg : c.trx.groups.any (fun e => uncommitted e.2) = false) : (ownPrbsStart v c).1.pxl.link = .test ∧
      (ownPrbsStart v c).1.pxl.prbs = true ∧ (ownPrbsStart v c).1.pxl.prbsDir = oget c Ob.PXL_PRBS_DIR ∧
      (ownPrbsStart v c).1.pxl.prbsPat = oget c Ob.PXL_PRBS_PATTERN := by
  unfold ownPrbsStart
  rw [if_neg hv, if_neg (by simp [hop]), if_neg (by simp [hl, hg])]
  extract_lets dir pat s1 s2 s3 s4
  have hs4 : s4.pxl.link = .test ∧ s4.pxl.prbs = true ∧ s4.pxl.prbsDir = dir ∧ s4.pxl.prbsPat = pat := by
    have hp : s4.pxl = _ := setLink_pxl ..
    rw [hp]
    exact ⟨rfl, rfl, rfl, rfl⟩
  clear_value s4
  dsimp only
  split
  · exact hs4
  · have hp : (loseBoundary (forgetPartial s4)).pxl = { s4.pxl with needPtr := true, rxWords := [], rxLeft := 0 } := by
      rw [loseBoundary_pxl, (frameOf kept_forgetPartial s4).pxl (by decide)]
    rw [hp]
    exact hs4

theorem ownPrbsStart_no {v : Nat} {c : State} (h : c.boot.op ≠ .setup ∨ c.pxl.link ≠ .active ∨
    c.trx.groups.any (fun e => uncommitted e.2) = true) : (ownPrbsStart v c).1 = c := by
  unfold ownPrbsStart
  split
  · rfl
  · split
    · rfl
    next hop => exact congrArg Prod.fst (if_pos (h.resolve_left hop))

theorem pxlPrbsStart_pxl {h : Hdr} {v : BitVec 8} (ht : writeTaken (s.at t) h Ob.PXL_PRBS_START v.toNat = true) :
    (writeRow h Ob.PXL_PRBS_START v.toNat ownPrbsStart (s.at t)).pxl = (ownPrbsStart v.toNat (counted (s.at t) h)).1.pxl := by
  rw [writeRow_of_taken ht, answerTaken_pxl]

/-- The counts of a test of the forward direction, lane by lane. -/
def laneChecked (pat : Nat) (received : List LineBits) (n : Nat) (st : State) : State :=
  oset (Ob.PXL_PRBS_ERR + n) (min 0xFFFFFFFF (checkBits pat (received.getD n ⟨0, 0⟩)).errors)
    (oset (Ob.PXL_PRBS_RESYNC + n) (min 0xFFFF (checkBits pat (received.getD n ⟨0, 0⟩)).resyncs) st)

/-- The lanes' counts as the test leaves them. -/
def lanesChecked (received : List LineBits) (s : State) : State :=
  if decide (s.pxl.prbsDir ≠ 1) then each (lanesOf s.pxl.fmask) (laneChecked s.pxl.prbsPat received) s else s

theorem lanesChecked_pxl (received : List LineBits) (s : State) : (lanesChecked received s).pxl = s.pxl := by
  unfold lanesChecked
  split
  · exact each_keeps fun _ _ _ => rfl
  · rfl

theorem exec_prbsTestEnd {received : List LineBits} (hp : s.pxl.prbs = true) : exec (.prbsTestEnd t received) s = .next
    (modPxl (fun p => { p with prbs := false, relock := true, prbsTx := [] }) (oset Ob.PXL_PRBS_BITS
      (if decide (s.pxl.prbsDir ≠ 1) then s.pxl.testBits else 0) (lanesChecked received (s.at t)))) := by
  have hgo : ¬(!(s.at t).pxl.prbs) = true := by
    rw [show (s.at t).pxl.prbs = true from hp]
    decide
  exact congrArg Host.Outcome.next (if_neg hgo)

/-- The errors counted on an active lane under test. -/
theorem oget_lanesChecked {received : List LineBits} {n : Fin 16} (hd : s.pxl.prbsDir ≠ 1)
    (hn : bit s.pxl.fmask n.val = true) : oget (lanesChecked received s) (Ob.PXL_PRBS_ERR + n.val) =
      min 0xFFFFFFFF (checkBits s.pxl.prbsPat (received.getD n.val ⟨0, 0⟩)).errors := by
  have hlt := n.isLt
  have hspace : Ob.PXL_PRBS_ERR + 16 ≤ Ob.PXL_PRBS_RESYNC := by decide
  unfold lanesChecked
  rw [if_pos (decide_eq_true hd)]
  obtain ⟨a, -, hout⟩ := each_at (obs := fun a => oget a (Ob.PXL_PRBS_ERR + n.val)) (f := laneChecked s.pxl.prbsPat received)
    (mem_lanesOf.mpr ⟨hlt, hn⟩) (List.nodup_range.filter _) (fun m hm b => by
      dsimp only [laneChecked]
      rw [oget_oset_ne _ _ (by omega), oget_oset_ne _ _ (by omega)]) s
  refine hout.trans ?_
  dsimp only [laneChecked]
  rw [oget_oset_same]

end

/-- Settles O10: a wake source acts on what is asleep alone, a relock ends in ACTIVE, in RECONFIG (`narrow_lanesLost`) or in a
drop, and a test sets the link of TEST and counts lane by lane. -/
theorem linkSleepsAndTests : Obligations.LinkSleepsAndTests := by
  unfold Obligations.LinkSleepsAndTests
  intro t s
  refine ⟨fun active hst hp h1 h2 => ?_, fun active hst => congrArg Host.Outcome.next (if_neg hst),
    fun hst hp he hf htg hen hw hg => ?_, fun locked hr hin hok hall => ?_,
    fun locked k n hr hin hk hgood hheld hmask hlost => relock_some hr hin hk hgood hheld hmask hlost,
    fun locked hr hin hok => ?_, fun locked hr hin hdis => ?_, fun h v ht hv hop hl hg => ?_, fun h v ht hno => ?_,
    fun received hp => ?_, fun received n hp hd hn => ?_⟩
  · rw [exec_forwardLaneActivity hst, sampleWakes_awake (s := activitySeen active (s.at t)) hst hp h1 h2]
    rfl
  · have hx := exec_forwardLaneActivity (t := t) (active := true) hst
    have hstand : wakeStanding (activitySeen true (s.at t)) (activitySeen true (s.at t)).pwr.target = some 3 :=
      wakeStanding_activity (s := activitySeen true (s.at t)) hf hf htg hen hw hg
    rw [sampleWakes_started (s := activitySeen true (s.at t)) hst hstand] at hx
    exact ⟨_, hx, wakeActs_ends_p1 (s := activitySeen true (s.at t)) (src := 3) hp he hf⟩
  · obtain ⟨s', hx, hv⟩ := relock_all (t := t) hr hin hok hall
    exact ⟨s', hx, congrArg RelockView.link hv, congrArg RelockView.relock hv, congrArg RelockView.fwdAsleep hv,
      congrArg RelockView.backAsleep hv, congrArg RelockView.lcn hv, congrArg RelockView.fmask hv⟩
  · have hx := exec_laneRelockDone (t := t) (locked := locked) hr hin
    rw [if_pos (show relocked locked s = 0 from hok)] at hx
    obtain ⟨h1, h2, -⟩ := dropLink_spec 6 (relockOver (s.at t))
    exact ⟨_, hx, h1, h2⟩
  · obtain ⟨h1, h2, -⟩ := toDetect_spec (relockOver (s.at t))
    simp only [dropView, DropView.mk.injEq] at h2
    obtain ⟨-, -, hrel, hsleep⟩ := h2
    exact ⟨_, exec_laneRelockDone_unsessioned hr hin hdis, h1, hrel, hsleep⟩
  · have hp := pxlPrbsStart_pxl ht
    have hne : v.toNat ≠ 0 := fun h0 => hv (BitVec.eq_of_toNat_eq h0)
    have hpxl : (counted (s.at t) h).pxl = s.pxl := counted_pxl h (s.at t)
    have htrx : (counted (s.at t) h).trx = s.trx := counted_trx h (s.at t)
    have hboot : (counted (s.at t) h).boot = s.boot := counted_boot h (s.at t)
    obtain ⟨h1, h2, h3, h4⟩ := ownPrbsStart_starts (c := counted (s.at t) h) hne (by rw [hboot]; exact hop)
      (by rw [hpxl]; exact hl) (by rw [htrx]; exact hg)
    rw [oget_counted_at h t s (by decide) (by decide)] at h3 h4
    exact ⟨_, rfl, by rw [hp]; exact h1, by rw [hp]; exact h2, by rw [hp]; exact h3, by rw [hp]; exact h4,
      exec_mem (c := .pxlPrbsStart t h v) rfl (by simp [footprint])⟩
  · have hp := pxlPrbsStart_pxl ht
    have hpxl : (counted (s.at t) h).pxl = s.pxl := counted_pxl h (s.at t)
    have htrx : (counted (s.at t) h).trx = s.trx := counted_trx h (s.at t)
    have hboot : (counted (s.at t) h).boot = s.boot := counted_boot h (s.at t)
    rw [ownPrbsStart_no (by rw [hboot, hpxl, htrx]; exact hno)] at hp
    exact ⟨_, rfl, hp.trans hpxl⟩
  · have hx := exec_prbsTestEnd (t := t) (received := received) hp
    have hpxl : (lanesChecked received (s.at t)).pxl = s.pxl := lanesChecked_pxl received (s.at t)
    refine ⟨_, hx, rfl, rfl, (congrArg Pxl.link hpxl :), ?_⟩
    rw [oget_modPxl, oget_oset_same]
    simp only [decide_eq_true_eq]
  · have hx := exec_prbsTestEnd (t := t) (received := received) hp
    refine ⟨_, hx, ?_⟩
    have hne : Ob.PXL_PRBS_ERR + n.val ≠ Ob.PXL_PRBS_BITS := by
      have hspace : Ob.PXL_PRBS_BITS < Ob.PXL_PRBS_ERR := by decide
      omega
    rw [oget_modPxl, oget_oset_ne _ _ hne]
    exact oget_lanesChecked (s := s.at t) hd hn

end Sys2Proof.Machine
end

section
/-!
PROOF. The frames of the ports (O37; R353, R356 to R358): the bytes of an SPI transaction, the response that leaves a queue, and
the bus of CAN.
-/

namespace Sys2Proof.Machine

open Sys2Proof

/-! ## The numbers of a frame -/

theorem sub_of {x m : List Part} (h : (x.all fun e => m.any fun f => e.ctorIdx == f.ctorIdx) = true) : Sub x m :=
  Sub.trans h fun _ => id

theorem toBE_one {v : Nat} (h : v < 256) : ∃ a, toBE 1 v = [a] ∧ ofBE [a] = v :=
  ⟨BitVec.ofNat 8 (v / 256 ^ 0), rfl, ofBE_toBE 1 v h⟩

theorem toBE_two {v : Nat} (h : v < 65536) : ∃ a b, toBE 2 v = [a, b] ∧ ofBE [a, b] = v :=
  ⟨BitVec.ofNat 8 (v / 256 ^ 1), BitVec.ofNat 8 (v / 256 ^ 0), rfl, ofBE_toBE 2 v h⟩

theorem crcStepL_lt (r : Nat) : crcStepL 16 0x1021 r < 2 ^ 16 := by
  have hs : 2 * r % 2 ^ 16 < 2 ^ 16 := Nat.mod_lt _ (by decide)
  unfold crcStepL
  dsimp only
  split
  · exact Nat.xor_lt_two_pow hs (by decide)
  · exact hs

theorem iter_crcStepL_lt (n r : Nat) : iter (crcStepL 16 0x1021) (n + 1) r < 2 ^ 16 := by
  induction n generalizing r with
  | zero => exact crcStepL_lt r
  | succ n ih => exact ih _

theorem crc16_lt (bs : List Byte) : crc16 bs < 65536 :=
  foldl_keeps (fun r => r < 65536) _ bs (fun b _ r _ => iter_crcStepL_lt 7 _) 0xFFFF (by decide)

theorem respBytes_length (r : Resp) : (respBytes r).length = 8 + r.data.length := by
  simp only [respBytes, List.length_append, toBE_length]

/-! ## A request frame on SPI -/

/-- The body of a request frame that SPI carries, between the four leading bytes and the CRC (R353). -/
def spiBody (op : BitVec 8) (tag : BitVec 12) (gen : BitVec 4) (ix : BitVec 16) (sub : BitVec 8) (data : List Byte) : List Byte :=
  toBE 1 op.toNat ++ toBE 2 (16 * tag.toNat + gen.toNat) ++ toBE 2 ix.toNat ++ toBE 1 sub.toNat ++ toBE 2 data.length ++ data

section
variable (op : BitVec 8) (tag : BitVec 12) (gen : BitVec 4) (ix : BitVec 16) (sub any : BitVec 8) (data more : List Byte)

/-- The bytes of a transaction whose request is sound, and whatever follows it. -/
def spiRequest : List Byte :=
  (0x5A#8 :: any :: toBE 2 (10 + data.length) ++ spiBody op tag gen ix sub data ++
    toBE 2 (crc16 (spiBody op tag gen ix sub data))) ++ more

/-- What the controller reads in the frame behind the four leading bytes. -/
structure FrameRead (f : List Byte) : Prop where
  opcode : ofBE (f.take 1) = op.toNat
  header : frameHdr f = { port := .spi, tag := tag, gen := gen }
  index : ofBE ((f.drop 3).take 2) = ix.toNat
  subindex : ofBE ((f.drop 5).take 1) = sub.toNat
  size : ofBE ((f.drop 6).take 2) = data.length
  content : (f.drop 8).take data.length = data

theorem frameHdr_of_word {a b c : Byte} {rest : List Byte} (h : ofBE [a, b] = 16 * tag.toNat + gen.toNat) :
    frameHdr (c :: a :: b :: rest) = { port := .spi, tag := tag, gen := gen } := by
  have hg := gen.isLt
  have ht : (16 * tag.toNat + gen.toNat) / 16 = tag.toNat := by omega
  have hm : BitVec.ofNat 4 (16 * tag.toNat + gen.toNat) = gen := by
    apply BitVec.eq_of_toNat_eq
    rw [BitVec.toNat_ofNat]
    omega
  simp only [frameHdr, List.drop_succ_cons, List.drop_zero, List.take_succ_cons, List.take_zero, h, ht, hm, BitVec.ofNat_toNat,
    BitVec.setWidth_eq]

theorem spiBody_read (hd : data.length < 4096) (rest : List Byte) :
    FrameRead op tag gen ix sub data (spiBody op tag gen ix sub data ++ rest) := by
  have htag := tag.isLt
  have hgen := gen.isLt
  obtain ⟨o, ho, hov⟩ := toBE_one (v := op.toNat) op.isLt
  obtain ⟨t1, t2, ht, htv⟩ := toBE_two (v := 16 * tag.toNat + gen.toNat) (by omega)
  obtain ⟨i1, i2, hi, hiv⟩ := toBE_two (v := ix.toNat) ix.isLt
  obtain ⟨u, hu, huv⟩ := toBE_one (v := sub.toNat) sub.isLt
  obtain ⟨l1, l2, hl, hlv⟩ := toBE_two (v := data.length) (by omega)
  have hbody : spiBody op tag gen ix sub data ++ rest = o :: t1 :: t2 :: i1 :: i2 :: u :: l1 :: l2 :: (data ++ rest) := by
    rw [spiBody, ho, ht, hi, hu, hl]
    simp
  rw [hbody]
  exact ⟨hov, frameHdr_of_word tag gen htv, hiv, huv, hlv, List.take_left⟩

theorem spiBody_length : (spiBody op tag gen ix sub data).length = 8 + data.length := by
  simp only [spiBody, List.length_append, toBE_length]

/-- The frame behind the four leading bytes: the body and its CRC. -/
theorem spiRequest_frame (hd : data.length < 4096) : let bytes := spiRequest op tag gen ix sub any data more
    ofBE ((bytes.drop 2).take 2) = 10 + data.length ∧ bytes.head? = some 0x5A#8 ∧ 14 + data.length ≤ bytes.length ∧
      (bytes.drop 4).take (10 + data.length) =
        spiBody op tag gen ix sub data ++ toBE 2 (crc16 (spiBody op tag gen ix sub data)) := by
  obtain ⟨a, b, hq, hqv⟩ := toBE_two (v := 10 + data.length) (by omega)
  have hlen := spiBody_length op tag gen ix sub data
  generalize hb : spiBody op tag gen ix sub data = body at hlen
  have hbytes : spiRequest op tag gen ix sub any data more =
      0x5A#8 :: any :: a :: b :: ((body ++ toBE 2 (crc16 body)) ++ more) := by
    rw [spiRequest, hb, hq]
    simp
  intro bytes
  change bytes = _ at hbytes
  rw [hbytes]
  have hfl : (body ++ toBE 2 (crc16 body)).length = 10 + data.length := by
    rw [List.length_append, toBE_length, hlen]
    omega
  refine ⟨hqv, rfl, ?_, List.take_left' hfl⟩
  rw [List.length_cons, List.length_cons, List.length_cons, List.length_cons, List.length_append, hfl]
  omega

theorem spiFrameOk_request (hd : data.length < 4096) :
    spiFrameOk (spiRequest op tag gen ix sub any data more) (10 + data.length) = true := by
  obtain ⟨-, hhead, hle, hf⟩ := spiRequest_frame op tag gen ix sub any data more hd
  have hlen := spiBody_length op tag gen ix sub data
  have hread := spiBody_read op tag gen ix sub data hd (toBE 2 (crc16 (spiBody op tag gen ix sub data)))
  have hcrc := ofBE_toBE 2 _ (crc16_lt (spiBody op tag gen ix sub data))
  have h8 : 10 + data.length - 2 = (spiBody op tag gen ix sub data).length := by omega
  unfold spiFrameOk
  dsimp only
  rw [hf, hread.size, h8, List.take_left, List.drop_left, hcrc, hhead]
  simp only [decide_true, Bool.true_and, Bool.and_true, Bool.and_eq_true, decide_eq_true_eq]
  omega

theorem takeSpi_request (hd : data.length < 4096) (s : State) : takeSpi (spiRequest op tag gen ix sub any data more) s =
    serve op.toNat { port := .spi, tag := tag, gen := gen } ix.toNat sub.toNat data s := by
  obtain ⟨hql, -, hle, hf⟩ := spiRequest_frame op tag gen ix sub any data more hd
  have hok := spiFrameOk_request op tag gen ix sub any data more hd
  obtain ⟨h1, h2, h3, h4, -, h6⟩ := spiBody_read op tag gen ix sub data hd (toBE 2 (crc16 (spiBody op tag gen ix sub data)))
  unfold takeSpi
  dsimp only
  rw [hql, if_neg (by omega), hok, hf, h1, h2, h3, h4, Nat.add_sub_cancel_left, h6]
  exact if_neg (by decide)

end

/-! ## An SPI transaction -/

theorem portServes_spiClocked (a : Nat) (bytes : List Byte) (s : State) (p : Port) :
    portServes (spiClocked a bytes s) p = portServes s p := rfl

section
variable {t : Nat} {s : State} {bytes : List Byte}

/-- The state when the clock of the transaction has stopped. -/
def spiStopped (t : Nat) (bytes : List Byte) (s : State) : State := spiClocked (max s.now t) bytes (s.at t)

theorem kept_spiStopped (t : Nat) (bytes : List Byte) (s : State) : Kept [.mgt] s (spiStopped t bytes s) :=
  kept_spiClocked _ _ (fun _ h => h) (Kept.at_ _ t s)

theorem exec_transaction_served (hs : portServes (s.at t) .spi = true) : exec (.spiTransactionEnd t bytes) s =
    .next (takeSpi bytes (clockedOut bytes.length (spiStopped t bytes s))) :=
  congrArg Host.Outcome.next (if_pos hs)

theorem exec_transaction_unserved (hs : portServes (s.at t) .spi = false) :
    exec (.spiTransactionEnd t bytes) s = .next (spiStopped t bytes s) :=
  congrArg Host.Outcome.next (if_neg (by rw [portServes_spiClocked, hs]; decide))

theorem takeSpi_empty (h : bytes.length < 4 ∨ ofBE ((bytes.drop 2).take 2) = 0) (a : State) : takeSpi bytes a = a := if_pos h

theorem takeSpi_unsound (h4 : 4 ≤ bytes.length) (hq : ofBE ((bytes.drop 2).take 2) ≠ 0)
    (hok : spiFrameOk bytes (ofBE ((bytes.drop 2).take 2)) = false) (a : State) : takeSpi bytes a = cnt Ob.WNP_SPIERR a := by
  unfold takeSpi
  dsimp only
  rw [if_neg (by omega), hok]
  exact if_pos rfl

end

/-! ## A response that leaves its queue -/

theorem oget_answered {k : Nat} (p : Port) (r : Resp) (s : State) (h : k ≠ Ob.WNP_EVTPEND) : oget (answered p r s) k = oget s k := by
  unfold answered
  dsimp only
  split
  · exact oget_setPort p _ s h
  · exact oget_setPort p _ s h

theorem portOf_canDue (p : Port) (d : Option Nat) (s : State) :
    portOf { s with mgt := { s.mgt with canDue := d } } p = portOf s p := by
  cases p
  · rfl
  · rfl

theorem portOf_answered (p : Port) (r : Resp) (s : State) : (portOf (answered p r s) p).queue = (portOf s p).queue.drop 1 ∧
    (portOf (answered p r s) p).level = (portOf s p).level := by
  unfold answered
  dsimp only
  split
  · rw [portOf_canDue, portOf_setPort_same]
    exact ⟨rfl, rfl⟩
  · rw [portOf_setPort_same]
    exact ⟨rfl, rfl⟩


theorem pendEvt_spiOut (b : Nat) (s : State) : (pendEvt b s).mgt.spiOut = s.mgt.spiOut := by
  unfold pendEvt
  dsimp only
  rw [refreshEvt_mgt]
  split
  · rfl
  · rfl

theorem setPort_spiOut (p : Port) (v : PortState) (s : State) : (setPort p v s).mgt.spiOut = s.mgt.spiOut := by
  cases p with
  | can => rfl
  | spi =>
    unfold setPort
    dsimp only
    split
    · rw [refreshEvt_mgt]
      rfl
    · rw [pendEvt_spiOut]

theorem answered_spiOut (p : Port) (r : Resp) (s : State) : (answered p r s).mgt.spiOut = s.mgt.spiOut := by
  unfold answered
  dsimp only
  split
  · exact setPort_spiOut p _ s
  · exact setPort_spiOut p _ s

theorem sdoBytes_head {r : Resp} {rest : List Resp} {n : Nat} (h : 4 + respLen r ≤ n) :
    (sdoBytes (r :: rest) n).take (4 + respLen r) =
      0xA5#8 :: toBE 1 (min 255 (r :: rest).length) ++ toBE 2 (respLen r) ++ (respBytes r ++ toBE 2 (crc16 (respBytes r))) := by
  have hf : (respBytes r ++ toBE 2 (crc16 (respBytes r))).length = respLen r := by
    rw [List.length_append, respBytes_length, toBE_length, respLen]
    omega
  unfold sdoBytes
  dsimp only
  rw [hf]
  generalize respBytes r ++ toBE 2 (crc16 (respBytes r)) = f at hf ⊢
  have hall : (toBE 1 0xA5 ++ toBE 1 (min 255 (r :: rest).length) ++ toBE 2 (respLen r) ++ f).length = 4 + respLen r := by
    simp only [List.length_append, toBE_length, hf]
  rw [List.take_of_length_le (i := n) (by rw [hall]; exact h), List.take_left' hall]
  rfl

/-! ## A CAN frame that leaves -/

theorem kept_answeredCan (r : Resp) {m : List Part} {s0 s : State} (hm : Sub [.mgt] m) (h : Kept m s0 s) :
    Kept m s0 (answered .can r s) := by
  have hs : ∃ g, answered .can r s = { s with mgt := g } := by
    unfold answered
    dsimp only
    split
    · exact ⟨_, rfl⟩
    · exact ⟨_, rfl⟩
  obtain ⟨g, hg⟩ := hs
  rw [hg]
  exact kept_set_mgt hm h

theorem answeredCan_mgt (r : Resp) (s : State) : (answered .can r s).mgt.events = s.mgt.events ∧
    (answered .can r s).mgt.canTx = s.mgt.canTx ∧ (answered .can r s).mgt.can.queue = s.mgt.can.queue.drop 1 := by
  unfold answered
  dsimp only
  split
  · exact ⟨rfl, rfl, rfl⟩
  · exact ⟨rfl, rfl, rfl⟩

/-- The frame that is on the bus after one of its channel has been sent. -/
theorem canSent_canTx (channel : Nat) (r : Resp) (s : State) :
    (canSent channel r s).mgt.canTx.map (·.1) = some (canGet s Ob.WNP_CANBASE + 4 * nodeAddr s + channel) ∧
      (canSent channel r s).mgt.canTx.map (fun f => f.2.take (respBytes r).length) = some (respBytes r) :=
  ⟨rfl, congrArg some List.take_left⟩

section
variable {t : Nat} {s : State}

theorem exec_canSent_response {r : Resp} {rest : List Resp} (hb : s.mgt.canBus = true) (hq : s.mgt.can.queue = r :: rest) :
    exec (.canResponseTransmitted t) s = .next (answered .can r (canSent 1 r (s.at t))) := by
  refine (congrArg Host.Outcome.next (if_neg (by change ¬ (!s.mgt.canBus) = true; rw [hb]; decide))).trans ?_
  change Host.Outcome.next (match s.mgt.can.queue with | r :: _ => _ | [] => _) = _
  rw [hq]

theorem exec_canSent_event {e : Resp} {rest : List Resp} (hb : s.mgt.canBus = true) (hq : s.mgt.can.queue = [])
    (he : s.mgt.events = e :: rest) : exec (.canResponseTransmitted t) s =
      .next (canSent 2 e { s.at t with mgt := { s.mgt with events := rest } }) := by
  refine (congrArg Host.Outcome.next (if_neg (by change ¬ (!s.mgt.canBus) = true; rw [hb]; decide))).trans ?_
  change Host.Outcome.next (match s.mgt.can.queue with
    | r :: _ => _ | [] => match s.mgt.events with | e :: rest => _ | [] => _) = _
  rw [hq, he]
  rfl

theorem exec_canSent_none (h : s.mgt.canBus = false ∨ (s.mgt.can.queue = [] ∧ s.mgt.events = [])) :
    exec (.canResponseTransmitted t) s = .next (s.at t) := by
  cases hb : s.mgt.canBus with
  | false => exact congrArg Host.Outcome.next (if_pos (by change (!s.mgt.canBus) = true; rw [hb]; rfl))
  | true =>
    obtain ⟨hq, he⟩ : s.mgt.can.queue = [] ∧ s.mgt.events = [] := h.resolve_left (by rw [hb]; decide)
    refine (congrArg Host.Outcome.next (if_neg (by change ¬ (!s.mgt.canBus) = true; rw [hb]; decide))).trans ?_
    change Host.Outcome.next (match s.mgt.can.queue with
      | r :: _ => _ | [] => match s.mgt.events with | e :: rest => _ | [] => _) = _
    rw [hq, he]

theorem exec_responseDrop {r : Resp} {rest : List Resp} (hq : s.mgt.can.queue = r :: rest) : exec (.canResponseDrop t) s =
    .next (if max s.now t < r.queued + 100000000 then s.at t else cnt Ob.WNP_RSPDROP (answered .can r (s.at t))) := by
  change Host.Outcome.next (match s.mgt.can.queue with | r :: _ => _ | [] => _) = _
  rw [hq]
  rfl

theorem exec_canConfigApply_due {due : Nat} (hd : s.mgt.canDue = some due) : exec (.canConfigApply t) s =
    .next (if due ≤ max s.now t then { s.at t with mgt := { s.mgt with
      canDue := none, canCfg := within s.obj Ob.WNP_CANEN (Ob.WNP_CANEN + 8) } } else s.at t) := by
  change Host.Outcome.next (match s.mgt.canDue with | some at_ => _ | none => _) = _
  rw [hd]
  rfl

end

/-! ## The two halves of the statement -/

/-- What a transaction of SPI does while the port serves. -/
theorem spiTransaction_served {t : Nat} {s : State} (hs : portServes (s.at t) .spi = true) :
    (∀ (op : BitVec 8) (tag : BitVec 12) (gen : BitVec 4) (ix : BitVec 16) (sub any : BitVec 8) data body bytes more,
      data.length < 4096 →
      body = toBE 1 op.toNat ++ toBE 2 (16 * tag.toNat + gen.toNat) ++ toBE 2 ix.toNat ++ toBE 1 sub.toNat ++
        toBE 2 data.length ++ data →
      bytes = (0x5A#8 :: any :: toBE 2 (10 + data.length) ++ body ++ toBE 2 (crc16 body)) ++ more →
      exec (.spiTransactionEnd t bytes) s = .next (serve op.toNat { port := .spi, tag := tag, gen := gen } ix.toNat
        sub.toNat data (clockedOut bytes.length (spiClocked (max s.now t) bytes (s.at t))))) ∧
    (∀ bytes ql, 4 ≤ bytes.length → ql = ofBE ((bytes.drop 2).take 2) → ql ≠ 0 → spiFrameOk bytes ql = false →
      ∃ s', exec (.spiTransactionEnd t bytes) s = .next s' ∧ s.sameBut [.obj, .mgt, .pins] s' ∧
      oget s' Ob.WNP_SPIERR = satInc 0xFFFFFFFF (oget s Ob.WNP_SPIERR)) ∧
    (∀ r rest bytes, s.mgt.spi.queue = r :: rest → bytes.length < 4 ∨ ofBE ((bytes.drop 2).take 2) = 0 →
      (4 + respLen r ≤ bytes.length → ∃ s', exec (.spiTransactionEnd t bytes) s = .next s' ∧ s'.mgt.spi.queue = rest ∧
        s'.mgt.spiOut.take (4 + respLen r) =
          0xA5#8 :: toBE 1 (min 255 (r :: rest).length) ++ toBE 2 (respLen r) ++
            (respBytes r ++ toBE 2 (crc16 (respBytes r))) ∧
        s'.mgt.spi.level = s.mgt.spi.level ∧ s.sameBut [.obj, .mgt, .pins] s') ∧
      (bytes.length < 4 + respLen r → ∃ s', exec (.spiTransactionEnd t bytes) s = .next s' ∧
        s'.mgt.spi = s.mgt.spi ∧ s.sameBut [.mgt] s')) := by
  have hkept (bytes : List Byte) : Kept [.obj, .pins, .mgt] s (clockedOut bytes.length (spiStopped t bytes s)) :=
    kept_clockedOut _ (fun _ h => h) (kept_spiClocked _ _ (sub_of rfl) (Kept.at_ _ t s))
  refine ⟨?_, ?_, ?_⟩
  · intro op tag gen ix sub any data body bytes more hd hbody hbytes
    subst hbody hbytes
    exact (exec_transaction_served hs).trans (congrArg Host.Outcome.next (takeSpi_request op tag gen ix sub any data more hd _))
  · intro bytes ql h4 hql h0 hok
    subst hql
    refine ⟨_, (exec_transaction_served hs).trans (congrArg Host.Outcome.next (takeSpi_unsound h4 h0 hok _)), ?_, ?_⟩
    · exact (kept_cnt _ (sub_of rfl) ((hkept bytes))).rest.mono sub_ports
    · rw [oget_cnt_same]
      unfold clockedOut
      split
      · split
        · rw [oget_answered _ _ _ (by decide)]
          rfl
        · rfl
      · rfl
  · intro r rest bytes hq hempty
    have hx := (exec_transaction_served (bytes := bytes) hs).trans (congrArg Host.Outcome.next (takeSpi_empty hempty _))
    have hout : clockedOut bytes.length (spiStopped t bytes s) = if 4 + respLen r ≤ bytes.length then
        answered .spi r (spiStopped t bytes s) else spiStopped t bytes s := by
      change (match s.mgt.spi.queue with | r :: _ => _ | [] => _) = _
      rw [hq]
    refine ⟨fun hle => ?_, fun hlt => ?_⟩
    · have hfr := (hkept bytes).rest.mono sub_ports
      rw [hout, if_pos hle] at hx hfr
      obtain ⟨hqueue, hlevel⟩ := portOf_answered .spi r (spiStopped t bytes s)
      refine ⟨_, hx, hqueue.trans ?_, ?_, hlevel, hfr⟩
      · change s.mgt.spi.queue.drop 1 = rest
        rw [hq]
        rfl
      · have hspi : (spiStopped t bytes s).mgt.spiOut = sdoBytes (r :: rest) bytes.length :=
          (if_pos hs).trans (by change sdoBytes s.mgt.spi.queue _ = _; rw [hq])
        rw [answered_spiOut, hspi, sdoBytes_head hle]
    · rw [hout, if_neg (by omega)] at hx
      exact ⟨_, hx, rfl, (kept_spiStopped t bytes s).rest⟩

/-- What leaves on CAN, is dropped and takes effect there. -/
theorem canBus_frames (t : Nat) (s : State) :
    (∀ r rest, s.mgt.canBus = true → s.mgt.can.queue = r :: rest → ∃ s', exec (.canResponseTransmitted t) s = .next s' ∧
      s'.mgt.can.queue = rest ∧ s'.mgt.events = s.mgt.events ∧ s.sameBut [.mgt] s' ∧
      s'.mgt.canTx.map (·.1) = some (canGet s Ob.WNP_CANBASE + 4 * nodeAddr s + 1) ∧
      ((respBytes r).length ≤ 64 → s'.mgt.canTx.map (fun f => f.2.take (respBytes r).length) = some (respBytes r))) ∧
    (∀ e rest, s.mgt.canBus = true → s.mgt.can.queue = [] → s.mgt.events = e :: rest →
      ∃ s', exec (.canResponseTransmitted t) s = .next s' ∧ s'.mgt.events = rest ∧ s'.mgt.can = s.mgt.can ∧
      s'.mgt.canTx.map (·.1) = some (canGet s Ob.WNP_CANBASE + 4 * nodeAddr s + 2) ∧ s.sameBut [.mgt] s') ∧
    (∀ r rest, s.mgt.can.queue = r :: rest →
      (r.queued + 100000000 ≤ max s.now t → ∃ s', exec (.canResponseDrop t) s = .next s' ∧ s'.mgt.can.queue = rest ∧
        oget s' Ob.WNP_RSPDROP = satInc 0xFFFFFFFF (oget s Ob.WNP_RSPDROP) ∧ s.sameBut [.obj, .mgt] s') ∧
      (max s.now t < r.queued + 100000000 → exec (.canResponseDrop t) s = .next (s.at t))) ∧
    (s.mgt.canBus = true → ∃ s', exec (.canBusOff t) s = .next s' ∧ s'.mgt = { s.mgt with canBus := false } ∧
      oget s' Ob.WNP_BUSOFF = satInc 0xFFFFFFFF (oget s Ob.WNP_BUSOFF) ∧ s.sameBut [.obj, .mgt] s') := by
  refine ⟨?_, ?_, ?_, ?_⟩
  · intro r rest hb hq
    have hk : Kept [.mgt] s (canSent 1 r (s.at t)) := kept_canSent _ _ (fun _ h => h) (Kept.at_ _ t s)
    obtain ⟨hevents, htx, hqueue⟩ := answeredCan_mgt r (canSent 1 r (s.at t))
    obtain ⟨hid, hbytes⟩ := canSent_canTx 1 r (s.at t)
    refine ⟨_, exec_canSent_response hb hq, hqueue.trans ?_, hevents, (kept_answeredCan r (fun _ h => h) hk).rest, ?_, fun _ => ?_⟩
    · change s.mgt.can.queue.drop 1 = rest
      rw [hq]
      rfl
    · rw [htx]
      exact hid
    · rw [htx]
      exact hbytes
  · intro e rest hb hq he
    exact ⟨_, exec_canSent_event hb hq he, rfl, rfl, (canSent_canTx 2 e _).1,
      (kept_canSent _ _ (fun _ h => h) (kept_set_mgt (fun _ h => h) (Kept.at_ _ t s))).rest⟩
  · intro r rest hq
    refine ⟨fun hle => ?_, fun hlt => (exec_responseDrop hq).trans (congrArg Host.Outcome.next (if_pos hlt))⟩
    refine ⟨_, (exec_responseDrop hq).trans (congrArg Host.Outcome.next (if_neg (by omega))), ?_, ?_, ?_⟩
    · refine (answeredCan_mgt r (s.at t)).2.2.trans ?_
      change s.mgt.can.queue.drop 1 = rest
      rw [hq]
      rfl
    · rw [oget_cnt_same, oget_answered _ _ _ (by decide)]
      rfl
    · exact (kept_cnt _ (sub_of rfl) (kept_answeredCan r (sub_of rfl) (Kept.at_ _ t s))).rest
  · intro hb
    refine ⟨_, congrArg Host.Outcome.next (if_pos hb), (evc_mgt _ _).trans rfl, ?_, ?_⟩
    · rw [oget_evc _ _ _ (by decide), oget_cnt_same]
      rfl
    · exact (kept_evc _ (sub_of rfl) (kept_cnt _ (sub_of rfl) (kept_set_mgt (sub_of rfl) (Kept.at_ _ t s)))).rest

/-- Settles O37: the frame behind sound leading bytes reads as the request it spells; otherwise the transaction counts an error at most
and takes the response at the head when its last byte was clocked; on CAN responses leave before EVENT frames. -/
theorem portsCarryFrames : Obligations.PortsCarryFrames := by
  unfold Obligations.PortsCarryFrames
  refine ⟨fun t s => ⟨spiTransaction_served, fun hs bytes => ?_, fun bytes => ?_⟩, fun t s => ?_⟩
  · refine ⟨_, exec_transaction_unserved hs, ?_, (kept_spiStopped t bytes s).rest⟩
    have hout : (spiStopped t bytes s).mgt.spiOut = s.mgt.spiOut := if_neg (by rw [hs]; decide)
    change { s.mgt with sckAt := some (max s.now t), spiOut := (spiStopped t bytes s).mgt.spiOut } = _
    rw [hout]
  · have hk : Kept [.obj, .mgt] s (spiClocked (max s.now t - 4000) bytes (s.at t)) :=
      kept_spiClocked _ _ (sub_of rfl) (Kept.at_ _ t s)
    by_cases hc : (portServes (s.at t) .spi && decide (4 ≤ bytes.length ∧ ofBE ((bytes.drop 2).take 2) ≠ 0)) = true
    · exact ⟨_, congrArg Host.Outcome.next (if_pos hc), rfl, (kept_cnt _ (sub_of rfl) hk).rest, rfl,
        fun _ _ _ => oget_cnt_same _ _⟩
    · refine ⟨_, congrArg Host.Outcome.next (if_neg hc), rfl, hk.rest, rfl, fun h1 h2 h3 => absurd ?_ hc⟩
      rw [h1, decide_eq_true ⟨h2, h3⟩]
      rfl
  · obtain ⟨hresp, hevent, hdrop, hoff⟩ := canBus_frames t s
    refine ⟨hresp, hevent, exec_canSent_none, hdrop, hoff,
      fun hb => congrArg Host.Outcome.next (if_neg (by change ¬ s.mgt.canBus = true; rw [hb]; decide)), rfl, ?_, ?_, ?_⟩
    · intro due hd
      exact ⟨fun h => (exec_canConfigApply_due hd).trans (congrArg Host.Outcome.next (if_pos h)),
        fun h => (exec_canConfigApply_due hd).trans (congrArg Host.Outcome.next (if_neg (by omega)))⟩
    · intro hs
      exact ⟨_, congrArg Host.Outcome.next (if_pos hs), oget_cnt_same _ _, (kept_cnt _ (sub_of rfl) (Kept.at_ _ t s)).rest⟩
    · intro hs
      exact congrArg Host.Outcome.next (if_neg (by rw [hs]; decide))

end Sys2Proof.Machine

end


section
/-!
SUPPORT. The segmented transfers (R364 to R367): the answer to a request that is taken, what the checks of SEG_INIT read, and what
each request does to its port.
-/

namespace Sys2Proof.Machine

open Sys2Proof

/-! ## The answer to a request that is taken -/

theorem sub_of_ports {m : List Part} (h : ([Part.obj, .pins, .mgt].all fun e => m.any fun f => e.ctorIdx == f.ctorIdx) = true) :
    Sub [.obj, .pins, .mgt] m := Sub.trans h fun _ => id

/-- What the answer to a taken request leaves of the state `a` in which its run ended. -/
structure AnsweredIn (op : Nat) (h : Hdr) (x : Answer) (a s' : State) : Prop where
  last : lastAnswer s' h.port = some (128 + op % 128, h.tag.toNat, x.status, x.data)
  transfer : (portOf s' h.port).transfer = (portOf a h.port).transfer
  kept : ∀ {m : List Part} {s0 : State}, Sub [.obj, .pins, .mgt] m → Kept m s0 a → Kept m s0 s'
  obj : ∀ {k : Nat}, k ≠ Ob.WNP_EVTPEND → oget s' k = oget a k

/-- A taken request whose run leaves its session open is answered. -/
theorem exec_answered {t op : Nat} {f : Frame} {s : State} {c : Instr} {sa : State × Answer}
    (ht : taken (s.at t) f.hdr f.data.length = true)
    (hc : (op, c) ∈ [(2, Instr.close t f), (3, .read t f), (4, .write t f), (5, .segInit t f), (6, .segData t f), (7, .segRead t f),
      (8, .segEnd t f), (9, .segAbort t f), (10, .challenge t f), (11, .elevate t f), (12, .drop t f)])
    (hrun : runRequest op f.hdr.port f.index.toNat f.sub.toNat f.data (counted (s.at t) f.hdr) = sa)
    (hk : keepsSession f.hdr.port (counted (s.at t) f.hdr) sa.1) (hst : sa.2.status < 256) :
    ∃ s', exec c s = .next s' ∧ AnsweredIn op f.hdr sa.2 sa.1 s' := by
  refine ⟨_, (exec_request_taken ht hc).trans (by rw [hrun]), ?_⟩
  obtain ⟨hlast, -, -, -, htr⟩ := answered_spec (op := op) (ix := f.index.toNat) (sub := f.sub.toNat) (data := f.data) ht hk hst
  exact ⟨hlast, htr, fun hm h => kept_answerTaken _ _ _ _ _ _ hm (keptP_mk h), fun hk => oget_answerTaken _ _ _ _ _ _ _ hk⟩

/-- A taken request whose run changes nothing. -/
theorem exec_answered_only {t op st : Nat} {d : List Byte} {f : Frame} {s : State} {c : Instr}
    (ht : taken (s.at t) f.hdr f.data.length = true)
    (hc : (op, c) ∈ [(2, Instr.close t f), (3, .read t f), (4, .write t f), (5, .segInit t f), (6, .segData t f), (7, .segRead t f),
      (8, .segEnd t f), (9, .segAbort t f), (10, .challenge t f), (11, .elevate t f), (12, .drop t f)])
    (hrun : runRequest op f.hdr.port f.index.toNat f.sub.toNat f.data (counted (s.at t) f.hdr) = (counted (s.at t) f.hdr, ⟨st, d⟩))
    (hst : st < 256) :
    ∃ s', exec c s = .next s' ∧ s.sameBut [.obj, .mgt, .pins] s' ∧
      lastAnswer s' f.hdr.port = some (128 + op % 128, f.hdr.tag.toNat, st, d) ∧
      (portOf s' f.hdr.port).transfer = (portOf s f.hdr.port).transfer := by
  obtain ⟨s', hx, ha⟩ := exec_answered ht hc hrun ⟨rfl, rfl⟩ hst
  refine ⟨s', hx, (ha.kept sub_ports (kept_counted_at f.hdr t s)).rest, ha.last, ha.transfer.trans ?_⟩
  rw [portOf_counted]
  rfl

/-! ## What the checks of SEG_INIT read is not counted -/

theorem segGate_counted (h : Hdr) (k : Nat) (up : Bool) (s : State) :
    segGate (counted s h) h.port k up = segGate s h.port k up := by
  unfold segGate
  rw [portOf_counted, counted_boot, oflag_counted h s (by decide) (by decide)]

theorem bankAway_of_counted (h : Hdr) (n : Nat) (s : State) : bankAway (counted s h) n = bankAway s n := by
  unfold bankAway bankOf
  rw [counted_bnk]

theorem plateShown_counted (h : Hdr) (n : Nat) (s : State) : plateShown (counted s h) n = plateShown s n := by
  unfold plateShown
  rw [counted_scan]

theorem platePrepared_counted (h : Hdr) (n : Nat) (s : State) : platePrepared (counted s h) n = platePrepared s n := by
  unfold platePrepared
  rw [counted_gyl]

theorem downloadMay_counted (h : Hdr) (k : Nat) (s : State) : downloadMay (counted s h) k = downloadMay s k := by
  unfold downloadMay
  dsimp only
  rw [counted_boot, counted_jrn, counted_cal, bankAway_of_counted, plateShown_counted, platePrepared_counted]

theorem domSize_counted (h : Hdr) (k : Nat) (s : State) : domSize (counted s h) k = domSize s k := by
  unfold domSize dget
  rw [counted_dom]

/-- The transfers of both ports. -/
def transfers (s : State) : List (Option Transfer) := [s.mgt.can.transfer, s.mgt.spi.transfer]

theorem inTransfer_congr {a s : State} (h : transfers a = transfers s) (ix sub : Nat) : inTransfer a ix sub = inTransfer s ix sub := by
  have hi (s : State) : inTransfer s ix sub = (transfers s).any (fun v => match v with
      | some x => decide (x.index = ix ∧ x.sub = sub)
      | none => false) := by
    simp only [inTransfer, transfers, List.any_cons, List.any_nil] <;> rfl
  rw [hi, hi, h]

theorem transfers_pendEvt (b : Nat) (s : State) : transfers (pendEvt b s) = transfers s := by
  unfold transfers
  exact congrArg₂ (fun x y => [x, y]) (congrArg PortState.transfer (portOf_pendEvt b s .can))
    (congrArg PortState.transfer (portOf_pendEvt b s .spi))

theorem transfers_setPort (p : Port) {v : PortState} {s : State} (h : v.transfer = (portOf s p).transfer) :
    transfers (setPort p v s) = transfers s := by
  cases p with
  | can => exact congrArg (fun x => [x, s.mgt.spi.transfer]) h
  | spi =>
    have hs : transfers { s with mgt := { s.mgt with spi := v } } = transfers s :=
      congrArg (fun x => [s.mgt.can.transfer, x]) h
    unfold setPort
    dsimp only
    split
    · unfold transfers
      rw [refreshEvt_mgt]
      exact hs
    · rw [transfers_pendEvt]
      exact hs

theorem inTransfer_counted (h : Hdr) (ix sub : Nat) (s : State) : inTransfer (counted s h) ix sub = inTransfer s ix sub := by
  refine inTransfer_congr ?_ ix sub
  have he : transfers (counted s h) = transfers (setPort h.port { portOf s h.port with lastReq := s.now } s) := by
    unfold transfers counted
    rw [evc_mgt]
  exact he.trans (transfers_setPort h.port rfl)

theorem transferOf_counted (h : Hdr) (ix sub : Nat) (s : State) :
    transferOf (counted s h) h.port ix sub = transferOf s h.port ix sub := by
  unfold transferOf
  rw [portOf_counted]

theorem transferOf_of_named {p : Port} {x : Transfer} {ix sub : Nat} {s : State} (h : (portOf s p).transfer = some x)
    (hi : x.index = ix) (hs : x.sub = sub) : transferOf s p ix sub = some x := by
  unfold transferOf
  rw [h]
  exact if_pos (decide_eq_true ⟨hi, hs⟩)

/-! ## SEG_INIT -/

/-- The data of a SEG_INIT with no reserved byte set. -/
structure InitData (data : List Byte) (up : Bool) (size : Nat) : Prop where
  length : data.length = 8
  dir : ofBE (data.take 1) = b2n up
  reserved : ofBE ((data.drop 1).take 3) = 0
  size : ofBE (data.drop 4) = size

theorem initData_of_bytes {up : Bool} {any : List Byte} (h : any.length = 4) :
    InitData (BitVec.ofNat 8 (b2n up) :: 0#8 :: 0#8 :: 0#8 :: any) up (ofBE any) where
  length := by simp [h]
  dir := by cases up <;> rfl
  reserved := rfl
  size := rfl

section
variable {p : Port} {ix sub size : Nat} {data : List Byte} {up : Bool} {s : State}

theorem runSegInit_gate (hd : InitData data up size) : runSegInit p ix sub data s =
    match segGate s p (key ix sub) up with
    | .fail st => (s, ⟨st, []⟩)
    | .viol =>
      if ((portOf s p).transfer.isSome || inTransfer s ix sub) = true then (s, ⟨St.segBusy, []⟩)
      else openTransfer p ix sub up true (if up then domSize s (key ix sub) else size) (violation p (!up) (key ix sub) s)
    | .pass =>
      if ((portOf s p).transfer.isSome || inTransfer s ix sub) = true then (s, ⟨St.segBusy, []⟩)
      else if up then openTransfer p ix sub true false (domSize s (key ix sub)) s
      else if !sizeOk (key ix sub) size then (s, ⟨St.segSize, []⟩)
      else if downloadMay s (key ix sub) ≠ St.ok then (s, ⟨downloadMay s (key ix sub), []⟩)
      else openTransfer p ix sub false false size s := by
  have hup : decide (b2n up = 1) = up := by cases up <;> rfl
  have hle : ¬ (1 < b2n up ∨ 0 ≠ 0) := by cases up <;> decide
  unfold runSegInit
  dsimp only
  rw [hd.length, hd.dir, hd.reserved, hd.size, hup, if_neg (by decide), if_neg hle] <;> rfl

/-- Neither the session nor the object has a transfer. -/
theorem no_transfer (h : (portOf s p).transfer = none) (hi : inTransfer s ix sub = false) :
    ¬ ((portOf s p).transfer.isSome || inTransfer s ix sub) = true := by
  rw [h, hi]
  decide

theorem runSegInit_fail {st : Nat} (hd : InitData data up size) (hg : segGate s p (key ix sub) up = .fail st) :
    runSegInit p ix sub data s = (s, ⟨st, []⟩) := by rw [runSegInit_gate hd, hg]

theorem runSegInit_busy (hd : InitData data up size)
    (hg : segGate s p (key ix sub) up = .pass ∨ segGate s p (key ix sub) up = .viol)
    (hb : (portOf s p).transfer ≠ none ∨ inTransfer s ix sub = true) : runSegInit p ix sub data s = (s, ⟨St.segBusy, []⟩) := by
  have hbusy : ((portOf s p).transfer.isSome || inTransfer s ix sub) = true :=
    hb.elim (fun h => by rw [Option.isSome_iff_ne_none.mpr h]; rfl) (fun h => by rw [h, Bool.or_true])
  rw [runSegInit_gate hd]
  rcases hg with hg | hg
  · rw [hg]
    exact if_pos hbusy
  · rw [hg]
    exact if_pos hbusy

theorem runSegInit_viol (hd : InitData data up size) (hg : segGate s p (key ix sub) up = .viol)
    (h : (portOf s p).transfer = none) (hi : inTransfer s ix sub = false) : runSegInit p ix sub data s =
      openTransfer p ix sub up true (if up then domSize s (key ix sub) else size) (violation p (!up) (key ix sub) s) := by
  rw [runSegInit_gate hd, hg]
  exact if_neg (no_transfer h hi)

theorem runSegInit_upload (hd : InitData data true size) (hg : segGate s p (key ix sub) true = .pass)
    (h : (portOf s p).transfer = none) (hi : inTransfer s ix sub = false) :
    runSegInit p ix sub data s = openTransfer p ix sub true false (domSize s (key ix sub)) s := by
  rw [runSegInit_gate hd, hg]
  exact if_neg (no_transfer h hi)

theorem runSegInit_download (hd : InitData data false size) (hg : segGate s p (key ix sub) false = .pass)
    (h : (portOf s p).transfer = none) (hi : inTransfer s ix sub = false) : runSegInit p ix sub data s =
      if !sizeOk (key ix sub) size then (s, ⟨St.segSize, []⟩)
      else if downloadMay s (key ix sub) ≠ St.ok then (s, ⟨downloadMay s (key ix sub), []⟩)
      else openTransfer p ix sub false false size s := by
  rw [runSegInit_gate hd, hg]
  exact if_neg (no_transfer h hi)

/-- A transfer of which nothing is copied and that takes no plate. -/
theorem openTransfer_empty {viol : Bool} (hc : (up && !viol) = false) (hp : up = false → viol = false → ix ≠ 0x4040) :
    openTransfer p ix sub up viol size s =
      (setPort p { portOf s p with transfer := some (.mk ix sub up size 0 [] false 0xFFFFFFFF viol s.now) } s,
        ⟨St.ok, toBE 4 size ++ toBE 2 (maxSeg p)⟩) := by
  have hno : ¬ ((!up) = true ∧ (!viol) = true ∧ ix = 0x4040) := fun ⟨h1, h2, h3⟩ =>
    hp (by simpa using h1) (by simpa using h2) h3
  unfold openTransfer
  dsimp only
  rw [hc, Bool.false_and, if_neg hno, if_neg (by decide)]

theorem openTransfer_plate (hix : ix = 0x4040) : openTransfer p ix sub false false size s =
    (setPlate (key ix sub - Ob.SCAN_PLATEDATA) 1 (setPort p { portOf s p with
      transfer := some (.mk ix sub false size 0 [] false 0xFFFFFFFF false s.now) } s),
      ⟨St.ok, toBE 4 size ++ toBE 2 (maxSeg p)⟩) := by
  subst hix
  rfl

theorem plateOf_setPlate_same (n v : Nat) (s : State) : plateOf (setPlate n v s) n = v := get_put_same _ _ _ _

/-- A plate takes a download of any size (R223). -/
theorem sizeOk_plate {k : Nat} (hk : k / 256 = 0x4040) (n : Nat) : sizeOk k n = true := by
  have hne : ∀ j, j / 256 ≠ 0x4040 → k ≠ j := fun j hj h => hj (h ▸ hk)
  have hgrid : ¬ (Ob.CMP_GRID ≤ k ∧ k < Ob.CMP_GRID + 8) := by
    unfold Ob.CMP_GRID
    omega
  have hmem : domMem k = none := by
    unfold domMem
    rw [if_neg hgrid, if_neg (hne _ (by decide)), if_neg (hne _ (by decide)), if_neg (hne _ (by decide))]
  unfold sizeOk
  dsimp only
  rw [hk, hmem, if_neg (hne _ (by decide))]
  rfl

theorem key_div (ix : Nat) (sub : BitVec 8) : key ix sub.toNat / 256 = ix := by
  have hsub := sub.isLt
  unfold key
  omega

theorem downloadMay_lt (s : State) (k : Nat) : downloadMay s k < 256 := by
  unfold downloadMay
  dsimp only
  repeat' split
  all_goals decide

/-- An upload: its copy may take a free value and count an uncorrectable word. -/
theorem openTransfer_upload : ∃ a copy snap, (∀ m s0, Sub [.free, .obj] m → Kept m s0 s → Kept m s0 a) ∧
    openTransfer p ix sub true false size s =
      (setPort p { portOf a p with transfer := some (.mk ix sub true size 0 copy snap 0xFFFFFFFF false s.now) } a,
        ⟨St.ok, toBE 4 size ++ toBE 2 (maxSeg p)⟩) := by
  by_cases hs : size ≤ 65536
  · exact ⟨_, _, true, fun m s0 hm h => kept_domRead _ _ _ hm h, by
      unfold openTransfer
      simp only [hs, decide_true, Bool.not_false, Bool.and_self, if_true, Bool.not_true, Bool.false_eq_true, false_and, if_false]
        <;> rfl⟩
  · exact ⟨s, [], false, fun m s0 _ h => h, by
      unfold openTransfer
      simp only [hs, decide_false, Bool.and_false, Bool.false_eq_true, if_false, Bool.not_true, false_and]⟩

theorem oget_counted_twice {c d l : Nat} (h1 : c ≠ d) (h2 : c ≠ l) (w : Nat) :
    oget (cnt d (oset l w (cnt c s))) c = satInc 0xFFFFFFFF (oget s c) := by
  rw [oget_cnt_ne _ h1, oget_oset_ne _ _ h2, oget_cnt_same]

theorem portOf_counted_twice (c d l w : Nat) (q : Port) : portOf (cnt d (oset l w (cnt c s))) q = portOf s q := portOf_congr rfl q

theorem violation_spec (w : Bool) (k : Nat) : (∀ q, portOf (violation p w k s) q = portOf s q) ∧
    oget (violation p w k s) Ob.DIAG_VIOLCNT = satInc 0xFFFFFFFF (oget s Ob.DIAG_VIOLCNT) := by
  refine ⟨fun q => ?_, ?_⟩
  · unfold violation
    dsimp only
    rw [portOf_evc, portOf_pendEvt, portOf_counted_twice]
  · unfold violation
    dsimp only
    rw [oget_evc _ _ _ (by decide), oget_pendEvt _ _ (by decide), oget_counted_twice (by cases w <;> decide) (by decide)]

end

/-! ## SEG_DATA -/

section
variable {p : Port} {ix sub : Nat} {data : List Byte} {x : Transfer} {s : State}

theorem transfer_filter {g : Transfer → Bool} (h : transferOf s p ix sub = some x) (hg : g x = true) :
    (transferOf s p ix sub).filter g = some x := by
  rw [h]
  exact if_pos hg

/-- A SEG_DATA of the download that runs. -/
theorem runSegData_of (h : transferOf s p ix sub = some x) (hu : x.upload = false) : runSegData p ix sub data s =
    if data.length < 4 then (s, ⟨St.length, []⟩)
    else if ofBE (data.take 4) ≠ x.next then (s, ⟨St.segOrder, toBE 4 x.next⟩)
    else if !segmentOk p x (data.drop 4).length then (s, ⟨St.segSize, []⟩)
    else (moved p x (data.drop 4) (!x.viol && !isDirect (key ix sub))
      (if isDirect (key ix sub) ∧ !x.viol then directStore (key ix sub) x.next (data.drop 4) s else s),
      ⟨St.ok, toBE 4 (x.next + (data.drop 4).length)⟩) := by
  unfold runSegData
  rw [transfer_filter h (by rw [hu]; rfl)]

theorem runSegData_none (h : transferOf s p ix sub = none) : runSegData p ix sub data s = (s, ⟨St.segNone, []⟩) := by
  unfold runSegData
  rw [h]
  rfl

section
variable {bs : List Byte} (h : transferOf s p ix sub = some x) (hu : x.upload = false) (hn : x.next < 2 ^ 32)
include h hu hn

theorem runSegData_ordered : runSegData p ix sub (toBE 4 x.next ++ bs) s =
    if !segmentOk p x bs.length then (s, ⟨St.segSize, []⟩)
    else (moved p x bs (!x.viol && !isDirect (key ix sub))
      (if isDirect (key ix sub) ∧ !x.viol then directStore (key ix sub) x.next bs s else s),
      ⟨St.ok, toBE 4 (x.next + bs.length)⟩) := by
  have hl : (toBE 4 x.next).length = 4 := toBE_length 4 _
  rw [runSegData_of h hu, List.drop_left' hl, List.take_left' hl, ofBE_toBE 4 _ hn, if_neg (by rw [List.length_append, hl]; omega),
    if_neg (by simp)]

theorem runSegData_badSize (hok : segmentOk p x bs.length = false) :
    runSegData p ix sub (toBE 4 x.next ++ bs) s = (s, ⟨St.segSize, []⟩) := by
  rw [runSegData_ordered h hu hn, hok]
  rfl

theorem runSegData_staged (hok : segmentOk p x bs.length = true) (hk : isDirect (key ix sub) = false ∨ x.viol = true) :
    runSegData p ix sub (toBE 4 x.next ++ bs) s =
      (moved p x bs (!x.viol) s, ⟨St.ok, toBE 4 (x.next + bs.length)⟩) := by
  have hno : ¬ (isDirect (key ix sub) = true ∧ (!x.viol) = true) := by
    rcases hk with hk | hk
    · rw [hk]
      simp
    · rw [hk]
      simp
  have hkeep : (!x.viol && !isDirect (key ix sub)) = !x.viol := by
    rcases hk with hk | hk
    · rw [hk]
      simp
    · rw [hk]
      rfl
  rw [runSegData_ordered h hu hn, hok, if_neg hno, hkeep]
  rfl

theorem runSegData_direct (hok : segmentOk p x bs.length = true) (hk : isDirect (key ix sub) = true) (hv : x.viol = false) :
    runSegData p ix sub (toBE 4 x.next ++ bs) s =
      (moved p x bs false (directStore (key ix sub) x.next bs s), ⟨St.ok, toBE 4 (x.next + bs.length)⟩) := by
  rw [runSegData_ordered h hu hn, hok, if_pos (c := isDirect (key ix sub) = true ∧ _) ⟨hk, by rw [hv]; rfl⟩, hk, Bool.not_true,
    Bool.and_false]
  rfl

end

theorem portOf_moved (bs : List Byte) (keep : Bool) : portOf (moved p x bs keep s) p = { portOf s p with transfer := some { x with
    at_ := s.now, next := x.next + bs.length, crc := crc32Run x.crc bs, buf := if keep then x.buf ++ bs else x.buf } } :=
  portOf_setPort_same _ _ _

theorem keepsSession_moved {a : State} (bs : List Byte) (keep : Bool) (h : keepsSession p a s) :
    keepsSession p a (moved p x bs keep s) := keepsSession_setPort h.1 h.2

/-- A segment that goes into the memory leaves the ports alone. -/
theorem directStore_mgt (k o : Nat) (bs : List Byte) (s : State) : (directStore k o bs s).mgt = s.mgt :=
  (frameOf (kept_directStore k o bs) s).mgt (by decide)

theorem keepsSession_of_mgt {a : State} (h : s.mgt = a.mgt) : keepsSession p a s :=
  ⟨congrArg PortState.active (portOf_congr h p), congrArg PortState.gen (portOf_congr h p)⟩

end

end Sys2Proof.Machine

end

section
/-!
PROOF. The segmented transfers open and fill (O35; R364 to R366).
-/

namespace Sys2Proof.Machine

open Sys2Proof

section
variable {t : Nat} {f : Frame} {s : State}

/-- The transfer that a run sets on a port, and what the answer leaves of it. -/
theorem answered_setPort {op : Nat} {x : Answer} {v : PortState} {a s' : State}
    (ha : AnsweredIn op f.hdr x (setPort f.hdr.port v a) s') : (portOf s' f.hdr.port).transfer = v.transfer := by
  rw [ha.transfer, portOf_setPort_same]

theorem kept_setPort_counted (v : PortState) (t : Nat) (s : State) :
    Kept [.obj, .mgt, .pins] s (setPort f.hdr.port v (counted (s.at t) f.hdr)) :=
  kept_setPort _ _ sub_ports (kept_counted_at f.hdr t s)

/-! ## SEG_INIT -/

/-- Without a transfer, in the state whose request has been counted. -/
theorem no_transfer_counted (h : (portOf s f.hdr.port).transfer = none) :
    (portOf (counted (s.at t) f.hdr) f.hdr.port).transfer = none := by
  rw [portOf_counted]
  exact h

section
variable (ht : taken (s.at t) f.hdr f.data.length = true)
include ht

theorem segInit_refused {up : Bool} {any : List Byte}
    (hd : f.data = BitVec.ofNat 8 (b2n up) :: 0#8 :: 0#8 :: 0#8 :: any) (hl : any.length = 4) :
    (∀ st, segGate (s.at t) f.hdr.port (key f.index.toNat f.sub.toNat) up = .fail st → st < 256 →
      ∃ s', exec (.segInit t f) s = .next s' ∧
      lastAnswer s' f.hdr.port = some (133, f.hdr.tag.toNat, st, []) ∧ s.sameBut [.obj, .mgt, .pins] s' ∧
      (portOf s' f.hdr.port).transfer = (portOf s f.hdr.port).transfer) ∧
    (segGate (s.at t) f.hdr.port (key f.index.toNat f.sub.toNat) up = .pass ∨
      segGate (s.at t) f.hdr.port (key f.index.toNat f.sub.toNat) up = .viol →
      (portOf s f.hdr.port).transfer ≠ none ∨ inTransfer s f.index.toNat f.sub.toNat = true →
      ∃ s', exec (.segInit t f) s = .next s' ∧ s.sameBut [.obj, .mgt, .pins] s' ∧
      lastAnswer s' f.hdr.port = some (133, f.hdr.tag.toNat, St.segBusy, []) ∧
      (portOf s' f.hdr.port).transfer = (portOf s f.hdr.port).transfer) ∧
    (segGate (s.at t) f.hdr.port (key f.index.toNat f.sub.toNat) up = .viol → (portOf s f.hdr.port).transfer = none →
      inTransfer s f.index.toNat f.sub.toNat = false → ∃ s', exec (.segInit t f) s = .next s' ∧
      (portOf s' f.hdr.port).transfer.map (·.viol) = some true ∧ s.sameBut [.obj, .mgt, .pins] s' ∧
      oget s' Ob.DIAG_VIOLCNT = satInc 0xFFFFFFFF (oget s Ob.DIAG_VIOLCNT)) := by
  have hdata : InitData f.data up (ofBE any) := hd ▸ initData_of_bytes hl
  refine ⟨fun st hg hst => ?_, fun hg hb => ?_, fun hg hn hi => ?_⟩
  · obtain ⟨s', hx, hf, hlast, htr⟩ := exec_answered_only (op := 5) (c := .segInit t f) ht (by simp)
      (runSegInit_fail hdata (by rw [segGate_counted]; exact hg)) hst
    exact ⟨s', hx, hlast, hf, htr⟩
  · refine exec_answered_only (op := 5) (c := .segInit t f) ht (by simp)
      (runSegInit_busy hdata (by rw [segGate_counted]; exact hg) ?_) (by decide)
    rw [portOf_counted, inTransfer_counted]
    exact hb
  · have hrun := runSegInit_viol hdata (by rw [segGate_counted]; exact hg) (no_transfer_counted hn)
      (by rw [inTransfer_counted]; exact hi)
    rw [openTransfer_empty (by simp) (fun _ h => absurd h (by decide))] at hrun
    obtain ⟨hport, hcount⟩ := violation_spec (s := counted (s.at t) f.hdr) (p := f.hdr.port) (!up)
      (key f.index.toNat f.sub.toNat)
    have hkept := kept_violation (m := [.obj, .mgt, .pins]) f.hdr.port (!up) (key f.index.toNat f.sub.toNat) sub_ports
      (kept_counted_at f.hdr t s)
    generalize violation f.hdr.port (!up) (key f.index.toNat f.sub.toNat) (counted (s.at t) f.hdr) = a at hrun hport hcount hkept
    obtain ⟨s', hx, ha⟩ := exec_answered (op := 5) (c := .segInit t f) ht (by simp) hrun
      (keepsSession_setPort (by rw [hport]) (by rw [hport])) (show St.ok < 256 by decide)
    refine ⟨s', hx, by rw [answered_setPort ha]; rfl, (ha.kept sub_ports (kept_setPort _ _ sub_ports hkept)).rest, ?_⟩
    rw [ha.obj (by decide), oget_setPort _ _ _ (by decide), hcount, oget_counted_at f.hdr t s (by decide) (by decide)]

/-- A SEG_INIT of a download whose checks have passed, on an object without a transfer. -/
theorem segInit_download {size : Nat} (hd : f.data = 0#8 :: 0#8 :: 0#8 :: 0#8 :: toBE 4 size) (hsz : size < 2 ^ 32)
    (hg : segGate (s.at t) f.hdr.port (key f.index.toNat f.sub.toNat) false = .pass)
    (hn : (portOf s f.hdr.port).transfer = none) (hi : inTransfer s f.index.toNat f.sub.toNat = false) :
    (sizeOk (key f.index.toNat f.sub.toNat) size = true →
      downloadMay (s.at t) (key f.index.toNat f.sub.toNat) = St.ok → f.index ≠ 0x4040 →
      ∃ s', exec (.segInit t f) s = .next s' ∧ (portOf s' f.hdr.port).transfer =
        some (.mk f.index.toNat f.sub.toNat false size 0 [] false 0xFFFFFFFF false (max s.now t)) ∧
      lastAnswer s' f.hdr.port = some (133, f.hdr.tag.toNat, St.ok, toBE 4 size ++ toBE 2 (maxSeg f.hdr.port)) ∧
      s.sameBut [.obj, .mgt, .pins] s') ∧
    (downloadMay (s.at t) (key f.index.toNat f.sub.toNat) = St.ok → f.index = 0x4040 →
      ∃ s', exec (.segInit t f) s = .next s' ∧
      plateOf s' (key f.index.toNat f.sub.toNat - Ob.SCAN_PLATEDATA) = 1 ∧ (portOf s' f.hdr.port).transfer =
        some (.mk f.index.toNat f.sub.toNat false size 0 [] false 0xFFFFFFFF false (max s.now t)) ∧ s'.mem = s.mem) ∧
    (sizeOk (key f.index.toNat f.sub.toNat) size = false →
      ∃ s', exec (.segInit t f) s = .next s' ∧ s.sameBut [.obj, .mgt, .pins] s' ∧
      lastAnswer s' f.hdr.port = some (133, f.hdr.tag.toNat, St.segSize, []) ∧
      (portOf s' f.hdr.port).transfer = none) ∧
    (sizeOk (key f.index.toNat f.sub.toNat) size = true → downloadMay (s.at t) (key f.index.toNat f.sub.toNat) ≠ St.ok →
      ∃ s', exec (.segInit t f) s = .next s' ∧
      lastAnswer s' f.hdr.port = some (133, f.hdr.tag.toNat, downloadMay (s.at t) (key f.index.toNat f.sub.toNat), []) ∧
      s.sameBut [.obj, .mgt, .pins] s' ∧ (portOf s' f.hdr.port).transfer = none) := by
  have hdata : InitData f.data false size := by
    have h := initData_of_bytes (up := false) (any := toBE 4 size) (toBE_length 4 _)
    rw [ofBE_toBE 4 _ hsz] at h
    exact hd ▸ h
  have hrun := runSegInit_download hdata (by rw [segGate_counted]; exact hg) (no_transfer_counted hn)
    (by rw [inTransfer_counted]; exact hi)
  rw [downloadMay_counted] at hrun
  refine ⟨fun hs hm hix => ?_, fun hm hix => ?_, fun hs => ?_, fun hs hm => ?_⟩
  · have hne : f.index.toNat ≠ 0x4040 := fun h => hix (BitVec.eq_of_toNat_eq h)
    rw [hs, if_neg (by decide), if_neg (by rw [hm]; simp), openTransfer_empty rfl (fun _ _ => hne)] at hrun
    obtain ⟨s', hx, ha⟩ := exec_answered (op := 5) (c := .segInit t f) ht (by simp) hrun (keepsSession_setPort rfl rfl)
      (show St.ok < 256 by decide)
    refine ⟨s', hx, ?_, ha.last, (ha.kept sub_ports (kept_setPort_counted _ t s)).rest⟩
    rw [answered_setPort ha, counted_now]
    rfl
  · have hnat : f.index.toNat = 0x4040 := by rw [hix]; rfl
    rw [sizeOk_plate ((key_div _ _).trans hnat), if_neg (by decide), if_neg (by rw [hm]; simp), openTransfer_plate hnat] at hrun
    obtain ⟨s', hx, ha⟩ := exec_answered (op := 5) (c := .segInit t f) ht (by simp) hrun
      (keepsSession_setPort rfl rfl) (show St.ok < 256 by decide)
    have hkept := ha.kept (m := [.obj, .mgt, .pins, .scan]) (s0 := s) (sub_of_ports rfl) (kept_setPlate _ _
      (Sub.trans (by decide) fun _ => id) (kept_setPort _ _ (sub_of_ports rfl) (kept_counted _ (sub_of_ports rfl) (Kept.at_ _ t s))))
    have hplates := (ha.kept (m := [.obj, .pins, .mgt]) (fun _ => id) (Kept.start _ _)).rest.scan (by decide)
    refine ⟨s', hx, ?_, ?_, hkept.rest.mem (by decide)⟩
    · unfold plateOf
      rw [hplates]
      exact plateOf_setPlate_same _ _ _
    · refine ha.transfer.trans ((congrArg PortState.transfer (portOf_setPort_same _ _ _)).trans ?_)
      rw [counted_now]
      rfl
  · rw [hs] at hrun
    obtain ⟨s', hx, hf, hlast, htr⟩ := exec_answered_only (op := 5) (c := .segInit t f) ht (by simp) (hrun.trans (if_pos rfl))
      (show St.segSize < 256 by decide)
    exact ⟨s', hx, hf, hlast, htr.trans hn⟩
  · rw [hs, if_neg (by decide), if_pos hm] at hrun
    obtain ⟨s', hx, hf, hlast, htr⟩ := exec_answered_only (op := 5) (c := .segInit t f) ht (by simp) hrun
      (downloadMay_lt _ _)
    exact ⟨s', hx, hlast, hf, htr.trans hn⟩

/-- A SEG_INIT of an upload whose checks have passed, on an object without a transfer. -/
theorem segInit_upload {any : List Byte} (hd : f.data = 1#8 :: 0#8 :: 0#8 :: 0#8 :: any) (hl : any.length = 4)
    (hg : segGate (s.at t) f.hdr.port (key f.index.toNat f.sub.toNat) true = .pass)
    (hn : (portOf s f.hdr.port).transfer = none) (hi : inTransfer s f.index.toNat f.sub.toNat = false) :
    ∃ s', exec (.segInit t f) s = .next s' ∧ s'.mem = s.mem ∧ s'.dom = s.dom ∧ s'.scan = s.scan ∧
      (portOf s' f.hdr.port).transfer.map (fun x => (x.index, x.sub, x.upload, x.size, x.next, x.viol)) =
        some (f.index.toNat, f.sub.toNat, true, domSize s (key f.index.toNat f.sub.toNat), 0, false) := by
  have hdata : InitData f.data true (ofBE any) := hd ▸ initData_of_bytes (up := true) hl
  have hrun := runSegInit_upload hdata (by rw [segGate_counted]; exact hg) (no_transfer_counted hn)
    (by rw [inTransfer_counted]; exact hi)
  rw [domSize_counted] at hrun
  obtain ⟨a, copy, snap, hkept, hopen⟩ := openTransfer_upload (p := f.hdr.port) (ix := f.index.toNat) (sub := f.sub.toNat)
    (size := domSize (s.at t) (key f.index.toNat f.sub.toNat)) (s := counted (s.at t) f.hdr)
  have hmgt : a.mgt = (counted (s.at t) f.hdr).mgt := (hkept _ _ (fun _ => id) (Kept.start _ _)).rest.mgt (by decide)
  obtain ⟨hact, hgen⟩ := keepsSession_of_mgt (p := f.hdr.port) hmgt
  obtain ⟨s', hx, ha⟩ := exec_answered (op := 5) (c := .segInit t f) ht (by simp) (hrun.trans hopen)
    (keepsSession_setPort hact hgen) (show St.ok < 256 by decide)
  have hr := (ha.kept (m := [.free, .obj, .mgt, .pins]) (s0 := s) (sub_of_ports rfl) (kept_setPort _ _ (sub_of_ports rfl)
    (hkept _ _ (Sub.trans (by decide) fun _ => id) (kept_counted _ (sub_of_ports rfl) (Kept.at_ _ t s))))).rest
  refine ⟨s', hx, hr.mem (by decide), hr.dom (by decide), hr.scan (by decide), ?_⟩
  rw [answered_setPort ha]
  rfl

end

/-! ## SEG_DATA -/

theorem transferOf_counted_at {x : Transfer} (hx : (portOf s f.hdr.port).transfer = some x) (hi : x.index = f.index.toNat)
    (hs : x.sub = f.sub.toNat) : transferOf (counted (s.at t) f.hdr) f.hdr.port f.index.toNat f.sub.toNat = some x := by
  rw [transferOf_counted]
  exact transferOf_of_named hx hi hs

section
variable {x : Transfer} (ht : taken (s.at t) f.hdr f.data.length = true) (hx : (portOf s f.hdr.port).transfer = some x)
  (hu : x.upload = false) (hi : x.index = f.index.toNat) (hs : x.sub = f.sub.toNat)
include ht hx hu hi hs

theorem segData_ordered {bs : List Byte} (hn : x.next < 2 ^ 32) (hd : f.data = toBE 4 x.next ++ bs) :
    (segmentOk f.hdr.port x bs.length = true → isDirect (key f.index.toNat f.sub.toNat) = false ∨ x.viol = true →
      ∃ s', exec (.segData t f) s = .next s' ∧ (portOf s' f.hdr.port).transfer =
        some { x with at_ := max s.now t, next := x.next + bs.length, crc := crc32Run x.crc bs,
                      buf := if x.viol then x.buf else x.buf ++ bs } ∧
      lastAnswer s' f.hdr.port = some (134, f.hdr.tag.toNat, St.ok, toBE 4 (x.next + bs.length)) ∧
      s.sameBut [.obj, .mgt, .pins] s') ∧
    (segmentOk f.hdr.port x bs.length = true → isDirect (key f.index.toNat f.sub.toNat) = true → x.viol = false →
      ∃ s', exec (.segData t f) s = .next s' ∧
      (directStore (key f.index.toNat f.sub.toNat) x.next bs (counted (s.at t) f.hdr)).sameBut [.obj, .mgt, .pins] s' ∧
      lastAnswer s' f.hdr.port = some (134, f.hdr.tag.toNat, St.ok, toBE 4 (x.next + bs.length)) ∧
      (portOf s' f.hdr.port).transfer.map (fun x => (x.next, x.crc)) = some (x.next + bs.length, crc32Run x.crc bs)) ∧
    (segmentOk f.hdr.port x bs.length = false → ∃ s', exec (.segData t f) s = .next s' ∧
      (portOf s' f.hdr.port).transfer = some x ∧ s.sameBut [.obj, .mgt, .pins] s' ∧
      lastAnswer s' f.hdr.port = some (134, f.hdr.tag.toNat, St.segSize, [])) := by
  have hof := transferOf_counted_at (t := t) hx hi hs
  refine ⟨fun hok hk => ?_, fun hok hk hv => ?_, fun hok => ?_⟩
  · obtain ⟨s', hexec, ha⟩ := exec_answered (op := 6) (c := .segData t f) ht (by simp)
      (hd ▸ runSegData_staged hof hu hn hok hk) (keepsSession_moved bs (!x.viol) ⟨rfl, rfl⟩) (show St.ok < 256 by decide)
    refine ⟨s', hexec, ?_, ha.last, (ha.kept sub_ports (kept_setPort_counted _ t s)).rest⟩
    have hbuf : (if (!x.viol) = true then x.buf ++ bs else x.buf) = if x.viol = true then x.buf else x.buf ++ bs := by
      cases x.viol <;> rfl
    rw [ha.transfer, portOf_moved, counted_now, hbuf]
    rfl
  · have hmgt := directStore_mgt (key f.index.toNat f.sub.toNat) x.next bs (counted (s.at t) f.hdr)
    have hrun := hd ▸ runSegData_direct hof hu hn hok hk hv
    generalize directStore (key f.index.toNat f.sub.toNat) x.next bs (counted (s.at t) f.hdr) = a at hmgt hrun ⊢
    obtain ⟨s', hexec, ha⟩ := exec_answered (op := 6) (c := .segData t f) ht (by simp) hrun
      (keepsSession_moved bs false (keepsSession_of_mgt hmgt)) (show St.ok < 256 by decide)
    refine ⟨s', hexec, (ha.kept sub_ports (kept_setPort _ _ sub_ports (Kept.start _ a))).rest, ha.last, ?_⟩
    rw [ha.transfer, portOf_moved]
    rfl
  · obtain ⟨s', hexec, hf, hlast, htr⟩ := exec_answered_only (op := 6) (c := .segData t f) ht (by simp)
      (hd ▸ runSegData_badSize hof hu hn hok) (show St.segSize < 256 by decide)
    exact ⟨s', hexec, htr.trans hx, hf, hlast⟩

theorem segData_unordered (hl : 4 ≤ f.data.length) (ho : ofBE (f.data.take 4) ≠ x.next) :
    ∃ s', exec (.segData t f) s = .next s' ∧
      (portOf s' f.hdr.port).transfer = some x ∧ s.sameBut [.obj, .mgt, .pins] s' ∧
      lastAnswer s' f.hdr.port = some (134, f.hdr.tag.toNat, St.segOrder, toBE 4 x.next) := by
  have hrun := runSegData_of (data := f.data) (transferOf_counted_at (t := t) hx hi hs) hu
  rw [if_neg (by omega), if_pos ho] at hrun
  obtain ⟨s', hexec, hf, hlast, htr⟩ := exec_answered_only (op := 6) (c := .segData t f) ht (by simp) hrun
    (show St.segOrder < 256 by decide)
  exact ⟨s', hexec, htr.trans hx, hf, hlast⟩

end

theorem segData_none (ht : taken (s.at t) f.hdr f.data.length = true) (hx : (portOf s f.hdr.port).transfer = none) :
    ∃ s', exec (.segData t f) s = .next s' ∧ s.sameBut [.obj, .mgt, .pins] s' ∧
      lastAnswer s' f.hdr.port = some (134, f.hdr.tag.toNat, St.segNone, []) := by
  have hof : transferOf (counted (s.at t) f.hdr) f.hdr.port f.index.toNat f.sub.toNat = none := by
    unfold transferOf
    rw [no_transfer_counted hx]
    rfl
  obtain ⟨s', hexec, hf, hlast, -⟩ := exec_answered_only (op := 6) (c := .segData t f) ht (by simp) (runSegData_none hof)
    (show St.segNone < 256 by decide)
  exact ⟨s', hexec, hf, hlast⟩

end

/-- Settles O35: SEG_INIT by the outcome of its checks, SEG_DATA by its place and size in the download that runs. -/
theorem transfersOpenAndFill : Obligations.TransfersOpenAndFill := by
  intro t k f s hk ht
  subst hk
  exact ⟨fun size hd hsz => segInit_download ht hd hsz, fun any hd hl => segInit_upload ht hd hl,
    fun up any hd hl => segInit_refused ht hd hl, fun x bs hx hu hi hs hn hd => segData_ordered ht hx hu hi hs hn hd,
    fun x off hx hu hi hs hl ho hne => segData_unordered ht hx hu hi hs hl (ho ▸ hne), segData_none ht⟩

end Sys2Proof.Machine

end

section
/-!
PROOF. The segmented transfers are read and end (O36; R365 to R367).
-/

namespace Sys2Proof.Machine

open Sys2Proof

/-! ## What the requests do on any state -/

section
variable {p : Port} {ix sub : Nat} {data : List Byte} {x : Transfer} {s : State}

/-- A SEG_READ of the upload that runs. -/
theorem runSegRead_of (h : transferOf s p ix sub = some x) (hu : x.upload = true) : runSegRead p ix sub data s =
    if data.length ≠ 6 then (s, ⟨St.length, []⟩)
    else if ofBE (data.take 4) ≠ x.next then (s, ⟨St.segOrder, toBE 4 x.next⟩)
    else if !segmentOk p x (ofBE (data.drop 4)) then (s, ⟨St.segSize, []⟩)
    else
      let r := if x.viol then (s, List.replicate (ofBE (data.drop 4)) 0)
        else if x.snap then (s, (x.buf.drop x.next).take (ofBE (data.drop 4)))
        else domRead s (key ix sub) x.next (ofBE (data.drop 4))
      (moved p x r.2 false r.1, ⟨St.ok, r.2⟩) := by
  unfold runSegRead
  rw [transfer_filter h hu]

section
variable {n : Nat} (h : transferOf s p ix sub = some x) (hu : x.upload = true) (hx : x.next < 2 ^ 32) (hn : n < 2 ^ 16)
include h hu hx hn

theorem runSegRead_ordered : runSegRead p ix sub (toBE 4 x.next ++ toBE 2 n) s =
    if !segmentOk p x n then (s, ⟨St.segSize, []⟩)
    else
      let r := if x.viol then (s, List.replicate n 0)
        else if x.snap then (s, (x.buf.drop x.next).take n)
        else domRead s (key ix sub) x.next n
      (moved p x r.2 false r.1, ⟨St.ok, r.2⟩) := by
  have hl : (toBE 4 x.next).length = 4 := toBE_length 4 _
  rw [runSegRead_of h hu, List.drop_left' hl, List.take_left' hl, ofBE_toBE 4 _ hx, ofBE_toBE 2 _ hn,
    if_neg (by rw [List.length_append, hl, toBE_length]; decide), if_neg (by simp)]

theorem runSegRead_copied (hok : segmentOk p x n = true) (hv : x.viol = false) (hs : x.snap = true) :
    runSegRead p ix sub (toBE 4 x.next ++ toBE 2 n) s =
      (moved p x ((x.buf.drop x.next).take n) false s, ⟨St.ok, (x.buf.drop x.next).take n⟩) := by
  rw [runSegRead_ordered h hu hx hn, hok, hv, hs]
  rfl

theorem runSegRead_viol (hok : segmentOk p x n = true) (hv : x.viol = true) :
    runSegRead p ix sub (toBE 4 x.next ++ toBE 2 n) s =
      (moved p x (List.replicate n 0) false s, ⟨St.ok, List.replicate n 0⟩) := by
  rw [runSegRead_ordered h hu hx hn, hok, hv]
  rfl

theorem runSegRead_badSize (hok : segmentOk p x n = false) :
    runSegRead p ix sub (toBE 4 x.next ++ toBE 2 n) s = (s, ⟨St.segSize, []⟩) := by
  rw [runSegRead_ordered h hu hx hn, hok]
  rfl

end

/-- The port without its transfer. -/
def closedTransfer (p : Port) (s : State) : State := setPort p { portOf s p with transfer := none } s

theorem runSegEnd_upload (h : transferOf s p ix sub = some x) (hu : x.upload = true) :
    runSegEnd p ix sub [] s = (closedTransfer p s, ⟨St.ok, toBE 4 (x.crc ^^^ 0xFFFFFFFF)⟩) := by
  unfold runSegEnd
  rw [h]
  dsimp only
  rw [hu]
  rfl

theorem runSegEnd_download (h : transferOf s p ix sub = some x) (hu : x.upload = false) (hd : data.length = 4) :
    runSegEnd p ix sub data s =
      if x.next ≠ x.size then (transferFails x (closedTransfer p s), ⟨St.segSize, []⟩)
      else if ofBE data ≠ x.crc ^^^ 0xFFFFFFFF then (transferFails x (closedTransfer p s), ⟨St.segCrc, []⟩)
      else if x.viol then (closedTransfer p s, ⟨St.ok, []⟩)
      else ((applyDownload x (x.crc ^^^ 0xFFFFFFFF) (closedTransfer p s)).1,
        ⟨(applyDownload x (x.crc ^^^ 0xFFFFFFFF) (closedTransfer p s)).2, []⟩) := by
  unfold runSegEnd
  rw [h]
  dsimp only
  rw [hu, hd]
  rfl

theorem runSegAbort_of (h : transferOf s p ix sub = some x) : runSegAbort p ix sub [] s = (abortTransfer p s, ⟨St.ok, []⟩) := by
  unfold runSegAbort
  rw [h]
  rfl

theorem transferFails_mgt (x : Transfer) (s : State) : (transferFails x s).mgt = s.mgt :=
  (frameOf (kept_transferFails x) s).mgt (by decide)

theorem keepsSession_closed : keepsSession p s (closedTransfer p s) := keepsSession_setPort rfl rfl

theorem keepsSession_fails : keepsSession p s (transferFails x (closedTransfer p s)) := by
  obtain ⟨h1, h2⟩ := keepsSession_closed (p := p) (s := s)
  unfold keepsSession
  rw [portOf_congr (transferFails_mgt x _) p]
  exact ⟨h1, h2⟩

theorem transfer_closed : (portOf (closedTransfer p s) p).transfer = none := by
  unfold closedTransfer
  rw [portOf_setPort_same]

theorem kept_closed {m : List Part} {s0 : State} (p : Port) (hm : Sub [.obj, .pins, .mgt] m) (h : Kept m s0 s) :
    Kept m s0 (closedTransfer p s) := kept_setPort _ _ hm h

/-- An abort closes the transfer that runs, and is counted. -/
theorem abortTransfer_of (h : (portOf s p).transfer = some x) : abortTransfer p s =
    transferFails x (cnt Ob.WNP_SEGABORT (closedTransfer p s)) := by
  unfold abortTransfer
  rw [h]
  rfl

theorem oget_transferFails (k : Nat) : oget (transferFails x s) k = oget s k :=
  congrArg (fun o => get objDefault o k) ((frameOf (kept_transferFails x) s).obj (by decide))

theorem abortTransfer_spec (h : (portOf s p).transfer = some x) : keepsSession p s (abortTransfer p s) ∧
    (portOf (abortTransfer p s) p).transfer = none ∧
    oget (abortTransfer p s) Ob.WNP_SEGABORT = satInc 0xFFFFFFFF (oget s Ob.WNP_SEGABORT) := by
  have hport : portOf (abortTransfer p s) p = portOf (closedTransfer p s) p := by
    rw [abortTransfer_of h, portOf_congr (transferFails_mgt x _) p, portOf_cnt]
  refine ⟨?_, ?_, ?_⟩
  · obtain ⟨h1, h2⟩ := keepsSession_closed (p := p) (s := s)
    exact ⟨hport ▸ h1, hport ▸ h2⟩
  · rw [hport, transfer_closed]
  · rw [abortTransfer_of h, oget_transferFails, oget_cnt_same]
    exact congrArg _ (oget_setPort _ _ _ (by decide))

/-! ## A table of two copies -/

theorem refCrc_rest (s : State) : (refCrc s).dom = s.dom ∧ (refCrc s).scan = s.scan := by
  unfold refCrc
  split
  · exact ⟨rfl, rfl⟩
  · exact ⟨rfl, rfl⟩

theorem domWrite_spec (k : Nat) (bs : List Byte) (s : State) : dget (domWrite k bs s) k = bs ∧ (domWrite k bs s).scan = s.scan := by
  have hd : dget (dset k bs s) k = bs := get_put_same _ _ _ _
  unfold domWrite
  dsimp only
  split
  · refine ⟨?_, (refCrc_rest _).2⟩
    unfold dget at hd ⊢
    rw [(refCrc_rest _).1]
    exact hd
  · exact ⟨hd, rfl⟩

theorem applyDownload_table {crc : Nat} (h2 : twoCopies (key x.index x.sub) = true) (hs : oflag s Ob.SAF_SEALED = false) :
    applyDownload x crc s = tableWrite (key x.index x.sub) x.buf s := by
  have hmem : key x.index x.sub / 256 ∈ [0x3010, 0x3012, 0x3230, 0x3310] := List.contains_iff_mem.mp h2
  have hne : ∀ j, j / 256 ∉ [0x3010, 0x3012, 0x3230, 0x3310] → key x.index x.sub ≠ j := fun j hj h => hj (h ▸ hmem)
  have hplate : ¬ key x.index x.sub / 256 = 0x4040 := fun h => absurd (h ▸ hmem) (by decide)
  have hmap : ¬ isMap (key x.index x.sub) = true := by
    simp only [isMap, Bool.or_eq_true, decide_eq_true_eq, not_or]
    exact ⟨⟨hne _ (by decide), hne _ (by decide)⟩, hne _ (by decide)⟩
  unfold applyDownload
  dsimp only
  rw [if_neg (by rw [hs]; simp), if_neg (hne _ (by decide)), if_neg hplate, if_neg hmap, if_pos h2]

/-- A table that is not busy takes the download and waits for its frame. -/
theorem tableWrite_free {k : Nat} {bs : List Byte} (h : look s.scan.tableBusy k = none) :
    (tableWrite k bs s).2 = St.ok ∧ dget (tableWrite k bs s).1 k = bs ∧ look (tableWrite k bs s).1.scan.tableBusy k = some 1 ∧
      (tableWrite k bs s).1.scan.tableAct = s.scan.tableAct := by
  obtain ⟨hd, hscan⟩ := domWrite_spec k bs s
  unfold tableWrite
  rw [h, if_neg (by decide)]
  dsimp only
  refine ⟨rfl, hd, look_ins_same _ _ _, ?_⟩
  rw [hscan]

theorem tableWrite_mgt (k : Nat) (bs : List Byte) (s : State) : (tableWrite k bs s).1.mgt = s.mgt :=
  ((kept_tableWrite (m := [.obj, .dom, .scan, .safe, .jrn]) k bs (fun _ => id) (Kept.start _ s)).rest.mgt (by decide))

end

/-! ## The requests as they are served -/

section
variable {t : Nat} {f : Frame} {s : State}

theorem segTimeout_spec {p : Port} {x : Transfer} (hx : (portOf s p).transfer = some x) :
    (x.at_ + 10000000000 ≤ max s.now t → ∃ s', exec (.segTimeout t p) s = .next s' ∧
      (portOf s' p).transfer = none ∧ s'.mem = s.mem ∧
      oget s' Ob.WNP_SEGABORT = satInc 0xFFFFFFFF (oget s Ob.WNP_SEGABORT)) ∧
    (max s.now t < x.at_ + 10000000000 → exec (.segTimeout t p) s = .next (s.at t)) := by
  have hexec : exec (.segTimeout t p) s =
      .next (if x.at_ + 10000000000 ≤ max s.now t then abortTransfer p (s.at t) else s.at t) := by
    change Host.Outcome.next (match (portOf s p).transfer with | some x => _ | none => _) = _
    rw [hx]
    rfl
  obtain ⟨-, htr, hcnt⟩ := abortTransfer_spec (s := s.at t) hx
  refine ⟨fun h => ?_, fun h => hexec.trans (congrArg Host.Outcome.next (if_neg (by omega)))⟩
  exact ⟨_, hexec.trans (congrArg Host.Outcome.next (if_pos h)), htr,
    (frameOf (kept_abortTransfer p) (s.at t)).mem (by decide), hcnt⟩

theorem segNone (ht : taken (s.at t) f.hdr f.data.length = true) {n : Nat} {c : Instr}
    (hc : (n, c) ∈ [(7, Instr.segRead t f), (8, .segEnd t f), (9, .segAbort t f)])
    (hn : transferOf s f.hdr.port f.index.toNat f.sub.toNat = none) : ∃ s', exec c s = .next s' ∧
      lastAnswer s' f.hdr.port = some (128 + n, f.hdr.tag.toNat, St.segNone, []) ∧ s.sameBut [.obj, .mgt, .pins] s' := by
  have hof : transferOf (counted (s.at t) f.hdr) f.hdr.port f.index.toNat f.sub.toNat = none := by
    rw [transferOf_counted]
    exact hn
  have hrun : n < 128 ∧ runRequest n f.hdr.port f.index.toNat f.sub.toNat f.data (counted (s.at t) f.hdr) =
      (counted (s.at t) f.hdr, ⟨St.segNone, []⟩) := by
    simp only [List.mem_cons, Prod.mk.injEq, List.not_mem_nil, or_false] at hc
    obtain ⟨rfl, -⟩ | ⟨rfl, -⟩ | ⟨rfl, -⟩ := hc
    · refine ⟨by decide, ?_⟩
      change runSegRead _ _ _ _ _ = _
      unfold runSegRead
      rw [hof]
      rfl
    · refine ⟨by decide, ?_⟩
      change runSegEnd _ _ _ _ _ = _
      unfold runSegEnd
      rw [hof]
    · refine ⟨by decide, ?_⟩
      change runSegAbort _ _ _ _ _ = _
      unfold runSegAbort
      rw [hof]
  obtain ⟨s', hx, hf, hl, -⟩ := exec_answered_only (op := n) (c := c) ht (by
    simp only [List.mem_cons, List.not_mem_nil, or_false] at hc ⊢
    tauto) hrun.2 (show St.segNone < 256 by decide)
  rw [Nat.mod_eq_of_lt hrun.1] at hl
  exact ⟨s', hx, hl, hf⟩

section
variable {x : Transfer} (ht : taken (s.at t) f.hdr f.data.length = true) (hx : (portOf s f.hdr.port).transfer = some x)
  (hi : x.index = f.index.toNat) (hs : x.sub = f.sub.toNat)
include ht hx hi hs

theorem segRead_ordered {n : Nat} (hu : x.upload = true) (hnext : x.next < 2 ^ 32) (hn : n < 2 ^ 16)
    (hd : f.data = toBE 4 x.next ++ toBE 2 n) :
    (segmentOk f.hdr.port x n = true → x.viol = false → x.snap = true → n = ((x.buf.drop x.next).take n).length →
      ∃ s', exec (.segRead t f) s = .next s' ∧ s.sameBut [.obj, .mgt, .pins] s' ∧
      lastAnswer s' f.hdr.port = some (135, f.hdr.tag.toNat, St.ok, (x.buf.drop x.next).take n) ∧
      (portOf s' f.hdr.port).transfer.map (·.next) = some (x.next + n)) ∧
    (segmentOk f.hdr.port x n = true → x.viol = true → ∃ s', exec (.segRead t f) s = .next s' ∧
      s.sameBut [.obj, .mgt, .pins] s' ∧
      lastAnswer s' f.hdr.port = some (135, f.hdr.tag.toNat, St.ok, List.replicate n 0)) ∧
    (segmentOk f.hdr.port x n = false → ∃ s', exec (.segRead t f) s = .next s' ∧ s.sameBut [.obj, .mgt, .pins] s' ∧
      lastAnswer s' f.hdr.port = some (135, f.hdr.tag.toNat, St.segSize, [])) := by
  have hof := transferOf_counted_at (t := t) hx hi hs
  refine ⟨fun hok hv hsnap hlen => ?_, fun hok hv => ?_, fun hok => ?_⟩
  · obtain ⟨s', hexec, ha⟩ := exec_answered (op := 7) (c := .segRead t f) ht (by simp)
      (hd ▸ runSegRead_copied hof hu hnext hn hok hv hsnap) (keepsSession_moved _ false ⟨rfl, rfl⟩) (show St.ok < 256 by decide)
    refine ⟨s', hexec, (ha.kept sub_ports (kept_setPort_counted _ t s)).rest, ha.last, ?_⟩
    rw [ha.transfer, portOf_moved]
    exact congrArg (fun j => some (x.next + j)) hlen.symm
  · obtain ⟨s', hexec, ha⟩ := exec_answered (op := 7) (c := .segRead t f) ht (by simp)
      (hd ▸ runSegRead_viol hof hu hnext hn hok hv) (keepsSession_moved _ false ⟨rfl, rfl⟩) (show St.ok < 256 by decide)
    exact ⟨s', hexec, (ha.kept sub_ports (kept_setPort_counted _ t s)).rest, ha.last⟩
  · obtain ⟨s', hexec, hf, hlast, -⟩ := exec_answered_only (op := 7) (c := .segRead t f) ht (by simp)
      (hd ▸ runSegRead_badSize hof hu hnext hn hok) (show St.segSize < 256 by decide)
    exact ⟨s', hexec, hf, hlast⟩

theorem segRead_unordered (hu : x.upload = true) (hl : f.data.length = 6) (ho : ofBE (f.data.take 4) ≠ x.next) :
    ∃ s', exec (.segRead t f) s = .next s' ∧ s.sameBut [.obj, .mgt, .pins] s' ∧ (portOf s' f.hdr.port).transfer = some x ∧
      lastAnswer s' f.hdr.port = some (135, f.hdr.tag.toNat, St.segOrder, toBE 4 x.next) := by
  have hrun := runSegRead_of (data := f.data) (transferOf_counted_at (t := t) hx hi hs) hu
  rw [if_neg (by omega), if_pos ho] at hrun
  obtain ⟨s', hexec, hf, hlast, htr⟩ := exec_answered_only (op := 7) (c := .segRead t f) ht (by simp) hrun
    (show St.segOrder < 256 by decide)
  exact ⟨s', hexec, hf, htr.trans hx, hlast⟩

theorem segEnd_upload (hu : x.upload = true) (hd : f.data = []) : ∃ s', exec (.segEnd t f) s = .next s' ∧
    s.sameBut [.obj, .mgt, .pins] s' ∧ (portOf s' f.hdr.port).transfer = none ∧
    lastAnswer s' f.hdr.port = some (136, f.hdr.tag.toNat, St.ok, toBE 4 (x.crc ^^^ 0xFFFFFFFF)) := by
  obtain ⟨s', hexec, ha⟩ := exec_answered (op := 8) (c := .segEnd t f) ht (by simp)
    (hd ▸ runSegEnd_upload (transferOf_counted_at (t := t) hx hi hs) hu) keepsSession_closed (show St.ok < 256 by decide)
  exact ⟨s', hexec, (ha.kept sub_ports (kept_closed _ sub_ports (kept_counted_at f.hdr t s))).rest,
    ha.transfer.trans transfer_closed, ha.last⟩

theorem segAbort_spec (hd : f.data = []) : ∃ s', exec (.segAbort t f) s = .next s' ∧ (portOf s' f.hdr.port).transfer = none ∧
    s'.mem = s.mem ∧ oget s' Ob.WNP_SEGABORT = satInc 0xFFFFFFFF (oget s Ob.WNP_SEGABORT) ∧
    lastAnswer s' f.hdr.port = some (137, f.hdr.tag.toNat, St.ok, []) := by
  have hrun : runSegAbort f.hdr.port f.index.toNat f.sub.toNat f.data (counted (s.at t) f.hdr) =
      (abortTransfer f.hdr.port (counted (s.at t) f.hdr), ⟨St.ok, []⟩) := by
    rw [hd]
    exact runSegAbort_of (transferOf_counted_at (t := t) hx hi hs)
  have htr : (portOf (counted (s.at t) f.hdr) f.hdr.port).transfer = some x := by
    rw [portOf_counted]
    exact hx
  obtain ⟨hk, hnone, hcnt⟩ := abortTransfer_spec htr
  obtain ⟨s', hexec, ha⟩ := exec_answered (op := 9) (c := .segAbort t f) ht (by simp) hrun hk (show St.ok < 256 by decide)
  have hkept := ha.kept (m := [.obj, .pins, .mgt, .scan, .jrn]) (s0 := s) (sub_of_ports rfl)
    (kept_abortTransfer _ (fun _ => id) (kept_counted _ (sub_of_ports rfl) (Kept.at_ _ t s)))
  refine ⟨s', hexec, ha.transfer.trans hnone, hkept.rest.mem (by decide), ?_, ha.last⟩
  rw [ha.obj (by decide), hcnt, oget_counted_at f.hdr t s (by decide) (by decide)]

section
variable (hu : x.upload = false) (hl : f.data.length = 4)
include hu hl

omit hx hi hs hu hl in
/-- The end of a download that fails. -/
theorem segEnd_fails {st : Nat} (hst : st < 256) (hrun : runSegEnd f.hdr.port f.index.toNat f.sub.toNat f.data
      (counted (s.at t) f.hdr) = (transferFails x (closedTransfer f.hdr.port (counted (s.at t) f.hdr)), ⟨st, []⟩)) :
    ∃ s', exec (.segEnd t f) s = .next s' ∧ (portOf s' f.hdr.port).transfer = none ∧
      s'.dom = s.dom ∧ s'.mem = s.mem ∧ lastAnswer s' f.hdr.port = some (136, f.hdr.tag.toNat, st, []) := by
  obtain ⟨s', hexec, ha⟩ := exec_answered (op := 8) (c := .segEnd t f) ht (by simp) hrun keepsSession_fails hst
  have hkept := ha.kept (m := [.obj, .pins, .mgt, .scan, .jrn]) (s0 := s) (sub_of_ports rfl)
    (kept_transferFails _ (Sub.trans (by decide) fun _ => id) (kept_closed _ (sub_of_ports rfl)
      (kept_counted _ (sub_of_ports rfl) (Kept.at_ _ t s))))
  refine ⟨s', hexec, ha.transfer.trans ?_, hkept.rest.dom (by decide), hkept.rest.mem (by decide), ha.last⟩
  rw [portOf_congr (transferFails_mgt x _) f.hdr.port, transfer_closed]

section
variable (hn : x.next = x.size) (hc : ofBE f.data = x.crc ^^^ 0xFFFFFFFF)
include hn hc

theorem segEnd_viol (hv : x.viol = true) : ∃ s', exec (.segEnd t f) s = .next s' ∧
    (portOf s' f.hdr.port).transfer = none ∧ s.sameBut [.obj, .mgt, .pins] s' ∧
    lastAnswer s' f.hdr.port = some (136, f.hdr.tag.toNat, St.ok, []) := by
  have hrun := runSegEnd_download (transferOf_counted_at (t := t) hx hi hs) hu hl
  rw [if_neg (by simp [hn]), if_neg (by simp [hc]), if_pos hv] at hrun
  obtain ⟨s', hexec, ha⟩ := exec_answered (op := 8) (c := .segEnd t f) ht (by simp) hrun keepsSession_closed
    (show St.ok < 256 by decide)
  exact ⟨s', hexec, ha.transfer.trans transfer_closed,
    (ha.kept sub_ports (kept_closed _ sub_ports (kept_counted_at f.hdr t s))).rest, ha.last⟩

omit ht in
theorem runSegEnd_applied (hv : x.viol = false) : runSegEnd f.hdr.port f.index.toNat f.sub.toNat f.data (counted (s.at t) f.hdr) =
    ((applyDownload x (x.crc ^^^ 0xFFFFFFFF) (closedTransfer f.hdr.port (counted (s.at t) f.hdr))).1,
      ⟨(applyDownload x (x.crc ^^^ 0xFFFFFFFF) (closedTransfer f.hdr.port (counted (s.at t) f.hdr))).2, []⟩) := by
  rw [runSegEnd_download (transferOf_counted_at (t := t) hx hi hs) hu hl, if_neg (by simp [hn]), if_neg (by simp [hc]),
    if_neg (by rw [hv]; decide)]

theorem segEnd_applied {s2 : State} {st : Nat} (hv : x.viol = false)
    (happ : applyDownload x (x.crc ^^^ 0xFFFFFFFF) (closedTransfer f.hdr.port (counted (s.at t) f.hdr)) = (s2, st)) (hst : st < 256)
    (hk : keepsSession f.hdr.port (counted (s.at t) f.hdr) s2) : ∃ s', exec (.segEnd t f) s = .next s' ∧
      AnsweredIn 8 f.hdr ⟨st, []⟩ s2 s' := by
  have hrun := runSegEnd_applied (t := t) hx hi hs hu hl hn hc hv
  rw [happ] at hrun
  exact exec_answered (op := 8) (c := .segEnd t f) ht (by simp) hrun hk hst

theorem segEnd_table (hv : x.viol = false) (h2 : twoCopies (key f.index.toNat f.sub.toNat) = true)
    (hseal : oflag s Ob.SAF_SEALED = false) (hb : look s.scan.tableBusy (key f.index.toNat f.sub.toNat) = none) :
    ∃ s', exec (.segEnd t f) s = .next s' ∧ (portOf s' f.hdr.port).transfer = none ∧
      dget s' (key f.index.toNat f.sub.toNat) = x.buf ∧
      look s'.scan.tableBusy (key f.index.toNat f.sub.toNat) = some 1 ∧ s'.scan.tableAct = s.scan.tableAct ∧ s'.mem = s.mem ∧
      lastAnswer s' f.hdr.port = some (136, f.hdr.tag.toNat, St.ok, []) := by
  have hkey : key x.index x.sub = key f.index.toNat f.sub.toNat := by rw [hi, hs]
  have hclosed : (closedTransfer f.hdr.port (counted (s.at t) f.hdr)).scan = s.scan := by
    unfold closedTransfer
    rw [setPort_scan, counted_scan]
    rfl
  have hsealed : oflag (closedTransfer f.hdr.port (counted (s.at t) f.hdr)) Ob.SAF_SEALED = false := by
    unfold oflag at hseal ⊢
    unfold closedTransfer
    rwa [oget_setPort _ _ _ (by decide), oget_counted_at f.hdr t s (by decide) (by decide)]
  have hk := kept_closed (m := [.obj, .pins, .mgt, .dom, .scan, .safe, .jrn]) f.hdr.port (sub_of_ports rfl)
    (kept_counted f.hdr (sub_of_ports rfl) (Kept.at_ _ t s))
  have hsess := keepsSession_closed (p := f.hdr.port) (s := counted (s.at t) f.hdr)
  have hnone := transfer_closed (p := f.hdr.port) (s := counted (s.at t) f.hdr)
  have happ := applyDownload_table (x := x) (crc := x.crc ^^^ 0xFFFFFFFF) (hkey ▸ h2) hsealed
  rw [hkey] at happ
  generalize hcl : closedTransfer f.hdr.port (counted (s.at t) f.hdr) = a at hclosed hk happ hsess hnone
  obtain ⟨hok, hdget, hlook, hact⟩ := tableWrite_free (bs := x.buf) (s := a) (hclosed ▸ hb)
  have hmgt := tableWrite_mgt (key f.index.toNat f.sub.toNat) x.buf a
  have hkt := kept_tableWrite (m := [.obj, .pins, .mgt, .dom, .scan, .safe, .jrn]) (key f.index.toNat f.sub.toNat) x.buf
    (Sub.trans (by decide) fun _ => id) hk
  rcases hr : tableWrite (key f.index.toNat f.sub.toNat) x.buf a with ⟨s2, st⟩
  rw [hr] at hok hdget hlook hact hmgt hkt happ
  dsimp only at hok hdget hlook hact hmgt
  subst hok
  have hport := portOf_congr hmgt f.hdr.port
  obtain ⟨s', hexec, ha⟩ := segEnd_applied ht hx hi hs hu hl hn hc hv (hcl ▸ happ) (by decide)
    ⟨(congrArg PortState.active hport).trans hsess.1, (congrArg PortState.gen hport).trans hsess.2⟩
  have hs2 := (ha.kept (m := [.obj, .pins, .mgt]) (fun _ => id) (Kept.start _ s2)).rest
  refine ⟨s', hexec, ha.transfer.trans (by rw [hport, hnone]), ?_, ?_, ?_,
    (ha.kept (sub_of_ports rfl) hkt).rest.mem (by decide), ha.last⟩
  · unfold dget at hdget ⊢
    rw [hs2.dom (by decide), hdget]
  · rw [hs2.scan (by decide), hlook]
  · rw [hs2.scan (by decide), hact, hclosed]

end

end

end

end

/-- Settles O36: each request by the transfer that runs, and the end of a download by what the object's own rule gives. -/
theorem transfersReadAndEnd : Obligations.TransfersReadAndEnd := by
  intro t k f s hk
  subst hk
  refine ⟨fun x hx => segTimeout_spec hx, fun ht => ⟨fun n c hc => segNone ht hc, fun x hx hi hs => ⟨?read, ?unordered, ?ended,
    fun hu hl => ⟨?short, ?badCrc, ?viol, ?table, ?own⟩, segAbort_spec ht hx hi hs⟩⟩⟩
  case read => exact fun n hu hnext hn hd => segRead_ordered ht hx hi hs hu hnext hn hd
  case unordered => exact segRead_unordered ht hx hi hs
  case ended => exact segEnd_upload ht hx hi hs
  case short =>
    intro hne
    refine segEnd_fails (x := x) ht (by decide) ?_
    rw [runSegEnd_download (transferOf_counted_at (t := t) hx hi hs) hu hl, if_pos hne]
  case badCrc =>
    intro hn hc
    refine segEnd_fails (x := x) ht (by decide) ?_
    rw [runSegEnd_download (transferOf_counted_at (t := t) hx hi hs) hu hl, if_neg (by simp [hn]), if_pos hc]
  case viol => exact fun hn hc hv => segEnd_viol ht hx hi hs hu hl hn hc hv
  case table => exact fun hn hc hv h2 hseal hb => segEnd_table ht hx hi hs hu hl hn hc hv h2 hseal hb
  case own =>
    intro c s2 st hcount hn hc hv happ hst hact hgen
    subst hcount
    have hk : keepsSession f.hdr.port (counted (s.at t) f.hdr) s2 := by
      unfold keepsSession
      rw [portOf_counted]
      exact ⟨hact.trans (active_of_taken ht).symm, hgen⟩
    obtain ⟨s', hexec, ha⟩ := segEnd_applied ht hx hi hs hu hl hn hc hv happ hst hk
    exact ⟨s', hexec, ha.last, (ha.kept sub_ports (Kept.start _ s2)).rest⟩

end Sys2Proof.Machine

end

section
/-! PROOF. A sync word that restarts the raster logs a dead subpixel over GYL_MASTER (R274, R410): O39 fails. -/

namespace Sys2Proof.Machine
open Sys2Proof

/-- The sync word of epoch 1 from node 0, with its CRC. -/
def firstSyncWord : BitVec 96 := BitVec.ofNat 96 (2 ^ 32 * 2 ^ 16 + crc16 (toBE 10 (2 ^ 32)))

/-- A follower in SETUP that waits to realign its one-tile raster, with one dead subpixel below the plate it shows, and with
WEAR_LOGIDX so far past the log that its next entry lies on GYL_MASTER. -/
def loggingOverMaster : State :=
  { State.reset with
    obj := [(Ob.SCAN_RATE, 60000), (Ob.FRS_DEFCLASS, 2), (Ob.WEAR_LOGIDX, Ob.GYL_MASTER - Ob.WEAR_LOG + 1), (Ob.GYL_ROLE, 2),
      (Ob.GYL_FSDELAY, 0)]
    mem := [(0x6C000000, 0x60#8)]
    boot := { State.reset.boot with stage := .started, op := .setup }
    scan := { State.reset.scan with selNow := 1, inForce := [(Ob.SCAN_WIDTH, 64), (Ob.SCAN_HEIGHT, 32)] }
    wear := { State.reset.wear with dead := [(0, 1)] }
    gyl := { State.reset.gyl with lastSync := some ⟨0, 0, 0, 0, false⟩, realign := true } }

/-- The master that is shown where a command completes. -/
def masterShown (o : Host.Outcome State Fault Refusal) : Nat :=
  match o with
  | .next s => oget s Ob.GYL_MASTER
  | _ => 0

/-- Refutes O39. The usable word names node 0 as the master, but the realignment that it brings about enters the dead subpixel in the
log, and the entry's place is GYL_MASTER. -/
theorem not_wallsSyncAndRoll : ¬ Obligations.WallsSyncAndRoll := by
  unfold Obligations.WallsSyncAndRoll
  intro hall
  obtain ⟨hsync, -⟩ := hall.1 16666667 loggingOverMaster
  obtain ⟨s', hx, -, -, -, -, husable⟩ := (hsync firstSyncWord _ rfl (by decide +kernel)).1 (by decide +kernel)
  obtain ⟨hmaster, -⟩ := husable ⟨0, 0, 0, 0, false⟩ rfl (by decide +kernel) (by decide +kernel) (by decide +kernel)
  have hrun : masterShown (exec (.syncWord 16666667 firstSyncWord) loggingOverMaster) ≠ (syncOf firstSyncWord.toNat).node := by
    decide +kernel
  rw [hx] at hrun
  exact hrun hmaster

end Sys2Proof.Machine
end

section
/-!
PROOF. A follower of the cascade and the changes of the wall (O41; R403, R404, R416 to R421).
-/

namespace Sys2Proof.Machine

open Sys2Proof

/-! ## The roles and a frame for this node -/

theorem gylOn_of_follower {s : State} (h : isFollower s = true) : gylOn s = true ∧ oget s Ob.GYL_ROLE = 2 := by
  unfold isFollower at h
  rw [Bool.and_eq_true, decide_eq_true_eq] at h
  exact h

theorem gylOn_of_master {s : State} (h : isMaster s = true) : gylOn s = true ∧ oget s Ob.GYL_ROLE = 1 ∧ s.gyl.state = 5 := by
  unfold isMaster at h
  rw [Bool.and_eq_true, Bool.and_eq_true, decide_eq_true_eq, decide_eq_true_eq] at h
  exact ⟨h.1.1, h.1.2, h.2⟩

/-- A sound frame for this node is taken. -/
theorem gylTake_for {type len : Nat} {f : GylIn} {run : Nat → List Byte → State → State} {s : State} (hon : gylOn s = true)
    (hr : oget s Ob.GYL_ROLE ≠ 0) (hf : gylFor s type len f) : gylTake type len f run s = run (gylSrc f) f.data s := by
  obtain ⟨hok, hdst⟩ := hf
  unfold gylTake
  dsimp only
  rw [if_neg (by rw [hon]; simp [hr]), if_neg (by rw [hok]; decide), if_neg (by tauto)]

theorem gylTake_follower {type len : Nat} {f : GylIn} {run : Nat → List Byte → State → State} {s : State}
    (h : isFollower s = true) (hf : gylFor s type len f) : gylTake type len f run s = run (gylSrc f) f.data s :=
  gylTake_for (gylOn_of_follower h).1 (by rw [(gylOn_of_follower h).2]; decide) hf

/-! ## The answer to a PREPARE -/

section
variable {src : Nat} {c : Change} {x : Nat} {s : State}

theorem sendAnswer_ready : sendAnswer src c 0 x s = { s with gyl := { s.gyl with
    tx := gylOut s (replyAt s) 4 src (toBE 6 c.epoch ++ toBE 2 c.gen ++ toBE 1 (b2n (decide (s.boot.op = .safeDark))) ++
      toBE 1 0) :: s.gyl.tx } } := rfl

theorem sendAnswer_refuse {r : Nat} (hr : r ≠ 0) : sendAnswer src c r x s = { oset Ob.GYL_CMT_REASON r s with gyl := { s.gyl with
    tx := gylOut (oset Ob.GYL_CMT_REASON r s) (replyAt s) 5 src (toBE 6 c.epoch ++ toBE 2 c.gen ++ toBE 1 r ++ toBE 1 x) ::
      s.gyl.tx } } := if_neg hr

/-- The address of a node is its site and the upper part of its CAN configuration. -/
theorem nodeAddr_congr {a : State} (hm : a.mgt = s.mgt) (hs : oget a Ob.RST_STRAP_SITE = oget s Ob.RST_STRAP_SITE) :
    nodeAddr a = nodeAddr s := by
  unfold nodeAddr canGet
  rw [hm, hs]

theorem gylOut_congr {a : State} (h : nodeAddr a = nodeAddr s) (t type dst : Nat) (data : List Byte) :
    gylOut a t type dst data = gylOut s t type dst data := by
  unfold gylOut
  rw [h]

theorem replyAt_congr {a : State} (hn : a.now = s.now) (h : nodeAddr a = nodeAddr s) : replyAt a = replyAt s := by
  unfold replyAt
  rw [hn, h]

/-- The state in which a decision is remembered. -/
def answering (c : Change) (r x : Nat) (s : State) : State := { s with gyl := { s.gyl with answer := some (c, r, x) } }

theorem refuseRun_rest (r : Nat) (s : State) : (refuseRun r s).gyl = s.gyl ∧ (refuseRun r s).now = s.now ∧
    (refuseRun r s).boot = s.boot ∧ (refuseRun r s).mgt = s.mgt ∧
    oget (refuseRun r s) Ob.RST_STRAP_SITE = oget s Ob.RST_STRAP_SITE := by
  unfold refuseRun whenDo
  split
  · unfold runRefused
    split
    · exact ⟨rfl, rfl, rfl, rfl, oget_oset_ne _ _ (by decide)⟩
    · exact ⟨rfl, rfl, rfl, rfl, rfl⟩
  · exact ⟨rfl, rfl, rfl, rfl, rfl⟩

/-- A change that a participant in P0 holds: a LAYOUT under a seal is journaled first. -/
theorem holdChange_p0 (hp : s.pwr.state = .p0) : (holdChange c s).gyl = { s.gyl with held := some c, heldOk := false } ∧
    (holdChange c s).now = s.now ∧ (holdChange c s).boot = s.boot ∧ (holdChange c s).mem = s.mem ∧
    (holdChange c s).mgt = s.mgt ∧ oget (holdChange c s) Ob.RST_STRAP_SITE = oget s Ob.RST_STRAP_SITE := by
  have hrec : oget (stagedRecord 1 (c.epoch % 2 ^ 24) c.gen c.arg s) Ob.RST_STRAP_SITE = oget s Ob.RST_STRAP_SITE :=
    oget_jrnAdd _ _ _ _ _ _ _ (by decide)
  unfold holdChange
  dsimp only
  split
  · rw [if_neg (by exact fun h => h.2 hp)]
    exact ⟨rfl, rfl, rfl, rfl, rfl, hrec⟩
  · rw [if_neg (by exact fun h => h.2 hp)]
    exact ⟨rfl, rfl, rfl, rfl, rfl, rfl⟩

/-- An answer leaves the state but for the reason shown and the frame that goes out. -/
theorem sendAnswer_spec (r : Nat) : (∀ m s0, Sub [.obj, .gyl] m → Kept m s0 s → Kept m s0 (sendAnswer src c r x s)) ∧
    (sendAnswer src c r x s).gyl.answer = s.gyl.answer ∧ (sendAnswer src c r x s).gyl.held = s.gyl.held ∧
    (sendAnswer src c r x s).gyl.tx.drop 1 = s.gyl.tx ∧
    (sendAnswer src c r x s).gyl.tx.head?.map (fun f => (f.at_, f.type, f.dst)) =
      some (replyAt s, if r = 0 then 4 else 5, src) := by
  refine ⟨fun m s0 hm h => kept_sendAnswer _ _ _ _ hm h, ?_⟩
  by_cases hr : r = 0
  · subst hr
    exact ⟨rfl, rfl, rfl, rfl⟩
  · rw [sendAnswer_refuse hr, if_neg hr]
    exact ⟨rfl, rfl, rfl, rfl⟩

end

/-! ## A PREPARE -/

section
variable {t : Nat} {f : GylIn} {c : Change} {s : State}

theorem exec_prepare (hfol : isFollower s = true) (hf : gylFor s 3 22 f) :
    exec (.prepare t f) s = .next (takePrepare (gylSrc f) f.data (s.at t)) :=
  congrArg Host.Outcome.next (gylTake_follower (s := s.at t) hfol hf)

theorem takePrepare_other {src : Nat} {d : List Byte} (hb : bit (payAt d 14 8) (nodeAddr s) = false) :
    takePrepare src d s = s := if_pos (by rw [hb]; simp)

section
variable {src : Nat} {d : List Byte} (hfol : isFollower s = true) (hb : bit (payAt d 14 8) (nodeAddr s) = true)
  (hc : c = Change.mk (cmtE d) (cmtGen d) (payAt d 8 1) (payAt d 10 4))
include hfol hb hc

theorem takePrepare_new (ha : s.gyl.answer = none) {r x : Nat} (hd : decideChange c s = (r, x)) : takePrepare src d s =
    sendAnswer src c r x (if r = 0 then holdChange c (answering c r x s) else refuseRun r (answering c r x s)) := by
  subst hc
  unfold takePrepare
  rw [if_neg (by rw [hfol, hb]; simp), ha]
  dsimp only
  rw [hd]
  rfl

theorem takePrepare_repeat {r x : Nat} (ha : s.gyl.answer = some (c, r, x)) :
    takePrepare src d s = sendAnswer src c r x s := by
  subst hc
  unfold takePrepare
  rw [if_neg (by rw [hfol, hb]; simp), ha]
  dsimp only
  rw [if_pos rfl]

end

theorem prepare_refused (hfol : isFollower s = true) (hf : gylFor s 3 22 f)
    (hc : c = Change.mk (cmtE f.data) (cmtGen f.data) (payAt f.data 8 1) (payAt f.data 10 4))
    (hb : bit (payAt f.data 14 8) (nodeAddr s) = true) (ha : s.gyl.answer = none) {r x : Nat}
    (hd : decideChange c (s.at t) = (r, x)) (hr : r ≠ 0) : ∃ s', exec (.prepare t f) s = .next s' ∧ s.sameBut [.obj, .gyl] s' ∧
      oget s' Ob.GYL_CMT_REASON = r ∧ s'.gyl = { s.gyl with
        answer := some (c, r, x)
        tx := gylOut s (replyAt (s.at t)) 5 (gylSrc f) (toBE 6 c.epoch ++ toBE 2 c.gen ++ toBE 1 r ++ toBE 1 x) ::
          s.gyl.tx } := by
  have htake := takePrepare_new (src := gylSrc f) (s := s.at t) hfol hb hc ha hd
  rw [if_neg hr, sendAnswer_refuse hr] at htake
  obtain ⟨hg, hn, -, hm, hsite⟩ := refuseRun_rest r (answering c r x (s.at t))
  have hkept : Kept [.obj, .gyl] s (refuseRun r (answering c r x (s.at t))) :=
    kept_refuseRun r (sub_of rfl) (kept_set_gyl (sub_of rfl) (Kept.at_ _ t s))
  generalize refuseRun r (answering c r x (s.at t)) = a at htake hg hn hm hsite hkept
  have haddr : nodeAddr (oset Ob.GYL_CMT_REASON r a) = nodeAddr s :=
    nodeAddr_congr hm ((oget_oset_ne _ _ (by decide)).trans hsite)
  have hreply : replyAt a = replyAt (s.at t) :=
    replyAt_congr hn (nodeAddr_congr hm hsite)
  refine ⟨_, (exec_prepare hfol hf).trans (congrArg Host.Outcome.next htake), ?_, ?_, ?_⟩
  · exact (kept_set_gyl (sub_of rfl) (kept_oset _ _ (sub_of rfl) hkept)).rest
  · exact oget_oset_same _ _ _
  · dsimp only
    rw [gylOut_congr haddr, hreply, hg]
    rfl

theorem prepare_held (hfol : isFollower s = true) (hf : gylFor s 3 22 f)
    (hc : c = Change.mk (cmtE f.data) (cmtGen f.data) (payAt f.data 8 1) (payAt f.data 10 4))
    (hb : bit (payAt f.data 14 8) (nodeAddr s) = true) (ha : s.gyl.answer = none) {x : Nat}
    (hd : decideChange c (s.at t) = (0, x)) (hp : s.pwr.state = .p0) : ∃ s', exec (.prepare t f) s = .next s' ∧
      s'.mem = s.mem ∧ s'.boot = s.boot ∧ s'.gyl = { s.gyl with
        answer := some (c, 0, x), held := some c, heldOk := false
        tx := gylOut s (replyAt (s.at t)) 4 (gylSrc f) (toBE 6 c.epoch ++ toBE 2 c.gen ++
          toBE 1 (b2n (decide (s.boot.op = .safeDark))) ++ toBE 1 0) :: s.gyl.tx } := by
  have htake := takePrepare_new (src := gylSrc f) (s := s.at t) hfol hb hc ha hd
  rw [if_pos rfl, sendAnswer_ready] at htake
  obtain ⟨hg, hn, hboot, hmem, hm, hsite⟩ := holdChange_p0 (c := c) (s := answering c 0 x (s.at t)) hp
  generalize holdChange c (answering c 0 x (s.at t)) = a at htake hg hn hboot hmem hm hsite
  have haddr : nodeAddr a = nodeAddr s := nodeAddr_congr hm hsite
  have hreply : replyAt a = replyAt (s.at t) :=
    replyAt_congr hn haddr
  refine ⟨_, (exec_prepare hfol hf).trans (congrArg Host.Outcome.next htake), hmem, hboot, ?_⟩
  dsimp only
  rw [gylOut_congr haddr, hreply, hg, hboot]
  rfl

theorem prepare_repeat (hfol : isFollower s = true) (hf : gylFor s 3 22 f)
    (hc : c = Change.mk (cmtE f.data) (cmtGen f.data) (payAt f.data 8 1) (payAt f.data 10 4))
    (hb : bit (payAt f.data 14 8) (nodeAddr s) = true) {r x : Nat} (ha : s.gyl.answer = some (c, r, x)) :
    ∃ s', exec (.prepare t f) s = .next s' ∧ s.sameBut [.obj, .gyl] s' ∧ s'.gyl.answer = s.gyl.answer ∧
      s'.gyl.held = s.gyl.held ∧ s'.gyl.tx.drop 1 = s.gyl.tx ∧
      s'.gyl.tx.head?.map (fun x => (x.at_, x.type, x.dst)) =
        some (replyAt (s.at t), if r = 0 then 4 else 5, gylSrc f) := by
  obtain ⟨hkept, hans, hheld, htx, hhead⟩ := sendAnswer_spec (src := gylSrc f) (c := c) (x := x) (s := s.at t) r
  exact ⟨_, (exec_prepare hfol hf).trans (congrArg Host.Outcome.next (takePrepare_repeat (s := s.at t) hfol hb hc ha)),
    (hkept _ s (fun _ => id) (Kept.at_ _ t s)).rest, hans, hheld, htx, hhead⟩

/-! ## COMMIT, ABORT and VECTOR -/

theorem exec_commit (hfol : isFollower s = true) (hf : gylFor s 6 8 f) : exec (.commit t f) s =
    .next (if heldMatches f.data s then { s.at t with gyl := { s.gyl with heldOk := true } } else s.at t) :=
  congrArg Host.Outcome.next (gylTake_follower (s := s.at t) hfol hf)

theorem exec_abort (hfol : isFollower s = true) (hf : gylFor s 7 10 f) :
    exec (.abort t f) s = .next (takeAbort f.data (s.at t)) :=
  congrArg Host.Outcome.next (gylTake_follower (s := s.at t) hfol hf)

/-- What a follower shows of an ABORT. -/
def abortShown (d : List Byte) (s : State) : State :=
  oset Ob.GYL_CMT_NODE (if (decide (payAt d 8 1 = 0x10) || decide (payAt d 8 1 = 0x11)) = true then payAt d 9 1 else 255)
    (oset Ob.GYL_CMT_REASON (payAt d 8 1) s)

theorem takeAbort_follower {d : List Byte} (hfol : isFollower s = true) : takeAbort d s = if heldMatches d s then
      { abortShown d s with gyl := { s.gyl with answer := none, held := none, heldOk := false } }
    else { abortShown d s with gyl := { s.gyl with answer := none } } := by
  unfold takeAbort
  dsimp only
  rw [if_neg (by rw [hfol]; decide)]
  rfl

theorem abortShown_reason (d : List Byte) (s : State) : oget (abortShown d s) Ob.GYL_CMT_REASON = payAt d 8 1 :=
  (oget_oset_ne _ _ (by decide)).trans (oget_oset_same _ _ _)

theorem abort_follower (hfol : isFollower s = true) (hf : gylFor s 7 10 f) :
    ∃ s', exec (.abort t f) s = .next s' ∧ s.sameBut [.obj, .gyl] s' ∧
      oget s' Ob.GYL_CMT_REASON = payAt f.data 8 1 ∧ s'.gyl.answer = none ∧
      (heldMatches f.data s = true → s'.gyl.held = none ∧ s'.gyl.heldOk = false) ∧
      (heldMatches f.data s = false → s'.gyl.held = s.gyl.held ∧ s'.gyl.heldOk = s.gyl.heldOk) := by
  have hx := (exec_abort (t := t) hfol hf).trans (congrArg Host.Outcome.next (takeAbort_follower (s := s.at t) hfol))
  have hkept : Kept [.obj, .gyl] s (abortShown f.data (s.at t)) :=
    kept_oset _ _ (sub_of rfl) (kept_oset _ _ (sub_of rfl) (Kept.at_ _ t s))
  have hreason := abortShown_reason f.data (s.at t)
  by_cases hm : heldMatches f.data s = true
  · rw [if_pos (by exact hm)] at hx
    exact ⟨_, hx, (kept_set_gyl (sub_of rfl) hkept).rest, hreason, rfl, fun _ => ⟨rfl, rfl⟩,
      fun h => absurd (hm.symm.trans h) (by decide)⟩
  · rw [if_neg (by exact hm)] at hx
    exact ⟨_, hx, (kept_set_gyl (sub_of rfl) hkept).rest, hreason, rfl, fun h => absurd h hm, fun _ => ⟨rfl, rfl⟩⟩

theorem exec_vector (hfol : isFollower s = true) (hf : gylFor s 9 14 f) :
    exec (.vector t f) s = .next (takeVector f.data (s.at t)) :=
  congrArg Host.Outcome.next (gylTake_follower (s := s.at t) hfol hf)

theorem takeVector_lag {d : List Byte} (hfol : isFollower s = true) (h : s.gyl.state = 1 ∨ s.gyl.state = 3 ∨ s.gyl.state = 4) :
    takeVector d s = { s with gyl := { s.gyl with vecPend := some (payAt d 0 2, firstFrame s,
      [(1, payAt d 3 1), (2, payAt d 4 1), (3, payAt d 6 4), (4, payAt d 10 4)].filter (fun e => bit (payAt d 2 1) (e.1 - 1))) } } :=
  if_pos ⟨hfol, decide_eq_true h⟩

theorem takeVector_inStep {d : List Byte} (h : ¬ (s.gyl.state = 1 ∨ s.gyl.state = 3 ∨ s.gyl.state = 4)) : takeVector d s = s :=
  if_neg (fun hc => h (of_decide_eq_true hc.2))

end

/-- Settles O41: a PREPARE by the decision or the answer that is remembered, the others by the change that is held. -/
theorem changesAreFollowed : Obligations.ChangesAreFollowed := by
  intro t s hfol
  refine ⟨fun f c hf hc => ⟨fun hb ha r x hd => ⟨prepare_refused hfol hf hc hb ha hd, fun hr hp => ?held⟩,
    fun r x hb ha => prepare_repeat hfol hf hc hb ha, fun hb => ?other⟩, fun f hf => ⟨fun hm => ?confirmed, fun hm => ?ignored⟩,
    fun f hf => abort_follower hfol hf, fun f hf => ⟨fun h => ?lag, fun h1 h3 h4 => ?inStep⟩⟩
  case held =>
    subst hr
    exact prepare_held hfol hf hc hb ha hd hp
  case other => exact (exec_prepare hfol hf).trans (congrArg Host.Outcome.next (takePrepare_other (s := s.at t) hb))
  case confirmed => exact (exec_commit hfol hf).trans (congrArg Host.Outcome.next (if_pos hm))
  case ignored => exact (exec_commit hfol hf).trans (congrArg Host.Outcome.next (if_neg (by rw [hm]; decide)))
  case lag =>
    exact ⟨_, (exec_vector hfol hf).trans (congrArg Host.Outcome.next (takeVector_lag (s := s.at t) hfol h)),
      (kept_set_gyl (fun _ => id) (Kept.at_ _ t s)).rest, rfl⟩
  case inStep =>
    exact (exec_vector hfol hf).trans (congrArg Host.Outcome.next (takeVector_inStep (s := s.at t) (by
      change ¬ (s.gyl.state = 1 ∨ s.gyl.state = 3 ∨ s.gyl.state = 4)
      tauto)))

end Sys2Proof.Machine

end

section
/-!
PROOF. The snapshots, the realignment and the wake phrase of the wall (O42; R51, R410, R423 to R427, R442).
-/

namespace Sys2Proof.Machine

open Sys2Proof

/-! ## What a request that has been counted leaves of the cascade -/

theorem pendEvt_canCfg (b : Nat) (s : State) : (pendEvt b s).mgt.canCfg = s.mgt.canCfg := by
  unfold pendEvt
  dsimp only
  rw [refreshEvt_mgt]
  split
  · rfl
  · rfl

theorem setPort_canCfg (p : Port) (v : PortState) (s : State) : (setPort p v s).mgt.canCfg = s.mgt.canCfg := by
  cases p with
  | can => rfl
  | spi =>
    unfold setPort
    dsimp only
    split
    · rw [refreshEvt_mgt]
      rfl
    · rw [pendEvt_canCfg]

section
variable (h : Hdr) (s : State)

theorem nodeAddr_counted : nodeAddr (counted s h) = nodeAddr s := by
  unfold nodeAddr canGet
  rw [oget_counted h s (by decide) (by decide)]
  unfold counted
  rw [evc_mgt, setPort_canCfg]

theorem isMaster_counted : isMaster (counted s h) = isMaster s := by
  unfold isMaster gylOn
  rw [counted_boot, counted_gyl, oget_counted h s (by decide) (by decide)]

theorem isFollower_counted : isFollower (counted s h) = isFollower s := by
  unfold isFollower gylOn
  rw [counted_boot, oget_counted h s (by decide) (by decide)]

theorem masterAt_counted : masterAt (counted s h) = masterAt s := by
  unfold masterAt txEnd
  rw [counted_now, counted_scan, counted_gyl]

end

/-! ## Snapshots -/

/-- A snapshot that the master originates for frame `e`, from the address `addr` at `at_`. -/
def snapSent (addr at_ e : Nat) (g : Gyl) : Gyl :=
  { g with snap := some e, tx := .mk at_ 10 255 (toBE 6 e) (manchester (gylBytes 10 addr 255 (toBE 6 e))) :: g.tx }

section
variable {s : State}

theorem armSnap_late {e : Nat} (he : e ≤ s.scan.epoch + 1) : armSnap e s = cnt Ob.GYL_SNAPLATE s := if_pos he

theorem armSnap_early {e : Nat} (he : s.scan.epoch + 1 < e) : armSnap e s = { s with gyl := { s.gyl with snap := some e } } :=
  if_neg (by omega)

theorem sendSnap_early (hl : 1 < oget s Ob.GYL_LEAD) :
    sendSnap s = { s with gyl := snapSent (nodeAddr s) (masterAt s) (s.scan.epoch + oget s Ob.GYL_LEAD) s.gyl } := by
  unfold sendSnap
  dsimp only
  rw [armSnap_early (by change s.scan.epoch + 1 < _; omega)]
  rfl

theorem ownSnapNow_master {v : Nat} (hv : v ≠ 0) (hm : isMaster s = true) (hp : bit s.pwr.stopped 1 = false) :
    ownSnapNow v s = (sendSnap s, St.ok) := by
  unfold ownSnapNow
  rw [if_neg hv, if_pos ⟨hm, by rw [hp]; rfl⟩]

theorem ownSnapNow_refused {v : Nat} (hv : v ≠ 0) (h : isMaster s = false ∨ bit s.pwr.stopped 1 = true) :
    ownSnapNow v s = (s, St.refused) := by
  have hno : ¬ (isMaster s = true ∧ (!bit s.pwr.stopped 1) = true) := by
    rintro ⟨hm, hp⟩
    rcases h with h | h
    · exact absurd (hm.symm.trans h) (by decide)
    · rw [h] at hp
      exact absurd hp (by decide)
  unfold ownSnapNow
  rw [if_neg hv, if_neg hno]

theorem ownRealign_taken {v : Nat} (hv : v ≠ 0) (ho : s.boot.op = .setup) (hf : isFollower s = true) :
    ownRealign v s = ({ s with gyl := { s.gyl with realign := true } }, St.ok) := by
  unfold ownRealign
  rw [if_neg hv, if_neg (by rw [ho]; simp), if_neg (by rw [hf]; decide)]

theorem ownRealign_refused {v : Nat} (hv : v ≠ 0) (h : s.boot.op ≠ .setup ∨ isFollower s = false) :
    ∃ st, ownRealign v s = (s, st) := by
  unfold ownRealign
  rw [if_neg hv]
  by_cases ho : s.boot.op = .setup
  · have hf := h.resolve_left (fun hc => hc ho)
    rw [if_neg (by rw [ho]; simp), if_pos (by rw [hf]; rfl)]
    exact ⟨_, rfl⟩
  · rw [if_pos ho]
    exact ⟨_, rfl⟩

end

/-! ## The wake phrase of the master -/

/-- The phrase of this wall. -/
def wallPhrase (s : State) : List Byte :=
  toBE 1 0x55 ++ toBE 1 0xE6 ++ toBE 1 (oget s Ob.GYL_WALLID) ++ toBE 1 (255 - oget s Ob.GYL_WALLID)

section
variable {s : State}

theorem sendPhrase_eq : sendPhrase s =
    cnt Ob.GYL_WAKESENT (gylPut (masterAt s) 0x55 255 (wallPhrase s) (wallPhrase s) s) := rfl

theorem sendPhrase_spec : oget (sendPhrase s) Ob.GYL_WAKESENT = satInc 0xFFFFFFFF (oget s Ob.GYL_WAKESENT) ∧
    (sendPhrase s).gyl = { s.gyl with
      tx := .mk (masterAt s) 0x55 255 (wallPhrase s) (manchester (wallPhrase s)) :: s.gyl.tx } := by
  rw [sendPhrase_eq, oget_cnt_same]
  exact ⟨rfl, rfl⟩

theorem ownWakeNow_master {v : Nat} (hv : v ≠ 0) (hm : isMaster s = true) : ownWakeNow v s = (startPhrase s, St.ok) := by
  unfold ownWakeNow
  rw [if_neg hv, if_pos hm]

theorem ownWakeNow_refused {v : Nat} (hv : v ≠ 0) (hm : isMaster s = false) : ownWakeNow v s = (s, St.refused) := by
  unfold ownWakeNow
  rw [if_neg hv, if_neg (by rw [hm]; decide)]

theorem startPhrase_spec : oget (startPhrase s) Ob.GYL_WAKESENT = satInc 0xFFFFFFFF (oget s Ob.GYL_WAKESENT) ∧
    (startPhrase s).gyl.wakeRep = true ∧ (startPhrase s).gyl.wakeFrom = s.now ∧
    (startPhrase s).gyl.wakeWait = presentMask s := by
  obtain ⟨hcnt, hg⟩ := sendPhrase_spec
    (s := { s with gyl := { s.gyl with wakeRep := true, wakeFrom := s.now, wakeWait := presentMask s } })
  refine ⟨hcnt, ?_⟩
  unfold startPhrase
  rw [hg]
  exact ⟨rfl, rfl, rfl⟩

theorem presentMask_counted (h : Hdr) : presentMask (counted s h) = presentMask s := by
  unfold presentMask
  rw [counted_gyl]

end

/-! ## The writes -/

section
variable {t : Nat} {s : State} {h : Hdr} {v : BitVec 8}

theorem write_ne_zero (hv : v ≠ 0) : v.toNat ≠ 0 := fun hc => hv (BitVec.eq_of_toNat_eq hc)

/-- A write whose rule changes nothing leaves the cascade alone. -/
theorem writeRow_refused {k st : Nat} {own : Nat → State → State × Nat} (ht : writeTaken (s.at t) h k v.toNat = true)
    (hown : own v.toNat (counted (s.at t) h) = (counted (s.at t) h, st)) :
    (writeRow h k v.toNat own (s.at t)).gyl = s.gyl ∧ s.sameBut [.obj, .mgt, .pins] (writeRow h k v.toNat own (s.at t)) := by
  have hk := kept_writeRow_of_taken (m := [.obj, .mgt, .pins]) (own := own) ht sub_ports
    (by rw [hown]; exact kept_counted_at h t s)
  exact ⟨hk.rest.gyl (by decide), hk.rest⟩

/-- A write whose rule changes the cascade alone. -/
theorem writeRow_gyl {k st : Nat} {g : Gyl} {own : Nat → State → State × Nat} (ht : writeTaken (s.at t) h k v.toNat = true)
    (hown : own v.toNat (counted (s.at t) h) = ({ counted (s.at t) h with gyl := g }, st)) :
    (writeRow h k v.toNat own (s.at t)).gyl = g ∧ s.sameBut [.obj, .gyl, .mgt, .pins] (writeRow h k v.toNat own (s.at t)) := by
  have hk := kept_writeRow_of_taken (m := [.obj, .gyl, .mgt, .pins]) (own := own) ht (sub_of rfl) (by
    rw [hown]
    exact kept_set_gyl (sub_of rfl) (kept_counted h (sub_of rfl) (Kept.at_ _ t s)))
  refine ⟨?_, hk.rest⟩
  rw [writeRow_of_taken ht, answerTaken_gyl, hown]

theorem realign_spec (ht : writeTaken (s.at t) h Ob.GYL_REALIGN v.toNat = true) (hv : v ≠ 0) :
    (s.boot.op = .setup → isFollower s = true → ∃ s', exec (.gylRealign t h v) s = .next s' ∧
      s'.gyl = { s.gyl with realign := true } ∧ s.sameBut [.obj, .gyl, .mgt, .pins] s') ∧
    (s.boot.op ≠ .setup ∨ isFollower s = false → ∃ s', exec (.gylRealign t h v) s = .next s' ∧ s'.gyl = s.gyl ∧
      s.sameBut [.obj, .mgt, .pins] s') := by
  have hv0 := write_ne_zero hv
  refine ⟨fun ho hf => ⟨_, rfl, ?_⟩, fun hr => ?_⟩
  · obtain ⟨hg, hk⟩ := writeRow_gyl (own := ownRealign) ht (ownRealign_taken hv0 (by rw [counted_boot]; exact ho)
      (by rw [isFollower_counted]; exact hf))
    rw [counted_gyl] at hg
    exact ⟨hg, hk⟩
  · obtain ⟨st, hst⟩ := ownRealign_refused (s := counted (s.at t) h) hv0 (by
      rw [counted_boot, isFollower_counted]
      exact hr)
    exact ⟨_, rfl, writeRow_refused (own := ownRealign) ht hst⟩

theorem snapnow_spec (ht : writeTaken (s.at t) h Ob.GYL_SNAPNOW v.toNat = true) (hv : v ≠ 0) :
    (isMaster s = true → bit s.pwr.stopped 1 = false → 1 < oget s Ob.GYL_LEAD →
      ∃ s', exec (.gylSnapnow t h v) s = .next s' ∧ s.sameBut [.obj, .gyl, .mgt, .pins] s' ∧
      s'.gyl = { s.gyl with
        snap := some (s.scan.epoch + oget s Ob.GYL_LEAD)
        tx := gylOut s (masterAt (s.at t)) 10 255 (toBE 6 (s.scan.epoch + oget s Ob.GYL_LEAD)) :: s.gyl.tx }) ∧
    (isMaster s = false ∨ bit s.pwr.stopped 1 = true → ∃ s', exec (.gylSnapnow t h v) s = .next s' ∧ s'.gyl = s.gyl ∧
      s.sameBut [.obj, .mgt, .pins] s') := by
  have hv0 := write_ne_zero hv
  refine ⟨fun hm hp hl => ⟨_, rfl, ?_⟩, fun hr => ⟨_, rfl, ?_⟩⟩
  · have hlead := oget_counted_at (k := Ob.GYL_LEAD) h t s (by decide) (by decide)
    have hown := ownSnapNow_master (s := counted (s.at t) h) hv0 (by rw [isMaster_counted]; exact hm)
      (by rw [counted_pwr]; exact hp)
    rw [sendSnap_early (by rw [hlead]; exact hl)] at hown
    obtain ⟨hg, hk⟩ := writeRow_gyl (own := ownSnapNow) ht hown
    rw [hlead, counted_scan, counted_gyl, nodeAddr_counted, masterAt_counted] at hg
    exact ⟨hk, hg⟩
  · exact writeRow_refused (own := ownSnapNow) ht (ownSnapNow_refused hv0 (by rw [isMaster_counted, counted_pwr]; exact hr))

theorem wakenow_spec (ht : writeTaken (s.at t) h Ob.GYL_WAKENOW v.toNat = true) (hv : v ≠ 0) :
    (isMaster s = true → ∃ s', exec (.gylWakenow t h v) s = .next s' ∧
      oget s' Ob.GYL_WAKESENT = satInc 0xFFFFFFFF (oget s Ob.GYL_WAKESENT) ∧ s'.gyl.wakeRep = true ∧
      s'.gyl.wakeFrom = max s.now t ∧ s'.gyl.wakeWait = presentMask s ∧ s.sameBut [.obj, .gyl, .mgt, .pins] s') ∧
    (isMaster s = false → ∃ s', exec (.gylWakenow t h v) s = .next s' ∧ s'.gyl = s.gyl ∧
      s.sameBut [.obj, .mgt, .pins] s') := by
  have hv0 := write_ne_zero hv
  refine ⟨fun hm => ⟨_, rfl, ?_⟩, fun hm => ⟨_, rfl, ?_⟩⟩
  · have hown := ownWakeNow_master (s := counted (s.at t) h) hv0 (by rw [isMaster_counted]; exact hm)
    obtain ⟨hcnt, hrep, hfrom, hwait⟩ := startPhrase_spec (s := counted (s.at t) h)
    have hkept := kept_startPhrase (m := [.obj, .gyl, .mgt, .pins]) (sub_of rfl)
      (kept_counted h (sub_of rfl) (Kept.at_ [.obj, .gyl, .mgt, .pins] t s))
    generalize startPhrase (counted (s.at t) h) = a at hown hcnt hrep hfrom hwait hkept
    have hk : Kept [.obj, .gyl, .mgt, .pins] s (writeRow h Ob.GYL_WAKENOW v.toNat ownWakeNow (s.at t)) :=
      kept_writeRow_of_taken ht (sub_of rfl) (by rw [hown]; exact hkept)
    have hg : (writeRow h Ob.GYL_WAKENOW v.toNat ownWakeNow (s.at t)).gyl = a.gyl := by
      rw [writeRow_of_taken ht, answerTaken_gyl, hown]
    refine ⟨?_, ?_, ?_, ?_, hk.rest⟩
    · rw [oget_writeRow ht (by decide), hown, hcnt, oget_counted_at h t s (by decide) (by decide)]
    · exact (congrArg Gyl.wakeRep hg).trans hrep
    · exact (congrArg Gyl.wakeFrom hg).trans (hfrom.trans (counted_now h _))
    · exact (congrArg Gyl.wakeWait hg).trans (hwait.trans (presentMask_counted h))
  · exact writeRow_refused (own := ownWakeNow) ht (ownWakeNow_refused hv0 (by rw [isMaster_counted]; exact hm))

end

/-! ## SNAP and the timers -/

section
variable {t : Nat} {s : State}

theorem exec_snap {f : GylIn} (hfol : isFollower s = true) (hf : gylFor s 10 6 f) :
    exec (.snap t f) s = .next (armSnap (payAt f.data 0 6) (s.at t)) :=
  (congrArg Host.Outcome.next (gylTake_follower (s := s.at t) hfol hf)).trans (congrArg Host.Outcome.next (if_pos hfol))

theorem snapPeriod_due (hm : isMaster s = true) (hp : bit s.pwr.stopped 1 = false) (hl : 1 < oget s Ob.GYL_LEAD)
    (hper : oget s Ob.GYL_SNAPPER ≠ 0) (hdue : s.gyl.snapFrom + oget s Ob.GYL_SNAPPER ≤ s.scan.epoch) :
    ∃ s', exec (.snapPeriodTimer t) s = .next s' ∧ s.sameBut [.gyl] s' ∧ s'.gyl = { s.gyl with
      snapFrom := s.scan.epoch, snap := some (s.scan.epoch + oget s Ob.GYL_LEAD)
      tx := gylOut s (masterAt (s.at t)) 10 255 (toBE 6 (s.scan.epoch + oget s Ob.GYL_LEAD)) :: s.gyl.tx } := by
  have hsend := sendSnap_early (s := { s.at t with gyl := { s.gyl with snapFrom := s.scan.epoch } }) hl
  refine ⟨_, (congrArg Host.Outcome.next (if_pos ⟨hm, by rw [show bit (s.at t).pwr.stopped 1 = false from hp]; rfl, hper, hdue⟩)).trans
    (congrArg Host.Outcome.next hsend), (kept_set_gyl (fun _ => id) (Kept.at_ _ t s)).rest, rfl⟩

theorem snapPeriod_early (h : isMaster s = false ∨ bit s.pwr.stopped 1 = true ∨ oget s Ob.GYL_SNAPPER = 0 ∨
    s.scan.epoch < s.gyl.snapFrom + oget s Ob.GYL_SNAPPER) : exec (.snapPeriodTimer t) s = .next (s.at t) := by
  refine congrArg Host.Outcome.next (if_neg ?_)
  rintro ⟨hm, hp, hper, hdue⟩
  change isMaster s = true at hm
  change (!bit s.pwr.stopped 1) = true at hp
  change s.gyl.snapFrom + oget s Ob.GYL_SNAPPER ≤ s.scan.epoch at hdue
  rcases h with h | h | h | h
  · exact absurd (hm.symm.trans h) (by decide)
  · rw [h] at hp
    exact absurd hp (by decide)
  · exact hper h
  · omega

theorem wakeRepeat_spec (hm : isMaster s = true) (hw : s.gyl.wakeRep = true) :
    (s.gyl.wakeWait = 0 ∨ s.gyl.wakeFrom + 1000000 * oget s Ob.GYL_WAKEREP ≤ max s.now t →
      exec (.wakeRepeatTimer t) s = .next { s.at t with gyl := { s.gyl with wakeRep := false } }) ∧
    (s.gyl.wakeWait ≠ 0 → max s.now t < s.gyl.wakeFrom + 1000000 * oget s Ob.GYL_WAKEREP →
      ∃ s', exec (.wakeRepeatTimer t) s = .next s' ∧ s'.gyl.wakeRep = true ∧ s'.gyl.tx.drop 1 = s.gyl.tx ∧
      oget s' Ob.GYL_WAKESENT = satInc 0xFFFFFFFF (oget s Ob.GYL_WAKESENT) ∧ s.sameBut [.obj, .gyl] s') := by
  have hgo : ¬ ((!(s.at t).gyl.wakeRep) = true ∨ (!isMaster (s.at t)) = true) := by
    rw [show (s.at t).gyl.wakeRep = true from hw, show isMaster (s.at t) = true from hm]
    decide
  refine ⟨fun h => congrArg Host.Outcome.next ((if_neg hgo).trans (if_pos h)), fun hwait hlt => ?_⟩
  have hno : ¬ (s.gyl.wakeWait = 0 ∨ s.gyl.wakeFrom + 1000000 * oget s Ob.GYL_WAKEREP ≤ max s.now t) := by omega
  obtain ⟨hcnt, hg⟩ := sendPhrase_spec (s := s.at t)
  exact ⟨_, congrArg Host.Outcome.next ((if_neg hgo).trans (if_neg hno)), (congrArg Gyl.wakeRep hg).trans hw,
    congrArg (fun g : Gyl => g.tx.drop 1) hg, hcnt, (kept_sendPhrase (fun _ => id) (Kept.at_ _ t s)).rest⟩

/-! ## The wake phrase of the wall -/

/-- The state that has heard the phrase. -/
def phraseHeard (s : State) : State := evc 0xDF (cnt Ob.GYL_WAKEHEARD s)

/-- The phrase acts as a source. -/
def phraseActs (s : State) : State := { phraseHeard s with pwr := { (phraseHeard s).pwr with gylWake := true } }

theorem oget_phraseActs {k : Nat} (hc : notCounter k = true) (hk : k ≠ Ob.GYL_WAKEHEARD) : oget (phraseActs s) k = oget s k :=
  (oget_evc _ _ _ hc).trans (oget_cnt_ne _ hk)

theorem phraseActs_rest : (phraseActs s).boot = s.boot ∧ (phraseActs s).mem = s.mem ∧ (phraseActs s).pins = s.pins ∧
    (phraseActs s).pwr = { s.pwr with gylWake := true } := by
  unfold phraseActs phraseHeard
  rw [evc_boot, evc_mem, evc_pins, evc_pwr]
  exact ⟨rfl, rfl, rfl, rfl⟩

theorem wakeStanding_phrase (hn : wakeNActs s = false) (n : Nat) : wakeStanding (phraseActs s) n = some 2 := by
  obtain ⟨-, -, hpins, hpwr⟩ := phraseActs_rest (s := s)
  have hw : wakeNActs (phraseActs s) = wakeNActs s := by
    unfold wakeNActs
    rw [hpins, hpwr, oget_phraseActs (by decide) (by decide), oget_phraseActs (by decide) (by decide)]
  unfold wakeStanding
  rw [hw, hn, if_neg (by decide), hpwr]
  exact if_pos rfl

section
variable {phrase : BitVec 32} {firstBitAt : Nat}

theorem exec_wakePhrase_own (hst : s.boot.stage = .started) (ha : s.gyl.armed = true) (hat : s.gyl.armedAt ≤ firstBitAt)
    (hp : phrase.toNat / 2 ^ 16 = 0x55E6) (hid : field phrase.toNat 8 8 = oget s Ob.GYL_WALLID)
    (hinv : field phrase.toNat 0 8 + oget s Ob.GYL_WALLID = 255) : exec (.wakePhrase t phrase firstBitAt) s =
      .next (if bit (oget s Ob.PWR_WAKEEN) 1 then sampleWakes (phraseActs (s.at t)) else phraseHeard (s.at t)) := by
  have hown : (if (s.at t).boot.stage = .started then oget (s.at t) Ob.GYL_WALLID else (s.at t).pwr.aonWall) =
      oget s Ob.GYL_WALLID := if_pos hst
  refine congrArg Host.Outcome.next (if_pos ⟨ha, hat, hp, ?_, ?_⟩)
  · rw [hown]
    exact hid
  · rw [hown]
    exact hinv

theorem wakePhrase_spec (hst : s.boot.stage = .started) (ha : s.gyl.armed = true) (hat : s.gyl.armedAt ≤ firstBitAt)
    (hp : phrase.toNat / 2 ^ 16 = 0x55E6) (hid : field phrase.toNat 8 8 = oget s Ob.GYL_WALLID)
    (hinv : field phrase.toNat 0 8 + oget s Ob.GYL_WALLID = 255) :
    (bit (oget s Ob.PWR_WAKEEN) 1 = false → ∃ s', exec (.wakePhrase t phrase firstBitAt) s = .next s' ∧
      oget s' Ob.GYL_WAKEHEARD = satInc 0xFFFFFFFF (oget s Ob.GYL_WAKEHEARD) ∧ s.sameBut [.obj] s') ∧
    (bit (oget s Ob.PWR_WAKEEN) 1 = true → wakeNActs s = false → s.pwr.entry = .done → s.pwr.state = .p1 →
      ∃ s', exec (.wakePhrase t phrase firstBitAt) s = .next s' ∧ s'.pwr.state = .p0 ∧
      oget s' Ob.PWR_LASTWAKE = 18 ∧ s'.mem = s.mem ∧ s'.boot = s.boot) := by
  have hx := exec_wakePhrase_own (t := t) hst ha hat hp hid hinv
  refine ⟨fun hen => ?_, fun hen hn he hstate => ?_⟩
  · rw [if_neg (by rw [hen]; decide)] at hx
    refine ⟨_, hx, ?_, (kept_evc _ (fun _ => id) (kept_cnt _ (fun _ => id) (Kept.at_ _ t s))).rest⟩
    exact (oget_evc _ _ _ (by decide)).trans (oget_cnt_same _ _)
  · obtain ⟨hboot, hmem, -, hpwr⟩ := phraseActs_rest (s := s.at t)
    have hstand := wakeStanding_phrase (s := s.at t) hn (phraseActs (s.at t)).pwr.target
    generalize phraseActs (s.at t) = a at hx hboot hmem hpwr hstand
    have hentry : a.pwr.entry = .done := (congrArg Pwr.entry hpwr).trans he
    have hp1 : a.pwr.state = .p1 := (congrArg Pwr.state hpwr).trans hstate
    rw [if_pos hen, sampleWakes_started (by rw [hboot]; exact hst) hstand,
      wakeActs_p1 (by rw [hentry]; decide) (by rw [hentry]; decide) hp1] at hx
    refine ⟨_, hx, ?_, ?_, ?_, ?_⟩
    · rw [evc_pwr]
      rfl
    · rw [oget_evc _ _ _ (by decide), oget_cnt_ne _ (by decide)]
      exact oget_oset_same _ _ _
    · rw [evc_mem]
      exact hmem
    · rw [evc_boot]
      exact hboot

theorem wakePhrase_unarmed (h : s.gyl.armed = false ∨ firstBitAt < s.gyl.armedAt) :
    exec (.wakePhrase t phrase firstBitAt) s = .next (s.at t) := by
  refine congrArg Host.Outcome.next (if_neg ?_)
  rintro ⟨ha, hat, -⟩
  change s.gyl.armed = true at ha
  change s.gyl.armedAt ≤ firstBitAt at hat
  rcases h with h | h
  · exact absurd (ha.symm.trans h) (by decide)
  · omega

end

/-! ## The wake slot and the first supply -/

theorem wakeSlot_spec (hst : s.boot.stage = .wakeSlot) :
    (s.boot.stageAt + oget s Ob.RST_STRAP_SITE * s.pwr.aonSlot * 1000000 ≤ max s.now t →
      exec (.wakeSlotExpiry t) s = .next { s.at t with boot := { s.boot with stage := .waitVioAb, stageAt := max s.now t } }) ∧
    (max s.now t < s.boot.stageAt + oget s Ob.RST_STRAP_SITE * s.pwr.aonSlot * 1000000 →
      exec (.wakeSlotExpiry t) s = .next (s.at t)) :=
  ⟨fun h => congrArg Host.Outcome.next (if_pos ⟨hst, h⟩),
    fun h => congrArg Host.Outcome.next (if_neg fun hc => absurd hc.2 (Nat.not_le.mpr h))⟩

/-- The state with the first supply present. -/
def vioAbSeen (s : State) : State := { s with pins := { s.pins with vioAb := true } }


theorem vioAb_waited (hst : s.boot.stage = .waitVioAb) : ∃ s', exec (.vioAbPresent t) s = .next s' ∧
    s'.boot.stage = .waitPgood ∧ s'.pins.pen0 = true ∧ s'.pins.pen1 = false ∧ s'.pins.pen2 = false ∧ s'.pins.vioAb = true ∧
    s'.pwr.state = .p0 ∧ s.sameBut [.boot, .pins, .pwr] s' := by
  have hx : exec (.vioAbPresent t) s =
      .next (enableSupplies { vioAbSeen (s.at t) with pwr := { (vioAbSeen (s.at t)).pwr with state := .p0 } }) :=
    congrArg Host.Outcome.next (if_pos hst)
  refine ⟨_, hx, rfl, rfl, rfl, rfl, rfl, rfl, (exec_frame_sub hx (sub_of rfl))⟩

end

/-- Settles O42: each command by its own rule on the state at its time. -/
theorem wallsSnapAndWake : Obligations.WallsSnapAndWake := by
  intro t s
  refine ⟨fun f hfol hf => ⟨fun hlt => ?armed, fun hle => ?late⟩, fun h v ht hv => realign_spec ht hv,
    fun h v ht hv => snapnow_spec ht hv, snapPeriod_due, snapPeriod_early, fun h v ht hv => wakenow_spec ht hv, wakeRepeat_spec,
    fun phrase first hst ha hat hp hid hinv => wakePhrase_spec hst ha hat hp hid hinv, fun phrase first => wakePhrase_unarmed,
    wakeSlot_spec, vioAb_waited, fun hst => congrArg Host.Outcome.next (if_neg hst)⟩
  case armed => exact (exec_snap hfol hf).trans (congrArg Host.Outcome.next (armSnap_early (s := s.at t) hlt))
  case late =>
    exact ⟨_, (exec_snap hfol hf).trans (congrArg Host.Outcome.next (armSnap_late (s := s.at t) hle)), oget_cnt_same _ _,
      (kept_cnt _ (fun _ => id) (Kept.at_ _ t s)).rest⟩

end Sys2Proof.Machine

end

section
/-! PROOF. A rewrite of a map word that a line between its two fetches feeds (R180): O22 fails. -/

namespace Sys2Proof.Machine
open Sys2Proof

/-- Row 0 of a band, prepared for frame 0 with no half completed. -/
def firstRowPrepared : Prep where
  row := 0
  epoch := 0
  fetched := 0
  y8 := []
  ovls := []
  sides := []
  hatch := []
  tags := []
  left := false
  right := false

/-- The controller runs, and row 0 of band 0 is prepared and not yet sent. -/
def lineOpen : State :=
  { State.reset with
    boot := { State.reset.boot with stage := .started }
    scan := { State.reset.scan with bands := [(0, { BandScan.initial with preps := [firstRowPrepared] })] } }

/-- The first word of the age plane, which feeds the lines of row 0. -/
def firstAgeWord : Nat := 0x9800000

/-- The number of writes that are held where a command completes. -/
def heldCount (o : Host.Outcome State Fault Refusal) : Nat :=
  match o with
  | .next s => s.fst.held.length
  | _ => 0

theorem heldCount_mapWordRewrite : heldCount (exec (.mapWordRewrite 0 firstAgeWord 0) lineOpen) = 1 := by
  decide +kernel

/-- Refutes O22. In the statement's case of a word that is written whole, the equality with `false` binds only the held
writes, so the case takes in a word that a line between its two fetches feeds. The model holds the write of such a word, as
R180 says, and the part of the frame store that lists the held writes is not what it was. -/
theorem not_frameStoreIsMaintained : ¬ Obligations.FrameStoreIsMaintained := by
  unfold Obligations.FrameStoreIsMaintained
  intro hall
  obtain ⟨-, -, -, -, -, -, -, hmap⟩ := hall 0 lineOpen
  have hword := hmap firstAgeWord (by decide) 0 rfl (by decide)
  obtain ⟨s', hx, -, -, hsame⟩ := hword.1 (by decide +kernel)
  have hfst : s'.fst = lineOpen.fst := hsame.fst (by decide)
  have hrun := heldCount_mapWordRewrite
  rw [hx] at hrun
  have hone : s'.fst.held.length = 1 := hrun
  rw [hfst] at hone
  exact absurd hone (by decide)

end Sys2Proof.Machine
end
